-- ==== Sys2Proof/Word.lean ====
section
/-! DEFINITION. The word types of the VX9256 model and nothing else: what can be mended lives in Machine/Bits.lean. -/

namespace Sys2Proof

/-- One byte (R7: multi-byte fields are little-endian lists of these). -/
abbrev Byte := BitVec 8

/-- One 32-bit register or microword register (R7, R222). -/
abbrev Word32 := BitVec 32

/-- One 64-bit word of the capture bundle (R40, R44). -/
abbrev Word64 := BitVec 64

/-- The 4,096 plaintext bytes of a unit; byte `k` sits at bits `8k+7 .. 8k` (R6, R44). -/
abbrev UnitData := BitVec 32768

/-- A 16-bit unit ID (R13). -/
abbrev UnitId := BitVec 16

end Sys2Proof
end

