-- ==== Sys2Proof/Syntax.lean ====
section
/-! DEFINITION. The commands the VX9256 takes: the operand types, then `Instr`, one constructor for each row of
the operation table. What an operand carries is what the world outside the device settles (a level on a pin, a
host's submission entry, what a decoder found); everything else a command needs it reads from the state. -/

namespace Sys2Proof

/-- The two paths to a mailbox (R119, R123). -/
inductive Path where
  | pcie | i3c
deriving DecidableEq, Repr

/-- The two ports that read registers, each with its own holding registers (R414, R416). -/
inductive ReadPort where
  | pcie | debug
deriving DecidableEq, Repr

/-- The PCIe memory spaces a register write can name (R12, R91). -/
inductive Space where
  | nvme | drs | msix | config
deriving DecidableEq, Repr

/-- An ordering source (R144): a submission queue, a capture stream, a SECURE_DISCARD command, or the device
itself (a fold, a namespace record). -/
inductive Source where
  | queue (q : Nat)
  | stream (sid : Nat)
  | discard (handle : BitVec 32)
  | device
deriving DecidableEq, Repr

/-- A signed image: its bytes, with the header and signatures of R396. -/
structure FwImage where
  bytes : List Byte
deriving DecidableEq, Repr

/-- What manufacture puts into Nutmeg (R297, R314): the boot stage, the image of slot A, the OTP row. -/
structure Factory where
  boot : Option FwImage
  slotA : Option FwImage
  uid : BitVec 128
  /-- root key seed, and the hashes of the two Nebocy keys: hash 0 all zeros in a part not provisioned (R314, R403) -/
  seed : BitVec 256
  hash0 : BitVec 384
  hash1 : BitVec 384
  /-- I3C provisional ID of the configuration store (R127) -/
  i3cPid : BitVec 48
deriving DecidableEq, Repr

/-- The most bits read as 0 on a page of word lines 0 and 511 of a superblock's member block (R198). -/
structure BlankFound where
  superblock : Nat
  channel : Fin 32
  zeros : Nat
deriving DecidableEq, Repr

/-- Which taps of a byte lane's read and write delay sweeps pass, tap 0 in bit 0 (R269, R273). -/
structure LaneSweep where
  read : BitVec 128
  write : BitVec 128
deriving DecidableEq, Repr

/-- What a start finds around and inside the part (R2, R30, R211, R260, R348): facts of the module, of the
environment and of the training sweeps, kept by the model so that a later restart meets the same module. -/
structure Board where
  /-- TEST_MODE held high (R345) -/
  testMode : Bool
  /-- G: positions 0 to G − 1 are qualified on all 32 channels (R30) -/
  groups : Nat
  /-- four-plane positions P of a die, of which 4,095 are used at most (R169, R170) -/
  positions : Nat
  /-- factory-bad positions: flash-die index and position (R170) -/
  factoryBad : List (Nat × Nat)
  /-- flash-die indices present at a position not populated on every channel (R30) -/
  partialDies : List Nat
  /-- fitted DRAM in GiB (R260) -/
  dramGib : Nat
  /-- four identical supported packages (R260) -/
  dramMatched : Bool
  /-- sweeps of the 32 byte lanes at 9,600 MT/s (R269) -/
  sweeps9600 : List LaneSweep
  /-- the same at 8,533 MT/s (R271) -/
  sweeps8533 : List LaneSweep
  /-- Mace dies whose UCIe link fails to train twice (R348) -/
  ucieFail : List (Fin 4)
  /-- channels that fail interface training twice (R208) -/
  channelFail : List (Fin 32)
  /-- an OTP field is uncorrectable (R315) -/
  otpBad : Bool
  /-- Sumac's entropy source passes its health tests (R391) -/
  entropyOk : Bool
  /-- PLLs that fail to lock twice (R322) -/
  pllFail : List (Fin 8)
  /-- ledger copies that can be read (R188) -/
  ledgerReadable : List (Fin 3)
  /-- system blocks 0 and 1 of every position-0 die read erased (R352) -/
  newModule : Bool
  /-- what blank checks at this start find (R198) -/
  halfErased : List BlankFound
  /-- what manufacture put into the part, taken at its first start (R2, R314) -/
  factory : Factory
deriving DecidableEq, Repr

/-- A 256-byte UCIe flit (R20). -/
structure Flit where
  number : Nat
  payload : BitVec 2048
deriving DecidableEq, Repr

/-- One lane codeword as received (R39, R40): its 544 symbols of 10 bits, in the order sent. -/
structure Codeword where
  symbols : List (BitVec 10)
  parityStage : Nat
  parityLane : Nat
deriving DecidableEq, Repr

/-- One range of a Dataset Management command (R113). -/
structure DsmRange where
  slba : Nat
  nlb : Nat
deriving DecidableEq, Repr

/-- A 64-byte submission queue entry as the host placed it (R94, R105, R106), with the SGL descriptor types its
data pointer reaches (R95) and, for a Dataset Management command, the ranges it reaches (R113). `psdt` 0 is PRP. -/
structure Sqe where
  opcode : BitVec 8
  fuse : BitVec 2
  reserved0 : BitVec 4
  psdt : BitVec 2
  cid : BitVec 16
  nsid : Word32
  dw2 : Word32
  dw3 : Word32
  mptr : BitVec 64
  dptr : BitVec 128
  cdw10 : Word32
  cdw11 : Word32
  cdw12 : Word32
  cdw13 : Word32
  cdw14 : Word32
  cdw15 : Word32
  sgl : List (BitVec 4)
  ranges : List DsmRange
deriving DecidableEq, Repr

/-- One logical block fetched from host memory: 4,096 data bytes and, with PRACT = 0 in format 1, its 8 bytes of
protection information, guard in bits [15:0], application tag [31:16], reference tag [63:32] (R99, R100).
`parityFails` counts the byte parity failures met at
`parityStage`, W4 to W7: 0, 1 or 2 (R253). -/
structure HostUnit where
  data : UnitData
  pi : BitVec 64
  parityFails : Nat
  parityStage : Nat
deriving DecidableEq, Repr

/-- A byte parity failure as a part is placed (R28, R253): the unit of the write, the stage entered, 8 to 10, the byte
lane, and how many reads from the buffer failed in a row. -/
structure PlaceParity where
  unit : Nat
  stage : Nat
  lane : Nat
  fails : Nat
deriving DecidableEq, Repr

/-- Which part of a key procedure ends: the keys' replacement, which is the cancel point, or the writing of the store
(R394, R395). -/
inductive KeyStep where
  | replaced | stored
deriving DecidableEq, Repr

/-- The data of a Namespace Management create (R98). -/
structure NsCreate where
  nsze : Nat
  ncap : Nat
  lbaFormat : Nat
  piType : Nat
deriving DecidableEq, Repr

/-- What wakes the device (R327). -/
inductive WakeSource where
  | nvmeDoorbell | drsWrite | i3c | perst | pld
deriving DecidableEq, Repr

/-- The scheduled hold-up tests (R339). -/
inductive HoldupDue where
  | startUp | periodic | postDegraded
deriving DecidableEq, Repr

/-- Classes of channel jobs, highest first (R212). -/
inductive JobClass where
  | hostRead | program | gc | scrub
deriving DecidableEq, Repr

/-- Kinds of channel jobs (R212, R213). -/
inductive JobKind where
  | read | program | erase
deriving DecidableEq, Repr

/-- A job from Saffron for one die (R212): its descriptor of eight words (R223, LDD), routine vector, superblock
and word line, and whether the power-loss flush needs it (R225). -/
structure Job where
  id : Word32
  cls : JobClass
  kind : JobKind
  vector : Nat
  superblock : Nat
  row : Nat
  flushNeeds : Bool
  descriptor : List Word32
  /-- what the hub places in the channel write FIFO for it (R223) -/
  payload : List Byte
deriving DecidableEq, Repr

/-- Why a parked operation resumes (R215). -/
inductive ResumeCause where
  | queueEmpty | eightReads | parked150us | halt
deriving DecidableEq, Repr

/-- Why a routine is abandoned before COMMIT (R225). -/
inductive AbandonCause where
  | read | patchLoad | halt
deriving DecidableEq, Repr

/-- A control-store patch image: its bytes (R228). -/
structure PatchImage where
  bytes : List Byte
deriving DecidableEq, Repr

/-- What an LDPC decode found (R236, R242): decoded or not, corrections by direction, an erased codeword (R234),
and whether F6 and F9 pass on what it produced (R251, R252). -/
structure Decode where
  ok : Bool
  oneToZero : Nat
  zeroToOne : Nat
  erased : Bool
  f6Ok : Bool
  f9Ok : Bool
  /-- read stage 2 to 9 at whose entry byte parity fails, 0 for none (R253) -/
  parityStage : Nat
deriving DecidableEq, Repr

/-- How a stripe rebuild ends (R245, R246). -/
inductive Rebuild where
  | success | secondMember | blankParity | f6Failed | f9Failed
deriving DecidableEq, Repr

/-- Requesters of a DRAM burst: those of the rows of R274 in order, then the other requesters of R266. -/
inductive DramRequester where
  | bufferRead (seq unit : Nat)
  | bufferHit (sq : Nat) (cid : BitVec 16) (unit : Nat)
  | mapEngine (segment : Nat)
  | staging
  | cloveFetch (core : Fin 4)
  | cloveData (core : Fin 4)
  | partialWrite
  | captureWriter
  | nvmeWriter
  | mapWriter
  | indexStaging
  | stagingWriter
  | mapRebuild
deriving DecidableEq, Repr

/-- What the code and the address tag of a burst show (R261, R275). -/
inductive BurstCheck where
  | clean
  | corrected (symbol : Fin 64)
  | uncorrectable
  | tagMismatch (retryOk : Bool)
deriving DecidableEq, Repr

/-- One DRAM request, with the burst of the row it asks for (R261, R265, R266). -/
structure DramRequest where
  rank : Fin 2
  bank : Fin 16
  row : Nat
  burst : Nat
  requester : DramRequester
deriving DecidableEq, Repr

/-- One command slot of a channel: the time since the last one, the requests that have come since, the bytes in the
capture writer's FIFO, and what the checks of the burst show if a request issues (R261, R262, R265, R266). -/
structure DramAccess where
  ch : Fin 16
  ns : Nat
  arrivals : List DramRequest
  fifo : Nat
  check : BurstCheck
deriving DecidableEq, Repr

/-- The commands of the VX9256: in the order of the operation table those with operands, then those without. -/
inductive Instr where
  /-- POWER_UP (R343). Release of RESET_N with all supplies in tolerance runs the start-up sequence of R347 from
  step 1. -/
  | powerUp (board : Board)
  /-- RESET_N_ASSERT (R437). RESET_N held low for 1 µs with supplies present runs the power-loss sequence and then a
  full start. -/
  | resetNAssert (ns : Nat)
  /-- PLD_N_ASSERT (R340). PLD_N low for 200 ns starts the hardware power-loss sequence. -/
  | pldNAssert (ns : Nat)
  /-- POWER_LOSS_FLUSH_END (R340). The power-loss flush ends, when the buffer is empty or the supplies fail, and the
  last words are written. -/
  | powerLossFlushEnd (suppliesFailed : Bool) (extra : Nat)
  /-- CLOVE_FAULT (R165). A Clove fault starts a warm recovery. -/
  | cloveFault (core : Fin 4)
  /-- RECOVERY_DONE (R165). The warm recovery ends and RECOVERY_DONE is logged, with FW_ACTIVATED after an
  activation. -/
  | recoveryDone (ms : Nat)
  /-- UCIE_FLIT_RECEIVE (R20). A flit is received and acknowledged, or it is dropped on a CRC failure and replayed
  by the sender. -/
  | ucieFlitReceive (port : Fin 4) (toMace : Bool) (flit : Flit) (crcOk parityOk : Bool)
  /-- UCIE_REPLAY_TIMEOUT (R22). Replays that fail for 1 ms make the port retrain the link. -/
  | ucieReplayTimeout (port : Fin 4)
  /-- UCIE_RETRAIN_DONE (R22). A retrain ends, either as a transient fault of the Mace die or, on failure, as a
  lasting fault that fences it. -/
  | ucieRetrainDone (port : Fin 4) (ok : Bool)
  /-- CAPTURE_LINK_UP (R47). Starts a full-path bring-up of the bundle from DOWN and returns a handle. -/
  | captureLinkUp (m : Fin 16)
  /-- CAPTURE_LINK_DOWN (R47). Takes the bundle to DOWN, sending the link-going-down flag and, with force, closing
  open frames as short frames. -/
  | captureLinkDown (m : Fin 16)
  /-- CAPTURE_LINK_STATUS (R137). Returns the bundle state, lock bitmap, epoch, credits and error counts. -/
  | captureLinkStatus (m : Fin 16)
  /-- LANE_SIGNAL_DETECT (R46). Signal on all eight lanes in AWAIT moves the bundle to ACQUIRE. -/
  | laneSignalDetect (balls : BitVec 8)
  /-- ACQUISITION_DONE (R46). All lanes acquire and the bundle moves to TRACK. -/
  | acquisitionDone (inverted : BitVec 8)
  /-- FIRST_ALIGNMENT_CODEWORD (R46). The first codewords are checked in CWLOCK, leading to TUNE, DESKEW or AWAIT. -/
  | firstAlignmentCodeword (cws : List (List (BitVec 10)))
  /-- TRAIN_SEND (R55). In TUNE, a TRAIN command is sent to a lane, closing with a value-4 command. -/
  | trainSend (ball : Fin 8) (command : Fin 4) (taps fom : BitVec 8)
  /-- DESKEW_DONE (R46). The lanes are aligned and the bundle enters UP, or AWAIT on excess skew; a live
  CAPTURE_LINK_UP completes OK. -/
  | deskewDone (skewNs : Nat)
  /-- LANE_SIGNAL_LOSS (R49). Loss of signal on a lane is loss of lock. -/
  | laneSignalLoss (ball : Fin 8)
  /-- CODEWORD_RECEIVE (R39). A lane codeword is decoded and its tag, alignment marker and LCWs are checked; its
  data words enter the bundle stream. -/
  | codewordReceive (ball : Fin 8) (cw : Codeword)
  /-- COMMIT_ACK (R78). A commit frame and all earlier frames of its stream become durable and the commit is
  acknowledged. -/
  | commitAck (sid : Fin 4096)
  /-- COMMIT_ECHO_REPEAT (R64). The repeat copy of a commit echo is sent 10 µs after the first. -/
  | commitEchoRepeat (sid : Fin 4096) (frame : BitVec 40)
  /-- STREAM_OPEN (R67). Checks and binds a stream's parameters, making it ARMED or OPEN. -/
  | streamOpen (m : Fin 16)
  /-- STREAM_CLOSE (R68). Moves an OPEN or FULL stream outside any take to DRAINING and returns a handle. -/
  | streamClose (m : Fin 16)
  /-- STREAM_STATUS (R137). Returns the state, counters, window room and erased pool of a stream. -/
  | streamStatus (m : Fin 16)
  /-- STREAM_EXTEND_WINDOW (R72). Queues a further data or index window and returns a FULL stream to OPEN. -/
  | streamExtendWindow (m : Fin 16)
  /-- BUFFER_PARTITION (R83). Sets or reports the capture and NVMe floors of the write buffer. -/
  | bufferPartition (m : Fin 16)
  /-- TAKE_OPEN (R69). Creates a take in FORMING with a member count. -/
  | takeOpen (m : Fin 16)
  /-- TAKE_CLOSE (R69). Moves all members of a take to DRAINING or CLOSED and returns a handle. -/
  | takeClose (m : Fin 16)
  /-- FRAME_INDEX_READ (R137). Returns up to 7 index entries from the device's copy. -/
  | frameIndexRead (m : Fin 16)
  /-- STREAM_DRAIN_DONE (R68). A DRAINING stream's frames are all durable and indexed, so it becomes CLOSED and its
  close handle completes. -/
  | streamDrainDone (sid : Fin 4096)
  /-- HELD_UNIT_TIMEOUT (R71). Held units are released to W7 10 ms after the first arrived. -/
  | heldUnitTimeout (sid : Fin 4096)
  /-- INDEX_ENTRY_PLACE (R76). A frame's index entry is placed once all its units are durable. -/
  | indexEntryPlace (sid : Fin 4096)
  /-- INDEX_UNIT_TIMEOUT (R76). An index unit is written 10 ms after its oldest unwritten entry was placed. -/
  | indexUnitTimeout (sid : Fin 4096)
  /-- SQ_TAIL_DOORBELL (R91). A submission tail doorbell write lets the queue engine fetch commands from the queue. -/
  | sqTailDoorbell (qid : Nat) (tail : BitVec 16) (entries : List Sqe)
  /-- CQ_HEAD_DOORBELL (R91). A completion head doorbell write frees completion queue entries. -/
  | cqHeadDoorbell (qid : Nat) (head : BitVec 16)
  /-- INTERRUPT_COALESCING_TIMEOUT (R97). The aggregation time expires and the vector's MSI-X message is sent. -/
  | interruptCoalescingTimeout (vector : Fin 2048)
  /-- FLUSH (R109). NVMe Flush waits until earlier writes to the namespace are durable. -/
  | flush (sq : Nat) (cid : BitVec 16)
  /-- WRITE (R108). NVMe Write fetches data, checks protection information and proceeds to acceptance. -/
  | write (sq : Nat) (cid : BitVec 16) (data : List HostUnit)
  /-- READ (R112). NVMe Read resolves through the Overlap Directory or the map, waiting before map-ready. -/
  | read (sq : Nat) (cid : BitVec 16)
  /-- WRITE_ZEROES (R113). Stores zeros over up to 65,536 LBAs, atomic like a Write. -/
  | writeZeroes (sq : Nat) (cid : BitVec 16)
  /-- DATASET_MANAGEMENT (R113). Deallocates the whole segments of up to 256 ranges and completes at acceptance. -/
  | datasetManagement (sq : Nat) (cid : BitVec 16)
  /-- VERIFY (R102). Reads through F1 to F9 without transfer. -/
  | verify (sq : Nat) (cid : BitVec 16)
  /-- ORDERED_WRITE (R105). A Write with a queue-scope fence accepted immediately in front of it. -/
  | orderedWrite (sq : Nat) (cid : BitVec 16) (data : List HostUnit)
  /-- FENCE (R106). Vendor Fence with queue, namespace or device scope, accepted at W7. -/
  | fence (sq : Nat) (cid : BitVec 16)
  /-- FENCE_SATISFIED (R153). Every before-write of a fence is durable: it completes and its held writes become
  readable. -/
  | fenceSatisfied (seq : Nat)
  /-- WRITE_COMPLETION_POST (R108). A write completion is posted once the write is readable and the mode rule is met. -/
  | writeCompletionPost (sq : Nat) (cid : BitVec 16)
  /-- FLUSH_COMPLETE (R109). A Flush completes when its before-writes are durable. -/
  | flushComplete (sq : Nat) (cid : BitVec 16)
  /-- HOST_READ_COMPLETE (R24). Read data reaches F10 and the read completes, or fails under R256. -/
  | hostReadComplete (sq : Nat) (cid : BitVec 16) (parityStage parityFails : Nat)
  /-- IDENTIFY (R103). Returns Identify data for a supported CNS value. -/
  | identify (cid : BitVec 16)
  /-- CREATE_IO_SUBMISSION_QUEUE (R94). Creates a contiguous I/O submission queue. -/
  | createIoSubmissionQueue (cid : BitVec 16)
  /-- CREATE_IO_COMPLETION_QUEUE (R94). Creates a contiguous I/O completion queue. -/
  | createIoCompletionQueue (cid : BitVec 16)
  /-- DELETE_IO_SUBMISSION_QUEUE (R94). Deletes a submission queue, aborting fetched commands not past their point
  of no return. -/
  | deleteIoSubmissionQueue (cid : BitVec 16)
  /-- DELETE_IO_COMPLETION_QUEUE (R94). Deletes an I/O completion queue. -/
  | deleteIoCompletionQueue (cid : BitVec 16)
  /-- GET_LOG_PAGE (R103). Returns a supported log page. -/
  | getLogPage (cid : BitVec 16)
  /-- SET_ARBITRATION (R97). Sets the Arbitration feature. -/
  | setArbitration (cid : BitVec 16)
  /-- SET_POWER_MANAGEMENT (R328). Sets the NVMe power state and so the NVMe depth. -/
  | setPowerManagement (cid : BitVec 16)
  /-- SET_TEMPERATURE_THRESHOLD (R363). Sets an over- or under-temperature threshold. -/
  | setTemperatureThreshold (cid : BitVec 16)
  /-- SET_VOLATILE_WRITE_CACHE (R110). Stores the host WCE value. -/
  | setVolatileWriteCache (cid : BitVec 16)
  /-- SET_NUMBER_OF_QUEUES (R94). Grants up to 2,047 queues of each kind. -/
  | setNumberOfQueues (cid : BitVec 16)
  /-- SET_INTERRUPT_COALESCING (R97). Sets the aggregation threshold and time. -/
  | setInterruptCoalescing (cid : BitVec 16)
  /-- SET_AUTONOMOUS_POWER_STATE (R328). Sets the Autonomous Power State Transition table. -/
  | setAutonomousPowerState (cid : BitVec 16) (table : List (BitVec 64))
  /-- GET_FEATURES (R103). Returns a supported feature value. -/
  | getFeatures (cid : BitVec 16)
  /-- GET_VOLATILE_WRITE_CACHE (R110). Returns host WCE AND Unprotected mode. -/
  | getVolatileWriteCache (cid : BitVec 16)
  /-- ABORT (R111). Aborts a fetched command not past its point of no return. -/
  | abort (cid : BitVec 16)
  /-- ASYNCHRONOUS_EVENT_REQUEST (R103). Holds one of up to 4 outstanding event requests. -/
  | asynchronousEventRequest (cid : BitVec 16)
  /-- NAMESPACE_CREATE (R98). Creates a namespace and writes a NAMESPACE slot that sets its epoch. -/
  | namespaceCreate (cid : BitVec 16) (req : NsCreate)
  /-- NAMESPACE_DELETE (R98). Deletes a namespace unless a stream is bound to it. -/
  | namespaceDelete (cid : BitVec 16)
  /-- NAMESPACE_ATTACH (R98). Attaches a namespace to the controller. -/
  | namespaceAttach (cid : BitVec 16) (controllers : List (BitVec 16))
  /-- NAMESPACE_DETACH (R98). Detaches a namespace unless a stream is bound to it. -/
  | namespaceDetach (cid : BitVec 16) (controllers : List (BitVec 16))
  /-- FORMAT_NVM (R114). Changes the format of one or all namespaces with the requested secure erase setting. -/
  | formatNvm (cid : BitVec 16)
  /-- SANITIZE_BLOCK_ERASE (R114). Erases every superblock holding user data. -/
  | sanitizeBlockErase (cid : BitVec 16)
  /-- SANITIZE_CRYPTO_ERASE (R114). Replaces every media key and frees all user data. -/
  | sanitizeCryptoErase (cid : BitVec 16)
  /-- FIRMWARE_IMAGE_DOWNLOAD (R400). Transfers a 4 KiB-granular piece of a firmware image. -/
  | firmwareImageDownload (cid : BitVec 16)
  /-- FIRMWARE_COMMIT (R116). Commit actions 0 to 2 write or select a slot for the next reset. -/
  | firmwareCommit (cid : BitVec 16) (image : FwImage)
  /-- FIRMWARE_COMMIT_IMMEDIATE (R116). Commit action 3 activates a slot through a warm recovery. -/
  | firmwareCommitImmediate (cid : BitVec 16) (image : FwImage)
  /-- CC_ENABLE (R115). CC.EN set to 1 lets CSTS.RDY rise once the device is capture-ready. -/
  | ccEnable (value : BitVec 32)
  /-- CC_DISABLE (R116). CC.EN cleared deletes the queues and drops commands not yet accepted. -/
  | ccDisable (value : BitVec 32)
  /-- CC_SHUTDOWN (R116). CC.SHN stops fetching and makes every accepted write durable. -/
  | ccShutdown (value : BitVec 32)
  /-- PCIE_L1_ENTRY (R323). The link enters L1 or D3hot, which allows P1. -/
  | pcieL1Entry (d3hot : Bool)
  /-- MBX_CLAIM (R124). The CLAIM doorbell bit asks for ownership of a mailbox. -/
  | mbxClaim (path : Path) (m : Fin 16)
  /-- MBX_RING (R125). The RING doorbell bit submits a request, which is checked under R126 and answered within 10
  ms. -/
  | mbxRing (path : Path) (m : Fin 16) (irq : Bool)
  /-- MBX_RELEASE (R122). The RELEASE doorbell bit ends the owner's ownership. -/
  | mbxRelease (path : Path) (m : Fin 16)
  /-- MBX_OVERRUN_CLEAR (R123). A W1C write by the owner clears OVERRUN. -/
  | mbxOverrunClear (path : Path) (m : Fin 16)
  /-- MBX_STATUS_READ (R135). An aligned read of MBX_STATUS_n in DONE re-arms the interrupt. -/
  | mbxStatusRead (path : Path) (m : Fin 16) (width : Nat)
  /-- MBX_OWNERSHIP_TIMEOUT (R124). Ownership ends 1 s after DONE without a further RING. -/
  | mbxOwnershipTimeout (m : Fin 16)
  /-- I3C_PRIVATE_WRITE (R128). Writes whole words into the I3C window from a 16-bit offset. -/
  | i3cPrivateWrite (bytes : List (BitVec 8))
  /-- I3C_PRIVATE_READ (R128). Reads bytes from the offset of the last private write. -/
  | i3cPrivateRead (count : Nat)
  /-- ENTDAA (R127). Assigns a dynamic address. -/
  | entdaa (addr : BitVec 7)
  /-- SETDASA (R127). Assigns a dynamic address from static address 0x2C. -/
  | setdasa (static addr : BitVec 7)
  /-- SETMWL (R127). Sets the maximum write length. -/
  | setmwl (len : BitVec 16)
  /-- SETMRL (R127). Sets the maximum read length. -/
  | setmrl (len : BitVec 16)
  /-- RSTACT (R136). The I3C reset action ends I3C mailbox ownership and resets I3C_EN. -/
  | rstact (action : BitVec 8)
  /-- CRG_HEAD_PCIE_WRITE (R134). Marks ring entries read for the PCIe consumer, frees slots and re-arms MSI-X. -/
  | crgHeadPcieWrite (value : BitVec 32)
  /-- CRG_HEAD_I3C_WRITE (R134). Marks ring entries read for the I3C consumer and re-arms the in-band interrupt. -/
  | crgHeadI3cWrite (value : BitVec 32)
  /-- CRG_OVERFLOW_CLEAR (R132). A W1C write clears the ring OVERFLOW bit. -/
  | crgOverflowClear (path : Path)
  /-- GET_DEVICE_INFO (R137). Returns firmware, silicon, population, mode and milestone data. -/
  | getDeviceInfo (m : Fin 16)
  /-- GET_INVENTORY (R137). Starts a DMA of 1,024 flash-die records to host memory. -/
  | getInventory (m : Fin 16)
  /-- SET_TIME (R239). Sets wall-clock time and converts earlier program times to UTC. -/
  | setTime (m : Fin 16)
  /-- SET_PIN_FUNCTION (R142). Assigns a function to an MFP pin unless it conflicts. -/
  | setPinFunction (m : Fin 16)
  /-- GET_PIN_FUNCTION (R137). Returns a pin's function, flags, level and argument. -/
  | getPinFunction (m : Fin 16)
  /-- COMMIT_PULSE_END (R141). A 1 µs commit pulse ends. -/
  | commitPulseEnd (pin : Fin 16)
  /-- POWER_SET_STATE (R326). Sets the Lorard depth, the wake sources and the timer wake. -/
  | powerSetState (m : Fin 16)
  /-- WAKE_EVENT (R327). A doorbell, DRS write, I3C transfer, PERST_N change or PLD_N resumes P1 to P3 to P0. -/
  | wakeEvent (src : WakeSource)
  /-- TIMER_WAKE (R331). The Cardamom timer wake fires in its 1 ms slot. -/
  | timerWake (slotBusy : Bool)
  /-- PLL_LOCK_FAILURE (R322). A PLL fails to lock twice or loses lock, a fault of Cardamom. -/
  | pllLockFailure (pll : Fin 8)
  /-- HOLDUP_TEST (R339). Starts a hold-up test, or joins a scheduled test already running. -/
  | holdupTest (m : Fin 16)
  /-- HOLDUP_STATUS (R137). Returns the mode, verdict, protected limit and energy. -/
  | holdupStatus (m : Fin 16)
  /-- HOLDUP_TEST_DUE (R339). A scheduled start-up, periodic or post-degradation test falls due. -/
  | holdupTestDue (kind : HoldupDue)
  /-- HOLDUP_LOAD_APPLY (R335). HU_TEST_N goes low after the rest voltage is measured. -/
  | holdupLoadApply (restUv : Nat)
  /-- HOLDUP_LOAD_RELEASE (R335). Cardamom releases HU_TEST_N at 51 ms. -/
  | holdupLoadRelease (loadedUv : Nat)
  /-- HOLDUP_TEST_DONE (R336). C, ESR, energy and the protected limit are computed and the verdict is given. -/
  | holdupTestDone (afterUv : Nat)
  /-- HOLDUP_RECOMPUTE (R338). Every 1 ms the protected limit is recomputed from the store voltage. -/
  | holdupRecompute (storeUv : Nat)
  /-- THERMAL_GET (R137). Returns the temperatures, level, step, rate and prediction. -/
  | thermalGet (m : Fin 16)
  /-- THERMAL_SET_LIMITS (R359). Sets the NAND die limit, warn threshold and rate warning. -/
  | thermalSetLimits (m : Fin 16)
  /-- THERMAL_SAMPLE (R358). The sensors are sampled and cross-checked, and levels, rate and THERM_N are updated. -/
  | thermalSample (readings : List (Option Int))
  /-- THERMAL_HALT_COMPLETE (R365). The halt flush ends and the device stops in the halted state. -/
  | thermalHaltComplete (stoppedAt : Option Nat)
  /-- WRITE_ACCEPT (R144). A write or fence passes W7, taking a sequence number and an Overlap Directory entry. -/
  | writeAccept (src : Source)
  /-- WRITE_PLACE (R177). The map engine places a write part in an active superblock at W8. -/
  | writePlace (seq : Nat) (parity : Option PlaceParity)
  /-- SUPERBLOCK_AGE_TIMEOUT (R178). An active superblock that has held data for 24 h is closed. -/
  | superblockAgeTimeout (sb : Nat)
  /-- ROW_PROGRAM_DONE (R179). A row and its parity are programmed, making its writes durable. -/
  | rowProgramDone (sb row : Nat) (temps : List Int)
  /-- SUPERBLOCK_GRANT (R32). Firmware grants a replacement superblock, recording GRANT in the ledger. -/
  | superblockGrant (group : Fin 32) (halfErased : List BlankFound)
  /-- LEDGER_PAGE_DONE (R188). A journal page is programmed on the copies and its slots become durable. -/
  | ledgerPageDone (copies : List (Fin 3))
  /-- GC_COPY_DONE (R195). GC copies are programmed and checked, and the source becomes DIRTY. -/
  | gcCopyDone (src : Nat) (readBackOk : Bool)
  /-- FOLD_START (R196). A segment with overlay entries is folded once no Overlap Directory entry covers it. -/
  | foldStart (segment : Nat)
  /-- STATIC_WEAR_LEVEL (R197). Firmware moves the coldest superblock when the erase spread exceeds 300. -/
  | staticWearLevel (group : Fin 32) (halfErased : List BlankFound) (readBackOk : Bool)
  /-- JOB_ENQUEUE (R212). A job from Saffron enters a die's queue by class. -/
  | jobEnqueue (die : Fin 1024) (job : Job)
  /-- JOB_START (R213). The scheduler starts the highest-class job of a die. -/
  | jobStart (die : Fin 1024) (restoreOk : Bool)
  /-- BUS_GRANT (R214). A freed channel bus is given to the waiting die by class and starvation rules. -/
  | busGrant (ch : Fin 32) (waiting : List (Fin 32))
  /-- SUSPEND_REQUEST (R215). A class 1 read asks a running program or erase to suspend. -/
  | suspendRequest (die : Fin 1024)
  /-- SUSPEND_RESUME (R215). A parked operation resumes after an empty queue, 8 reads or 150 µs. -/
  | suspendResume (die : Fin 1024) (cause : ResumeCause)
  /-- ROUTINE_ABANDON (R225). A routine before COMMIT is abandoned for a read that has waited 8 µs, or for a patch
  load, and restarted. -/
  | routineAbandon (die : Fin 1024) (cause : AbandonCause)
  /-- DIE_TEMP_READ (R217). A die temperature is read every 10 ms while the die has work. -/
  | dieTempRead (die : Fin 1024) (celsius : Int)
  /-- CONTROL_STORE_SWEEP (R221). Idle cycles read control-store words and correct single-bit errors. -/
  | controlStoreSweep (ch : Fin 32) (word : Fin 16384) (flipped : List (Fin 39))
  /-- CS_PATCH_LOAD (R229). Checks a patch image and loads it channel by channel. -/
  | csPatchLoad (m : Fin 16) (image : PatchImage)
  /-- PATCH_CHANNEL_LOAD (R229). Once its committed routines end, a channel's patch RAM and vectors are written. -/
  | patchChannelLoad (ch : Fin 32) (readBackOk : Bool)
  /-- NOP (R223). Microword with no effect. -/
  | cuNop (die : Fin 1024)
  /-- MOVI (R223). Loads an immediate into a register. -/
  | cuMovi (die : Fin 1024) (dst : Fin 16) (imm : BitVec 18)
  /-- MOV (R223). Copies a register. -/
  | cuMov (die : Fin 1024) (dst src : Fin 16)
  /-- ADD (R223). Adds a register. -/
  | cuAdd (die : Fin 1024) (dst src : Fin 16)
  /-- ADDI (R223). Adds an immediate. -/
  | cuAddi (die : Fin 1024) (dst : Fin 16) (imm : BitVec 18)
  /-- SUB (R223). Subtracts a register. -/
  | cuSub (die : Fin 1024) (dst src : Fin 16)
  /-- AND (R223). Bitwise AND of two registers. -/
  | cuAnd (die : Fin 1024) (dst src : Fin 16)
  /-- OR (R223). Bitwise OR of two registers. -/
  | cuOr (die : Fin 1024) (dst src : Fin 16)
  /-- SHLI (R223). Shifts a register left by an immediate. -/
  | cuShli (die : Fin 1024) (dst : Fin 16) (imm : BitVec 18)
  /-- SHRI (R223). Shifts a register right by an immediate. -/
  | cuShri (die : Fin 1024) (dst : Fin 16) (imm : BitVec 18)
  /-- CMPI (R223). Compares with an immediate, setting Z and N. -/
  | cuCmpi (die : Fin 1024) (dst : Fin 16) (imm : BitVec 18)
  /-- LDD (R223). Loads a job descriptor word. -/
  | cuLdd (die : Fin 1024) (dst : Fin 16) (imm : BitVec 18)
  /-- LDQ (R223). Loads a qualification entry word. -/
  | cuLdq (die : Fin 1024) (dst : Fin 16) (imm : BitVec 18)
  /-- JMP (R223). Jumps. -/
  | cuJmp (die : Fin 1024) (imm : BitVec 18)
  /-- BZ (R223). Branches if Z. -/
  | cuBz (die : Fin 1024) (imm : BitVec 18)
  /-- BNZ (R223). Branches if not Z. -/
  | cuBnz (die : Fin 1024) (imm : BitVec 18)
  /-- BBS (R223). Branches if a bit is set. -/
  | cuBbs (die : Fin 1024) (bit src : Fin 16) (imm : BitVec 18)
  /-- BBC (R223). Branches if a bit is clear. -/
  | cuBbc (die : Fin 1024) (bit src : Fin 16) (imm : BitVec 18)
  /-- DJNZ (R223). Decrements and branches if not zero. -/
  | cuDjnz (die : Fin 1024) (dst : Fin 16) (imm : BitVec 18)
  /-- CALL (R223). Pushes the return address and jumps. -/
  | cuCall (die : Fin 1024) (imm : BitVec 18)
  /-- RET (R223). Pops the return address and jumps. -/
  | cuRet (die : Fin 1024)
  /-- CE (R223). Selects a chip enable. -/
  | cuCe (die : Fin 1024) (src : Fin 16)
  /-- CMD (R223). Sends an immediate command byte. -/
  | cuCmd (die : Fin 1024) (imm : BitVec 18)
  /-- CMDR (R223). Sends a command byte from a register. -/
  | cuCmdr (die : Fin 1024) (src : Fin 16)
  /-- ADDR (R223). Sends 1 to 5 address bytes. -/
  | cuAddr (die : Fin 1024) (count src : Fin 16)
  /-- DOUT (R223). Runs a data-out burst from the write FIFO. -/
  | cuDout (die : Fin 1024) (imm : BitVec 18) (parityOk : Bool)
  /-- DIN (R223). Runs a data-in burst to the LDPC decoder. -/
  | cuDin (die : Fin 1024) (imm : BitVec 18) (bytes : List (BitVec 8))
  /-- WAITC (R223). Waits cycles with the bus held. -/
  | cuWaitc (die : Fin 1024) (imm : BitVec 18)
  /-- WAITU (R223). Waits microseconds with the bus released. -/
  | cuWaitu (die : Fin 1024) (imm : BitVec 18)
  /-- WAITQ (R223). Waits a qualification timing with the bus held. -/
  | cuWaitq (die : Fin 1024) (imm : BitVec 18)
  /-- STATR (R223). Reads the LUN status into STAT. -/
  | cuStatr (die : Fin 1024) (status : BitVec 8)
  /-- SETF (R223). Sends Set Features. -/
  | cuSetf (die : Fin 1024) (src : Fin 16) (imm : BitVec 18)
  /-- GETF (R223). Sends Get Features. -/
  | cuGetf (die : Fin 1024) (dst : Fin 16) (imm : BitVec 18) (value : BitVec 32)
  /-- TEMP (R223). Reads the die temperature into a register and the die-state table. -/
  | cuTemp (die : Fin 1024) (dst : Fin 16) (celsius : Int)
  /-- COMMIT (R223). Marks the commit point of a routine. -/
  | cuCommit (die : Fin 1024)
  /-- YIELD (R226). Takes a pending suspend or halt request by branching with REQ set. -/
  | cuYield (die : Fin 1024) (imm : BitVec 18)
  /-- PARK (R223). Saves the context and frees the die for class 1 reads. -/
  | cuPark (die : Fin 1024)
  /-- SUSP (R223). Sends the die's suspend command. -/
  | cuSusp (die : Fin 1024)
  /-- RSM (R223). Sends the die's resume command. -/
  | cuRsm (die : Fin 1024)
  /-- LRST (R223). Sends a LUN reset. -/
  | cuLrst (die : Fin 1024)
  /-- HUBINC (R223). Increments a Saffron counter. -/
  | cuHubinc (die : Fin 1024) (imm : BitVec 18)
  /-- DONE (R223). Ends a routine with success. -/
  | cuDone (die : Fin 1024) (src : Fin 16)
  /-- FAILR (R224). Ends a routine with a failure code, which the Mace core turns into events and actions. -/
  | cuFailr (die : Fin 1024) (imm : BitVec 18)
  /-- TRAIN (R223). Runs an interface training step. -/
  | cuTrain (die : Fin 1024) (imm : BitVec 18)
  /-- CODEWORD_DECODE_DONE (R242). An LDPC decode ends and F6 and F9 check it, or the ladder continues. -/
  | codewordDecodeDone (sb off : Nat) (result : Decode)
  /-- STRIPE_REBUILD_END (R245). The 31 member reads of a rebuild end and the lost unit is rebuilt or the read fails. -/
  | stripeRebuildEnd (sb off : Nat) (result : Rebuild)
  /-- DRAM_ACCESS (R261). A DRAM request is scheduled and its burst checked by the inline code and address tag. -/
  | dramAccess (acc : DramAccess)
  /-- DRAM_ROW_TEST_DONE (R276). The 200 µs row test ends and the row is restored or remapped. -/
  | dramRowTestDone (ch : Fin 16) (rank : Fin 2) (bank : Fin 16) (row : Nat) (pass : Bool)
  /-- REFRESH_DUE (R267). A tREFI interval ends; the refresh is issued, postponed or forced. -/
  | refreshDue (ch : Fin 16) (rank : Fin 2) (ns : Nat) (hot : Bool)
  /-- REFRESH_CATCH_UP (R267). After a 500 ns idle gap, pending refreshes are made up. -/
  | refreshCatchUp (ch : Fin 16) (rank : Fin 2) (ns : Nat)
  /-- SELF_REFRESH_ENTRY (R268). In P2, a channel idle for 2 µs enters self-refresh. -/
  | selfRefreshEntry (ch : Fin 16)
  /-- DRAM_DRIFT_CHECK (R272). Every 100 ms the WCK2DQI oscillator is checked and delays adjusted or re-centring
  started. -/
  | dramDriftCheck (ch : Fin 16) (rank : Fin 2) (driftTaps : Int) (celsius : Int)
  /-- RECENTRING_SLICE (R273). One slice of a channel re-centring runs in a tREFI. -/
  | recentringSlice (ch : Fin 16) (rank : Fin 2) (ns : Nat) (sweeps : List LaneSweep)
  /-- SRAM_SCRUB_READ (R291). The scrubber checks a block and corrects or poisons it. -/
  | sramScrubRead (bank block : Nat) (flipped : List (Fin 585))
  /-- REGION_TEST_DONE (R290). The march ends and the region is copied back or replaced by a spare. -/
  | regionTestDone (bank region : Nat) (pass : Bool)
  /-- SRP_FLIP_ARM (R293). Writing ARM in diagnostic mode corrupts the next write to the bank. -/
  | srpFlipArm (value : BitVec 32)
  /-- NOR_AUTO_SUSPEND (R305). A fetch to a busy bank suspends its operation after 200 µs of run time. -/
  | norAutoSuspend (bankB : Bool) (stallUs requester : Nat)
  /-- NOR_IDLE_RESUME (R305). A suspended operation resumes after 50 µs without a fetch. -/
  | norIdleResume (bankB : Bool)
  /-- NOR_FORCED_RESUME (R305). A suspended operation resumes after 2 ms. -/
  | norForcedResume (bankB : Bool)
  /-- NOR_OPERATION_DONE (R309). A Nutmeg program or erase ends and DONE is programmed. -/
  | norOperationDone (bankB : Bool) (statusOk : Bool)
  /-- SELF_TEST_END (R372). A test ends as transient or lasting fault, completing a SELF_TEST or UNIT_READMIT handle. -/
  | selfTestEnd (unit : BitVec 16) (pass : Bool) (durationUs : Nat)
  /-- SELF_TEST (R371). Runs a unit's test on demand. -/
  | selfTest (m : Fin 16)
  /-- UNIT_STATUS (R137). Returns a unit's state and transient count. -/
  | unitStatus (m : Fin 16)
  /-- UNIT_READMIT (R378). Retests a fenced unit. -/
  | unitReadmit (m : Fin 16)
  /-- EVENT_TOKEN_REFILL (R384). A code's token bucket refills. -/
  | eventTokenRefill (code : BitVec 16)
  /-- EVENT_READ (R382). Returns records from a tier by sequence number and severity. -/
  | eventRead (m : Fin 16)
  /-- EVENT_RATE_SET (R384). Sets a code's rate and burst. -/
  | eventRateSet (m : Fin 16)
  /-- STATS_READ (R137). Returns byte, erase and ladder statistics. -/
  | statsRead (m : Fin 16)
  /-- CANCEL (R131). Cancels a live handle before its cancel point. -/
  | cancel (m : Fin 16)
  /-- HANDLE_QUERY (R130). Returns a handle's state, progress and final status. -/
  | handleQuery (m : Fin 16)
  /-- KEY_SET (R394). Replaces a namespace's media key. -/
  | keySet (m : Fin 16)
  /-- KEY_ZEROIZE (R395). Destroys one or all media keys. -/
  | keyZeroize (m : Fin 16)
  /-- SECURE_DISCARD (R407). Records a discard and removes every physical copy of a range. -/
  | secureDiscard (m : Fin 16)
  /-- FW_STAGE (R400). Writes and verifies an image into a firmware slot or the boot stage. -/
  | fwStage (m : Fin 16)
  /-- FW_STAGE_DONE (R400). Staging ends, verified or invalid. -/
  | fwStageDone (image : FwImage) (written : Nat)
  /-- FW_ACTIVATE (R402). Verifies a slot, records it active and runs a warm recovery. -/
  | fwActivate (m : Fin 16)
  /-- DEBUG_CHALLENGE (R404). Returns a fresh 32-byte challenge. -/
  | debugChallenge (m : Fin 16)
  /-- DEBUG_UNLOCK (R405). Verifies a token, zeroizes every key and opens the test port. -/
  | debugUnlock (m : Fin 16)
  /-- RC_REGISTER_READ (R414). An aligned PCIe read clears the RC fields it samples. -/
  | rcRegisterRead (space : Space) (port : ReadPort) (offset width : Nat)
  /-- WIDE_LO_READ (R416). A LO read copies the HI half into the holding register. -/
  | wideLoRead (port : ReadPort) (utc : Bool)
  /-- WIDE_HI_READ (R416). A HI read returns the holding register. -/
  | wideHiRead (port : ReadPort) (utc : Bool)
  /-- ID_SUBSYS_WRITE (R420). Writes the RWL subsystem IDs until the boot lock. -/
  | idSubsysWrite (value : BitVec 32)
  /-- PWR_PLL_FAIL_CLEAR (R341). A W1C write clears PLL failure bits. -/
  | pwrPllFailClear (value : BitVec 32)
  /-- REGISTER_WRITE (R417). A write to a register with no row of its own changes the field or is discarded. -/
  | registerWrite (space : Space) (path : Path) (offset width : Nat) (value : BitVec 64)
  /-- KEY_SET_DONE (R394). The new configuration store copy is written and the handle completes. -/
  | keySetDone (step : KeyStep)
  /-- KEY_ZEROIZE_DONE (R395). The older store copy is erased and the handle completes. -/
  | keyZeroizeDone (step : KeyStep)
  /-- FAULT_PIN_ASSERT (R141). A fault pin asserts 100 ms after an event at or above its severity. -/
  | faultPinAssert (asserted : Bool)
  /-- SECURE_DISCARD_DONE (R407). The last collected superblock is erased and the handle completes. -/
  | secureDiscardDone (erases : Nat) (readBackOk : Bool)
  /-- FORMAT_NVM_DONE (R114). The erases and key changes of a format end and its I/O block lifts. -/
  | formatNvmDone (readBackOk : Bool)
  /-- SANITIZE_DONE (R114). A sanitize ends and I/O resumes. -/
  | sanitizeDone (readBackOk : Bool)
  /-- MAP_READY (R193). The map rebuild ends: MAP_REBUILD_DONE is logged, waiting reads proceed, and GC and scrub
  start. -/
  | mapReady (badSummaries : List Nat)
  /-- DEBUG_UNLOCK_DONE (R405). The counter bit is burned, the port opens and the handle completes. -/
  | debugUnlockDone
  /-- TRST_N (R344). TRST_N resets the test port only. -/
  | trstN
  /-- WARM_RECOVERY_TIMEOUT (R166). A warm recovery not done within 1 s escalates to a hub reset. -/
  | warmRecoveryTimeout
  /-- CAPTURE_LINK_UP_TIMEOUT (R47). A bundle not UP within 100 ms completes the CAPTURE_LINK_UP handle with
  NOT_READY. -/
  | captureLinkUpTimeout
  /-- STATUS_SEND (R51). Every 1 µs from AWAIT onward, IB sends a STATUS message. -/
  | statusSend
  /-- PREAMBLE_DETECT (R46). A preamble in RETRAIN moves the bundle to ACQUIRE. -/
  | preambleDetect
  /-- ACQUIRE_TIMEOUT (R46). No acquisition within 4 µs returns the bundle to AWAIT. -/
  | acquireTimeout
  /-- START_DELIMITER (R48). The start delimiter moves the bundle from TRACK to CWLOCK. -/
  | startDelimiter
  /-- TRACK_TIMEOUT (R46). No delimiter within 100 µs returns the bundle to AWAIT. -/
  | trackTimeout
  /-- TUNE_TIMEOUT (R46). TUNE not done within 50 ms returns the bundle to AWAIT. -/
  | tuneTimeout
  /-- FRAME_HEADER (R63). A valid header is taken, checked against the stream's state, window and continuity, and
  starts a frame. -/
  | frameHeader
  /-- FRAME_END (R70). The last word of a frame arrives, the write point advances and held units are released under
  R71. -/
  | frameEnd
  /-- FRAME_STALL_NOTICE (R63). An open frame without a data word for 1 ms logs ING_STALL. -/
  | frameStallNotice
  /-- STALL_TIMER_EXPIRE (R80). The stream's stall timer expires and the open frame is closed short. -/
  | stallTimerExpire
  /-- GRANT_RAISE (R57). Hardware raises the credit grant toward the window or the capture space. -/
  | grantRaise
  /-- BACKPRESSURE_EPISODE (R84). A grant unraised for 50 µs for lack of space begins an episode and logs
  STREAM_BACKPRESSURE. -/
  | backpressureEpisode
  /-- SHUTDOWN_COMPLETE (R116). All accepted writes are durable and CSTS.SHST reads complete. -/
  | shutdownComplete
  /-- FUNCTION_LEVEL_RESET (R116). Resets NVMe and PCIe state and ends PCIe mailbox ownership. -/
  | functionLevelReset
  /-- HOT_RESET (R116). A PCIe hot reset acts as a Function Level Reset. -/
  | hotReset
  /-- PERST_N_ASSERT (R116). PERST_N asserted resets PCIe and NVMe state. -/
  | perstNAssert
  /-- PERST_N_DEASSERT (R327). PERST_N released lets the link train, and wakes the device from P4 when PCIe wake is
  enabled. -/
  | perstNDeassert
  /-- RSTDAA (R136). Resets the dynamic address and ends I3C mailbox ownership. -/
  | rstdaa
  /-- ENEC (R127). Enables in-band interrupts. -/
  | enec
  /-- DISEC (R127). Disables in-band interrupts. -/
  | disec
  /-- GETMWL (R127). Returns the maximum write length. -/
  | getmwl
  /-- GETMRL (R127). Returns the maximum read length. -/
  | getmrl
  /-- GETPID (R127). Returns the provisional ID. -/
  | getpid
  /-- GETBCR (R127). Returns BCR 0x06. -/
  | getbcr
  /-- GETDCR (R127). Returns DCR 0x00. -/
  | getdcr
  /-- GETSTATUS (R127). Returns the target status. -/
  | getstatus
  /-- CRG_PCIE_ENABLE (R134). Setting PCIE_EN activates the PCIe consumer with its head at TAIL. -/
  | crgPcieEnable
  /-- CRG_I3C_ENABLE (R134). Setting I3C_EN activates the I3C consumer with its head at TAIL. -/
  | crgI3cEnable
  /-- GET_INVENTORY_DONE (R140). The inventory DMA ends and the handle completes. -/
  | getInventoryDone
  /-- POWER_STATE_ENTRY (R325). Once its conditions hold, the device enters P2, P3 or P4. -/
  | powerStateEntry
  /-- POWER_SET_STATE_TIMEOUT (R326). A state not reached within 1 s completes the handle with WRONG_STATE. -/
  | powerSetStateTimeout
  /-- WAKE_N_RELEASE (R327). WAKE_N is released 100 ms after a P4 exit. -/
  | wakeNRelease
  /-- CRYSTAL_FAILURE (R320). No crystal tick for 1 ms sets XTAL_FAIL and makes wall-clock time unknown. -/
  | crystalFailure
  /-- THROTTLE_STEP_RISE (R361). Each 1 s at 105 °C or more raises the throttle step. -/
  | throttleStepRise
  /-- THROTTLE_STEP_FALL (R361). Each 5 s below 102 °C and the rate limit lowers the step. -/
  | throttleStepFall
  /-- CS_PATCH_LOAD_DONE (R140). The last channel is loaded and the handle completes. -/
  | csPatchLoadDone
  /-- SCRUB_PATROL (R248). Scrub reads the next closed superblock at class 4. -/
  | scrubPatrol
  /-- NOR_CONTINUOUS_READ_TIMEOUT (R300). Continuous-read mode ends after 10 µs without a fetch. -/
  | norContinuousReadTimeout
  /-- EVENT_FIFO_DRAIN (R385). A record leaves the FIFO and is written to the ring. -/
  | eventFifoDrain
  /-- EVENT_LOG_COPY (R381). Firmware copies records of notice and above into the Nutmeg log. -/
  | eventLogCopy
  /-- EVENT_HISTORY_PAGE (R381). A NAND history page is written when full or 60 s after its first record. -/
  | eventHistoryPage
  /-- DRBG_RESEED (R391). The DRBG reseeds after 2^20 requests. -/
  | drbgReseed
  /-- DRBG_HEALTH_FAIL (R391). A failed entropy health test stops the DRBG until power-up. -/
  | drbgHealthFail
  /-- PLD_N_DEASSERT (R437). PLD_N rises once input power has been stable for 10 ms, releasing a held reset so that
  power-up counts from that rise, and letting a finished power-loss sequence restart the device. -/
  | pldNDeassert
  /-- POWER_OFF (R333). A supply other than VDD_AON leaves tolerance or is removed, which counts as power-off: DRAM
  contents, handles, the debug-port opening and the Cardamom state not kept are lost until the next power-up. -/
  | powerOff
  /-- PCIE_D3HOT_EXIT (R324). The host returns the function from D3hot to D0, which lifts the NVMe depth of 4 that
  D3hot imposed. -/
  | pcieD3hotExit
deriving DecidableEq, Repr

end Sys2Proof
end

