-- ==== Sys2Proof/Decode.lean ====
section
/-! DEFINITION. Words that spell something. The operation table gives no row any bits, so no word spells a command; the
microwords of the Cumin sequencers have an encoding of their own (R222, R223). -/

namespace Sys2Proof

/-- The command that a word spells by the operation table's bits: the table gives bits to no row, so none. -/
def decodeTableWord (_nbits _w : Nat) : Option Instr := none

/-- The four fields of a microword (R222). -/
structure MicroFields where
  op : BitVec 6
  dst : BitVec 4
  src : BitVec 4
  imm : BitVec 18
deriving DecidableEq, Repr

/-- A microword from its fields: opcode in [31:26], destination in [25:22], source in [21:18], immediate in [17:0]
(R222). -/
def encodeMicro (f : MicroFields) : Word32 := f.op ++ f.dst ++ f.src ++ f.imm

/-- The fields of a microword (R222). -/
def decodeMicro (w : Word32) : MicroFields where
  op := w.extractLsb' 26 6
  dst := w.extractLsb' 22 4
  src := w.extractLsb' 18 4
  imm := w.extractLsb' 0 18

/-- An opcode without a meaning: 0x2C to 0x3F (R221, R223, R227 rule 6). -/
def reservedMicro (w : Word32) : Bool := decide (0x2C ≤ (decodeMicro w).op.toNat)

/-- A microword has this opcode and, of the fields its row of R223 uses, these values. -/
def spells (w : Word32) (op : Nat) (dst src imm : Option Nat) : Bool :=
  let f := decodeMicro w
  let same (n : Nat) (x : Option Nat) : Bool := match x with
    | some v => v == n
    | none => true
  f.op.toNat == op && same f.dst.toNat dst && same f.src.toNat src && same f.imm.toNat imm

/-- Fields from numbers. -/
def microFields (op dst src imm : Nat) : MicroFields :=
  ⟨BitVec.ofNat 6 op, BitVec.ofNat 4 dst, BitVec.ofNat 4 src, BitVec.ofNat 18 imm⟩

/-- The microword a Cumin command issues, with 0 in the fields its row does not use; none for the other commands
(R223). -/
def microOf (i : Instr) : Option MicroFields :=
  match i with
  | .cuNop _ => some (microFields 0x00 0 0 0)
  | .cuMovi _ d m => some (microFields 0x01 d 0 m.toNat)
  | .cuMov _ d r => some (microFields 0x02 d r 0)
  | .cuAdd _ d r => some (microFields 0x03 d r 0)
  | .cuAddi _ d m => some (microFields 0x04 d 0 m.toNat)
  | .cuSub _ d r => some (microFields 0x05 d r 0)
  | .cuAnd _ d r => some (microFields 0x06 d r 0)
  | .cuOr _ d r => some (microFields 0x07 d r 0)
  | .cuShli _ d m => some (microFields 0x08 d 0 m.toNat)
  | .cuShri _ d m => some (microFields 0x09 d 0 m.toNat)
  | .cuCmpi _ d m => some (microFields 0x0A d 0 m.toNat)
  | .cuLdd _ d m => some (microFields 0x0B d 0 m.toNat)
  | .cuLdq _ d m => some (microFields 0x0C d 0 m.toNat)
  | .cuJmp _ m => some (microFields 0x0D 0 0 m.toNat)
  | .cuBz _ m => some (microFields 0x0E 0 0 m.toNat)
  | .cuBnz _ m => some (microFields 0x0F 0 0 m.toNat)
  | .cuBbs _ b r m => some (microFields 0x10 b r m.toNat)
  | .cuBbc _ b r m => some (microFields 0x11 b r m.toNat)
  | .cuDjnz _ d m => some (microFields 0x12 d 0 m.toNat)
  | .cuCall _ m => some (microFields 0x13 0 0 m.toNat)
  | .cuRet _ => some (microFields 0x14 0 0 0)
  | .cuCe _ r => some (microFields 0x15 0 r 0)
  | .cuCmd _ m => some (microFields 0x16 0 0 m.toNat)
  | .cuCmdr _ r => some (microFields 0x17 0 r 0)
  | .cuAddr _ n r => some (microFields 0x18 n r 0)
  | .cuDout _ m _ => some (microFields 0x19 0 0 m.toNat)
  | .cuDin _ m _ => some (microFields 0x1A 0 0 m.toNat)
  | .cuWaitc _ m => some (microFields 0x1B 0 0 m.toNat)
  | .cuWaitu _ m => some (microFields 0x1C 0 0 m.toNat)
  | .cuWaitq _ m => some (microFields 0x1D 0 0 m.toNat)
  | .cuStatr _ _ => some (microFields 0x1E 0 0 0)
  | .cuSetf _ r m => some (microFields 0x1F 0 r m.toNat)
  | .cuGetf _ d m _ => some (microFields 0x20 d 0 m.toNat)
  | .cuTemp _ d _ => some (microFields 0x21 d 0 0)
  | .cuCommit _ => some (microFields 0x22 0 0 0)
  | .cuYield _ m => some (microFields 0x23 0 0 m.toNat)
  | .cuPark _ => some (microFields 0x24 0 0 0)
  | .cuSusp _ => some (microFields 0x25 0 0 0)
  | .cuRsm _ => some (microFields 0x26 0 0 0)
  | .cuLrst _ => some (microFields 0x27 0 0 0)
  | .cuHubinc _ m => some (microFields 0x28 0 0 m.toNat)
  | .cuDone _ r => some (microFields 0x29 0 r 0)
  | .cuFailr _ m => some (microFields 0x2A 0 0 m.toNat)
  | .cuTrain _ m => some (microFields 0x2B 0 0 m.toNat)
  | _ => none

end Sys2Proof
end

