-- ==== Sys2Proof/Machine/Bits.lean ====
section
/-! DEFINITION. Bit fields, byte order, saturation and check codes: the arithmetic every rule of layout uses. -/

namespace Sys2Proof.Machine

/-- The `w` bits of `n` from bit `lo` upward (R6). -/
def field (n lo w : Nat) : Nat := (n >>> lo) % 2 ^ w

/-- A counter of `w` bits that stays at its greatest value (R421, R414). -/
def sat (w n : Nat) : Nat := min n (2 ^ w - 1)

/-- The bit of a flag. -/
def flag (b : Bool) : Nat := if b then 1 else 0

/-- A signed number in `w` bits, two's complement. -/
def signed (w : Nat) (i : Int) : Nat := (i % (2 ^ w : Nat)).toNat

/-- `k` bytes of `n`, least significant first (R7). -/
def leBytes : Nat → Nat → List Byte
  | 0, _ => []
  | k + 1, n => BitVec.ofNat 8 n :: leBytes k (n / 256)

/-- The number a little-endian byte list spells (R7). -/
def leNat : List Byte → Nat
  | [] => 0
  | b :: bs => b.toNat + 256 * leNat bs

/-- Fields laid one after another, each given as size in bytes and value. -/
def packBytes : List (Nat × Nat) → List Byte
  | [] => []
  | (k, v) :: r => leBytes k v ++ packBytes r

/-- Fields of an event's eight data bytes, from record offset 20 (R379). -/
def evData (fs : List (Nat × Nat)) : BitVec 64 := BitVec.ofNat 64 (leNat (packBytes fs))

/-- Fields of a ring entry's sixteen result bytes, from entry offset 12 (R133). -/
def ringData (fs : List (Nat × Nat)) : BitVec 128 := BitVec.ofNat 128 (leNat (packBytes fs))

/-- A list cut or filled with zero bytes to `n` bytes. -/
def padTo (n : Nat) (bs : List Byte) : List Byte := bs.take n ++ List.replicate (n - bs.length) 0

/-- Every element that meets `p` changed by `f`. -/
def changeWhere {α : Type} (p : α → Bool) (f : α → α) (l : List α) : List α :=
  l.map fun x => if p x then f x else x

/-- The bits of a number, highest of `w` first. -/
def bitsMsb : Nat → Nat → List Bool
  | 0, _ => []
  | w + 1, n => n.testBit w :: bitsMsb w n

/-- One bit of a CRC register of width `w` with generator `poly`, data entering at the top. -/
def crcStep (w poly reg : Nat) (b : Bool) : Nat :=
  let top := reg.testBit (w - 1) != b
  let sh := (reg * 2) % 2 ^ w
  if top then sh ^^^ poly else sh

/-- A CRC of width `w` over bits in transmission order. -/
def crcBits (w poly init : Nat) (bits : List Bool) : Nat := bits.foldl (crcStep w poly) init

/-- The low `w` bits of `n` in reverse order. -/
def reverseBits (w n : Nat) : Nat := (bitsMsb w n).foldr (fun b acc => 2 * acc + flag b) 0

/-- The bits of a byte, lowest first. -/
def byteBitsLsb (b : Byte) : List Bool := (bitsMsb 8 b.toNat).reverse

/-- CRC-32C as R59 defines it: polynomial 0x1EDC6F41, reflected, initial value and final XOR all ones. -/
def crc32c (bs : List Byte) : Nat :=
  reverseBits 32 (crcBits 32 0x1EDC6F41 0xFFFFFFFF (bs.flatMap byteBitsLsb)) ^^^ 0xFFFFFFFF

/-- Bytes of a unit, byte 0 first (R6). -/
def unitBytes (u : UnitData) : List Byte := leBytes 4096 u.toNat

/-- The guard of R250 over a unit's 4,096 bytes. -/
def guardOf (u : UnitData) : Word32 := BitVec.ofNat 32 (crc32c (unitBytes u))

end Sys2Proof.Machine
end

