-- ==== Sys2Proof/Config.lean ====
section
/-! DEFINITION. What the manual leaves open, as constants with no body: nothing can be proved of their values. Each is
applied to the count of free values drawn so far, `State.free`, so that every draw is a fresh value. -/

namespace Sys2Proof.Config

/-- What Sumac's entropy source gives at a seeding of the random bit generator (R391). -/
opaque entropy : Nat → BitVec 384

/-- A number the manual leaves open among those a rule allows: which free handle slot (R129), which of several equal
candidates. -/
opaque choice : Nat → Nat

/-- Electrical levels from outside at the balls MFP0 to MFP15 (R141, R423). -/
opaque pinInput : Nat → BitVec 16

/-- A 32-bit result the manual does not state. -/
opaque word : Nat → Word32

/-- What a unit reads as where the manual states no contents (R285, R286). -/
opaque unit : Nat → UnitData

/-- Values of a flash die's qualification entry (R211) by die, entry word: the list itself is not in the manual. -/
opaque qualification : Nat → Nat → Word32

/-- Entry of a Cumin sequencer's mask-ROM vector table by job kind (R221): the ROM is not in the manual. -/
opaque romEntry : Nat → Nat

/-- LDPC parity of a codeword's 4,128 payload bytes (R232): the matrix is not published (R235). -/
opaque ldpcParity : BitVec 33024 → BitVec 3840

/-- Physical block of a die's position before any remap (R170), by die and position: the manual gives no numbers. -/
opaque physicalBlock : Nat → Nat → Nat

/-- Die temperature in °C at the first program of a block whose record did not outlast a start (R239). -/
opaque programTemp : Nat → BitVec 8

/-- Flow that enters the mask ROM at an address keeps the rules of R227 there, by whether COMMIT has been passed and
the depth of calls: the ROM is not in the manual. -/
opaque romFlowOk : Nat → Bool → Nat → Bool

/-- A ROM routine called at an address passes COMMIT before it returns. -/
opaque romCommits : Nat → Bool

/-- LUN a row address names, by qualification entry: where its bits lie is the die's matter (R209). -/
opaque rowLun : Nat → Word32 → Nat

/-- Least time in ns from one activate of a rank to the next, tRRD: the fitted packages' (R265). -/
opaque activateGap : Nat

/-- The three check symbols of a 64-byte burst over GF(2^8): the field and the generator are not in the manual (R261).
-/
opaque burstSymbols : BitVec 512 → BitVec 24

/-- The 24-bit hash of a burst's channel, rank, bank, row and column, its address tag: the hash is not in the manual
(R261). -/
opaque addressTag : Nat → Nat → Nat → Nat → Nat → BitVec 24

end Sys2Proof.Config
end

