-- ==== Sys2Proof/Machine/Crypto.lean ====
section
/-! DEFINITION. The cryptographic functions of R390, each as its standard gives it: SHA-384 and HMAC, the key
derivation, AES-256 with XTS, key wrapping and the random bit generator, and the verification of P-384 signatures.
Numbers are used for words and blocks, first byte highest, but for the tweak of XTS. -/

namespace Sys2Proof.Machine

/-- The number a big-endian byte list spells. -/
def beNat (bs : List Byte) : Nat := bs.foldl (fun n b => 256 * n + b.toNat) 0

/-- `k` bytes of a number, most significant first. -/
def beBytes (k n : Nat) : List Byte := (leBytes k n).reverse

/-! ## SHA-384 (FIPS 180-4) -/

/-- The round constants. -/
def shaConstants : List Nat :=
  [0x428a2f98d728ae22, 0x7137449123ef65cd, 0xb5c0fbcfec4d3b2f, 0xe9b5dba58189dbbc,
   0x3956c25bf348b538, 0x59f111f1b605d019, 0x923f82a4af194f9b, 0xab1c5ed5da6d8118,
   0xd807aa98a3030242, 0x12835b0145706fbe, 0x243185be4ee4b28c, 0x550c7dc3d5ffb4e2,
   0x72be5d74f27b896f, 0x80deb1fe3b1696b1, 0x9bdc06a725c71235, 0xc19bf174cf692694,
   0xe49b69c19ef14ad2, 0xefbe4786384f25e3, 0x0fc19dc68b8cd5b5, 0x240ca1cc77ac9c65] ++
  [0x2de92c6f592b0275, 0x4a7484aa6ea6e483, 0x5cb0a9dcbd41fbd4, 0x76f988da831153b5,
   0x983e5152ee66dfab, 0xa831c66d2db43210, 0xb00327c898fb213f, 0xbf597fc7beef0ee4,
   0xc6e00bf33da88fc2, 0xd5a79147930aa725, 0x06ca6351e003826f, 0x142929670a0e6e70,
   0x27b70a8546d22ffc, 0x2e1b21385c26c926, 0x4d2c6dfc5ac42aed, 0x53380d139d95b3df,
   0x650a73548baf63de, 0x766a0abb3c77b2a8, 0x81c2c92e47edaee6, 0x92722c851482353b] ++
  [0xa2bfe8a14cf10364, 0xa81a664bbc423001, 0xc24b8b70d0f89791, 0xc76c51a30654be30,
   0xd192e819d6ef5218, 0xd69906245565a910, 0xf40e35855771202a, 0x106aa07032bbd1b8,
   0x19a4c116b8d2d0c8, 0x1e376c085141ab53, 0x2748774cdf8eeb99, 0x34b0bcb5e19b48a8,
   0x391c0cb3c5c95a63, 0x4ed8aa4ae3418acb, 0x5b9cca4f7763e373, 0x682e6ff3d6b2b8a3,
   0x748f82ee5defb2fc, 0x78a5636f43172f60, 0x84c87814a1f0ab72, 0x8cc702081a6439ec] ++
  [0x90befffa23631e28, 0xa4506cebde82bde9, 0xbef9a3f7b2c67915, 0xc67178f2e372532b,
   0xca273eceea26619c, 0xd186b8c721c0c207, 0xeada7dd6cde0eb1e, 0xf57d4f7fee6ed178,
   0x06f067aa72176fba, 0x0a637dc5a2c898a6, 0x113f9804bef90dae, 0x1b710b35131c471b,
   0x28db77f523047d84, 0x32caab7b40c72493, 0x3c9ebe0a15c9bebc, 0x431d67c49c100d4c,
   0x4cc5d4becb3e42b6, 0x597f299cfc657e2a, 0x5fcb6fab3ad6faec, 0x6c44198c4a475817]

/-- The initial hash value of SHA-384. -/
def sha384Initial : List Nat :=
  [0xcbbb9d5dc1059ed8, 0x629a292a367cd507, 0x9159015a3070dd17, 0x152fecd8f70e5939,
   0x67332667ffc00b31, 0x8eb44a8768581511, 0xdb0c2e0d64f98fa7, 0x47b5481dbefa4fa4]

/-- A 64-bit word rotated right. -/
def rotr64 (n x : Nat) : Nat := (x >>> n) ||| (x <<< (64 - n) % 2 ^ 64)

/-- The message schedule, newest word first, extended by `n` words. -/
def shaSchedule : Nat → List Nat → List Nat
  | 0, ws => ws
  | n + 1, ws =>
    let a := ws.getD 14 0
    let b := ws.getD 1 0
    let s0 := rotr64 1 a ^^^ rotr64 8 a ^^^ (a >>> 7)
    let s1 := rotr64 19 b ^^^ rotr64 61 b ^^^ (b >>> 6)
    shaSchedule n ((s1 + ws.getD 6 0 + s0 + ws.getD 15 0) % 2 ^ 64 :: ws)

/-- The eight working variables. -/
structure ShaWork where
  a : Nat
  b : Nat
  c : Nat
  d : Nat
  e : Nat
  f : Nat
  g : Nat
  h : Nat
deriving DecidableEq, Repr

/-- One round with its constant and its schedule word. -/
def shaRound (x : ShaWork) (kw : Nat × Nat) : ShaWork :=
  let s1 := rotr64 14 x.e ^^^ rotr64 18 x.e ^^^ rotr64 41 x.e
  let ch := (x.e &&& x.f) ^^^ ((2 ^ 64 - 1 - x.e) &&& x.g)
  let t1 := x.h + s1 + ch + kw.1 + kw.2
  let s0 := rotr64 28 x.a ^^^ rotr64 34 x.a ^^^ rotr64 39 x.a
  let maj := (x.a &&& x.b) ^^^ (x.a &&& x.c) ^^^ (x.b &&& x.c)
  ⟨(t1 + s0 + maj) % 2 ^ 64, x.a, x.b, x.c, (x.d + t1) % 2 ^ 64, x.e, x.f, x.g⟩

/-- The compression of one block of 128 bytes. -/
def shaBlock (hash : List Nat) (block : List Byte) : List Nat :=
  let first := (List.range 16).map fun i => beNat ((block.drop (8 * i)).take 8)
  let ws := (shaSchedule 64 first.reverse).reverse
  let w (i : Nat) : Nat := hash.getD i 0
  let x := (shaConstants.zip ws).foldl shaRound ⟨w 0, w 1, w 2, w 3, w 4, w 5, w 6, w 7⟩
  List.zipWith (fun p q => (p + q) % 2 ^ 64) hash [x.a, x.b, x.c, x.d, x.e, x.f, x.g, x.h]

/-- A message padded to whole blocks: a one bit, zeros, its length in bits as 128 bits. -/
def shaPad (m : List Byte) : List Byte :=
  m ++ 0x80 :: List.replicate ((239 - m.length % 128) % 128) 0 ++ beBytes 16 (8 * m.length)

/-- The first `n` blocks of a message are taken into a hash. -/
def shaBlocks : Nat → List Nat → List Byte → List Nat
  | 0, hash, _ => hash
  | n + 1, hash, m => shaBlocks n (shaBlock hash (m.take 128)) (m.drop 128)

/-- SHA-384 (R390): 48 bytes. -/
def sha384 (m : List Byte) : List Byte :=
  let p := shaPad m
  ((shaBlocks (p.length / 128) sha384Initial p).take 6).flatMap (beBytes 8)

/-- HMAC with SHA-384. -/
def hmac384 (key m : List Byte) : List Byte :=
  let k := padTo 128 (if 128 < key.length then sha384 key else key)
  sha384 (k.map (· ^^^ 0x5C) ++ sha384 (k.map (· ^^^ 0x36) ++ m))

/-- The key derivation of R390: one block of counter mode, a 256-bit result. The lengths in its input are 32 bits wide
(PRESUMED, log entry 180). -/
def deriveKey (key label context : List Byte) : List Byte :=
  (hmac384 key (beBytes 4 1 ++ label ++ 0 :: context ++ beBytes 4 256)).take 32

/-! ## AES-256 (R390) -/

/-- The substitution box, 32 entries a number, entry 0 lowest. -/
def aesBox : List Nat :=
  [0xc072a49cafa2d4adf04759fa7dc982ca76abd7fe2b670130c56f6bf27b777c63,
   0x75b227ebe28012079a059618c323c7041531d871f1e5a534ccf73f362693fdb7,
   0xcf584c4a39becb6a5bb1fc20ed00d153842fe329b3d63b52a05a6e1b1a2c8309,
   0xd2f3ff1021dab6bcf5389d928f40a351a89f3c507f02f94585334d43fbaaefd0,
   0xdb0b5ede14b8ee4688902a22dc4f816073195d643d7ea7c41744975fec130ccd,
   0x08ae7a65eaf4566ca94ed58d6d37c8e779e4959162acd3c25c2406490a3a32e0,
   0x9e1dc186b95735610ef6034866b53e708a8bbd4b1f74dde8c6b4a61c2e2578ba,
   0x16bb54b00f2d99416842e6bf0d89a18cdf2855cee9871e9b948ed9691198f8e1]

/-- The inverse substitution box. -/
def aesInverseBox : List Nat :=
  [0xcbe9dec444438e3487ff2f9b8239e37cfbd7f3819ea340bf38a53630d56a0952,
   0x25d18b6d49a25b76b224d92866a12e084ec3fa420b954cee3d23c2a632947b54,
   0x849d8da75746155edab9edfd5048706c92b6655dcc5ca4d41698688664f6f872,
   0x6b8a130103bdafc1020f3fca8f1e2cd00645b3b80558e4f70ad3bc8c00abd890,
   0x6edf751ce837f9e28535ade72274ac9673e6b4f0cecff297eadc674f4111913a,
   0xf45acd78fec0db9a2079d2c64b3e56fc1bbe18aa0e62b76f89c5291d711af147,
   0xef9cc9939f7ae52d0d4ab519a97f51605fec8027591012b131c7078833a8dd1f,
   0x7d0c2155631469e126d677ba7e042b17619953833cbbebc8b0f52aae4d3be0a0]

/-- An entry of a box. -/
def boxAt (box : List Nat) (x : Nat) : Nat := field (box.getD (x / 32) 0) (8 * (x % 32)) 8

/-- Multiplication by x in the field of AES. -/
def aesTimes2 (a : Nat) : Nat := if a < 128 then 2 * a else (2 * a) ^^^ 0x11B

/-- Multiplication by a constant of four bits. -/
def aesTimes (c a : Nat) : Nat :=
  let b := aesTimes2 a
  let d := aesTimes2 b
  (if c.testBit 0 then a else 0) ^^^ (if c.testBit 1 then b else 0) ^^^ (if c.testBit 2 then d else 0) ^^^
    (if c.testBit 3 then aesTimes2 d else 0)

/-- The substitution of each byte of a 32-bit word. -/
def subWord (x : Nat) : Nat :=
  ((List.range 4).map fun i => boxAt aesBox (field x (8 * i) 8) <<< (8 * i)).sum

/-- The key schedule, newest word first, extended by `n` words; `i` is the number of the next word. -/
def aesSchedule : Nat → Nat → Nat → List Nat → List Nat
  | 0, _, _, ws => ws
  | n + 1, i, rcon, ws =>
    let t := ws.getD 0 0
    let u :=
      if i % 8 = 0 then subWord (t * 256 % 2 ^ 32 + t / 2 ^ 24) ^^^ (rcon <<< 24)
      else if i % 8 = 4 then subWord t
      else t
    aesSchedule n (i + 1) (if i % 8 = 0 then aesTimes2 rcon else rcon) ((ws.getD 7 0 ^^^ u) :: ws)

/-- The fifteen round keys of a 256-bit key, 16 bytes each. -/
def aesKeys (key : Nat) : List (List Nat) :=
  let first := (List.range 8).map fun i => field key (32 * (7 - i)) 32
  let ws := (aesSchedule 52 8 1 first.reverse).reverse
  (List.range 15).map fun r => (List.range 16).map fun i => field (ws.getD (4 * r + i / 4) 0) (8 * (3 - i % 4)) 8

/-- A round key added. -/
def addKey (k b : List Nat) : List Nat := List.zipWith (· ^^^ ·) b k

/-- Bytes moved in the rows of the state, which is filled by columns. -/
def aesShift (by_ : Nat) (b : List Nat) : List Nat :=
  (List.range 16).map fun i => b.getD ((i + by_ * (4 * (i % 4))) % 16) 0

/-- A column mixed with the four constants of a matrix row. -/
def aesMix (cs b : List Nat) : List Nat :=
  (List.range 16).map fun i => (List.range 4).foldl (fun acc j =>
    acc ^^^ aesTimes (cs.getD j 0) (b.getD (i / 4 * 4 + (i + j) % 4) 0)) 0

/-- Rounds of encryption with the round keys left; the last one mixes no column. -/
def aesRounds : List (List Nat) → List Nat → List Nat
  | [], b => b
  | [k], b => addKey k (aesShift 1 (b.map (boxAt aesBox)))
  | k :: ks, b => aesRounds ks (addKey k (aesMix [2, 3, 1, 1] (aesShift 1 (b.map (boxAt aesBox)))))

/-- Rounds of decryption with the round keys left, which come last first. -/
def aesRoundsBack : List (List Nat) → List Nat → List Nat
  | [], b => b
  | [k], b => addKey k ((aesShift 3 b).map (boxAt aesInverseBox))
  | k :: ks, b => aesRoundsBack ks (aesMix [14, 11, 13, 9] (addKey k ((aesShift 3 b).map (boxAt aesInverseBox))))

/-- The 16 bytes of a block. -/
def aesBytes (x : Nat) : List Nat := (List.range 16).map fun i => field x (8 * (15 - i)) 8

/-- The block of 16 bytes. -/
def blockOf (bs : List Nat) : Nat := bs.foldl (fun n b => 256 * n + b) 0

/-- AES-256 encryption of a block under expanded keys. -/
def aesEncryptWith (ks : List (List Nat)) (x : Nat) : Nat :=
  match ks with
  | [] => x
  | k :: rest => blockOf (aesRounds rest (addKey k (aesBytes x)))

/-- AES-256 encryption of a block. -/
def aesEncrypt (key x : Nat) : Nat := aesEncryptWith (aesKeys key) x

/-- AES-256 decryption of a block under expanded keys. -/
def aesDecryptWith (ks : List (List Nat)) (x : Nat) : Nat :=
  match ks.reverse with
  | [] => x
  | k :: rest => blockOf (aesRoundsBack rest (addKey k (aesBytes x)))

/-! ## XTS (IEEE 1619) -/

/-- The bytes of a block in the opposite order. -/
def swapBlock (x : Nat) : Nat := beNat (leBytes 16 x)

/-- The tweak of the next block, first byte lowest. -/
def nextTweak (t : Nat) : Nat := if t < 2 ^ 127 then 2 * t else (2 * t % 2 ^ 128) ^^^ 0x87

/-- `n` blocks of data, first byte lowest, through a block function under a tweak. -/
def xtsBlocks (f : Nat → Nat) : Nat → Nat → Nat → Nat
  | 0, _, _ => 0
  | n + 1, t, x => (swapBlock (f (swapBlock (x % 2 ^ 128 ^^^ t))) ^^^ t) + 2 ^ 128 * xtsBlocks f n (nextTweak t) (x / 2 ^ 128)

/-- The data key and the tweak key of a media key, in this order (R392). -/
def mediaKeys (key : BitVec 512) : Nat × Nat :=
  let bs := leBytes 64 key.toNat
  (beNat (bs.take 32), beNat (bs.drop 32))

/-- The tweak of the first block of a data unit: the LBA as a 128-bit little-endian integer, encrypted (R392). -/
def firstTweak (key : BitVec 512) (lba : Nat) : Nat := swapBlock (aesEncrypt (mediaKeys key).2 (swapBlock lba))

/-- XTS-AES-256 over a unit of 4,096 bytes at an LBA (R390, R392). -/
def encryptUnit (key : BitVec 512) (lba : Nat) (u : UnitData) : UnitData :=
  BitVec.ofNat 32768 (xtsBlocks (aesEncryptWith (aesKeys (mediaKeys key).1)) 256 (firstTweak key lba) u.toNat)

/-- The inverse of `encryptUnit` (R390, R392). -/
def decryptUnit (key : BitVec 512) (lba : Nat) (u : UnitData) : UnitData :=
  BitVec.ofNat 32768 (xtsBlocks (aesDecryptWith (aesKeys (mediaKeys key).1)) 256 (firstTweak key lba) u.toNat)

/-! ## Key wrapping (NIST SP 800-38F) -/

/-- One pass over the semiblocks, from step number `t`: the register and the semiblocks written, last first. -/
def wrapPass (ks : List (List Nat)) : Nat → Nat → List Nat → List Nat → Nat × List Nat
  | _, a, [], done => (a, done.reverse)
  | t, a, r :: rs, done =>
    let b := aesEncryptWith ks (a * 2 ^ 64 + r)
    wrapPass ks (t + 1) (b / 2 ^ 64 ^^^ t) rs (b % 2 ^ 64 :: done)

/-- The inverse of a pass, over the semiblocks last first, down from step number `t`. -/
def unwrapPass (ks : List (List Nat)) : Nat → Nat → List Nat → List Nat → Nat × List Nat
  | _, a, [], done => (a, done)
  | t, a, r :: rs, done =>
    let b := aesDecryptWith ks ((a ^^^ t) * 2 ^ 64 + r)
    unwrapPass ks (t - 1) (b / 2 ^ 64) rs (b % 2 ^ 64 :: done)

/-- The semiblocks of a byte list. -/
def semiblocks (n : Nat) (bs : List Byte) : List Nat := (List.range n).map fun i => beNat ((bs.drop (8 * i)).take 8)

/-- AES-KW of the 64 bytes of a media key under a key-encryption key: 72 bytes (R390, R393). -/
def wrapKey (kek : Nat) (bs : List Byte) : List Byte :=
  let ks := aesKeys kek
  let out := (List.range 6).foldl (fun (x : Nat × List Nat) j => wrapPass ks (8 * j + 1) x.1 x.2 [])
    (0xA6A6A6A6A6A6A6A6, semiblocks 8 bs)
  (out.1 :: out.2).flatMap (beBytes 8)

/-- The media key wrapped in 72 bytes; none where the register does not come out as it must. -/
def unwrapKey (kek : Nat) (bs : List Byte) : Option (List Byte) :=
  let ks := aesKeys kek
  let out := (List.range 6).foldl (fun (x : Nat × List Nat) j => unwrapPass ks (8 * (6 - j)) x.1 x.2.reverse [])
    (beNat (bs.take 8), semiblocks 8 (bs.drop 8))
  if out.1 = 0xA6A6A6A6A6A6A6A6 then some (out.2.flatMap (beBytes 8)) else none

/-! ## Random bits (NIST SP 800-90A) -/

/-- The working state of CTR_DRBG with AES-256. -/
structure Drbg where
  key : BitVec 256
  v : BitVec 128
deriving DecidableEq, Repr

/-- `n` blocks of output from a counter. -/
def ctrBlocks (ks : List (List Nat)) : Nat → Nat → List Byte
  | 0, _ => []
  | n + 1, v => beBytes 16 (aesEncryptWith ks ((v + 1) % 2 ^ 128)) ++ ctrBlocks ks n ((v + 1) % 2 ^ 128)

/-- The state takes 48 bytes in. -/
def drbgUpdate (provided : List Byte) (d : Drbg) : Drbg :=
  let t := List.zipWith (· ^^^ ·) (ctrBlocks (aesKeys d.key.toNat) 3 d.v.toNat) (padTo 48 provided)
  ⟨BitVec.ofNat 256 (beNat (t.take 32)), BitVec.ofNat 128 (beNat (t.drop 32))⟩

/-- The chained blocks of the derivation function. -/
def bccBlocks (ks : List (List Nat)) : Nat → Nat → List Byte → Nat
  | 0, c, _ => c
  | n + 1, c, bs => bccBlocks ks n (aesEncryptWith ks (c ^^^ beNat (bs.take 16))) (bs.drop 16)

/-- The derivation function of the standard: 48 bytes from an input string. -/
def drbgDerive (input : List Byte) : List Byte :=
  let s := beBytes 4 input.length ++ beBytes 4 48 ++ input ++ [0x80]
  let s := padTo ((s.length + 15) / 16 * 16) s
  let ks := aesKeys (beNat ((List.range 32).map (BitVec.ofNat 8)))
  let t := (List.range 3).flatMap fun i => beBytes 16 (bccBlocks ks (s.length / 16 + 1) 0 (padTo 16 (beBytes 4 i) ++ s))
  let k := aesKeys (beNat (t.take 32))
  let x (n : Nat) : Nat := (List.range n).foldl (fun b _ => aesEncryptWith k b) (beNat (t.drop 32))
  beBytes 16 (x 1) ++ beBytes 16 (x 2) ++ beBytes 16 (x 3)

/-- A DRBG seeded from entropy input and nonce, with no personalization string. -/
def drbgSeed (entropy : List Byte) : Drbg := drbgUpdate (drbgDerive entropy) ⟨0, 0⟩

/-- A DRBG reseeded. -/
def drbgReseed (entropy : List Byte) (d : Drbg) : Drbg := drbgUpdate (drbgDerive entropy) d

/-- `n` bytes a request returns. -/
def drbgBytes (n : Nat) (d : Drbg) : List Byte := (ctrBlocks (aesKeys d.key.toNat) ((n + 15) / 16) d.v.toNat).take n

/-- The state after a request for `n` bytes, with no additional input. -/
def drbgNext (n : Nat) (d : Drbg) : Drbg := drbgUpdate [] { d with v := d.v + BitVec.ofNat 128 ((n + 15) / 16) }

/-! ## Signatures (FIPS 186-5, P-384) -/

/-- The prime of the field. -/
def p384 : Nat := 2 ^ 384 - 2 ^ 128 - 2 ^ 96 + 2 ^ 32 - 1

/-- The order of the base point. -/
def p384Order : Nat :=
  0xFFFFFFFFFFFFFFFFFFFFFFFFFFFFFFFFFFFFFFFFFFFFFFFF * 2 ^ 192 + 0xC7634D81F4372DDF581A0DB248B0A77AECEC196ACCC52973

/-- The constant of the curve y² = x³ − 3x + b. -/
def p384B : Nat :=
  0xB3312FA7E23EE7E4988E056BE3F82D19181D9C6EFE814112 * 2 ^ 192 + 0x0314088F5013875AC656398D8A2ED19D2A85C8EDD3EC2AEF

/-- A point of the curve in Jacobian coordinates; `z` 0 is the point at infinity. -/
structure Point where
  x : Nat
  y : Nat
  z : Nat
deriving DecidableEq, Repr

/-- The base point. -/
def basePoint : Point where
  x := 0xAA87CA22BE8B05378EB1C71EF320AD746E1D3B628BA79B98 * 2 ^ 192 + 0x59F741E082542A385502F25DBF55296C3A545E3872760AB7
  y := 0x3617DE4A96262C6F5D9E98BF9292DC29F8F41DBD289A147C * 2 ^ 192 + 0xE9DA3113B5F0B8C00A60B1CE1D7E819D7A431D7C90EA0E5F
  z := 1

/-- A point doubled. -/
def doublePoint (a : Point) : Point :=
  let d := a.z * a.z % p384
  let g := a.y * a.y % p384
  let b := a.x * g % p384
  let m := 3 * (a.x + p384 - d) * (a.x + d) % p384
  let x := (m * m + 8 * p384 - 8 * b) % p384
  ⟨x, (m * (4 * b + p384 - x) + 8 * p384 * p384 - 8 * g * g) % p384,
    ((a.y + a.z) * (a.y + a.z) + 2 * p384 - g - d) % p384⟩

/-- The sum of two points. -/
def addPoints (a b : Point) : Point :=
  if a.z = 0 then b
  else if b.z = 0 then a
  else
    let z1 := a.z * a.z % p384
    let z2 := b.z * b.z % p384
    let u := a.x * z2 % p384
    let t := a.y * b.z * z2 % p384
    let h := (b.x * z1 + p384 - u) % p384
    let r := (b.y * a.z * z1 + p384 - t) % p384
    if h = 0 then (if r = 0 then doublePoint a else ⟨1, 1, 0⟩)
    else
      let h2 := h * h % p384
      let h3 := h * h2 % p384
      let v := u * h2 % p384
      let x := (r * r + 3 * p384 - h3 - 2 * v) % p384
      ⟨x, (r * (v + p384 - x) + p384 * p384 - t * h3) % p384, a.z * b.z * h % p384⟩

/-- A multiple of a point; the first argument bounds the bits of the factor. -/
def timesPoint : Nat → Nat → Point → Point
  | 0, _, _ => ⟨1, 1, 0⟩
  | n + 1, k, a =>
    let h := doublePoint (timesPoint n (k / 2) a)
    if k % 2 = 1 then addPoints h a else h

/-- A power modulo `m`; the first argument after it bounds the bits of the exponent. -/
def powMod (m : Nat) : Nat → Nat → Nat → Nat
  | 0, _, _ => 1
  | n + 1, e, b =>
    let h := powMod m n (e / 2) b
    if e % 2 = 1 then h * h % m * b % m else h * h % m

/-- The inverse modulo a prime of at most 384 bits. -/
def inverseMod (m a : Nat) : Nat := powMod m 384 (m - 2) a

/-- A public key of 96 bytes, x then y, is a point of the curve (R390). -/
def publicPoint (key : List Byte) : Option Point :=
  let x := beNat (key.take 48)
  let y := beNat ((key.drop 48).take 48)
  if x < p384 ∧ y < p384 ∧ y * y % p384 = (x * x * x + (p384 - 3) * x + p384B) % p384 then some ⟨x, y, 1⟩ else none

/-- ECDSA over P-384 with SHA-384: a signature of 96 bytes, r then s, verifies a message under a public key (R390).
PRESUMED, log entry 180: both numbers are 48 bytes, most significant first. -/
def signatureVerifies (key m signature : List Byte) : Bool :=
  let r := beNat (signature.take 48)
  let s := beNat ((signature.drop 48).take 48)
  if r = 0 ∨ s = 0 ∨ p384Order ≤ r ∨ p384Order ≤ s then false
  else
    match publicPoint key with
    | none => false
    | some q =>
      let w := inverseMod p384Order s
      let a := timesPoint 384 (beNat (sha384 m) * w % p384Order) basePoint
      let c := addPoints a (timesPoint 384 (r * w % p384Order) q)
      let i := inverseMod p384 c.z
      c.z != 0 && c.x * (i * i % p384) % p384 % p384Order == r

end Sys2Proof.Machine
end

