-- ==== Sys2Proof/Machine/State.lean ====
section
/-! DEFINITION. The state of the VX9256: every register, counter, queue, table and pin the manual gives it, as plain
data, grouped by chapter. Each field's comment names the rule; reset values are in `State.reset` below. -/

namespace Sys2Proof.Machine

/-! ## Outcomes that are not a next state -/

/-- Why a command stops the machine. All are raised by microwords that no routine which meets R227 can hold; the
manual gives such a word no effect. Safe: the hardware may go on where the model stops. -/
inductive Fault where
  /-- raised by the after-COMMIT microwords met before COMMIT (R223, R227 rule 1); safe -/
  | microwordBeforeCommit
  /-- raised by COMMIT met a second time on a path (R223, R227 rule 2); safe -/
  | commitTwice
  /-- raised by CALL with four return addresses on the stack (R220, R227 rule 5); safe -/
  | callDepth
  /-- raised by RET on an empty call stack (R220, R223); safe -/
  | callStackEmpty
  /-- raised by ADDR with a byte count outside 1 to 5 (R223); safe -/
  | addressCount
deriving DecidableEq, Repr

/-- Why a command has no meaning in the model. -/
inductive Refusal where
  /-- the command's meaning is not written; raised by no arm of this model; safe -/
  | notModelled (mnemonic : String)
deriving DecidableEq, Repr

/-! ## Life of the device: phases, milestones, clocks -/

/-- The phase the device is in (R343 to R350, R340, R365, R345). -/
inductive Phase where
  /-- a supply other than VDD_AON is out of tolerance (R333) -/
  | off
  /-- supplies good, RESET_N low, or released and held while PLD_N is low (R437) -/
  | inReset
  /-- manufacturing test (R345) -/
  | manufacturing
  /-- started: the milestones say how far (R343, R350) -/
  | service
  /-- the power-loss sequence of R340 runs -/
  | lossFlush
  /-- the power-loss sequence has ended (R340 step 9) -/
  | lossDone
  /-- the thermal halt sequence of R365 runs, steps 1 to 6 -/
  | haltFlush
  /-- halted by temperature (R365 step 7) -/
  | halted
  /-- the recovery state (R349) -/
  | recovery
  /-- power state P4 (R323) -/
  | p4
deriving DecidableEq, Repr

/-- A stop of the Clove cores (R33, R165): a Clove fault of a core, or a firmware activation with its handle or NVMe
command. -/
structure CloveStop where
  activation : Bool
  core : Nat
  startedUs : Nat
  previousVersion : Nat
  newSlot : Nat
  handle : Option (BitVec 32)
  nvmeCid : Option (BitVec 16)
deriving DecidableEq, Repr

/-- Phase, milestones, pins and resets. -/
structure Life where
  /-- present phase (R343, R344) -/
  phase : Phase
  /-- firmware start reached, ID_MILESTONE.FW_START (R418) -/
  fwStart : Bool
  /-- capture-ready reached (R343, R418) -/
  captureReady : Bool
  /-- map-ready reached (R343, R418) -/
  mapReady : Bool
  /-- ID_MILESTONE.CLEAN: this start was clean (R351, R418) -/
  clean : Bool
  /-- ID_MILESTONE.FIRST: first start of a new module (R352, R418) -/
  first : Bool
  /-- level of RESET_N, true high (R437) -/
  resetN : Bool
  /-- level of PLD_N, true high (R437) -/
  pldN : Bool
  /-- level of PERST_N, true high (R116, R327) -/
  perstN : Bool
  /-- the power-loss sequence running was started by RESET_N alone (R164, R340, R388) -/
  lossByReset : Bool
  /-- the start now under way is the first after a power-up or hub reset and no record of it is written (R379) -/
  bootRecordDue : Bool
  /-- the Clove stop in progress (R33, R165) -/
  stop : Option CloveStop
  /-- lasting faults of Saffron blocks in the present run of R346 (R373) -/
  runBlockFaults : List UnitId
  /-- GET_INVENTORY's and R348's memory of power-ups for STATS_READ (R137) -/
  powerUps : Nat
  /-- µs powered before this power-up, for SMART's power-on hours (R103) -/
  poweredUs : Nat
  /-- unclean shutdowns for STATS_READ (R137, R351) -/
  uncleanShutdowns : Nat
deriving DecidableEq, Repr

/-- The counters of the always-on island (R319). -/
structure Clock where
  /-- µs since power-up, 48 bits: event timestamps and ID_UPTIME (R319, R419) -/
  us : Nat
  /-- real-time counter, 48 bits of 32.768 kHz crystal ticks (R319) -/
  rtc : Nat
  /-- millionths of a crystal tick counted so far (R319) -/
  rtcFrac : Nat
  /-- wall-clock time in µs since 1970, none while unknown (R239, R240) -/
  utc : Option Nat
  /-- PWR_STATE.XTAL_FAIL (R320, R341) -/
  xtalFail : Bool
deriving DecidableEq, Repr

/-! ## Capture link -/

/-- Bundle states in the order of their codes (R46). -/
inductive Bundle where
  | down | await | acquire | track | cwlock | tune | deskew | up | retrain | halted
deriving DecidableEq, Repr

/-- One received codeword of a lane, waiting for its set (R45). -/
structure LaneCw where
  index : Nat
  idle : Bool
  /-- uncorrectable -/
  bad : Bool
  /-- stage of a byte parity failure, 0 none (R253) -/
  parity : Nat
  /-- the data words, descrambled, LCWs and alignment marker taken out (R42, R43) -/
  words : List Word64
  /-- for each of them: the lane held bit mode where it stood (R62) -/
  modes : List Bool
deriving DecidableEq, Repr

/-- One receive lane, by ball pair (R421, R422). -/
structure Lane where
  /-- announced logical lane number (R37, R40) -/
  logical : Option Nat
  /-- locked (R421) -/
  lock : Bool
  /-- P/N inversion corrected (R37) -/
  inverted : Bool
  /-- signal detected (R46) -/
  signal : Bool
  /-- figure of merit of the last TUNE (R55, R421) -/
  fom : Nat
  /-- TRAIN commands of values 0 to 3 sent in the last TUNE (R55) -/
  trains : Nat
  /-- the closing TRAIN command of this TUNE is sent (R55) -/
  tuneDone : Bool
  /-- uncorrectable codewords since CAPTURE_LINK_UP, 32 bits saturating (R421) -/
  uncorr : Nat
  /-- corrected symbols since CAPTURE_LINK_UP, 32 bits saturating (R421) -/
  corr : Nat
  /-- consecutive LCWs with a bad check or block count (R49) -/
  badLcw : Nat
  /-- consecutive uncorrectable codewords (R49) -/
  badCw : Nat
  /-- word position of the next word received (R42) -/
  position : Nat
  /-- index of the next codeword (R40) -/
  cwIndex : Nat
  /-- alignment codewords seen since the start delimiter (R41) -/
  amCount : Nat
  /-- block count the next LCW must carry: one more than the previous LCW's, modulo 2^32 (R42) -/
  lcwDue : Word32
  /-- PRBS58 state of the descrambler (R43) -/
  scrambler : BitVec 58
  /-- bit mode holds because of this lane: an uncorrectable codeword and no good LCW after it (R62) -/
  bitMode : Bool
  /-- codewords received and not yet part of a set (R45) -/
  fifo : List LaneCw
deriving DecidableEq, Repr

/-- What a CAPTURE_LINK_UP changes, as it found it (R131). -/
structure LinkBefore where
  window : Nat
  forceFull : Bool
  epoch : BitVec 8
  granted : Word32
  consumed : BitVec 48
  entered : Bool
  fastFails : Nat
  lastFast : Bool
  skew : Nat
  retrains : Nat
  /-- uncorrectable codewords, corrected symbols and figure of merit of each lane -/
  counts : List (Nat × Nat × Nat)
deriving DecidableEq, Repr

/-- The bundle, IB and the credits (R46 to R57, R421). -/
structure Link where
  /-- bundle state (R46) -/
  state : Bundle
  /-- attempt number of STATUS, 8 bits (R48) -/
  attempt : BitVec 8
  /-- credit epoch, 8 bits (R54) -/
  epoch : BitVec 8
  /-- UP has been entered since CAPTURE_LINK_UP (R54) -/
  entered : Bool
  /-- granted credits G, 32 bits (R56) -/
  granted : Word32
  /-- the grant is frozen (R46, R57) -/
  frozen : Bool
  /-- HALTED was entered from UP: data within the grant is still received (R57) -/
  haltedUp : Bool
  /-- bytes consumed C in the epoch, counted modulo 2^32 credits (R56) -/
  consumed : BitVec 48
  /-- credit window W (R57, R421) -/
  window : Nat
  /-- force-full-path bit of CAPTURE_LINK_UP (R47) -/
  forceFull : Bool
  /-- failed fast attempts in a row (R47) -/
  fastFails : Nat
  /-- the attempt under way takes the fast path (R47) -/
  fastNow : Bool
  /-- CAP_STATUS.PATH: last path, true fast (R421) -/
  lastFast : Bool
  /-- IB runs: it sends blocks and messages (R46, R50) -/
  ibOn : Bool
  /-- link-going-down flag (R51) -/
  goingDown : Bool
  /-- IB message sequence byte (R50) -/
  seq : BitVec 8
  /-- register of IB's self-synchronising scrambler (R38) -/
  ibScrambler : BitVec 58
  /-- CAP_SKEW: greatest lane skew at the last DESKEW in ns (R421) -/
  skew : Nat
  /-- retrains since CAPTURE_LINK_UP, 16 bits saturating (R421) -/
  retrains : Nat
  /-- the eight receive lanes, by ball (R421) -/
  lanes : List Lane
  /-- what a live CAPTURE_LINK_UP found, for a cancel (R131) -/
  before : Option LinkBefore
deriving DecidableEq, Repr

/-- The header fields the parser works with (R59). -/
structure Header where
  stream : Nat
  frame : Nat
  flags : BitVec 8
  length : Nat
  timecode : Option (BitVec 64)
deriving DecidableEq, Repr

/-- The frame open on the bundle (R58, R70, R80). -/
structure OpenFrame where
  header : Header
  /-- payload bytes received -/
  received : Nat
  /-- payload and pad words still to come -/
  wordsLeft : Nat
  /-- payload bits of the unfinished unit, byte 0 lowest, and their count in bytes -/
  partBits : Nat
  partBytes : Nat
  startLba : Nat
  /-- whole units stored -/
  units : Nat
  /-- its index entry's slot -/
  slot : Nat
  damaged : Bool
  /-- a byte parity failure at W6 or W7 struck the unfinished unit: its guard will not match (R253) -/
  badGuard : Bool
  /-- ING_STALL is written and no word has arrived since (R63) -/
  stallLogged : Bool
  /-- no word that arrives continues it (R49, R57) -/
  cut : Bool
deriving DecidableEq, Repr

/-- A run of discarded words (R62, R81, R388). -/
structure DiscardRun where
  cause : Nat
  stream : Nat
  /-- bits passed over, 64 to a word -/
  bits : Nat
  startedUs : Nat
deriving DecidableEq, Repr

/-- The frame parser and stream router's view of the bundle (R62, R63, R81). -/
structure Parser where
  /-- bundle bits received, first bit lowest: up to 256 bytes already passed, then those not yet parsed (R44, R63) -/
  bits : Nat
  /-- their number -/
  len : Nat
  /-- how many of them are passed: the parser's position -/
  pos : Nat
  /-- bit offsets of the words from uncorrectable codewords or failed parity checks: offset, parity stage (R63, R253) -/
  bad : List (Nat × Nat)
  /-- for each buffered word: bit mode held at its position (R62) -/
  modes : List Bool
  /-- bit positions where what follows does not continue what stands before: a retrain, or words beyond the grant
  (R49, R57) -/
  gaps : List Nat
  /-- the parser searches; otherwise it expects a header at the front (R62) -/
  searching : Bool
  /-- the frame open on the bundle -/
  frame : Option OpenFrame
  /-- words of a frame being discarded whole, still to come (R81) -/
  skipWords : Nat
  /-- the discard run in progress -/
  run : Option DiscardRun
deriving DecidableEq, Repr

/-- One 64b/66b block of IB: sync header and scrambled payload (R38, R50). -/
structure IbBlock where
  sync : BitVec 2
  payload : Word64
deriving DecidableEq, Repr

/-- What the parser finds at its position (R61 to R63): too few words to tell, a header with the bit offset of its
payload and whether it was rebuilt from its copy, or no header. -/
inductive Front where
  | wait
  | header (h : Header) (payload : Nat) (rebuilt : Bool)
  | nothing
deriving DecidableEq, Repr

/-! ## Streams and takes -/

/-- Stream states in the order of their codes (R68). -/
inductive StreamState where
  | closed | armed | open_ | full | draining
deriving DecidableEq, Repr

/-- A window of LBAs (R66). -/
structure Window where
  start : Nat
  length : Nat
deriving DecidableEq, Repr

/-- One 4 KiB unit of data with what travels beside it (R73, R182, R250). `lost` marks a lost unit (R254). -/
structure Unit4k where
  data : UnitData
  guard : Word32
  pi : BitVec 64
  lost : Bool
deriving DecidableEq, Repr

/-- A frame index entry in the device's copy (R74 to R76). -/
structure IndexEntry where
  frame : Nat
  frameFlags : BitVec 8
  indexFlags : BitVec 16
  startLba : Nat
  stream : Nat
  length : Nat
  timecode : BitVec 64
  units : Nat
  /-- placed: every unit of the frame is durable (R76) -/
  placed : Bool
  /-- number of the first index unit write that carries it, 0 while none does (R76) -/
  written : Nat
  /-- the frame has ended: length and units are final (R70, R80) -/
  ended : Bool
deriving DecidableEq, Repr

/-- A capture stream (R66 to R81). -/
structure Stream where
  /-- stream ID (R66) -/
  sid : Nat
  /-- state (R68) -/
  state : StreamState
  /-- namespace (R66) -/
  ns : Nat
  /-- 1 MiB frame alignment (R66, R70) -/
  align1M : Bool
  /-- stall timer in ms (R66) -/
  stallMs : Nat
  /-- base frame number (R66) -/
  base : Nat
  /-- take ID, 0xFFFF none (R66) -/
  take : Nat
  /-- data windows of this open, oldest first, and the number of the one in use (R72) -/
  dataWindows : List Window
  dataCur : Nat
  /-- index windows of this open, oldest first (R72) -/
  indexWindows : List Window
  /-- write point LBA (R70) -/
  writePoint : Nat
  /-- last frame number taken; base − 1 before the first (R81) -/
  last : Int
  /-- frames taken, 64 bits (R137) -/
  frames : Nat
  /-- short frames (R137) -/
  shorts : Nat
  /-- frames discarded (R137) -/
  discards : Nat
  /-- STREAM_WINDOW_FULL for low water already logged (R72) -/
  lowLogged : Bool
  /-- units held back, with the LBA of each, oldest first (R71) -/
  held : List (Nat × Unit4k)
  /-- units of the segment being filled that went out before it filled: a whole-segment write covers them again (R71) -/
  sent : List (Nat × Unit4k)
  /-- index entries of this open, entry 0 first (R76) -/
  entries : List IndexEntry
  /-- slots of commit frames not yet acknowledged, oldest first (R78) -/
  commits : List Nat
  /-- index unit writes made in this open (R76) -/
  indexWrites : Nat
  /-- the stream state record is lost and being rebuilt (R289) -/
  rebuilding : Bool
  /-- µs at which a frame of the stream was last taken or open (R84) -/
  lastTakenUs : Nat
deriving DecidableEq, Repr

/-- A take (R69). -/
structure Take where
  tid : Nat
  members : Nat
  /-- members not CLOSED yet -/
  ids : List Nat
  live : Bool
  closing : Bool
  /-- members closed, and index entries placed of those -/
  closed : Nat
  placed : Nat
deriving DecidableEq, Repr

/-- Streams, takes and the shares of the write buffer (R66 to R84). -/
structure Streams where
  /-- streams opened since power-up, at most one record per ID (R66) -/
  list : List Stream
  /-- takes in use (R69) -/
  takes : List Take
  /-- capture floor Fc in MiB (R82) -/
  fc : Nat
  /-- NVMe floor Fn in MiB (R82) -/
  fn : Nat
  /-- a backpressure episode is in progress (R84) -/
  backpressure : Bool
  /-- echoes whose repeat copy is due: stream and frame (R64) -/
  repeats : List (Nat × Nat)
deriving DecidableEq, Repr

/-! ## Ordering -/

/-- What a write is (R144). -/
inductive WriteKind where
  | write | zeroes | deallocate | captureData | indexUnit | secureDiscard | fold
deriving DecidableEq, Repr

/-- Where part of a write lies on flash (R177, R180): superblock, offset of its first unit, first unit of the write,
units. -/
structure Place where
  sb : Nat
  off : Nat
  first : Nat
  count : Nat
deriving DecidableEq, Repr

/-- A write from W6 until the map holds it (R146, R150, R180). A write waiting for W7 has `seq` 0. -/
structure Write where
  seq : Nat
  kind : WriteKind
  src : Source
  ns : Nat
  lba : Nat
  len : Nat
  /-- further ranges of a Dataset Management command: LBA and length (R144) -/
  more : List (Nat × Nat)
  /-- the units' data; empty for zeroes, deallocates and discards -/
  units : List Unit4k
  fua : Bool
  /-- Ordered Write: a queue fence goes in front at acceptance (R105) -/
  ordered : Bool
  /-- the NVMe command it serves -/
  cmd : Option (Nat × BitVec 16)
  /-- parts placed at W8 -/
  places : List Place
  /-- programmed with the stripe parity that covers it, or its record programmed as a ledger slot (R147) -/
  programmed : Bool
  /-- a deallocate or discard has been applied to the map (R202, R203) -/
  applied : Bool
  /-- number of an index unit write in its stream's open (R76) -/
  serial : Nat
  /-- it has been durable by a protected limit that was lowered since (R146, R160) -/
  latched : Bool
  /-- the slots of its record are appended to the ledger's journal (R154, R202, R203) -/
  recorded : Bool
deriving DecidableEq, Repr

/-- An accepted fence (R152, R153). Scope 0 is its source, 1 a namespace, 2 the device. -/
structure FenceRec where
  seq : Nat
  scope : Nat
  src : Source
  ns : Nat
  cmd : Option (Nat × BitVec 16)
deriving DecidableEq, Repr

/-- What waits for W7: a write or a fence (R144). -/
inductive Waiting where
  | write (w : Write)
  | fence (f : FenceRec)
deriving DecidableEq, Repr

/-- Acceptance, the Overlap Directory and the write buffer (R144 to R164). -/
structure Ordering where
  /-- next sequence number, 64 bits (R144, R145) -/
  next : Nat
  /-- top of the block reserved in the ledger (R145) -/
  top : Nat
  /-- received at W6, or fences raised, waiting for W7, oldest first (R146, R79) -/
  waiting : List Waiting
  /-- accepted and not yet programmed and mapped, in acceptance order: write buffer and Overlap Directory (R150) -/
  accepted : List Write
  /-- accepted fences not yet satisfied, in acceptance order (R153) -/
  fences : List FenceRec
deriving DecidableEq, Repr

/-! ## NVMe -/

/-- Where a fetched command stands (R94, R111). -/
inductive CmdStage where
  /-- fetched, not yet begun; a Clove stop holds it here (R33) -/
  | fetched
  /-- begun: a write waits for W7 or is accepted, a read resolves -/
  | running
deriving DecidableEq, Repr

/-- A fetched NVMe command whose completion is not posted. -/
structure Cmd where
  sq : Nat
  sqe : Sqe
  stage : CmdStage
  /-- sequence number of its write or fence, 0 while not accepted (R105, R107) -/
  seq : Nat
  /-- last sequence number issued when a Flush began: it waits for the writes up to it (R109) -/
  flushUpTo : Nat
  /-- a read that began waits for the map, a fence or an earlier command (R112, R115, R155) -/
  waits : Bool
  /-- units of a read found so far, by LBA; none while its flash read runs -/
  got : List (Option Unit4k)
  /-- which of them were taken from the write buffer (R26, R27) -/
  hits : List Nat
  /-- first failing LBA of a read that ended without good data (R256) -/
  failed : Option Nat
deriving DecidableEq, Repr

/-- A completion queue entry (R94, R105). -/
structure Cqe where
  dw0 : Word32
  dw1 : Word32
  sqHead : Nat
  sqId : Nat
  cid : BitVec 16
  phase : Bool
  sct : Nat
  sc : Nat
  dnr : Bool
  /-- while the entry waits to be posted: the command has not passed its point of no return (R111) -/
  early : Bool
deriving DecidableEq, Repr

/-- A submission queue (R94). -/
structure Sq where
  id : Nat
  size : Nat
  cq : Nat
  prio : Nat
  head : Nat
  tail : Nat
  /-- entries published by the doorbell and not fetched (R91) -/
  entries : List Sqe
deriving DecidableEq, Repr

/-- A completion queue (R94, R97). -/
structure Cq where
  id : Nat
  size : Nat
  vector : Nat
  ien : Bool
  head : Nat
  tail : Nat
  phase : Bool
  /-- entries posted and not yet freed by the head doorbell, oldest first; then those that wait for a free slot -/
  entries : List Cqe
  overflow : List Cqe
  /-- entries posted since the vector's last message (R97) -/
  aggregated : Nat
deriving DecidableEq, Repr

/-- A namespace (R98, R99, R172, R204). -/
structure Namespace where
  id : Nat
  /-- first segment index and number of segments (R172) -/
  base : Nat
  size : Nat
  /-- LBA format 0 or 1 (R99) -/
  fmt : Nat
  /-- protection type: 0, 1 or 3 (R99) -/
  pi : Nat
  /-- epoch (R204) -/
  epoch : Nat
  attached : Bool
  /-- I/O completes with Format In Progress (R114) -/
  formatting : Bool
deriving DecidableEq, Repr

/-- Sanitize under way (R114). -/
inductive Sanitize where
  | none | blockErase | cryptoErase
deriving DecidableEq, Repr

/-- An entry of the Error Information log (R256). -/
structure ErrorEntry where
  ns : Nat
  lba : Nat
  sq : Nat
  cid : BitVec 16
deriving DecidableEq, Repr

/-- The NVMe controller (R91 to R118). -/
structure Nvme where
  /-- CC, 32 bits (R115, R116) -/
  cc : Word32
  /-- CSTS.RDY (R115) -/
  rdy : Bool
  /-- CSTS.SHST: 0 none, 1 in progress, 2 complete (R116) -/
  shst : Nat
  /-- CSTS.CFS (R349, R365) -/
  cfs : Bool
  /-- admin queue attributes, 32 bits, and admin queue addresses, 64 bits (R92) -/
  aqa : Word32
  asq : Word64
  acq : Word64
  /-- submission queues that exist, the admin queue with identifier 0 (R94) -/
  sqs : List Sq
  /-- completion queues that exist (R94) -/
  cqs : List Cq
  /-- queues granted by Number of Queues: submission, completion (R94) -/
  grantedSq : Nat
  grantedCq : Nat
  /-- commands fetched and not completed (R94, R111) -/
  cmds : List Cmd
  /-- Arbitration feature dword (R97) -/
  arbitration : Word32
  /-- NVMe power state set (R328) -/
  powerState : Nat
  /-- temperature thresholds in K, over then under, for TMPSEL 0 to 5 (R363) -/
  tempOver : List Nat
  tempUnder : List Nat
  /-- completions that wait for the end of a Clove stop: queue, entry (R33) -/
  held : List (Nat × Cqe)
  /-- host WCE (R110) -/
  wce : Bool
  /-- aggregation threshold, entries, and time in 100 µs steps (R97) -/
  coalesceThreshold : Nat
  coalesceTime : Nat
  /-- Autonomous Power State Transition: enabled, and the host's table (R328) -/
  apstOn : Bool
  apst : List (BitVec 64)
  /-- identifiers of outstanding Asynchronous Event Requests (R103) -/
  aers : List (BitVec 16)
  /-- SMART critical warning byte (R110, R363) -/
  critical : BitVec 8
  /-- Media and Data Integrity Errors (R256) -/
  mediaErrors : Nat
  /-- Error Information log, newest first, 256 entries (R103, R256) -/
  errors : List ErrorEntry
  /-- samples counted toward Warning and Critical Composite Temperature Time, in ms (R363) -/
  warnMs : Nat
  critMs : Nat
  /-- Sanitize under way, and whether one has completed (R114) -/
  sanitize : Sanitize
  sanitized : Bool
  /-- secure erase setting of the Format under way (R114, R353) -/
  formatSes : Nat
  /-- the MSI-X table: the bits that differ from their reset values, in canonical form (R91) -/
  msix : List Host.Cell
  /-- vectors whose pending bit is set (R91) -/
  pba : List Nat
  /-- MSI-X: enabled, and every vector masked (R89) -/
  msixEnabled : Bool
  msixMasked : Bool
  /-- the one MSI vector: enabled, message address and data (R89) -/
  msiEnabled : Bool
  msiAddress : Word64
  msiData : BitVec 16
  /-- addresses of the NVMe register space, the DRS and the MSI-X table space (R91) -/
  bars : List Word64
  /-- the I/O queue served last, by priority class (R97) -/
  turns : List Nat
  /-- read and write commands completed for the host, for SMART (R103) -/
  hostReads : Nat
  hostWrites : Nat
  /-- pieces of Firmware Image Download: offset and length in bytes (R400) -/
  download : List (Nat × Nat)
  /-- slot selected for the next controller-level reset or power-up (R116) -/
  nextSlot : Option Nat
  /-- bytes read and written by the host, for STATS_READ and SMART (R137) -/
  bytesRead : Nat
  bytesWritten : Nat
  /-- namespaces (R98) -/
  namespaces : List Namespace
deriving DecidableEq, Repr

/-! ## Mailboxes, I3C, handles, ring, pins -/

/-- MBX_STATUS_n.STATE (R123). -/
inductive MbxState where
  | idle | busy | done
deriving DecidableEq, Repr

/-- A mailbox's registers (R122, R123). -/
structure Mbx where
  state : MbxState
  owner : Option Path
  overrun : Bool
  latched : Bool
  code : BitVec 16
  /-- the running request was rung with IRQ (R122, R135) -/
  irq : Bool
  /-- path of the ring now running (R133, R138) -/
  ringPath : Path
  /-- the response in the area has been answered and its DONE not yet read, and was rung with IRQ (R135) -/
  unreadDone : Bool
deriving DecidableEq, Repr

/-- The mailboxes and their interrupts (R119 to R126, R135). -/
structure Mailboxes where
  /-- mailboxes 0 to 15 -/
  box : List Mbx
  /-- request and response areas, keyed by DRS offset, in canonical form (R119) -/
  mem : List Host.Cell
  /-- an MSI-X message may be sent: none is outstanding (R135) -/
  msixArmed : Bool
  /-- an in-band interrupt may be raised (R135) -/
  ibiArmed : Bool
deriving DecidableEq, Repr

/-- The I3C target (R127, R128). -/
structure I3cTarget where
  /-- dynamic address -/
  addr : Option (BitVec 7)
  /-- in-band interrupts enabled by ENEC -/
  ibiOn : Bool
  /-- maximum write and read lengths -/
  mwl : BitVec 16
  mrl : BitVec 16
  /-- window offset of the last private write -/
  offset : Nat
  /-- 48-bit provisional ID from the configuration store -/
  pid : BitVec 48
deriving DecidableEq, Repr

/-- A live handle (R129 to R131). `subject` is what it works on: unit ID, namespace, stream, take or slot. -/
structure Handle where
  value : BitVec 32
  opcode : BitVec 16
  mbx : Nat
  path : Path
  acceptedUs : Nat
  /-- the cancel point is passed (R140) -/
  past : Bool
  subject : Nat
  /-- second parameter: length, take members closed, entries, bytes relocated -/
  aux : Nat
deriving DecidableEq, Repr

/-- A retired handle kept for HANDLE_QUERY (R130). -/
structure Retired where
  value : BitVec 32
  opcode : BitVec 16
  status : BitVec 16
  ms : Nat
deriving DecidableEq, Repr

/-- The handle table (R129, R130). -/
structure Handles where
  live : List Handle
  /-- newest first, at most 256 -/
  retired : List Retired
  /-- generation the next handle carries, 1 to 0xFF_FFFF (R129) -/
  generation : Nat
deriving DecidableEq, Repr

/-- A completion ring entry, less its phase bit and number (R133). -/
structure RingBody where
  type : Nat
  issuedI3c : Bool
  status : BitVec 16
  subject : Word32
  opcode : BitVec 16
  mbx : Nat
  /-- the 16 result bytes, byte 12 lowest -/
  result : BitVec 128
deriving DecidableEq, Repr

/-- A posted ring entry (R133). -/
structure RingEntry where
  body : RingBody
  phase : Bool
  number : Word32
deriving DecidableEq, Repr

/-- The completion ring (R132 to R135). -/
structure Ring where
  /-- CRG_TAIL.TAIL -/
  tail : Nat
  /-- CRG_TAIL.PHASE -/
  phase : Bool
  /-- CRG_HEAD_PCIE.HEAD and CRG_HEAD_I3C.HEAD -/
  headPcie : Nat
  headI3c : Nat
  /-- unread entries of each consumer, 0 to 1,024 -/
  unreadPcie : Nat
  unreadI3c : Nat
  /-- CRG_CTRL -/
  pcieEn : Bool
  i3cEn : Bool
  overflow : Bool
  vector : Nat
  /-- slots written, by slot number -/
  slots : List (Nat × RingEntry)
  /-- entries waiting for a slot, oldest first (R134) -/
  backlog : List RingBody
  /-- commit notices dropped since the last overflow marker (R134) -/
  dropped : Nat
  /-- entries posted since the last power-up or hub reset (R133) -/
  number : Word32
deriving DecidableEq, Repr

/-- A multi-function pin (R141, R423). -/
structure Pin where
  function : Nat
  activeLow : Bool
  persist : Bool
  arg : Word32
  /-- the function's logical level, before active-low inversion -/
  on : Bool
  /-- a fault event has occurred and the 100 ms run (R141) -/
  faultDue : Bool
deriving DecidableEq, Repr

/-! ## Power, hold-up, thermal -/

/-- Power states and what bounds them (R319 to R331, R341). -/
structure Power where
  /-- PWR_STATE.STATE, 0 to 4 (R323) -/
  state : Nat
  /-- Lorard depth (R324) -/
  depthLorard : Nat
  /-- D3hot (R324) -/
  d3hot : Bool
  /-- the PCIe link is in L1 or an L1 substate (R323) -/
  l1 : Bool
  /-- wake sources of the last POWER_SET_STATE: bit 0 PCIe, 1 I3C, 2 timer (R326) -/
  wakeSources : BitVec 8
  /-- timer wake in ms, 0 none (R326) -/
  timerWake : Nat
  /-- P4 entry runs: its CLEAN slot is appended (R325) -/
  entering : Bool
  /-- PWR_STATE.BACKGROUND (R324) -/
  background : Bool
  /-- WAKE_N asserted (R327) -/
  wakeN : Bool
  /-- PERST_N has been asserted since P4 entry (R327) -/
  perstSeen : Bool
  /-- PLLs that do not lock: failed twice, or lock lost (R322) -/
  pllBad : BitVec 8
  /-- PWR_PLL.FAIL; RUN and LOCK follow from the clocked domains (R322, R341) -/
  pllFail : BitVec 8
deriving DecidableEq, Repr

/-- A hold-up test in progress (R335, R339). -/
structure HoldupRun where
  /-- a scheduled test, not started by HOLDUP_TEST -/
  scheduled : Bool
  /-- handle of the HOLDUP_TEST that started or joined it -/
  handle : Option (BitVec 32)
  restUv : Nat
  loadedUv : Nat
  /-- step 2 of R335 is passed -/
  loaded : Bool
deriving DecidableEq, Repr

/-- The hold-up measurement (R334 to R339, R158). -/
structure Holdup where
  /-- PWR_STATE.MODE: Protected mode (R158) -/
  protectedMode : Bool
  /-- last verdict: 0 none, 1 pass, 2 degraded, 3 absent (R337) -/
  verdict : Nat
  /-- protected limit in force, MiB (R336, R338) -/
  limit : Nat
  /-- limit of the last test, MiB (R338) -/
  testLimit : Nat
  /-- V_r of the last test in µV at the store (R338) -/
  restUv : Nat
  /-- C in 0.1 mF and ESR in 0.1 mΩ (R336, R341) -/
  cap : Nat
  esr : Nat
  /-- energy in mJ (R336) -/
  energy : Nat
  /-- PWR_HOLDUP.SENSE, 12 bits (R341) -/
  sense : Nat
  /-- HU_TEST_N low (R334, R341) -/
  testLow : Bool
  /-- the test in progress (R335) -/
  run : Option HoldupRun
  /-- UTC µs of the last test, 0 unknown (R137) -/
  lastUtc : Nat
  /-- µs counter at the last test (R339) -/
  lastUs : Nat
  /-- the start-up test has run (R339) -/
  startDone : Bool
  /-- a scheduled test that fell due in P3 and runs after the next resume (R331) -/
  due : Option HoldupDue
  /-- writes ahead of all other work: sequence numbers up to this one (R160, R338) -/
  flushAhead : Nat
deriving DecidableEq, Repr

/-- A junction sensor (R355 to R357, R367). -/
structure Sensor where
  /-- last reading in 0.1 °C, none when not yet sampled or excluded -/
  reading : Option Int
  valid : Bool
  /-- excluded, THM_EXCLUDED (R357, R367) -/
  excluded : Bool
  /-- consecutive deviating samples, 0 to 3 -/
  deviate : Nat
  /-- consecutive agreeing samples of an excluded sensor, to 1,000 -/
  agree : Nat
  /-- excluded as a fenced unit until re-admission (R373) -/
  fenced : Bool
deriving DecidableEq, Repr

/-- Thermal levels (R359). -/
inductive ThermalLevel where
  | normal | warn | throttle | halted
deriving DecidableEq, Repr

/-- Thermal management (R355 to R367). -/
structure Thermal where
  sensors : List Sensor
  /-- reported temperature in 0.1 °C (R356) -/
  temp : Int
  level : ThermalLevel
  /-- throttle step 0 to 4 (R361) -/
  step : Nat
  /-- rise rate in 0.1 °C/s (R360) -/
  rate : Int
  rateWarn : Bool
  /-- predicted seconds to throttle, 0xFFFF none (R360) -/
  predict : Nat
  /-- reported temperatures of the slope window, newest first (R360) -/
  history : List Int
  /-- the readings of the history came 1 s apart, as in P3 and P4 (R358, R360) -/
  slow : Bool
  /-- one more than the ms the reported temperature has stayed below the warn threshold less 3 °C, 0 when it is not
  (R359) -/
  coolMs : Nat
  /-- one more than the ms the rate has stayed at or above 5.0 °C/s, 0 when it is not (R360) -/
  steepMs : Nat
  /-- junction warn threshold in °C, NAND die limit in °C, rise-rate warning in 0.1 °C/s (R359, R362) -/
  warnC : Nat
  dieLimitC : Nat
  rateWarnAt : Nat
  /-- THERM_N asserted (R364) -/
  thermN : Bool
  /-- flash dies at their limit (R362) -/
  hotDies : List Nat
  /-- the flush of the thermal halt may start no row program: 120 °C was reached (R365) -/
  over120 : Bool
  /-- events found in P3 or P4, to be logged after the resume: event code, unit, data, µs (R358) -/
  deferred : List (BitVec 16 × UnitId × BitVec 64 × Nat)
deriving DecidableEq, Repr

/-! ## Translation, placement and media -/

/-- Ledger states in the order of their codes (R186). -/
inductive SbState where
  | erased | dirty | granted | closed | retired | absent
deriving DecidableEq, Repr

/-- Kinds of units on flash, as metadata codes them (R182). -/
inductive UnitKind where
  | write | gcCopy | fold | pad | summary
deriving DecidableEq, Repr

/-- A unit placed in a superblock with the metadata it carries (R182). Data under a media key is held as the plaintext
with the generation of its key. -/
structure FlashUnit where
  off : Nat
  seq : Nat
  lba : Nat
  ns : Nat
  source : BitVec 16
  relocation : BitVec 8
  /-- part count: units of this write placed together in this 2 MiB unit -/
  part : Nat
  kind : UnitKind
  keyGen : Nat
  content : Unit4k
deriving DecidableEq, Repr

/-- A superblock (R169 to R171, R182 to R187). -/
structure Superblock where
  number : Nat
  state : SbState
  /-- ledger flags: no summary, blank check pending, holds overlay units (R187) -/
  noSummary : Bool
  blankPending : Bool
  overlay : Bool
  /-- active or standby in the granted set (R176) -/
  active : Bool
  /-- the GRANT slot is durable: the map engine may write (R32, R188) -/
  usable : Bool
  /-- erase count, the highest over the members (R197) -/
  eraseCount : Nat
  /-- erase count of each member block, by channel; empty for none (R183) -/
  memberErases : List Nat
  /-- a die of it has a bad position and no spare: it is RETIRED once nothing valid is left in it (R170) -/
  retireDie : Option Nat
  grantUtc : Nat
  closeStamp : Nat
  summaryStart : Nat
  summaryLength : Nat
  /-- channels left out of its layout (R375) -/
  leftOut : List Nat
  /-- units placed so far, pad and summary included (R178) -/
  fill : Nat
  units : List FlashUnit
  /-- rows sent for programming, and rows programmed with their parity (R179) -/
  rowsSent : List Nat
  rowsDone : List Nat
  /-- µs at the first placement (R178) -/
  openedUs : Nat
  /-- µs since power-up of the first program, and its wall-clock time once known (R239) -/
  firstUs : Option Nat
  firstUtc : Option Nat
  /-- die temperature at first and at last program, by channel (R183) -/
  firstTemps : List Int
  lastTemps : List Int
  /-- relocation wanted by scrub (R249) -/
  relocate : Bool
  /-- page reads each member block has served since its last program, by channel; empty for none (R248) -/
  reads : List Nat
deriving DecidableEq, Repr

/-- A ledger journal slot (R189). -/
inductive Slot where
  | grant (seq sb : Nat) (standby : Bool) (utc : Nat)
  | close (stamp sb start len : Nat) (noSummary : Bool)
  | dirty (sb : Nat)
  | erased (sb count : Nat)
  | retire (sb die : Nat)
  | remap (die pos block : Nat)
  | seqBlock (top : Nat)
  | deallocate (seq ns first count : Nat)
  | secureDiscard (seq ns : Nat) (handle : BitVec 32) (lba len : Nat)
  | namespace_ (seq ns action base size fmt pi : Nat)
  | clean (seq : Nat)
deriving DecidableEq, Repr

/-- One of the three ledger copies (R170, R188): the channel of its site, the system block in use there, and the slots
that stand on this copy only. -/
structure LedgerCopy where
  channel : Nat
  block : Nat
  extra : List Slot
deriving DecidableEq, Repr

/-- A segment map entry (R173) with the sequence number its mapping was made at (`seq_of` of R191). -/
structure SegEntry where
  seg : Nat
  sb : Nat
  off : Nat
  mapped : Bool
  overlaid : Bool
  foldPending : Bool
  ovlNumber : Nat
  seq : Nat
deriving DecidableEq, Repr

/-- An overlay entry (R174): `sb` 0x1_FFFF reads as zeros. -/
structure OvlEntry where
  ovlNumber : Nat
  unit : Nat
  /-- bucket it sits in -/
  bucket : Nat
  sb : Nat
  off : Nat
  foldMark : Bool
  seq : Nat
deriving DecidableEq, Repr

/-- Copies from a superblock that are to be redone: their source, the superblock they were placed in, and how often
copies from the source have been redone (R200). -/
structure Move where
  src : Nat
  target : Nat
  redone : Nat
deriving DecidableEq, Repr

/-- Where a unit lies by the map (R175). -/
inductive Loc where
  | zeros
  | flash (sb off : Nat)
  | lost
deriving DecidableEq, Repr

/-- Translation, placement and the ledger (R169 to R206). -/
structure Translation where
  /-- superblocks known to the ledger -/
  sbs : List Superblock
  /-- segment map (R173) -/
  segments : List SegEntry
  /-- overlay (R174) -/
  overlay : List OvlEntry
  /-- stripe group the next write part starts in (R176) -/
  nextGroup : Nat
  /-- slots appended and not yet durable, oldest first (R188) -/
  pendingSlots : List Slot
  /-- durable journal slots, newest first (R188) -/
  slots : List Slot
  /-- journal pages written since the last compaction, and the compaction number (R188) -/
  pages : Nat
  compaction : Nat
  /-- the base image's last sequence block top (R187, R190) -/
  blockTop : Nat
  /-- the namespace table as durable slots have made it (R187, R189) -/
  table : List Namespace
  copies : List LedgerCopy
  /-- remap tables: die, position, physical block (R170) -/
  remaps : List (Nat × Nat × Nat)
  /-- spares left per die where fewer than 24: die, count (R170) -/
  sparesUsed : List (Nat × Nat)
  /-- an overlay-full episode is in progress (R205) -/
  overlayFull : Bool
  /-- garbage collection runs in these stripe groups (R194) -/
  gcGroups : List Nat
  /-- copies to be redone (R200) -/
  moves : List Move
  /-- µs at the last static wear-levelling move of a stripe group (R197) -/
  staticMoves : List (Nat × Nat)
  /-- segments marked map-lost (R255) -/
  mapLost : List Nat
  /-- parts dropped by the last rebuild and superblocks it scanned (R193) -/
  partsDropped : Nat
  scanned : Nat
  /-- bytes copied by garbage collection, capture bytes stored (R137) -/
  gcBytes : Nat
  captureBytes : Nat
deriving DecidableEq, Repr

/-- Die states as UNIT_STATUS codes them (R216). -/
inductive DieState where
  | inService | fenced | stale | gated | absent
deriving DecidableEq, Repr

/-- The suspended operation of a die (R216). -/
inductive Suspended where
  | none | program | erase
deriving DecidableEq, Repr

/-- A routine context of a sequencer (R220, R222). -/
structure Context where
  job : Job
  pc : Nat
  /-- the 16 registers by number (R222): ZERO, TIME, GEN and JOB are derived when read, LINK holds what it reads
  while the call stack is empty -/
  regs : List Word32
  stack : List Nat
  z : Bool
  n : Bool
  ce : Nat
  committed : Bool
  /-- request pending: 0 none, 1 suspend, 2 halt (R225, R226) -/
  request : Nat
  /-- µs at which the routine started, moved on by the time it was parked (R222) -/
  startedUs : Nat
  /-- bytes left in the channel write FIFO for it (R223) -/
  fifo : List Byte
  /-- cycles and µs its waits have asked for (R223) -/
  waitCycles : Nat
  waitUs : Nat
deriving DecidableEq, Repr

/-- A routine context of a sequencer between two routines (R220). -/
structure Standing where
  pc : Nat
  regs : List Word32
  stack : List Nat
  z : Bool
  n : Bool
  ce : Nat
deriving DecidableEq, Repr

/-- Step-0 decodes of one page type on a die, with the bits corrected from 1 to 0 and from 0 to 1 (R241). -/
structure Tally where
  count : Nat
  ones : Nat
  zeros : Nat
deriving DecidableEq, Repr

/-- The die-state record, job queue and running routine of a flash die (R212, R216). -/
structure Die where
  index : Nat
  state : DieState
  qual : Nat
  /-- ONFI manufacturer ID (R137) -/
  maker : Nat
  featureGen : Nat
  timingSet : Nat
  dqDelays : BitVec 64
  thresholdIndex : Nat
  offsets : List Int
  suspended : Suspended
  suspends : Nat
  /-- µs since the operation's start or last resume, counted from this µs -/
  runFromUs : Nat
  temp : Int
  tempUs : Nat
  timeouts : Nat
  queue : List Job
  running : Option Context
  /-- the parked routine of the suspended operation, and the µs since power-up at which it was parked (R215, R216) -/
  parked : Option Context
  parkedUs : Nat
  /-- sequencer context that holds the parked routine (R216) -/
  contextSlot : Nat
  /-- µs at which a job entered the queue, by its identifier (R225) -/
  arrivals : List (Word32 × Nat)
  /-- identifiers of queued jobs that were abandoned for a read once (R225) -/
  abandoned : List Word32
  /-- a DIE_STALE_STATE record has been written for this episode (R219) -/
  staleLogged : Bool
  /-- reads served while the operation is parked (R215) -/
  readsServed : Nat
  /-- drift estimate: table index and offsets (R241) -/
  driftIndex : Nat
  drift : List Int
  /-- step-0 decodes of the lower, middle and upper page counted so far (R241) -/
  tallies : List Tally
  /-- reads each shift set has ended at step 1 (R242) -/
  setWins : List Nat
deriving DecidableEq, Repr

/-- The record of a die that is absent, as every one is until discovery (R211, R216). -/
def Die.absent (index : Nat) : Die where
  index := index
  state := .absent
  qual := 0xFFFF
  maker := 0
  featureGen := 0
  timingSet := 0
  dqDelays := 0
  thresholdIndex := 0xFFFF
  offsets := List.replicate 7 0
  suspended := .none
  suspends := 0
  runFromUs := 0
  temp := 0
  tempUs := 0
  timeouts := 0
  queue := []
  running := none
  parked := none
  parkedUs := 0
  contextSlot := 0
  arrivals := []
  abandoned := []
  staleLogged := false
  readsServed := 0
  driftIndex := 0xFFFF
  drift := List.replicate 7 0
  tallies := List.replicate 3 ⟨0, 0, 0⟩
  setWins := []

/-- CS_VERSION_n.STATE (R230). -/
inductive SeqState where
  | running | loading | fenced | gated
deriving DecidableEq, Repr

/-- A channel and its Cumin sequencer (R207 to R231). -/
structure Channel where
  /-- CS_VERSION_n (R230) -/
  patchVersion : Nat
  patchValid : Bool
  mismatch : Bool
  state : SeqState
  /-- patch RAM words from word 12,288, and redirected vectors (R221) -/
  patch : List Word32
  vectors : List (Nat × Nat)
  /-- patch version Saffron expects (R218) -/
  expected : Nat
  /-- die position that holds the bus (R214) -/
  bus : Option Nat
  /-- the chip enable asserted (R209) -/
  ce : Option Nat
  /-- the 32 contexts, by die position, between routines (R220) -/
  contexts : List Standing
  /-- ROM words found with a single wrong bit: word, bit; each fetch corrects them again (R221) -/
  badWords : List (Nat × Nat)
  /-- grants in a row that passed over waiting GC jobs, and scrub jobs (R214) -/
  gcPassed : Nat
  scrubPassed : Nat
  /-- the last of the grants to classes 2 and 3 went to class 3 (R214) -/
  gcTurn : Bool
  /-- positions in the order served, least recently first (R214) -/
  served : List Nat
  /-- control-store corrections since power-up (R388) -/
  corrections : Nat
  /-- configuration generation (R218) -/
  generation : Nat
  /-- words swept in the present sweep (R221) -/
  swept : Nat
  /-- 0 bits of the last data-in burst, counted before de-randomising (R234) -/
  zeroBits : Option Nat
deriving DecidableEq, Repr

/-- A UCIe link (R19 to R22). -/
structure UcieLink where
  /-- flits sent and not acknowledged, toward the Mace and toward Saffron -/
  replayDown : List Flit
  replayUp : List Flit
  /-- flits delivered to the receiving side, each way -/
  deliveredDown : Nat
  deliveredUp : Nat
  /-- replays are failing -/
  failing : Bool
  /-- the port retrains and the Mace scheduler holds its queues -/
  retraining : Bool
  /-- parity failures in a row of the unit now crossing (R253) -/
  parityFails : Nat
deriving DecidableEq, Repr

/-- Channels, dies, links and the golden copy (R207 to R231, R19 to R22). -/
structure Media where
  /-- records of the die-state tables that are not those of an absent die (R216) -/
  dies : List Die
  channels : List Channel
  links : List UcieLink
  /-- generation of Saffron's golden copy, 16 bits (R218) -/
  golden : Nat
  /-- generation of the feature sets in it, 16 bits (R216, R219) -/
  featureGen : Nat
  /-- its LDPC and randomiser settings (R218) -/
  codes : Word32
  /-- Saffron counters that HUBINC adds to: counter, value (R223) -/
  hubCounters : List (Nat × Nat)
  /-- the patch image being loaded, sequencers still to load and loaded (R229) -/
  load : Option PatchImage
  toLoad : List Nat
  loaded : List Nat
deriving DecidableEq, Repr

/-- Who reads a unit from flash (R212, R243, R248). -/
inductive Reader where
  | host (sq : Nat) (cid : BitVec 16)
  | scrub
deriving DecidableEq, Repr

/-- A read of one unit climbing the ladder (R242). -/
structure UnitRead where
  reader : Reader
  ns : Nat
  lba : Nat
  sb : Nat
  off : Nat
  /-- ladder step under way: 0 to 5 (R242) -/
  step : Nat
  /-- shift sets tried at step 1 (R242) -/
  sets : Nat
  /-- table index and offsets of its next read (R238, R241, R242) -/
  index : Nat
  offsets : List Int
  /-- waits for map-ready (R115) -/
  waitsMap : Bool
deriving DecidableEq, Repr

/-- Read integrity (R232 to R258). -/
structure Integrity where
  reads : List UnitRead
  /-- reads that ended at ladder steps 1 to 5 (R137) -/
  ladder : List Nat
  /-- superblocks scrub has patrolled in this cycle, and those to visit out of turn (R248) -/
  patrolled : List Nat
  visit : List Nat
deriving DecidableEq, Repr

/-! ## DRAM, SRAM, Nutmeg -/

/-- DRC_CH_d.STATE (R279). -/
inductive DramState where
  | active | selfRefresh | recentring | off
deriving DecidableEq, Repr

/-- A request in a bank's queue, with the time it has waited (R265, R266). -/
structure DramWaiting where
  req : DramRequest
  ns : Nat
deriving DecidableEq, Repr

/-- Delays of a byte lane at the last centring, in taps (R269). -/
structure DramLane where
  read : Int
  write : Int
deriving DecidableEq, Repr

/-- One rank of a DRAM channel. -/
structure DramRank where
  /-- refreshes pending, 0 to 8 (R267) -/
  pending : Nat
  /-- refreshes pulled in ahead of time, 0 to 8 (R267) -/
  ahead : Nat
  /-- mode register 4 reports derating (R267, R279) -/
  hot : Bool
  /-- ns for which a refresh or a slice still blocks the rank (R267, R273) -/
  blocked : Nat
  /-- a forced refresh waits for the other rank's refresh to end (R267) -/
  owed : Bool
  /-- a refresh was forced in the present interval (R273) -/
  forced : Bool
  /-- ages in ns of the activates of the last 20 ns, newest first (R265) -/
  activates : List Nat
  /-- a drift to be applied at the next refresh (R272) -/
  driftDue : Option Int
deriving DecidableEq, Repr

/-- A DRAM channel (R259 to R279). -/
structure DramChannel where
  state : DramState
  rank0 : DramRank
  rank1 : DramRank
  /-- the 32 request queues, one a bank in the rotation of R263, oldest request first (R265) -/
  queues : List (List DramWaiting)
  /-- the bank activated last, in that rotation (R265) -/
  lastBank : Nat
  /-- the row open at each bank, with the column accesses it has had (R265) -/
  rows : List (Option (Nat × Nat))
  /-- poisoned bursts: rank, bank, row, burst (R262) -/
  poisoned : List (Nat × Nat × Nat × Nat)
  /-- the two byte lanes (R269) -/
  lanes : List DramLane
  /-- narrowest pass window at the last centring, taps (R279) -/
  window : Nat
  /-- read and write delay applied since the last centring, taps (R272) -/
  drift : Int
  /-- temperature at the last centring, °C (R272) -/
  centredAt : Int
  /-- slices of the re-centring done, and its cause (R273, R388) -/
  slices : Nat
  cause : Nat
  /-- remap table: rank, bank, row, spare row number (R277) -/
  remaps : List (Nat × Nat × Nat × Nat)
  /-- rows under test: rank, bank, row (R276) -/
  testing : List (Nat × Nat × Nat)
  /-- DRC_ERR_d: 16, 8 and 8 bits, saturating (R279) -/
  corrected : Nat
  uncorr : Nat
  cmdErr : Nat
deriving DecidableEq, Repr

/-- The DRAM controller (R259 to R280). -/
structure Dram where
  /-- DRC_STATUS.RATE (R279) -/
  rate : Nat
  /-- DRC_STATUS.CAPACITY (R279) -/
  capacity : Nat
  channels : List DramChannel
  /-- spare rows taken from the reserve region (R277) -/
  spareRows : Nat
  /-- bytes in the capture writer's FIFO of 256 KiB (R266) -/
  fifo : Nat
deriving DecidableEq, Repr

/-- A grid-protected block as stored (R283): 512 data bits, row, column and corner parity. -/
structure SramBlock where
  bank : Nat
  block : Nat
  data : BitVec 512
  row : BitVec 8
  col : Word64
  corner : Bool
  poison : Bool
  /-- corrupted under ARM and not rewritten since (R293) -/
  injected : Bool
deriving DecidableEq, Repr

/-- A region test in progress (R290). -/
structure RegionTest where
  bank : Nat
  region : Nat
deriving DecidableEq, Repr

/-- On-die memory protection (R281 to R295). -/
structure Sram where
  /-- blocks by rising bank and block: of the scratch bank every valid one (R286); of the other banks, whose
  contents the model holds elsewhere or not at all, those that differ from what was written, as the difference -/
  blocks : List SramBlock
  /-- SRP_CORR, SRP_UNCORR: 32, 16 and 16 bits, saturating -/
  corrected : Nat
  uncorr : Nat
  poisonWr : Nat
  /-- SRP_LAST: bank, uncorrectable, by scrub, injected, block -/
  lastBank : Nat
  lastUncorr : Bool
  lastScrub : Bool
  lastInjected : Bool
  lastBlock : Nat
  /-- SRP_FLIP_BANK, SRP_FLIP_MASK -/
  flipBank : Nat
  flipMask : Word32
  /-- µs at which the last full sweep ended, for SRP_SCRUB.AGE; SRP_SCRUB.SWEEPS -/
  sweptAt : Option Nat
  sweeps : Nat
  scrubBusy : Bool
  /-- spare regions used: bank, count (R290) -/
  spares : List (Nat × Nat)
  tests : List RegionTest
deriving DecidableEq, Repr

/-- What a Nutmeg bank is doing (R301, R303, R305). -/
inductive NorOpKind where
  | program | erase | flagRow
deriving DecidableEq, Repr

/-- A Nutmeg operation (R301 to R309). -/
structure NorOp where
  kind : NorOpKind
  sector : Nat
  suspended : Bool
  suspends : Nat
  /-- the pair of the current flag row whose START it programmed (R309) -/
  pair : Nat
deriving DecidableEq, Repr

/-- The two flag rows of a sector, eighteen bytes each (R308). -/
structure FlagRows where
  sector : Nat
  row0 : List Byte
  row1 : List Byte
deriving DecidableEq, Repr

/-- An entry of the key store: a media key wrapped under the KEK (R393). -/
structure StoredKey where
  ns : Nat
  wrapped : BitVec 576
  /-- epoch of the namespace when the key was made -/
  epoch : Nat
  generation : Nat
deriving DecidableEq, Repr

/-- A configuration store copy (R313): generation, validity and what it holds of the items of R313 and the key store of
R393. -/
structure ConfigStore where
  valid : Bool
  generation : Nat
  subVendor : BitVec 16
  subSystem : BitVec 16
  i3cPid : BitVec 48
  /-- persisted pin functions: pin, function, active low, argument -/
  pins : List (Nat × Nat × Bool × Word32)
  patch : Option PatchImage
  warnC : Nat
  dieLimitC : Nat
  rateWarnAt : Nat
  /-- UTC of the last hold-up test (R339) -/
  holdupUtc : Nat
  fenced : List UnitId
  /-- active firmware slot 1 A, 2 B (R402) -/
  activeSlot : Nat
  /-- the key store: its generation, its keys, and the salt, none where the store has none (R393) -/
  keyGeneration : Nat
  keys : List StoredKey
  salt : Option (BitVec 256)
deriving DecidableEq, Repr

/-- The OTP row's fields (R314). -/
structure Otp where
  uid : BitVec 128
  /-- root key seed -/
  seed : BitVec 256
  /-- hashes of the Nebocy keys and of the integrator key -/
  hash0 : BitVec 384
  hash1 : BitVec 384
  integratorHash : BitVec 384
  /-- integrator slot: programmed, revoked -/
  integrator : Bool
  revoked : Bool
  /-- counter bits burned, row and mirror (R315) -/
  debugOpen : Nat
  antiRollback : Nat
deriving DecidableEq, Repr

/-- Nutmeg (R296 to R318). -/
structure Nor where
  opA : Option NorOp
  opB : Option NorOp
  /-- sector, kind and suspends of the current or last operation: NOR_OP -/
  lastOp : Option NorOp
  /-- execute-only regions in force (R307) -/
  xo : Bool
  /-- continuous-read mode: the bank read, if open (R300) -/
  cont : Option Bool
  /-- running slot: 0, 1 A, 2 B; NOR_STATUS.SLOT -/
  slot : Nat
  slotAValid : Bool
  slotBValid : Bool
  boot0Valid : Bool
  boot1Valid : Bool
  /-- images stored: boot stage copies, slots -/
  boot0 : Option FwImage
  boot1 : Option FwImage
  slotA : Option FwImage
  slotB : Option FwImage
  /-- sectors found unfinished and not yet erased again (R311) -/
  unfinished : List Nat
  /-- sectors whose write-protect bit is clear (R306) -/
  writable : List Nat
  /-- flag rows that differ from two blank rows (R308) -/
  flags : List FlagRows
  /-- NOR_COUNT: 16, 8, 8 bits, saturating -/
  autoSuspends : Nat
  xoReads : Nat
  wpRefused : Nat
  config0 : ConfigStore
  config1 : ConfigStore
  otp : Otp
  /-- the part has been through manufacture: images and OTP loaded (R314) -/
  made : Bool
deriving DecidableEq, Repr

/-! ## Self-test, recorder, security, registers -/

/-- A unit test in progress (R369 to R372). -/
structure UnitTest where
  unit : UnitId
  /-- event code that started it; 0 for a demanded test -/
  trigger : BitVec 16
  /-- asked for by SELF_TEST or UNIT_READMIT, not started by an error -/
  demanded : Bool
  /-- SELF_TEST or UNIT_READMIT handle it answers -/
  handle : Option (BitVec 32)
  readmit : Bool
  /-- an error of a kind the test checks arrived during it (R371) -/
  joined : Bool
  /-- verdict and µs of a test that ended during a Clove stop, for firmware to take after it (R371) -/
  verdict : Option (Bool × Nat)
deriving DecidableEq, Repr

/-- Faults and self-test (R369 to R378). -/
structure SelfTests where
  running : List UnitTest
  /-- demanded tests that wait for a targeted one to end (R371) -/
  waiting : List UnitTest
  /-- transients: unit and µs timestamp (R372) -/
  transients : List (UnitId × Nat)
  /-- fenced units with the µs at fencing (R374, R137) -/
  fenced : List (UnitId × Nat)
  /-- last event code of a unit that started or joined a test (R137) -/
  lastEvent : List (UnitId × BitVec 16)
deriving DecidableEq, Repr

/-- An event that occurred, before it has its number (R379). -/
structure Event where
  code : BitVec 16
  severity : Nat
  unit : UnitId
  data : BitVec 64
  us : Nat
  deferred : Bool
  suppressed : Nat
deriving DecidableEq, Repr

/-- An event record as written (R379). -/
structure Record where
  seq : Word32
  event : Event
  lost : Nat
  reserve : Bool
  boot : Bool
deriving DecidableEq, Repr

/-- A code's token bucket where it differs from a full default one (R384). -/
structure Bucket where
  code : BitVec 16
  tokens : Nat
  rate : Nat
  burst : Nat
  suppressed : Nat
deriving DecidableEq, Repr

/-- EVW_STATE.MODE (R383, R386). -/
inductive LogMode where
  | ring | reserve | lastWords
deriving DecidableEq, Repr

/-- The event recorder and the last-words registers (R379 to R387). -/
structure Recorder where
  /-- EVW_NEXT (R383) -/
  next : Word32
  mode : LogMode
  /-- EVW_STATE.OVERFLOW, EPISODES; EVW_LOST (R383) -/
  overflow : Bool
  episodes : Nat
  lostTotal : Nat
  /-- lost count the next record carries (R379, R385) -/
  lost : Nat
  /-- LOG_OVERFLOW is due with the code and unit of the first record lost (R385) -/
  overflowDue : Option (BitVec 16 × UnitId)
  /-- the 64-entry FIFO, oldest first (R385) -/
  fifo : List Event
  buckets : List Bucket
  /-- tier 0, newest first (R381) -/
  ring : List Record
  /-- tier 1 and tier 2, newest first (R381) -/
  log : List Record
  history : List Record
  /-- newest record number examined for tier 1 and for tier 2, plus one (R381, R382) -/
  copied : Word32
  paged : Word32
  /-- LWD_0 to LWD_7 (R387) -/
  lwdCause : BitVec 16
  lwdCause2 : BitVec 16
  lwdTime : Word32
  lwdHubResets : Nat
  lwdMode : Nat
  lwdUnit : UnitId
  lwdSeq : Word32
  /-- LWD_4 to LWD_7: code and unit, newest first -/
  lwdRecords : List (BitVec 16 × UnitId)
deriving DecidableEq, Repr

/-- A media key in its pipeline slot (R392). -/
structure MediaKey where
  ns : Nat
  /-- the two AES-256 keys; zeros once zeroized -/
  value : BitVec 512
  generation : Nat
  present : Bool
deriving DecidableEq, Repr

/-- Debug port states in the order of their codes (R403). -/
inductive DebugPort where
  | manufacture | field | opened
deriving DecidableEq, Repr

/-- A SECURE_DISCARD under way or kept in its slot (R407, R190). -/
structure Discard where
  seq : Nat
  ns : Nat
  lba : Nat
  len : Nat
  handle : BitVec 32
  /-- its segments are written as folds (R203) -/
  folded : Bool
  /-- superblocks erased and bytes relocated for it so far (R407) -/
  erased : Nat
  moved : Nat
deriving DecidableEq, Repr

/-- Keys, DRBG, staging and the debug port (R390 to R409). -/
structure Security where
  keys : List MediaKey
  /-- the KEK in Sumac RAM, and the salt it is derived from (R393) -/
  kek : Option (BitVec 256)
  salt : Option (BitVec 256)
  /-- the DRBG answers (R391) -/
  drbgOn : Bool
  /-- its working state (R390) -/
  drbg : Drbg
  /-- requests since the last reseed (R391) -/
  drbgRequests : Nat
  port : DebugPort
  /-- the test port's own state has been used since TRST_N (R344) -/
  tapActive : Bool
  /-- the challenge that is good, and its µs (R404) -/
  challenge : Option (BitVec 256 × Nat)
  /-- the challenge a live DEBUG_UNLOCK has taken: a cancel gives it back (R131, R404) -/
  spent : Option (BitVec 256 × Nat)
  discards : List Discard
  /-- slot being written: 1 A, 2 B, 3 boot stage, by FW_STAGE (R400) -/
  staging : Option Nat
  /-- bytes of the image written so far (R130) -/
  staged : Nat
  /-- image version that firmware runs, ID_FW (R418) -/
  version : Nat
  /-- patch floor and execute-only code ranges of the running image (R396) -/
  image : Option FwImage
deriving DecidableEq, Repr

/-- Register state with no home above (R416, R418, R420). -/
structure Regs where
  /-- ID_SUBSYS (R418) -/
  subVendor : BitVec 16
  subSystem : BitVec 16
  /-- ID_BOOT.LOCK and COPY (R418, R420) -/
  lock : Bool
  bootCopy : Nat
  /-- ID_UID_n, 0 until step 3 of R347 (R418) -/
  uid : BitVec 128
  /-- ID_MILESTONE.POPULATED, DRAM_GIB (R418) -/
  populated : Nat
  dramGib : Nat
  /-- holding registers: PCIe uptime, PCIe UTC, debug uptime, debug UTC (R416) -/
  holdPcieUp : Option Word32
  holdPcieUtc : Option Word32
  holdDebugUp : Option Word32
  holdDebugUtc : Option Word32
deriving DecidableEq, Repr

/-! ## What the device sends -/

/-- A message, transfer or answer that leaves the device. -/
inductive Out where
  /-- a 16-byte message on IB and the blocks that carry it (R38, R50, R51) -/
  | ib (message : List Byte) (blocks : List IbBlock)
  | msix (vector : Nat)
  /-- the message of the one MSI vector (R89) -/
  | msi (address : Word64) (data : BitVec 16)
  | ibi (byte : Byte)
  /-- bytes a private read or CCC returns (R127, R128) -/
  | i3cData (bytes : List Byte)
  /-- the address a transfer was sent to is not acknowledged -/
  | i3cNack
  /-- value of a register read (R8, R414) -/
  | regRead (offset : Nat) (value : BitVec 64)
  /-- read completes with Unsupported Request status (R412) -/
  | unsupported (offset : Nat)
  /-- data returned to host memory: fields of offset, size and value (R103) -/
  | hostFields (cid : BitVec 16) (fields : List (Nat × Nat × Nat))
  /-- read data delivered at F10: units, and protection information when it travels (R24, R100) -/
  | hostUnits (sq : Nat) (cid : BitVec 16) (units : List (UnitData × Option (BitVec 64)))
  /-- GET_INVENTORY's records: unit ID, state, manufacturer, entry, temperature (R137) -/
  | inventory (address : Nat) (records : List (UnitId × Nat × Nat × Nat × Int))
  /-- bytes on a channel bus (R223) -/
  | bus (ch : Nat) (command : Bool) (byte : Byte)
  /-- a data-out burst (R223) -/
  | dataOut (ch : Nat) (bytes : List Byte)
  /-- a chip enable of a channel is asserted, the others not (R209) -/
  | chipEnable (ch ce : Nat)
  /-- a data-in burst to the LDPC decoder (R223) -/
  | dataIn (ch : Nat) (bytes : List Byte)
  /-- an operation of several bus cycles: its opcode of R223 and the value it sends (SETF, GETF, STATR, TEMP, SUSP, RSM,
  LRST, TRAIN) -/
  | busOp (ch : Nat) (op : Nat) (arg : Nat) (value : Word32)
  /-- a routine's report to the Mace core: success and a word, or a failure code (R223) -/
  | routineEnd (die : Nat) (ok : Bool) (value : Word32)
deriving DecidableEq, Repr

/-- The whole device. -/
structure State where
  /-- commands waiting, first in first out -/
  pending : List Instr
  life : Life
  clk : Clock
  board : Option Board
  link : Link
  parse : Parser
  str : Streams
  ord : Ordering
  nv : Nvme
  mbx : Mailboxes
  i3c : I3cTarget
  hnd : Handles
  crg : Ring
  pins : List Pin
  pwr : Power
  hup : Holdup
  thm : Thermal
  map : Translation
  med : Media
  intg : Integrity
  dram : Dram
  sram : Sram
  nor : Nor
  st : SelfTests
  evr : Recorder
  sec : Security
  reg : Regs
  /-- the model's own field: what the device has sent, newest first -/
  out : List Out
  /-- the model's own field: how many free values have been drawn -/
  free : Nat
deriving DecidableEq, Repr

/-! ## Reset values, group by group -/

/-- After RESET_N: nothing started (R343, R418). -/
def Life.reset : Life where
  phase := .inReset
  fwStart := false
  captureReady := false
  mapReady := false
  clean := false
  first := false
  resetN := false
  pldN := true
  perstN := false
  lossByReset := false
  bootRecordDue := true
  stop := none
  runBlockFaults := []
  powerUps := 0
  poweredUs := 0
  uncleanShutdowns := 0

/-- R319, R341. -/
def Clock.reset : Clock where
  us := 0
  rtc := 0
  rtcFrac := 0
  utc := none
  xtalFail := false

/-- A lane with its registers at the reset values of R421. -/
def Lane.reset : Lane where
  logical := none
  lock := false
  inverted := false
  signal := false
  fom := 0
  trains := 0
  tuneDone := false
  uncorr := 0
  corr := 0
  badLcw := 0
  badCw := 0
  position := 0
  cwIndex := 0
  amCount := 0
  lcwDue := 0
  scrambler := 0
  bitMode := false
  fifo := []

/-- R46: reset enters DOWN; R421 gives the register values. -/
def Link.reset : Link where
  state := .down
  attempt := 0
  epoch := 0
  entered := false
  granted := 0
  frozen := false
  haltedUp := false
  consumed := 0
  window := 512
  forceFull := false
  fastFails := 0
  fastNow := false
  lastFast := false
  ibOn := false
  goingDown := false
  seq := 0
  ibScrambler := 0
  skew := 0
  retrains := 0
  lanes := List.replicate 8 Lane.reset
  before := none

/-- Nothing received, nothing open (R62). -/
def Parser.reset : Parser where
  bits := 0
  len := 0
  pos := 0
  bad := []
  modes := []
  gaps := []
  searching := false
  frame := none
  skipWords := 0
  run := none

/-- Every stream CLOSED (R68); the default floors of R82. -/
def Streams.reset : Streams where
  list := []
  takes := []
  fc := 2048
  fn := 256
  backpressure := false
  repeats := []

/-- R145, R352: a block top of 0 makes 1 the first number. -/
def Ordering.reset : Ordering where
  next := 1
  top := 0
  waiting := []
  accepted := []
  fences := []

/-- R93, R110, R158, R363: no queue exists, WCE 1, the warning bit of Unprotected mode, the default thresholds. -/
def Nvme.reset : Nvme where
  cc := 0
  rdy := false
  shst := 0
  cfs := false
  aqa := 0
  asq := 0
  acq := 0
  sqs := []
  cqs := []
  grantedSq := 0
  grantedCq := 0
  cmds := []
  arbitration := 0
  powerState := 0
  tempOver := List.replicate 6 373
  tempUnder := List.replicate 6 0
  held := []
  wce := true
  coalesceThreshold := 0
  coalesceTime := 0
  apstOn := false
  apst := []
  aers := []
  critical := 0x10
  mediaErrors := 0
  errors := []
  warnMs := 0
  critMs := 0
  sanitize := .none
  sanitized := false
  formatSes := 0
  msix := []
  pba := []
  msixEnabled := false
  msixMasked := false
  msiEnabled := false
  msiAddress := 0
  msiData := 0
  bars := [0, 0, 0]
  turns := [0, 0, 0, 0]
  hostReads := 0
  hostWrites := 0
  download := []
  nextSlot := none
  bytesRead := 0
  bytesWritten := 0
  namespaces := []

/-- R122, R123. -/
def Mbx.reset : Mbx where
  state := .idle
  owner := none
  overrun := false
  latched := false
  code := 0
  irq := false
  ringPath := .pcie
  unreadDone := false

/-- R123, R135. -/
def Mailboxes.reset : Mailboxes where
  box := List.replicate 16 Mbx.reset
  mem := []
  msixArmed := true
  ibiArmed := true

/-- R127: no dynamic address; 258 and 256 bytes. -/
def I3cTarget.reset : I3cTarget where
  addr := none
  ibiOn := false
  mwl := 258
  mrl := 256
  offset := 0
  pid := 0

/-- R129: nothing live; the generation is drawn at power-up. -/
def Handles.reset : Handles where
  live := []
  retired := []
  generation := 1

/-- R132. -/
def Ring.reset : Ring where
  tail := 0
  phase := true
  headPcie := 0
  headI3c := 0
  unreadPcie := 0
  unreadI3c := 0
  pcieEn := false
  i3cEn := false
  overflow := false
  vector := 0
  slots := []
  backlog := []
  dropped := 0
  number := 0

/-- R141, R423: function 0 on every pin. -/
def Pin.reset : Pin where
  function := 0
  activeLow := false
  persist := false
  arg := 0
  on := false
  faultDue := false

/-- R341. -/
def Power.reset : Power where
  state := 0
  depthLorard := 2
  d3hot := false
  l1 := false
  wakeSources := 0
  timerWake := 0
  entering := false
  background := false
  wakeN := false
  perstSeen := false
  pllBad := 0
  pllFail := 0

/-- R158, R341: Unprotected mode, no verdict, limit 0. -/
def Holdup.reset : Holdup where
  protectedMode := false
  verdict := 0
  limit := 0
  testLimit := 0
  restUv := 0
  cap := 0
  esr := 0
  energy := 0
  sense := 0
  testLow := false
  run := none
  lastUtc := 0
  lastUs := 0
  startDone := false
  due := none
  flushAhead := 0

/-- R367: not yet sampled, VALID 0. -/
def Sensor.reset : Sensor where
  reading := none
  valid := false
  excluded := false
  deviate := 0
  agree := 0
  fenced := false

/-- R359, R362, R367: level normal, step 0, PREDICT 0xFFFF, the default limits. -/
def Thermal.reset : Thermal where
  sensors := List.replicate 24 Sensor.reset
  temp := 0
  level := .normal
  step := 0
  rate := 0
  rateWarn := false
  predict := 0xFFFF
  history := []
  slow := false
  coolMs := 0
  steepMs := 0
  warnC := 100
  dieLimitC := 80
  rateWarnAt := 20
  thermN := false
  hotDies := []
  over120 := false
  deferred := []

/-- Nothing built yet: the ledger of a new module (R352); the copies on CH0, CH11 and CH22 (R170). -/
def Translation.reset : Translation where
  sbs := []
  segments := []
  overlay := []
  nextGroup := 0
  pendingSlots := []
  slots := []
  pages := 0
  compaction := 0
  blockTop := 0
  table := []
  copies := [⟨0, 0, []⟩, ⟨11, 0, []⟩, ⟨22, 0, []⟩]
  remaps := []
  sparesUsed := []
  overlayFull := false
  gcGroups := []
  moves := []
  staticMoves := []
  mapLost := []
  partsDropped := 0
  scanned := 0
  gcBytes := 0
  captureBytes := 0

/-- The context of a die position at reset: DESIGN CHOICE, log entry 176, zeros; its chip enable selects the position
(R209, R220). -/
def Standing.reset (position : Nat) : Standing where
  pc := 0
  regs := List.replicate 16 0
  stack := []
  z := false
  n := false
  ce := position / 4

/-- R230: ROM_VER is a constant; STATE 3. -/
def Channel.reset : Channel where
  ce := none
  contexts := (List.range 32).map Standing.reset
  badWords := []
  patchVersion := 0
  patchValid := false
  mismatch := false
  state := .gated
  patch := []
  vectors := []
  expected := 0
  bus := none
  gcPassed := 0
  scrubPassed := 0
  gcTurn := false
  served := []
  corrections := 0
  generation := 0
  swept := 0
  zeroBits := none

/-- R20: nothing in flight. -/
def UcieLink.reset : UcieLink where
  replayDown := []
  replayUp := []
  deliveredDown := 0
  deliveredUp := 0
  failing := false
  retraining := false
  parityFails := 0

/-- R216: no die known. -/
def Media.reset : Media where
  dies := []
  channels := List.replicate 32 Channel.reset
  links := List.replicate 4 UcieLink.reset
  golden := 0
  featureGen := 0
  codes := 0
  hubCounters := []
  load := none
  toLoad := []
  loaded := []

/-- R242, R248. -/
def Integrity.reset : Integrity where
  reads := []
  ladder := [0, 0, 0, 0, 0]
  patrolled := []
  visit := []

/-- R279: PENDING 0, HOT 0. -/
def DramRank.reset : DramRank where
  pending := 0
  ahead := 0
  hot := false
  blocked := 0
  owed := false
  forced := false
  activates := []
  driftDue := none

/-- R279: STATE 3. -/
def DramChannel.reset : DramChannel where
  state := .off
  rank0 := DramRank.reset
  rank1 := DramRank.reset
  queues := List.replicate 32 []
  lastBank := 31
  rows := List.replicate 32 none
  poisoned := []
  lanes := List.replicate 2 ⟨0, 0⟩
  window := 0
  drift := 0
  centredAt := 0
  slices := 0
  cause := 0
  remaps := []
  testing := []
  corrected := 0
  uncorr := 0
  cmdErr := 0

/-- R279: RATE 2, CAPACITY 0. -/
def Dram.reset : Dram where
  rate := 2
  capacity := 0
  channels := List.replicate 16 DramChannel.reset
  spareRows := 0
  fifo := 0

/-- R294: AGE 0xFFFF. -/
def Sram.reset : Sram where
  blocks := []
  corrected := 0
  uncorr := 0
  poisonWr := 0
  lastBank := 0
  lastUncorr := false
  lastScrub := false
  lastInjected := false
  lastBlock := 0
  flipBank := 0
  flipMask := 0
  sweptAt := none
  sweeps := 0
  scrubBusy := false
  spares := []
  tests := []

/-- A configuration store copy never written: the built-in defaults of R313 under an invalid header. -/
def ConfigStore.reset : ConfigStore where
  valid := false
  generation := 0
  subVendor := 0x1F5E
  subSystem := 0x9256
  i3cPid := 0
  pins := []
  patch := none
  warnC := 100
  dieLimitC := 80
  rateWarnAt := 20
  holdupUtc := 0
  fenced := []
  activeSlot := 1
  keyGeneration := 0
  keys := []
  salt := none

/-- An OTP row with nothing burned (R314). -/
def Otp.reset : Otp where
  uid := 0
  seed := 0
  hash0 := 0
  hash1 := 0
  integratorHash := 0
  integrator := false
  revoked := false
  debugOpen := 0
  antiRollback := 0

/-- R317: XO 1, every write-protect bit set, the rest 0. -/
def Nor.reset : Nor where
  opA := none
  opB := none
  lastOp := none
  xo := true
  cont := none
  slot := 0
  slotAValid := false
  slotBValid := false
  boot0Valid := false
  boot1Valid := false
  boot0 := none
  boot1 := none
  slotA := none
  slotB := none
  unfinished := []
  writable := []
  flags := []
  autoSuspends := 0
  xoReads := 0
  wpRefused := 0
  config0 := ConfigStore.reset
  config1 := ConfigStore.reset
  otp := Otp.reset
  made := false

/-- R372: transient counts start at 0. -/
def SelfTests.reset : SelfTests where
  running := []
  waiting := []
  transients := []
  fenced := []
  lastEvent := []

/-- R383, R384, R387: EVW_ and LWD_ at 0, every bucket full. -/
def Recorder.reset : Recorder where
  next := 0
  mode := .ring
  overflow := false
  episodes := 0
  lostTotal := 0
  lost := 0
  overflowDue := none
  fifo := []
  buckets := []
  ring := []
  log := []
  history := []
  copied := 0
  paged := 0
  lwdCause := 0
  lwdCause2 := 0
  lwdTime := 0
  lwdHubResets := 0
  lwdMode := 0
  lwdUnit := 0
  lwdSeq := 0
  lwdRecords := []

/-- R403, R418: ID_DEBUG.PORT 1, ID_FW 0. -/
def Security.reset : Security where
  keys := []
  kek := none
  salt := none
  drbgOn := false
  drbg := ⟨0, 0⟩
  drbgRequests := 0
  port := .field
  tapActive := false
  challenge := none
  spent := none
  discards := []
  staging := none
  staged := 0
  version := 0
  image := none

/-- R418. -/
def Regs.reset : Regs where
  subVendor := 0x1F5E
  subSystem := 0x9256
  lock := false
  bootCopy := 0
  uid := 0
  populated := 0
  dramGib := 0
  holdPcieUp := none
  holdPcieUtc := none
  holdDebugUp := none
  holdDebugUtc := none

/-- The device right after reset: supplies good, RESET_N low, every register at the reset value of its field table,
every memory that outlives a reset as it is before manufacture, no command waiting. -/
def State.reset : State where
  pending := []
  life := Life.reset
  clk := Clock.reset
  board := none
  link := Link.reset
  parse := Parser.reset
  str := Streams.reset
  ord := Ordering.reset
  nv := Nvme.reset
  mbx := Mailboxes.reset
  i3c := I3cTarget.reset
  hnd := Handles.reset
  crg := Ring.reset
  pins := List.replicate 16 Pin.reset
  pwr := Power.reset
  hup := Holdup.reset
  thm := Thermal.reset
  map := Translation.reset
  med := Media.reset
  intg := Integrity.reset
  dram := Dram.reset
  sram := Sram.reset
  nor := Nor.reset
  st := SelfTests.reset
  evr := Recorder.reset
  sec := Security.reset
  reg := Regs.reset
  out := []
  free := 0

end Sys2Proof.Machine
end

