-- ==== Sys2Proof/Machine/FlagRows.lean ====
section
/-! DEFINITION. The flag rows of Nutmeg's sectors: what marks an erase begun and ended (R308 to R310). -/

namespace Sys2Proof.Machine

/-- A blank row. -/
def blankRow : List Byte := List.replicate 18 0xFF

/-- A byte of a row. -/
def rowByte (r : List Byte) (i : Nat) : Byte := r.getD i 0xFF

/-- Stamp and stamp check agree (R309). -/
def rowAgrees (r : List Byte) : Bool := rowByte r 1 == ~~~(rowByte r 0)

/-- A stamp is greater than another, modulo 254, in serial arithmetic (R309). -/
def stampAfter (a b : Byte) : Bool :=
  let d := (a.toNat + 254 - b.toNat % 254) % 254
  d != 0 && decide (d < 127)

/-- The number of the current row, if one agrees (R309). -/
def currentRow (f : FlagRows) : Option Nat :=
  if rowAgrees f.row0 && rowAgrees f.row1 then
    some (if stampAfter (rowByte f.row1 0) (rowByte f.row0 0) then 1 else 0)
  else if rowAgrees f.row0 then some 0
  else if rowAgrees f.row1 then some 1
  else none

/-- A row by number. -/
def rowOfFlags (f : FlagRows) (k : Nat) : List Byte := if k = 0 then f.row0 else f.row1

/-- A row replaced. -/
def setRow (f : FlagRows) (k : Nat) (r : List Byte) : FlagRows := if k = 0 then { f with row0 := r } else { f with row1 := r }

/-- The START of a pair counts as programmed: some bit is 0 (R310). -/
def startSet (r : List Byte) (k : Nat) : Bool := rowByte r (2 + 2 * k) != 0xFF

/-- The DONE of a pair counts as programmed: it reads 0x00 (R310). -/
def doneSet (r : List Byte) (k : Nat) : Bool := rowByte r (3 + 2 * k) == 0x00

/-- The last used pair of a row. -/
def lastPair (r : List Byte) : Option Nat := ((List.range 8).filter (startSet r)).getLast?

/-- The lowest pair with a blank START. -/
def blankPair (r : List Byte) : Option Nat := (List.range 8).find? fun k => !startSet r k

/-- The row and pair that make a sector unfinished (R310). -/
def unfinishedAt (f : FlagRows) : Option (Nat × Nat) :=
  match currentRow f with
  | none => none
  | some k =>
    match lastPair (rowOfFlags f k) with
    | none => none
    | some p => if doneSet (rowOfFlags f k) p then none else some (k, p)

/-- The stamp after another: one higher, from 0xFE to 0x01 (R309). -/
def nextStamp (b : Byte) : Byte := if b = 0xFE then 0x01 else b + 1

/-- A row just taken into use with a stamp: erased, stamp and check programmed. -/
def freshRow (stamp : Byte) : List Byte := stamp :: (~~~stamp) :: List.replicate 16 0xFF

/-- The flag rows once a row with a blank pair is current: the other row is taken into use when the current one is full,
row 0 when neither agrees (R309). -/
def withBlankPair (f : FlagRows) : FlagRows :=
  match currentRow f with
  | none => setRow f 0 (freshRow 0x01)
  | some k =>
    match blankPair (rowOfFlags f k) with
    | some _ => f
    | none => setRow f (1 - k) (freshRow (nextStamp (rowByte (rowOfFlags f k) 0)))

/-- START of an erase is programmed: the rows after it and the pair (R309 step 1). -/
def programStart (f : FlagRows) : FlagRows × Nat :=
  let f := withBlankPair f
  let k := (currentRow f).getD 0
  let p := (blankPair (rowOfFlags f k)).getD 0
  (setRow f k ((rowOfFlags f k).set (2 + 2 * p) 0x00), p)

/-- DONE is programmed in the same pair (R309 step 3). -/
def programDone (f : FlagRows) (p : Nat) : FlagRows :=
  let k := (currentRow f).getD 0
  setRow f k ((rowOfFlags f k).set (3 + 2 * p) 0x00)

/-- The rows of a sector in a list; two blank rows are not listed. -/
def rowsAt (l : List FlagRows) (sector : Nat) : FlagRows :=
  match l.find? fun f => f.sector == sector with
  | some f => f
  | none => ⟨sector, blankRow, blankRow⟩

/-- A sector's rows put in place. -/
def putRows (f : FlagRows) (l : List FlagRows) : List FlagRows :=
  let rest := l.filter fun x => x.sector != f.sector
  if f.row0 = blankRow ∧ f.row1 = blankRow then rest else f :: rest

/-- Sectors have gone through START, erase and DONE (R309). -/
def erasedRows (sectors : List Nat) (l : List FlagRows) : List FlagRows :=
  sectors.foldl (fun l n =>
    let (f, p) := programStart (rowsAt l n)
    putRows (programDone f p) l) l

/-- The eight sectors of a configuration store copy (R297). -/
def configSectors (k : Nat) : List Nat := (List.range 8).map (· + 1008 + 8 * k)

end Sys2Proof.Machine
end

