-- ==== Sys2Proof/Machine/Ops.lean ====
section
/-! DEFINITION. The operations every chapter shares: unit IDs, the byte areas, the event recorder's intake, the
completion ring, interrupts, mailbox answers, handles, fencing and self-test starts. -/

namespace Sys2Proof.Machine

/-- A next state. -/
abbrev Result := Host.Outcome State Fault Refusal

/-! ## Unit IDs (R13, R18) -/

/-- A unit ID from class and index (R13). -/
def unitId (cls idx : Nat) : UnitId := BitVec.ofNat 16 (cls * 4096 + idx % 4096)

/-- A Saffron block (R18). -/
def blockUnit (idx : Nat) : UnitId := unitId 0 idx
/-- A Mace die. -/
def maceUnit (n : Nat) : UnitId := unitId 1 n
/-- A channel. -/
def channelUnit (c : Nat) : UnitId := unitId 2 c
/-- A flash die, by channel × 32 + position. -/
def dieUnit (d : Nat) : UnitId := unitId 3 d
/-- A DRAM channel. -/
def dramUnit (d : Nat) : UnitId := unitId 4 d
/-- A capture lane. -/
def laneUnit (l : Nat) : UnitId := unitId 5 l
/-- A stream. -/
def streamUnit (sid : Nat) : UnitId := unitId 6 sid
/-- An SRAM bank. -/
def bankUnit (b : Nat) : UnitId := unitId 7 b
/-- A sensor. -/
def sensorUnit (n : Nat) : UnitId := unitId 8 n
/-- A Nutmeg sector. -/
def sectorUnit (n : Nat) : UnitId := unitId 9 n
/-- A superblock, by the low 12 bits of its number. -/
def superblockUnit (n : Nat) : UnitId := unitId 0xA n

/-- Class of a unit ID. -/
def unitClass (u : UnitId) : Nat := u.toNat / 4096
/-- Index of a unit ID. -/
def unitIndex (u : UnitId) : Nat := u.toNat % 4096

/-! ## Byte areas: a canonical list of the bytes that are not 0 -/

/-- Canonical form: addresses strictly rising, no byte 0 listed. -/
def memWf (m : List Host.Cell) : Bool :=
  decide (m.Pairwise fun a b => a.1 < b.1) && m.all fun c => c.2 != 0

/-- One byte; an address not listed reads as 0. -/
def memRead (m : List Host.Cell) (a : Nat) : Byte :=
  match m.find? (fun c => c.1 == a) with
  | some c => c.2
  | none => 0

/-- `n` bytes from `a` upward. -/
def memRange (m : List Host.Cell) (a n : Nat) : List Byte := (List.range n).map fun i => memRead m (a + i)

/-- The cells of bytes laid from `a` upward, zero bytes left out. -/
def memCells : Nat → List Byte → List Host.Cell
  | _, [] => []
  | a, b :: bs => if b = 0 then memCells (a + 1) bs else (a, b) :: memCells (a + 1) bs

/-- The bytes from `a` upward replaced by `bs`. -/
def memSplice (m : List Host.Cell) (a : Nat) (bs : List Byte) : List Host.Cell :=
  m.filter (fun c => c.1 < a) ++ memCells a bs ++ m.filter (fun c => a + bs.length ≤ c.1)

/-! ## Outputs and free values -/

/-- Something leaves the device. -/
def emit (o : Out) (s : State) : State := { s with out := o :: s.out }

/-- A free value has been drawn. -/
def drawn (s : State) : State := { s with free := s.free + 1 }

/-! ## The event recorder's intake (R379, R384, R385) -/

/-- Severity of each event code (R15, R65, R87, R295, R318, R388); where two are given, the first. -/
def severityOf (code : BitVec 16) : Nat :=
  match code.toNat with
  | 0x0101 => 3 | 0x0102 => 2 | 0x0103 => 1 | 0x0104 => 3 | 0x0105 => 2 | 0x0106 => 3
  | 0x0201 => 2 | 0x0202 => 3 | 0x0203 => 3 | 0x0204 => 3
  | 0x0301 => 1 | 0x0302 => 3
  | 0x0401 => 1 | 0x0402 => 3 | 0x0403 => 3 | 0x0404 => 2 | 0x0405 => 3
  | 0x0501 => 3 | 0x0502 => 3 | 0x0503 => 4 | 0x0504 => 2 | 0x0505 => 1 | 0x0506 => 2 | 0x0507 => 4 | 0x0508 => 1
  | 0x0601 => 1 | 0x0602 => 3 | 0x0603 => 2 | 0x0604 => 4 | 0x0605 => 4 | 0x0606 => 2
  | 0x0701 => 1 | 0x0702 => 4 | 0x0703 => 4 | 0x0704 => 1
  | 0x0801 => 1 | 0x0802 => 4 | 0x0803 => 4
  | 0x0901 => 3 | 0x0902 => 1 | 0x0903 => 3
  | 0x0A01 => 2 | 0x0A02 => 3 | 0x0A03 => 0
  | 0x0B01 => 3 | 0x0B02 => 3 | 0x0B03 => 5 | 0x0B04 => 3 | 0x0B05 => 2
  | 0x0C01 => 5 | 0x0C02 => 2 | 0x0C03 => 4
  | 0x0D01 => 5 | 0x0D02 => 3
  | 0x0E01 => 2 | 0x0E02 => 4 | 0x0E03 => 2
  | _ => 0

/-- The codes of the catalogue of R388. -/
def catalogue : List Nat :=
  [0x0101, 0x0102, 0x0103, 0x0104, 0x0105, 0x0106, 0x0201, 0x0202, 0x0203, 0x0204, 0x0301, 0x0302,
   0x0401, 0x0402, 0x0403, 0x0404, 0x0405, 0x0501, 0x0502, 0x0503, 0x0504, 0x0505, 0x0506, 0x0507, 0x0508,
   0x0601, 0x0602, 0x0603, 0x0604, 0x0605, 0x0606, 0x0701, 0x0702, 0x0703, 0x0704, 0x0801, 0x0802, 0x0803,
   0x0901, 0x0902, 0x0903, 0x0A01, 0x0A02, 0x0A03, 0x0B01, 0x0B02, 0x0B03, 0x0B04, 0x0B05,
   0x0C01, 0x0C02, 0x0C03, 0x0D01, 0x0D02, 0x0E01, 0x0E02, 0x0E03]

/-- The bucket of a code: by default full, 16 tokens/s, 64 tokens (R384). -/
def bucketOf (r : Recorder) (code : BitVec 16) : Bucket :=
  match r.buckets.find? (fun b => b.code == code) with
  | some b => b
  | none => ⟨code, 64, 16, 64, 0⟩

/-- A bucket put in place of the code's former one. -/
def setBucket (r : Recorder) (b : Bucket) : Recorder :=
  { r with buckets := b :: r.buckets.filter (fun x => x.code != b.code) }

/-- A record enters the FIFO of R385, or is lost when it is full; the first loss begins an overflow episode. -/
def pushFifo (r : Recorder) (e : Event) : Recorder :=
  if r.fifo.length < 64 then { r with fifo := r.fifo ++ [e] }
  else
    { r with
      lost := sat 16 (r.lost + 1)
      lostTotal := sat 32 (r.lostTotal + 1)
      overflow := true
      episodes := if r.overflow then r.episodes else sat 16 (r.episodes + 1)
      overflowDue := if r.overflow then r.overflowDue else some (e.code, e.unit) }

/-- An event passes the token bucket of its code (R384): a token is taken or the record is withheld; a critical record
is never withheld. The suppressed count travels with the record that finds room. -/
def intake (r : Recorder) (e : Event) : Recorder :=
  let b := bucketOf r e.code
  if e.severity < 5 && b.tokens == 0 then setBucket r { b with suppressed := sat 16 (b.suppressed + 1) }
  else
    let room := decide (r.fifo.length < 64)
    let r := setBucket r { b with tokens := b.tokens - 1, suppressed := if room then 0 else b.suppressed }
    pushFifo r { e with suppressed := b.suppressed }

/-- Fault pins whose severity an event reaches run their 100 ms (R141 function 8). -/
def faultPins (sev : Nat) (pins : List Pin) : List Pin :=
  changeWhere (fun p => p.function == 8 && decide (p.arg.toNat ≤ sev)) (fun p => { p with faultDue := true }) pins

/-- An event of given severity and flags is logged. -/
def logFull (code : BitVec 16) (sev : Nat) (unit : UnitId) (data : BitVec 64) (us : Nat) (deferred : Bool)
    (s : State) : State :=
  { s with
    evr := intake s.evr ⟨code, sev, unit, data, us, deferred, 0⟩
    pins := faultPins sev s.pins }

/-- An event is logged at a severity the chapter chooses. -/
def logSev (code : BitVec 16) (sev : Nat) (unit : UnitId) (data : BitVec 64) (s : State) : State :=
  logFull code sev unit data s.clk.us false s

/-- An event is logged at the severity of its catalogue row. -/
def logEvent (code : BitVec 16) (unit : UnitId) (data : BitVec 64) (s : State) : State :=
  logSev code (severityOf code) unit data s

/-- An event written later than it occurred (R379 bit 0). -/
def logDeferred (code : BitVec 16) (unit : UnitId) (data : BitVec 64) (us : Nat) (s : State) : State :=
  logFull code (severityOf code) unit data us true s

/-! ## Interrupts (R135) -/

/-- Something unread stands for the PCIe consumer: ring entries, or an interrupting DONE of a PCIe-owned mailbox. -/
def pcieUnread (s : State) : Bool :=
  (s.crg.pcieEn && decide (0 < s.crg.unreadPcie)) ||
    s.mbx.box.any fun b => b.unreadDone && b.state == .done && b.owner == some .pcie

/-- The same for the I3C consumer. -/
def i3cUnread (s : State) : Bool :=
  (s.crg.i3cEn && decide (0 < s.crg.unreadI3c)) ||
    s.mbx.box.any fun b => b.unreadDone && b.state == .done && b.owner == some .i3c

/-- Mailbox `m` is DONE. -/
def mbxIsDone (s : State) (m : Nat) : Bool :=
  match s.mbx.box[m]? with
  | some b => b.state == .done
  | none => false

/-- The mandatory byte of an in-band interrupt (R135). -/
def ibiByte (s : State) : Byte :=
  BitVec.ofNat 8 (128 * flag (s.crg.i3cEn && decide (0 < s.crg.unreadI3c)) + flag (mbxIsDone s 0) +
    2 * flag (mbxIsDone s 1))

/-- A byte of the MSI-X table: of each entry, bit 0 of the Vector Control word is 1 at reset and all else 0 (R91; the
entry and its reset value are the PCIe base specification's, log entry 173). -/
def msixByte (s : State) (o : Nat) : Byte := memRead s.nv.msix o ^^^ (if o % 16 = 12 then 1 else 0)

/-- A vector's own mask bit. -/
def vectorMasked (s : State) (v : Nat) : Bool := (msixByte s (16 * v + 12)).getLsbD 0

/-- A vector's message: by the one MSI vector where the host has enabled MSI, by MSI-X where it has enabled MSI-X; a
masked MSI-X vector leaves its pending bit set instead (R89, R91; log entry 173). -/
def interrupt (v : Nat) (s : State) : State :=
  if s.nv.msiEnabled then emit (.msi s.nv.msiAddress s.nv.msiData) s
  else if s.nv.msixEnabled = false then s
  else if s.nv.msixMasked || vectorMasked s v then
    if s.nv.pba.contains v then s else { s with nv := { s.nv with pba := s.nv.pba ++ [v] } }
  else emit (.msix v) s

/-- An MSI-X message goes out when none is outstanding and something is unread. -/
def msixNotify (s : State) : State :=
  if s.mbx.msixArmed && pcieUnread s then
    interrupt s.crg.vector { s with mbx := { s.mbx with msixArmed := false } }
  else s

/-- An in-band interrupt goes out when none is outstanding, ENEC has enabled them and something is unread. -/
def ibiNotify (s : State) : State :=
  if s.mbx.ibiArmed && s.i3c.ibiOn && s.i3c.addr.isSome && i3cUnread s then
    emit (.ibi (ibiByte s)) { s with mbx := { s.mbx with ibiArmed := false } }
  else s

/-- Both paths. -/
def notify (s : State) : State := ibiNotify (msixNotify s)

/-! ## Handles and the completion ring (R129 to R134) -/

/-- A live handle by value. -/
def findHandle (s : State) (v : BitVec 32) : Option Handle := s.hnd.live.find? fun h => h.value == v

/-- Its completion entry waits in the backlog (R134). -/
def completing (s : State) (v : BitVec 32) : Bool :=
  s.crg.backlog.any fun b => b.type == 1 && b.subject == v

/-- A live command of an opcode that has not completed. -/
def liveOp (s : State) (op : BitVec 16) : Option Handle :=
  s.hnd.live.find? fun h => h.opcode == op && !completing s h.value

/-- A command of an opcode is live, its completion entry posted or not (R130, R139). -/
def opLive (s : State) (op : BitVec 16) : Bool := s.hnd.live.any fun h => h.opcode == op

/-- The handle leaves the live table and its final status is kept (R130). -/
def retire (s : State) (v : BitVec 32) (status : BitVec 16) : State :=
  match findHandle s v with
  | none => s
  | some h =>
    { s with hnd := { s.hnd with
        live := s.hnd.live.filter fun x => x.value != v
        retired := (⟨v, h.opcode, status, (s.clk.us - h.acceptedUs) / 1000⟩ :: s.hnd.retired).take 256 } }

/-- A slot at TAIL may be written: every active consumer has room (R134). -/
def slotFree (r : Ring) : Bool :=
  (!r.pcieEn || decide (r.unreadPcie < 1024)) && (!r.i3cEn || decide (r.unreadI3c < 1024))

/-- Free slots as the busiest active consumer leaves them. -/
def slotsFree (r : Ring) : Nat :=
  min (if r.pcieEn then 1024 - r.unreadPcie else 1024) (if r.i3cEn then 1024 - r.unreadI3c else 1024)

/-- An entry is written at TAIL (R133, R134). -/
def ringWrite (r : Ring) (b : RingBody) : Ring :=
  { r with
    slots := (r.tail, ⟨b, r.phase, r.number⟩) :: r.slots.filter (fun e => e.1 != r.tail)
    tail := (r.tail + 1) % 1024
    phase := if r.tail = 1023 then !r.phase else r.phase
    number := r.number + 1
    unreadPcie := if r.pcieEn then r.unreadPcie + 1 else r.unreadPcie
    unreadI3c := if r.i3cEn then r.unreadI3c + 1 else r.unreadI3c }

/-- An entry is written; a handle completion retires its handle. -/
def putEntry (b : RingBody) (s : State) : State :=
  let s := { s with crg := ringWrite s.crg b }
  if b.type == 1 then retire s b.subject b.status else s

/-- An entry is written at TAIL, or waits in the backlog (R134). -/
def postEntry (b : RingBody) (s : State) : State :=
  if s.crg.backlog.isEmpty && slotFree s.crg then notify (putEntry b s)
  else { s with crg := { s.crg with backlog := s.crg.backlog ++ [b] } }

/-- Entries of the backlog move into free slots, in posting order. -/
def drainBacklog : List RingBody → State → State
  | [], s => { s with crg := { s.crg with backlog := [] } }
  | b :: bs, s =>
    if slotFree s.crg then drainBacklog bs (putEntry b s)
    else { s with crg := { s.crg with backlog := b :: bs } }

/-- Slots have become free. -/
def refillRing (s : State) : State := drainBacklog s.crg.backlog s

/-- Places left for a commit notice: free slots when nothing waits, and the half of the backlog not kept for handles. -/
def noticePlaces (r : Ring) : Nat :=
  (if r.backlog.isEmpty then slotsFree r else 0) + (256 - (r.backlog.filter fun b => b.type != 1).length)

/-- A commit notice is posted, behind an overflow marker when notices were dropped, or is dropped (R134). -/
def postNotice (sid : Nat) (result : BitVec 128) (s : State) : State :=
  let need := if s.crg.dropped = 0 then 1 else 2
  if noticePlaces s.crg < need then
    { s with crg := { s.crg with dropped := s.crg.dropped + 1, overflow := true } }
  else
    let marked :=
      if s.crg.dropped = 0 then s
      else postEntry ⟨3, false, 0, BitVec.ofNat 32 s.crg.dropped, 0, 0, 0⟩ { s with crg := { s.crg with dropped := 0 } }
    postEntry ⟨2, false, 0, BitVec.ofNat 32 sid, 0, 0, result⟩ marked

/-- A live handle completes once (R130): its entry is posted, with its result only when the status is OK (R133). -/
def completeHandle (v : BitVec 32) (status : BitVec 16) (result : BitVec 128) (s : State) : State :=
  match findHandle s v with
  | none => s
  | some h =>
    if completing s v then s
    else postEntry ⟨1, h.path == .i3c, status, v, h.opcode, h.mbx, if status = 0 then result else 0⟩ s

/-- A handle given or none. -/
def completeSome (v : Option (BitVec 32)) (status : BitVec 16) (result : BitVec 128) (s : State) : State :=
  match v with
  | none => s
  | some v => completeHandle v status result s

/-- A live handle's record changed. -/
def updateHandle (v : BitVec 32) (f : Handle → Handle) (s : State) : State :=
  { s with hnd := { s.hnd with live := changeWhere (fun h => h.value == v) f s.hnd.live } }

/-- The cancel point of a handle is passed (R140). -/
def passCancel (v : BitVec 32) (s : State) : State := updateHandle v (fun h => { h with past := true }) s

/-- Every live handle completes with one status (R136). -/
def completeAll (status : BitVec 16) (s : State) : State :=
  s.hnd.live.foldl (fun s h => completeHandle h.value status 0 s) s

/-! ## Status codes (R143) -/

/-- R143. -/
def stOk : BitVec 16 := 0x0000
/-- R143. -/
def stAccepted : BitVec 16 := 0x0001
/-- R143. -/
def stTooLate : BitVec 16 := 0x0002
/-- R143. -/
def stCancelled : BitVec 16 := 0x0003
/-- R143. -/
def stBadOpcode : BitVec 16 := 0x0010
/-- R143. -/
def stBadParam : BitVec 16 := 0x0011
/-- R143. -/
def stBadLength : BitVec 16 := 0x0012
/-- R143. -/
def stBusyRetry : BitVec 16 := 0x0020
/-- R143. -/
def stNoHandle : BitVec 16 := 0x0021
/-- R143. -/
def stPinConflict : BitVec 16 := 0x0030
/-- R143. -/
def stResourceConflict : BitVec 16 := 0x0031
/-- R143. -/
def stNotReady : BitVec 16 := 0x0040
/-- R143. -/
def stWrongState : BitVec 16 := 0x0041
/-- R143. -/
def stAuthFailed : BitVec 16 := 0x0050
/-- R143. -/
def stLocked : BitVec 16 := 0x0051
/-- R143. -/
def stThermalHalt : BitVec 16 := 0x0060
/-- R143. -/
def stPowerLoss : BitVec 16 := 0x0061
/-- R143. -/
def stMediaFailed : BitVec 16 := 0x0070
/-- R143. -/
def stCapacity : BitVec 16 := 0x0071
/-- R143. -/
def stInternal : BitVec 16 := 0x00FF

/-! ## Mailbox answers (R119 to R126) -/

/-- DRS offset of mailbox `m`'s request area (R119). -/
def mbxBase (m : Nat) : Nat := 0x1000 + m * 0x400

/-- A mailbox's registers. -/
def boxOf (s : State) (m : Nat) : Mbx := s.mbx.box.getD m Mbx.reset

/-- A mailbox's registers changed. -/
def updateBox (m : Nat) (f : Mbx → Mbx) (s : State) : State :=
  { s with mbx := { s.mbx with box := s.mbx.box.modify m f } }

/-- A field of the request area: `n` bytes from request offset `o`, little-endian (R120). -/
def reqField (s : State) (m o n : Nat) : Nat := leNat (memRange s.mbx.mem (mbxBase m + o) n)

/-- Opcode of the request (R120). -/
def reqOpcode (s : State) (m : Nat) : BitVec 16 := BitVec.ofNat 16 (reqField s m 0 2)

/-- The response is written whole, the mailbox becomes DONE, and an interrupt is asked for when the ring said so (R121,
R135). Results are given only with OK or ACCEPTED. -/
def respond (m : Nat) (status : BitVec 16) (results : List Byte) (s : State) : State :=
  let body := if status = stOk ∨ status = stAccepted then results else []
  let tag := memRange s.mbx.mem (mbxBase m + 4) 4
  let area := padTo 256 (packBytes [(2, status.toNat), (2, body.length)] ++ tag ++ body)
  let s := { s with mbx := { s.mbx with mem := memSplice s.mbx.mem (mbxBase m + 0x100) area } }
  notify (updateBox m (fun b => { b with state := .done, code := status, unreadDone := b.irq, latched := false }) s)

/-- The Clove firmware serves commands: it runs and no stop is in progress (R31, R33). -/
def serving (s : State) : Bool := s.life.phase == .service && s.life.fwStart && s.life.stop.isNone

/-- The recovery state, where the boot firmware serves mailbox 0 over PCIe (R349). -/
def recoveryServing (s : State) (m : Nat) : Bool := s.life.phase == .recovery && m == 0

/-- Mailbox `m` waits for the answer to a request of opcode `op`. -/
def waitsFor (s : State) (m : Nat) (op : BitVec 16) : Bool :=
  (boxOf s m).state == .busy && !(boxOf s m).latched && reqOpcode s m == op

/-- The firmware answers a request that MBX_RING has checked through step 5 of R126; a mailbox that waits for no such
answer is left alone. -/
def serve (m : Nat) (op : BitVec 16) (body : State → State) (s : State) : State :=
  if serving s && waitsFor s m op then body s else s

/-- Slots of the handle table that are free (R129). -/
def freeSlots (s : State) : List Nat :=
  (List.range 256).filter fun k => !s.hnd.live.any fun h => h.value.toNat % 256 == k

/-- A generation counts up by one, from 0xFF_FFFF back to 1 (R129). -/
def nextGeneration (g : Nat) : Nat := if g ≥ 0xFFFFFF then 1 else g + 1

/-- The handle the next long command gets: the generation, and one of the free slots, the manual does not say which. -/
def newHandle (s : State) : Option (BitVec 32) :=
  match (freeSlots s)[Config.choice s.free % (freeSlots s).length]? with
  | none => none
  | some k => some (BitVec.ofNat 32 (s.hnd.generation * 256 + k))

/-- Steps 7 of R126: NO_HANDLE, BUSY_RETRY, else a handle is issued and ACCEPTED answered with it at offset 8. `k` is
what acceptance starts, given the handle. -/
def accept (m : Nat) (op : BitVec 16) (conflict : Bool) (subject aux : Nat) (past : Bool)
    (k : BitVec 32 → State → State) (s : State) : State :=
  match newHandle s with
  | none => respond m stNoHandle [] s
  | some v =>
    if conflict then respond m stBusyRetry [] s
    else
      let h : Handle := ⟨v, op, m, (boxOf s m).ringPath, s.clk.us, past, subject, aux⟩
      let s := drawn { s with hnd := { s.hnd with
        live := s.hnd.live ++ [h], generation := nextGeneration s.hnd.generation } }
      respond m stAccepted (leBytes 4 v.toNat) (k v s)

/-! ## Queues of flagged things -/

/-- A stream by ID. -/
def findStream (s : State) (sid : Nat) : Option Stream := s.str.list.find? fun x => x.sid == sid

/-- A stream's record changed. -/
def updateStream (sid : Nat) (f : Stream → Stream) (s : State) : State :=
  { s with str := { s.str with list := changeWhere (fun x => x.sid == sid) f s.str.list } }

/-- A superblock by number. -/
def findSb (s : State) (n : Nat) : Option Superblock := s.map.sbs.find? fun b => b.number == n

/-- A superblock's record changed. -/
def updateSb (n : Nat) (f : Superblock → Superblock) (s : State) : State :=
  { s with map := { s.map with sbs := changeWhere (fun b => b.number == n) f s.map.sbs } }

/-- A namespace by identifier. -/
def findNs (s : State) (n : Nat) : Option Namespace := s.nv.namespaces.find? fun x => x.id == n

/-- A flash die's record by die index. -/
def findDie (s : State) (d : Nat) : Option Die := s.med.dies.find? fun x => x.index == d

/-- The record of a flash die in its Mace die's table (R216). -/
def dieRecord (s : State) (d : Nat) : Die := (findDie s d).getD (Die.absent d)

/-- Run time of a die's operation in µs since its start or last resume, as the record's 16 bits hold it (R216). -/
def runTime (s : State) (d : Die) : Nat := min 0xFFFF (s.clk.us - d.runFromUs)

/-- The code of a die's state (R137, R216). -/
def dieStateCode : DieState → Nat
  | .inService => 0
  | .fenced => 1
  | .stale => 2
  | .gated => 3
  | .absent => 4

/-- A flash die's record changed. -/
def updateDie (d : Nat) (f : Die → Die) (s : State) : State :=
  { s with med := { s.med with dies := changeWhere (fun x => x.index == d) f s.med.dies } }

/-- A channel's record. -/
def chanOf (s : State) (c : Nat) : Channel := s.med.channels.getD c Channel.reset

/-- A channel's record changed. -/
def updateChan (c : Nat) (f : Channel → Channel) (s : State) : State :=
  { s with med := { s.med with channels := s.med.channels.modify c f } }

/-- A DRAM channel's record changed. -/
def updateDram (d : Nat) (f : DramChannel → DramChannel) (s : State) : State :=
  { s with dram := { s.dram with channels := s.dram.channels.modify d f } }

/-- Class of a DRAM request, first served first (R266). -/
def requestClass : DramRequester → Nat
  | .captureWriter => 0
  | .bufferHit _ _ _ => 1
  | .mapEngine _ => 1
  | .cloveFetch _ => 1
  | .cloveData _ => 1
  | .partialWrite => 1
  | .bufferRead _ _ => 2
  | .nvmeWriter => 2
  | .mapWriter => 2
  | .indexStaging => 2
  | .staging => 3
  | .stagingWriter => 3
  | .mapRebuild => 3

/-- A receive lane, by ball. -/
def laneOf (s : State) (b : Nat) : Lane := s.link.lanes.getD b Lane.reset

/-- A receive lane changed. -/
def updateLane (b : Nat) (f : Lane → Lane) (s : State) : State :=
  { s with link := { s.link with lanes := s.link.lanes.modify b f } }

/-- The unit ID a lane's events carry: its logical number once announced, else its ball (R422). -/
def laneUnitOf (s : State) (b : Nat) : UnitId := laneUnit ((laneOf s b).logical.getD b)

/-- A slot is appended to the ledger's journal; LEDGER_PAGE_DONE makes it durable (R188). -/
def appendSlot (sl : Slot) (s : State) : State :=
  { s with map := { s.map with pendingSlots := s.map.pendingSlots ++ [sl] } }

/-! ## The configuration store (R313) -/

/-- Both copies can be compared and copy 1 is the newer. -/
def newerIs1 (n : Nor) : Bool :=
  n.config1.valid && (!n.config0.valid || decide (n.config0.generation < n.config1.generation))

/-- The valid copy of the higher generation; the built-in defaults where neither is valid (R313). -/
def config (s : State) : ConfigStore :=
  if newerIs1 s.nor then s.nor.config1 else if s.nor.config0.valid then s.nor.config0 else ConfigStore.reset

/-- An update erases and writes the older copy whole, one generation higher (R309, R313). -/
def storeConfig (f : ConfigStore → ConfigStore) (s : State) : State :=
  let c := f (config s)
  let c := { c with valid := true, generation := (config s).generation + 1 }
  if newerIs1 s.nor || !s.nor.config0.valid && !s.nor.config1.valid then 
    { s with nor := { s.nor with config0 := c, flags := erasedRows (configSectors 0) s.nor.flags } }
  else { s with nor := { s.nor with config1 := c, flags := erasedRows (configSectors 1) s.nor.flags } }

/-! ## Fencing and self-test (R369 to R378) -/

/-- A unit is on the fenced list (R374). -/
def isFenced (s : State) (u : UnitId) : Bool := s.st.fenced.any fun f => f.1 == u

/-- The Mace die of a channel (R17). -/
def maceOf (c : Nat) : Nat := c / 8

/-- A channel is withdrawn: itself or its Mace die fenced. -/
def channelOut (s : State) (c : Nat) : Bool := isFenced s (channelUnit c) || isFenced s (maceUnit (maceOf c))

/-- A flash die is withdrawn: itself, its channel or its Mace die fenced (R376). -/
def dieOut (s : State) (d : Nat) : Bool := isFenced s (dieUnit d) || channelOut s (d / 32)

/-- H: the healthy dies (R86): populated and not withdrawn. -/
def healthyDies (s : State) : Nat :=
  (s.med.dies.filter fun d => d.state != .absent && !dieOut s d.index).length

/-- An error starts its unit's targeted self-test, or joins the one running (R369, R371). -/
def startTest (u : UnitId) (code : BitVec 16) (s : State) : State :=
  let last := (u, code) :: s.st.lastEvent.filter (fun e => e.1 != u)
  if s.st.running.any fun t => t.unit == u then
    { s with st := { s.st with
        running := changeWhere (fun t => t.unit == u) (fun t => { t with joined := true }) s.st.running
        lastEvent := last } }
  else
    { s with st := { s.st with
        running := s.st.running ++ [⟨u, code, false, none, false, false, none⟩]
        lastEvent := last } }

/-- A unit enters the fenced list, in the registers of its class and in the configuration store, which holds 512
(R373, R374). -/
def fenceUnit (u : UnitId) (s : State) : State :=
  if isFenced s u then s
  else
    let s := { s with st := { s.st with fenced := s.st.fenced ++ [(u, s.clk.us)] } }
    let s := storeConfig (fun c => { c with fenced := if c.fenced.length < 512 then c.fenced ++ [u] else c.fenced }) s
    match unitClass u with
    | 2 => updateChan (unitIndex u) (fun c => { c with state := .fenced }) s
    | 3 => updateDie (unitIndex u) (fun d => { d with state := .fenced }) s
    | 8 => { s with thm := { s.thm with
        sensors := s.thm.sensors.modify (unitIndex u) fun x => { x with fenced := true, excluded := true, reading := none, valid := false } } }
    | _ => s

/-- SELFTEST_LASTING (R372, R388). Action: 0 fenced, 1 kept in service, 2 hub reset, 3 recovery state. -/
def logLasting (u : UnitId) (sev : Nat) (trigger : BitVec 16) (cause action : Nat) (s : State) : State :=
  logSev 0x0E02 sev u
    (evData [(2, u.toNat), (2, trigger.toNat), (1, cause), (1, action), (2, healthyDies s)]) s

/-- A lasting fault whose outcome is to fence the unit. -/
def fenceLasting (u : UnitId) (trigger : BitVec 16) (cause : Nat) (s : State) : State :=
  let s := fenceUnit u s
  logLasting u 4 trigger cause 0 s

/-- BUS_PARITY (R253, R388), with the self-test it starts (R369). -/
def busParity (stage : Nat) (unit tested : UnitId) (lane retries outcome lba : Nat) (s : State) : State :=
  startTest tested 0x0605
    (logEvent 0x0605 unit (evData [(1, stage), (1, lane), (1, retries), (1, outcome), (4, lba)]) s)

/-! ## Time (R319) -/

/-- One microsecond passes in the always-on island: the µs counter of 48 bits, the real-time counter of 48 bits at
32,768 Hz, and wall-clock time while it is known. Firmware has rebuilt a lost stream record, unless the Clove
cores are stopped (R289). -/
def tick (s : State) : State :=
  let frac := s.clk.rtcFrac + 32768
  let rebuilt (x : Stream) : Stream := { x with rebuilding := x.rebuilding && s.life.stop.isSome }
  { s with str := { s.str with list := s.str.list.map rebuilt }, clk := { s.clk with
      us := (s.clk.us + 1) % 2 ^ 48
      rtc := if 1000000 ≤ frac then (s.clk.rtc + 1) % 2 ^ 48 else s.clk.rtc
      rtcFrac := if 1000000 ≤ frac then frac - 1000000 else frac
      utc := s.clk.utc.map (· + 1) } }

end Sys2Proof.Machine
end

