-- ==== Sys2Proof/Machine/Durable.lean ====
section
/-! DEFINITION. What follows from the acceptance order: durability, fence and overlap holds, and the shares of the
write buffer. -/

namespace Sys2Proof.Machine

/-- One MiB in bytes. -/
def mib : Nat := 1048576

/-! ## The protected limit (R147, R158) -/

/-- The protected limit in force, in bytes: 0 in Unprotected mode (R147). -/
def limitBytes (s : State) : Nat := if s.hup.protectedMode then s.hup.limit * mib else 0

/-- Buffered bytes of a write. -/
def writeBytes (w : Write) : Nat := w.units.length * 4096

/-- Unwritten buffered bytes of every source up to a sequence number. -/
def olderBytes (s : State) (seq : Nat) : Nat :=
  ((s.ord.accepted.filter fun w => !w.programmed && decide (w.seq ≤ seq)).map writeBytes).sum

/-- A write lies within the protected limit (R147). -/
def withinLimit (s : State) (w : Write) : Bool :=
  decide (0 < limitBytes s) && decide (olderBytes s w.seq ≤ limitBytes s)

/-! ## Fences (R152 to R154) -/

/-- A write is in a fence's scope (R152). Folds are no item of R144 and in no scope. -/
def covers (f : FenceRec) (w : Write) : Bool :=
  w.kind != .fold &&
    match f.scope with
    | 0 => w.src == f.src
    | 1 => w.ns == f.ns
    | _ => true

/-- An unsatisfied fence stands in front of a write (R154). -/
def fenceHeld (s : State) (w : Write) : Bool :=
  s.ord.fences.any fun f => decide (f.seq < w.seq) && covers f w

/-- Reads from any source may return the write (R146, R153). -/
def readable (s : State) (w : Write) : Bool := !fenceHeld s w

/-- A write is durable (R146, R147, R153, R159): programmed with its parity, or within the limit with no unsatisfied
fence in front of it, or it was so before the limit fell. -/
def durable (s : State) (w : Write) : Bool := w.programmed || w.latched || (withinLimit s w && !fenceHeld s w)

/-- What is durable stays durable when the limit falls (R146). -/
def latchDurable (s : State) : State :=
  { s with ord := { s.ord with accepted := s.ord.accepted.map fun w => { w with latched := durable s w } } }

/-- Every write before a fence is durable: the fence is satisfied (R153). -/
def fenceReady (s : State) (f : FenceRec) : Bool :=
  s.ord.accepted.all fun w => !(decide (w.seq < f.seq) && covers f w) || durable s w

/-! ## Overlap (R149, R150) -/

/-- Two LBA ranges of one namespace share an LBA. -/
def overlaps (ns lba len ns' lba' len' : Nat) : Bool :=
  ns == ns' && decide (lba < lba' + len') && decide (lba' < lba + len)

/-- The ranges of LBAs a write names: one, or those of a Dataset Management command (R144). -/
def ranges (w : Write) : List (Nat × Nat) := (w.lba, w.len) :: w.more

/-- Two writes share an LBA of one namespace (R149). -/
def writesOverlap (a b : Write) : Bool :=
  (ranges a).any fun r => (ranges b).any fun q => overlaps a.ns r.1 r.2 b.ns q.1 q.2

/-- An earlier overlapping write of its own source is not durable yet (R150). -/
def overlapHeld (s : State) (w : Write) : Bool :=
  s.ord.accepted.any fun v => decide (v.seq < w.seq) && v.src == w.src && writesOverlap v w && !durable s v

/-- A write may go on to placement: no fence hold, no overlap hold (R150, R154). -/
def mayPlace (s : State) (w : Write) : Bool := !fenceHeld s w && !overlapHeld s w

/-! ## The write buffer (R82, R264) -/

/-- B in MiB (R264). -/
def bufferMib (s : State) : Nat :=
  if s.reg.dramGib = 32 then 16384 else if s.reg.dramGib = 64 then 40960 else 0

/-- A write of the capture class. -/
def isCapture (w : Write) : Bool := w.kind == .captureData || w.kind == .indexUnit

/-- The writes that wait for W7. -/
def waitingWrites (s : State) : List Write :=
  s.ord.waiting.filterMap fun x => match x with
    | .write w => some w
    | .fence _ => none

/-- Every write that holds buffer space: waiting, or accepted and not programmed. -/
def bufferedWrites (s : State) : List Write :=
  waitingWrites s ++ s.ord.accepted.filter fun w => !w.programmed

/-- Units held back under R71. -/
def heldUnits (s : State) : Nat := (s.str.list.map fun x => x.held.length).sum

/-- K: capture data held, in bytes (R82). -/
def captureHeld (s : State) : Nat :=
  (((bufferedWrites s).filter isCapture).map writeBytes).sum + heldUnits s * 4096

/-- N: NVMe data held, in bytes (R82). -/
def nvmeHeld (s : State) : Nat := (((bufferedWrites s).filter fun w => w.kind == .write).map writeBytes).sum

/-- A credit in bytes (R56). -/
def creditBytes : Nat := 65536

/-- G × 65,536 − C in serial arithmetic modulo 2^32 credits: 0 when C stands beyond the grant (R56). -/
def serialOpen (l : Link) : Nat :=
  let d := (BitVec.ofNat 48 (l.granted.toNat * creditBytes) - l.consumed).toNat
  if d < 2 ^ 47 then d else 0

/-- R: data granted and not yet received (R82). -/
def grantedOpen (s : State) : Nat :=
  if s.link.state == .up || s.link.state == .retrain || s.link.state == .halted then
    serialOpen s.link
  else 0

/-- The capture space of R57: B − max(Fn, N) − K − R. -/
def captureSpace (s : State) : Nat :=
  bufferMib s * mib - max (s.str.fn * mib) (nvmeHeld s) - captureHeld s - grantedOpen s

/-- New NVMe data finds room: N plus it stays within B − max(Fc, K + R) (R82). -/
def nvmeRoom (s : State) (bytes : Nat) : Bool :=
  decide (nvmeHeld s + bytes ≤ bufferMib s * mib - max (s.str.fc * mib) (captureHeld s + grantedOpen s))

/-- Unwritten data in the buffer, MiB, rounded up. -/
def unwrittenMib (s : State) : Nat :=
  ((((bufferedWrites s).map writeBytes).sum + heldUnits s * 4096) + mib - 1) / mib

/-- Protected limit in MiB as reported. -/
def limitMib (s : State) : Nat := limitBytes s / mib

/-- STREAM_PROTECT_LIMIT at each crossing of the limit and Fc between two states (R85). -/
def logLimitCrossing (before after : State) : State :=
  if decide (before.str.fc ≤ limitMib before) == decide (after.str.fc ≤ limitMib after) then after
  else logEvent 0x0204 (blockUnit 7) (evData [(4, limitMib after), (4, after.str.fc)]) after

end Sys2Proof.Machine
end

