-- ==== Sys2Proof/Machine/Operands.lean ====
section
/-! DEFINITION. Operand forms: the fields of an NVMe submission entry (R95, R100 to R106) and the table of Lorard
opcodes with the checks of steps 1 to 5 of R126 (R120, R137, R138). -/

namespace Sys2Proof.Machine

/-! ## NVMe submission entries. Field places the manual does not give are the NVM Command Set's (log entry 16). -/

/-- Starting LBA, Dwords 10 and 11 (R105). -/
def sqeLba (e : Sqe) : Nat := e.cdw10.toNat + e.cdw11.toNat * 2 ^ 32

/-- Number of LBAs: NLB + 1, Dword 12 (R105). -/
def sqeLen (e : Sqe) : Nat := field e.cdw12.toNat 0 16 + 1

/-- FUA, Dword 12 bit 30 (R105, R108). -/
def sqeFua (e : Sqe) : Bool := e.cdw12.getLsbD 30

/-- PRACT, Dword 12 bit 29 (R100). -/
def sqePract (e : Sqe) : Bool := e.cdw12.getLsbD 29

/-- PRCHK bit 2, the guard: Dword 12 bit 28 (R101). -/
def sqeChkGuard (e : Sqe) : Bool := e.cdw12.getLsbD 28

/-- PRCHK bit 1, the application tag: Dword 12 bit 27. -/
def sqeChkApp (e : Sqe) : Bool := e.cdw12.getLsbD 27

/-- PRCHK bit 0, the reference tag: Dword 12 bit 26. -/
def sqeChkRef (e : Sqe) : Bool := e.cdw12.getLsbD 26

/-- Reference tag of Dword 14 (R105). -/
def sqeRefTag (e : Sqe) : Nat := e.cdw14.toNat

/-- Application tag of Dword 15 (R105). -/
def sqeAppTag (e : Sqe) : Nat := field e.cdw15.toNat 0 16

/-- Application tag mask of Dword 15. -/
def sqeAppMask (e : Sqe) : Nat := field e.cdw15.toNat 16 16

/-- The data pointer is an SGL with a descriptor of a type not accepted: keyed, bit bucket, transport (R95). Accepted:
0 data block, 2 segment, 3 last segment. -/
def sqeSglBad (e : Sqe) : Bool := e.psdt != 0 && e.sgl.any fun t => t != 0 && t != 2 && t != 3

/-- I/O opcodes the device executes (R102). -/
def ioOpcodes : List Nat := [0x00, 0x01, 0x02, 0x08, 0x09, 0x0C, 0x81, 0x84]

/-- Admin opcodes the device executes (R103). -/
def adminOpcodes : List Nat :=
  [0x00, 0x01, 0x02, 0x04, 0x05, 0x06, 0x08, 0x09, 0x0A, 0x0C, 0x0D, 0x10, 0x11, 0x15, 0x80, 0x84]

/-- Features of Set Features and Get Features (R103). -/
def features : List Nat := [0x01, 0x02, 0x04, 0x06, 0x07, 0x08, 0x0C]

/-- Feature identifier of Set and Get Features. -/
def sqeFeature (e : Sqe) : Nat := field e.cdw10.toNat 0 8

/-- An admin command whose sub-operation R103 does not list: it completes with Invalid Field in Command. -/
def adminFieldBad (e : Sqe) : Bool :=
  match e.opcode.toNat with
  | 0x09 => !(features.contains (sqeFeature e)) || e.cdw10.getLsbD 31
  | 0x0D => decide (1 < field e.cdw10.toNat 0 4)
  | 0x10 => decide (3 < field e.cdw10.toNat 3 3)
  | 0x15 => decide (1 < field e.cdw10.toNat 0 4)
  | 0x84 => field e.cdw10.toNat 0 3 != 2 && field e.cdw10.toNat 0 3 != 4
  | _ => false

/-- Bits of Dwords 10 to 15 that a command of an I/O queue reserves; places of the fields as in the NVM Command Set
(R105, R117; log entry 16). -/
def ioReserved (op : Nat) : List Word32 :=
  let all : Word32 := 0xFFFFFFFF
  match op with
  | 0x00 => [all, all, all, all, all, all]
  | 0x01 => [0, 0, 0x03FF0000, 0xFFFFFF00, 0, 0]
  | 0x02 => [0, 0, 0x03FF0000, 0xFFFFFF00, 0, 0]
  | 0x08 => [0, 0, 0x01FF0000, all, 0, 0]
  | 0x09 => [0xFFFFFF00, 0xFFFFFFF8, all, all, all, all]
  | 0x0C => [0, 0, 0x03FF0000, all, 0, 0]
  | 0x81 => [0, 0, 0x83FF0000, all, 0, 0]
  | _ => []

/-- The same for an admin command, as in the NVMe base specification. -/
def adminReserved (op : Nat) : List Word32 :=
  let all : Word32 := 0xFFFFFFFF
  match op with
  | 0x00 => [0xFFFF0000, all, all, all, all, all]
  | 0x01 => [0, 0x0000FFF8, all, all, all, all]
  | 0x02 => [0, 0, 0, 0, 0, all]
  | 0x04 => [0xFFFF0000, all, all, all, all, all]
  | 0x05 => [0, 0x0000FFFC, all, all, all, all]
  | 0x06 => [0x0000FF00, 0, all, all, 0, all]
  | 0x08 => [0, all, all, all, all, all]
  | 0x09 => [0x7FFFFF00, 0, all, all, 0, all]
  | 0x0A => [0xFFFFF800, 0, all, all, 0, all]
  | 0x0C => [all, all, all, all, all, all]
  | 0x0D => [0xFFFFFFF0, 0, all, all, all, all]
  | 0x10 => [0xFFFFFFC0, all, all, all, all, all]
  | 0x11 => [0, 0, all, all, all, all]
  | 0x15 => [0xFFFFFFF0, all, all, all, all, all]
  | 0x80 => [0xFFFFF000, all, all, all, all, all]
  | 0x84 => [0xFFFFF800, 0, all, all, all, all]
  | _ => []

/-- A reserved bit of Dword 0, of Dwords 2 and 3 or of Dwords 10 to 15 is set; fused operations are not offered (R104,
R117). -/
def reservedSet (admin : Bool) (e : Sqe) : Bool :=
  let op := e.opcode.toNat
  let words := [e.cdw10, e.cdw11, e.cdw12, e.cdw13, e.cdw14, e.cdw15]
  e.fuse != 0 || e.reserved0 != 0 || e.dw2 != 0 || e.dw3 != 0 ||
    (List.zipWith (fun w m => w &&& m) words (if admin then adminReserved op else ioReserved op)).any (· != 0)

/-- The status an unsupported command completes with as it is fetched: 0x01 Invalid Command Opcode, 0x02 Invalid Field
in Command (R102, R103, R114, R117). A Fence has its own check (R106). -/
def unsupported (sq : Nat) (e : Sqe) : Option Nat :=
  if sq = 0 then
    if !adminOpcodes.contains e.opcode.toNat then some 0x01
    else if adminFieldBad e || reservedSet true e then some 0x02 else none
  else if !ioOpcodes.contains e.opcode.toNat then some 0x01
  else if e.opcode != 0x84 && reservedSet false e then some 0x02
  else none

/-! ## Lorard opcodes (R137, R138) -/

/-- A row of the command tables: opcode, request length, PCIe only, milestone required (0 none, 1 capture-ready,
2 map-ready). -/
structure LorardRow where
  opcode : Nat
  length : Nat
  pcieOnly : Bool
  milestone : Nat
deriving DecidableEq, Repr

/-- The command tables of R137. -/
def lorardTable : List LorardRow :=
  [⟨0x0001, 0, false, 0⟩, ⟨0x0002, 16, true, 1⟩, ⟨0x0003, 8, false, 0⟩, ⟨0x0010, 8, false, 0⟩, ⟨0x0011, 4, false, 0⟩,
   ⟨0x0020, 8, false, 0⟩, ⟨0x0021, 0, false, 0⟩, ⟨0x0022, 0, false, 0⟩, ⟨0x0030, 0, false, 0⟩, ⟨0x0031, 4, false, 0⟩,
   ⟨0x0040, 4, false, 1⟩, ⟨0x0041, 4, false, 0⟩, ⟨0x0042, 0, false, 0⟩, ⟨0x0050, 52, false, 1⟩, ⟨0x0051, 4, false, 0⟩,
   ⟨0x0052, 4, false, 0⟩, ⟨0x0053, 20, false, 1⟩, ⟨0x0054, 8, false, 1⟩, ⟨0x0055, 4, false, 1⟩, ⟨0x0056, 4, false, 0⟩,
   ⟨0x0060, 8, false, 0⟩, ⟨0x0070, 4, false, 2⟩, ⟨0x0071, 4, false, 2⟩, ⟨0x0072, 20, false, 2⟩, ⟨0x0080, 8, false, 0⟩,
   ⟨0x0081, 8, false, 0⟩, ⟨0x0090, 4, false, 0⟩, ⟨0x0091, 4, false, 0⟩, ⟨0x0092, 4, false, 0⟩, ⟨0x00A0, 16, true, 0⟩,
   ⟨0x00A1, 4, false, 0⟩, ⟨0x00A2, 16, true, 0⟩, ⟨0x00B0, 0, false, 0⟩, ⟨0x00B1, 148, false, 0⟩, ⟨0x00C0, 4, false, 0⟩,
   ⟨0x00F0, 4, false, 0⟩, ⟨0x00F1, 4, false, 0⟩]

/-- The row of an opcode. -/
def lorardRow (op : BitVec 16) : Option LorardRow := lorardTable.find? fun r => r.opcode == op.toNat

/-- Banks of Saffron SRAM and the Mace tables (R281): index and bytes. -/
def bankBytes (b : Nat) : Nat :=
  if b ≤ 0x007 then 524288
  else if b = 0x010 then 524288
  else if 0x020 ≤ b ∧ b ≤ 0x027 then 1048576
  else if 0x030 ≤ b ∧ b ≤ 0x057 then 198144
  else if b = 0x060 then 1048576
  else if b = 0x061 then 2048
  else if b = 0x070 then 4096
  else 0

/-- Saffron block numbers (R18). -/
def blockNumbers : List Nat :=
  List.range 0xD ++ [0x10, 0x11, 0x12, 0x13, 0x14, 0x18, 0x19, 0x1A, 0x1B] ++
    [0x20, 0x21, 0x22, 0x23, 0x24, 0x25, 0x26, 0x27, 0x28, 0x29]

/-- A 16-bit number is a unit ID (R13, R18, R281). -/
def unitKnown (u : UnitId) : Bool :=
  let i := u.toNat % 4096
  match u.toNat / 4096 with
  | 0 => blockNumbers.contains i
  | 1 => decide (i < 4)
  | 2 => decide (i < 32)
  | 3 => decide (i < 1024)
  | 4 => decide (i < 16)
  | 5 => decide (i < 9)
  | 6 => true
  | 7 => decide (0 < bankBytes i) || (decide (0x080 ≤ i) && decide (i ≤ 0x083))
  | 8 => decide (i < 24)
  | 9 => decide (i < 1024)
  | 0xA => true
  | _ => false

/-- A unit that has a test (R370): streams and superblocks have none. -/
def unitTested (u : UnitId) : Bool := unitKnown u && u.toNat / 4096 != 6 && u.toNat / 4096 != 0xA

/-- Argument range of a pin function; where R141 gives none the argument is not looked at (DESIGN CHOICE, log entry
174). -/
def pinArgumentOk (f arg : Nat) : Bool :=
  match f with
  | 2 => decide (arg < 2)
  | 8 => decide (3 ≤ arg) && decide (arg ≤ 5)
  | 9 => decide (arg < 4096)
  | _ => true

/-- A value kept (0) or inside a range. -/
def keptOr (v lo hi : Nat) : Bool := v == 0 || (decide (lo ≤ v) && decide (v ≤ hi))

/-- Step 4 of R126: reserved bytes and bits are zero, fields are in range (R10, R137, and the chapters' ranges). `f`
reads a request field by offset and size. -/
def paramsOk (s : State) (f : Nat → Nat → Nat) (op : Nat) : Bool :=
  let nsOk (n : Nat) : Bool := decide (1 ≤ n) && decide (n ≤ 64)
  match op with
  | 0x0002 => f 20 4 == 0
  | 0x0003 => f 8 8 != 0
  | 0x0010 => decide (f 8 1 < 16) && decide (f 9 1 < 10) && decide (f 10 1 < 4) && f 11 1 == 0 &&
      pinArgumentOk (f 9 1) (f 12 4)
  | 0x0011 => decide (f 8 1 < 16) && f 9 3 == 0
  | 0x0020 => decide (f 8 1 < 5) && decide (f 9 1 < 8) && f 10 2 == 0
  | 0x0031 => keptOr (f 8 1) 50 85 && keptOr (f 9 1) 70 100 && keptOr (f 10 1) 5 50 && f 11 1 == 0
  | 0x0040 => keptOr (f 8 2) 16 4096 && decide (f 10 1 < 2) && f 11 1 == 0
  | 0x0041 => decide (f 8 1 < 2) && f 9 3 == 0
  | 0x0050 => decide (f 8 2 < 4096) && nsOk (f 10 1) && decide (f 11 1 < 2) && decide (f 44 8 < 2 ^ 40) &&
      decide (f 52 4 ≤ 60000) && (decide (f 56 2 < 256) || f 56 2 == 0xFFFF) && f 58 2 == 0
  | 0x0051 => decide (f 8 2 < 4096) && f 10 2 == 0
  | 0x0052 => decide (f 8 2 < 4096) && f 10 2 == 0
  | 0x0053 => decide (f 8 2 < 4096) && decide (f 10 1 < 2) && f 11 1 == 0
  | 0x0055 => f 9 1 == 0 && decide (1 ≤ f 10 2) && decide (f 10 2 ≤ 4096)
  | 0x0056 => f 9 3 == 0
  | 0x0060 => decide (f 8 2 < 4096) && decide (1 ≤ f 10 1) && decide (f 10 1 ≤ 7) && f 11 1 == 0
  | 0x0070 => nsOk (f 8 1) && decide (f 9 1 < 2) && f 10 2 == 0
  | 0x0071 => f 10 2 == 0xC35A &&
      ((f 8 1 == 0 && nsOk (f 9 1) && (findNs s (f 9 1)).isSome) || (f 8 1 == 1 && f 9 1 == 0))
  | 0x0072 => nsOk (f 8 1) && f 9 3 == 0
  | 0x0080 => decide (1 ≤ f 12 1) && decide (f 12 1 ≤ 7) && decide (f 13 1 ≤ 5) && decide (f 14 1 ≤ 2) && f 15 1 == 0
  | 0x0081 => (catalogue.contains (f 8 2) || f 8 2 == 0xFFFF) && decide (f 10 2 ≤ 1000) && decide (1 ≤ f 12 2) &&
      decide (f 12 2 ≤ 1024) && f 14 2 == 0
  | 0x0090 => unitTested (BitVec.ofNat 16 (f 8 2)) && f 10 2 == 0
  | 0x0091 => unitKnown (BitVec.ofNat 16 (f 8 2)) && f 10 2 == 0
  | 0x0092 => unitKnown (BitVec.ofNat 16 (f 8 2)) && f 10 2 == 0
  | 0x00A0 => decide (1 ≤ f 8 1) && decide (f 8 1 ≤ 3) && f 9 3 == 0 && f 20 4 % 4096 == 0 &&
      decide (f 20 4 ≤ 28311552)
  | 0x00A1 => decide (1 ≤ f 8 1) && decide (f 8 1 ≤ 2) && f 9 3 == 0
  | 0x00A2 => decide (f 20 4 ≤ 32768)
  | 0x00B1 => f 8 2 == 144 && f 10 2 == 0
  | 0x00C0 => f 8 1 == 0 && f 9 3 == 0
  | _ => true

/-- The milestone a row asks for has been reached (R138). -/
def milestoneOk (s : State) (k : Nat) : Bool :=
  match k with
  | 0 => true
  | 1 => s.life.captureReady
  | _ => s.life.mapReady

/-- The first of steps 1 to 5 of R126 that fails, with its status. Without keys, the commands of R406 are locked at
step 2. -/
def requestFault (s : State) (p : Path) (m : Nat) : Option (BitVec 16) :=
  match lorardRow (reqOpcode s m) with
  | none => some stBadOpcode
  | some r =>
    if r.pcieOnly && p == .i3c then some stLocked
    else if s.sec.port = .opened ∧ [0x0050, 0x0070, 0x0071, 0x0072].contains r.opcode = true then some stLocked
    else if reqField s m 2 2 ≠ r.length then some stBadLength
    else if paramsOk s (reqField s m) r.opcode = false then some stBadParam
    else if milestoneOk s r.milestone = false then some stNotReady
    else none

end Sys2Proof.Machine
end

