-- ==== Sys2Proof/Machine/MailboxOps.lean ====
section
/-! DEFINITION. A RING from its arrival to the checks of R126, and the start of a Clove stop (R33, R123 to R126, R136,
R165, R349). -/

namespace Sys2Proof.Machine

/-! ## Rings (R123 to R126) -/

/-- Steps 1 to 5 of R126: the request is answered with the first that fails, or waits for its command's own row. -/
def checkRing (m : Nat) (s : State) : State :=
  match requestFault s (boxOf s m).ringPath m with
  | some st => respond m st [] s
  | none => s

/-- The opcodes the boot firmware serves (R349). -/
def recoveryOpcodes : List (BitVec 16) := [0x0001, 0x0080, 0x00A0, 0x00A1]

/-- A RING in the recovery state: the four commands are checked, every other opcode answers NOT_READY (R349). -/
def recoveryRing (m : Nat) (s : State) : State :=
  if recoveryOpcodes.contains (reqOpcode s m) = false then respond m stNotReady [] s
  else
    match requestFault s .pcie m with
    | some st => respond m st [] s
    | none =>
      if reqOpcode s m = 0x0080 ∧ reqField s m 14 1 = 2 then respond m stNotReady [] s else s

/-- The submitted request goes to whoever serves: firmware, at once or after a Clove stop, or the halt sequences, which
answer for it (R33, R123, R340, R365). -/
def routeRing (m : Nat) (s : State) : State :=
  match s.life.phase with
  | .service =>
    if s.life.stop.isNone && s.life.fwStart then checkRing m s
    else updateBox m (fun b => { b with latched := true }) s
  | .recovery => recoveryRing m s
  | .lossFlush => respond m stPowerLoss [] s
  | .haltFlush => respond m stThermalHalt [] s
  | .halted => respond m stThermalHalt [] s
  | _ => s

/-- A mailbox answers to its doorbell in this phase; in the recovery state only mailbox 0 over PCIe does (R349, R365).
-/
def doorbellLive (s : State) (p : Path) (m : Nat) : Bool :=
  match s.life.phase with
  | .service => true
  | .lossFlush => true
  | .haltFlush => true
  | .halted => p == .pcie
  | .recovery => p == .pcie && m == 0
  | _ => false

/-- A path reaches a mailbox: all over PCIe, 0 and 1 over I3C once the target has an address (R124, R128). -/
def reaches (s : State) (p : Path) (m : Nat) : Bool :=
  match p with
  | .pcie => true
  | .i3c => decide (m < 2) && s.i3c.addr.isSome

/-- CLAIM (R124). -/
def claimBox (p : Path) (m : Nat) (s : State) : State :=
  updateBox m (fun b => if b.owner.isNone && b.state != .busy then { b with owner := some p } else b) s

/-- RING (R123, R124). -/
def ringBox (p : Path) (m : Nat) (irq : Bool) (s : State) : State :=
  let b := boxOf s m
  if b.owner = some p ∨ b.owner = none then
    if b.state = .busy then updateBox m (fun b => { b with overrun := true }) s
    else
      routeRing m (updateBox m (fun b => { b with
        owner := some p, state := .busy, irq := irq, ringPath := p, unreadDone := false }) s)
  else s

/-- RELEASE (R122, R124). -/
def releaseBox (p : Path) (m : Nat) (s : State) : State :=
  updateBox m (fun b => if b.owner == some p && b.state != .busy then { b with owner := none } else b) s

/-- Ownership of a path ends with its reset (R136). -/
def endOwnership (p : Path) (s : State) : State :=
  let f (b : Mbx) : Mbx := { b with owner := none, unreadDone := false }
  { s with mbx := { s.mbx with box := changeWhere (fun b => b.owner == some p) f s.mbx.box } }

/-- Requests held in LATCHED are checked when firmware serves again (R33). -/
def serveLatched (s : State) : State :=
  (List.range 16).foldl (fun s m =>
    if (boxOf s m).latched then checkRing m (updateBox m (fun b => { b with latched := false }) s) else s) s

/-! ## A Clove stop begins (R33, R136, R165) -/

/-- The handle of a live command of an opcode completes. -/
def completeOp (op : BitVec 16) (status : BitVec 16) (s : State) : State :=
  (s.hnd.live.filter fun h => h.opcode == op).foldl (fun s h => completeHandle h.value status 0 s) s

/-- The Clove cores stop: the commands that firmware alone carries complete with BUSY_RETRY; a hold-up test ends without
a verdict (R136, R229, R339). -/
def beginStop (c : CloveStop) (s : State) : State :=
  let s := { s with life := { s.life with stop := some c } }
  let s := completeOp 0x0021 stBusyRetry s
  let s := completeOp 0x0090 stBusyRetry s
  let s := completeOp 0x00A2 stBusyRetry s
  { s with
    hup := { s.hup with run := none }
    nor := { s.nor with xo := true }
    st := { s.st with
      running := changeWhere (fun t => !t.readmit) (fun t => { t with handle := none }) s.st.running
      waiting := s.st.waiting.filter (·.readmit) }
    med := { s.med with
      load := none, toLoad := []
      channels := changeWhere (fun c => c.state == .loading) (fun c => { c with state := .running }) s.med.channels } }

end Sys2Proof.Machine
end

