-- ==== Sys2Proof/Machine/MapOps.lean ====
section
/-! DEFINITION. The layout of superblocks, the segment map and the overlay, and the updates of the map (R169 to R181,
R375). -/

namespace Sys2Proof.Machine

/-! ## Layout of a superblock (R169, R171, R375) -/

/-- Stripe group of a superblock number (R169). -/
def groupOf (sb : Nat) : Nat := sb % 32

/-- Block position of a superblock number (R169). -/
def positionOf (sb : Nat) : Nat := sb / 32

/-- Rows of a superblock (R171). -/
def rowCount : Nat := 512

/-- Units one die programs for one word line (R171). -/
def programUnit : Nat := 48

/-- Units of a row: 31 × 48, less 48 for each member left out (R171, R375). -/
def rowUnits (b : Superblock) : Nat := (31 - b.leftOut.length) * programUnit

/-- The data space in units (R171, R375). -/
def dataSpace (b : Superblock) : Nat := rowCount * rowUnits b

/-- The channels in service for a superblock, in order from channel `c` upward, modulo 32. -/
def channelsFrom (b : Superblock) (c : Nat) : List Nat :=
  ((List.range 32).map fun i => (c + i) % 32).filter fun x => !b.leftOut.contains x

/-- The parity channel (R171, R375). -/
def parityChannel (b : Superblock) : Nat :=
  (channelsFrom b ((positionOf b.number + groupOf b.number) % 32)).headD 0

/-- The channels of the data members in order (R171, R375). -/
def dataChannels (b : Superblock) : List Nat :=
  (channelsFrom b ((parityChannel b + 1) % 32)).filter fun x => x != parityChannel b

/-- Row of a unit offset. -/
def rowOf (b : Superblock) (off : Nat) : Nat := off / rowUnits b

/-- Channel that holds a unit offset (R171). -/
def channelOf (b : Superblock) (off : Nat) : Nat :=
  (dataChannels b).getD (off % rowUnits b / programUnit) 0

/-- Page of a unit offset: 0 lower, 1 middle, 2 upper (R171). -/
def pageOf (b : Superblock) (off : Nat) : Nat := off % rowUnits b % programUnit / 16

/-- Plane of a unit offset (R171). -/
def planeOf (b : Superblock) (off : Nat) : Nat := off % rowUnits b % programUnit % 16 / 4

/-- Codeword of its page that a unit offset is (R171). -/
def codewordOf (b : Superblock) (off : Nat) : Nat := off % rowUnits b % programUnit % 4

/-- Flash-die index that holds a unit offset (R14, R171). -/
def dieOf (b : Superblock) (off : Nat) : Nat := channelOf b off * 32 + groupOf b.number

/-- Flash-die index of the member of a superblock on a channel. -/
def memberDie (b : Superblock) (c : Nat) : Nat := c * 32 + groupOf b.number

/-- A run of consecutive units as a summary record describes it (R184). -/
structure Run where
  seq : Nat
  lba : Nat
  ns : Nat
  kind : UnitKind
  length : Nat
deriving DecidableEq, Repr

/-- The run a unit begins. -/
def runOf (u : FlashUnit) : Run := ⟨u.seq, u.lba, u.ns, u.kind, 1⟩

/-- The unit continues the run: the same write, the next LBA; or pad after pad; at most 512 units (R184). -/
def continues (r : Run) (u : FlashUnit) : Bool :=
  u.kind == r.kind && decide (r.length < 512) &&
    (u.kind == .pad || (u.seq == r.seq && u.ns == r.ns && u.lba == r.lba + r.length))

/-- The runs of units in placement order, the last first (R184). -/
def runsBack (us : List FlashUnit) : List Run :=
  us.foldl (fun rs u => match rs with
    | [] => [runOf u]
    | r :: rest => if continues r u then { r with length := r.length + 1 } :: rest else runOf u :: r :: rest) []

/-- The records of a superblock's summary (R184): the runs ahead of the summary. -/
def runsOf (b : Superblock) : List Run :=
  (runsBack (b.units.filter fun u => u.kind != .summary &&
    (b.summaryLength == 0 || decide (u.off < b.summaryStart)))).reverse

/-- Units of the summary for a number of records (R183, R184). -/
def summaryUnits (records : Nat) : Nat := (320 + 16 * records + 4095) / 4096

/-- The unit a superblock holds at an offset. -/
def unitAt (b : Superblock) (off : Nat) : Option FlashUnit := b.units.find? fun u => u.off == off

/-! ## The segment map (R172, R173) -/

/-- The segment entry of an index; unmapped where none is held. -/
def segEntry (s : State) (seg : Nat) : SegEntry :=
  match s.map.segments.find? fun e => e.seg == seg with
  | some e => e
  | none => ⟨seg, 0, 0, false, false, false, 0, 0⟩

/-- An entry put in the place of its segment's former one. -/
def putSeg (e : SegEntry) (s : State) : State :=
  { s with map := { s.map with segments := e :: s.map.segments.filter fun x => x.seg != e.seg } }

/-- Map index of an LBA of a namespace (R172). -/
def segIndex (n : Namespace) (lba : Nat) : Nat := n.base + lba / 256

/-! ## The overlay (R174) -/

/-- The hash of a unit's key (R174). -/
def overlayHash (n i : Nat) : Nat := ((256 * n + i) * 0x9E3779B1) % 2 ^ 32

/-- The overlay entry of a unit. -/
def overlayEntry (s : State) (n i : Nat) : Option OvlEntry :=
  s.map.overlay.find? fun e => e.ovlNumber == n && e.unit == i

/-- The free bucket nearest to a home bucket: at most 63 after it, wrapping (R174). -/
def freeBucket (s : State) (home : Nat) : Option Nat :=
  ((List.range 64).map fun d => (home + d) % 2 ^ 28).find? fun b => !s.map.overlay.any fun e => e.bucket == b

/-- An overlay segment number in no use: the lowest (R174). -/
def freeOvlNumber (s : State) : Nat :=
  let used := (s.map.segments.filter (·.overlaid)).map (·.ovlNumber)
  ((List.range (used.length + 1)).find? fun k => !used.contains k).getD used.length

/-- The reading of a unit as zeros by an overlay entry (R174). -/
def zeroSb : Nat := 0x1FFFF

/-- Unit `i` of a segment gets an overlay entry. None where no bucket within 63 of its home is free. -/
def putOverlay (seg i sb off seq : Nat) (s : State) : Option State :=
  let e := segEntry s seg
  let n := if e.overlaid then e.ovlNumber else freeOvlNumber s
  let old := if e.overlaid then overlayEntry s n i else none
  let place := match old with
    | some o => some o.bucket
    | none => freeBucket s (overlayHash n i % 2 ^ 28)
  match place with
  | none => none
  | some b =>
    let s := putSeg { e with overlaid := true, ovlNumber := n } s
    let entry : OvlEntry := ⟨n, i, b, sb, off, false, seq⟩
    some { s with map := { s.map with overlay := entry :: s.map.overlay.filter fun x => x.bucket != b } }

/-- Overlay entries of a segment that meet `p` go; O clears with the last (R173). -/
def dropOverlay (seg : Nat) (p : OvlEntry → Bool) (s : State) : State :=
  let e := segEntry s seg
  if e.overlaid = false then s
  else
    let kept := s.map.overlay.filter fun x => !(x.ovlNumber == e.ovlNumber && p x)
    let s := { s with map := { s.map with overlay := kept } }
    if kept.any fun x => x.ovlNumber == e.ovlNumber then s
    else putSeg { e with overlaid := false, ovlNumber := 0 } s

/-! ## Resolving (R175) -/

/-- Where the map says a unit of a namespace lies (R175 steps 2 to 4, R255). -/
def resolveMap (s : State) (ns lba : Nat) : Loc :=
  match findNs s ns with
  | none => .zeros
  | some n =>
    let seg := segIndex n lba
    let i := lba % 256
    if s.map.mapLost.contains seg then .lost
    else
      let e := segEntry s seg
      match if e.overlaid then overlayEntry s e.ovlNumber i else none with
      | some o => if o.sb = zeroSb then .zeros else .flash o.sb o.off
      | none => if e.mapped then .flash e.sb (e.off + i) else .zeros

/-- A whole segment lies inside a range. -/
def segmentInside (r : Nat × Nat) (lba : Nat) : Bool :=
  decide (r.1 ≤ lba / 256 * 256) && decide (lba / 256 * 256 + 256 ≤ r.1 + r.2)

/-- A write covers a unit: its range holds the LBA; a deallocate acts on whole segments only (R113). -/
def coversUnit (w : Write) (ns lba : Nat) : Bool :=
  w.ns == ns &&
    match w.kind with
    | .deallocate => (ranges w).any fun r => segmentInside r lba
    | _ => decide (w.lba ≤ lba) && decide (lba < w.lba + w.len)

/-- The content a write gives a unit it covers, and where it is placed: `none` reads as zeros. -/
def contentOf (w : Write) (lba : Nat) : Option Unit4k := w.units[lba - w.lba]?

/-- The place of unit number `k` of a write, once placed (R180). -/
def placedAt (w : Write) (k : Nat) : Option (Nat × Nat) :=
  match w.places.find? fun p => decide (p.first ≤ k) && decide (k < p.first + p.count) with
  | some p => some (p.sb, p.off + (k - p.first))
  | none => none

/-- The newest accepted write that covers a unit among those `see` admits (R175 step 1). -/
def newestWrite (s : State) (see : Write → Bool) (ns lba : Nat) : Option Write :=
  (s.ord.accepted.filter fun w => see w && coversUnit w ns lba).getLast?

/-! ## What lies in the map -/

/-- The namespace a segment index belongs to. -/
def namespaceOf (s : State) (seg : Nat) : Option Namespace :=
  s.nv.namespaces.find? fun n => decide (n.base ≤ seg) && decide (seg < n.base + n.size)

/-- Segments a range of LBAs touches. -/
def segmentsTouched (lba len : Nat) : Nat := if len = 0 then 0 else (lba + len - 1) / 256 + 1 - lba / 256

/-! ## Valid units (R186, R194) -/

/-- The map, or the entry of a programmed write whose update waits, points at a unit of a superblock. A map-lost
segment's units are kept: the next start maps them again (R255). -/
def unitValid (s : State) (b : Superblock) (u : FlashUnit) : Bool :=
  match u.kind with
  | .pad => false
  | .summary => false
  | _ =>
    (match resolveMap s u.ns u.lba with
      | .flash sb off => sb == b.number && off == u.off
      | .lost => true
      | .zeros => false) ||
      s.ord.accepted.any fun w => !w.applied && w.places.any fun p =>
        p.sb == b.number && decide (p.off ≤ u.off) && decide (u.off < p.off + p.count)

/-- The valid units of a superblock. -/
def validUnits (s : State) (b : Superblock) : List FlashUnit := b.units.filter (unitValid s b)

/-! ## Capacity (R181) -/

/-- The capacity limit in units (R181). -/
def capacityLimit (s : State) : Nat :=
  let live := s.map.sbs.filter fun b => b.state != .retired && b.state != .absent
  let groups := (live.map fun b => groupOf b.number).eraseDups.length
  (live.map dataSpace).sum - 8 * 761856 * groups

/-- A unit is mapped, or an accepted write gives it data. -/
def unitMapped (s : State) (ns lba : Nat) : Bool :=
  match newestWrite s (fun _ => true) ns lba with
  | some w => w.kind != .deallocate && w.kind != .secureDiscard
  | none => match resolveMap s ns lba with
    | .zeros => false
    | _ => true

/-- The map points at a unit of a superblock. -/
def mapHolds (s : State) (b : Superblock) (u : FlashUnit) : Bool :=
  u.kind != .pad && u.kind != .summary && resolveMap s u.ns u.lba == .flash b.number u.off

/-- The units, by namespace and LBA, that accepted writes give data and the map does not hold. -/
def unmappedUnits (s : State) : List (Nat × Nat) :=
  ((s.ord.accepted.flatMap fun w => (List.range w.units.length).map fun k => (w.ns, w.lba + k)).filter fun x =>
    resolveMap s x.1 x.2 == .zeros && unitMapped s x.1 x.2).eraseDups

/-- Valid data in units, each counted once: mapped, or new by an accepted write that is not in the map. -/
def validData (s : State) : Nat :=
  (s.map.sbs.map fun b => b.units.countP fun u => mapHolds s b u && unitMapped s u.ns u.lba).sum + (unmappedUnits s).length

/-- A write would map units not mapped before while valid data is at the limit (R181). -/
def overCapacity (s : State) (ns lba len : Nat) : Bool :=
  decide (capacityLimit s ≤ validData s) && (List.range len).any fun i => !unitMapped s ns (lba + i)

/-! ## Updates of the map (R180, R196, R202, R203) -/

/-- The whole aligned segments of a part of `count` units from LBA `lba`, by the number of their first unit (R177). -/
def wholeSegments (lba count : Nat) : List Nat :=
  (List.range count).filter fun k => (lba + k) % 256 == 0 && decide (k + 256 ≤ count)

/-- The other units of the part, which go to the overlay (R177). -/
def singleUnits (lba count : Nat) : List Nat :=
  (List.range count).filter fun k => !segmentInside (lba, count) (lba + k)

/-- A whole segment is mapped at a place: M is set, entries that `gone` admits are dropped, map-lost clears (R173, R196,
R255). -/
def mapSegment (seg sb off seq : Nat) (gone : OvlEntry → Bool) (s : State) : State :=
  let s := dropOverlay seg gone s
  let e := segEntry s seg
  let s := putSeg { e with sb := sb, off := off, mapped := true, foldPending := false, seq := seq } s
  { s with map := { s.map with mapLost := s.map.mapLost.filter fun x => x != seg } }

/-- A placed part of a programmed write enters the map. None where the overlay has no bucket for a unit (R205). -/
def mapPart (n : Namespace) (w : Write) (p : Place) (s : State) : Option State :=
  let lba := w.lba + p.first
  let gone (e : OvlEntry) : Bool := if w.kind = .fold then e.foldMark else true
  let s := (wholeSegments lba p.count).foldl
    (fun s k => mapSegment (segIndex n (lba + k)) p.sb (p.off + k) w.seq gone s) s
  (singleUnits lba p.count).foldl
    (fun o k => o.bind fun s => putOverlay (segIndex n (lba + k)) ((lba + k) % 256) p.sb (p.off + k) w.seq s) (some s)

/-- A segment becomes unmapped, with the sequence number that did it (R192, R202). -/
def unmapSegment (seg seq : Nat) (s : State) : State :=
  let s := dropOverlay seg (fun _ => true) s
  let s := putSeg { segEntry s seg with sb := 0, off := 0, mapped := false, foldPending := false, seq := seq } s
  { s with map := { s.map with mapLost := s.map.mapLost.filter fun x => x != seg } }

/-- First LBAs of the whole segments of a range. -/
def segmentsInRange (r : Nat × Nat) : List Nat :=
  ((List.range (r.2 / 256 + 1)).map fun k => (r.1 / 256 + k) * 256).filter fun l => segmentInside r l

/-- A write's update of the map. None where it must wait for overlay room. The update of a write whose namespace is
gone, or has a newer epoch, is nothing (R204). -/
def mapWrite (w : Write) (s : State) : Option State :=
  match findNs s w.ns with
  | none => some s
  | some n =>
    if w.seq < n.epoch then some s
    else
      match w.kind with
      | .deallocate =>
        some ((ranges w).foldl (fun s r => (segmentsInRange r).foldl
          (fun s l => unmapSegment (segIndex n l) w.seq s) s) s)
      | .secureDiscard =>
        (List.range w.len).foldl (fun o k => o.bind fun s =>
          putOverlay (segIndex n (w.lba + k)) ((w.lba + k) % 256) zeroSb 0 (w.seq + ((w.lba + k) / 256 - w.lba / 256)) s)
          (some s)
      | _ => w.places.foldl (fun o p => o.bind fun s => mapPart n w p s) (some s)

/-- A write's update may be made now: it is programmed, or a deallocate or discard that is readable. -/
def updateDue (s : State) (w : Write) : Bool :=
  !w.applied &&
    match w.kind with
    | .deallocate => readable s w
    | .secureDiscard => readable s w
    | _ => w.programmed

/-- The updates that are due are made in sequence-number order, each once no earlier overlapping write's update is
outstanding (R180, R202). -/
def settleFrom (earlier : List Write) : List Write → State → State
  | [], s => { s with ord := { s.ord with accepted := earlier } }
  | w :: ws, s =>
    let blocked := earlier.any fun v => !v.applied && writesOverlap v w
    if updateDue s w && !blocked then
      match mapWrite w s with
      | some s =>
        if w.programmed then settleFrom earlier ws s
        else settleFrom (earlier ++ [{ w with applied := true }]) ws s
      | none => settleFrom (earlier ++ [w]) ws s
    else if w.applied && w.programmed then settleFrom earlier ws s
    else settleFrom (earlier ++ [w]) ws s

/-- The slots of a deallocate or discard: one DEALLOCATE slot per range of whole segments, one SECURE DISCARD slot
(R202, R203). -/
def recordSlots (w : Write) : List Slot :=
  match w.kind with
  | .deallocate => (ranges w).filterMap fun r =>
      match segmentsInRange r with
      | [] => none
      | l :: ls => some (.deallocate w.seq w.ns (l / 256) (ls.length + 1))
  | .secureDiscard =>
      let handle := match w.src with
        | .discard h => h
        | _ => 0
      [.secureDiscard w.seq w.ns handle w.lba w.len]
  | _ => []

/-- A deallocate or discard whose slots may go to the journal: no fence hold, no overlap hold (R150, R154). -/
def recordDue (s : State) (w : Write) : Bool :=
  (w.kind == .deallocate || w.kind == .secureDiscard) && !w.recorded && mayPlace s w

/-- An accepted write changed, by sequence number. -/
def updateWrite (seq : Nat) (f : Write → Write) (s : State) : State :=
  { s with ord := { s.ord with accepted := changeWhere (fun w => w.seq == seq) f s.ord.accepted } }

/-- The slots of every record that is due are appended, in acceptance order; a deallocate without a whole segment has
nothing to program (R113, R147). -/
def recordAll (s : State) : State :=
  s.ord.accepted.foldl (fun s w =>
    if recordDue s w then
      (recordSlots w).foldl (fun s x => appendSlot x s)
        (updateWrite w.seq (fun x => { x with recorded := true, programmed := (recordSlots w).isEmpty }) s)
    else s) s

/-- Map updates after anything that makes a write programmed, durable or readable; a write leaves the Overlap Directory
once it is programmed and in the map (R150, R180). -/
def settleMap (s : State) : State :=
  let s := recordAll s
  settleFrom [] s.ord.accepted s

/-! ## Overlay full (R205) -/

/-- Bytes of the summaries of all superblocks GRANTED or CLOSED (R185). -/
def summaryBytes (s : State) : Nat :=
  ((s.map.sbs.filter fun b => b.state == .granted || b.state == .closed).map fun b =>
    summaryUnits (runsOf b).length * 4096).sum

/-- Segments that hold overlay entries. -/
def overlaidSegments (s : State) : Nat := (s.map.segments.filter (·.overlaid)).length

/-- Why overlay units cannot be placed (R205): entries, displacement, segments, summaries, coded
from 0 in that order (log entry 14). -/
def overlayCause (s : State) (n : Namespace) (lba : Nat) (units : List Nat) : Option Nat :=
  if units.isEmpty then none
  else if 2 ^ 28 ≤ s.map.overlay.length then some 0
  else if 8000000000 ≤ summaryBytes s then some 3
  else if units.any (fun k =>
      let e := segEntry s (segIndex n (lba + k))
      !e.overlaid && decide (2 ^ 24 ≤ overlaidSegments s)) then some 2
  else if units.any (fun k =>
      let e := segEntry s (segIndex n (lba + k))
      let num := if e.overlaid then e.ovlNumber else freeOvlNumber s
      (overlayEntry s num ((lba + k) % 256)).isNone &&
        (freeBucket s (overlayHash num ((lba + k) % 256) % 2 ^ 28)).isNone) then some 1
  else none

/-- An episode ends below both marks (R205). -/
def endOverlayEpisode (s : State) : State :=
  if s.map.overlayFull && decide (s.map.overlay.length < 201326592) && decide (summaryBytes s < 7500000000) then
    { s with map := { s.map with overlayFull := false } }
  else s

end Sys2Proof.Machine
end

