-- ==== Sys2Proof/Machine/PlaceOps.lean ====
section
/-! DEFINITION. Placing parts of writes in superblocks, sending and finishing rows, closing superblocks (R176 to R184,
R199). -/

namespace Sys2Proof.Machine

/-! ## Summaries (R183, R184) -/

/-- Seconds from 1970 to 2000-01-01. -/
def epoch2000 : Nat := 946684800

/-- UTC µs since 1970 as seconds since 2000-01-01, 0 where unknown (R183). -/
def utcSeconds (t : Option Nat) : Nat :=
  match t with
  | some us => us / 1000000 - epoch2000
  | none => 0

/-- Kind code of a unit (R182). -/
def kindCode : UnitKind → Nat
  | .write => 0 | .gcCopy => 1 | .fold => 2 | .pad => 3 | .summary => 4

/-- The 16 bytes of a summary record (R184). -/
def recordBytes (r : Run) : List Byte :=
  packBytes [(8, r.seq), (5, r.lba), (1, (r.ns - 1) % 64 + 64 * kindCode r.kind), (2, r.length - 1)]

/-- The 8 bytes of a member in a summary's header (R183, R375). -/
def memberBytes (b : Superblock) (c : Nat) : List Byte :=
  if b.leftOut.contains c then packBytes [(4, 0xFFFFFFFF), (1, 0), (1, 0), (2, 0)]
  else
    packBytes [(4, utcSeconds b.firstUtc), (1, signed 8 (b.firstTemps.getD c 0)), (1, signed 8 (b.lastTemps.getD c 0)),
      (2, sat 16 (b.memberErases.getD c 0))]

/-- The bytes of a superblock's summary, padded to whole units (R183). -/
def summaryBytesOf (b : Superblock) : List Byte :=
  let rs := runsOf b
  let seqs := (rs.filter fun r => r.kind != .pad).map (·.seq)
  let low := (seqs.min?).getD 0
  let front := packBytes [(2, 1), (2, 320), (4, b.number), (4, rs.length), (4, b.summaryStart), (8, b.closeStamp),
    (8, low), (1, parityChannel b), (23, 0), (4, b.eraseCount)]
  let back := (List.range 32).flatMap (memberBytes b) ++ rs.flatMap recordBytes
  let bytes := padTo (b.summaryLength * 4096) (front ++ leBytes 4 0 ++ back)
  bytes.take 60 ++ leBytes 4 (crc32c bytes) ++ bytes.drop 64

/-! ## Units -/

/-- A unit of zeros (R113). -/
def zeroUnit : Unit4k := ⟨0, guardOf 0, 0, false⟩

/-- A pad unit (R179, R182). -/
def padUnit (off : Nat) : FlashUnit :=
  { off := off, seq := 0, lba := 0, ns := 0, source := 0, relocation := 0, part := 1, kind := .pad, keyGen := 0
    content := zeroUnit }

/-- The source field of a unit's metadata (R182). -/
def sourceField (w : Write) : BitVec 16 :=
  match w.src, w.kind with
  | .stream sid, .indexUnit => BitVec.ofNat 16 (sid % 4096 + 0x3000)
  | .stream sid, _ => BitVec.ofNat 16 (sid % 4096 + 0x1000)
  | _, _ => 0

/-- Generation of a namespace's media key, 0 where it has none (R392). -/
def keyGenOf (s : State) (ns : Nat) : Nat :=
  match s.sec.keys.find? fun k => k.ns == ns && k.present with
  | some k => k.generation
  | none => 0

/-- Unit `k` of a write as it is placed at an offset in a part of `count` units (R177, R182). -/
def writeUnit (s : State) (w : Write) (count off k : Nat) : FlashUnit :=
  { off := off, seq := w.seq, lba := w.lba + k, ns := w.ns, source := sourceField w, relocation := 0, part := count
    kind := if w.kind = .fold then .fold else .write, keyGen := keyGenOf s w.ns, content := (w.units[k]?).getD zeroUnit }

/-! ## Rows (R179) -/

/-- Units that go to the overlay are among those placed together: all but whole aligned segments (R177). -/
def overlaid (us : List FlashUnit) : Bool :=
  match us.head? with
  | none => false
  | some f => f.kind != .pad && f.kind != .summary &&
      (!(us.zipIdx.all fun x => x.1.lba == f.lba + x.2) || !(singleUnits f.lba us.length).isEmpty)

/-- Units are appended to a superblock; the ledger's flag says whether it holds overlay units (R187). -/
def appendUnits (us : List FlashUnit) (b : Superblock) : Superblock :=
  { b with units := b.units ++ us, fill := b.fill + us.length, overlay := b.overlay || overlaid us }

/-- Every row whose units are all placed is sent for programming, its parity member after it (R179). -/
def sendRows (b : Superblock) : Superblock :=
  { b with rowsSent := b.rowsSent ++ (List.range (b.fill / rowUnits b)).filter fun r => !b.rowsSent.contains r }

/-- The pad units that fill the present row (R179). -/
def padUnits (b : Superblock) : List FlashUnit :=
  (List.range ((rowUnits b - b.fill % rowUnits b) % rowUnits b)).map fun i => padUnit (b.fill + i)

/-- The present row is filled with pad units and sent (R179). -/
def padRow (b : Superblock) : Superblock := sendRows (appendUnits (padUnits b) b)

/-- A superblock of the granted set that takes no more data: its summary is placed, or it failed. -/
def closing (b : Superblock) : Bool := b.summaryLength != 0 || b.noSummary

/-- The active superblock of a stripe group (R176). -/
def activeOf (s : State) (g : Nat) : Option Superblock :=
  s.map.sbs.find? fun b => groupOf b.number == g && b.state == .granted && b.active && !closing b

/-- The standby of a stripe group becomes active (R176). -/
def promote (g : Nat) (s : State) : State :=
  match s.map.sbs.find? fun b => groupOf b.number == g && b.state == .granted && !b.active && !closing b with
  | some b => updateSb b.number (fun b => { b with active := true }) s
  | none => s

/-- The last sequence number issued. -/
def lastIssued (s : State) : Nat := s.ord.next - 1

/-- A superblock's summary is placed after its last unit and its row is padded; the standby takes its place. CLOSE is
recorded when the summary is programmed (R178). -/
def closeSb (n : Nat) (s : State) : State :=
  let stamp := lastIssued s
  let s := updateSb n (fun b =>
    let len := summaryUnits (runsOf b).length
    let b := { b with active := false, closeStamp := stamp, summaryStart := b.fill, summaryLength := len }
    let bytes := summaryBytesOf b
    let units := (List.range len).map fun i =>
      let data : UnitData := BitVec.ofNat 32768 (leNat ((bytes.drop (i * 4096)).take 4096))
      { padUnit (b.fill + i) with part := len, kind := .summary, content := ⟨data, guardOf data, 0, false⟩ }
    padRow (appendUnits units b)) s
  promote (groupOf n) s

/-- A write is programmed when all its parts are placed and every row of them is programmed with its parity (R147). -/
def rowsProgrammed (s : State) (p : Place) : Bool :=
  match findSb s p.sb with
  | none => false
  | some b => (List.range (rowOf b (p.off + p.count - 1) + 1 - rowOf b p.off)).all fun i =>
      b.rowsDone.contains (rowOf b p.off + i)

/-- The parts of a write: its units cut at 2 MiB-aligned boundaries, as first unit and count (R156, R177). -/
def writeParts (w : Write) : List (Nat × Nat) :=
  match w.kind with
  | .deallocate => []
  | .secureDiscard => []
  | _ =>
    let first := w.lba / 512
    let last := (w.lba + w.len - 1) / 512
    ((List.range (last + 1 - first)).map fun i =>
      let lo := max w.lba ((first + i) * 512)
      let hi := min (w.lba + w.len) ((first + i + 1) * 512)
      (lo - w.lba, hi - lo)).filter fun p => 0 < p.2

/-- The next part of a write that has no place. -/
def nextPart (w : Write) : Option (Nat × Nat) :=
  (writeParts w).find? fun p => !w.places.any fun q => q.first == p.1

/-- Every part is placed and programmed. -/
def isProgrammed (s : State) (w : Write) : Bool :=
  !(writeParts w).isEmpty && (nextPart w).isNone && w.places.all (rowsProgrammed s)

/-- Writes found programmed are marked, and the map is brought up to date (R147, R180). -/
def markProgrammed (s : State) : State :=
  settleMap { s with ord := { s.ord with
    accepted := s.ord.accepted.map fun w => if isProgrammed s w then { w with programmed := true } else w } }

/-! ## Ahead of all other work (R160) -/

/-- A write that goes ahead of all other work has a part in a row of the superblock from this one on, not programmed. -/
def aheadAt (s : State) (b : Superblock) (row : Nat) : Bool :=
  s.ord.accepted.any fun w => !w.programmed && decide (w.seq ≤ s.hup.flushAhead) && w.places.any fun p =>
    p.sb == b.number && decide (row ≤ rowOf b (p.off + p.count - 1)) && !rowsProgrammed s p

/-- A write that goes ahead of all other work is placed and not programmed. -/
def aheadPlaced (s : State) : Bool :=
  s.ord.accepted.any fun w => !w.programmed && decide (w.seq ≤ s.hup.flushAhead) && w.places.any fun p => !rowsProgrammed s p

/-! ## Placing (R176 to R178) -/

/-- Units and the summary that would then be needed fit in a superblock (R178). -/
def unitsFit (b : Superblock) (us : List FlashUnit) : Bool :=
  decide (b.fill + us.length + summaryUnits (runsOf { b with units := b.units ++ us }).length ≤ dataSpace b)

/-- A superblock's row is padded and sent; where its summary would then not fit, it is closed instead, which pads the
row too (R178, R179). -/
def padSb (n : Nat) (s : State) : State :=
  match findSb s n with
  | none => s
  | some b => if unitsFit b (padUnits b) then updateSb n padRow s else closeSb n s

/-- The stripe groups in turn from the next one, with the superblock that takes a part: an active one without room is
closed and its standby looked at (R176, R178). Answers the state and the superblock. -/
def chooseSb (mk : State → Nat → List FlashUnit) : List Nat → State → State × Option Nat
  | [], s => (s, none)
  | g :: gs, s =>
    let fits (s : State) (b : Superblock) : Bool := unitsFit b (mk s b.fill)
    let s := match activeOf s g with
      | some b => if fits s b then s else closeSb b.number s
      | none => s
    match activeOf s g with
    | some b => if b.usable && fits s b then (s, some b.number) else chooseSb mk gs s
    | none => chooseSb mk gs s

/-- Units are placed consecutively in the superblock that takes them. -/
def placeUnits (mk : State → Nat → List FlashUnit) (s : State) : State × Option (Nat × Nat) :=
  let turn := (List.range 32).map fun i => (s.map.nextGroup + i) % 32
  match chooseSb mk turn s with
  | (s, none) => (s, none)
  | (s, some n) =>
    match findSb s n with
    | none => (s, none)
    | some b =>
      let us := mk s b.fill
      let s := updateSb n (fun b => sendRows (appendUnits us
        { b with openedUs := if b.fill = 0 then s.clk.us else b.openedUs })) s
      ({ s with map := { s.map with nextGroup := (groupOf n + 1) % 32 } }, some (n, b.fill))

/-- A part of an accepted write is placed (R177). -/
def placePart (w : Write) (p : Nat × Nat) (s : State) : State :=
  let mk (s : State) (off : Nat) : List FlashUnit :=
    (List.range p.2).map fun i => writeUnit s w p.2 (off + i) (p.1 + i)
  match placeUnits mk s with
  | (s, none) => s
  | (s, some (n, off)) => updateWrite w.seq (fun w => { w with places := w.places ++ [⟨n, off, p.1, p.2⟩] }) s

/-- The part must wait for overlay room, with the cause (R205). -/
def overlayWait (s : State) (w : Write) (p : Nat × Nat) : Option Nat :=
  match findNs s w.ns with
  | none => none
  | some n => overlayCause s n (w.lba + p.1) (singleUnits (w.lba + p.1) p.2)

/-- MAP_OVERLAY_FULL, once an episode (R205). -/
def beginOverlayEpisode (cause : Nat) (s : State) : State :=
  if s.map.overlayFull then s
  else
    logEvent 0x0402 (blockUnit 8)
      (evData [(4, sat 32 s.map.overlay.length), (3, summaryBytes s / 1000000), (1, cause)])
      { s with map := { s.map with overlayFull := true } }

/-! ## Demands for programming before a row is full (R179) -/

/-- Durability of a write is wanted now: by a power-loss, halt, shutdown or P4 flush, by the writes that leave Protected
mode first (R160), or, in Unprotected mode, by FUA, host WCE 0 (log entry 15), a Flush or a Fence. -/
def wanted (s : State) (w : Write) : Bool :=
  s.life.phase == .lossFlush || s.life.phase == .haltFlush || s.nv.shst == 1 || decide (w.seq ≤ s.hup.flushAhead) ||
    (!s.hup.protectedMode &&
      (w.fua || (w.cmd.isSome && !s.nv.wce) ||
        s.ord.fences.any (fun f => decide (w.seq < f.seq) && covers f w) ||
        s.nv.cmds.any fun c => c.sqe.opcode == 0x00 && c.sq != 0 && c.stage == .running && decide (w.seq ≤ c.flushUpTo) &&
          (c.sqe.nsid == 0xFFFFFFFF || c.sqe.nsid.toNat == w.ns)))

/-- The unfinished row of a superblock holds a unit of a write whose durability is wanted. -/
def rowWanted (s : State) (b : Superblock) : Bool :=
  b.fill % rowUnits b != 0 &&
    s.ord.accepted.any fun w => !w.programmed && wanted s w && w.places.any fun p =>
      p.sb == b.number && decide (b.fill - b.fill % rowUnits b < p.off + p.count)

/-- Active superblocks that meet `p` have their unfinished row padded and sent. -/
def padWhere (p : Superblock → Bool) (s : State) : State :=
  ((s.map.sbs.filter fun b => b.state == .granted && b.active && p b).map (·.number)).foldl (fun s n => padSb n s) s

/-- Rows wanted before they are full are padded and sent (R179). -/
def padWanted (s : State) : State := padWhere (rowWanted s) s

/-- Every active superblock's unfinished row is padded and sent. -/
def padAll (s : State) : State := padWhere (fun b => b.fill % rowUnits b != 0) s

/-! ## Rows done (R147, R179, R183) -/

/-- Last temperature reading of each member of a stripe group, by channel. -/
def memberTemps (s : State) (g : Nat) : List Int :=
  (List.range 32).map fun c => match findDie s (c * 32 + g) with
    | some d => d.temp
    | none => 0

/-- A row and its parity member are programmed; the members' last temperature readings are noted (R183, R217). -/
def rowDone (n row : Nat) (s : State) : State :=
  let temps := memberTemps s (groupOf n)
  updateSb n (fun b =>
    let first := b.rowsDone.isEmpty
    { b with
      rowsDone := b.rowsDone ++ [row]
      firstUs := if first then some s.clk.us else b.firstUs
      firstUtc := if first then s.clk.utc else b.firstUtc
      firstTemps := if first then temps else b.firstTemps
      lastTemps := temps
      reads := [] }) s

/-- A closing superblock whose rows are all programmed becomes CLOSED and CLOSE is recorded (R178, R186). -/
def finishClose (n : Nat) (s : State) : State :=
  match findSb s n with
  | none => s
  | some b =>
    if b.state = .granted ∧ closing b = true ∧ b.rowsSent.all (b.rowsDone.contains ·) = true then
      appendSlot (.close b.closeStamp n b.summaryStart b.summaryLength b.noSummary)
        (updateSb n (fun b => { b with state := .closed }) s)
    else s

/-- A superblock takes no more data and is closed with no summary; parts of it not yet programmed are to be placed again
elsewhere (R199, R375). -/
def closeFailed (n : Nat) (s : State) : State :=
  let stamp := lastIssued s
  let s := { s with ord := { s.ord with accepted := s.ord.accepted.map fun w =>
    { w with places := w.places.filter fun p => p.sb != n || rowsProgrammed s p } } }
  let s := updateSb n (fun b => { b with
    active := false, noSummary := true, closeStamp := stamp, summaryStart := 0, summaryLength := 0
    rowsSent := b.rowsDone
    units := b.units.filter fun u => b.rowsDone.contains (rowOf b u.off) }) s
  finishClose n (promote (groupOf n) s)

/-! ## The flush of everything (R166, R340, R365) -/

/-- Every part of the given writes that may go to placement is placed, in order, and every row programmed. A start
rebuilds the map after it, so that nothing waits for overlay room (R205). -/
def programWrites (ws : List Nat) (s : State) : State :=
  let s := ws.foldl (fun s seq =>
    match s.ord.accepted.find? fun w => w.seq == seq with
    | none => s
    | some w => if mayPlace s w then
        (writeParts w).foldl (fun s p => if w.places.any fun q => q.first == p.1 then s else placePart w p s) s
      else s) s
  let s := padAll s
  let s := s.map.sbs.foldl (fun s b =>
    (b.rowsSent.filter fun r => !b.rowsDone.contains r).foldl (fun s r => rowDone b.number r s) s) s
  s.map.sbs.foldl (fun s b => finishClose b.number s) (markProgrammed s)

end Sys2Proof.Machine
end

