-- ==== Sys2Proof/Machine/GcOps.lean ====
section
/-! DEFINITION. Copying valid units out of a superblock, freeing and erasing superblocks (R186, R194 to R198, R377). -/

namespace Sys2Proof.Machine

/-- A unit can be read or rebuilt for a copy: its die is in service, or no other member of its superblock is out
(R377). -/
def copyable (s : State) (b : Superblock) (u : FlashUnit) : Bool :=
  let out := (List.range 32).filter fun c => !b.leftOut.contains c && dieOut s (memberDie b c)
  !out.contains (channelOf b u.off) || decide (out.length ≤ 1)

/-- The units of a superblock that are to be copied: valid, and readable or to be rebuilt. -/
def copyUnits (s : State) (b : Superblock) : List FlashUnit := (validUnits s b).filter (copyable s b)

/-- Units of one write in one 2 MiB unit go together; LBAs that do not follow on begin a new copy (R195). -/
def sameCopy (a b : FlashUnit) : Bool :=
  a.seq == b.seq && a.ns == b.ns && a.lba / 512 == b.lba / 512

/-- The units cut into copies, the last first, each with its units last first. -/
def copiesBack (us : List FlashUnit) : List (List FlashUnit) :=
  us.foldl (fun gs u => match gs with
    | [] => [[u]]
    | g :: rest => match g with
      | [] => [u] :: rest
      | v :: _ => if sameCopy v u && decide (g.length < 512) then (u :: g) :: rest else [u] :: g :: rest) []

/-- The copies in the order of their units. -/
def copiesOf (us : List FlashUnit) : List (List FlashUnit) := (copiesBack us).reverse.map List.reverse

/-- A copied unit at its new place: its data's sequence number, the relocation generation raised (R195, R200). -/
def copiedUnit (rise : BitVec 8) (count off : Nat) (u : FlashUnit) : FlashUnit :=
  { u with off := off, relocation := u.relocation + rise, part := count, kind := .gcCopy }

/-- The map takes a copied unit only while it still points at the source (R180). -/
def remapUnit (src : Nat) (u : FlashUnit) (sb off : Nat) (s : State) : State :=
  if resolveMap s u.ns u.lba = .flash src u.off then
    match findNs s u.ns with
    | none => s
    | some n => (putOverlay (segIndex n u.lba) (u.lba % 256) sb off u.seq s).getD s
  else s

/-- The map takes a copied whole segment, or single units. -/
def remapCopy (src : Nat) (us : List FlashUnit) (sb off : Nat) (s : State) : State :=
  match us.head? with
  | none => s
  | some f =>
    match findNs s f.ns with
    | none => s
    | some n =>
      let consecutive := us.zipIdx.all fun x => x.1.lba == f.lba + x.2
      let moved (s : State) (k : Nat) : Bool :=
        let e := segEntry s (segIndex n (f.lba + k))
        consecutive && e.mapped && e.sb == src && !e.overlaid && !s.map.mapLost.contains e.seg
      let whole := (wholeSegments f.lba us.length).filter (moved s)
      let s := whole.foldl (fun s k =>
        let e := segEntry s (segIndex n (f.lba + k))
        putSeg { e with sb := sb, off := off + k } s) s
      let single := us.zipIdx.filter fun x =>
        !(consecutive && whole.any fun k => decide (k ≤ x.2) && decide (x.2 < k + 256))
      single.foldl (fun s x => remapUnit src x.1 sb (off + x.2) s) s

/-- How often copies from a superblock have been redone, the one to come among them: 0 while none is to be redone
(R200). -/
def redoneOf (s : State) (src : Nat) : Nat :=
  (s.map.moves.filter fun m => m.src == src).foldl (fun k m => max k m.redone) 0

/-- Copies placed in a superblock are to be redone (R200). -/
def addMove (m : Move) (s : State) : State := { s with map := { s.map with moves := m :: s.map.moves.filter (· != m) } }

/-- One copy is placed, its relocation generation one higher, and one higher again for each time it was redone; the map
follows it when it reads back correctly, and otherwise it is to be redone (R195, R200). -/
def placeCopy (good : Bool) (redone src : Nat) (us : List FlashUnit) (s : State) : State :=
  let rise := BitVec.ofNat 8 (redone + 1)
  let mk (_ : State) (off : Nat) : List FlashUnit :=
    us.zipIdx.map fun x => copiedUnit rise us.length (off + x.2) x.1
  match placeUnits mk s with
  | (s, none) => s
  | (s, some (sb, off)) =>
    let s := { s with map := { s.map with gcBytes := s.map.gcBytes + us.length * 4096 } }
    if good then remapCopy src us sb off s else addMove ⟨src, sb, redone + 1⟩ s

/-- Whole mappings left at a source whose valid units are all gone elsewhere are dropped. -/
def clearMappings (src : Nat) (s : State) : State :=
  let stale (e : SegEntry) : Bool := e.mapped && e.sb == src && e.overlaid
  let cleared := changeWhere stale (fun e => { e with mapped := false, sb := 0, off := 0 }) s.map.segments
  { s with map := { s.map with segments := cleared } }

/-- Every row that holds copies or folds is programmed with its parity, and the rows before it, before they count
(R195). -/
def programCopies (s : State) : State :=
  let moved (u : FlashUnit) : Bool := u.kind == .gcCopy || u.kind == .fold
  let holds (b : Superblock) : Bool := b.state == .granted && b.units.any fun u =>
    moved u && !b.rowsDone.contains (rowOf b u.off)
  let targets := (s.map.sbs.filter holds).map (·.number)
  let s := targets.foldl (fun s n => if (findSb s n).any closing then s else padSb n s) s
  let s := targets.foldl (fun s n => match findSb s n with
    | none => s
    | some b =>
      let last := ((b.units.filter moved).map fun u => rowOf b u.off).foldl max 0
      let due := b.rowsSent.filter fun r => decide (r ≤ last) && !b.rowsDone.contains r
      due.foldl (fun s r => rowDone n r s) s) s
  targets.foldl (fun s n => finishClose n s) (markProgrammed s)

/-- Every copyable valid unit of a superblock is copied, and the copies are read back, all well or not. -/
def copyFrom (good : Bool) (src : Nat) (s : State) : State :=
  match findSb s src with
  | none => s
  | some b =>
    let redone := redoneOf s src
    let s := { s with map := { s.map with moves := s.map.moves.filter fun m => m.src != src } }
    let s := (copiesOf (copyUnits s b)).foldl (fun s us => placeCopy good redone src us s) s
    programCopies s

/-- E2E_GUARD_MISMATCH of a copy that reads back wrong at F9, with the test of its Mace die (R195, R252, R369). -/
def logBadCopy (b : Superblock) (u : FlashUnit) (s : State) : State :=
  startTest (maceUnit (maceOf (dieOf b u.off / 32))) 0x0604
    (logEvent 0x0604 (blockUnit 5) (evData [(5, u.lba), (1, u.ns), (1, 3), (1, 0)]) s)

/-- Every copyable valid unit of a superblock is copied, programmed and read back; copies that read back wrong are
logged and are to be redone (R195, R200). -/
def copyOut (good : Bool) (src : Nat) (s : State) : State :=
  match findSb s src with
  | none => s
  | some b =>
    match (copyUnits s b).head? with
    | none => copyFrom true src s
    | some u => if good then copyFrom true src s else logBadCopy b u (copyFrom false src s)

/-- A superblock with nothing valid in it is DIRTY, or RETIRED where a bad position of it has no spare (R170, R186). -/
def releaseSb (n : Nat) (s : State) : State :=
  match (findSb s n).bind (·.retireDie) with
  | some die => appendSlot (.retire n die) (updateSb n (fun b => { b with state := .retired }) s)
  | none => appendSlot (.dirty n) (updateSb n (fun b => { b with state := .dirty }) (clearMappings n s))

/-- A CLOSED superblock without valid units becomes DIRTY (R186, R194). -/
def freeIfEmpty (n : Nat) (s : State) : State :=
  match findSb s n with
  | none => s
  | some b => if b.state = .closed ∧ (validUnits s b).isEmpty = true then releaseSb n s else s

/-- Every CLOSED superblock without valid units becomes DIRTY. -/
def freeEmpty (s : State) : State := s.map.sbs.foldl (fun s b => freeIfEmpty b.number s) s

/-! ## Folds (R196, R203) -/

/-- An Overlap Directory entry covers a segment. -/
def segmentCovered (s : State) (n : Namespace) (seg : Nat) : Bool :=
  let lba := (seg - n.base) * 256
  s.ord.accepted.any fun w => w.ns == n.id && (ranges w).any fun r => overlaps n.id lba 256 w.ns r.1 r.2

/-- What a unit of a segment holds now, all of it programmed; a unit the map has nowhere reads as zeros. -/
def programmedUnit (s : State) (n : Namespace) (lba : Nat) : Unit4k :=
  match resolveMap s n.id lba with
  | .flash sb off => (((findSb s sb).bind fun b => unitAt b off).map (·.content)).getD zeroUnit
  | _ => zeroUnit

/-- The write of a fold: 256 units with a new sequence number (R196). -/
def foldWrite (s : State) (n : Namespace) (seg : Nat) : Write where
  seq := s.ord.next
  kind := .fold
  src := .device
  ns := n.id
  lba := (seg - n.base) * 256
  len := 256
  more := []
  units := (List.range 256).map fun i => programmedUnit s n ((seg - n.base) * 256 + i)
  fua := false
  ordered := false
  cmd := none
  places := []
  programmed := false
  applied := false
  serial := 0
  latched := false
  recorded := false

/-- A segment is written as a fold at once, mapped and its overlay entries dropped. None where no superblock takes it
(R196, R203). -/
def foldNow (n : Namespace) (seg : Nat) (s : State) : Option State :=
  let w := foldWrite s n seg
  let mk (s : State) (off : Nat) : List FlashUnit := (List.range 256).map fun i => writeUnit s w 256 (off + i) i
  match placeUnits mk { s with ord := { s.ord with next := s.ord.next + 1 } } with
  | (_, none) => none
  | (s, some (sb, off)) => some (mapSegment seg sb off w.seq (fun _ => true) s)

/-! ## Erases (R186, R198) -/

/-- A slot waits for its page. -/
def slotPending (s : State) (p : Slot → Bool) : Bool := s.map.pendingSlots.any p

/-- The member blocks on some channels are erased: each count rises by one, and the superblock's is the highest
(R197). -/
def countErases (p : Nat → Bool) (b : Superblock) : Superblock :=
  let old := if b.memberErases.isEmpty then List.replicate 32 0 else b.memberErases
  let counts := old.mapIdx fun c k => if p c then k + 1 else k
  { b with memberErases := counts, eraseCount := counts.foldl max 0 }

/-- A superblock as its erases leave it (R198). -/
def erasedSb (b : Superblock) : Superblock :=
  { countErases (fun c => !b.leftOut.contains c) b with
    state := .erased, noSummary := false, blankPending := false, overlay := false, active := false, usable := false
    grantUtc := 0, closeStamp := 0, summaryStart := 0, summaryLength := 0, leftOut := []
    fill := 0, units := [], rowsSent := [], rowsDone := [], openedUs := 0, firstUs := none, firstUtc := none
    firstTemps := [], lastTemps := [], relocate := false, reads := [] }

/-- The erases of a superblock are issued and ERASED recorded (R186, R198). -/
def eraseSb (n : Nat) (s : State) : State :=
  match findSb s n with
  | none => s
  | some b => appendSlot (.erased n (erasedSb b).eraseCount) (updateSb n erasedSb s)

/-- A read still runs on a superblock. -/
def beingRead (s : State) (n : Nat) : Bool := s.intg.reads.any fun r => r.sb == n

/-- The erases of every DIRTY superblock whose DIRTY slot is durable are issued (R186, R198). -/
def issueErases (s : State) : State :=
  s.map.sbs.foldl (fun s b =>
    if b.state == .dirty && !beingRead s b.number && !slotPending s (fun x => x == .dirty b.number) then
      eraseSb b.number s
    else s) s

/-! ## When garbage collection runs (R194, R361) -/

/-- ERASED superblocks of a stripe group. -/
def erasedIn (s : State) (g : Nat) : Nat :=
  (s.map.sbs.filter fun b => groupOf b.number == g && b.state == .erased).length

/-- Populated stripe groups of the ledger. -/
def ledgerGroups (s : State) : List Nat :=
  (List.range 32).filter fun g => s.map.sbs.any fun b => groupOf b.number == g && b.state != .absent

/-- Collection starts in a group whose ERASED superblocks fall below 8, and stops at 12; it runs from map-ready, outside
Clove stops and throttle steps 2 to 4 (R33, R194, R361). -/
def updateGc (s : State) : State :=
  if s.life.mapReady = false then s
  else
    let run := (ledgerGroups s).filter fun g =>
      decide (erasedIn s g < 8) || (s.map.gcGroups.contains g && decide (erasedIn s g < 12))
    { s with map := { s.map with gcGroups := run } }

/-- A member of a superblock lies on a fenced die (R247). -/
def memberOut (s : State) (b : Superblock) : Bool :=
  (List.range 32).any fun c => !b.leftOut.contains c && dieOut s (memberDie b c)

/-- Background media work may run now: what R160 puts ahead of all other work is programmed. -/
def backgroundOpen (s : State) : Bool :=
  s.life.phase == .service && s.life.mapReady && s.life.stop.isNone && decide (s.thm.step < 2) && !aheadPlaced s

end Sys2Proof.Machine
end

