-- ==== Sys2Proof/Machine/Images.lean ====
section
/-! DEFINITION. The fields of signed images and of sequencer patches, read from their bytes, and the checks of keys and
signatures on them (R228, R396, R397). -/

namespace Sys2Proof

open Sys2Proof.Machine

/-- `n` bytes of a list from an offset. -/
def slice (bs : List Byte) (o n : Nat) : List Byte := (bs.drop o).take n

/-- A little-endian field of a byte list. -/
def byteField (bs : List Byte) (o n : Nat) : Nat := leNat (slice bs o n)

/-! ## Signed images (R396) -/

/-- Magic number. -/
def FwImage.magic (i : FwImage) : Nat := byteField i.bytes 0 4

/-- Header length. -/
def FwImage.headerLength (i : FwImage) : Nat := byteField i.bytes 4 2

/-- 0 firmware, 1 boot stage, 2 provisioning record. -/
def FwImage.type (i : FwImage) : Nat := byteField i.bytes 6 1

/-- The Nebocy key that signs: 0 or 1. -/
def FwImage.signer (i : FwImage) : Nat := byteField i.bytes 7 1

/-- Image version. -/
def FwImage.version (i : FwImage) : Nat := byteField i.bytes 8 4

/-- Image length in bytes, header and signatures included. -/
def FwImage.length (i : FwImage) : Nat := byteField i.bytes 12 4

/-- Anti-rollback level. -/
def FwImage.level (i : FwImage) : Nat := byteField i.bytes 16 1

/-- Lowest patch version accepted. -/
def FwImage.minPatch (i : FwImage) : Nat := byteField i.bytes 18 2

/-- Execute-only code ranges, start offset and length: up to four. -/
def FwImage.ranges (i : FwImage) : List (Nat × Nat) :=
  (List.range (min 4 (byteField i.bytes 20 1))).map fun k => (byteField i.bytes (24 + 8 * k) 4, byteField i.bytes (28 + 8 * k) 4)

/-- Nebocy key 0 or 1. -/
def FwImage.nebocyKey (i : FwImage) (k : Nat) : List Byte := slice i.bytes (56 + 96 * k) 96

/-- Integrator key. -/
def FwImage.integratorKey (i : FwImage) : List Byte := slice i.bytes 248 96

/-- Provisioning action. -/
def FwImage.provision (i : FwImage) : Nat := byteField i.bytes 344 1

/-- The Nebocy signature, at image length − 192, verifies every earlier byte under a key. -/
def FwImage.nebocySigned (i : FwImage) (key : List Byte) : Bool :=
  signatureVerifies key (i.bytes.take (i.length - 192)) (slice i.bytes (i.length - 192) 96)

/-- The integrator signature, at image length − 96, verifies every earlier byte under the integrator key. -/
def FwImage.integratorSigned (i : FwImage) : Bool :=
  signatureVerifies i.integratorKey (i.bytes.take (i.length - 96)) (slice i.bytes (i.length - 96) 96)

/-- Magic, header length, type and length are well formed (R396, R397 step 1). -/
def FwImage.formOk (i : FwImage) : Bool :=
  i.magic == 0x56584657 && i.headerLength == 384 && decide (i.type ≤ 2) && i.length == i.bytes.length &&
    i.length % 4096 == 0 && decide (0 < i.length) && decide (i.length ≤ if i.type = 1 then 524288 else 28311552)

/-! ## Patch images (R228) -/

/-- Magic number. -/
def PatchImage.magic (i : PatchImage) : Nat := byteField i.bytes 0 4

/-- Header length. -/
def PatchImage.headerLength (i : PatchImage) : Nat := byteField i.bytes 4 2

/-- Patch version. -/
def PatchImage.version (i : PatchImage) : Nat := byteField i.bytes 6 2

/-- Target ROM version. -/
def PatchImage.romVersion (i : PatchImage) : Nat := byteField i.bytes 8 1

/-- Vector count. -/
def PatchImage.vectorCount (i : PatchImage) : Nat := byteField i.bytes 9 1

/-- Word count. -/
def PatchImage.wordCount (i : PatchImage) : Nat := byteField i.bytes 10 2

/-- Minimum firmware version. -/
def PatchImage.minFirmware (i : PatchImage) : Nat := byteField i.bytes 12 4

/-- Where entry `k` of the vectors lies. -/
def PatchImage.vectorAt (k : Nat) : Nat := 64 + 4 * k

/-- Vectors: number and patch RAM address. -/
def PatchImage.vectors (i : PatchImage) : List (Nat × Nat) :=
  (List.range i.vectorCount).map fun k =>
    (byteField i.bytes (PatchImage.vectorAt k) 1, byteField i.bytes (PatchImage.vectorAt k + 2) 2)

/-- Every reserved byte is 0. -/
def PatchImage.reservedOk (i : PatchImage) : Bool :=
  byteField i.bytes 16 48 == 0 && (List.range i.vectorCount).all fun k => byteField i.bytes (PatchImage.vectorAt k + 1) 1 == 0

/-- Words, loaded from word 12,288. -/
def PatchImage.words (i : PatchImage) : List Word32 :=
  (List.range i.wordCount).map fun k => BitVec.ofNat 32 (byteField i.bytes (PatchImage.vectorAt i.vectorCount + 4 * k) 4)

/-- Length by the counts, the signature included. -/
def PatchImage.length (i : PatchImage) : Nat := 64 + 4 * i.vectorCount + 4 * i.wordCount + 96

/-- The signature verifies every earlier byte under a key. -/
def PatchImage.signed (i : PatchImage) (key : List Byte) : Bool :=
  signatureVerifies key (i.bytes.take (i.length - 96)) (slice i.bytes (i.length - 96) 96)

/-! ## Keys and their hashes (R397) -/

/-- The SHA-384 of a public key, byte 0 lowest, as the OTP row holds it. -/
def keyHash (key : List Byte) : BitVec 384 := BitVec.ofNat 384 (leNat (sha384 key))

end Sys2Proof
end

