-- ==== Sys2Proof/Machine/SecOps.lean ====
section
/-! DEFINITION. Keys, epochs, image verification and the writing of firmware slots (R204, R391 to R402). -/

namespace Sys2Proof.Machine

/-! ## Sequence numbers for records the firmware makes (R145, R204) -/

/-- `k` numbers of the present block are left. -/
def numbersLeft (s : State) (k : Nat) : Bool := decide (s.ord.next + k ≤ s.ord.top + 1)

/-- A block of 2^24 numbers is asked for in the ledger, once (R145). -/
def askBlock (s : State) : State :=
  if slotPending s (fun x => match x with
    | .seqBlock _ => true
    | _ => false) then s
  else appendSlot (.seqBlock (s.ord.top + 2 ^ 24)) s

/-- A body that needs `k` numbers runs when they are left; otherwise a block is asked for and the command waits. -/
def needNumbers (k : Nat) (body : State → State) (s : State) : State :=
  if numbersLeft s k then body s else askBlock s

/-! ## Epochs (R189, R204, R394) -/

/-- A namespace's record changed. -/
def updateNs (id : Nat) (f : Namespace → Namespace) (s : State) : State :=
  { s with nv := { s.nv with namespaces := changeWhere (fun n => n.id == id) f s.nv.namespaces } }

/-- A namespace is attached or detached; no slot says so, and the table takes it at once (R98, R189). -/
def attachNs (id : Nat) (on : Bool) (s : State) : State :=
  let s := updateNs id (fun n => { n with attached := on }) s
  { s with map := { s.map with table := changeWhere (fun n => n.id == id) (fun n => { n with attached := on }) s.map.table } }

/-- The map entries of a range of segment indices go. -/
def unmapRange (base size : Nat) (s : State) : State :=
  let inside (e : SegEntry) : Bool := decide (base ≤ e.seg) && decide (e.seg < base + size)
  let nums := (s.map.segments.filter fun e => inside e && e.overlaid).map (·.ovlNumber)
  { s with map := { s.map with
    segments := s.map.segments.filter fun e => !inside e
    overlay := s.map.overlay.filter fun o => !nums.contains o.ovlNumber
    mapLost := s.map.mapLost.filter fun g => !(decide (base ≤ g) && decide (g < base + size)) } }

/-- Writes of a namespace below a sequence number that are still buffered are dropped and never programmed (R394,
R408). -/
def dropWrites (ns e : Nat) (s : State) : State :=
  { s with ord := { s.ord with accepted := s.ord.accepted.filter fun w => w.ns != ns || decide (e ≤ w.seq) } }

/-- A NAMESPACE slot sets a namespace's epoch to the next sequence number: nothing older of it is mapped again (R204).
-/
def newEpoch (id action : Nat) (s : State) : State :=
  match findNs s id with
  | none => s
  | some n =>
    let e := s.ord.next
    let s := { s with ord := { s.ord with next := e + 1 } }
    let s := appendSlot (.namespace_ e id action n.base n.size n.fmt n.pi) s
    dropWrites id e (unmapRange n.base n.size (updateNs id (fun n => { n with epoch := e }) s))

/-! ## Keys (R391 to R395) -/

/-- What the next request to the DRBG for `n` bytes returns, the first byte lowest (R390). -/
def drbgOut (n : Nat) (s : State) : Nat := leNat (drbgBytes n s.sec.drbg)

/-- A request to the DRBG for `n` bytes; it is counted, and DRBG_RESEED follows after 2^20 of them (R390, R391). -/
def drbgDraw (n : Nat) (s : State) : State :=
  { s with sec := { s.sec with drbg := drbgNext n s.sec.drbg, drbgRequests := s.sec.drbgRequests + 1 } }

/-- The label of the key-encryption key (R393). -/
def kekLabel : List Byte := "VX9256 KEK".toList.map fun c => BitVec.ofNat 8 c.toNat

/-- The key-encryption key of a root key seed and a salt (R393). -/
def deriveKek (seed salt : BitVec 256) : BitVec 256 :=
  BitVec.ofNat 256 (leNat (deriveKey (leBytes 32 seed.toNat) kekLabel (leBytes 32 salt.toNat)))

/-- The salt in use changes, and the KEK with it (R393). -/
def useSalt (salt : Option (BitVec 256)) (s : State) : State :=
  { s with sec := { s.sec with salt := salt, kek := salt.map (deriveKek s.nor.otp.seed) } }

/-- A new salt is drawn (R393, R395). -/
def drawSalt (s : State) : State := useSalt (some (BitVec.ofNat 256 (drbgOut 32 s))) (drbgDraw 32 s)

/-- Generation of the last key a namespace had (R394). -/
def lastGeneration (s : State) (ns : Nat) : Nat :=
  match s.sec.keys.find? fun k => k.ns == ns with
  | some k => k.generation
  | none => 0

/-- A new key of the next generation is drawn and loaded (R392, R394). -/
def drawKey (ns : Nat) (s : State) : State :=
  let g := lastGeneration s ns + 1
  let key := BitVec.ofNat 512 (drbgOut 64 s)
  drbgDraw 64 { s with sec := { s.sec with keys := ⟨ns, key, g, true⟩ :: s.sec.keys.filter fun k => k.ns != ns } }

/-- A key is zeroized in its slot and in Sumac RAM; the count of generations goes on (R395). -/
def zeroizeKey (ns : Nat) (s : State) : State :=
  let zeroized (k : MediaKey) : MediaKey := { k with value := 0, present := false }
  { s with sec := { s.sec with keys := changeWhere (fun k => k.ns == ns) zeroized s.sec.keys } }

/-- A media key wrapped under the KEK (R393). -/
def wrapMedia (kek : BitVec 256) (key : BitVec 512) : BitVec 576 :=
  BitVec.ofNat 576 (leNat (wrapKey (beNat (leBytes 32 kek.toNat)) (leBytes 64 key.toNat)))

/-- The media key of a wrapped one; none where the KEK does not unwrap it (R393). -/
def unwrapMedia (kek : BitVec 256) (w : BitVec 576) : Option (BitVec 512) :=
  (unwrapKey (beNat (leBytes 32 kek.toNat)) (leBytes 72 w.toNat)).map fun bs => BitVec.ofNat 512 (leNat bs)

/-- The key store of the keys held, wrapped under the KEK, each with its namespace's epoch (R393). -/
def keyStore (s : State) : List StoredKey :=
  match s.sec.kek with
  | none => []
  | some kek => (s.sec.keys.filter (·.present)).map fun k =>
      ⟨k.ns, wrapMedia kek k.value, ((findNs s k.ns).map (·.epoch)).getD 0, k.generation⟩

/-- The 88 bytes of the entry of a namespace in a key store (R393). -/
def keyEntry (c : ConfigStore) (ns : Nat) : List Byte :=
  match c.keys.find? fun k => k.ns == ns with
  | some k => packBytes [(72, k.wrapped.toNat), (8, k.epoch), (4, k.generation), (4, 1)]
  | none => List.replicate 88 0

/-- The 5,672 bytes of the key store at the start of a copy's data (R393). -/
def keyStoreBytes (c : ConfigStore) : List Byte :=
  packBytes [(4, 0x4B53544F), (4, c.keyGeneration), (32, (c.salt.getD 0).toNat)] ++
    (List.range 64).flatMap fun n => keyEntry c (n + 1)

/-- A configuration store copy with the present key store is written (R394, R395). -/
def storeKeys (s : State) : State :=
  storeConfig (fun c => { c with keyGeneration := c.keyGeneration + 1, keys := keyStore s, salt := s.sec.salt }) s

/-- The first sector of the older configuration store copy is erased (R395). -/
def eraseOlderStore (s : State) : State :=
  let erased (c : ConfigStore) : ConfigStore := { c with valid := false, keys := [], salt := none }
  if newerIs1 s.nor then 
    { s with nor := { s.nor with config0 := erased s.nor.config0, flags := erasedRows [1008] s.nor.flags } }
  else { s with nor := { s.nor with config1 := erased s.nor.config1, flags := erasedRows [1016] s.nor.flags } }

/-- Steps 1 to 3 of R395 for a set of namespaces. -/
def replaceKeys (ids : List Nat) (all : Bool) (s : State) : State :=
  let s := ids.foldl (fun s i => zeroizeKey i s) s
  let s := ids.foldl (fun s i => newEpoch i 3 s) s
  let s := if all then drawSalt s else s
  ids.foldl (fun s i => drawKey i s) s

/-- A stream that is not CLOSED is bound to one of the namespaces. -/
def streamBound (s : State) (ids : List Nat) : Bool :=
  s.str.list.any fun x => x.state != .closed && ids.contains x.ns

/-- Any stream is not CLOSED. -/
def anyStream (s : State) : Bool := s.str.list.any fun x => x.state != .closed

/-! ## Images (R396, R397, R400) -/

/-- Fuse bits of the anti-rollback counter that are burned. -/
def rollbackCount (s : State) : Nat := s.nor.otp.antiRollback

/-- The OTP hash of a Nebocy key; there are two (R314, R397). -/
def nebocyHash (s : State) (signer : Nat) : Option (BitVec 384) :=
  match signer with
  | 0 => some s.nor.otp.hash0
  | 1 => some s.nor.otp.hash1
  | _ => none

/-- The integrator slot is programmed and not revoked (R397). -/
def integratorNeeded (s : State) : Bool := s.nor.otp.integrator && !s.nor.otp.revoked

/-- Sumac's verification: the cause of the first failure (R397). DESIGN CHOICE, log entry 180: a signer that is
neither 0 nor 1 fails step 2. -/
def imageFault (s : State) (i : FwImage) : Option Nat :=
  if i.formOk = false then some 0
  else if nebocyHash s i.signer ≠ some (keyHash (i.nebocyKey i.signer)) then some 2
  else if i.nebocySigned (i.nebocyKey i.signer) = false then some 0
  else if integratorNeeded s = true ∧ keyHash i.integratorKey ≠ s.nor.otp.integratorHash then some 2
  else if integratorNeeded s = true ∧ i.integratorSigned = false then some 0
  else if i.level < rollbackCount s then some 1
  else none

/-- The Nebocy key of the running firmware image, checked against the OTP hash (R397, R404). -/
def runningKey (s : State) (signer : Nat) : Option (List Byte) :=
  match s.sec.image with
  | none => none
  | some i => if nebocyHash s signer = some (keyHash (i.nebocyKey signer)) then some (i.nebocyKey signer) else none

/-- AUTH_FAIL (R409, R388). -/
def authFail (object cause slot version : Nat) (s : State) : State :=
  logEvent 0x0C03 (blockUnit 0x24) (evData [(1, object), (1, cause), (1, slot), (1, 0), (4, version)]) s

/-- The image of a slot, 1 A or 2 B. -/
def slotImage (s : State) (k : Nat) : Option FwImage := if k = 1 then s.nor.slotA else s.nor.slotB

/-- A slot holds a verified image. -/
def slotValid (s : State) (k : Nat) : Bool := if k = 1 then s.nor.slotAValid else s.nor.slotBValid

/-- A slot's contents and its validity. -/
def putSlot (k : Nat) (i : Option FwImage) (ok : Bool) (s : State) : State :=
  if k = 1 then { s with nor := { s.nor with slotA := i, slotAValid := ok } }
  else { s with nor := { s.nor with slotB := i, slotBValid := ok } }

/-- Sectors of a firmware slot or of the boot-stage copies (R297). -/
def slotSectors (k : Nat) : List Nat :=
  match k with
  | 1 => (List.range 432).map (· + 16)
  | 2 => (List.range 432).map (· + 512)
  | _ => List.range 16

/-- Write-protect bits cleared for an operation, or set again after it (R306); a fenced sector's stays set (R373). -/
def protect (sectors : List Nat) (on : Bool) (s : State) : State :=
  let rest := s.nor.writable.filter fun n => !sectors.contains n
  { s with nor := { s.nor with
    writable := if on then rest else rest ++ sectors.filter fun n => !isFenced s (sectorUnit n) } }

end Sys2Proof.Machine
end

