-- ==== Sys2Proof/Machine/NorOps.lean ====
section
/-! DEFINITION. Flag rows, sectors and banks of Nutmeg (R297, R301 to R311). -/

namespace Sys2Proof.Machine

/-! ## Flag rows (R308 to R310) -/

/-- The flag rows of a sector. -/
def flagsOf (s : State) (sector : Nat) : FlagRows := rowsAt s.nor.flags sector

/-- A sector's flag rows put in place. -/
def putFlags (f : FlagRows) (s : State) : State := { s with nor := { s.nor with flags := putRows f s.nor.flags } }

/-! ## Operations (R301, R306, R309) -/

/-- The bank that holds a sector: true for B (R296). -/
def inBankB (sector : Nat) : Bool := decide (512 ≤ sector)

/-- The operation of a bank. -/
def bankOp (s : State) (b : Bool) : Option NorOp := if b then s.nor.opB else s.nor.opA

/-- A bank's operation put in place; the last operation is kept for NOR_OP. -/
def setBankOp (b : Bool) (o : Option NorOp) (s : State) : State :=
  let last := match o with
    | some x => some x
    | none => s.nor.lastOp
  if b then { s with nor := { s.nor with opB := o, lastOp := last } }
  else { s with nor := { s.nor with opA := o, lastOp := last } }

/-- Firmware erases a sector: refused while its write-protect bit is set or its bank is busy, else START is programmed
and the erase runs (R301, R306, R309). A command to a bank ends its continuous read (R300). -/
def startErase (sector : Nat) (s : State) : State :=
  if s.nor.writable.contains sector = false then
    { s with nor := { s.nor with wpRefused := sat 8 (s.nor.wpRefused + 1) } }
  else if (bankOp s (inBankB sector)).isSome then s
  else
    let (f, p) := programStart (flagsOf s sector)
    let s := putFlags f s
    let s := if s.nor.cont = some (inBankB sector) then { s with nor := { s.nor with cont := none } } else s
    setBankOp (inBankB sector) (some ⟨.erase, sector, false, 0, p⟩) s

/-! ## The scan at power-up (R311) -/

/-- Region code of a sector (R388): 0 boot stage, 1 slot A, 2 slot B, 3 event log, 4 configuration store. -/
def regionCode (n : Nat) : Nat :=
  if n < 16 then 0 else if n < 448 then 1 else if n < 944 then 2 else if n < 1008 then 3 else 4

/-- NOR_UNFINISHED_ERASE of a sector found unfinished. -/
def logUnfinished (f : FlagRows) (k p : Nat) (s : State) : State :=
  let r := rowOfFlags f k
  logEvent 0x0901 (sectorUnit f.sector)
    (evData [(1, regionCode f.sector), (1, k), (1, p), (1, 0), (1, (rowByte r (2 + 2 * p)).toNat),
      (1, (rowByte r (3 + 2 * p)).toNat), (2, 0)]) s

/-- What a sector's contents were is invalid (R311). -/
def invalidate (n : Nat) (s : State) : State :=
  if n < 8 then { s with nor := { s.nor with boot0 := none, boot0Valid := false } }
  else if n < 16 then { s with nor := { s.nor with boot1 := none, boot1Valid := false } }
  else if n < 448 then putSlot 1 none false s
  else if n < 512 then s
  else if n < 944 then putSlot 2 none false s
  else if n < 1008 then s
  else if n < 1016 then { s with nor := { s.nor with config0 := { s.nor.config0 with valid := false } } }
  else { s with nor := { s.nor with config1 := { s.nor.config1 with valid := false } } }

/-- The flag rows of every sector are read; unfinished sectors are logged and their contents are invalid (R311). -/
def scanFlags (s : State) : State :=
  s.nor.flags.foldl (fun s f => match unfinishedAt f with
    | none => s
    | some (k, p) =>
      let s := logUnfinished f k p (invalidate f.sector s)
      { s with nor := { s.nor with unfinished := s.nor.unfinished ++ [f.sector] } }) s

/-- Firmware erases the next unfinished sector again in the background (R311). -/
def eraseUnfinished (s : State) : State :=
  match s.nor.unfinished.find? fun n => (bankOp s (inBankB n)).isNone with
  | none => s
  | some n => startErase n (protect [n] false s)

/-- Whichever boot-stage copy is invalid, or the older where they differ, is rewritten from the other (R311, R401). -/
def mendBoot (s : State) : State :=
  match s.nor.boot0, s.nor.boot1 with
  | some a, none => { s with nor := { s.nor with boot1 := some a, boot1Valid := s.nor.boot0Valid } }
  | none, some b => { s with nor := { s.nor with boot0 := some b, boot0Valid := s.nor.boot1Valid } }
  | some a, some b =>
    if s.nor.boot0Valid && !s.nor.boot1Valid then { s with nor := { s.nor with boot1 := some a, boot1Valid := true } }
    else if s.nor.boot1Valid && !s.nor.boot0Valid then { s with nor := { s.nor with boot0 := some b, boot0Valid := true } }
    else if s.nor.boot0Valid && s.nor.boot1Valid && a != b then
      if b.version ≤ a.version then { s with nor := { s.nor with boot1 := some a } }
      else { s with nor := { s.nor with boot0 := some b } }
    else s
  | none, none => s

/-! ## Execute-only regions (R307) -/

/-- A sector lies in an execute-only region: the boot-stage copy that was verified, or a code range of the running
image, by 64 KiB offsets from its slot's first sector. -/
def executeOnly (s : State) (n : Nat) : Bool :=
  (s.nor.boot0Valid && s.reg.bootCopy == 0 && decide (n < 8)) ||
    (s.nor.boot1Valid && s.reg.bootCopy == 1 && decide (8 ≤ n) && decide (n < 16)) ||
    match s.sec.image with
    | none => false
    | some i =>
      let first := if s.nor.slot = 2 then 512 else 16
      s.nor.slot != 0 && i.ranges.any fun r =>
        decide (first + r.1 / 65536 ≤ n) && decide (n < first + (r.1 + r.2 + 65535) / 65536)

/-- A read that is no instruction fetch finds an execute-only region: zeros, counted and logged. Period: 0 start-up,
1 test, 2 recovery (R307, R388). The requester's code is a free value. -/
def xoRead (n period offset : Nat) (s : State) : State :=
  let who := (Config.word s.free).toNat % 256
  let s := drawn { s with nor := { s.nor with xoReads := sat 8 (s.nor.xoReads + 1) } }
  logEvent 0x0903 (sectorUnit n) (evData [(1, who), (1, period), (2, 0), (4, offset)]) s

end Sys2Proof.Machine
end

