-- ==== Sys2Proof/Machine/NvmeOps.lean ====
section
/-! DEFINITION. What NVMe commands share: completions, interrupts, fetching and asynchronous events (R94 to R117). -/

namespace Sys2Proof.Machine

/-! ## Queues and commands -/

/-- A submission queue. -/
def findSq (s : State) (q : Nat) : Option Sq := s.nv.sqs.find? fun x => x.id == q

/-- A completion queue. -/
def findCq (s : State) (q : Nat) : Option Cq := s.nv.cqs.find? fun x => x.id == q

/-- A submission queue's record changed. -/
def updateSq (q : Nat) (f : Sq → Sq) (s : State) : State :=
  { s with nv := { s.nv with sqs := changeWhere (fun x => x.id == q) f s.nv.sqs } }

/-- A completion queue's record changed. -/
def updateCq (q : Nat) (f : Cq → Cq) (s : State) : State :=
  { s with nv := { s.nv with cqs := changeWhere (fun x => x.id == q) f s.nv.cqs } }

/-- A fetched command is this one. -/
def isCmd (sq : Nat) (cid : BitVec 16) (c : Cmd) : Bool := c.sq == sq && c.sqe.cid == cid

/-- A command fetched and not completed. -/
def findCmd (s : State) (sq : Nat) (cid : BitVec 16) : Option Cmd := s.nv.cmds.find? (isCmd sq cid)

/-- A command's record changed. -/
def updateCmd (sq : Nat) (cid : BitVec 16) (f : Cmd → Cmd) (s : State) : State :=
  { s with nv := { s.nv with cmds := changeWhere (isCmd sq cid) f s.nv.cmds } }

/-! ## Completions (R94, R96, R97, R105) -/

/-- Free slots of a completion queue: one fewer than its size (R94). -/
def cqRoom (q : Cq) : Bool := decide (q.entries.length + 1 < q.size)

/-- An entry is written at the tail with the phase of this pass. -/
def cqWrite (e : Cqe) (q : Cq) : Cq :=
  { q with
    entries := q.entries ++ [{ e with phase := q.phase, early := false }]
    tail := (q.tail + 1) % q.size
    phase := if q.tail + 1 = q.size then !q.phase else q.phase
    aggregated := q.aggregated + 1 }

/-- Entries posted for a vector since its last message. -/
def vectorCount (s : State) (v : Nat) : Nat := ((s.nv.cqs.filter fun q => q.vector == v && q.ien).map (·.aggregated)).sum

/-- A vector's message goes out and its count starts again (R97). -/
def vectorMessage (v : Nat) (s : State) : State :=
  interrupt v { s with nv := { s.nv with
    cqs := changeWhere (fun q => q.vector == v) (fun q => { q with aggregated := 0 }) s.nv.cqs } }

/-- The interrupt of a posted entry: at once for the admin queue or with no coalescing, else at the threshold (R97). -/
def cqInterrupt (id : Nat) (s : State) : State :=
  match findCq s id with
  | none => s
  | some q =>
    if q.ien = false then s
    else if id = 0 ∨ s.nv.coalesceTime = 0 ∨ s.nv.coalesceThreshold < vectorCount s q.vector then
      vectorMessage q.vector s
    else s

/-- An entry is posted, or waits for a free slot. -/
def cqPost (id : Nat) (e : Cqe) (s : State) : State :=
  match findCq s id with
  | none => s
  | some q =>
    if q.overflow.isEmpty && cqRoom q then cqInterrupt id (updateCq id (cqWrite e) s)
    else updateCq id (fun q => { q with overflow := q.overflow ++ [e] }) s

/-- Completions may be posted: not during a Clove stop (R33), the power-loss sequence or after a thermal halt (R117). -/
def mayPost (s : State) : Bool := s.life.phase == .service && s.life.stop.isNone

/-- A command has not passed its point of no return when it ends with this status: Verify, Flush and Asynchronous Event
Request pass it with the posting, a read with the start of F10, a write or Fence with its acceptance, every other admin
command with the fetch (R111). -/
def endsEarly (c : Cmd) (failed : Bool) : Bool :=
  if c.sq = 0 then c.sqe.opcode == 0x0C
  else if c.sqe.opcode == 0x00 || c.sqe.opcode == 0x0C then true
  else if c.sqe.opcode == 0x02 then failed
  else c.seq == 0

/-- Host read and write commands that complete are counted (R103). -/
def countHost (c : Cmd) (s : State) : State :=
  if c.sq = 0 then s
  else if c.sqe.opcode = 0x02 then { s with nv := { s.nv with hostReads := s.nv.hostReads + 1 } }
  else if c.sqe.opcode = 0x01 ∨ c.sqe.opcode = 0x81 then { s with nv := { s.nv with hostWrites := s.nv.hostWrites + 1 } }
  else s

/-- A command leaves the controller with one completion entry. During a Clove stop the entry is held; in the power-loss
sequence and after a thermal halt none is posted (R33, R117). -/
def completeCmd (sq : Nat) (cid : BitVec 16) (sct sc : Nat) (dnr : Bool) (dw0 dw1 : Word32) (s : State) : State :=
  match findCmd s sq cid with
  | none => s
  | some c =>
    let s := countHost c { s with nv := { s.nv with cmds := s.nv.cmds.filter fun c => !isCmd sq cid c } }
    match findSq s sq with
    | none => s
    | some q =>
      let e : Cqe := ⟨dw0, dw1, q.head, sq, cid, false, sct, sc, dnr, endsEarly c (sct != 0 || sc != 0)⟩
      if mayPost s then cqPost q.cq e s
      else if s.life.phase == .service then { s with nv := { s.nv with held := s.nv.held ++ [(q.cq, e)] } }
      else s

/-- Success with zero Dwords. -/
def completeOk (sq : Nat) (cid : BitVec 16) (s : State) : State := completeCmd sq cid 0 0 false 0 0 s

/-- Success with Dword 0. -/
def completeDw (sq : Nat) (cid : BitVec 16) (dw0 : Nat) (s : State) : State :=
  completeCmd sq cid 0 0 false (BitVec.ofNat 32 dw0) 0 s

/-- A generic status with DNR set (R117). -/
def failGeneric (sq : Nat) (cid : BitVec 16) (sc : Nat) (s : State) : State := completeCmd sq cid 0 sc true 0 0 s

/-- A command-specific status with DNR set. -/
def failSpecific (sq : Nat) (cid : BitVec 16) (sc : Nat) (s : State) : State := completeCmd sq cid 1 sc true 0 0 s

/-! ## Fetching (R33, R94, R97, R102, R103) -/

/-- I/O commands in flight (R94). -/
def inFlight (s : State) : Nat := (s.nv.cmds.filter fun c => c.sq != 0).length

/-- Commands are fetched: the controller is ready and no shutdown has begun (R115, R116); also during a Clove stop
(R33). -/
def fetching (s : State) : Bool := s.nv.rdy && s.nv.shst == 0 && s.life.phase == .service

/-- The command a fetched entry becomes. -/
def newCmd (q : Nat) (e : Sqe) : Cmd :=
  { sq := q, sqe := e, stage := .fetched, seq := 0, flushUpTo := 0, waits := false, got := [], hits := []
    failed := none }

/-- Fetched commands the device does not execute complete, when the firmware can say so (R102, R103). -/
def refuseUnsupported (s : State) : State :=
  if s.life.stop.isSome then s
  else
    s.nv.cmds.foldl (fun s c => match unsupported c.sq c.sqe with
      | some sc => if c.stage == .fetched then failGeneric c.sq c.sqe.cid sc s else s
      | none => s) s

/-- Up to `n` of one queue's entries are fetched, within the limit of 65,536 in flight (R94). -/
def fetchQueue (q : Nat) : Nat → List Sqe → State → State
  | 0, _, s => s
  | _ + 1, [], s => s
  | n + 1, e :: es, s =>
    if q ≠ 0 ∧ 65536 ≤ inFlight s then s
    else
      let s := { s with nv := { s.nv with cmds := s.nv.cmds ++ [newCmd q e] } }
      fetchQueue q n es (updateSq q (fun x => { x with entries := es, head := (x.head + 1) % x.size }) s)

/-- Commands a queue may give in its turn: two to the power of the Arbitration feature's burst value; 7 sets no limit
(R97; fields of the feature as in the NVMe base specification, log entry 16). -/
def burstOf (s : State) : Nat :=
  let b := field s.nv.arbitration.toNat 0 3
  if b = 7 then 65536 else 2 ^ b

/-- The queue of lowest identifier. -/
def lowestId (qs : List Sq) : Option Sq :=
  qs.foldl (fun o q => match o with
    | none => some q
    | some x => if q.id < x.id then some q else some x) none

/-- The I/O queue whose turn it is among those of a class that have entries: the next identifier after the one served
last (R97; log entry 17). -/
def nextTurn (s : State) (k : Nat) (inClass : Sq → Bool) : Option Sq :=
  let some_ := s.nv.sqs.filter fun q => q.id != 0 && !q.entries.isEmpty && inClass q
  match lowestId (some_.filter fun q => decide (s.nv.turns.getD k 0 < q.id)) with
  | some q => some q
  | none => lowestId some_

/-- Queues of class `k` are served in turn, a burst each, until `budget` commands are fetched. -/
def serveClass (k : Nat) (inClass : Sq → Bool) : Nat → Nat → State → State
  | 0, _, s => s
  | fuel + 1, budget, s =>
    if budget = 0 ∨ 65536 ≤ inFlight s then s
    else
      match nextTurn s k inClass with
      | none => s
      | some q =>
        let n := min (min budget (burstOf s)) q.entries.length
        serveClass k inClass fuel (budget - n)
          (fetchQueue q.id n q.entries { s with nv := { s.nv with turns := s.nv.turns.set k q.id } })

/-- Rounds of the weighted classes: high, medium and low priority give at most their weights each round (R97). -/
def weightedRounds : Nat → State → State
  | 0, s => s
  | fuel + 1, s =>
    let weight (k : Nat) : Nat := field s.nv.arbitration.toNat (8 * (4 - k)) 8 + 1
    let turn (s : State) (k : Nat) : State := serveClass k (fun q => q.prio == k) (weight k) (weight k) s
    weightedRounds fuel (turn (turn (turn s 1) 2) 3)

/-- Entries published and not fetched. -/
def published (s : State) : Nat := (s.nv.sqs.map fun q => q.entries.length).sum

/-- Everything published is fetched as far as it goes: the admin queue first; then all queues in turn, or, under
weighted round robin, the urgent class and then rounds of the others (R97). -/
def fetchQueues (s : State) : State :=
  let s := match findSq s 0 with
    | some q => fetchQueue 0 q.entries.length q.entries s
    | none => s
  let n := published s
  if field s.nv.cc.toNat 11 3 = 1 then weightedRounds n (serveClass 0 (fun q => q.prio == 0) n n s)
  else serveClass 0 (fun _ => true) n n s

/-- A Delete I/O Submission Queue that waits completes, and its queue goes, once no command fetched from the queue is
left (R94). -/
def finishDeletes (s : State) : State :=
  let due := s.nv.cmds.filter fun c => c.sq == 0 && c.sqe.opcode == 0x00 && c.stage == .running &&
    !s.nv.cmds.any fun d => d.sq != 0 && d.sq == field c.sqe.cdw10.toNat 0 16
  due.foldl (fun s c =>
    completeOk 0 c.sqe.cid { s with nv := { s.nv with
      sqs := s.nv.sqs.filter fun q => q.id != field c.sqe.cdw10.toNat 0 16 } }) s

/-- Everything published and not fetched is fetched as far as it goes. -/
def fetchAll (s : State) : State :=
  let s := finishDeletes s
  if fetching s then refuseUnsupported (fetchQueues s) else s

/-! ## Serving -/

/-- A fetched command of given opcodes not yet begun, while no stop holds it (R33). -/
def ready (s : State) (sq : Nat) (cid : BitVec 16) (ops : List Nat) : Option Cmd :=
  if serving s then
    (findCmd s sq cid).filter fun c => c.stage == .fetched && ops.contains c.sqe.opcode.toNat
  else none

/-- Run what a fetched command asks for; without such a command nothing changes. -/
def onCmd (sq : Nat) (cid : BitVec 16) (ops : List Nat) (body : Cmd → State → State) (s : State) : State :=
  match ready s sq cid ops with
  | some c => body c s
  | none => s

/-- The same for an I/O command. -/
def onIo (sq : Nat) (cid : BitVec 16) (ops : List Nat) (body : Cmd → State → State) (s : State) : State :=
  if sq = 0 then s else onCmd sq cid ops body s

/-- The same for an admin command. -/
def onAdmin (cid : BitVec 16) (op : Nat) (body : Cmd → State → State) (s : State) : State := onCmd 0 cid [op] body s

/-! ## Asynchronous events (R103, R110) -/

/-- An outstanding Asynchronous Event Request completes with a type, information and log page. -/
def asyncEvent (type info page : Nat) (s : State) : State :=
  match s.nv.aers with
  | [] => s
  | cid :: rest =>
    completeDw 0 cid (type + info * 256 + page * 65536) { s with nv := { s.nv with aers := rest } }

/-- A critical warning bit is set, and a request completes with SMART / Health (type 1) and its information (R110). -/
def criticalBit (bit info : Nat) (s : State) : State :=
  if s.nv.critical.getLsbD bit then s
  else
    asyncEvent 1 info 2
      { s with nv := { s.nv with critical := s.nv.critical ||| BitVec.ofNat 8 (2 ^ bit) } }

/-- A critical warning bit clears. -/
def clearCritical (bit : Nat) (s : State) : State :=
  { s with nv := { s.nv with critical := s.nv.critical &&& ~~~(BitVec.ofNat 8 (2 ^ bit)) } }

/-! ## Errors (R256) -/

/-- An unrecovered read: one entry in the Error Information log, one in Media and Data Integrity Errors (R256). -/
def logReadError (ns lba sq : Nat) (cid : BitVec 16) (s : State) : State :=
  { s with nv := { s.nv with
    errors := (⟨ns, lba, sq, cid⟩ :: s.nv.errors).take 256
    mediaErrors := s.nv.mediaErrors + 1 } }

/-! ## Aborting (R94, R111, R114, R116) -/

/-- A command is past its point of no return (R111): a write or Fence once accepted; an admin command other than
Asynchronous Event Request once fetched. -/
def pastReturn (c : Cmd) : Bool := if c.sq = 0 then c.sqe.opcode != 0x0C else c.seq != 0

/-- What a command still holds is dropped: its write or fence in front of W7, its unit reads, its place among event
requests. -/
def dropEffects (sq : Nat) (cid : BitVec 16) (s : State) : State :=
  let mine (x : Waiting) : Bool := match x with
    | .write w => w.cmd == some (sq, cid)
    | .fence f => f.cmd == some (sq, cid)
  { s with
    ord := { s.ord with waiting := s.ord.waiting.filter fun x => !mine x }
    intg := { s.intg with reads := s.intg.reads.filter fun r => r.reader != .host sq cid }
    nv := { s.nv with aers := if sq = 0 then s.nv.aers.filter fun a => a != cid else s.nv.aers } }

/-- The completion entry of a command that has ended and waits to be posted: in a full queue's place or over a Clove
stop (R33, R94, R111). -/
def unposted (s : State) (sq : Nat) (cid : BitVec 16) : Option Cqe :=
  (s.nv.cqs.flatMap (·.overflow) ++ s.nv.held.map (·.2)).find? fun e => e.sqId == sq && e.cid == cid

/-- That entry becomes Command Abort Requested (R111, R117). -/
def abortUnposted (sq : Nat) (cid : BitVec 16) (s : State) : State :=
  let mine (e : Cqe) : Bool := e.sqId == sq && e.cid == cid
  let aborted (e : Cqe) : Cqe := { e with dw0 := 0, dw1 := 0, sct := 0, sc := 0x07, dnr := false, early := false }
  { s with nv := { s.nv with
    cqs := s.nv.cqs.map fun q => { q with overflow := changeWhere mine aborted q.overflow }
    held := changeWhere (fun x => mine x.2) (fun x => (x.1, aborted x.2)) s.nv.held } }

/-- A command that is not past its point of no return completes once, with no effect. -/
def abortCmd (c : Cmd) (sct sc : Nat) (dnr : Bool) (s : State) : State :=
  completeCmd c.sq c.sqe.cid sct sc dnr 0 0 (dropEffects c.sq c.sqe.cid s)

/-- I/O that has begun, has no effect yet and is of some kind completes with a status. -/
def endIoWhere (pick : Cmd → Bool) (sc : Nat) (s : State) : State :=
  (s.nv.cmds.filter fun c => c.sq != 0 && c.stage == .running && !pastReturn c && pick c).foldl
    (fun s c => abortCmd c 0 sc false s) s

/-- That of the namespaces named. -/
def endIo (ids : List Nat) (sc : Nat) (s : State) : State := endIoWhere (fun c => ids.contains c.sqe.nsid.toNat) sc s

/-- A Flush of every namespace. -/
def flushAll (e : Sqe) : Bool := e.opcode == 0x00 && e.nsid == 0xFFFFFFFF

/-- I/O to the namespaces a Format affects, a Flush of every namespace among it; of a Sanitize, all I/O (R114). -/
def endAffected (ids : List Nat) (device : Bool) (sc : Nat) (s : State) : State :=
  endIoWhere (fun c => device || ids.contains c.sqe.nsid.toNat || (flushAll c.sqe && !ids.isEmpty)) sc s

end Sys2Proof.Machine
end

