-- ==== Sys2Proof/Machine/AdminOps.lean ====
section
/-! DEFINITION. The data NVMe admin commands return, and what namespace and firmware commands share (R90, R98, R103,
R104, R328, R363, R400). Field places are those of the NVMe specifications (log entry 16). -/

namespace Sys2Proof.Machine

/-- A field of returned data: offset, size, value. -/
abbrev HostField := Nat × Nat × Nat

/-- Characters as a little-endian number of one byte each. -/
def textNat (cs : List Char) : Nat := cs.foldr (fun c acc => c.toNat + 256 * acc) 0

/-- A text padded with spaces to a length. -/
def padText (n : Nat) (t : String) : Nat :=
  let cs := t.toList
  textNat (cs ++ List.replicate (n - cs.length) ' ')

/-- Upper-case hex digit. -/
def hexDigit (n : Nat) : Char := Char.ofNat (if n < 10 then 48 + n else 55 + n)

/-- Serial number: 20 upper-case hex digits of bits [79:0] of the device unique ID (R90). -/
def serialDigits (s : State) : List Char := (List.range 20).map fun i => hexDigit (field s.reg.uid.toNat (4 * (19 - i)) 4)

/-- Segment indices of the module (R172). -/
def totalSegments (s : State) : Nat := s.reg.populated * 7450580

/-- Segment indices no namespace owns. -/
def freeSegments (s : State) : Nat := totalSegments s - (s.nv.namespaces.map (·.size)).sum

/-- A power state descriptor (R328). -/
def powerDescriptor (at_ mp nops enlat exlat rel : Nat) : List HostField :=
  [(at_, 2, mp), (at_ + 3, 1, 2 * nops), (at_ + 4, 4, enlat), (at_ + 8, 4, exlat), (at_ + 12, 1, rel), (at_ + 13, 1, rel),
   (at_ + 14, 1, rel), (at_ + 15, 1, rel)]

/-- Identify Controller (R90, R104, R328). -/
def identifyController (s : State) : List HostField :=
  let nqn := textNat ("nqn.2019-06.com.nebocy:vx9256:".toList ++ serialDigits s)
  [(0, 2, 0x1F5E), (2, 2, s.reg.subVendor.toNat), (4, 20, textNat (serialDigits s)),
   (24, 40, padText 40 "NEBOCY VANYX VX9256"), (72, 1, 6), (77, 1, 9), (78, 2, 1), (80, 4, 0x20000), (84, 4, 4500000),
   (88, 4, 1000000), (256, 2, 0xE), (258, 1, 31), (259, 1, 3), (260, 1, 0x14), (261, 1, 0xC), (262, 1, 255), (263, 1, 2),
   (265, 1, 1), (266, 2, 373), (268, 2, 388), (280, 16, totalSegments s * mib), (296, 16, freeSegments s * mib),
   (328, 4, 3), (512, 1, 0x66), (513, 1, 0x44), (516, 4, 64), (520, 2, 0x8C), (524, 1, 4), (525, 1, 7), (526, 2, 511),
   (528, 2, 511), (536, 4, 1), (768, 256, nqn)] ++
    powerDescriptor 2048 5200 0 0 0 0 ++ powerDescriptor 2080 550 1 50 50 1 ++ powerDescriptor 2112 80 1 1000 2000 2

/-- Identify Namespace (R98, R99, R104). -/
def identifyNamespace (n : Namespace) : List HostField :=
  let blocks := n.size * 256
  [(0, 8, blocks), (8, 8, blocks), (16, 8, blocks), (24, 1, 0x12), (25, 1, 1), (26, 1, n.fmt + 16 * n.fmt), (27, 1, 1),
   (28, 1, 0x15), (29, 1, n.pi), (33, 1, 0), (34, 2, 511), (36, 2, 511), (40, 2, 511), (42, 2, 0), (44, 2, 511),
   (48, 16, n.size * mib), (64, 2, 255), (66, 2, 255), (72, 2, 255), (128, 4, 12 * 2 ^ 16),
   (132, 4, 8 + 12 * 2 ^ 16 + 2 ^ 24)]

/-- What Identify Namespace reports with NSID 0xFFFF_FFFF: what holds of every namespace, sizes and settings zero (R103,
R104; NVMe base, log entry 16). -/
def identifyCommon : List HostField :=
  [(24, 1, 0x12), (25, 1, 1), (27, 1, 1), (28, 1, 0x15), (34, 2, 511), (36, 2, 511), (40, 2, 511), (44, 2, 511),
   (64, 2, 255), (66, 2, 255), (72, 2, 255), (128, 4, 12 * 2 ^ 16), (132, 4, 8 + 12 * 2 ^ 16 + 2 ^ 24)]

/-- A list of 4-byte identifiers. -/
def idList (ids : List Nat) : List HostField := ids.mapIdx fun i n => (4 * i, 4, n)

/-- A controller list: the single controller 0x0001, where it is not below the identifier asked from (R98). -/
def controllerList (from_ : Nat) (present : Bool) : List HostField :=
  if present && decide (from_ ≤ 1) then [(0, 2, 1), (2, 2, 1)] else [(0, 2, 0)]

/-- What Identify returns for a CNS value, or the status it fails with (R103). CNS 0x03 returns no descriptor: DESIGN
CHOICE, log entry 172. -/
def identifyData (s : State) (e : Sqe) : List HostField ⊕ Nat :=
  let nsid := e.nsid.toNat
  let cntid := field e.cdw10.toNat 16 16
  let ids (p : Namespace → Bool) : List Nat :=
    (List.range 65).filter fun i => decide (nsid < i) && s.nv.namespaces.any fun n => n.id == i && p n
  match field e.cdw10.toNat 0 8 with
  | 0x00 =>
    if nsid = 0xFFFFFFFF then .inl identifyCommon
    else if nsid = 0 ∨ 64 < nsid then .inr 0x0B
    else match findNs s nsid with
      | some n => if n.attached then .inl (identifyNamespace n) else .inl []
      | none => .inl []
  | 0x01 => .inl (identifyController s)
  | 0x02 => .inl (idList (ids (·.attached)))
  | 0x03 => match findNs s nsid with
    | some n => if n.attached then .inl [(0, 1, 0)] else .inr 0x0B
    | none => .inr 0x0B
  | 0x10 => .inl (idList (ids fun _ => true))
  | 0x11 =>
    if nsid = 0 ∨ 64 < nsid then .inr 0x0B
    else match findNs s nsid with
      | some n => .inl (identifyNamespace n)
      | none => .inl []
  | 0x12 => match findNs s nsid with
    | some n => .inl (controllerList cntid n.attached)
    | none => .inr 0x0B
  | 0x13 => .inl (controllerList cntid true)
  | _ => .inr 0x02

/-- Tenths of a degree Celsius as kelvin, to the nearest (R363). -/
def kelvin (t : Int) : Nat := ((2 * t + 5473) / 20).toNat

/-- The highest valid reading among sensors of a range (R355, R363). -/
def groupMax (s : State) (lo n : Nat) : Option Int :=
  (((s.thm.sensors.drop lo).take n).filterMap fun x => if x.valid then x.reading else none).max?

/-- Temperature Sensors 1 to 5 in kelvin: the Saffron group, then Mace 0 to 3; 0 without a valid reading (R355, R363).
-/
def sensorKelvins (s : State) : List Nat :=
  [groupMax s 0 8, groupMax s 8 3, groupMax s 11 3, groupMax s 14 3, groupMax s 17 3].map fun t => match t with
    | some t => kelvin t
    | none => 0

/-- Hours powered, over all power-ups. -/
def poweredHours (s : State) : Nat := (s.life.poweredUs + s.clk.us) / 3600000000

/-- SMART / Health, controller-wide (R103, R137, R363). Available spare, its threshold, percentage used and controller
busy time are free values: the manual gives no rule for them (log entry 172). -/
def smartLog (s : State) : List HostField :=
  let units (b : Nat) : Nat := (b + 511999) / 512000
  [(0, 1, s.nv.critical.toNat), (1, 2, kelvin s.thm.temp), (3, 1, Config.choice s.free % 101),
   (4, 1, Config.choice (s.free + 1) % 101), (5, 1, Config.choice (s.free + 2) % 256), (64, 16, s.nv.hostReads),
   (80, 16, s.nv.hostWrites), (96, 16, Config.choice (s.free + 3)), (128, 16, poweredHours s), (32, 16, units s.nv.bytesRead), (48, 16, units s.nv.bytesWritten),
   (112, 16, s.life.powerUps), (144, 16, s.life.uncleanShutdowns), (160, 16, s.nv.mediaErrors),
   (176, 16, s.nv.mediaErrors), (192, 4, s.nv.warnMs / 60000), (196, 4, s.nv.critMs / 60000)] ++
    (sensorKelvins s).mapIdx fun i k => (200 + 2 * i, 2, k)

/-- Error Information: newest first, numbered from the count of errors down (R103, R256). -/
def errorLog (s : State) : List HostField :=
  (s.nv.errors.mapIdx fun i e =>
    [(64 * i, 8, s.nv.mediaErrors - i), (64 * i + 8, 2, e.sq), (64 * i + 10, 2, e.cid.toNat), (64 * i + 12, 2, 0x8502),
     (64 * i + 16, 8, e.lba), (64 * i + 24, 4, e.ns)]).flatten

/-- Firmware Slot (R103, R311). -/
def firmwareLog (s : State) : List HostField :=
  let version (k : Nat) : Nat := if slotValid s k then ((slotImage s k).map (·.version)).getD 0 else 0
  [(0, 1, s.nor.slot + 16 * s.nv.nextSlot.getD 0), (8, 8, version 1), (16, 8, version 2)]

/-- Sanitize Status (R114). -/
def sanitizeLog (s : State) : List HostField :=
  let st := if s.nv.sanitize ≠ .none then 2 else if s.nv.sanitized then 1 else 0
  [(0, 2, 0xFFFF), (2, 2, st), (12, 4, 60), (16, 4, 1)]

/-- Telemetry Host-Initiated: the identifier; what the data areas hold, and how far they reach, is free (R103; log entry
172). -/
def telemetryLog (s : State) : List HostField :=
  [(0, 1, 7), (5, 3, Config.choice s.free % 2 ^ 24), (8, 2, Config.choice (s.free + 1) % 2 ^ 16),
   (10, 2, Config.choice (s.free + 2) % 2 ^ 16), (12, 2, Config.choice (s.free + 3) % 2 ^ 16),
   (384, 128, Config.choice (s.free + 4) % 2 ^ 1024)] ++
    (List.range (Config.choice (s.free + 3) % 2 ^ 16)).map fun i =>
      (512 * (i + 1), 512, Config.choice (s.free + 5 + i) % 2 ^ 4096)

/-- The fields of a log page (R103). -/
def logPage (s : State) (lid : Nat) : Option (List HostField) :=
  match lid with
  | 0x01 => some (errorLog s)
  | 0x02 => some (smartLog s)
  | 0x03 => some (firmwareLog s)
  | 0x07 => some (telemetryLog s)
  | 0x81 => some (sanitizeLog s)
  | _ => none

/-- What of a page's fields lies inside a window, by its place in what is returned. -/
def windowFields (off len : Nat) (fs : List HostField) : List HostField :=
  fs.filterMap fun f =>
    let lo := max off f.1
    let hi := min (off + len) (f.1 + f.2.1)
    if lo < hi then some (lo - off, hi - lo, f.2.2 / 2 ^ (8 * (lo - f.1)) % 2 ^ (8 * (hi - lo))) else none

/-- Free values one page may use. -/
def pageDraws : Nat := 65541

/-! ## Serving -/

/-- A fetched Set Features of one feature. -/
def onFeature (cid : BitVec 16) (fid : Nat) (body : Cmd → State → State) (s : State) : State :=
  onAdmin cid 0x09 (fun c s => if sqeFeature c.sqe = fid then body c s else s) s

/-- An admin command's completion lets fetching go on. -/
def adminOk (c : Cmd) (s : State) : State := fetchAll (completeOk 0 c.sqe.cid s)

/-- A generic status. -/
def adminFail (c : Cmd) (sc : Nat) (s : State) : State := fetchAll (failGeneric 0 c.sqe.cid sc s)

/-- A command-specific status. -/
def adminFailSpecific (c : Cmd) (sc : Nat) (s : State) : State := fetchAll (failSpecific 0 c.sqe.cid sc s)

/-- A value in Dword 0. -/
def adminDw (c : Cmd) (dw : Nat) (s : State) : State := fetchAll (completeDw 0 c.sqe.cid dw s)

/-! ## Namespaces -/

/-- The namespaces a command names: one, or all with 0xFFFF_FFFF. -/
def namedNs (s : State) (nsid : Nat) : List Nat :=
  if nsid = 0xFFFFFFFF then s.nv.namespaces.map (·.id) else if (findNs s nsid).isSome then [nsid] else []

/-- First fit of a contiguous range of segment indices (R172). -/
def findBase (s : State) (size : Nat) : Option Nat :=
  let starts := 0 :: s.nv.namespaces.map fun n => n.base + n.size
  starts.find? fun b => decide (b + size ≤ totalSegments s) &&
    s.nv.namespaces.all fun n => decide (n.base + n.size ≤ b) || decide (b + size ≤ n.base)

/-- The lowest identifier in no use, 1 to 64 (R98). -/
def freeNsid (s : State) : Option Nat := ((List.range 65).drop 1).find? fun i => (findNs s i).isNone

/-- A format the device offers: format 0 without protection, format 1 with none, Type 1 or Type 3 (R99). -/
def formatOk (fmt pi : Nat) : Bool := decide (fmt ≤ 1) && (pi == 0 || (fmt == 1 && (pi == 1 || pi == 3)))

/-- The live or staged writing of a slot by FW_STAGE. -/
def stagingSlot (s : State) (k : Nat) : Bool := s.sec.staging == some k

/-- The slot a Firmware Commit names: 0 leaves the choice to the device, which takes the slot not running. -/
def commitSlot (s : State) (fs : Nat) : Nat := if fs = 0 then 3 - s.nor.slot else fs

/-- Every sector of a list goes through START, erase and DONE, and is no longer unfinished (R309, R317, R400). -/
def eraseSectors (sectors : List Nat) (s : State) : State :=
  { s with nor := { s.nor with
    flags := erasedRows sectors s.nor.flags, unfinished := s.nor.unfinished.filter fun n => !sectors.contains n } }

/-- The stop of a firmware activation (R165, R402). -/
def activationStop (k : Nat) (handle : Option (BitVec 32)) (cid : Option (BitVec 16)) (s : State) : CloveStop :=
  { activation := true, core := 0xFF, startedUs := s.clk.us
    previousVersion := s.sec.version, newSlot := k, handle := handle, nvmeCid := cid }

/-- A slot is recorded as active, then the warm recovery begins (R402). -/
def activate (k : Nat) (handle : Option (BitVec 32)) (cid : Option (BitVec 16)) (s : State) : State :=
  let stop := activationStop k handle cid s
  beginStop stop (storeConfig (fun c => { c with activeSlot := k }) { s with nv := { s.nv with nextSlot := none } })

end Sys2Proof.Machine
end

