-- ==== Sys2Proof/Machine/LedgerOps.lean ====
section
/-! DEFINITION. The ledger's journal: slots becoming durable, compaction, and slots lost with their page (R145, R186 to
R190). -/

namespace Sys2Proof.Machine

/-- The namespace table as a NAMESPACE slot makes it: action 1 takes a namespace out, any other puts its record in
(R187, R189). -/
def tableAfter (s : State) (seq ns action base size fmt pi : Nat) : List Namespace :=
  let rest := s.map.table.filter fun n => n.id != ns
  if action = 1 then rest
  else
    let attached := match findNs s ns with
      | some n => n.attached
      | none => (s.map.table.find? fun n => n.id == ns).any (·.attached)
    rest ++ [⟨ns, base, size, fmt, pi, seq, attached, false⟩]

/-- What a slot brings about once durable: a grant is usable (R32), a block of numbers may be issued (R145), a
deallocate or discard counts as programmed (R202, R203), the namespace table follows (R187). -/
def slotDurable (s : State) (x : Slot) : State :=
  match x with
  | .grant _ sb _ _ => updateSb sb (fun b => { b with usable := true }) s
  | .seqBlock top => { s with ord := { s.ord with top := max s.ord.top top } }
  | .deallocate q _ _ _ => updateWrite q (fun w => { w with programmed := true }) s
  | .secureDiscard q _ _ _ _ => updateWrite q (fun w => { w with programmed := true }) s
  | .namespace_ q ns action base size fmt pi =>
    { s with map := { s.map with table := tableAfter s q ns action base size fmt pi } }
  | _ => s

/-- A DEALLOCATE slot. -/
def isDeallocate : Slot → Bool
  | .deallocate _ _ _ _ => true
  | _ => false

/-- A SECURE DISCARD slot whose command still runs. -/
def isLiveDiscard (s : State) : Slot → Bool
  | .secureDiscard q _ _ _ _ => s.sec.discards.any fun d => d.seq == q
  | _ => false

/-- A CLEAN slot. -/
def isClean : Slot → Bool
  | .clean _ => true
  | _ => false

/-- The newest 262,144 DEALLOCATE slots among a list, newest first. -/
def keptDeallocates (l : List Slot) : List Slot := (l.filter isDeallocate).take 262144

/-- The highest block top the ledger holds, in its base image or its journal (R145, R190). -/
def ledgerTop (s : State) : Nat :=
  (s.map.slots.filterMap fun x => match x with
    | .seqBlock t => some t
    | _ => none).foldl max s.map.blockTop

/-- A new base image is written into the alternate system block of each copy: slots folded into it leave the journal
(R170, R188, R190). -/
def compact (s : State) : State :=
  let live := s.map.slots.filter (isLiveDiscard s)
  { s with map := { s.map with
    slots := keptDeallocates s.map.slots ++ live, pages := 0, compaction := s.map.compaction + 1, blockTop := ledgerTop s
    copies := s.map.copies.map fun c => { c with block := 1 - c.block } } }

/-- Every slot that waits is durable: its pages of 255 slots are programmed (R188). -/
def ledgerFlush (s : State) : State :=
  if s.map.pendingSlots.isEmpty then s
  else
    let due := s.map.pendingSlots
    let s := { s with map := { s.map with
      pendingSlots := [], slots := due.reverse ++ s.map.slots, pages := s.map.pages + (due.length + 254) / 255
      copies := s.map.copies.map fun c => { c with extra := [] } } }
    let s := due.foldl slotDurable s
    let s := if 1536 ≤ s.map.pages then compact s else s
    settleMap s

/-- A slot whose page was never programmed is as if it had not been written (R188). -/
def slotLost (s : State) (x : Slot) : State :=
  match x with
  | .grant _ sb _ _ => updateSb sb (fun b => { b with state := .erased, active := false, usable := false }) s
  | .close _ sb _ _ _ => updateSb sb (fun b => { b with state := .granted }) s
  | .dirty sb => updateSb sb (fun b => { b with state := .closed }) s
  | .erased sb _ => updateSb sb (fun b => { b with state := .dirty }) s
  | .retire sb _ => updateSb sb (fun b => { b with state := if b.units.isEmpty then .erased else .dirty }) s
  | .remap die pos _ => { s with map := { s.map with
      remaps := s.map.remaps.filter fun r => !(r.1 == die && r.2.1 == pos) } }
  | _ => s

/-- The namespaces by the durable table; what the ledger does not hold of one stays as it was (R187). -/
def tableNamespaces (s : State) : List Namespace :=
  s.map.table.map fun d => match findNs s d.id with
    | some n => { d with attached := n.attached, formatting := n.formatting && n.epoch == d.epoch }
    | none => d

/-- The slots not durable are lost, newest first, and the namespaces are those of the durable table. -/
def dropPending (s : State) : State :=
  let lost := s.map.pendingSlots.reverse
  let s := lost.foldl slotLost { s with map := { s.map with
    pendingSlots := [], copies := s.map.copies.map fun c => { c with extra := [] } } }
  { s with nv := { s.nv with namespaces := tableNamespaces s } }

/-- The slots of the ledger's only readable copy count as durable (R188). -/
def takeWhole (kept : List Slot) (s : State) : State :=
  kept.foldl slotDurable { s with map := { s.map with
    pendingSlots := s.map.pendingSlots.filter fun x => !kept.contains x, slots := kept.reverse ++ s.map.slots } }

end Sys2Proof.Machine
end

