-- ==== Sys2Proof/Machine/MediaOps.lean ====
section
/-! DEFINITION. What chapters share about flash dies and sequencers: failures of programs and erases, stale dies, gating
and waking (R170, R198 to R200, R218, R219, R330). -/

namespace Sys2Proof.Machine

/-! ## Failed positions (R170, R198 to R200) -/

/-- Spares a die has used. -/
def sparesUsedOf (s : State) (die : Nat) : Nat :=
  match s.map.sparesUsed.find? fun x => x.1 == die with
  | some x => x.2
  | none => 0

/-- A superblock with a bad position and no spare is RETIRED; where valid data is in it, it takes no more, stays CLOSED
until that data has been copied out, and is RETIRED then (R170, R186; log entry 175). -/
def retireSb (die n : Nat) (s : State) : State :=
  let s := if (findSb s n).any (·.state == .granted) then closeFailed n s else s
  let s := updateSb n (fun b => { b with retireDie := some die }) s
  match findSb s n with
  | none => s
  | some b =>
    match b.state with
    | .closed => freeIfEmpty n s
    | .erased => releaseSb n s
    | .dirty => releaseSb n s
    | _ => s

/-- A bad position is remapped to a spare of its die, or, with none left, its superblock is retired. Answers 0
remapped, 1 retired (R170, R388). The spare's physical block is a free value. -/
def replacePosition (die n : Nat) (s : State) : State × Nat :=
  let used := sparesUsedOf s die
  if used < 24 then
    let block := Config.choice s.free
    let rest := s.map.sparesUsed.filter fun x => x.1 != die
    let kept := s.map.remaps.filter fun r => !(r.1 == die && r.2.1 == positionOf n)
    let s := drawn { s with map := { s.map with
      sparesUsed := (die, used + 1) :: rest, remaps := (die, positionOf n, block) :: kept } }
    (appendSlot (.remap die (positionOf n) block) s, 0)
  else (retireSb die n s, 1)

/-- A superblock loses the row being programmed and takes no more data (R199); of a target of collection, the copies are
redone: from the source where it is still CLOSED, else out of this superblock, which is emptied with priority (R194,
R200). -/
def abandonSb (die n : Nat) (s : State) : State :=
  match findSb s n with
  | none => s
  | some b =>
    if b.state ≠ .granted then s
    else
      let target := s.map.moves.any (fun m => m.target == n) || b.units.any (·.kind == .gcCopy)
      let s := closeFailed n s
      if target then
        logEvent 0x0403 (superblockUnit n) (evData [(4, n), (2, die), (2, 0)]) s
      else s

/-- DIE_PROGRAM_FAIL and R199. -/
def programFailed (die n row status : Nat) (s : State) : State :=
  let s := abandonSb die n s
  let (s, how) := replacePosition die n s
  logEvent 0x0501 (dieUnit die) (evData [(4, n), (2, row), (1, status), (1, how)]) s

/-- DIE_ERASE_FAIL and R198. -/
def eraseFailed (die n status : Nat) (s : State) : State :=
  let (s, how) := replacePosition die n s
  logEvent 0x0502 (dieUnit die) (evData [(4, n), (2, positionOf n), (1, status), (1, how)]) s

/-! ## Stale dies (R219) -/

/-- A context as it stands between routines (R220). -/
def standingOf (c : Context) : Standing := ⟨c.pc, c.regs, c.stack, c.z, c.n, c.ce⟩

/-- A running routine leaves its registers in the context of its die's position (R220). -/
def restContext (die : Nat) (s : State) : State :=
  match (findDie s die).bind (·.running) with
  | some c => updateChan (die / 32) (fun x => { x with contexts := x.contexts.set (die % 32) (standingOf c) }) s
  | none => s

/-- What is lost with a committed routine: a program is handled as failed without counting against the die, an erase
sets blank check pending (R219). -/
def loseRoutine (die : Nat) (s : State) (c : Context) : State :=
  match c.job.kind with
  | .program => abandonSb die c.job.superblock s
  | .erase => updateSb c.job.superblock (fun b => { b with blankPending := true }) s
  | .read => s

/-- The parked operation of a die is lost (R219). -/
def loseParked (die : Nat) (s : State) : State :=
  let lost := ((findDie s die).bind (·.parked)).toList
  let s := updateDie die (fun d => { d with
    parked := none, suspended := .none, suspends := if d.parked.isSome then 0 else d.suspends, readsServed := 0 }) s
  lost.foldl (loseRoutine die) s

/-- The operation a die was running or held suspended is lost: a program is handled as failed without counting against
the die, an erase sets blank check pending; a routine before COMMIT goes back to its queue (R219). -/
def loseOperation (die : Nat) (s : State) : State :=
  match findDie s die with
  | none => s
  | some d =>
    let lost := d.running.toList ++ d.parked.toList
    let again := (lost.filter fun c => !c.committed).map (·.job)
    let s := restContext die s
    let s := updateDie die (fun d => { d with
      running := none, parked := none, suspended := .none, suspends := 0, readsServed := 0, queue := again ++ d.queue }) s
    (lost.filter (·.committed)).foldl (loseRoutine die) s

/-- A die becomes stale, with the cause's place in the list of R219, counted from 0; DIE_STALE_STATE is logged once for
the episode (R219, R231). -/
def markStale (die cause : Nat) (s : State) : State :=
  match findDie s die with
  | none => s
  | some d =>
    if d.state = .absent ∨ d.state = .fenced then s
    else
      let s := updateDie die (fun d => { d with state := .stale, staleLogged := true }) s
      if d.state = .stale ∧ d.staleLogged = true then s
      else logEvent 0x0504 (dieUnit die) (evData [(1, cause), (1, 0), (2, d.featureGen), (4, 0)]) s

/-! ## Gating, waking and the golden copy (R218, R329, R330) -/

/-- Saffron's golden copy of a Mace die's configuration (R218). -/
structure Golden where
  /-- scheduler limits: queue depth, suspends, reads served and µs parked of a suspension, run time of a program and
  of an erase -/
  limits : List Nat
  /-- LDPC and randomiser settings -/
  codes : Word32
  /-- qualification entries in use -/
  entries : List Nat
  featureGen : Nat
  /-- control-store version expected for each sequencer -/
  expected : List Nat
deriving DecidableEq, Repr

/-- The golden copy of Mace die `m` (R212, R215, R218). -/
def goldenCopy (s : State) (m : Nat) : Golden where
  limits := [64, 8, 8, 150, 200, 500]
  codes := s.med.codes
  entries := ((s.med.dies.filter fun d => d.index / 256 == m).map (·.qual)).eraseDups
  featureGen := s.med.featureGen
  expected := (List.range 8).map fun i => (chanOf s (8 * m + i)).expected

/-- The golden copy has changed: its generation rises. DESIGN CHOICE, log entry 176: every unit not gated is pushed it
at once (R218). -/
def bumpGolden (s : State) : State :=
  let g := (s.med.golden + 1) % 65536
  { s with med := { s.med with
    golden := g
    channels := changeWhere (fun c => c.state != .gated) (fun c => { c with generation := g }) s.med.channels } }

/-- The feature sets have changed: their generation rises with the golden copy's, and every die in service is stale
(R218, R219). -/
def changeFeatures (s : State) : State :=
  let s := bumpGolden { s with med := { s.med with featureGen := (s.med.featureGen + 1) % 65536 } }
  ((s.med.dies.filter fun d => d.state == .inService).map (·.index)).foldl (fun s d => markStale d 5 s) s

/-- Clocks of the Mace dies and channels stop (R329, R216). -/
def gateMedia (s : State) : State :=
  { s with med := { s.med with
    channels := changeWhere (fun c => c.state == .running) (fun c => { c with state := .gated }) s.med.channels
    dies := changeWhere (fun d => d.state == .inService || d.state == .stale)
      (fun d => { d with state := .gated, staleLogged := false }) s.med.dies } }

/-- A sequencer whose patch is not the expected one has it reloaded from Saffron's copy, or runs ROM only (R218). -/
def matchVersion (s : State) (c : Channel) : Channel :=
  if c.patchVersion = c.expected then { c with mismatch := false }
  else
    match (config s).patch.filter fun p => p.version == c.expected with
    | some p => { c with patchVersion := p.version, patchValid := true, patch := p.words, vectors := p.vectors, mismatch := false }
    | none =>
      { c with patchVersion := 0, patchValid := false, patch := [], vectors := [], mismatch := c.expected != 0 }

/-- UNIT_WAKE: the generation matched; how long it took is a free value (R330, R342). -/
def logWake (u : UnitId) (s : State) : State :=
  drawn (logEvent 0x0A03 u (evData [(2, s.med.golden), (2, (Config.word s.free).toNat % 65536), (4, 0)]) s)

/-- A channel's clocks run again: the golden copy is pushed, its version compared, its dies are stale (R218, R219,
R330). -/
def wakeChannel (c : Nat) (s : State) : State :=
  if (chanOf s c).state ≠ .gated then s
  else
    let s := updateChan c (fun x => { matchVersion s x with state := .running, generation := s.med.golden }) s
    let s := logWake (channelUnit c) s
    let dies := (s.med.dies.filter fun d => d.index / 32 == c && d.state == .gated).map (·.index)
    dies.foldl (fun s d => markStale d 0 (loseOperation d s)) s

/-- Every Mace die and channel in service leaves gating. -/
def wakeMedia (s : State) : State :=
  let s := (List.range 4).foldl (fun s m => if isFenced s (maceUnit m) then s else logWake (maceUnit m) s) s
  (List.range 32).foldl (fun s c => if channelOut s c then s else wakeChannel c s) s

end Sys2Proof.Machine
end

