-- ==== Sys2Proof/Machine/PowerOps.lean ====
section
/-! DEFINITION. Power states: the depths, the conditions of entry, entry and resume (R323 to R331). -/

namespace Sys2Proof.Machine

/-! ## Depths (R324, R328) -/

/-- The NVMe power state in force: with Autonomous Power State Transition on, the idle target of the host's table entry
for the present state, where its idle time is not 0 (R328; bits [7:3] and [31:8] of an entry, log entry 16). -/
def nvmeStateInForce (s : State) : Nat :=
  if s.nv.apstOn then
    match s.nv.apst[s.nv.powerState]? with
    | some e => if field e.toNat 8 24 = 0 then s.nv.powerState else min 2 (field e.toNat 3 5)
    | none => s.nv.powerState
  else s.nv.powerState

/-- NVMe depth (R324, R328). -/
def nvmeDepth (s : State) : Nat :=
  if s.nv.cc.getLsbD 0 = false ∨ s.pwr.d3hot = true ∨ s.life.perstN = false then 4
  else nvmeStateInForce s + 1

/-- The shallower of the two permitted depths. -/
def powerBound (s : State) : Nat := min s.pwr.depthLorard (nvmeDepth s)

/-! ## Conditions (R323 to R325) -/

/-- The write buffer holds no unwritten data. -/
def bufferWritten (s : State) : Bool := (bufferedWrites s).isEmpty && heldUnits s == 0

/-- The conditions of P2 and deeper (R325). -/
def deepReady (s : State) : Bool :=
  s.link.state == .down && s.nv.cmds.isEmpty && s.mbx.box.all (fun b => b.state != .busy) && bufferWritten s &&
    s.ord.fences.isEmpty

/-- GC, scrub or wear levelling is due (R194, R196, R248). -/
def backgroundDue (s : State) : Bool :=
  s.life.mapReady &&
    (!s.map.gcGroups.isEmpty || !s.intg.visit.isEmpty || decide (16777216 < s.map.overlay.length) ||
      s.map.sbs.any fun b => b.state == .closed && (b.noSummary || b.relocate || memberOut s b))

/-- No handle but POWER_SET_STATE's is live (R325). -/
def noOtherHandle (s : State) : Bool := s.hnd.live.all fun h => h.opcode == 0x0020

/-- Every stream is CLOSED and no take exists (R325). -/
def noCapture (s : State) : Bool := s.str.takes.isEmpty && s.str.list.all fun x => x.state == .closed

/-- The link or function is idle enough for P1 (R323). -/
def lightReady (s : State) : Bool := s.link.state != .down && (s.pwr.l1 || s.pwr.d3hot) && s.nv.cmds.isEmpty

/-- With a bound of P2 or shallower, GC, scrub and wear levelling that are due run in P0 first (R324). -/
def worksFirst (s : State) : Bool := decide (powerBound s ≤ 2) && backgroundDue s

/-- The conditions of a state hold (R323, R325). -/
def stateReady (s : State) (k : Nat) : Bool :=
  match k with
  | 0 => true
  | 1 => lightReady s && !worksFirst s
  | 2 => deepReady s && !worksFirst s
  | 3 => deepReady s && noOtherHandle s && !backgroundDue s
  | _ => deepReady s && noOtherHandle s && noCapture s

/-- The deepest state within the bound whose conditions hold; P0 until map-ready (R324). -/
def targetState (s : State) : Nat :=
  if s.life.phase ≠ .service ∨ s.life.mapReady = false then 0
  else (((List.range 5).filter fun k => decide (k ≤ powerBound s) && stateReady s k).getLast?).getD 0

/-! ## POWER_SET_STATE (R140, R326) -/

/-- The ring result: the state entered. -/
def stateResult (k : Nat) : BitVec 128 := ringData [(1, k)]

/-- The live POWER_SET_STATE completes with the state the device is in. -/
def completePowerSet (status : BitVec 16) (k : Nat) (s : State) : State :=
  match liveOp s 0x0020 with
  | some h => completeHandle h.value status (stateResult k) s
  | none => s

/-- It completes when the state reached is as deep as the one requested. -/
def settlePowerSet (s : State) : State :=
  match liveOp s 0x0020 with
  | some h => if h.subject ≤ s.pwr.state then completeHandle h.value stOk (stateResult s.pwr.state) s else s
  | none => s

/-! ## Entry -/

/-- Pending refreshes are made up and the channel is in self-refresh (R268). -/
def toSelfRefresh (c : DramChannel) : DramChannel :=
  if c.state == .off then c
  else
    let rest (r : DramRank) : DramRank := { r with pending := 0, ahead := 0, owed := false, forced := false }
    { c with state := .selfRefresh, rank0 := rest c.rank0, rank1 := rest c.rank1, rows := List.replicate 32 none }

/-- P1, P2 or P3 is entered (R323, R329). -/
def enterState (k : Nat) (s : State) : State :=
  let s := { s with pwr := { s.pwr with state := k, background := false } }
  let s := if 2 ≤ k ∧ backgroundDue s = false then gateMedia s else s
  let s := if k = 3 then { s with dram := { s.dram with channels := s.dram.channels.map toSelfRefresh } } else s
  settlePowerSet s

/-- The last durable slot of the ledger is CLEAN, and none waits (R351). -/
def ledgerClean (s : State) : Bool :=
  s.map.pendingSlots.isEmpty &&
    match s.map.slots.head? with
    | some (.clean _) => true
    | _ => false

/-- P4 entry begins: the CLEAN slot is appended (R325). -/
def beginP4 (s : State) : State :=
  let s := match liveOp s 0x0020 with
    | some h => passCancel h.value s
    | none => s
  appendSlot (.clean (lastIssued s)) { s with pwr := { s.pwr with entering := true } }

/-! ## Resume (R326 to R330, R358) -/

/-- Channels leave self-refresh; at the exit from P3 each is re-centred first (R268, R273). -/
def wakeDram (from3 : Bool) (s : State) : State :=
  { s with dram := { s.dram with channels := s.dram.channels.map fun c =>
      if c.state == .selfRefresh then
        if from3 then { c with state := .recentring, slices := 0, cause := 5 } else { c with state := .active }
      else c } }

/-- Events found in P3 are logged with their sample time (R358). -/
def flushDeferred (s : State) : State :=
  s.thm.deferred.foldl (fun s e => logDeferred e.1 e.2.1 e.2.2.1 e.2.2.2 s) { s with thm := { s.thm with deferred := [] } }

/-- A wake event abandons an entry to P4 whose completion is not posted; the Lorard depth returns to 2 (R327). -/
def abandonP4 (s : State) : State :=
  if s.pwr.entering then
    completePowerSet stOk s.pwr.state { s with pwr := { s.pwr with entering := false, depthLorard := 2 } }
  else s

/-- A scheduled hold-up test may start: none runs, firmware serves, and a periodic one waits while a stream is OPEN
until 48 h have passed since the last test (R339). -/
def mayTest (kind : HoldupDue) (s : State) : Bool :=
  let waits := kind == .periodic && s.str.list.any (fun x => x.state == .open_) &&
    decide (s.clk.us < s.hup.lastUs + 172800000000)
  serving s && s.hup.run.isNone && !waits

/-- A scheduled hold-up test starts (R339). -/
def startTestRun (s : State) : State :=
  { s with hup := { s.hup with run := some ⟨true, none, 0, 0, false⟩, due := none } }

/-- A hold-up test that fell due in P3 runs after the resume (R331). -/
def runDueTest (s : State) : State :=
  match s.hup.due with
  | some kind => if mayTest kind s then startTestRun s else s
  | none => s

/-- P1, P2 or P3 is left for P0 (R323). -/
def leaveState (s : State) : State :=
  let k := s.pwr.state
  let s := { s with pwr := { s.pwr with state := 0 } }
  let s := if 2 ≤ k then wakeDram (k == 3) (wakeMedia s) else s
  if k = 3 then runDueTest (flushDeferred s) else s

/-- P1, P2 or P3 resumes to P0, and the Lorard depth returns to 2; in P0 a wake event abandons an entry to P4 (R327). -/
def resumeP0 (s : State) : State :=
  let k := s.pwr.state
  let s := abandonP4 { s with pwr := { s.pwr with l1 := false } }
  if k = 0 ∨ 3 < k then s
  else leaveState { s with pwr := { s.pwr with depthLorard := 2 } }

/-- P0 is held for background work where a state within the bound would else be entered (R324). -/
def updateBackground (s : State) : State :=
  let idle := (decide (1 ≤ powerBound s) && lightReady s) || (powerBound s == 2 && deepReady s)
  { s with pwr := { s.pwr with background := s.pwr.state == 0 && worksFirst s && idle } }

/-- The device is never deeper than the bound (R324): a shallower bound resumes it. -/
def boundPower (s : State) : State := if powerBound s < s.pwr.state then resumeP0 s else s

end Sys2Proof.Machine
end

