-- ==== Sys2Proof/Machine/Queues.lean ====
section
/-! DEFINITION. Doorbells and interrupt coalescing (R91, R94, R97). -/

namespace Sys2Proof.Machine

/-- The NVMe register space answers host writes (R350, R412). -/
def nvmeReachable (s : State) : Bool := s.life.phase == .service && s.life.perstN

/-- R91, R94: entries between the former tail and the new one are published and fetched; the write resumes P1 to P3
(R327). A tail outside the queue, or one that does not match the entries, changes nothing. -/
def execSqTailDoorbell (qid : Nat) (tail : BitVec 16) (entries : List Sqe) (s : State) : Result :=
  .next (
    if nvmeReachable s then
      let s := resumeP0 s
      match findSq s qid with
      | none => s
      | some q =>
        if s.nv.rdy && decide (tail.toNat < q.size) &&
            (tail.toNat + q.size - q.tail) % q.size == entries.length then
          fetchAll (updateSq qid (fun q => { q with tail := tail.toNat, entries := q.entries ++ entries }) s)
        else s
    else s)

/-- Waiting entries go into a completion queue as slots are free. -/
def refillCq (id : Nat) : List Cqe → State → State
  | [], s => s
  | e :: es, s =>
    match findCq s id with
    | none => s
    | some q =>
      if cqRoom q then refillCq id es (cqInterrupt id (updateCq id (cqWrite e) s))
      else updateCq id (fun q => { q with overflow := e :: es }) s

/-- R91, R94: the host has taken entries up to the new head. -/
def execCqHeadDoorbell (qid : Nat) (head : BitVec 16) (s : State) : Result :=
  .next (
    if nvmeReachable s then
      let s := resumeP0 s
      match findCq s qid with
      | none => s
      | some q =>
        let n := (head.toNat + q.size - q.head) % q.size
        if decide (head.toNat < q.size) && decide (n ≤ q.entries.length) then
          let s := updateCq qid (fun q => { q with
            head := head.toNat, entries := q.entries.drop n, overflow := [] }) s
          refillCq qid q.overflow s
        else s
    else s)

/-- R97: entries of the vector's I/O queues wait and the aggregation time is over: the message goes out. -/
def execInterruptCoalescingTimeout (vector : Fin 2048) (s : State) : Result :=
  .next (
    if s.nv.cqs.any fun q => q.id != 0 && q.vector == vector.val && q.ien && decide (0 < q.aggregated) then
      vectorMessage vector.val s
    else s)

end Sys2Proof.Machine
end

