-- ==== Sys2Proof/Machine/Fec.lean ====
section
/-! DEFINITION. Coding of the capture link: the RS(544,514) code of the receive lanes (R39, R40) and the 64b/66b
blocks of the IB lane (R38, R50). -/

namespace Sys2Proof.Machine

/-! ## GF(2^10) (R39: field polynomial of IEEE 802.3 Clause 119, x^10 + x^3 + 1; PRESUMED, log entry 170) -/

/-- A field element times α. -/
def gfDouble (a : Nat) : Nat :=
  let d := 2 * a
  if d.testBit 10 then d ^^^ 0x409 else d

/-- Product of two field elements, over the low `n` bits of the second. -/
def gfMulBits : Nat → Nat → Nat → Nat
  | 0, _, _ => 0
  | n + 1, a, b => (if b.testBit 0 then a else 0) ^^^ gfMulBits n (gfDouble a) (b / 2)

/-- Product of two field elements. -/
def gfMul (a b : Nat) : Nat := gfMulBits 10 a b

/-- A power of a field element. -/
def gfPow (a : Nat) : Nat → Nat
  | 0 => 1
  | n + 1 => gfMul a (gfPow a n)

/-- α to a power. -/
def gfAlpha : Nat → Nat
  | 0 => 1
  | n + 1 => gfDouble (gfAlpha n)

/-- The inverse, a^1022: squares and products over the bits of the exponent. -/
def gfInv (a : Nat) : Nat :=
  ((List.range 9).foldl (fun (acc : Nat × Nat) _ => let q := gfMul acc.1 acc.1; (q, gfMul acc.2 q)) (a, 1)).2

/-- A polynomial's value at a point, coefficients highest first. -/
def gfEval (cs : List Nat) (x : Nat) : Nat := cs.foldl (fun acc c => gfMul acc x ^^^ c) 0

/-! ## RS(544,514) (R39): symbol i is the coefficient of x^(543 - i); the generator's roots are α^0 to α^29 -/

/-- The 30 syndromes of a received word. -/
def rsSyndromes (r : List Nat) : List Nat := (List.range 30).map fun j => gfEval r (gfAlpha j)

/-- Coefficients of two polynomials, lowest first, added. -/
def gfAdd : List Nat → List Nat → List Nat
  | [], b => b
  | a, [] => a
  | x :: a, y :: b => (x ^^^ y) :: gfAdd a b

/-- State of the Berlekamp-Massey recursion: locator, the locator before the last change of length, its discrepancy, the
shift since, and the length. -/
structure Massey where
  locator : List Nat
  before : List Nat
  last : Nat
  shift : Nat
  length : Nat
deriving DecidableEq, Repr

/-- One step on the syndromes seen so far, newest first. -/
def masseyStep (m : Massey) (seen : List Nat) : Massey :=
  let d := (List.zipWith gfMul m.locator seen).foldl (· ^^^ ·) 0
  if d = 0 then { m with shift := m.shift + 1 }
  else
    let k := gfMul d (gfInv m.last)
    let next := gfAdd m.locator (List.replicate m.shift 0 ++ m.before.map (gfMul k))
    let n := seen.length - 1
    if 2 * m.length ≤ n then ⟨next, m.locator, d, 1, n + 1 - m.length⟩ else { m with locator := next, shift := m.shift + 1 }

/-- The error locator of a list of syndromes. -/
def masseyRun : List Nat → List Nat → Massey → Massey
  | [], _, m => m
  | s :: ss, seen, m => masseyRun ss (s :: seen) (masseyStep m (s :: seen))

/-- A polynomial's value at a point, coefficients lowest first. -/
def gfEvalLow (cs : List Nat) (x : Nat) : Nat := gfEval cs.reverse x

/-- Error evaluator: syndromes times locator, modulo x^30, lowest first. -/
def rsEvaluator (syn locator : List Nat) : List Nat :=
  (List.range 30).map fun i =>
    ((List.range (i + 1)).map fun j => gfMul (syn.getD (i - j) 0) (locator.getD j 0)).foldl (· ^^^ ·) 0

/-- The locator's derivative, lowest first. -/
def gfDerivative (cs : List Nat) : List Nat := (cs.drop 1).zipIdx.map fun x => if x.2 % 2 = 0 then x.1 else 0

/-- The error value at the symbol of power `e`, if the locator has a root there. -/
def rsErrorAt (locator evaluator : List Nat) (e : Nat) : Option Nat :=
  let inv := gfAlpha (1023 - e)
  if gfEvalLow locator inv = 0 then
    some (gfMul (gfAlpha e) (gfMul (gfEvalLow evaluator inv) (gfInv (gfEvalLow (gfDerivative locator) inv))))
  else none

/-- The received symbols with every located error put right. -/
def rsRepair (locator evaluator : List Nat) (r : List Nat) : List Nat :=
  r.zipIdx.map fun x => match rsErrorAt locator evaluator (r.length - 1 - x.2) with
    | some v => x.1 ^^^ v
    | none => x.1

/-- Decoding (R39): the corrected symbols with the number of symbols corrected, at most 15, or none when the codeword is
uncorrectable. -/
def rsDecode (r : List Nat) : Option (List Nat × Nat) :=
  let syn := rsSyndromes r
  if syn.all (· == 0) then some (r, 0)
  else
    let m := masseyRun syn [] ⟨[1], [1], 1, 1, 0⟩
    let fixed := rsRepair m.locator (rsEvaluator syn m.locator) r
    let changed := ((r.zip fixed).filter fun x => x.1 != x.2).length
    if m.length ≤ 15 && changed == m.length && (rsSyndromes fixed).all (· == 0) then some (fixed, changed) else none

/-- Bits of the message symbols, symbol 0 and in each symbol bit 0 first (R40). -/
def messageBits : List Nat → Nat
  | [] => 0
  | x :: xs => x % 1024 + 1024 * messageBits xs

/-- The 20-bit codeword tag and the 80 words of 64 bits that 514 message symbols carry (R40). -/
def messageWords (symbols : List Nat) : BitVec 20 × List Word64 :=
  let n := messageBits (symbols.take 514)
  (BitVec.ofNat 20 n, (List.range 80).map fun k => BitVec.ofNat 64 (n >>> (20 + 64 * k)))

/-! ## 64b/66b on IB (R38, R50) -/

/-- One step of the self-synchronising scrambler 1 + x^39 + x^58 of Clause 49: the scrambled bit enters the register. -/
def ibScrambleBit (r : BitVec 58) (b : Bool) : BitVec 58 × Bool :=
  let o := b ^^ r.getLsbD 38 ^^ r.getLsbD 57
  ((r <<< 1) ||| BitVec.ofNat 58 (flag o), o)

/-- `n` payload bits scrambled, lowest first: the scrambled bits and the register after them. -/
def ibScramble : Nat → BitVec 58 → Nat → Nat × BitVec 58
  | 0, r, _ => (0, r)
  | n + 1, r, w =>
    let x := ibScrambleBit r (w.testBit 0)
    let y := ibScramble n x.1 (w / 2)
    (flag x.2 + 2 * y.1, y.2)

/-- One block: its payload is scrambled, its sync header is not. -/
def ibBlock (sync : BitVec 2) (payload : Nat) (r : BitVec 58) : IbBlock × BitVec 58 :=
  let x := ibScramble 64 r payload
  (⟨sync, BitVec.ofNat 64 x.1⟩, x.2)

/-- A 16-byte message (R50): type, sequence, 10 bytes of body, CRC-32C over bytes 0 to 11. -/
def ibMessage (type : Nat) (seq : BitVec 8) (body : List Byte) : List Byte :=
  let head := leBytes 1 type ++ leBytes 1 seq.toNat ++ padTo 10 body
  head ++ leBytes 4 (crc32c head)

/-- The blocks a message goes out in (R50): an idle block of control type 0x1E followed by zeros, then two data
blocks. -/
def ibBlocks (message : List Byte) (r : BitVec 58) : List IbBlock × BitVec 58 :=
  let i := ibBlock 2 0x1E r
  let a := ibBlock 1 (leNat (message.take 8)) i.2
  let b := ibBlock 1 (leNat (message.drop 8)) a.2
  ([i.1, a.1, b.1], b.2)

end Sys2Proof.Machine
end

