-- ==== Sys2Proof/Machine/StreamOps.lean ====
section
/-! DEFINITION. What capture streams share: windows, held units, index units and the closing of frames (R66 to R81). -/

namespace Sys2Proof.Machine

/-! ## Windows (R66, R72) -/

/-- Index slots of a window of LBAs: 128 to a 4 KiB unit (R76). -/
def slotsPerLba : Nat := 128

/-- The window data is now written to. -/
def dataWindow (x : Stream) : Window := x.dataWindows.getD x.dataCur ⟨0, 0⟩

/-- Data windows queued behind the one in use (R72). -/
def queuedData (x : Stream) : Nat := x.dataWindows.length - 1 - x.dataCur

/-- LBAs left in the data window chain (R137). -/
def dataRoom (x : Stream) : Nat :=
  ((dataWindow x).start + (dataWindow x).length - x.writePoint) +
    ((x.dataWindows.drop (x.dataCur + 1)).map (·.length)).sum

/-- LBAs of every window the data chain was given. DESIGN CHOICE (log entry 171): windows already left or passed over
count in the total of R72. -/
def dataTotal (x : Stream) : Nat := (x.dataWindows.map (·.length)).sum

/-- The room is below the low-water mark of one sixteenth (R72). -/
def belowLowWater (x : Stream) : Bool := decide (dataRoom x * 16 < dataTotal x)

/-- Slots of the index chain. -/
def indexSlots (x : Stream) : Nat := (x.indexWindows.map (·.length)).sum * slotsPerLba

/-- Slots not yet taken (R137). -/
def freeIndexSlots (x : Stream) : Nat := indexSlots x - x.entries.length

/-- Number of the index window that holds unit `u` of the chain. -/
def indexWindowOf : List Window → Nat → Nat
  | [], _ => 0
  | w :: ws, u => if u < w.length then 0 else indexWindowOf ws (u - w.length) + 1

/-- The LBA of unit `u` of the index chain (R76). -/
def indexLba : List Window → Nat → Nat
  | [], _ => 0
  | w :: ws, u => if u < w.length then w.start + u else indexLba ws (u - w.length)

/-- Number of the index window in use: the one that takes the next slot, the last when no slot is free. -/
def indexCur (x : Stream) : Nat :=
  min (indexWindowOf x.indexWindows (x.entries.length / slotsPerLba)) (x.indexWindows.length - 1)

/-- Index windows queued behind the one that takes the next slot. -/
def queuedIndex (x : Stream) : Nat :=
  x.indexWindows.length - 1 - indexCur x

/-- The windows in use or queued, data and index: what a new window must not overlap (R72). -/
def ownWindows (x : Stream) : List Window :=
  x.dataWindows.drop x.dataCur ++ x.indexWindows.drop (indexCur x)

/-- Two windows share an LBA. -/
def windowsOverlap (a b : Window) : Bool := decide (a.start < b.start + b.length) && decide (b.start < a.start + a.length)

/-- A window of another stream that is not CLOSED, in the same namespace, overlaps one of `ws` (R67). DESIGN CHOICE (log
entry 171): a window the other stream has moved past still counts. -/
def windowConflict (s : State) (sid ns : Nat) (ws : List Window) : Bool :=
  s.str.list.any fun x => x.sid != sid && x.state != .closed && x.ns == ns &&
    ws.any fun w => (x.dataWindows ++ x.indexWindows).any (windowsOverlap w)

/-- The first queued window from number `i` on that takes `n` units (R72). -/
def windowFor : List Window → Nat → Nat → Option (Nat × Window)
  | [], _, _ => none
  | w :: ws, i, n => if n ≤ w.length then some (i, w) else windowFor ws (i + 1) n

/-! ## Units and writes (R70, R71, R73) -/

/-- CRC-16 of the NVM Command Set over a unit's bytes (R100). -/
def piGuard (u : UnitData) : Nat := crcBits 16 0x8BB7 0 ((unitBytes u).flatMap fun b => bitsMsb 8 b.toNat)

/-- Protection information: guard, application tag, reference tag (R73, R100). -/
def piOf (u : UnitData) (app ref : Nat) : BitVec 64 :=
  BitVec.ofNat 64 (piGuard u + app % 65536 * 65536 + ref % 2 ^ 32 * 2 ^ 32)

/-- A namespace holds protection information (R99). -/
def nsHasPi (n : Namespace) : Bool := n.fmt == 1 && n.pi != 0

/-- A unit as W5 guards it (R73, R250). `badGuard`: a parity failure after W5 leaves the guard unmatched (R253). -/
def guardUnit (s : State) (ns : Nat) (u : UnitData) (app ref : Nat) (badGuard : Bool) : Unit4k :=
  let pi := match findNs s ns with
    | some n => if nsHasPi n then piOf u app ref else 0
    | none => 0
  ⟨u, guardOf u, pi, badGuard⟩

/-- Consecutive units of one segment gathered into runs, each to be one write (R71). -/
def cutRuns : List (Nat × Unit4k) → List (List (Nat × Unit4k))
  | [] => []
  | x :: xs =>
    match cutRuns xs with
    | [] => [[x]]
    | r :: rs =>
      match r.head? with
      | some y => if y.1 = x.1 + 1 ∧ y.1 / 256 = x.1 / 256 then (x :: r) :: rs else [x] :: r :: rs
      | none => [x] :: rs

/-- A write of a run of units, waiting for W7. -/
def runWrite (kind : WriteKind) (src : Source) (ns : Nat) (r : List (Nat × Unit4k)) (serial : Nat) : Write :=
  { seq := 0, kind := kind, src := src, ns := ns, lba := (r.head?.map (·.1)).getD 0, len := r.length
    units := r.map (·.2), fua := false, ordered := false, more := [], cmd := none, places := [], programmed := false
    applied := false, serial := serial, latched := false, recorded := false }

/-- A write joins those that wait for W7. -/
def enqueueWrite (w : Write) (s : State) : State :=
  { s with ord := { s.ord with waiting := s.ord.waiting ++ [.write w] } }

/-- A fence joins those that wait for W7. -/
def enqueueFence (f : FenceRec) (s : State) : State :=
  { s with ord := { s.ord with waiting := s.ord.waiting ++ [.fence f] } }

/-- Units of one segment. -/
def inSegment (seg : Nat) (us : List (Nat × Unit4k)) : List (Nat × Unit4k) := us.filter fun u => u.1 / 256 == seg

/-- The segment of the last unit held back. -/
def lastSegment (x : Stream) : Nat := ((x.held.getLast?).map fun u => u.1 / 256).getD 0

/-- The units a release writes: those held back, and with them the units of a segment now filled that went out early, so
that it is written whole (R71). -/
def unitsToWrite (x : Stream) : List (Nat × Unit4k) :=
  let seg := lastSegment x
  if x.held.isEmpty = false ∧ (inSegment seg (x.sent ++ x.held)).length = 256 then
    x.held.filter (fun u => u.1 / 256 != seg) ++ inSegment seg (x.sent ++ x.held)
  else x.held

/-- After a release: the units of the segment still being filled that have gone out. -/
def unitsSent (x : Stream) : List (Nat × Unit4k) :=
  if x.held.isEmpty then x.sent
  else
    let us := inSegment (lastSegment x) (x.sent ++ x.held)
    if us.length = 256 ∨ x.state = .draining then [] else us

/-- The units a stream holds back go to W7 (R71). -/
def releaseHeld (sid : Nat) (s : State) : State :=
  match findStream s sid with
  | none => s
  | some x =>
    let ws := (cutRuns (unitsToWrite x)).map fun r => runWrite .captureData (.stream sid) x.ns r 0
    let s := updateStream sid (fun x => { x with held := [], sent := unitsSent x }) s
    { s with ord := { s.ord with waiting := s.ord.waiting ++ ws.map .write } }

/-- A whole unit of a stream is stored at an LBA: held back until its segment fills, unless the stream is DRAINING
(R70, R71). -/
def storeUnit (sid lba : Nat) (u : Unit4k) (s : State) : State :=
  let s := updateStream sid (fun x => { x with held := x.held ++ [(lba, u)] }) s
  let draining := match findStream s sid with
    | some x => x.state == .draining
    | none => true
  if draining || (lba + 1) % 256 == 0 then releaseHeld sid s else s

/-! ## The frame index (R74 to R76) -/

/-- The 32 bytes of an index entry (R74). -/
def entryBytes (e : IndexEntry) : List Byte :=
  let body := leBytes 8 e.timecode.toNat ++ packBytes [(5, e.frame), (1, e.frameFlags.toNat), (2, e.indexFlags.toNat),
    (6, e.startLba), (2, 0x1000 + e.stream), (4, e.length)]
  body ++ leBytes 4 (crc32c body)

/-- The bytes of index unit `u`: its placed entries, zeros elsewhere (R76; DESIGN CHOICE for slots not placed, log entry
12). -/
def indexUnitBytes (x : Stream) (u : Nat) : List Byte :=
  (List.range slotsPerLba).flatMap fun k =>
    match x.entries[u * slotsPerLba + k]? with
    | some e => if e.placed then entryBytes e else List.replicate 32 0
    | none => List.replicate 32 0

/-- A reference tag for index units of the namespace's protection type (R73). -/
def indexRef (s : State) (ns lba : Nat) : Nat :=
  match findNs s ns with
  | some n => if n.pi = 3 then 0xFFFFFFFF else lba
  | none => lba

/-- Slots of index unit `u` that are placed and in no index unit write yet. -/
def unwrittenSlots (x : Stream) (u : Nat) : List Nat :=
  (List.range slotsPerLba).filterMap fun k =>
    match x.entries[u * slotsPerLba + k]? with
    | some e => if e.placed && e.written == 0 then some (u * slotsPerLba + k) else none
    | none => none

/-- Index unit `u` is written through W7 when it holds a placed entry not yet written (R76). -/
def writeIndexUnit (sid u : Nat) (s : State) : State :=
  match findStream s sid with
  | none => s
  | some x =>
    if (unwrittenSlots x u).isEmpty then s
    else
      let lba := indexLba x.indexWindows u
      let data : UnitData := BitVec.ofNat 32768 (leNat (indexUnitBytes x u))
      let unit := guardUnit s x.ns data (0x1000 + sid) (indexRef s x.ns lba) false
      let n := x.indexWrites + 1
      let s := updateStream sid (fun x => { x with
        indexWrites := n
        entries := x.entries.mapIdx fun i e =>
          if decide (i / slotsPerLba = u) && e.placed && e.written == 0 then { e with written := n } else e }) s
      enqueueWrite (runWrite .indexUnit (.stream sid) x.ns [(lba, unit)] n) s

/-- Units of the index a stream has slots in. -/
def indexUnitCount (x : Stream) : Nat := (x.entries.length + slotsPerLba - 1) / slotsPerLba

/-- Every index unit with a placed entry not yet written is written (R76). -/
def writeIndexUnits (sid : Nat) (s : State) : State :=
  match findStream s sid with
  | none => s
  | some x => (List.range (indexUnitCount x)).foldl (fun s u => writeIndexUnit sid u s) s

/-- A stream enters DRAINING or FULL: held units and index units go out (R71, R76). -/
def flushStream (sid : Nat) (s : State) : State := writeIndexUnits sid (releaseHeld sid s)

/-- A stream enters a state that lets nothing more be held. -/
def enterStream (sid : Nat) (st : StreamState) (s : State) : State :=
  flushStream sid (updateStream sid (fun x => { x with state := st }) s)

/-! ## Durability of frames (R76 to R78) -/

/-- Every write of a stream's data that touches a range is durable: none held, none waiting, none accepted and not
durable. -/
def dataDurable (s : State) (x : Stream) (lba len : Nat) : Bool :=
  len == 0 ||
    (!(x.held.any fun h => decide (lba ≤ h.1) && decide (h.1 < lba + len)) &&
      !((waitingWrites s).any fun w => w.src == .stream x.sid && w.kind == .captureData &&
        overlaps x.ns lba len w.ns w.lba w.len) &&
      s.ord.accepted.all fun w => !(w.src == .stream x.sid && w.kind == .captureData &&
        overlaps x.ns lba len w.ns w.lba w.len) || durable s w)

/-- Every unit of an entry's frame is durable and the frame has ended; once an entry is placed they are, and a later
whole-segment write only writes them again (R71, R76). -/
def entryDataDurable (s : State) (x : Stream) (e : IndexEntry) : Bool :=
  e.placed || (e.ended && dataDurable s x e.startLba e.units)

/-- An entry is durable: it is placed, an index unit write carries it, and that write is durable (R78). -/
def entryDurable (s : State) (x : Stream) (e : IndexEntry) : Bool :=
  e.placed && decide (0 < e.written) &&
    !((waitingWrites s).any fun w => w.src == .stream x.sid && w.kind == .indexUnit && w.serial == e.written) &&
    s.ord.accepted.all fun w => !(w.src == .stream x.sid && w.kind == .indexUnit && w.serial == e.written) || durable s w

/-- A frame and every earlier frame of its stream are durable, data and index (R78). -/
def framesDurable (s : State) (x : Stream) (slot : Nat) : Bool :=
  (x.entries.take (slot + 1)).all fun e => entryDataDurable s x e && entryDurable s x e

/-- Every frame of a stream is durable and indexed (R68). -/
def streamDrained (s : State) (x : Stream) : Bool :=
  x.held.isEmpty && framesDurable s x x.entries.length

/-- Entries placed, counted from the front (R76). -/
def placedCount (x : Stream) : Nat := (x.entries.takeWhile (·.placed)).length

/-- The last frame number taken as a report gives it: modulo 2^40 (R81). -/
def lastFrameField (x : Stream) : Nat := signed 40 x.last

/-! ## The end of a frame (R70, R80) -/

/-- A frame carries the commit or the end-of-take flag: both are acknowledged (R78). -/
def isCommit (flags : BitVec 8) : Bool := flags.getLsbD 0 || flags.getLsbD 3

/-- A frame carries a flag at whose end held units are released (R71). -/
def releasesAtEnd (flags : BitVec 8) : Bool :=
  flags.getLsbD 0 || flags.getLsbD 1 || flags.getLsbD 2 || flags.getLsbD 3

/-- The next multiple of 256 at or after `n`. -/
def alignSegment (n : Nat) : Nat := (n + 255) / 256 * 256

/-- STREAM_WINDOW_FULL for low water, once (R72). -/
def noteLowWater (sid : Nat) (s : State) : State :=
  match findStream s sid with
  | none => s
  | some x =>
    if belowLowWater x && !x.lowLogged then
      logEvent 0x0202 (streamUnit sid) (evData [(1, 0), (3, 0), (4, dataRoom x * 4096 / mib)])
        (updateStream sid (fun x => { x with lowLogged := true }) s)
    else s

/-- The open frame ends: its entry becomes final, the write point moves past its units, and what R71 releases at a
frame's end is released. A short frame keeps its whole units only and is logged with its cause (R80). -/
def endFrame (f : OpenFrame) (short : Option Nat) (s : State) : State :=
  let sid := f.header.stream
  match findStream s sid with
  | none => { s with parse := { s.parse with frame := none } }
  | some x =>
    let len := if short.isSome then f.units * 4096 else f.header.length
    let after := f.startLba + f.units
    let point := if f.units = 0 then f.startLba else if x.align1M then alignSegment after else after
    let flags : BitVec 16 := (if short.isSome then 2 else 0) ||| (if f.damaged then 4 else 0)
    let s := { s with parse := { s.parse with frame := none } }
    let s := updateStream sid (fun x => { x with
      writePoint := point, lastTakenUs := s.clk.us
      shorts := if short.isSome then x.shorts + 1 else x.shorts
      entries := x.entries.modify f.slot fun e =>
        { e with length := len, units := f.units, indexFlags := e.indexFlags ||| flags, ended := true }
      commits := if isCommit f.header.flags then x.commits ++ [f.slot] else x.commits }) s
    let s :=
      if releasesAtEnd f.header.flags || short.isSome || x.align1M then releaseHeld sid s else s
    let s := noteLowWater sid s
    match short with
    | none => s
    | some cause =>
      logEvent 0x0201 (streamUnit sid)
        (evData [(4, f.header.frame % 2 ^ 32), (3, f.units), (1, cause)]) s

/-- The open frame, if any, is closed as a short frame (R80). Cause: 0 stall timer, 1 new header, 2 close, 3 link down,
4 stream state rebuilt. -/
def closeShort (cause : Nat) (s : State) : State :=
  match s.parse.frame with
  | none => s
  | some f => endFrame f (some cause) s

end Sys2Proof.Machine
end

