-- ==== Sys2Proof/Machine/LinkOps.lean ====
section
/-! DEFINITION. What the capture link shares: bundle states, back-channel messages, lane framing and the frame parser
(R39 to R63, R81). -/

namespace Sys2Proof.Machine

/-! ## Bundle states and messages (R46, R48, R51) -/

/-- State code (R46). -/
def bundleCode : Bundle → Nat
  | .down => 0 | .await => 1 | .acquire => 2 | .track => 3 | .cwlock => 4
  | .tune => 5 | .deskew => 6 | .up => 7 | .retrain => 8 | .halted => 9

/-- The link's record changed. -/
def onLink (f : Link → Link) (s : State) : State := { s with link := f s.link }

/-- Every receive lane changed. -/
def onLanes (f : Lane → Lane) (s : State) : State := onLink (fun l => { l with lanes := l.lanes.map f }) s

/-- Bit n: logical lane n locked (R51, R421). -/
def lockBitmap (l : Link) : Nat :=
  (List.range 8).foldl (fun acc n => acc + if l.lanes.any (fun x => x.lock && x.logical == some n) then 2 ^ n else 0) 0

/-- A message of a type goes out on IB with the next sequence byte, while IB runs: its blocks follow an idle block (R38,
R50). DESIGN CHOICE (log entry 170): the idle blocks that fill the time between messages are one block. -/
def sendIb (type : Nat) (body : List Byte) (s : State) : State :=
  if s.link.ibOn then
    let m := ibMessage type s.link.seq body
    let b := ibBlocks m s.link.ibScrambler
    emit (.ib m b.1) (onLink (fun l => { l with seq := l.seq + 1, ibScrambler := b.2 }) s)
  else s

/-- Body of STATUS, type 1 (R51). -/
def statusBody (l : Link) : List Byte :=
  packBytes [(1, bundleCode l.state), (1, lockBitmap l), (1, l.epoch.toNat), (4, l.granted.toNat),
    (1, flag (l.state == .retrain) + 2 * flag l.goingDown), (1, l.attempt.toNat)]

/-- Body of CREDIT, type 2 (R51). -/
def creditBody (l : Link) : List Byte := packBytes [(1, l.epoch.toNat), (4, l.granted.toNat)]

/-- Body of TRAIN, type 3 (R51). -/
def trainBody (lane command : Nat) (taps fom : BitVec 8) : List Byte :=
  packBytes [(1, lane), (1, command), (1, taps.toNat), (1, fom.toNat)]

/-- Body of COMMIT_ECHO, type 4 (R51). -/
def echoBody (sid frame : Nat) (again : Bool) : List Byte := packBytes [(2, sid), (5, frame), (1, flag again)]

/-- STATUS (R51). -/
def sendStatus (s : State) : State := sendIb 1 (statusBody s.link) s

/-- CREDIT (R51). -/
def sendCredit (s : State) : State := sendIb 2 (creditBody s.link) s

/-- The next attempt takes the fast path: after an UP of this CAPTURE_LINK_UP, unless the full path is forced or two
fast attempts in a row have failed (R47). -/
def nextFast (l : Link) : Bool := l.entered && !l.forceFull && decide (l.fastFails < 2)

/-- What a lane forgets when a bring-up starts again. -/
def laneRestart (x : Lane) : Lane :=
  { x with
    lock := false, badLcw := 0, badCw := 0, position := 0, cwIndex := 0, amCount := 0, lcwDue := 0, bitMode := false
    fifo := [] }

/-- The bundle enters AWAIT: the attempt number counts (R46, R48). -/
def enterAwait (s : State) : State :=
  onLanes laneRestart (onLink (fun l => { l with
    state := .await, attempt := l.attempt + 1, ibOn := true, fastNow := nextFast l }) s)

/-- A bring-up fails: a fast attempt that fails is counted, and the bundle returns to AWAIT (R46, R47). -/
def failBringUp (s : State) : State :=
  enterAwait (onLink (fun l => { l with fastFails := if l.fastNow then l.fastFails + 1 else l.fastFails }) s)

/-- What is received next does not continue what is buffered: an open frame that is not complete when the parser gets
there stays open but no word continues it, and a header is expected (R49, R57). -/
def resyncParser (s : State) : State :=
  { s with parse := { s.parse with gaps := s.parse.gaps ++ [s.parse.len] } }

/-- The parser forgets what it has buffered. -/
def dropParser (s : State) : State :=
  { s with parse := { s.parse with
      bits := 0, len := 0, pos := 0, bad := [], modes := [], gaps := [], searching := false, skipWords := 0
      frame := s.parse.frame.map fun f => { f with cut := true } } }

/-- The bundle enters RETRAIN: attempt number, frozen grant, fast path where R47 allows it. -/
def enterRetrain (s : State) : State :=
  resyncParser (onLink (fun l => { l with
    state := .retrain, attempt := l.attempt + 1, frozen := true, retrains := sat 16 (l.retrains + 1)
    fastNow := nextFast l }) s)

/-- The bundle enters DOWN: IB falls silent (R46). -/
def enterDown (s : State) : State :=
  dropParser (onLanes (fun x => { laneRestart x with signal := false })
    (onLink (fun l => { l with state := .down, ibOn := false, goingDown := false, frozen := false }) s))

/-- The grant is frozen and the bundle enters HALTED (R46, R57); IB keeps its state. -/
def haltBundle (s : State) : State :=
  onLink (fun l => if l.state = .halted then l else { l with state := .halted, frozen := true, haltedUp := l.state == .up }) s

/-- Some lane is a fenced unit: the bundle cannot reach UP (R373). -/
def laneFenced (s : State) : Bool := (List.range 8).any fun b => isFenced s (laneUnitOf s b)

/-- The bundle enters UP: a new credit epoch opens with no grant, the parser expects a header (R46, R49, R54). -/
def enterUp (s : State) : State :=
  resyncParser (onLanes (fun x => { x with bitMode := false })
    (onLink (fun l => { l with
      state := .up, epoch := if l.entered then l.epoch + 1 else 0, entered := true, granted := 0, consumed := 0
      frozen := false, fastFails := 0, lastFast := l.fastNow }) s))

/-- Ring result of CAPTURE_LINK_UP (R140). -/
def linkUpResult (l : Link) : BitVec 128 :=
  ringData [(1, bundleCode l.state), (1, l.epoch.toNat), (2, l.skew), (1, flag l.lastFast)]

/-- The live CAPTURE_LINK_UP handle, if any, completes. -/
def completeLinkUp (status : BitVec 16) (s : State) : State :=
  completeSome ((liveOp s 0x0040).map (·.value)) status (linkUpResult s.link) s

/-- A lane loses lock (R49): while the bundle is UP, ING_LANE_LOCK_LOST and RETRAIN; in CWLOCK, TUNE and DESKEW a failed
bring-up. Cause: 0 LCW, 1 codewords, 2 alignment marker, 3 loss of signal. -/
def loseLock (ball cause : Nat) (s : State) : State :=
  match s.link.state with
  | .up =>
    let u := laneUnitOf s ball
    let s := logEvent 0x0101 u (evData [(1, cause), (1, 7), (2, s.link.retrains), (4, (laneOf s ball).uncorr)]) s
    let s := if cause = 3 then s else startTest u 0x0101 s
    enterRetrain (updateLane ball (fun x => { x with lock := false }) s)
  | .cwlock => failBringUp s
  | .tune => failBringUp s
  | .deskew => failBringUp s
  | _ => s

/-! ## Lane framing (R40 to R43) -/

/-- CRC-8 of the LCW over its bits [63:8]: x^8 + x^2 + x + 1, initial value 0 (R42). -/
def lcwCheck (w : Word64) : Nat := crcBits 8 0x07 0 (bitsMsb 56 (w.toNat >>> 8))

/-- The LCW's check is good (R42). -/
def lcwChecks (w : Word64) : Bool := lcwCheck w == field w.toNat 0 8

/-- The LCW checks good and its block count is the one due (R42, R49). -/
def lcwGood (w : Word64) (due : Word32) : Bool := lcwChecks w && field w.toNat 16 32 == due.toNat

/-- The block count due after an LCW: one more than its own; an LCW whose check fails counts as one (R42; DESIGN
CHOICE, log entry 170). -/
def lcwNext (w : Word64) (due : Word32) : Word32 :=
  if lcwChecks w then BitVec.ofNat 32 (field w.toNat 16 32) + 1 else due + 1

/-- An alignment marker is right (R41). -/
def markerGood (w : Word64) (logical count : Nat) : Bool :=
  field w.toNat 40 24 == 0xD2B41E && field w.toNat 37 3 == logical && field w.toNat 0 32 == count % 2 ^ 32

/-- The scrambler's value at the start of an alignment codeword (R43). -/
def scramblerLoad (logical : Nat) : BitVec 58 := BitVec.ofNat 58 (0x02AAAAAAAAAAAA00 + logical)

/-- One step of the PRBS58 generator x^58 + x^39 + 1 (R43). DEDUCED: the register shifts toward bit 57 and the
generator bit is bit 57 XOR bit 38 (log entry 13). -/
def scramblerStep (r : BitVec 58) : BitVec 58 × Bool :=
  let b := r.getLsbD 57 != r.getLsbD 38
  ((r <<< 1) ||| (if b then 1 else 0), b)

/-- `n` generator bits gathered lowest first, and the register after them. -/
def scramblerBits : Nat → BitVec 58 → Nat × BitVec 58
  | 0, r => (0, r)
  | n + 1, r =>
    let x := scramblerStep r
    let y := scramblerBits n x.1
    (flag x.2 + 2 * y.1, y.2)

/-- A codeword as the decoder leaves it (R39, R40): tag and words, corrected symbols, uncorrectable. -/
structure Decoded where
  tag : BitVec 20
  words : List Word64
  corrected : Nat
  uncorrectable : Bool
deriving DecidableEq, Repr

/-- The 544 symbols of a codeword are decoded; an uncorrectable codeword keeps the received symbols (R39, R40, R63). -/
def decodeCodeword (symbols : List (BitVec 10)) : Decoded :=
  let r := symbols.map (·.toNat)
  match rsDecode r with
  | some x => let m := messageWords x.1; ⟨m.1, m.2, x.2, false⟩
  | none => let m := messageWords r; ⟨m.1, m.2, 0, true⟩

/-- What the lane framing carries from word to word: the lane, the data words so far and whether bit mode held at
each, an alignment marker found wrong, four bad LCWs met in a row (R40 to R43, R49, R62). -/
structure Framing where
  lane : Lane
  words : List Word64
  modes : List Bool
  markerWrong : Bool
  lcwLost : Bool
deriving DecidableEq, Repr

/-- One word of a codeword taken through the lane framing, with its number in the codeword. Bit mode ends at the first
good LCW outside an uncorrectable codeword (R62). DESIGN CHOICE (log entry 170): the generator advances over the data
positions of idle codewords too. -/
def laneWord (logical : Nat) (am bad : Bool) (f : Framing) (kw : Nat × Word64) : Framing :=
  let x := f.lane
  let w := kw.2
  if am && kw.1 == 0 then
    { f with
      lane := { x with position := x.position + 1, amCount := x.amCount + 1 }
      markerWrong := f.markerWrong || !markerGood w logical x.amCount }
  else if x.position % 60 = 59 then
    let n := if lcwGood w x.lcwDue then 0 else x.badLcw + 1
    { f with
      lane := { x with
        position := x.position + 1, badLcw := n, lcwDue := lcwNext w x.lcwDue
        bitMode := x.bitMode && (bad || !lcwChecks w) }
      lcwLost := f.lcwLost || decide (4 ≤ n) }
  else
    let g := scramblerBits 64 x.scrambler
    { f with
      lane := { x with position := x.position + 1, scrambler := g.2 }
      words := f.words ++ [w ^^^ BitVec.ofNat 64 g.1], modes := f.modes ++ [x.bitMode] }

/-- A codeword goes through the lane framing of R40 to R43. `parity`: a byte parity failure at W2 or W3 struck it. -/
def laneCodeword (x : Lane) (d : Decoded) (parity : Bool) : Framing :=
  let logical := x.logical.getD 0
  let am := x.cwIndex % 16384 == 0
  let x := { x with
    scrambler := if am then scramblerLoad logical else x.scrambler
    bitMode := x.bitMode || d.uncorrectable || parity }
  let f := (d.words.zipIdx.map fun p => (p.2, p.1)).foldl (laneWord logical am d.uncorrectable) ⟨x, [], [], false, false⟩
  { f with lane := { f.lane with
    cwIndex := (x.cwIndex + 1) % 16384
    badCw := if d.uncorrectable then x.badCw + 1 else 0
    uncorr := if d.uncorrectable then sat 32 (x.uncorr + 1) else x.uncorr
    corr := sat 32 (x.corr + d.corrected) } }

/-- Why a lane loses lock, if it does (R49). -/
def lockFailure (f : Framing) : Option Nat :=
  if f.lcwLost then some 0 else if 8 ≤ f.lane.badCw then some 1 else if f.markerWrong then some 2 else none

/-! ## Discard runs (R62, R81) -/

/-- The discard run ends: one deferred ING_RESUME_DISCARD (R81). -/
def endRun (s : State) : State :=
  match s.parse.run with
  | none => s
  | some r =>
    logDeferred 0x0106 (blockUnit 3)
      (evData [(1, r.cause), (1, 0), (2, r.stream), (4, sat 32 (r.bits / 64))]) r.startedUs
      { s with parse := { s.parse with run := none } }

/-- Discarded bits join the run of their cause and stream, or end the run and begin another (R81). -/
def joinRun (cause stream bits : Nat) (s : State) : State :=
  let fresh (s : State) : State := { s with parse := { s.parse with run := some ⟨cause, stream, bits, s.clk.us⟩ } }
  match s.parse.run with
  | none => fresh s
  | some r =>
    if r.cause = cause ∧ r.stream = stream then
      { s with parse := { s.parse with run := some { r with bits := r.bits + bits } } }
    else fresh (endRun s)

/-- Bits passed over count in the run that is in progress (R62). -/
def addToRun (bits : Nat) (s : State) : State :=
  { s with parse := { s.parse with run := s.parse.run.map fun r => { r with bits := r.bits + bits } } }

/-! ## Headers (R59 to R63) -/

/-- The primary sync mark (R59). -/
def primaryMark : Nat := 0xC3A596F02B1DE847
/-- The secondary sync mark, its complement (R59). -/
def secondaryMark : Nat := 0x3C5A690FD4E217B8
/-- The idle word (R45). -/
def idleWord : Nat := 0x0707070707070707

/-- At most 4 of 64 bits differ from a mark (R61). -/
def markMatches (mark w : Nat) : Bool := decide (((bitsMsb 64 (w ^^^ mark)).filter id).length ≤ 4)

/-- Bytes of a bit string. -/
def bytesAt (bits off n : Nat) : List Byte := leBytes n (field bits off (8 * n))

/-- A header part behind a matching mark: none when valid under R61, else the reason of ING_SYNC_FALSE, 1 CRC, 3 version
or reserved. The part starts at bit `off`; the primary part is bytes 0 to 31, the copy bytes 32 to 55. -/
def partFault (bits off : Nat) (copy : Bool) : Option Nat :=
  let crcAt := if copy then 20 else 28
  if crc32c (bytesAt bits off crcAt) != field bits (off + 8 * crcAt) 32 then some 1
  else if field bits (off + 76) 4 != 1 || field bits (off + 125) 3 != 0 ||
      decide (1073741824 < field bits (off + 128) 32) then some 3
  else none

/-- The fields of a header part (R59); a copy carries no timecode (R63). -/
def partHeader (bits off : Nat) (copy : Bool) : Header :=
  { stream := field bits (off + 64) 12
    frame := field bits (off + 80) 40
    flags := BitVec.ofNat 8 (field bits (off + 120) 8)
    length := field bits (off + 128) 32
    timecode := if copy then none else some (BitVec.ofNat 64 (field bits (off + 160) 64)) }

/-- The header's stream is OPEN and its frame number continues it (R63). -/
def continuous (s : State) (h : Header) : Bool :=
  match findStream s h.stream with
  | none => false
  | some x => x.state == .open_ && decide (x.last < h.frame) && (decide ((h.frame : Int) ≤ x.last + 64) || h.flags.getLsbD 4)

/-- What a position shows when one part's mark is looked for: a header that passes R61 and continuity, or a rejected
candidate with its reason (2 continuity), or no mark. -/
def candidate (s : State) (off : Nat) (copy : Bool) : Option (Header ⊕ (Nat × Header)) :=
  let mark := if copy then secondaryMark else primaryMark
  if markMatches mark (field s.parse.bits off 64) then
    let h := partHeader s.parse.bits off copy
    match partFault s.parse.bits off copy with
    | some r => some (.inr (r, h))
    | none => if continuous s h then some (.inl h) else some (.inr (2, h))
  else none

/-- Bit mode holds at a bit offset of the buffer (R62). -/
def modeAt (p : Parser) (off : Nat) : Bool := p.modes.getD (off / 64) false

/-- Bit mode holds at the parser's position (R62). -/
def bitMode (s : State) : Bool := modeAt s.parse s.parse.pos

/-- Bits to the next position the search tests: the next bit, or the next word boundary (R62). -/
def searchStep (s : State) : Nat := if bitMode s then 1 else 64 - s.parse.pos % 64

/-- Where the bits that belong together end: at the first gap, else at the end of the buffer. -/
def parseEnd (p : Parser) : Nat := p.gaps.headD p.len

/-- Offsets within 256 bytes of the expected position + 32, lowest first, each in the search mode that holds there or at
the expected position, that a whole copy fits behind (R62, R63). -/
def copyOffsets (s : State) : List Nat :=
  let p := s.parse
  let low := p.pos + 256 - min 2048 (p.pos + 256)
  ((List.range (p.pos + 2305 - low)).map (low + ·)).filter fun off =>
    (off % 64 == 0 || modeAt p off || modeAt p p.pos) && decide (off + 192 ≤ parseEnd p)

/-- The first copy that passes among some offsets, and the candidates rejected before it. -/
def scanCopies (s : State) : List Nat → List (Nat × Header) × Option (Nat × Header)
  | [] => ([], none)
  | off :: rest =>
    match candidate s off true with
    | some (.inl h) => ([], some (off, h))
    | some (.inr x) => let y := scanCopies s rest; (x :: y.1, y.2)
    | none => scanCopies s rest

/-- What stands at the parser's position, with the candidates rejected on the way (R62, R63). -/
def findFront (s : State) : Front × List (Nat × Header) :=
  let p := s.parse
  let avail := parseEnd p - p.pos
  let short : Front := if p.gaps.isEmpty then .wait else .nothing
  if avail < 256 then (short, [])
  else if p.searching then
    let first := candidate s p.pos false
    let second := candidate s p.pos true
    let bad := (match first with | some (.inr x) => [x] | _ => []) ++ (match second with | some (.inr x) => [x] | _ => [])
    match first with
    | some (.inl h) => if avail < 512 then (short, []) else (.header h (p.pos + 512) false, [])
    | _ =>
      match second with
      | some (.inl h) => (.header h (p.pos + 256) true, bad)
      | _ => (.nothing, bad)
  else if markMatches primaryMark (field p.bits p.pos 64) && (partFault p.bits p.pos false).isNone then
    if avail < 512 then (short, []) else (.header (partHeader p.bits p.pos false) (p.pos + 512) false, [])
  else if avail < 2496 ∧ p.gaps.isEmpty = true then (.wait, [])
  else
    let y := scanCopies s (copyOffsets s)
    match y.2 with
    | some (off, h) => (.header h (off + 256) true, y.1)
    | none => (.nothing, y.1)

/-- ING_SYNC_FALSE for each rejected candidate (R63). -/
def logFalse (bad : List (Nat × Header)) (s : State) : State :=
  bad.foldl (fun s x => logEvent 0x0103 (blockUnit 3)
    (evData [(1, x.1), (1, flag (bitMode s)), (2, x.2.stream), (4, x.2.frame % 2 ^ 32)]) s) s

/-! ## The parser's advance (R58, R62, R70) -/

/-- The parser's position moves on. -/
def passBits (n : Nat) (s : State) : State := { s with parse := { s.parse with pos := s.parse.pos + n } }

/-- A unit of the open frame is whole: it is guarded and stored at its LBA (R70, R73). -/
def storeFrameUnit (f : OpenFrame) (s : State) : State :=
  let sid := f.header.stream
  let lba := f.startLba + f.units
  match findStream s sid with
  | none => s
  | some x =>
    let ref := match findNs s x.ns with
      | some n => if n.pi = 3 then f.header.frame else lba
      | none => lba
    let u := guardUnit s x.ns (BitVec.ofNat 32768 f.partBits) sid ref f.badGuard
    let s := { s with parse := { s.parse with
      frame := some { f with partBits := 0, partBytes := 0, units := f.units + 1, badGuard := false } } }
    storeUnit sid lba u s

/-- Words of the open frame are taken, up to the end of the unit they fill; a unit they fill is stored (R70). -/
def eatFrame (f : OpenFrame) (s : State) : State :=
  let p := s.parse
  let left := f.header.length - f.received
  let room := if left = 0 then f.wordsLeft else (4096 - f.partBytes + 7) / 8
  let n := min (min ((parseEnd p - p.pos) / 64) f.wordsLeft) room
  let bytes := min (8 * n) left
  let chunk := field p.bits p.pos (8 * bytes)
  let struck := p.bad.filter fun b => decide (p.pos ≤ b.1) && decide (b.1 < p.pos + 64 * n)
  let g := { f with
    received := f.received + bytes
    wordsLeft := f.wordsLeft - n
    partBits := f.partBits + chunk * 2 ^ (8 * f.partBytes)
    partBytes := f.partBytes + bytes
    damaged := f.damaged || !struck.isEmpty
    badGuard := f.badGuard || struck.any (fun b => decide (6 ≤ b.2))
    stallLogged := false }
  let s := passBits (64 * n) { s with parse := { p with frame := some g } }
  if g.partBytes = 4096 then storeFrameUnit g s else s

/-- The parser stands at a gap: an incomplete open frame is cut, and a header is expected behind it (R49, R57). -/
def crossGap (s : State) : State :=
  let p := s.parse
  { s with parse := { p with
      gaps := p.gaps.drop 1, searching := false, skipWords := 0
      frame := p.frame.map fun f => { f with cut := f.cut || decide (0 < f.wordsLeft) } } }

/-- The parser has reached a gap. -/
def atGap (p : Parser) : Bool := decide (p.gaps.head? = some p.pos)

/-- The parser works through what is buffered until it needs a command or more words: payload is stored, discarded
frames and idle words are passed, rejected candidates are logged and the search steps on. DESIGN CHOICE (log entry 170):
a copy rejected within 256 bytes of an expected position is tested and logged again when the search comes to it. -/
def advance : Nat → State → State
  | 0, s => s
  | n + 1, s =>
    let p := s.parse
    let words := (parseEnd p - p.pos) / 64
    match p.frame.filter (fun f => !f.cut) with
    | some f =>
      if f.wordsLeft = 0 then s
      else if atGap p then advance n (crossGap s)
      else if words = 0 then s
      else advance n (eatFrame f s)
    | none =>
      if atGap p then advance n (crossGap s)
      else if 0 < p.skipWords then
        let k := min words p.skipWords
        if k = 0 then s
        else advance n (addToRun (64 * k) (passBits (64 * k)
          { s with parse := { p with skipWords := p.skipWords - k } }))
      else if !p.searching && decide (0 < words) && field p.bits p.pos 64 == idleWord then
        advance n (addToRun 64 (passBits 64 s))
      else
        match findFront s with
        | (.nothing, bad) =>
          let s := logFalse bad s
          let step := min (searchStep s) (parseEnd p - p.pos)
          if step = 0 then s
          else advance n (joinRun 0 0xFFFF step (passBits step { s with parse := { s.parse with searching := true } }))
        | _ => s

/-- Words passed more than 256 bytes ago leave the buffer, which so begins at a word boundary. -/
def trimParser (s : State) : State :=
  let p := s.parse
  let k := (p.pos - 2048) / 64 * 64
  { s with parse := { p with
      bits := p.bits >>> k, len := p.len - k, pos := p.pos - k, modes := p.modes.drop (k / 64)
      gaps := p.gaps.map (· - k)
      bad := (p.bad.filter fun b => decide (k ≤ b.1)).map fun b => (b.1 - k, b.2) } }

/-- The parser runs on what it holds. -/
def runParser (s : State) : State := trimParser (advance (s.parse.len - s.parse.pos + s.parse.gaps.length + 1) s)

/-! ## Codeword sets (R45, R56, R57) -/

/-- Data is received: the bundle is UP, or was when it halted (R46, R57). -/
def receiving (s : State) : Bool := s.link.state == .up || (s.link.state == .halted && s.link.haltedUp)

/-- Where a codeword stands for ING_FEC_UNCORRECTABLE: 0 header search, 1 payload, 2 between frames (R388). -/
def whereNow (s : State) : Nat :=
  match s.parse.frame.filter (fun f => !f.cut && decide (0 < f.wordsLeft)) with
  | some _ => 1
  | none => if s.parse.searching then 0 else 2

/-- ING_FEC_UNCORRECTABLE and the lane test it starts (R39, R45, R369). -/
def logFec (ball index kind : Nat) (s : State) : State :=
  let u := laneUnitOf s ball
  startTest u 0x0104
    (logEvent 0x0104 u (evData [(2, index), (1, kind), (1, whereNow s), (4, (laneOf s ball).uncorr)]) s)

/-- The eight lanes in logical order, with the ball of each. -/
def lanesInOrder (l : Link) : List (Nat × Lane) :=
  (List.range 8).filterMap fun n => (l.lanes.zipIdx.find? fun x => x.1.logical == some n).map fun x => (x.2, x.1)

/-- A bundle word of a set: the word, the damage it carries, and whether bit mode held on any lane where it stood. -/
structure SetWord where
  word : Word64
  damage : Nat
  bits : Bool
deriving DecidableEq, Repr

/-- The bundle words of a set: word j of logical lanes 0 to 7, then word j + 1 (R44). -/
def setWords (heads : List LaneCw) : List SetWord :=
  let n := (heads.map (fun h => h.words.length)).foldl min 80
  (List.range n).flatMap fun j => heads.map fun h =>
    ⟨h.words.getD j 0, if h.bad then 1 else h.parity, heads.any fun g => g.modes.getD j false⟩

/-- Words within the grant enter the parser's buffer. -/
def bufferWords (ws : List SetWord) (s : State) : State :=
  let p := s.parse
  let bits := ws.foldr (fun w acc => w.word.toNat + acc * 2 ^ 64) 0
  let bad := (ws.zipIdx.filter fun w => w.1.damage != 0).map fun w => (p.len + 64 * w.2, w.1.damage)
  { s with parse := { p with
      bits := p.bits + bits * 2 ^ p.len, len := p.len + 64 * ws.length, bad := p.bad ++ bad
      modes := p.modes ++ ws.map (·.bits) } }

/-- The consumed count goes on by `n` data positions (R56). -/
def consume (n : Nat) (s : State) : State := onLink (fun l => { l with consumed := l.consumed + BitVec.ofNat 48 (8 * n) }) s

/-- A non-idle set with agreeing marks: every data position consumes credit; words beyond the grant are discarded and
the open frame is cut there (R56, R57). -/
def takeSet (heads : List LaneCw) (s : State) : State :=
  let ws := setWords heads
  let allowed := serialOpen s.link / 8
  let s := runParser (bufferWords (ws.take allowed) (consume ws.length s))
  if ws.length ≤ allowed then s
  else joinRun 1 0xFFFF (64 * (ws.length - allowed)) (runParser (resyncParser s))

/-- A set whose marks disagree: idle, logged against each lane that marked it non-idle, its positions still counted
(R45). -/
def disagreeSet (heads : List (Nat × LaneCw)) (s : State) : State :=
  let s := consume (setWords (heads.map (·.2))).length s
  heads.foldl (fun s h => if h.2.idle then s else logFec h.1 h.2.index 1 s) s

/-- The eight codewords of a set, those with one index, are there: the set is taken off the lanes and, while data is
received, handled (R45). -/
def takeReadySet (s : State) : State :=
  let order := lanesInOrder s.link
  let heads := order.filterMap fun x => x.2.fifo.head?.map fun h => (x.1, h)
  if heads.length < 8 ∨ (heads.all fun h => some h.2.index == heads.head?.map (·.2.index)) = false then s
  else
    let r := receiving s
    let s := onLanes (fun x => { x with fifo := x.fifo.drop 1 }) s
    if !r || heads.all (fun h => h.2.idle) then s
    else if heads.any (fun h => h.2.idle) then disagreeSet heads s
    else takeSet (heads.map (·.2)) s

/-- Block that checks byte parity on entry to a stage (R18, R28): W stages 1 to 12, F stages 0x81 to 0x8A. -/
def stageBlock (stage : Nat) : Nat :=
  match stage with
  | 1 => 1 | 2 => 3 | 3 => 3 | 4 => 4 | 5 => 5 | 6 => 6 | 7 => 7 | 8 => 8 | 9 => 0xA | 10 => 0xB
  | 0x81 => 8 | 0x86 => 0x14 | 0x87 => 0xB | 0x88 => 0xA | 0x89 => 5 | 0x8A => 1
  | _ => 0x14

end Sys2Proof.Machine
end

