-- ==== Sys2Proof/Machine/HaltOps.lean ====
section
/-! DEFINITION. What the power-loss, thermal-halt and hub-reset sequences share: last words, the halt of everything that
runs, and the flush (R166, R226, R340, R365, R387). -/

namespace Sys2Proof.Machine

/-! ## Last words (R387) -/

/-- A cause record enters LWD_4 to LWD_7. -/
def pushLastWord (code : BitVec 16) (unit : UnitId) (r : Recorder) : Recorder :=
  { r with lwdRecords := ((code, unit) :: r.lwdRecords).take 4 }

/-- LWD_0 to LWD_2 of a cause; with another sequence already running, it is the second cause (R365, R387). -/
def lastCause (code : BitVec 16) (unit : UnitId) (joined : Bool) (s : State) : State :=
  let r := pushLastWord code unit s.evr
  if joined then { s with evr := { r with lwdCause2 := code } }
  else { s with evr := { r with
      lwdCause := code, lwdCause2 := 0, lwdTime := BitVec.ofNat 32 s.clk.us, lwdUnit := unit } }

/-- The end of a sequence: recorder mode and the newest record's number (R387). -/
def writeLastWords (s : State) : State :=
  let mode := match s.evr.mode with
    | .ring => 0
    | .reserve => 1
    | .lastWords => 2
  { s with evr := { s.evr with lwdMode := mode, lwdSeq := if s.evr.next = 0 ∧ s.evr.ring = [] then 0 else s.evr.next - 1 } }

/-! ## Everything stops (R136, R226, R340 step 3, R365 step 3) -/

/-- Every mailbox whose request has no answer is answered. -/
def answerBusy (status : BitVec 16) (s : State) : State :=
  (List.range 16).foldl (fun s m => if (boxOf s m).state = .busy then respond m status [] s else s) s

/-- A request waits at a routine past COMMIT. -/
def pendHalt (c : Context) : Context := { c with request := 2 }

/-- What a halt leaves of a die: class 1 reads dropped, and GC and scrub jobs but those the flush needs; a routine
before COMMIT ended unless the flush needs it; a parked program resumed at once, and a parked erase too, which takes
the halt at its next YIELD; the request pending at any other routine (R225, R226). -/
def haltDie (now : Nat) (d : Die) : Die :=
  let d : Die := { d with queue := d.queue.filter fun j => j.cls == JobClass.program || (j.flushNeeds && j.cls != .hostRead) }
  match d.parked, d.running with
  | some p, _ =>
    let p : Context := { p with startedUs := p.startedUs + (now - d.parkedUs) }
    { d with
      running := some (if p.job.kind = .program then p else pendHalt p), parked := none, suspended := .none, readsServed := 0 }
  | none, none => d
  | none, some c =>
    if c.committed then { d with running := some (pendHalt c) }
    else if c.job.cls == JobClass.program && c.job.flushNeeds then d
    else { d with running := none, queue := if c.job.flushNeeds then c.job :: d.queue else d.queue }

/-- A channel's hold for a patch load ends, and its bus is free unless the routine that holds it goes on. -/
def haltChannel (dies : List Die) (i : Nat) (c : Channel) : Channel :=
  let kept := c.bus.filter fun p => dies.any fun d => d.index == i * 32 + p && d.running.isSome
  { c with state := if c.state == .loading then .running else c.state, bus := kept }

/-- The routines a halt restarts are logged (R225, R231). -/
def logHaltRestarts (s : State) : State :=
  s.med.dies.foldl (fun s d => match d.running with
    | some c =>
      if !c.committed && c.job.flushNeeds && c.job.cls != .program then
        logEvent 0x0505 (dieUnit d.index) (evData [(1, c.job.vector), (1, 3), (2, c.pc), (4, c.job.id.toNat)]) s
      else s
    | none => s) s

/-- A Nutmeg operation the sequence suspends: an erase, and in a thermal halt a program too (R311). -/
def haltNorOp (thermal : Bool) (o : NorOp) : NorOp :=
  if o.kind == .erase || thermal then { o with suspended := true } else o

/-- Steps 2 and 3 of both sequences; a thermal halt in P3 or P4 has no step 2 (R358). -/
def haltAll (thermal : Bool) (status : BitVec 16) (s : State) : State :=
  let s := if thermal && decide (3 ≤ s.pwr.state) then s else sendStatus (haltBundle s)
  let s := answerBusy status s
  let s := completeAll status s
  let s := logHaltRestarts s
  let s := s.med.dies.foldl (fun s d => restContext d.index s) s
  let dies := s.med.dies.map (haltDie s.clk.us)
  { s with
    med := { s.med with
      dies := dies, load := none, toLoad := [], channels := s.med.channels.mapIdx (haltChannel dies) }
    intg := { s.intg with reads := [] }
    nor := { s.nor with opA := s.nor.opA.map (haltNorOp thermal), opB := s.nor.opB.map (haltNorOp thermal) }
    st := { s.st with running := [], waiting := [] }
    hup := { s.hup with run := none, testLow := false }
    life := { s.life with stop := none }
    pwr := { s.pwr with entering := false, state := 0 } }

/-! ## The flush (R147, R166, R340, R365) -/

/-- Fences whose before-writes are all durable count as satisfied. -/
def satisfyReady (s : State) : State :=
  { s with ord := { s.ord with fences := s.ord.fences.filter fun f => !fenceReady s f } }

/-- Rounds of placing and programming, each after the fences that have become satisfied, with the slots of the records
that may follow. -/
def flushRounds : Nat → List Nat → State → State
  | 0, _, s => s
  | k + 1, ws, s => flushRounds k ws (ledgerFlush (programWrites ws (satisfyReady s)))

/-- Given writes are programmed as far as fences and overlaps allow. -/
def flushWrites (ws : List Nat) (s : State) : State :=
  satisfyReady (flushRounds (ws.length + s.ord.fences.length + 1) ws s)

/-- Writes not yet programmed, in acceptance order. -/
def unwritten (s : State) : List Nat := (s.ord.accepted.filter fun w => !w.programmed).map (·.seq)

/-- Writes within the protected limit, or durable by one that was lowered since. -/
def limitWrites (s : State) : List Nat :=
  (s.ord.accepted.filter fun w => !w.programmed && (w.latched || withinLimit s w)).map (·.seq)

/-- The power-loss sequence starts (R340 steps 1 to 3). Cause: 0 PLD_N, 1 RESET_N. -/
def startLoss (cause : Nat) (s : State) : State :=
  let joined := s.life.phase == .haltFlush
  let s := logEvent 0x0A01 (blockUnit 0x26)
    (evData [(4, unwrittenMib s), (2, limitMib s), (1, cause), (1, 0)]) s
  let s := lastCause 0x0A01 (blockUnit 0x26) joined s
  let s := haltAll false stPowerLoss s
  { s with life := { s.life with phase := .lossFlush, lossByReset := cause == 1 } }

/-- The whole flush, run at once by a hub reset: over all accepted writes, since input power is present (R166). -/
def flushEverything (s : State) : State := ledgerFlush (flushWrites (unwritten s) s)

end Sys2Proof.Machine
end

