-- ==== Sys2Proof/Machine/Layout.lean ====
section
/-! DEFINITION. Where data lies and how records are laid out: map and overlay entries (R173, R174), the ledger (R187
to R189), codewords and the randomiser (R182, R232, R233), stripe parity (R244), the address map of the buffer DRAM
(R263). The states hold data before these steps; the functions say what the media hold. -/

namespace Sys2Proof.Machine

/-! ## Map and overlay entries (R173, R174) -/

/-- The 8-byte segment map entry (R173). -/
def segWord (e : SegEntry) : Nat :=
  (if e.mapped then e.sb * 2 ^ 47 + e.off * 2 ^ 27 + 2 ^ 26 else 0) +
    (if e.overlaid then 2 ^ 25 + e.ovlNumber else 0) + flag e.foldPending * 2 ^ 24

/-- Buckets an overlay entry sits after its home bucket (R174). -/
def displacement (e : OvlEntry) : Nat := (e.bucket + 2 ^ 28 - overlayHash e.ovlNumber e.unit % 2 ^ 28) % 2 ^ 28

/-- The 8-byte overlay entry (R174). -/
def overlayWord (e : OvlEntry) : Nat :=
  e.sb * 2 ^ 47 + e.off * 2 ^ 27 + overlayHash e.ovlNumber e.unit / 2 ^ 28 * 2 ^ 23 + displacement e * 2 ^ 17 + 2 ^ 16 +
    flag e.foldMark * 2 ^ 15

/-- The 8-byte entry of the overlay segment table for a segment that holds overlay entries (R174). -/
def overlaySegment (s : State) (e : SegEntry) : List Byte :=
  packBytes [(4, e.seg), (2, s.map.overlay.countP fun x => x.ovlNumber == e.ovlNumber), (2, 0)]

/-! ## The ledger (R186 to R189) -/

/-- Code of a superblock's state (R186). -/
def stateCode : SbState → Nat
  | .erased => 0 | .dirty => 1 | .granted => 2 | .closed => 3 | .retired => 4 | .absent => 5

/-- The 24-byte superblock entry of the base image (R187). -/
def superblockEntry (b : Superblock) : List Byte :=
  packBytes [(1, stateCode b.state), (1, flag b.noSummary + 2 * flag b.blankPending + 4 * flag b.overlay),
    (2, b.summaryLength), (4, b.summaryStart), (4, b.eraseCount), (4, b.grantUtc), (8, b.closeStamp)]

/-- Type code and sequence number of a slot (R189). -/
def slotHead : Slot → Nat × Nat
  | .grant seq _ _ _ => (0x01, seq)
  | .close stamp _ _ _ _ => (0x02, stamp)
  | .dirty _ => (0x03, 0)
  | .erased _ _ => (0x04, 0)
  | .retire _ _ => (0x05, 0)
  | .remap _ _ _ => (0x06, 0)
  | .seqBlock top => (0x07, top)
  | .deallocate seq _ _ _ => (0x08, seq)
  | .secureDiscard seq _ _ _ _ => (0x09, seq)
  | .namespace_ seq _ _ _ _ _ _ => (0x0A, seq)
  | .clean seq => (0x0B, seq)

/-- The body of a slot, from offset 16 (R189). DESIGN CHOICE, log entry 175: the LBA format stands in bits 3:0 and the
PI type in bits 7:4 of their shared byte. -/
def slotBody : Slot → List Byte
  | .grant _ sb standby utc => packBytes [(4, sb), (1, flag standby), (3, 0), (8, utc)]
  | .close _ sb start len noSummary => packBytes [(4, sb), (4, start), (2, len), (1, flag noSummary)]
  | .dirty sb => packBytes [(4, sb)]
  | .erased sb count => packBytes [(4, sb), (4, count)]
  | .retire sb die => packBytes [(4, sb), (2, die)]
  | .remap die pos block => packBytes [(2, die), (2, pos), (2, block)]
  | .seqBlock _ => []
  | .deallocate _ ns first count => packBytes [(1, ns), (3, 0), (4, first), (4, count)]
  | .secureDiscard _ ns handle lba len => packBytes [(1, ns), (3, 0), (4, handle.toNat), (8, lba), (8, len)]
  | .namespace_ _ ns action base size fmt pi =>
    packBytes [(1, ns), (1, action), (2, 0), (4, base), (4, size), (1, fmt % 16 + 16 * pi)]
  | .clean _ => []

/-- The 64 bytes of a journal slot with its slot number (R189). -/
def slotBytes (number : Nat) (x : Slot) : List Byte :=
  let front := packBytes [(1, (slotHead x).1), (1, 0), (2, 0), (4, number), (8, (slotHead x).2)] ++ padTo 44 (slotBody x)
  front ++ leBytes 4 (crc32c front)

/-- A 16 KiB journal page: its 64-byte header and 255 slots (R188). DESIGN CHOICE, log entry 175: the header's fields
lie in the order of the rule, the CRC over the 12 bytes before it; slots are numbered through the pages of a journal;
an unused slot is zeros. -/
def journalPage (compaction page copy : Nat) (slots : List Slot) : List Byte :=
  let front := packBytes [(4, compaction), (4, page), (4, copy)]
  padTo 16384 (padTo 64 (front ++ leBytes 4 (crc32c front)) ++
    (slots.take 255).zipIdx.flatMap fun x => slotBytes (255 * page + x.2) x.1)

/-! ## Codewords (R182, R232) -/

/-- The 32 bytes of spare-area metadata of a unit (R182). -/
def metadataBytes (u : FlashUnit) : List Byte :=
  packBytes [(8, u.seq), (5, u.lba), (1, (u.ns - 1) % 64), (2, u.source.toNat), (1, u.relocation.toNat), (2, u.part - 1),
    (1, kindCode u.kind + 0x10), (4, u.content.guard.toNat), (8, u.content.pi.toNat)]

/-- The unit data a die holds: ciphertext under the key it was written with, LBA as tweak; none where that key is
gone; pad and summary units belong to no namespace and are stored as they are (R182, R232, R392; DEDUCED, log entry
180). -/
def storedUnit (s : State) (u : FlashUnit) : Option UnitData :=
  if u.kind = .pad ∨ u.kind = .summary then some u.content.data
  else (s.sec.keys.find? fun k => k.ns == u.ns && k.present && k.generation == u.keyGen).map fun k =>
    encryptUnit k.value u.lba u.content.data

/-- The 4,608 bytes of a codeword: unit data as stored, metadata, LDPC parity over both (R232). The code's matrix is not
published (R235), so its parity is a constant without a value. -/
def codewordBytes (stored : UnitData) (u : FlashUnit) : List Byte :=
  let payload := unitBytes stored ++ metadataBytes u
  payload ++ leBytes 480 (Config.ldpcParity (BitVec.ofNat 33024 (leNat payload))).toNat

/-- Where codeword `k` of a page starts (R232). -/
def codewordStart (k : Nat) : Nat := 4608 * k

/-! ## Randomiser (R233) -/

/-- Page index within a block: 3 × word line and 0, 1 or 2 for the lower, middle or upper page. -/
def pageIndex (wordLine page : Nat) : Nat := 3 * wordLine + page

/-- Seed of a codeword by physical block, page index, plane and codeword number. -/
def randomiserSeed (block page plane k : Nat) : Nat := ((block * 1536 + page) * 16 + 4 * plane + k) % (2 ^ 23 - 1) + 1

/-- The physical block a die's position is at: its remap entry, else the die's own first mapping (R170, R233). -/
def physicalBlock (s : State) (die pos : Nat) : Nat :=
  match s.map.remaps.find? fun r => r.1 == die && r.2.1 == pos with
  | some r => r.2.2
  | none => Config.physicalBlock die pos

/-- Seed of a unit's codeword by where it lies (R171, R233). -/
def unitSeed (s : State) (b : Superblock) (off : Nat) : Nat :=
  randomiserSeed (physicalBlock s (dieOf b off) (positionOf b.number)) (pageIndex (rowOf b off) (pageOf b off))
    (planeOf b off) (codewordOf b off)

/-- One step of the PRBS23 register, x^23 + x^18 + 1: the bit sent and the register after it (DESIGN CHOICE, log entry
13: which end of the register gives the bit). -/
def prbs23Step (r : BitVec 23) : Bool × BitVec 23 :=
  let b := r.getLsbD 22 != r.getLsbD 17
  (b, (r <<< 1) ||| (if b then 1 else 0))

/-- The first bits of the sequence from a seed. -/
def prbs23 : Nat → BitVec 23 → List Bool
  | 0, _ => []
  | n + 1, r => (prbs23Step r).1 :: prbs23 n (prbs23Step r).2

/-- A byte of the sequence from its eight bits, the first one lowest. -/
def byteOfBits (bs : List Bool) : Byte := BitVec.ofNat 8 (bs.foldr (fun b acc => flag b + 2 * acc) 0)

/-- The sequence's bytes. -/
def prbsBytes : Nat → List Bool → List Byte
  | 0, _ => []
  | n + 1, bs => byteOfBits (bs.take 8) :: prbsBytes n (bs.drop 8)

/-- A codeword's bytes XORed with the sequence of a seed, which also undoes it. -/
def randomise (seed : Nat) (bytes : List Byte) : List Byte :=
  List.zipWith (· ^^^ ·) bytes (prbsBytes bytes.length (prbs23 (8 * bytes.length) (BitVec.ofNat 23 seed)))

/-! ## Nutmeg (R313, R314) -/

/-- Header of a configuration store copy: magic, generation, length, CRC of the data, header CRC (R313). -/
def configHeader (generation : Nat) (data : List Byte) : List Byte :=
  let front := packBytes [(4, 0x43464753), (4, generation), (4, data.length)] ++ leBytes 4 (crc32c data)
  front ++ leBytes 4 (crc32c front) ++ List.replicate 12 0

/-- Bits burned of a counter of `n` fuse bits, the lowest first (R314). -/
def fuses (n burned : Nat) : Nat := 2 ^ min n burned - 1

/-- The OTP row: its fields, then a bit-for-bit mirror; the bytes of wide fields go from the lowest up, and a counter
burns its bits from bit 0 (R314; log entry 182). -/
def otpRow (o : Otp) : List Byte :=
  let front := packBytes [(16, o.uid.toNat), (32, o.seed.toNat), (48, o.hash0.toNat), (48, o.hash1.toNat),
    (48, o.integratorHash.toNat), (4, flag o.integrator + 2 * flag o.revoked), (4, fuses 32 o.debugOpen),
    (8, fuses 64 o.antiRollback), (1840, 0)]
  front ++ front

/-! ## Stripe parity (R244, R245) -/

/-- The parity payload of the data members' payloads, position by position. -/
def parityOf (payloads : List (BitVec 33024)) : BitVec 33024 := payloads.foldl (· ^^^ ·) 0

/-- The payload a rebuild gives from the other members' and the parity member's. -/
def rebuildPayload (others : List (BitVec 33024)) (parity : BitVec 33024) : BitVec 33024 := parityOf others ^^^ parity

/-! ## Buffer DRAM (R263) -/

/-- Where a usable address lies: channel, bank group, bank, rank, data block within the rank's bank, byte of the
block. -/
structure DramPlace where
  channel : Nat
  group : Nat
  bank : Nat
  rank : Nat
  block : Nat
  byte : Nat
deriving DecidableEq, Repr

/-- R263: blocks of 448 bytes go round the channels, and on each over bank groups, banks and ranks. -/
def dramPlace (u : Nat) : DramPlace where
  channel := u / 448 % 16
  group := u / 448 / 16 % 4
  bank := u / 448 / 64 % 4
  rank := u / 448 / 256 % 2
  block := u / 448 / 512
  byte := u % 448

/-- A bank's place in the rotation of R263: bank groups first, then banks, then ranks. -/
def bankTurn (rank bank : Nat) : Nat := 16 * rank + 4 * (bank % 4) + bank / 4

/-- Check of 64 bytes of data at an address: symbols, tag, two zero bytes (R261). -/
def burstCheck (channel rank bank row column : Nat) (data : BitVec 512) : Word64 :=
  0#16 ++ Config.addressTag channel rank bank row column ++ Config.burstSymbols data

/-- The check burst of a group of eight: the checks of data bursts 0 to 6, then its own over them (R261). -/
def checkBurst (channel rank bank row group : Nat) (data : List (BitVec 512)) : BitVec 512 :=
  let checks := (List.range 7).foldr (fun i (acc : BitVec 512) =>
    acc <<< 64 ||| (burstCheck channel rank bank row (8 * group + i) (data.getD i 0)).zeroExtend 512) (0 : BitVec 512)
  checks ||| (burstCheck channel rank bank row (8 * group + 7) checks).zeroExtend 512 <<< 448

/-- Sizes in MiB of the regions of usable DRAM by the GiB fitted: segment map, overlay, write buffer, read and GC
staging, tables, firmware, reserve (R264). -/
def dramRegions (gib : Nat) : List Nat :=
  if gib = 32 then [1820, 2048, 16384, 4096, 1024, 1024, 2276]
  else if gib = 64 then [1820, 2048, 40960, 4096, 1024, 1024, 6372]
  else []

/-- The largest run of passing taps among the first n: its first tap and its length (R269). -/
def passWindow (n : Nat) (taps : BitVec 128) : Nat × Nat :=
  let (best, _) := (List.range n).foldl (fun (acc : (Nat × Nat) × Nat) t =>
    let run := if taps.getLsbD t then acc.2 + 1 else 0
    (if acc.1.2 < run then (t + 1 - run, run) else acc.1, run)) ((0, 0), 0)
  best

/-- The narrower pass window of a byte lane's two sweeps (R269, R270). -/
def laneWindow (n : Nat) (w : LaneSweep) : Nat := min (passWindow n w.read).2 (passWindow n w.write).2

/-- The centre of a pass window (R269). -/
def windowCentre (w : Nat × Nat) : Nat := w.1 + w.2 / 2

end Sys2Proof.Machine
end

