-- ==== Sys2Proof/Machine/RebuildOps.lean ====
section
/-! DEFINITION. Granting superblocks, moving ledger copies, and rebuilding the map from flash (R32, R176, R188, R191 to
R193, R198, R375). -/

namespace Sys2Proof.Machine

/-! ## Grants (R32, R176, R197, R198, R375) -/

/-- Superblocks of a stripe group that are granted and still take data. -/
def openIn (s : State) (g : Nat) : List Superblock :=
  s.map.sbs.filter fun b => groupOf b.number == g && b.state == .granted && !closing b

/-- The ERASED superblock of a group with the lowest erase count (R197); of equal ones the lowest number. -/
def nextErased (s : State) (g : Nat) : Option Superblock :=
  (s.map.sbs.filter fun b => groupOf b.number == g && b.state == .erased).foldl (fun o b => match o with
    | none => some b
    | some x => if b.eraseCount < x.eraseCount ∨ (b.eraseCount = x.eraseCount ∧ b.number < x.number) then some b
        else some x) none

/-- Members a superblock granted now leaves out (R375). -/
def membersOut (s : State) (g : Nat) : List Nat := (List.range 32).filter fun c => dieOut s (c * 32 + g)

/-- What a check of a superblock finds half-erased: more than 64 bits of a page read as 0 (R198). -/
def halfErasedOf (n : Nat) (found : List BlankFound) : List BlankFound :=
  found.filter fun f => f.superblock == n && decide (64 < f.zeros)

/-- The blank check before the first program: each half-erased block is logged and erased again (R198). -/
def blankCheck (n : Nat) (found : List BlankFound) (s : State) : State :=
  if (findSb s n).any (·.blankPending) then
    let bad := halfErasedOf n found
    let s := bad.foldl (fun s f => logEvent 0x0404 (dieUnit (f.channel.val * 32 + groupOf n))
      (evData [(4, n), (2, positionOf n), (2, sat 16 f.zeros)]) s) s
    let again (b : Superblock) : Superblock := countErases (fun c => bad.any fun f => f.channel.val == c) b
    let s := updateSb n (fun b => { again b with blankPending := false }) s
    match findSb s n with
    | some b => if bad.isEmpty then s else appendSlot (.erased n b.eraseCount) s
    | none => s
  else s

/-- A superblock of a group is granted: active when the group has none, else standby; it is usable once its GRANT slot
is durable (R32, R176, R188, R189). -/
def grantSb (g : Nat) (halfErased : List BlankFound) (s : State) : State :=
  if 2 ≤ (openIn s g).length ∨ 9 ≤ (membersOut s g).length then s
  else
    match nextErased s g with
    | none => s
    | some b =>
      let n := b.number
      let s := blankCheck n halfErased s
      let standby := (openIn s g).any (·.active)
      let out := membersOut s g
      let utc := s.clk.utc.getD 0
      let s := updateSb n (fun b => { b with
        state := .granted, active := !standby, usable := false, leftOut := out, grantUtc := utcSeconds s.clk.utc }) s
      updateGc (appendSlot (.grant (lastIssued s) n standby utc) s)

/-! ## Ledger copies (R188) -/

/-- The channel a replacement copy goes to: the lowest in service on a Mace die that holds no other copy (R188). -/
def copySite (s : State) (i : Nat) : Option Nat :=
  let others := (s.map.copies.zipIdx.filter fun x => x.2 != i).map fun x => maceOf x.1.channel
  (List.range 32).find? fun c => !dieOut s (c * 32) && !others.contains (maceOf c) &&
    s.map.copies[i]?.map (·.channel) != some c

/-- A ledger copy is rebuilt at a new site, and LEDGER_COPY_BAD logged (R188, R388). -/
def rebuildCopy (i : Nat) (s : State) : State :=
  match copySite s i with
  | none => s
  | some c =>
    let s := { s with map := { s.map with copies := s.map.copies.set i ⟨c, 0, []⟩ } }
    logEvent 0x0405 (dieUnit (c * 32)) (evData [(1, i), (1, 2), (1, c), (1, 0), (4, s.map.compaction)]) s

/-- Copies whose die has been fenced move (R188, R378). -/
def moveCopies (s : State) : State :=
  s.map.copies.zipIdx.foldl (fun s x => if dieOut s (x.1.channel * 32) then rebuildCopy x.2 s else s) s

/-! ## What the rebuild reads (R157, R191) -/

/-- A superblock whose codewords are scanned: open, closed with no summary, or with a summary that cannot be read (R191,
R256). -/
def isScanned (bad : List Nat) (b : Superblock) : Bool :=
  b.state == .granted || (b.state == .closed && (b.noSummary || bad.contains b.number))

/-- Units on flash: those of the rows programmed whole, and of a superblock that takes no more, all that was found of it
(R191, R201). -/
def flashUnits (b : Superblock) : List FlashUnit :=
  b.units.filter fun u => b.state == .closed || b.rowsDone.contains (rowOf b u.off)

/-- Units of the same write part: one sequence number, one 2 MiB unit. -/
def samePart (u v : FlashUnit) : Bool :=
  u.seq == v.seq && u.ns == v.ns && u.lba / 512 == v.lba / 512 && u.kind == v.kind && u.relocation == v.relocation

/-- All units of the part are there. -/
def partFound (us : List FlashUnit) (u : FlashUnit) : Bool := (us.filter (samePart u)).length == u.part

/-- The units a superblock offers: not pad, not summary; of a scanned one, those of whole parts (R191). -/
def offered (bad : List Nat) (b : Superblock) : List FlashUnit :=
  let us := (flashUnits b).filter fun u => u.kind != .pad && u.kind != .summary
  if isScanned bad b then us.filter (partFound us) else us

/-- Parts a superblock's scan drops. -/
def droppedParts (bad : List Nat) (b : Superblock) : Nat :=
  let us := (flashUnits b).filter fun u => u.kind != .pad && u.kind != .summary
  if isScanned bad b then
    (us.foldl (fun (acc : List FlashUnit) u =>
      if partFound us u || acc.any (samePart u) then acc else u :: acc) []).length
  else 0

/-- Units that follow on in place and LBA, gathered into runs, the last first. -/
def offerRuns (us : List FlashUnit) : List (List FlashUnit) :=
  (us.foldl (fun gs u => match gs with
    | [] => [[u]]
    | g :: rest => match g with
      | [] => [u] :: rest
      | v :: _ => if samePart v u && u.lba == v.lba + 1 && u.off == v.off + 1 then (u :: g) :: rest
          else [u] :: g :: rest) []).map List.reverse

/-! ## Deciding between candidates (R192) -/

/-- Rank of a superblock among candidates of one sequence number: an open one counts as highest. -/
def closeRank (s : State) (n : Nat) : Nat :=
  match findSb s n with
  | some b => if b.state == .granted then 2 ^ 64 else b.closeStamp
  | none => 0

/-- Relocation generation of the unit at a place. -/
def relocationAt (s : State) (sb off : Nat) : BitVec 8 :=
  match (findSb s sb).bind fun b => unitAt b off with
  | some u => u.relocation
  | none => 0

/-- A candidate is newer than what stands: sequence number, close stamp, relocation generation modulo 256 (R192). -/
def newer (s : State) (seq sb off : Nat) (oldSeq oldSb oldOff : Nat) : Bool :=
  if seq ≠ oldSeq then decide (oldSeq < seq)
  else if closeRank s sb ≠ closeRank s oldSb then decide (closeRank s oldSb < closeRank s sb)
  else
    let d := relocationAt s sb off - relocationAt s oldSb oldOff
    d != 0 && decide (d.toNat < 128)

/-- A whole segment is offered. -/
def offerSegment (seg sb off seq : Nat) (s : State) : State :=
  let e := segEntry s seg
  if newer s seq sb off e.seq e.sb e.off then putSeg { e with sb := sb, off := off, mapped := true, seq := seq } s
  else s

/-- A single unit is offered. -/
def offerUnit (seg i sb off seq : Nat) (s : State) : State :=
  let e := segEntry s seg
  let old := if e.overlaid then overlayEntry s e.ovlNumber i else none
  let better := match old with
    | some o => newer s seq sb off o.seq o.sb o.off
    | none => true
  if better then (putOverlay seg i sb off seq s).getD s else s

/-- A run of a superblock is offered: its whole aligned segments, then its other units (R191). -/
def offerRun (sb : Nat) (us : List FlashUnit) (s : State) : State :=
  match us.head? with
  | none => s
  | some f =>
    match findNs s f.ns with
    | none => s
    | some n =>
      if f.seq < n.epoch ∨ n.size * 256 < f.lba + us.length then s
      else
        let whole := wholeSegments f.lba us.length
        let s := whole.foldl (fun s k => offerSegment (segIndex n (f.lba + k)) sb (f.off + k) f.seq s) s
        (singleUnits f.lba us.length).foldl (fun s k =>
          offerUnit (segIndex n (f.lba + k)) ((f.lba + k) % 256) sb (f.off + k) f.seq s) s

/-! ## Records and the sweep (R192) -/

/-- A deallocate slot unmaps each named segment mapped by something older. -/
def applyDeallocate (q ns first count : Nat) (s : State) : State :=
  match findNs s ns with
  | none => s
  | some n =>
    if q < n.epoch then s
    else (List.range count).foldl (fun s i =>
      let e := segEntry s (n.base + first + i)
      if e.seq < q then putSeg { e with sb := 0, off := 0, mapped := false, seq := q } s else s) s

/-- A secure discard slot puts a zero entry on each unit of its range that holds something older. -/
def applyDiscard (q ns lba len : Nat) (s : State) : State :=
  match findNs s ns with
  | none => s
  | some n =>
    if q < n.epoch then s
    else (List.range len).foldl (fun s k =>
      offerUnit (segIndex n (lba + k)) ((lba + k) % 256) zeroSb 0 (q + ((lba + k) / 256 - lba / 256)) s) s

/-- The record of a slot is applied. -/
def applyRecord (s : State) (x : Slot) : State :=
  match x with
  | .deallocate q ns first count => applyDeallocate q ns first count s
  | .secureDiscard q ns _ lba len => applyDiscard q ns lba len s
  | _ => s

/-- Overlay entries not newer than their segment's mapping are dropped. -/
def sweepOverlay (s : State) : State :=
  s.map.segments.foldl (fun s e => dropOverlay e.seg (fun o => decide (o.seq ≤ e.seq)) s) s

/-- The rebuild of R191, and of R201 for what a power loss leaves, over what flash holds, on top of what writes
accepted since the start have mapped. `bad` names superblocks whose summary cannot be read (R256). -/
def rebuildMap (bad : List Nat) (s : State) : State :=
  let read := s.map.sbs.filter fun b => b.state == .closed || b.state == .granted
  let s := read.foldl (fun s b => (offerRuns (offered bad b)).foldl (fun s r => offerRun b.number r s) s) s
  let s := s.map.slots.foldl applyRecord s
  let s := sweepOverlay s
  { s with map := { s.map with
    scanned := s.map.scanned + (read.countP fun b => isScanned bad b && !isScanned [] b)
    partsDropped := (read.map (droppedParts bad)).sum } }

end Sys2Proof.Machine
end

