-- ==== Sys2Proof/Machine/StartOps.lean ====
section
/-! DEFINITION. Resets and the start-up sequence: what each reset keeps, the steps of R347 up to capture-ready, and the
hub reset (R166, R343 to R354). -/

namespace Sys2Proof.Machine

/-- The resets that run the start-up sequence (R344): supplies rose, RESET_N was released with the supplies present or
an activation left the recovery state, or a hub reset. -/
inductive StartKind where
  | fresh | resetN | hub
deriving DecidableEq, Repr

/-! ## What a reset keeps (R344, R413) -/

/-- UTC µs of a time in seconds since 2000-01-01; none where it is unknown. -/
def utcOfSeconds (t : Nat) : Option Nat := if t = 0 then none else some ((t + epoch2000) * 1000000)

/-- What a start knows of a superblock's first program: its summary, else the time of its grant; no record keeps the
temperature of one without a summary, a free value (R239). -/
def knownFirst (bySummary : Bool) (pick : Nat) (b : Superblock) : Superblock :=
  if bySummary then { b with firstUs := none, firstUtc := utcOfSeconds (utcSeconds b.firstUtc) }
  else { b with
    firstUs := none, firstUtc := utcOfSeconds b.grantUtc
    firstTemps := (List.range 32).map fun c => (Config.programTemp (32 * pick + c)).toInt }

/-- Of the program units sent and not known programmed, those up to the first blank one in offset order are found; how
many that is is a free value (R191, R201). -/
def foundRows (b : Superblock) (pick : Nat) : Superblock :=
  let low := b.rowsDone.length * rowUnits b
  let sent := (b.rowsSent.length - b.rowsDone.length) * (rowUnits b / programUnit)
  let found := low + pick % (sent + 1) * programUnit
  let rows := List.range (found / rowUnits b)
  { b with
    rowsSent := rows, rowsDone := rows, fill := min b.fill found
    units := b.units.filter fun u => decide (u.off < found)
    reads := [], openedUs := 0 }

/-- What flash and the ledger's media hold outlives every reset; the map, which DRAM held, does not (R344, R347). -/
def keepFlash (s : State) : State :=
  let s := s.map.sbs.foldl (fun s b =>
    if b.state == .granted || b.state == .closed then
      drawn (updateSb b.number (fun b => knownFirst (b.state == .closed && !b.noSummary) s.free (foundRows b (Config.choice s.free))) s)
    else s) s
  { s with map := { s.map with
    segments := [], overlay := [], overlayFull := false, gcGroups := [], moves := [], staticMoves := [], mapLost := []
    nextGroup := 0, partsDropped := 0, scanned := 0 } }

/-- The clocks after a reset: a hub reset keeps Cardamom whole, RESET_N its real-time counter (R344). -/
def keptClock (k : StartKind) (c : Clock) : Clock :=
  match k with
  | .hub => c
  | .resetN => { Clock.reset with rtc := c.rtc, rtcFrac := c.rtcFrac }
  | .fresh => Clock.reset

/-- The number the next record takes (R380). -/
def resumeNumber (r : Recorder) : Word32 :=
  match r.log.head? with
  | some x => x.seq + 1
  | none => 0

/-- The recorder after a reset: tiers 1 and 2 stay, the last-words registers stay but at a power-up, records still in
the FIFO at a hub reset are held until they have numbers (R380, R387). -/
def keptRecorder (k : StartKind) (r : Recorder) : Recorder :=
  let n := resumeNumber r
  let base : Recorder := { Recorder.reset with log := r.log, history := r.history, next := n, copied := n, paged := n }
  let base := if k = .hub then { base with fifo := r.fifo } else base
  if k = .fresh then base
  else { base with
    lwdCause := r.lwdCause, lwdCause2 := r.lwdCause2, lwdTime := r.lwdTime, lwdHubResets := r.lwdHubResets
    lwdMode := r.lwdMode, lwdUnit := r.lwdUnit, lwdSeq := r.lwdSeq, lwdRecords := r.lwdRecords }

/-- Nutmeg's contents outlive every reset; its registers and running operations do not (R307, R317). -/
def keptNor (n : Nor) : Nor :=
  { Nor.reset with
    boot0 := n.boot0, boot1 := n.boot1, slotA := n.slotA, slotB := n.slotB, flags := n.flags
    config0 := n.config0, config1 := n.config1, otp := n.otp, made := n.made }

/-- The NVMe controller after a reset: the namespace table, an unfinished Sanitize and the counts of SMART stay
(R116, R353). -/
def keptNvme (n : Nvme) : Nvme :=
  { Nvme.reset with
    namespaces := n.namespaces, sanitize := n.sanitize, sanitized := n.sanitized, formatSes := n.formatSes, bytesRead := n.bytesRead
    bytesWritten := n.bytesWritten, mediaErrors := n.mediaErrors, errors := n.errors, warnMs := n.warnMs
    critMs := n.critMs, hostReads := n.hostReads, hostWrites := n.hostWrites }

/-- The state as a reset of a kind leaves it, before step 1 or 2 of R347. -/
def resetBase (k : StartKind) (s : State) : State :=
  let s := keepFlash s
  let hub := k == .hub
  { State.reset with
    pending := s.pending, out := s.out, free := s.free, board := s.board
    life := { Life.reset with
      phase := .service, resetN := true, pldN := s.life.pldN, perstN := s.life.perstN
      powerUps := if hub then s.life.powerUps else s.life.powerUps + 1
      poweredUs := if hub then s.life.poweredUs else s.life.poweredUs + s.clk.us
      uncleanShutdowns := s.life.uncleanShutdowns
      runBlockFaults := if k = .fresh then [] else s.life.runBlockFaults }
    clk := keptClock k s.clk
    evr := keptRecorder k s.evr
    nor := keptNor s.nor
    nv := keptNvme s.nv
    map := s.map
    thm := { Thermal.reset with sensors := List.replicate 24 Sensor.reset }
    st := if hub then { SelfTests.reset with transients := s.st.transients } else SelfTests.reset
    sec := { Security.reset with
      port := s.sec.port
      tapActive := s.sec.tapActive
      discards := s.sec.discards.map fun d => { d with handle := 0, folded := false, erased := 0, moved := 0 }
      drbgOn := hub && s.sec.drbgOn, drbgRequests := if hub then s.sec.drbgRequests else 0
      drbg := if hub then s.sec.drbg else ⟨0, 0⟩ } }

/-! ## The recovery state (R349) -/

/-- Start-up stops in the recovery state: CFS 1, RDY 0, execute-only regions in force, the cause in the last-words
registers (R298, R349). -/
def enterRecovery (code : BitVec 16) (unit : UnitId) (s : State) : State :=
  let s := lastCause code unit false s
  let s := { s with life := { s.life with phase := .recovery }, nv := { s.nv with cfs := true, rdy := false } }
  writeLastWords { s with nor := { s.nor with xo := true } }

/-- A step of the sequence runs while nothing has stopped it. -/
def startStep (f : State → State) (s : State) : State := if s.life.phase = .service then f s else s

/-! ## Steps 1 to 4: PLLs, OTP row, Nutmeg, boot stage -/

/-- PLLs whose failure escalates to a hub reset (R322). -/
def corePll (p : Nat) : Bool := p == 0 || p == 1 || p == 5

/-- PLLs that fail to lock twice: of PLL0, PLL1 and PLL5 the start repeats until the third hub reset of the run stops
it; any other is a fault of Cardamom (R322, R346). -/
def startPlls (b : Board) (s : State) : State :=
  let bad := BitVec.ofNat 8 ((b.pllFail.map (·.val)).eraseDups.foldl (fun acc p => acc + 2 ^ p) 0)
  let s := { s with pwr := { s.pwr with pllBad := bad, pllFail := bad } }
  let u := blockUnit 0x26
  if b.pllFail.any fun p => corePll p.val then
    enterRecovery 0 u { s with evr := { s.evr with lwdHubResets := 3 } }
  else if b.pllFail.isEmpty then s
  else startTest u 0 s

/-- What manufacture put into the part, taken at its first start (R297, R314). -/
def installFactory (f : Factory) (s : State) : State :=
  if s.nor.made then s
  else
    let c := { ConfigStore.reset with valid := true, generation := 1, i3cPid := f.i3cPid }
    { s with
      nor := { s.nor with
        made := true, boot0 := f.boot, boot1 := f.boot, slotA := f.slotA, config0 := c
        otp := { Otp.reset with uid := f.uid, seed := f.seed, hash0 := f.hash0, hash1 := f.hash1 } }
      sec := { s.sec with port := if f.hash0 = 0 then .manufacture else .field } }

/-- Step 3: the OTP row, the debug port and the flag scan (R311, R315, R403). -/
def readOtp (b : Board) (s : State) : State :=
  if b.otpBad then enterRecovery 0x0C03 (blockUnit 0x24) (authFail 4 3 0 0 s)
  else
    let port := if s.nor.otp.hash0 = 0 then DebugPort.manufacture else .field
    let s := { s with sec := { s.sec with port := if s.sec.port = DebugPort.opened then DebugPort.opened else port } }
    scanFlags { s with reg := { s.reg with uid := s.nor.otp.uid } }

/-- The image of a boot-stage copy. -/
def bootImage (s : State) (k : Nat) : Option FwImage := if k = 0 then s.nor.boot0 else s.nor.boot1

/-- Why a boot-stage copy fails its verification, if it does (R298, R397). -/
def bootFault (s : State) (k : Nat) : Option Nat :=
  match bootImage s k with
  | none => some 0
  | some i => if i.type = 1 then imageFault s i else some 0

/-- Version a failed image names. -/
def versionOf (i : Option FwImage) : Nat := (i.map (·.version)).getD 0

/-- Step 4: copy 0, then copy 1 (R298). -/
def bootStage (s : State) : State :=
  match bootFault s 0 with
  | none => { s with nor := { s.nor with boot0Valid := true }, reg := { s.reg with bootCopy := 0 } }
  | some c =>
    let s := authFail 0 c 0 (versionOf s.nor.boot0) s
    match bootFault s 1 with
    | none => { s with nor := { s.nor with boot1Valid := true }, reg := { s.reg with bootCopy := 1 } }
    | some c => enterRecovery 0x0C03 (blockUnit 0x24) (authFail 0 c 1 (versionOf s.nor.boot1) s)

/-! ## Step 5: DRAM and UCIe (R19, R260, R269 to R271) -/

/-- DRAM_RETRAIN (R388). -/
def logRetrain (sev : Nat) (unit : UnitId) (cause lane window rate : Nat) (drift : Int) (s : State) : State :=
  logSev 0x0704 sev unit (evData [(1, cause), (1, lane), (1, window), (1, rate), (1, signed 8 drift), (3, 0)]) s

/-- The first lane whose pass window is below a number of taps. -/
def narrowLane (ws : List Nat) (least : Nat) : Option (Nat × Nat) :=
  (ws.zipIdx.find? fun x => decide (x.1 < least)).map fun x => (x.2, x.1)

/-- Every channel runs with the delays and windows its sweeps gave at a rate (R269, R279). -/
def dramRuns (rate gib : Nat) (sweeps : List LaneSweep) (s : State) : State :=
  let ws := sweeps.map (laneWindow 128)
  let centred (l : Nat) : DramLane :=
    let w := sweeps.getD l ⟨0, 0⟩
    ⟨windowCentre (passWindow 128 w.read), windowCentre (passWindow 128 w.write)⟩
  { s with
    dram := { s.dram with
      rate := rate, capacity := if gib = 32 then 1 else 2
      channels := s.dram.channels.mapIdx fun d c => { c with
        state := .active, window := min (ws.getD (2 * d) 0) (ws.getD (2 * d + 1) 0), centredAt := s.thm.temp / 10
        lanes := [centred (2 * d), centred (2 * d + 1)] } }
    reg := { s.reg with dramGib := gib } }

/-- DRAM is trained at 9,600 MT/s, or at 8,533 MT/s when any lane fails; unsupported or failing DRAM stops start-up
(R260, R270, R271). -/
def trainDram (b : Board) (s : State) : State :=
  let u := dramUnit 0
  if b.dramMatched = false ∨ (b.dramGib ≠ 32 ∧ b.dramGib ≠ 64) then
    enterRecovery 0x0704 u (logRetrain 5 u 6 0xFF 0 2 0 s)
  else
    match narrowLane (b.sweeps9600.map (laneWindow 128)) 26 with
    | none => dramRuns 0 b.dramGib b.sweeps9600 s
    | some (lane, w) =>
      let s := logRetrain 3 (dramUnit (lane / 2)) 1 lane w 1 0 s
      match narrowLane (b.sweeps8533.map (laneWindow 128)) 29 with
      | none => dramRuns 1 b.dramGib b.sweeps8533 s
      | some (lane, w) =>
        let u := dramUnit (lane / 2)
        enterRecovery 0x0704 u (logRetrain 5 u 0 lane w 3 0 { s with dram := { s.dram with rate := 3 } })

/-- A stripe group loses its ninth die: every die of the group is fenced (R375). -/
def fenceGroup (g : Nat) (s : State) : State :=
  if 9 ≤ (membersOut s g).length then
    (List.range 32).foldl (fun s c => fenceUnit (dieUnit (c * 32 + g)) s) s
  else s

/-- The fenced list of the configuration store is in force from the start (R374). -/
def loadFenced (s : State) : State :=
  { s with st := { s.st with fenced := (config s).fenced.map fun u => (u, s.clk.us) } }

/-- Mace dies whose link fails to train twice are fenced (R19, R348). -/
def trainUcie (b : Board) (s : State) : State :=
  b.ucieFail.foldl (fun s m => if isFenced s (maceUnit m.val) then s else fenceLasting (maceUnit m.val) 0 4 s) s

/-! ## Steps 6 and 7: firmware (R347, R402, R420) -/

/-- Why a slot fails its verification, if it does. -/
def slotFault (s : State) (k : Nat) : Option Nat :=
  match slotImage s k with
  | none => some 0
  | some i => if i.type = 0 then imageFault s i else some 0

/-- The DRBG is seeded at a power-up; with a failed health test it does not answer (R391). -/
def seedDrbg (k : StartKind) (b : Board) (s : State) : State :=
  if k = .hub then s
  else drawn { s with sec := { s.sec with
    drbgOn := b.entropyOk, drbgRequests := 0, drbg := drbgSeed (leBytes 48 (Config.entropy s.free).toNat) } }

/-- The first handle generation, from the DRBG; a free value where it does not answer (R129). -/
def firstGeneration (s : State) : Nat :=
  1 + (if s.sec.drbgOn then drbgOut 3 s else Config.choice s.free) % 0xFFFFFF

/-- Firmware starts from a slot: its image runs, the boot lock is set, configured values are applied (R347 step 7,
R420). -/
def firmwareStart (k : Nat) (s : State) : State :=
  let c := config s
  let image := slotImage s k
  let pins := c.pins.foldl (fun (ps : List Pin) p => ps.modify p.1 fun x =>
    { x with function := p.2.1, activeLow := p.2.2.1, persist := true, arg := p.2.2.2
             on := p.2.1 == 2 && p.2.2.2.getLsbD 0 }) s.pins
  let s := putSlot k image true s
  { s with
    life := { s.life with fwStart := true }
    nor := { s.nor with slot := k, xo := false }
    sec := { s.sec with image := image, version := versionOf image }
    reg := { s.reg with lock := true, subVendor := c.subVendor, subSystem := c.subSystem }
    i3c := { s.i3c with pid := c.i3cPid }
    thm := { s.thm with warnC := c.warnC, dieLimitC := c.dieLimitC, rateWarnAt := c.rateWarnAt }
    hup := { s.hup with lastUtc := c.holdupUtc }
    hnd := { s.hnd with generation := firstGeneration s }
    free := s.free + 1
    pins := pins }

/-- A stored patch below the lowest version the running image accepts is replaced: the sequencers run ROM only, since
the image format of R396 holds no patch (R229; DESIGN CHOICE, log entry 178). -/
def replacePatch (s : State) : State :=
  let least := (s.sec.image.map (·.minPatch)).getD 0
  if (config s).patch.any fun p => decide (p.version < least) then storeConfig (fun c => { c with patch := none }) s else s

/-- With no valid copy of the configuration store, each of its sectors is logged; the pair named is the last used one
of the current flag row (R313, R388; log entry 182). -/
def logNoStore (s : State) : State :=
  if s.nor.config0.valid || s.nor.config1.valid then s
  else
    (configSectors 0 ++ configSectors 1).foldl (fun s n =>
      let f := flagsOf s n
      let k := (currentRow f).getD 0
      let r := rowOfFlags f k
      let p := (lastPair r).getD 0
      logEvent 0x0901 (sectorUnit n)
        (evData [(1, regionCode n), (1, k), (1, p), (1, 1), (1, (rowByte r (2 + 2 * p)).toNat),
          (1, (rowByte r (3 + 2 * p)).toNat), (2, 0)]) s) s

/-- The active slot runs, or the other one; both failing stops in the recovery state (R347 step 6, R348). -/
def loadFirmware (s : State) : State :=
  let a := if (config s).activeSlot = 2 then 2 else 1
  match slotFault s a with
  | none => firmwareStart a s
  | some c =>
    let s := putSlot a (slotImage s a) false (authFail 1 c a (versionOf (slotImage s a)) s)
    match slotFault s (3 - a) with
    | none => firmwareStart (3 - a) s
    | some c =>
      enterRecovery 0x0C03 (blockUnit 0x24) (authFail 1 c (3 - a) (versionOf (slotImage s (3 - a))) s)

/-! ## Steps 8 and 9: channels and dies (R30, R208, R211, R216, R218) -/

/-- A die as discovery finds it: set up and in service, with the manufacturer, the qualification entry of its ID bytes
and the timing set in force, free values (R211, R216). -/
def foundDie (entry timing d : Nat) : Die :=
  { Die.absent d with
    state := .inService, qual := entry % 0xFFFF, maker := entry / 0xFFFF % 256, timingSet := timing % 256 }

/-- Golden copies are pushed and patches loaded on every channel in service; its version is checked (R218). -/
def startChannels (s : State) : State :=
  let s := drawn { s with med := { s.med with codes := Config.word s.free } }
  let version := ((config s).patch.map (·.version)).getD 0
  let begin_ (c : Nat) (x : Channel) : Channel :=
    let x := { x with expected := version }
    if channelOut s c = true then { x with state := .fenced }
    else { matchVersion s x with state := .running, generation := s.med.golden }
  { s with med := { s.med with channels := s.med.channels.mapIdx begin_ } }

/-- Discovery: the dies of positions 0 to G − 1 on every channel, and those of partial positions, which are fenced;
units of the fenced list are passed over (R30, R208, R373). -/
def discover (b : Board) (s : State) : State :=
  let g := min b.groups 32
  let whole := (List.range 32).flatMap fun c => (List.range g).map fun p => c * 32 + p
  let extra := b.partialDies.filter fun d => decide (d < 1024) && decide (g ≤ d % 32)
  let dies := (whole ++ extra).map fun d =>
    let x := foundDie (Config.choice (s.free + d)) (Config.choice (s.free + 1024 + d)) d
    if dieOut s d then { x with state := .fenced } else x
  let s := { s with
    med := { s.med with dies := dies }
    free := s.free + 2048
    reg := { s.reg with populated := g } }
  let s := b.channelFail.foldl (fun s c =>
    if channelOut s c.val then s else fenceLasting (channelUnit c.val) 0 4 s) s
  let s := extra.foldl (fun s d => if isFenced s (dieUnit d) then s else fenceLasting (dieUnit d) 0 4 s) s
  (List.range g).foldl (fun s p => fenceGroup p s) s

/-! ## Step 10: the ledger (R145, R188, R351, R352) -/

/-- A superblock no command has touched (R352). -/
def newSb (n : Nat) : Superblock where
  number := n
  state := .erased
  noSummary := false
  blankPending := true
  overlay := false
  active := false
  usable := false
  eraseCount := 0
  memberErases := []
  retireDie := none
  grantUtc := 0
  closeStamp := 0
  summaryStart := 0
  summaryLength := 0
  leftOut := []
  fill := 0
  units := []
  rowsSent := []
  rowsDone := []
  openedUs := 0
  firstUs := none
  firstUtc := none
  firstTemps := []
  lastTemps := []
  relocate := false
  reads := []

/-- The ledger's state of a superblock number: ABSENT where the ledger has no entry, as for a stripe group not
populated or a position its dies lack (R169, R186). -/
def ledgerState (s : State) (n : Nat) : SbState := ((findSb s n).map (·.state)).getD .absent

/-- A first start: every populated superblock ERASED with its blank check pending, factory-bad positions remapped, no
namespace, block top 0; a die's positions beyond 4,095 are not used (R169, R170, R352). -/
def firstLedger (b : Board) (s : State) : State :=
  let g := min b.groups 32
  let sbs := (List.range (min b.positions 4095)).flatMap fun p => (List.range g).map fun q => newSb (p * 32 + q)
  let s := { s with
    life := { s.life with first := true }
    map := { Translation.reset with sbs := sbs, compaction := s.map.compaction }
    nv := { s.nv with namespaces := [], sanitize := .none }
    ord := { s.ord with next := 1, top := 0 } }
  b.factoryBad.foldl (fun s f => (replacePosition f.1 (f.2 * 32 + f.1 % 32) s).1) s

/-- LEDGER_COPY_BAD against the die that holds the copy (R206, R388). How: 0 unreadable, 1 disagrees, 2
rebuilt, 3 none readable. -/
def logCopyBad (sev i how channel : Nat) (s : State) : State :=
  logSev 0x0405 sev (dieUnit (channel * 32)) (evData [(1, i), (1, how), (1, channel), (1, 0), (4, s.map.compaction)]) s

/-- The ledger copies a start can read. -/
def readableCopies (b : Board) : List Nat := (List.range 3).filter fun i => b.ledgerReadable.any fun x => x.val == i

/-- A superblock's entry by its summary header and a blank check: CLOSED with a header, ERASED where it is blank, else
open, to be closed with no summary and scanned (R188, R198). -/
def entryFound (b : Superblock) : Superblock :=
  if b.units.isEmpty then { b with state := .erased, blankPending := true, noSummary := false }
  else if b.units.any (·.kind == .summary) then { b with state := .closed, noSummary := false }
  else { b with state := .granted }

/-- The ledger rebuilt from summary headers and blank checks. Numbers go on above every number found, by a block.
Whether the namespace table and the remap tables can be had again is not stated: a free value (R188; log entry 175).
-/
def rebuildLedger (s : State) : State :=
  let sbs := s.map.sbs.map entryFound
  let high := sbs.foldl (fun k b => b.units.foldl (fun k u => max k u.seq) (max k b.closeStamp)) 0
  let kept := Config.choice s.free % 2 == 0
  drawn { s with
    map := { s.map with
      sbs := sbs, slots := [], blockTop := high + 2 ^ 24, pages := 0
      table := if kept then s.map.table else [], remaps := if kept then s.map.remaps else []
      sparesUsed := if kept then s.map.sparesUsed else [] }
    nv := { s.nv with namespaces := if kept then s.nv.namespaces else [] } }

/-- The channel of a copy. -/
def copyChannel (s : State) (i : Nat) : Nat := (s.map.copies[i]?.map (·.channel)).getD 0

/-- Copies that hold slots no other holds: readable, beside another readable one (R188). -/
def disagreeing (b : Board) (s : State) : List Nat :=
  if (readableCopies b).length < 2 then []
  else (readableCopies b).filter fun i => s.map.copies[i]?.any fun c => !c.extra.isEmpty

/-- Copies that disagree are logged, their slots discarded; copies that cannot be read are logged and rebuilt; with none
readable the ledger is rebuilt (R188, R206). -/
def readCopies (b : Board) (s : State) : State :=
  let readable := readableCopies b
  let bad := (List.range 3).filter fun i => !readable.contains i
  let s := (disagreeing b s).foldl (fun s i => logCopyBad 3 i 1 (copyChannel s i) s) s
  let whole := match readable with
    | [i] => (s.map.copies[i]?.map (·.extra)).getD []
    | _ => []
  let s := dropPending (takeWhole whole s)
  if readable.isEmpty then rebuildLedger (logCopyBad 5 0 3 (copyChannel s 0) s)
  else
    let s := bad.foldl (fun s i => logCopyBad 3 i 0 (copyChannel s i) s) s
    bad.foldl (fun s i => rebuildCopy i s) s

/-- An unclean start: blank checks pending, GRANTED superblocks closed with no summary (R351). -/
def uncleanLedger (s : State) : State :=
  let open_ := (s.map.sbs.filter fun b => b.state == .granted).map (·.number)
  let stamp := lastIssued s
  let s := { s with
    life := { s.life with uncleanShutdowns := s.life.uncleanShutdowns + 1 }
    map := { s.map with sbs := s.map.sbs.map fun b =>
      if b.state == .erased then { b with blankPending := true }
      else if b.state == .granted then
        { b with state := .closed, noSummary := true, active := false, usable := false, closeStamp := stamp
                 summaryStart := 0, summaryLength := 0 }
      else b } }
  open_.foldl (fun s n => appendSlot (.close stamp n 0 0 true) s) s

/-- Step 10: the ledger is read, or a new module's first one is written; numbers go on above the block top (R145). -/
def readLedger (b : Board) (s : State) : State :=
  if b.newModule then firstLedger b s
  else
    let s := moveCopies (readCopies b s)
    let clean := ledgerClean s
    let top := ledgerTop s
    let s := { s with ord := { s.ord with next := top + 1, top := top }, life := { s.life with clean := clean } }
    let s := if clean then s else uncleanLedger s
    { s with map := { s.map with scanned := s.map.sbs.countP (isScanned []) } }

/-! ## Keys at a start (R393, R395, R403, R406) -/

/-- The key store is loaded: the KEK is derived, the keys of the namespaces that exist are unwrapped (R392, R393). -/
def loadKeys (s : State) : State :=
  let c := config s
  let s := useSalt c.salt s
  let held := c.keys.filter fun k => (findNs s k.ns).isSome
  let unwrap (k : StoredKey) : Option MediaKey :=
    (s.sec.kek.bind fun kek => unwrapMedia kek k.wrapped).map fun v => ⟨k.ns, v, k.generation, true⟩
  { s with sec := { s.sec with keys := held.filterMap unwrap } }

/-- Namespaces whose stored key was made before their epoch: an interrupted zeroization (R395). -/
def staleKeys (s : State) : List Nat :=
  (config s).keys.filterMap fun k => match findNs s k.ns with
    | some n => if k.epoch < n.epoch then some n.id else none
    | none => none

/-- Before capture-ready: after a debug opening a new salt and a key for each namespace; a salt where the store has
none; zeroizations that power loss interrupted are completed (R393, R395, R406). -/
def startKeys (k : StartKind) (s : State) : State :=
  let opened := s.sec.port == .opened
  if opened && k == .hub then s
  else
    let s := if opened then { s with sec := { s.sec with port := .field } } else s
    let s := loadKeys s
    if s.sec.drbgOn = false then s
    else
      let all := s.nv.namespaces.map (·.id)
      if opened then
        storeKeys (all.foldl (fun s i => drawKey i s) (drawSalt s))
      else
        let s := if s.sec.salt.isSome then s else storeKeys (drawSalt s)
        let old := staleKeys s
        if old.isEmpty then s else eraseOlderStore (storeKeys (old.foldl (fun s i => drawKey i (zeroizeKey i s)) s))

/-! ## Steps 11 and 12: grants and capture-ready (R31, R32, R343) -/

/-- Two superblocks of every populated stripe group are granted, and the grants are durable (R32). -/
def startGrants (b : Board) (s : State) : State :=
  let s := appendSlot (.seqBlock (s.ord.top + 2 ^ 24)) s
  let s := (List.range (min b.groups 32)).foldl (fun s g => grantSb g b.halfErased (grantSb g b.halfErased s)) s
  ledgerFlush s

/-- Every populated stripe group that is not fenced whole has a granted superblock (R31). -/
def granted (s : State) : Bool :=
  (List.range s.reg.populated).all fun g => decide (9 ≤ (membersOut s g).length) || (openIn s g).any (·.usable)

/-- The boot stage's other copy is verified too, and the copies are made alike (R311, R401). -/
def settleBoot (s : State) : State :=
  let ok (k : Nat) : Bool := (bootFault s k).isNone
  mendBoot { s with nor := { s.nor with boot0Valid := ok 0, boot1Valid := ok 1 } }

/-- Anti-rollback fuses are burned up to the running image's level, at most 64 (R315, R399). -/
def burnLevel (s : State) : State :=
  let level := min 64 ((s.sec.image.map (·.level)).getD 0)
  { s with nor := { s.nor with otp := { s.nor.otp with antiRollback := max s.nor.otp.antiRollback level } } }

/-- Capture-ready, once every need of R31 holds: RDY rises while CC.EN is 1, fuses are burned, unfinished sectors begin
to be erased (R115, R311, R343, R399). A first start is map-ready at once (R352). -/
def reachCaptureReady (s : State) : State :=
  if s.life.captureReady ∨ granted s = false then s
  else
    let s := { s with
      life := { s.life with captureReady := true, mapReady := s.life.first }
      nv := { s.nv with rdy := s.nv.cc.getLsbD 0 } }
    let s := eraseUnfinished (settleBoot (burnLevel s))
    if s.life.mapReady then updateGc { s with evr := { s.evr with lwdHubResets := 0 } } else s

/-- The start-up sequence from step 1 or 2 to capture-ready (R347, R348). -/
def startUp (k : StartKind) (b : Board) (s : State) : State :=
  let s := startPlls b s
  if b.testMode ∧ s.life.phase = .service then { s with life := { s.life with phase := .manufacturing } }
  else
    let s := startStep (fun s => readOtp b (installFactory b.factory s)) s
    let s := startStep (seedDrbg k b) s
    let s := startStep bootStage s
    let s := startStep (trainDram b) s
    let s := startStep (fun s => trainUcie b (loadFenced s)) s
    let s := startStep (fun s => replacePatch (loadFirmware (logNoStore s))) s
    let s := startStep (fun s => discover b (startChannels s)) s
    let s := startStep (readLedger b) s
    let s := startStep (startKeys k) s
    startStep (fun s => reachCaptureReady (startGrants b s)) s

/-- A start of a kind with the module last found. -/
def start (k : StartKind) (s : State) : State :=
  match s.board with
  | none => s
  | some b => startUp k { b with newModule := b.newModule && s.map.sbs.isEmpty } (resetBase k s)

/-- An exit from P4: Cardamom has kept its counters, its temperature samples and the dynamic address it wakes on; the
full start-up follows, events found in P4 are logged (R358), WAKE_N is asserted unless PERST_N was the cause (R323,
R327). -/
def wakeFromP4 (byPerst : Bool) (s : State) : State :=
  let t := start .hub s
  flushDeferred { t with
    pwr := { t.pwr with wakeN := !byPerst }, i3c := { t.i3c with addr := s.i3c.addr }
    thm := { s.thm with
      warnC := t.thm.warnC, dieLimitC := t.thm.dieLimitC, rateWarnAt := t.thm.rateWarnAt, hotDies := [] } }

/-- Hub resets of the run so far (R346). -/
def countHubReset (n : Nat) (s : State) : State := { s with evr := { s.evr with lwdHubResets := n } }

/-- The hub reset of R166: all accepted writes are flushed, the bundle halts, the cause goes into the last-words
registers, and start-up runs from step 2; the third in one run of R346 stops in the recovery state. -/
def hubReset (code : BitVec 16) (unit : UnitId) (s : State) : State :=
  let n := if s.life.mapReady then 0 else s.evr.lwdHubResets + 1
  let s := haltAll false stPowerLoss s
  let s := flushEverything s
  let s := lastCause code unit false s
  let s := writeLastWords (countHubReset n s)
  if 3 ≤ n then
    enterRecovery code unit (resetBase .hub s)
  else start .hub s

end Sys2Proof.Machine
end

