-- ==== Sys2Proof/Machine/Controller.lean ====
section
/-! DEFINITION. Controller enable, shutdown and the host-side resets; the PCIe link's states (R115, R116, R136, R323 to
R327). -/

namespace Sys2Proof.Machine

/-- Writable bits of CC: EN, CSS, MPS, AMS, SHN, IOSQES, IOCQES (log entry 16). -/
def ccMask : Word32 := 0x00FFFFF1

/-- The admin queue pair of AQA, ASQ and ACQ; vector 0, interrupts on. -/
def adminQueues (s : State) : State :=
  let sq : Sq := ⟨0, field s.nv.aqa.toNat 0 12 + 1, 0, 0, 0, 0, []⟩
  let cq : Cq := ⟨0, field s.nv.aqa.toNat 16 12 + 1, 0, true, 0, 0, true, [], [], 0⟩
  { s with nv := { s.nv with sqs := [sq], cqs := [cq] } }

/-- A write of CC that sets EN from 0 to 1: RDY once the device is capture-ready (R115). -/
def ccEnable (value : BitVec 32) (s : State) : State :=
  if nvmeReachable s && value.getLsbD 0 && !s.nv.cc.getLsbD 0 then
    let s := resumeP0 (adminQueues { s with nv := { s.nv with cc := value &&& ccMask, shst := 0 } })
    { s with nv := { s.nv with rdy := s.life.captureReady } }
  else s

/-- R115. -/
def execCcEnable (value : BitVec 32) (s : State) : Result := .next (ccEnable value s)

/-- Accepted writes and fences stand; nothing of theirs is completed any more (R116). -/
def orphan (s : State) : State :=
  { s with ord := { s.ord with
    waiting := s.ord.waiting.filter fun x => match x with
      | .write w => w.cmd.isNone
      | .fence f => f.cmd.isNone
    accepted := s.ord.accepted.map fun w => { w with cmd := none }
    fences := s.ord.fences.map fun f => { f with cmd := none } } }

/-- What CC.EN from 1 to 0 does: queues deleted, commands not accepted dropped without completion, features at their
values after reset (R110, R116); a slot selected by Firmware Commit is activated. PCIe state stays. -/
def controllerReset (s : State) : State :=
  let s := orphan s
  let n := s.nv
  let s := { s with
    intg := { s.intg with reads := s.intg.reads.filter fun r => match r.reader with
      | .host _ _ => false
      | _ => true }
    nv := { keptNvme n with
      cfs := n.cfs, aqa := n.aqa, asq := n.asq, acq := n.acq, critical := n.critical, nextSlot := n.nextSlot
      msix := n.msix, pba := n.pba, msixEnabled := n.msixEnabled, msixMasked := n.msixMasked
      msiEnabled := n.msiEnabled, msiAddress := n.msiAddress, msiData := n.msiData, bars := n.bars } }
  match s.nv.nextSlot with
  | some k => if serving s then activate k none none s else s
  | none => s

/-- A write of CC that clears EN (R116). -/
def ccDisable (value : BitVec 32) (s : State) : State :=
  if nvmeReachable s && !value.getLsbD 0 && s.nv.cc.getLsbD 0 then
    let s := controllerReset s
    resumeP0 { s with nv := { s.nv with cc := value &&& ccMask } }
  else s

/-- R116. -/
def execCcDisable (value : BitVec 32) (s : State) : Result := .next (ccDisable value s)

/-- A write of CC that sets SHN: fetching stops and every accepted write is made durable (R116). -/
def ccShutdown (value : BitVec 32) (s : State) : State :=
  if nvmeReachable s && value.getLsbD 0 && s.nv.cc.getLsbD 0 && s.nv.shst == 0 && field value.toNat 14 2 != 0 then
    padWanted (resumeP0 { s with nv := { s.nv with cc := value &&& ccMask, shst := 1 } })
  else s

/-- R116. -/
def execCcShutdown (value : BitVec 32) (s : State) : Result := .next (ccShutdown value s)

/-- R116, R189: every accepted write is durable; with nothing left unwritten, CLEAN is the ledger's last slot. -/
def execShutdownComplete (s : State) : Result :=
  .next (
    if s.life.phase == .service && s.nv.shst == 1 && s.ord.accepted.all (durable s) then
      let s := if bufferWritten s then ledgerFlush (appendSlot (.clean (lastIssued s)) s) else s
      { s with nv := { s.nv with shst := 2 } }
    else s)

/-- PCIe state at reset: the MSI-X table and pending bits, MSI, the spaces' addresses (R89, R91, R116). -/
def resetPcie (s : State) : State :=
  { s with
    nv := { s.nv with
      cc := 0, aqa := 0, asq := 0, acq := 0, msix := [], pba := [], msixEnabled := false, msixMasked := false
      msiEnabled := false, msiAddress := 0, msiData := 0, bars := [0, 0, 0] }
    pwr := { s.pwr with d3hot := false, l1 := false } }

/-- A PCIe reset: as CC.EN to 0, with NVMe and PCIe state at reset; PCIe ownership of mailboxes ends, PCIE_EN and VECTOR
reset, entries already posted stay (R116, R136). The path's interrupt is armed again: DESIGN CHOICE, log entry 174. -/
def pcieReset (s : State) : State :=
  let s := resetPcie (endOwnership .pcie (controllerReset s))
  notify (refillRing { s with
    crg := { s.crg with pcieEn := false, vector := 0, unreadPcie := 0 }
    mbx := { s.mbx with msixArmed := true } })

/-- The function can be reset by the host. -/
def functionLive (s : State) : Bool := (s.life.phase == .service || s.life.phase == .recovery) && s.life.perstN

/-- R116, R136. -/
def execFunctionLevelReset (s : State) : Result := .next (if functionLive s then boundPower (pcieReset s) else s)

/-- R116, R136. -/
def execHotReset (s : State) : Result := .next (if functionLive s then boundPower (pcieReset s) else s)

/-- R116, R136, R327: the reset, and a change of PERST_N, which resumes P1 to P3; in P4 it arms the PCIe wake. -/
def execPerstNAssert (s : State) : Result :=
  .next (
    let live := functionLive s
    let s := { s with life := { s.life with perstN := false } }
    if live then resumeP0 (pcieReset s)
    else if s.life.phase = .p4 then { s with pwr := { s.pwr with perstSeen := true } }
    else s)

/-- R327: the link may train; with the PCIe source enabled, release after an assertion wakes from P4. -/
def execPerstNDeassert (s : State) : Result :=
  .next (
    let s := { s with life := { s.life with perstN := true } }
    match s.life.phase with
    | .service => resumeP0 s
    | .p4 => if s.pwr.perstSeen && s.pwr.wakeSources.getLsbD 0 then wakeFromP4 true s else s
    | _ => s)

/-- R323, R324: the link is in L1, or the function in D3hot, where the NVMe depth is 4; P1 is entered when it is what
the conditions and the bound give. -/
def execPcieL1Entry (d3hot : Bool) (s : State) : Result :=
  .next (
    if nvmeReachable s then
      let s := { s with pwr := { s.pwr with l1 := s.pwr.l1 || !d3hot, d3hot := s.pwr.d3hot || d3hot } }
      if s.pwr.state = 0 ∧ targetState s = 1 then enterState 1 s else s
    else s)

/-- R324: back in D0 the depth is that of the NVMe power state. -/
def execPcieD3hotExit (s : State) : Result :=
  .next (if nvmeReachable s then boundPower { s with pwr := { s.pwr with d3hot := false } } else s)

end Sys2Proof.Machine
end

