-- ==== Sys2Proof/Machine/SensorOps.lean ====
section
/-! DEFINITION. The junction sensors: their groups, neighbours, medians and exclusion (R355 to R358, R367). -/

namespace Sys2Proof.Machine

/-- Neighbours of a sensor (R355). -/
def neighbours (n : Nat) : List Nat :=
  match n with
  | 0 => [1, 6]
  | 1 => [0, 7]
  | 2 => [3, 6]
  | 3 => [2, 4]
  | 4 => [3, 5]
  | 5 => [4, 7]
  | 6 => [0, 2, 7]
  | 7 => [1, 5, 6]
  | 20 => [21, 22]
  | 21 => [20, 22, 23]
  | 22 => [20, 21, 23]
  | 23 => [21, 22]
  | _ => if n < 20 then ((List.range 3).map fun i => 8 + (n - 8) / 3 * 3 + i).filter (· != n) else []

/-- Sensors of the group of a sensor (R356): first and count. -/
def sensorGroup (n : Nat) : Nat × Nat := if n < 8 then (0, 8) else if n < 20 then (8 + (n - 8) / 3 * 3, 3) else (20, 4)

/-- The six groups (R356). -/
def sensorGroups : List (Nat × Nat) := [(0, 8), (8, 3), (11, 3), (14, 3), (17, 3), (20, 4)]

/-- A sensor's record. -/
def sensorOf (s : State) (n : Nat) : Sensor := s.thm.sensors.getD n Sensor.reset

/-- Readings among those given of a sensor's neighbours that were valid after the previous sample. -/
def neighbourReadings (s : State) (readings : List (Option Int)) (n : Nat) : List Int :=
  (neighbours n).filterMap fun k => if (sensorOf s k).valid then (readings[k]?).join else none

/-- The median of two or three readings; of one it is that reading, and of two their mean (R357), here doubled so that
it is whole. -/
def doubledMedian (l : List Int) : Option Int :=
  match l with
  | [a] => some (2 * a)
  | [a, b] => some (a + b)
  | [a, b, c] => some (2 * (a + b + c - min a (min b c) - max a (max b c)))
  | _ => none

/-- Valid sensors of a sensor's group. -/
def validInGroup (s : State) (n : Nat) : Nat :=
  let g := sensorGroup n
  ((s.thm.sensors.drop g.1).take g.2).countP (·.valid)

/-- An event found by a sample: in P3 and P4 it is logged after the resume, with the sample's time (R358). -/
def logSample (code : BitVec 16) (unit : UnitId) (data : BitVec 64) (s : State) : State :=
  if 3 ≤ s.pwr.state then { s with thm := { s.thm with deferred := s.thm.deferred ++ [(code, unit, data, s.clk.us)] } }
  else logEvent code unit data s

/-- SENSOR_EXCLUDED (R357, R388). Without a reading, or without a median, that field is a free value. -/
def logExcluded (n cause : Nat) (reading median2 : Option Int) (s : State) : State :=
  let field (v : Option Int) (k : Nat) : Nat := match v with
    | some i => signed 16 i
    | none => (Config.word (s.free + k)).toNat % 65536
  let data := evData [(2, field reading 0), (2, field (median2.map (· / 2)) 1), (1, cause), (1, validInGroup s n), (2, 0)]
  { logSample 0x0B05 (sensorUnit n) data s with free := s.free + 2 }

/-- A sensor is excluded (R356, R357, R367). -/
def excludeSensor (n : Nat) (s : State) : State :=
  let f (x : Sensor) : Sensor := { x with excluded := true, valid := false, reading := none, deviate := 0, agree := 0 }
  { s with thm := { s.thm with sensors := s.thm.sensors.modify n f } }

end Sys2Proof.Machine
end

