-- ==== Sys2Proof/Machine/FaultOps.lean ====
section
/-! DEFINITION. What a lasting fault does to each class of unit (R372 to R378). -/

namespace Sys2Proof.Machine

/-- The device stops in the recovery state out of service: accepted writes are flushed first as for a hub reset
(R166, R349). -/
def stopInRecovery (code : BitVec 16) (unit : UnitId) (s : State) : State :=
  enterRecovery code unit (resetBase .hub (flushEverything (haltAll false stPowerLoss s)))

/-- A unit holds a member of a superblock. -/
def holdsMember (u : UnitId) (b : Superblock) : Bool :=
  (List.range 32).any fun c => !b.leftOut.contains c &&
    match unitClass u with
    | 1 => maceOf c == unitIndex u
    | 2 => c == unitIndex u
    | 3 => memberDie b c == unitIndex u
    | _ => false

/-- GRANTED superblocks with a member on a fenced unit close as a program failure does (R199, R375). -/
def closeMembers (u : UnitId) (s : State) : State :=
  s.map.sbs.foldl (fun s b =>
    if b.state == .granted && holdsMember u b then closeFailed b.number s else s) s

/-- A Mace die, channel or flash die is fenced: its superblocks close, a group that loses a ninth die goes with it, and
ledger copies move (R188, R373, R375). -/
def fenceMedia (u : UnitId) (s : State) : State :=
  let s := fenceUnit u s
  let s := closeMembers u s
  let s := (List.range s.reg.populated).foldl (fun s g => fenceGroup g s) s
  if s.life.phase = .service then moveCopies s else s

/-- Clove cores in service. -/
def coresInService (s : State) : Nat := ((List.range 4).filter fun c => !isFenced s (blockUnit (0x20 + c))).length

/-- A lasting fault of a Saffron block (R373). -/
def blockFault (u : UnitId) (trigger : BitVec 16) (cause : Nat) (s : State) : State :=
  let i := unitIndex u
  if 0x20 ≤ i ∧ i ≤ 0x23 then
    let s := fenceUnit u s
    if coresInService s < 2 then stopInRecovery 0x0E02 u (logLasting u 4 trigger cause 3 s)
    else logLasting u 4 trigger cause 0 s
  else if i = 0x26 then hubReset 0x0E02 u (logLasting u 4 trigger cause 2 s)
  else if s.life.runBlockFaults.contains u then stopInRecovery 0x0E02 u (logLasting u 4 trigger cause 3 s)
  else
    hubReset 0x0E02 u (logLasting u 4 trigger cause 2
      { s with life := { s.life with runBlockFaults := u :: s.life.runBlockFaults } })

/-- A sensor not excluded so far is excluded by its fencing, and SENSOR_EXCLUDED says so (R357, R373, R388). -/
def fenceSensor (n : Nat) (s : State) : State :=
  let x := sensorOf s n
  if x.excluded then s
  else
    let median := doubledMedian (neighbourReadings s (s.thm.sensors.map (·.reading)) n)
    logExcluded n 3 x.reading median (excludeSensor n s)

/-- A unit has a lasting fault (R372, R373). Cause: 0 test failed, 1 third transient, 2 spares exhausted, 3 re-admission
retest failed, 4 unit rule. -/
def lastingFault (u : UnitId) (trigger : BitVec 16) (cause : Nat) (s : State) : State :=
  match unitClass u with
  | 0 => blockFault u trigger cause s
  | 1 => logLasting u 4 trigger cause 0 (fenceMedia u s)
  | 2 => logLasting u 4 trigger cause 0 (fenceMedia u s)
  | 3 => logLasting u 4 trigger cause 0 (fenceMedia u s)
  | 4 => logLasting u 4 trigger cause 1 s
  | 5 => completeLinkUp stNotReady (fenceLasting u trigger cause s)
  | 7 => logLasting u (if cause = 2 then 5 else 4) trigger cause 1 s
  | 8 => fenceLasting u trigger cause (fenceSensor (unitIndex u) s)
  | 9 => fenceLasting u trigger cause (invalidate (unitIndex u) (protect [unitIndex u] true s))
  | _ => s

/-! ## Clove faults (R165, R166, R348, R402) -/

/-- A Clove fault of a core: the core's self-test starts and a warm recovery begins. Before map-ready, and with a
fault or an activation already stopping the cores, it escalates to the hub reset (R166, R348, R402). -/
def cloveFaultOn (core : Nat) (s : State) : State :=
  if s.life.phase ≠ .service ∨ s.life.fwStart = false then s
  else
    let u := blockUnit (0x20 + core)
    if s.life.mapReady = false ∨ s.life.stop.isSome then hubReset 0x0E03 u s
    else
      beginStop ⟨false, core, s.clk.us, s.sec.version, s.nor.slot, none, none⟩ (startTest u 0 s)

end Sys2Proof.Machine
end

