-- ==== Sys2Proof/Machine/TestOps.lean ====
section
/-! DEFINITION. How a unit test ends: transients, lasting faults, demanded tests that waited, re-admission
(R369 to R378). -/

namespace Sys2Proof.Machine

/-- 24 hours in µs. -/
def dayUs : Nat := 86400000000

/-- Transients of a unit in the preceding 24 h (R372). -/
def recentTransients (s : State) (u : UnitId) : Nat :=
  (s.st.transients.filter fun t => t.1 == u && decide (s.clk.us ≤ t.2 + dayUs)).length

/-- A passing test makes its error transient; the third in 24 h is a lasting fault (R372). -/
def noteTransient (u : UnitId) (trigger : BitVec 16) (durationUs : Nat) (s : State) : State :=
  let n := recentTransients s u + 1
  let s := logEvent 0x0E01 u (evData [(2, u.toNat), (2, trigger.toNat), (1, n), (1, 0), (2, durationUs)]) s
  let s := { s with st := { s.st with transients := (u, s.clk.us) :: s.st.transients } }
  if 3 ≤ n then lastingFault u trigger 1 s else s

/-- A test of a unit runs. -/
def underTest (s : State) (u : UnitId) : Bool := s.st.running.any fun t => t.unit == u

/-- A demanded test begins: at once, or after the test of its unit that runs; its cancel point is its start (R140,
R371). -/
def demandTest (t : UnitTest) (s : State) : State :=
  if underTest s t.unit then { s with st := { s.st with waiting := s.st.waiting ++ [t] } }
  else
    let s := { s with st := { s.st with running := s.st.running ++ [t] } }
    match t.handle with
    | some v => passCancel v s
    | none => s

/-- The test of a unit has ended: a demanded test that waited for it starts (R371). -/
def leaveTest (u : UnitId) (s : State) : State :=
  let s := { s with st := { s.st with running := s.st.running.filter fun t => t.unit != u } }
  match s.st.waiting.find? fun t => t.unit == u with
  | none => s
  | some t => demandTest t { s with st := { s.st with waiting := s.st.waiting.filter fun x => x.unit != u || x != t } }

/-- Firmware may take a unit of its class back into service (R378). -/
def backInService (u : UnitId) (s : State) : State :=
  let i := unitIndex u
  match unitClass u with
  | 1 => (List.range 8).foldl (fun s c =>
      if channelOut s (8 * i + c) then s
      else wakeChannel (8 * i + c) (updateChan (8 * i + c) (fun x => { x with state := .gated }) s)) (logWake u s)
  | 2 => if channelOut s i then s else wakeChannel i (updateChan i (fun x => { x with state := .gated }) s)
  | 3 => markStale i 4 (updateDie i (fun d => { d with state := .inService, staleLogged := false }) s)
  | 8 => { s with thm := { s.thm with
      sensors := s.thm.sensors.modify i fun x => { x with fenced := false, excluded := false, deviate := 0, agree := 0 } } }
  | _ => s

/-- Dies of a channel that a re-admission brings back: those not fenced themselves. -/
def diesBack (u : UnitId) (s : State) : State :=
  { s with med := { s.med with dies := s.med.dies.map fun d =>
    if d.state != .absent && (unitClass u == 2 && d.index / 32 == unitIndex u ||
        unitClass u == 1 && maceOf (d.index / 32) == unitIndex u) && !dieOut s d.index
    then { d with state := .gated, staleLogged := false } else d } }

/-- The retest of a fenced unit passed: it leaves the list, its transient count restarts, and it is stale (R378). -/
def readmitUnit (u : UnitId) (s : State) : State :=
  let s := { s with st := { s.st with
    fenced := s.st.fenced.filter fun f => f.1 != u
    transients := s.st.transients.filter fun t => t.1 != u } }
  let s := storeConfig (fun c => { c with fenced := c.fenced.filter (· != u) }) s
  backInService u (diesBack u s)

/-- UNIT_STATUS's state code: 0 in service, 1 fenced, 2 stale, 3 gated, 4 absent (R137, R216). -/
def unitState (s : State) (u : UnitId) : Nat :=
  let i := unitIndex u
  if isFenced s u then 1
  else
    match unitClass u with
    | 1 => if (List.range 8).any fun c => (chanOf s (8 * i + c)).state == .running then 0 else 3
    | 2 => if (chanOf s i).state = .gated then 3 else 0
    | 3 => dieStateCode (dieRecord s i).state
    | _ => 0

/-- What a passing test mends: Cardamom's restarts the failed PLL and finds it locked; a flash die's timeouts count
again from 0 (R216, R370). -/
def relock (u : UnitId) (s : State) : State :=
  if u = blockUnit 0x26 then { s with pwr := { s.pwr with pllBad := 0 } }
  else if unitClass u = 3 then updateDie (unitIndex u) (fun d => { d with timeouts := 0 }) s
  else s

/-- What the end of a test means: the verdict of a re-admission, of a demanded test, or of an error (R371, R372,
R378). -/
def judgeTest (t : UnitTest) (pass : Bool) (durationUs : Nat) (s : State) : State :=
  let u := t.unit
  let s := if pass then relock u s else s
  if t.readmit then
    if pass then
      let s := readmitUnit u s
      completeSome t.handle stOk (ringData [(1, unitState s u)]) s
    else completeSome t.handle stMediaFailed 0 (logLasting u 4 t.trigger 3 0 s)
  else if t.demanded then
    let s := completeSome t.handle stOk (ringData [(1, flag !pass), (3, 0), (4, durationUs)]) s
    if pass then s else lastingFault u t.trigger 0 s
  else if pass then noteTransient u t.trigger durationUs s
  else lastingFault u t.trigger 0 s

/-- The verdicts of tests that ended during a Clove stop are taken (R371). -/
def takeVerdicts (s : State) : State :=
  s.st.running.foldl (fun s t => match t.verdict with
    | some v => judgeTest t v.1 v.2 (leaveTest t.unit s)
    | none => s) s

end Sys2Proof.Machine
end

