-- ==== Sys2Proof/Machine/ThermalOps.lean ====
section
/-! DEFINITION. One temperature sample: sensors, reported temperature, rise rate, levels, host thresholds, and the
start of the thermal halt (R355 to R366). -/

namespace Sys2Proof.Machine

/-! ## Sensors (R357) -/

/-- Tenths of a degree that a reading lies off twice the median, doubled. -/
def offMedian (r m2 : Int) : Nat := (2 * r - m2).natAbs

/-- What a sample finds of one sensor: the record after it, and the cause of an exclusion, 0 deviation, 1 range,
2 conversion fault. `m2` is twice its neighbours' median, none with fewer than two valid neighbours. -/
def checkSensor (x : Sensor) (r : Option Int) (m2 : Option Int) : Sensor × Option Nat :=
  let out : Sensor := { x with excluded := true, valid := false, reading := none, deviate := 0, agree := 0 }
  let new (c : Nat) : Option Nat := if x.excluded then none else some c
  if x.fenced then (out, none)
  else
    match r with
    | none => (out, new 2)
    | some v =>
      if v < -550 ∨ 1500 < v then (out, new 1)
      else if x.excluded then
        let agree := match m2 with
          | some m => if offMedian v m ≤ 120 then x.agree + 1 else 0
          | none => 0
        if 1000 ≤ agree then ({ out with excluded := false, valid := true, reading := some v }, none)
        else ({ out with agree := agree }, none)
      else
        let deviate := match m2 with
          | some m => if 240 < offMedian v m then x.deviate + 1 else 0
          | none => 0
        if 3 ≤ deviate then ({ out with deviate := 3 }, some 0)
        else ({ x with valid := true, reading := some v, deviate := deviate }, none)

/-- The median a sensor is checked against: with fewer than two valid neighbours it is not cross-checked (R357). -/
def checkMedian (s : State) (readings : List (Option Int)) (n : Nat) : Option Int :=
  let l := neighbourReadings s readings n
  if l.length < 2 then none else doubledMedian l

/-- An exclusion is logged and starts the sensor's self-test (R357, R369). -/
def reportExclusion (readings : List (Option Int)) (medians : List (Option Int)) (s : State) (x : Nat × Nat) : State :=
  startTest (sensorUnit x.1) 0x0B05
    (logExcluded x.1 x.2 (readings[x.1]?).join (medians[x.1]?).join s)

/-- Every sensor is checked, each against the valid set of the previous sample (R357). -/
def sampleSensors (readings : List (Option Int)) (s : State) : State :=
  let medians := (List.range 24).map fun n => checkMedian s readings n
  let found := s.thm.sensors.mapIdx fun n x => checkSensor x (readings[n]?).join (medians[n]?).join
  let causes := found.zipIdx.filterMap fun x => x.1.2.map fun c => (x.2, c)
  let s := { s with thm := { s.thm with sensors := found.map (·.1) } }
  causes.foldl (reportExclusion readings medians) s

/-- Readings of the valid sensors. -/
def validReadings (s : State) : List Int := s.thm.sensors.filterMap fun x => if x.valid then x.reading else none

/-- The reported temperature: the highest valid reading, and 105 °C for a group with fewer than two valid sensors
(R356). -/
def reportedTemp (s : State) : Int :=
  let low := sensorGroups.any fun g => decide (((s.thm.sensors.drop g.1).take g.2).countP (·.valid) < 2)
  let ts := validReadings s ++ if low then [1050] else []
  (ts.max?).getD 0

/-- The hottest valid sensor, the lowest number of several; with none valid, a free value. -/
def hottestSensor (s : State) : Nat :=
  match (validReadings s).max? with
  | some t => (s.thm.sensors.findIdx? fun x => x.valid && x.reading == some t).getD 0
  | none => Config.choice s.free % 24

/-! ## Rise rate (R360) -/

/-- Samples of the slope window: 1 s at 10 ms, or 10 s at 1 s. -/
def windowSamples (slow : Bool) : Nat := if slow then 10 else 100

/-- The least-squares slope of readings, newest first, in 0.1 °C for each sample: numerator and denominator. -/
def slope (h : List Int) : Int × Int :=
  let n : Int := h.length
  let pts : List (Int × Int) := h.reverse.mapIdx fun i y => ((i : Int), y)
  let sx := (pts.map (·.1)).sum
  let sy := (pts.map (·.2)).sum
  let sxy := (pts.map fun p => p.1 * p.2).sum
  let sxx := (pts.map fun p => p.1 * p.1).sum
  if h.length < 2 then (0, 1) else (n * sxy - sx * sy, n * sxx - sx * sx)

/-- The rise rate in 0.1 °C/s as a fraction. -/
def riseRate (slow : Bool) (h : List Int) : Int × Int :=
  let f := slope h
  (f.1 * (if slow then 1 else 100), f.2)

/-- The rise rate in whole 0.1 °C/s, rounded down. -/
def wholeRate (f : Int × Int) : Int := f.1 / f.2

/-- The predicted time to throttle in whole seconds (R360). -/
def predicted (f : Int × Int) (temp : Int) (throttled : Bool) : Nat :=
  if f.1 ≤ 0 ∨ throttled = true then 0xFFFF else min 65534 ((1050 - temp) * f.2 / f.1).toNat

/-! ## Throttle (R359 to R361) -/

/-- The guaranteed capture rate of a step in MB/s, rounded down (R361). -/
def guaranteedRate (s : State) (step : Nat) : Nat :=
  let full := healthyDies s * 9375 / 100
  let dies (n : Nat) : Nat := min full (min n s.reg.populated * 3720)
  match step with
  | 0 => full
  | 1 => dies 24
  | 2 => dies 16
  | 3 => dies 8
  | _ => dies 4

/-- THERMAL_THROTTLE (R368, R388). Cause: 0 temperature, 1 rate, 2 die limit. -/
def throttleData (s : State) (temp : Int) (cause : Nat) : BitVec 64 :=
  evData [(2, signed 16 temp), (1, s.thm.step), (1, cause), (4, guaranteedRate s s.thm.step)]

/-- THERMAL_THROTTLE against the hottest valid sensor. -/
def logThrottle (cause : Nat) (s : State) : State :=
  drawn (logSample 0x0B02 (sensorUnit (hottestSensor s)) (throttleData s s.thm.temp cause) s)

/-- Throttle is entered at step 1 (R361); THERM_N follows (R364). -/
def enterThrottle (cause : Nat) (s : State) : State :=
  logThrottle cause { s with thm := { s.thm with level := .throttle, step := 1, thermN := true, predict := 0xFFFF } }

/-- THERMAL_WARN (R368, R388). -/
def enterWarn (s : State) : State :=
  let n := hottestSensor s
  let s := { s with thm := { s.thm with level := .warn } }
  let data := evData [(2, signed 16 s.thm.temp), (1, n), (1, 0), (2, signed 16 s.thm.rate), (2, s.thm.predict)]
  drawn (logSample 0x0B01 (sensorUnit n) data s)

/-- The level a sample below the shutdown threshold leads to (R359). -/
def sampleLevel (s : State) : State :=
  match s.thm.level with
  | .halted => s
  | .throttle => s
  | .warn =>
    if 1050 ≤ s.thm.temp then enterThrottle 0 s
    else if 1000 < s.thm.steepMs then enterThrottle 1 s
    else if 1000 < s.thm.coolMs then { s with thm := { s.thm with level := .normal } }
    else s
  | .normal =>
    if 1050 ≤ s.thm.temp then enterThrottle 0 s
    else if 1000 < s.thm.steepMs then enterThrottle 1 s
    else if (s.thm.warnC : Int) * 10 ≤ s.thm.temp then enterWarn s
    else s

/-! ## Host thresholds (R363) -/

/-- Temperatures of TMPSEL 0 to 5 in kelvin: the composite, then Temperature Sensors 1 to 5. -/
def hostKelvins (s : State) : List Nat := kelvin s.thm.temp :: sensorKelvins s

/-- A temperature has reached its over- or under-temperature threshold. -/
def thresholdCrossed (s : State) : Bool :=
  (hostKelvins s).zipIdx.any fun x =>
    x.1 != 0 && (decide (s.nv.tempOver.getD x.2 0 ≤ x.1) || decide (x.1 ≤ s.nv.tempUnder.getD x.2 0))

/-- Critical warning bit 1 and the two composite temperature times (R363). -/
def hostThermal (period : Nat) (s : State) : State :=
  let s := { s with nv := { s.nv with
    warnMs := if s.thm.level = .normal then s.nv.warnMs else s.nv.warnMs + period
    critMs := if s.thm.temp < 1150 then s.nv.critMs else s.nv.critMs + period } }
  if thresholdCrossed s then criticalBit 1 1 s else clearCritical 1 s

/-! ## Shutdown (R365) -/

/-- The thermal halt starts: steps 1 to 3. A power-loss sequence that runs already goes on with both causes. -/
def startHalt (s : State) : State :=
  let n := hottestSensor s
  let u := sensorUnit n
  let joined := s.life.phase == .lossFlush
  let s := drawn (logEvent 0x0B03 u
    (evData [(2, signed 16 s.thm.temp), (1, n), (1, 0), (4, unwrittenMib s)]) s)
  let s := lastCause 0x0B03 u joined s
  let s := if joined then s else haltAll true stThermalHalt s
  { s with
    life := { s.life with phase := if joined then .lossFlush else .haltFlush }
    thm := { s.thm with level := .halted, thermN := true, predict := 0xFFFF } }

/-! ## One sample (R358 to R365) -/

/-- Reported temperature, slope window, rate, and the times the warn and rate conditions have held. -/
def measureSample (slow : Bool) (s : State) : State :=
  let period := if slow then 1000 else 10
  let temp := reportedTemp s
  let kept := if s.thm.slow = slow then s.thm.history else []
  let history := (temp :: kept).take (windowSamples slow)
  let f := riseRate slow history
  let rate := wholeRate f
  let throttled := s.thm.level == .throttle || s.thm.level == .halted || decide (1050 ≤ temp)
  let since (holds : Bool) (ms : Nat) : Nat := if holds then (if ms = 0 then 1 else ms + period) else 0
  { s with thm := { s.thm with
    temp := temp, history := history, slow := slow, rate := rate
    predict := predicted f temp throttled
    coolMs := since (decide (temp < (s.thm.warnC : Int) * 10 - 30)) s.thm.coolMs
    steepMs := since (decide (50 ≤ rate)) s.thm.steepMs } }

/-- The rate warning; THERMAL_RATE when it begins (R360, R388). -/
def rateWarning (s : State) : State :=
  let holds := decide ((s.thm.rateWarnAt : Int) ≤ s.thm.rate)
  let begins := holds && !s.thm.rateWarn
  let s := { s with thm := { s.thm with rateWarn := holds } }
  if begins then
    logSample 0x0B04 (blockUnit 0x26)
      (evData [(2, signed 16 s.thm.temp), (2, signed 16 s.thm.rate), (2, s.thm.predict), (2, 0)]) s
  else s

/-- A sample of all sensors (R358). -/
def takeSample (readings : List (Option Int)) (s : State) : State :=
  let slow := decide (3 ≤ s.pwr.state)
  let s := rateWarning (measureSample slow (sampleSensors readings s))
  let hot := (validReadings s).any fun t => decide (1200 ≤ t)
  let s := { s with thm := { s.thm with over120 := s.thm.over120 || hot && s.thm.level == .halted } }
  let s := if 1150 ≤ s.thm.temp ∧ s.thm.level ≠ .halted then startHalt s else sampleLevel s
  hostThermal (if slow then 1000 else 10) s

end Sys2Proof.Machine
end

