-- ==== Sys2Proof/Machine/CuminOps.lean ====
section
/-! DEFINITION. What channel scheduler and sequencers share: contexts, registers, the bus, the fetch of a microword,
parked operations, abandoned routines, the end of a routine (R214 to R227). -/

namespace Sys2Proof.Machine

/-! ## Contexts and registers (R220, R222) -/

/-- A running context changed. -/
def updateContext (die : Nat) (f : Context → Context) (s : State) : State :=
  updateDie die (fun d => { d with running := d.running.map f }) s

/-- A register read (R222). -/
def readReg (s : State) (d : Die) (c : Context) (n : Nat) : Word32 :=
  match n with
  | 0 => 0
  | 12 => match c.stack with
    | [] => c.regs.getD 12 0
    | a :: _ => BitVec.ofNat 32 a
  | 13 => BitVec.ofNat 32 (s.clk.us - c.startedUs)
  | 14 => BitVec.ofNat 32 d.featureGen
  | 15 => c.job.id
  | _ => c.regs.getD n 0

/-- A register written: ZERO and the read-only registers discard it (R222). -/
def writeReg (n : Nat) (v : Word32) (c : Context) : Context :=
  if 1 ≤ n ∧ n ≤ 10 then { c with regs := c.regs.set n v } else c

/-- On to the next microword. -/
def nextWord (c : Context) : Context := { c with pc := c.pc + 1 }

/-- A branch taken or not. -/
def branch (taken : Bool) (target : Nat) (c : Context) : Context := if taken then { c with pc := target } else nextWord c

/-! ## The bus (R209, R214, R220) -/

/-- Channel of a die index. -/
def chanIdx (die : Nat) : Nat := die / 32

/-- A die's context owns the bus (R214). -/
def busFor (s : State) (die : Nat) : Bool := (chanOf s (chanIdx die)).bus == some (die % 32)

/-- The chip enable a bus microword asserts: the one CE selects, else the context's own (R209, R220). -/
def chipFor (s : State) (d : Die) (c : Context) (op : Nat) (src : Option Nat) : Nat :=
  if op = 0x15 then (readReg s d c (src.getD 0)).toNat % 8 else c.ce

/-- A chip enable of a channel is asserted, and no other (R209). -/
def assertChip (ch ce : Nat) (s : State) : State :=
  if (chanOf s ch).ce = some ce then s else emit (.chipEnable ch ce) (updateChan ch (fun c => { c with ce := some ce }) s)

/-- The die a command reaches: behind the chip enable selected, the LUN of the row address in ROW (R14, R209). -/
def lunTarget (s : State) (die : Nat) (d : Die) (c : Context) : Nat :=
  32 * chanIdx die + 4 * c.ce + Config.rowLun d.qual (readReg s d c 7) % 4

/-- A release point: the bus comes free if the context owned it. -/
def releaseBus (die : Nat) (s : State) : State :=
  updateChan (chanIdx die) (fun c => if c.bus = some (die % 32) then { c with bus := none } else c) s

/-- Bytes sent on a channel bus, the first one first. -/
def sendBytes (die : Nat) (command : Bool) (bs : List Byte) (s : State) : State :=
  bs.foldl (fun s b => emit (.bus (chanIdx die) command b) s) s

/-! ## Parked operations and abandoned routines (R215, R225, R226) -/

/-- A parked routine continues; the time it was parked does not count in TIME (R215, R222). -/
def unpark (die : Nat) (s : State) : State :=
  updateDie die (fun d =>
    match d.parked with
    | none => d
    | some c => { d with
        running := some { c with startedUs := c.startedUs + (s.clk.us - d.parkedUs) }, parked := none, readsServed := 0 }) s

/-- SEQ_ROUTINE_RESTART (R231, R388). Reason: 1 read, 2 patch load, 3 halt. -/
def logRestart (die reason : Nat) (c : Context) (s : State) : State :=
  logEvent 0x0505 (dieUnit die) (evData [(1, c.job.vector), (1, reason), (2, c.pc), (4, c.job.id.toNat)]) s

/-- A routine before COMMIT ends and its job goes back to the front of its queue; one past COMMIT is left alone. A job
abandoned for a read is remembered (R225). -/
def abandon (die reason : Nat) (s : State) : State :=
  match findDie s die with
  | none => s
  | some d =>
    match d.running with
    | none => s
    | some c =>
      if c.committed then s
      else
        logRestart die reason c (releaseBus die (updateDie die (fun d => { d with
          running := none, queue := c.job :: d.queue
          abandoned := if reason = 1 then c.job.id :: d.abandoned else d.abandoned }) (restContext die s)))

/-- Indices of the dies of a channel. -/
def diesOf (s : State) (ch : Nat) : List Nat := (s.med.dies.filter fun d => chanIdx d.index == ch).map (·.index)

/-- A channel is held for a patch load: no job starts, routines before COMMIT are abandoned, parked operations resume
(R229). -/
def holdChannel (ch : Nat) (s : State) : State :=
  let s := updateChan ch (fun c => { c with state := if c.state == .running then .loading else c.state }) s
  (diesOf s ch).foldl (fun s d => unpark d (abandon d 2 s)) s

/-- A held channel takes jobs again. -/
def freeChannel (ch : Nat) (s : State) : State :=
  updateChan ch (fun c => { c with state := if c.state == .loading then .running else c.state }) s

/-! ## Control store (R221) -/

/-- ROM only: no patch, no redirected vector. -/
def withdrawPatch (c : Channel) : Channel :=
  { c with patchVersion := 0, patchValid := false, patch := [], vectors := [], expected := 0, mismatch := false }

/-- The routine a word that cannot be corrected ends: before COMMIT its job goes back to its queue; after it the die is
stale, for a cause the list of R219 does not hold, and a program is handled as failed (R221). -/
def endForStore (die : Nat) (s : State) : State :=
  match (findDie s die).bind (·.running) with
  | none => s
  | some c =>
    let s := releaseBus die s
    if c.committed then drawn (markStale die (Config.choice s.free % 256) (loseOperation die s)) else loseOperation die s

/-- CS_CORRECTED (R221, R388): the correction is counted. -/
def storeCorrected (ch word bit : Nat) (s : State) : State :=
  let s := updateChan ch (fun c => { c with corrections := sat 32 (c.corrections + 1) }) s
  logEvent 0x0506 (channelUnit ch)
    (evData [(2, word), (1, bit), (1, flag (decide (12288 ≤ word))), (4, (chanOf s ch).corrections)]) s

/-- A ROM word with a wrong bit is corrected again as a context fetches it (R221). -/
def fetchCorrects (ch pc : Nat) (s : State) : State :=
  match (chanOf s ch).badWords.find? fun x => x.1 == pc with
  | some x => storeCorrected ch x.1 x.2 s
  | none => s

/-- Dies of a channel whose routine is at a word that meets `p`. -/
def routinesAt (s : State) (ch : Nat) (p : Nat → Bool) : List Nat :=
  (s.med.dies.filter fun d => chanIdx d.index == ch && d.running.any fun c => p c.pc).map (·.index)

/-- CS_UNCORRECTABLE with what follows: in patch RAM the patch is withdrawn and the channel tested; in ROM the channel
fails its control-store check (R221, R369). Kind: 0 double-bit, 1 reserved opcode. The routines that end are those at
the word, and with a patch withdrawn all that run in patch RAM (log entry 176). -/
def storeUncorrectable (ch word kind die : Nat) (s : State) : State :=
  let inPatch := decide (12288 ≤ word)
  let s := logEvent 0x0507 (channelUnit ch) (evData [(2, word), (1, kind), (1, flag !inPatch), (2, die), (2, 0)]) s
  let s := (routinesAt s ch fun pc => pc == word || (inPatch && decide (12288 ≤ pc))).foldl (fun s d => endForStore d s) s
  if inPatch then startTest (channelUnit ch) 0x0507 (bumpGolden (updateChan ch withdrawPatch s))
  else lastingFault (channelUnit ch) 0x0507 0 s

/-- What the fetch of a context's next microword gives: a ROM word, which the command itself names since the manual
prints the ROM of no routine but one; a word of patch RAM, or none there. -/
inductive Fetched where
  | rom
  | patch (w : Word32)
  | nothing
deriving DecidableEq, Repr

/-- The fetch at a context's program counter (R221). -/
def fetchMicro (s : State) (die : Nat) (c : Context) : Fetched :=
  if c.pc < 12288 then .rom
  else match (chanOf s (chanIdx die)).patch[c.pc - 12288]? with
    | some w => .patch w
    | none => .nothing

/-- Microwords are issued: supplies are good, the channel's clocks run and it is not fenced. -/
def sequencerRuns (s : State) (die : Nat) : Bool :=
  (s.life.phase == .service || s.life.phase == .lossFlush || s.life.phase == .haltFlush) &&
    ((chanOf s (chanIdx die)).state == .running || (chanOf s (chanIdx die)).state == .loading)

/-- A microword is issued by the routine of a die (R220 to R223, R227). Nothing happens when no routine runs there,
when patch RAM holds another word, or while a bus microword waits for the bus. `k` gets die, context and the state in
which a bus microword's chip enable is asserted. -/
def issue (die op : Nat) (dst src imm : Option Nat) (afterCommit bus : Bool) (k : Die → Context → State → Result)
    (s : State) : Result :=
  match findDie s die with
  | none => .next s
  | some d =>
    match d.running with
    | none => .next s
    | some c =>
      if sequencerRuns s die = false then .next s
      else
        let go : Result :=
          let t := fetchCorrects (chanIdx die) c.pc s
          if afterCommit && !c.committed then .fault .microwordBeforeCommit
          else if bus = false then k d c t
          else if busFor s die then k d c (assertChip (chanIdx die) (chipFor s d c op src) t)
          else .next s
        match fetchMicro s die c with
        | .rom => go
        | .nothing => .next s
        | .patch w =>
          if reservedMicro w then .next (storeUncorrectable (chanIdx die) c.pc 1 die s)
          else if spells w op dst src imm then go
          else .next s

/-- A microword that changes only its context. -/
def issueLocal (die op : Nat) (dst src imm : Option Nat) (f : State → Die → Context → Context) (s : State) : Result :=
  issue die op dst src imm false false (fun d c s => .next (updateContext die (fun _ => f s d c) s)) s

/-- A bus microword that emits something and goes on. -/
def issueBus (die op : Nat) (dst src imm : Option Nat) (afterCommit : Bool) (f : Die → Context → State → State)
    (s : State) : Result :=
  issue die op dst src imm afterCommit true (fun d c s => .next (updateContext die nextWord (f d c s))) s

/-! ## Die temperatures (R216, R217, R362) -/

/-- A temperature reading enters the die-state table; a die that reaches its limit starts no program or erase until it
reads 3 °C below it, and THERMAL_THROTTLE is logged once for the episode. -/
def takeDieTemp (die : Nat) (celsius : Int) (s : State) : State :=
  let s := updateDie die (fun d => { d with temp := celsius, tempUs := s.clk.us }) s
  let hot := s.thm.hotDies.contains die
  if (s.thm.dieLimitC : Int) ≤ celsius ∧ hot = false then
    logEvent 0x0B02 (dieUnit die) (throttleData s (celsius * 10) 2)
      { s with thm := { s.thm with hotDies := die :: s.thm.hotDies } }
  else if celsius ≤ (s.thm.dieLimitC : Int) - 3 then
    { s with thm := { s.thm with hotDies := s.thm.hotDies.filter (· != die) } }
  else s

/-! ## Commands to the die (R207, R215, R219, R223) -/

/-- A command byte that starts a program or an erase: the run time counts from it (R215). -/
def startsOperation (b : Nat) : Bool := b == 0x10 || b == 0x15 || b == 0xD0

/-- A command byte that resets the die or its LUN (R207). -/
def resetsDie (b : Nat) : Bool := b == 0xFA || b == 0xFC || b == 0xFF

/-- CMD bytes that only a committed path may send (R223). -/
def needsCommit (b : Nat) : Bool := startsOperation b || resetsDie b

/-- A LUN reset reaches a die: its suspended operation is lost and it is stale (R219). -/
def lunReset (die : Nat) (s : State) : State := markStale die 1 (loseParked die s)

/-- The dies a reset byte reaches: 0xFA the LUN of ROW, the others every LUN behind the chip enable (R207, R209;
PRESUMED, log entry 176). -/
def resetTargets (b target : Nat) : List Nat :=
  if b = 0xFA then [target]
  else if resetsDie b then (List.range 4).map fun l => target / 4 * 4 + l
  else []

/-- A command byte is sent. -/
def sendCommand (die b target : Nat) (s : State) : State :=
  let s := sendBytes die true [BitVec.ofNat 8 b] s
  let s := if startsOperation b then updateDie die (fun d => { d with runFromUs := s.clk.us }) s else s
  (resetTargets b target).foldl (fun s d => lunReset d s) s

/-- What kind of operation a job suspends. -/
def suspendKind (j : Job) : Suspended :=
  match j.kind with
  | .program => .program
  | .erase => .erase
  | .read => .none

/-- Status read while a suspend was sent: a die that is ready and not suspended has ended its operation, and the suspend
does not count (R210, R215). -/
def settleSuspend (die : Nat) (status : BitVec 8) (s : State) : State :=
  if status.getLsbD 6 && !status.getLsbD 2 then
    updateDie die (fun d =>
      if d.suspended = .none then d else { d with suspended := .none, suspends := d.suspends - 1 }) s
  else s

/-- What a data-out burst of `n` bytes takes from the FIFO; bytes the hub has not placed there are free values (R223).
-/
def burstBytes (s : State) (c : Context) (n : Nat) : List Byte :=
  c.fifo.take n ++ (List.range (n - c.fifo.length)).map fun i => BitVec.ofNat 8 (Config.choice (s.free + i))

/-- A data-out burst that fails byte parity at W12 ends a program routine before COMMIT, which restarts; the reason
byte of its restart, the byte lane and the LBA are free values (R253, R369). -/
def burstParity (die : Nat) (s : State) : State :=
  let lane := Config.choice s.free % 256
  let reason := 4 + Config.choice (s.free + 1) % 252
  let lba := Config.choice (s.free + 2) % 2 ^ 32
  let u := channelUnit (chanIdx die)
  abandon die reason (busParity 0x0C u u lane 0 0 lba { s with free := s.free + 3 })

/-- 0 bits among bytes (R234). -/
def zeroBitsOf (bs : List Byte) : Nat := (bs.map fun b => (List.range 8).countP fun i => !b.getLsbD i).sum

/-- Saffron counter `n` (R223). -/
def hubCounter (s : State) (n : Nat) : Nat :=
  match s.med.hubCounters.find? fun x => x.1 == n with
  | some x => x.2
  | none => 0

/-! ## The end of a routine (R223, R224) -/

/-- A routine ends and reports: the bus comes free, a read served while an operation is parked is counted, and an
operation that ends takes its suspend count with it. -/
def endRoutine (die : Nat) (c : Context) (ok : Bool) (value : Word32) (s : State) : State :=
  let s := releaseBus die (restContext die s)
  let s := updateDie die (fun d =>
    let d : Die := { d with
      running := none, abandoned := d.abandoned.filter (· != c.job.id), arrivals := d.arrivals.filter (·.1 != c.job.id) }
    if d.parked.isSome then { d with readsServed := d.readsServed + 1 }
    else { d with suspended := .none, suspends := 0 }) s
  emit (.routineEnd die ok value) s

/-- What the Mace core and firmware do with a failure code (R224, R226, R231, R369). -/
def routineFailed (die code : Nat) (time status : Word32) (j : Job) (s : State) : State :=
  match code with
  | 0x01 => programFailed die j.superblock j.row (status.toNat % 256) s
  | 0x02 => eraseFailed die j.superblock (status.toNat % 256) s
  | 0x03 =>
    let s := updateDie die (fun d => { d with timeouts := sat 8 (d.timeouts + 1) }) s
    let n := ((findDie s die).map (·.timeouts)).getD 0
    let s := logEvent 0x0503 (dieUnit die) (evData [(1, j.vector), (1, 0), (2, n), (4, time.toNat)]) s
    let s := startTest (dieUnit die) 0x0503 (markStale die 2 s)
    if j.kind = .program then
      let s := abandonSb die j.superblock s
      (replacePosition die j.superblock s).1
    else s
  | 0x04 => if j.kind = .erase then updateSb j.superblock (fun b => { b with blankPending := true }) s else s
  | 0x05 => updateDie die (fun d => { d with queue := j :: d.queue }) s
  | _ => s

end Sys2Proof.Machine
end

