-- ==== Sys2Proof/Machine/Cumin.lean ====
section
/-! DEFINITION. The 44 microwords of the Cumin sequencers, one command each: the microword the routine of a die issues
(R222, R223, R226). -/

namespace Sys2Proof.Machine

/-- A register-to-register microword. -/
def regOp (die op : Nat) (dst src : Fin 16) (f : Word32 → Word32 → Word32) (s : State) : Result :=
  issueLocal die op (some dst.val) (some src.val) none (fun s d c =>
    nextWord (writeReg dst.val (f (readReg s d c dst.val) (readReg s d c src.val)) c)) s

/-- A microword of a register and an immediate, which is zero-extended (R222). -/
def immOp (die op : Nat) (dst : Fin 16) (imm : BitVec 18) (f : Word32 → Word32 → Word32) (s : State) : Result :=
  issueLocal die op (some dst.val) none (some imm.toNat) (fun s d c =>
    nextWord (writeReg dst.val (f (readReg s d c dst.val) (imm.setWidth 32)) c)) s

/-- A branch on the flags. -/
def flagBranch (die op : Nat) (imm : BitVec 18) (taken : Context → Bool) (s : State) : Result :=
  issueLocal die op none none (some imm.toNat) (fun _ _ c => branch (taken c) imm.toNat c) s

/-- A branch on one bit of a register. -/
def bitBranch (die op : Nat) (bit src : Fin 16) (imm : BitVec 18) (want : Bool) (s : State) : Result :=
  issueLocal die op (some bit.val) (some src.val) (some imm.toNat) (fun s d c =>
    branch ((readReg s d c src.val).getLsbD bit.val == want) imm.toNat c) s

/-! ## Arithmetic, flags, the descriptor (R223) -/

/-- R223, 0x00: none. -/
def execCuNop (die : Fin 1024) (s : State) : Result :=
  issueLocal die.val 0x00 none none none (fun _ _ c => nextWord c) s

/-- R223, 0x01: dst ← imm. -/
def execCuMovi (die : Fin 1024) (dst : Fin 16) (imm : BitVec 18) (s : State) : Result :=
  immOp die.val 0x01 dst imm (fun _ i => i) s

/-- R223, 0x02: dst ← src. -/
def execCuMov (die : Fin 1024) (dst src : Fin 16) (s : State) : Result :=
  regOp die.val 0x02 dst src (fun _ b => b) s

/-- R223, 0x03: dst ← dst + src. -/
def execCuAdd (die : Fin 1024) (dst src : Fin 16) (s : State) : Result :=
  regOp die.val 0x03 dst src (fun a b => a + b) s

/-- R223, 0x04: dst ← dst + imm. -/
def execCuAddi (die : Fin 1024) (dst : Fin 16) (imm : BitVec 18) (s : State) : Result :=
  immOp die.val 0x04 dst imm (fun a i => a + i) s

/-- R223, 0x05: dst ← dst − src. -/
def execCuSub (die : Fin 1024) (dst src : Fin 16) (s : State) : Result :=
  regOp die.val 0x05 dst src (fun a b => a - b) s

/-- R223, 0x06: dst ← dst AND src. -/
def execCuAnd (die : Fin 1024) (dst src : Fin 16) (s : State) : Result :=
  regOp die.val 0x06 dst src (fun a b => a &&& b) s

/-- R223, 0x07: dst ← dst OR src. -/
def execCuOr (die : Fin 1024) (dst src : Fin 16) (s : State) : Result :=
  regOp die.val 0x07 dst src (fun a b => a ||| b) s

/-- R223, 0x08: dst ← dst shifted left by imm[4:0]. -/
def execCuShli (die : Fin 1024) (dst : Fin 16) (imm : BitVec 18) (s : State) : Result :=
  immOp die.val 0x08 dst imm (fun a i => a <<< (i.toNat % 32)) s

/-- R223, 0x09: dst ← dst shifted right by imm[4:0]. -/
def execCuShri (die : Fin 1024) (dst : Fin 16) (imm : BitVec 18) (s : State) : Result :=
  immOp die.val 0x09 dst imm (fun a i => a >>> (i.toNat % 32)) s

/-- R223, 0x0A: Z ← (dst = imm); N ← (dst < imm). -/
def execCuCmpi (die : Fin 1024) (dst : Fin 16) (imm : BitVec 18) (s : State) : Result :=
  issueLocal die.val 0x0A (some dst.val) none (some imm.toNat) (fun s d c =>
    let a := readReg s d c dst.val
    nextWord { c with z := a.toNat == imm.toNat, n := decide (a.toNat < imm.toNat) }) s

/-- R223, 0x0B: dst ← job descriptor word imm[2:0]. -/
def execCuLdd (die : Fin 1024) (dst : Fin 16) (imm : BitVec 18) (s : State) : Result :=
  issueLocal die.val 0x0B (some dst.val) none (some imm.toNat) (fun _ _ c =>
    nextWord (writeReg dst.val (c.job.descriptor.getD (imm.toNat % 8) 0) c)) s

/-- R211, R223, 0x0C: dst ← qualification entry word imm[7:0]; the list is not in the manual, so the word is a free
value. -/
def execCuLdq (die : Fin 1024) (dst : Fin 16) (imm : BitVec 18) (s : State) : Result :=
  issueLocal die.val 0x0C (some dst.val) none (some imm.toNat) (fun _ d c =>
    nextWord (writeReg dst.val (Config.qualification d.qual (imm.toNat % 256)) c)) s

/-! ## Branches and calls (R220, R223, R227) -/

/-- R223, 0x0D: jump. -/
def execCuJmp (die : Fin 1024) (imm : BitVec 18) (s : State) : Result :=
  flagBranch die.val 0x0D imm (fun _ => true) s

/-- R223, 0x0E: branch if Z. -/
def execCuBz (die : Fin 1024) (imm : BitVec 18) (s : State) : Result :=
  flagBranch die.val 0x0E imm (fun c => c.z) s

/-- R223, 0x0F: branch if not Z. -/
def execCuBnz (die : Fin 1024) (imm : BitVec 18) (s : State) : Result :=
  flagBranch die.val 0x0F imm (fun c => !c.z) s

/-- R223, 0x10: branch if a bit of src is 1. -/
def execCuBbs (die : Fin 1024) (bit src : Fin 16) (imm : BitVec 18) (s : State) : Result :=
  bitBranch die.val 0x10 bit src imm true s

/-- R223, 0x11: branch if that bit is 0. -/
def execCuBbc (die : Fin 1024) (bit src : Fin 16) (imm : BitVec 18) (s : State) : Result :=
  bitBranch die.val 0x11 bit src imm false s

/-- R223, 0x12: dst ← dst − 1; branch if dst ≠ 0. -/
def execCuDjnz (die : Fin 1024) (dst : Fin 16) (imm : BitVec 18) (s : State) : Result :=
  issueLocal die.val 0x12 (some dst.val) none (some imm.toNat) (fun s d c =>
    let c := writeReg dst.val (readReg s d c dst.val - 1) c
    branch (readReg s d c dst.val != 0) imm.toNat c) s

/-- R220, R223, 0x13: push return address; jump. The stack has four entries. -/
def execCuCall (die : Fin 1024) (imm : BitVec 18) (s : State) : Result :=
  issue die.val 0x13 none none (some imm.toNat) false false (fun _ c s =>
    if 4 ≤ c.stack.length then .fault .callDepth
    else .next (updateContext die.val (fun c => { c with stack := (c.pc + 1) :: c.stack, pc := imm.toNat }) s)) s

/-- R220, R223, 0x14: pop and jump. -/
def execCuRet (die : Fin 1024) (s : State) : Result :=
  issue die.val 0x14 none none none false false (fun _ c s =>
    match c.stack with
    | [] => .fault .callStackEmpty
    | a :: rest => .next (updateContext die.val (fun c => { c with stack := rest, pc := a }) s)) s

/-! ## The channel bus (R209, R223) -/

/-- R223, 0x15: select chip enable src[2:0]. -/
def execCuCe (die : Fin 1024) (src : Fin 16) (s : State) : Result :=
  issue die.val 0x15 none (some src.val) none false true (fun d c s =>
    .next (updateContext die.val (fun x => nextWord { x with ce := (readReg s d c src.val).toNat % 8 }) s)) s

/-- R223, 0x16: send command byte imm[7:0]; six of them only after COMMIT. -/
def execCuCmd (die : Fin 1024) (imm : BitVec 18) (s : State) : Result :=
  issueBus die.val 0x16 none none (some imm.toNat) (needsCommit (imm.toNat % 256)) (fun d c s =>
    sendCommand die.val (imm.toNat % 256) (lunTarget s die.val d c) s) s

/-- R223, 0x17: send command byte src[7:0]. -/
def execCuCmdr (die : Fin 1024) (src : Fin 16) (s : State) : Result :=
  issueBus die.val 0x17 none (some src.val) none true (fun d c s =>
    sendCommand die.val ((readReg s d c src.val).toNat % 256) (lunTarget s die.val d c) s) s

/-- R223, 0x18: send the low count bytes of src, 1 to 5, least significant first; a fifth byte lies above the 32 bits
of the register and is 0. -/
def execCuAddr (die : Fin 1024) (count src : Fin 16) (s : State) : Result :=
  if 1 ≤ count.val ∧ count.val ≤ 5 then
    issueBus die.val 0x18 (some count.val) (some src.val) none false (fun d c s =>
      sendBytes die.val false (leBytes count.val (readReg s d c src.val).toNat) s) s
  else
    issue die.val 0x18 (some count.val) (some src.val) none false true (fun _ _ _ => .fault .addressCount) s

/-- R223, R253, 0x19: a data-out burst of imm bytes from the channel write FIFO; a program routine before COMMIT whose
burst fails byte parity is abandoned. -/
def execCuDout (die : Fin 1024) (imm : BitVec 18) (parityOk : Bool) (s : State) : Result :=
  issue die.val 0x19 none none (some imm.toNat) false true (fun _ c s =>
    let bytes := burstBytes s c imm.toNat
    let s := emit (.dataOut (chanIdx die.val) bytes) { s with free := s.free + (imm.toNat - c.fifo.length) }
    let s := updateContext die.val (fun c => { c with fifo := c.fifo.drop imm.toNat }) s
    if parityOk || c.committed || c.job.kind != .program then .next (updateContext die.val nextWord s)
    else .next (burstParity die.val s)) s

/-- R223, R234, 0x1A: a data-in burst of imm bytes to the LDPC decoder; its 0 bits are counted. -/
def execCuDin (die : Fin 1024) (imm : BitVec 18) (bytes : List (BitVec 8)) (s : State) : Result :=
  issueBus die.val 0x1A none none (some imm.toNat) false (fun _ _ s =>
    updateChan (chanIdx die.val) (fun c => { c with zeroBits := some (zeroBitsOf bytes) })
      (emit (.dataIn (chanIdx die.val) bytes) s)) s

/-- R223, 0x1B: wait imm cycles, bus held. -/
def execCuWaitc (die : Fin 1024) (imm : BitVec 18) (s : State) : Result :=
  issue die.val 0x1B none none (some imm.toNat) false true (fun _ _ s =>
    .next (updateContext die.val (fun c => nextWord { c with waitCycles := c.waitCycles + imm.toNat }) s)) s

/-- R220, R223, 0x1C: wait imm µs, bus released. -/
def execCuWaitu (die : Fin 1024) (imm : BitVec 18) (s : State) : Result :=
  issue die.val 0x1C none none (some imm.toNat) false false (fun _ _ s =>
    .next (releaseBus die.val
      (updateContext die.val (fun c => nextWord { c with waitUs := c.waitUs + imm.toNat }) s))) s

/-- R223, 0x1D: wait qualification timing imm, bus held; how long is in the qualification entry, which the manual does
not print (R211). -/
def execCuWaitq (die : Fin 1024) (imm : BitVec 18) (s : State) : Result :=
  issue die.val 0x1D none none (some imm.toNat) false true (fun d _ s =>
    let cycles := (Config.qualification d.qual (0x30000 + imm.toNat)).toNat
    .next (updateContext die.val (fun c => nextWord { c with waitCycles := c.waitCycles + cycles }) s)) s

/-- R215, R223, 0x1E: STAT ← status of the LUN in ROW. -/
def execCuStatr (die : Fin 1024) (status : BitVec 8) (s : State) : Result :=
  issue die.val 0x1E none none none false true (fun d c s =>
    let s := emit (.busOp (chanIdx die.val) 0x1E 0 (readReg s d c 7)) (settleSuspend (lunTarget s die.val d c) status s)
    .next (updateContext die.val (fun c => nextWord (writeReg 10 (status.setWidth 32) c)) s)) s

/-- R223, 0x1F: Set Features, address imm[7:0], 4 bytes from src. -/
def execCuSetf (die : Fin 1024) (src : Fin 16) (imm : BitVec 18) (s : State) : Result :=
  issueBus die.val 0x1F none (some src.val) (some imm.toNat) false (fun d c s =>
    emit (.busOp (chanIdx die.val) 0x1F (imm.toNat % 256) (readReg s d c src.val)) s) s

/-- R223, 0x20: Get Features, address imm[7:0] into dst. -/
def execCuGetf (die : Fin 1024) (dst : Fin 16) (imm : BitVec 18) (value : BitVec 32) (s : State) : Result :=
  issue die.val 0x20 (some dst.val) none (some imm.toNat) false true (fun _ _ s =>
    let s := emit (.busOp (chanIdx die.val) 0x20 (imm.toNat % 256) 0) s
    .next (updateContext die.val (fun c => nextWord (writeReg dst.val value c)) s)) s

/-- R217, R223, 0x21: read die temperature into dst; update the die-state table. -/
def execCuTemp (die : Fin 1024) (dst : Fin 16) (celsius : Int) (s : State) : Result :=
  issue die.val 0x21 (some dst.val) none none false true (fun _ _ s =>
    let s := takeDieTemp die.val celsius (emit (.busOp (chanIdx die.val) 0x21 0 0) s)
    .next (updateContext die.val (fun c => nextWord (writeReg dst.val (BitVec.ofInt 32 celsius) c)) s)) s

/-! ## COMMIT, YIELD, suspension (R215, R223, R226) -/

/-- R223, R227, 0x22: commit point of the routine, once per path; the run time counts from here until a confirm
command. -/
def execCuCommit (die : Fin 1024) (s : State) : Result :=
  issue die.val 0x22 none none none false false (fun _ c s =>
    if c.committed then .fault .commitTwice
    else
      let s := updateDie die.val (fun d => { d with runFromUs := s.clk.us }) s
      .next (updateContext die.val (fun c => nextWord { c with committed := true }) s)) s

/-- R223, R226, 0x23: a pending request is taken by branching with REQ set, and is cleared; REQ is 0 when none was
taken. -/
def execCuYield (die : Fin 1024) (imm : BitVec 18) (s : State) : Result :=
  issue die.val 0x23 none none (some imm.toNat) true false (fun _ c s =>
    let regs := c.regs.set 11 (BitVec.ofNat 32 c.request)
    let taken := c.request != 0
    .next (releaseBus die.val
      (updateContext die.val (fun c => branch taken imm.toNat { c with regs := regs, request := 0 }) s))) s

/-- R215, R223, 0x24: save the context and free the die for class 1 reads. -/
def execCuPark (die : Fin 1024) (s : State) : Result :=
  issue die.val 0x24 none none none true false (fun _ c s =>
    .next (releaseBus die.val (updateDie die.val (fun d => { d with
      running := none, parked := some (nextWord c), parkedUs := s.clk.us, contextSlot := die.val % 32, readsServed := 0 })
      (restContext die.val s)))) s

/-- R215, R223, 0x25: send the die's suspend command; the suspend counts unless the operation turns out to have ended.
-/
def execCuSusp (die : Fin 1024) (s : State) : Result :=
  issueBus die.val 0x25 none none none true (fun _ c s =>
    let s := emit (.busOp (chanIdx die.val) 0x25 0 0) s
    updateDie die.val (fun d => { d with suspended := suspendKind c.job, suspends := min 8 (d.suspends + 1) }) s) s

/-- R215, R223, 0x26: send the die's resume command; the run time counts again. -/
def execCuRsm (die : Fin 1024) (s : State) : Result :=
  issueBus die.val 0x26 none none none true (fun _ _ s =>
    let s := emit (.busOp (chanIdx die.val) 0x26 0 0) s
    updateDie die.val (fun d => { d with suspended := .none, runFromUs := s.clk.us }) s) s

/-- R219, R223, 0x27: LUN reset of the LUN in ROW, which is stale from then on. -/
def execCuLrst (die : Fin 1024) (s : State) : Result :=
  issueBus die.val 0x27 none none none true (fun d c s =>
    lunReset (lunTarget s die.val d c) (emit (.busOp (chanIdx die.val) 0x27 0 (readReg s d c 7)) s)) s

/-! ## Reports and training (R223, R224) -/

/-- R223, 0x28: add 1 to Saffron counter imm. -/
def execCuHubinc (die : Fin 1024) (imm : BitVec 18) (s : State) : Result :=
  issue die.val 0x28 none none (some imm.toNat) true false (fun _ _ s =>
    let n := hubCounter s imm.toNat + 1
    let rest := s.med.hubCounters.filter fun x => x.1 != imm.toNat
    let s := { s with med := { s.med with hubCounters := (imm.toNat, n) :: rest } }
    .next (updateContext die.val nextWord s)) s

/-- R223, 0x29: end the routine; report success and src. -/
def execCuDone (die : Fin 1024) (src : Fin 16) (s : State) : Result :=
  issue die.val 0x29 none (some src.val) none false false (fun d c s =>
    .next (endRoutine die.val c true (readReg s d c src.val) s)) s

/-- R223, R224, 0x2A: end the routine; report failure code imm. -/
def execCuFailr (die : Fin 1024) (imm : BitVec 18) (s : State) : Result :=
  issue die.val 0x2A none none (some imm.toNat) false false (fun d c s =>
    .next (routineFailed die.val imm.toNat (readReg s d c 13) (readReg s d c 10) c.job
      (endRoutine die.val c false (imm.setWidth 32) s))) s

/-- R216, R219, R223, 0x2B: run interface training step imm; the DQ delays it finds are free values, and the dies of the
channel are stale. -/
def execCuTrain (die : Fin 1024) (imm : BitVec 18) (s : State) : Result :=
  issueBus die.val 0x2B none none (some imm.toNat) false (fun _ _ s =>
    let delays := Config.word s.free ++ Config.word (s.free + 1)
    let s := emit (.busOp (chanIdx die.val) 0x2B imm.toNat 0) { s with free := s.free + 2 }
    let s := updateDie die.val (fun d => { d with dqDelays := delays }) s
    (diesOf s (chanIdx die.val)).foldl (fun s d => markStale d 3 s) s) s

end Sys2Proof.Machine
end

