-- ==== Sys2Proof/Machine/Flags.lean ====
section
/-! DEFINITION. The registers of the device register space as reads find them: every field of every field table, and
what each phase answers (R8, R34, R119 to R133, R230, R279, R294, R317, R321, R329, R341, R367, R383, R387, R410 to
R423). -/

namespace Sys2Proof.Machine

/-- Fields laid from bit 0 upward, each given as width and value. -/
def packBits : List (Nat × Nat) → Nat
  | [] => 0
  | (w, v) :: r => v % 2 ^ w + 2 ^ w * packBits r

/-- Bits of a list of flags, the first at bit 0. -/
def packFlags : List Bool → Nat
  | [] => 0
  | b :: r => flag b + 2 * packFlags r

/-- A 32-bit word of a byte list. -/
def wordAt (bs : List Byte) (off : Nat) : Nat := leNat ((bs.drop off).take 4)

/-! ## Clock domains and PLLs (R34, R321, R329) -/

/-- Domain 58 and 59 run in MANUFACTURE and FIELD_OPENED only (R321). -/
def diagnostic (s : State) : Bool := s.sec.port == .manufacture || s.sec.port == .opened

/-- A domain is clocked (R329, R365). -/
def clocked (s : State) (d : Nat) : Bool :=
  let k := s.pwr.state
  if d = 21 then true
  else
    match s.life.phase with
    | .halted => d == 3 || d == 4
    | .lossDone => false
    | .off => false
    | .inReset => false
    | .p4 => false
    | _ =>
      if d ≤ 2 ∨ d = 19 ∨ d = 20 then decide (k < 3)
      else if d ≤ 4 then true
      else if d ≤ 13 then s.link.state != .down
      else if d ≤ 18 then decide (k < 3)
      else if d = 22 ∨ d = 23 ∨ d = 24 ∨ d = 57 then decide (k < 3)
      else if d ≤ 56 then decide (k < 2) || (k == 2 && s.med.channels.any fun c => c.state == .running)
      else d < 60 && diagnostic s

/-- PLL that feeds a domain (R321); 21, 58 and 59 have none. -/
def pllOf (d : Nat) : Option Nat :=
  if d ≤ 1 then some 0
  else if d = 3 then some 2
  else if d ≤ 4 then some 1
  else if d ≤ 8 then some 3
  else if d ≤ 13 then some 4
  else if d ≤ 18 then some 5
  else if d ≤ 20 ∨ (22 ≤ d ∧ d ≤ 24) ∨ d = 57 then some 1
  else if 25 ≤ d ∧ d ≤ 28 ∨ d = 30 ∨ d = 37 ∨ d = 44 ∨ d = 51 then some 6
  else if 29 ≤ d ∧ d ≤ 56 then some 7
  else none

/-- A PLL runs while any domain it feeds is ungated (R322). -/
def pllRuns (s : State) (p : Nat) : Bool := (List.range 60).any fun d => pllOf d == some p && clocked s d

/-! ## Identification (R418) -/

/-- ID_ registers but the wide pairs. -/
def idRegister (s : State) (o : Nat) : Nat :=
  match o with
  | 0x00 => packBits [(16, 0x1F5E), (16, 0x9256)]
  | 0x04 => packBits [(8, 0x11), (8, 1), (8, 1)]
  | 0x08 => s.sec.version % 2 ^ 32
  | 0x0C =>
    packBits [(1, flag s.life.fwStart), (1, flag s.life.captureReady), (1, flag s.life.mapReady),
      (1, flag (s.life.phase == .recovery)), (1, flag (s.life.phase == .halted)), (1, flag s.life.clean),
      (1, flag s.life.first), (1, 0), (8, s.reg.populated), (8, s.reg.dramGib),
      (4, packFlags ((List.range 4).map fun n => isFenced s (maceUnit n)))]
  | 0x10 =>
    packBits [(2, match s.sec.port with
      | .manufacture => 0
      | .field => 1
      | .opened => 2), (6, 0), (8, s.nor.otp.debugOpen), (1, flag (diagnostic s))]
  | 0x20 => field s.reg.uid.toNat 0 32
  | 0x24 => field s.reg.uid.toNat 32 32
  | 0x28 => field s.reg.uid.toNat 64 32
  | 0x2C => field s.reg.uid.toNat 96 32
  | 0x30 => packBits [(16, s.reg.subVendor.toNat), (16, s.reg.subSystem.toNat)]
  | 0x34 => packBits [(1, flag s.reg.lock), (1, s.reg.bootCopy)]
  | _ => 0

/-- Wall-clock time as ID_UTC gives it: 0 while unknown (R418). -/
def utcNow (s : State) : Nat := s.clk.utc.getD 0

/-- The holding register of a port and pair, or none before its first LO read (R416). -/
def holding (p : ReadPort) (utc : Bool) (s : State) : Option Word32 :=
  match p, utc with
  | .pcie, false => s.reg.holdPcieUp
  | .pcie, true => s.reg.holdPcieUtc
  | .debug, false => s.reg.holdDebugUp
  | .debug, true => s.reg.holdDebugUtc

/-- The live value of a pair. -/
def wideValue (utc : Bool) (s : State) : Nat := if utc then utcNow s else s.clk.us

/-- A LO read copies the live HI half into the port's holding register (R416). -/
def latchHigh (p : ReadPort) (utc : Bool) (s : State) : State :=
  let h : Option Word32 := some (BitVec.ofNat 32 (wideValue utc s / 2 ^ 32))
  match p, utc with
  | .pcie, false => { s with reg := { s.reg with holdPcieUp := h } }
  | .pcie, true => { s with reg := { s.reg with holdPcieUtc := h } }
  | .debug, false => { s with reg := { s.reg with holdDebugUp := h } }
  | .debug, true => { s with reg := { s.reg with holdDebugUtc := h } }

/-- The wide pairs (R416, R418). -/
def wideRegister (p : ReadPort) (s : State) (o : Nat) : Nat :=
  let hi (utc : Bool) : Nat := match holding p utc s with
    | some h => h.toNat
    | none => wideValue utc s / 2 ^ 32 % 2 ^ 32
  match o with
  | 0x38 => s.clk.us % 2 ^ 32
  | 0x3C => hi false
  | 0x40 => utcNow s % 2 ^ 32
  | 0x44 => hi true
  | _ => 0

/-! ## Event window (R379, R383, R386) -/

/-- The 32 bytes of a record (R379). -/
def recordBytes32 (r : Record) : List Byte :=
  let e := r.event
  let front := packBytes [(4, r.seq.toNat), (6, e.us), (2, e.code.toNat), (2, e.unit.toNat),
    (1, 16 * e.severity + flag e.deferred + 2 * flag r.reserve + 4 * flag r.boot), (1, 0), (2, e.suppressed), (2, r.lost),
    (8, e.data.toNat)]
  front ++ leBytes 4 (crc32c front)

/-- The record a slot of tier 0 shows: the newest of its number modulo the ring's size, in the ring of the present
mode. -/
def slotRecord (r : Recorder) (slots slot : Nat) : Option Record :=
  r.ring.find? fun x => x.seq.toNat % slots == slot && (x.reserve == (r.mode == .reserve))

/-- A ring slot lies in a poisoned block of its bank; a block holds two slots (R386). -/
def slotPoisoned (s : State) (bank slot : Nat) : Bool :=
  s.sram.blocks.any fun b => b.bank == bank && b.block == slot / 2 && b.poison

/-- A word of the event window: a poisoned slot reads all ones, a slot never written zeros (R286, R289, R383, R386). -/
def windowWord (s : State) (o : Nat) : Nat :=
  let slot := o / 32
  let show_ (x : Option Record) : Nat := match x with
    | some x => wordAt (recordBytes32 x) (o % 32)
    | none => 0
  match s.evr.mode with
  | .ring => if slotPoisoned s 0x60 slot then 0xFFFFFFFF else show_ (slotRecord s.evr 32768 slot)
  | .reserve =>
    if 2048 ≤ o then 0
    else if slotPoisoned s 0x61 slot then 0xFFFFFFFF else show_ (slotRecord s.evr 64 slot)
  | .lastWords => 0

/-- EVW_MODE code (R383). -/
def modeCode : LogMode → Nat
  | .ring => 0 | .reserve => 1 | .lastWords => 2

/-- EVW_ registers (R383). -/
def evwRegister (s : State) (o : Nat) : Nat :=
  match o with
  | 0x00 => s.evr.next.toNat
  | 0x04 => packBits [(2, modeCode s.evr.mode), (1, flag s.evr.overflow), (13, 0), (16, s.evr.episodes)]
  | 0x08 => s.evr.lostTotal
  | _ => 0

/-! ## Mailboxes and ring (R119, R123, R132, R133) -/

/-- MBX_STATUS_n (R123). -/
def mbxStatus (b : Mbx) : Nat :=
  packBits [(2, match b.state with
      | .idle => 0
      | .busy => 1
      | .done => 2),
    (2, match b.owner with
      | none => 0
      | some .pcie => 1
      | some .i3c => 2),
    (1, flag b.overrun), (1, flag b.latched), (10, 0), (16, b.code.toNat)]

/-- A word of mailbox `m` (R119): the areas, and MBX_STATUS; the doorbell reads zero. -/
def mbxWord (s : State) (m o : Nat) : Nat :=
  if o < 0x200 then leNat (memRange s.mbx.mem (mbxBase m + o) 4)
  else if o = 0x204 then mbxStatus (boxOf s m)
  else 0

/-- The 32 bytes of a ring entry (R133). -/
def ringBytes (e : RingEntry) : List Byte :=
  packBytes [(1, e.body.type), (1, flag e.phase + 2 * flag e.body.issuedI3c), (2, e.body.status.toNat),
    (4, e.body.subject.toNat), (2, e.body.opcode.toNat), (1, e.body.mbx), (1, 0), (16, e.body.result.toNat),
    (4, e.number.toNat)]

/-- A word of the ring; a slot never written reads zero. -/
def ringWord (s : State) (o : Nat) : Nat :=
  match s.crg.slots.find? fun e => e.1 == o / 32 with
  | some e => wordAt (ringBytes e.2) (o % 32)
  | none => 0

/-- CRG_ registers (R132). -/
def crgRegister (s : State) (o : Nat) : Nat :=
  match o with
  | 0x0 => packBits [(10, s.crg.tail), (6, 0), (1, flag s.crg.phase)]
  | 0x4 => s.crg.headPcie
  | 0x8 => s.crg.headI3c
  | 0xC => packBits [(1, flag s.crg.pcieEn), (1, flag s.crg.i3cEn), (1, flag s.crg.overflow), (13, 0), (11, s.crg.vector)]
  | _ => 0

/-! ## Thermal and power (R341, R367) -/

/-- THM_STATUS.LEVEL (R367). -/
def levelCode : ThermalLevel → Nat
  | .normal => 0 | .warn => 1 | .throttle => 2 | .halted => 3

/-- THM_ registers (R367). -/
def thmRegister (s : State) (o : Nat) : Nat :=
  let t := s.thm
  match o with
  | 0x0 =>
    packBits [(16, signed 16 t.temp), (2, levelCode t.level), (3, t.step), (1, flag t.rateWarn), (1, flag t.thermN),
      (1, flag !t.hotDies.isEmpty)]
  | 0x4 => packBits [(16, signed 16 t.rate), (16, t.predict)]
  | 0x8 => packFlags (t.sensors.map (·.excluded))
  | _ =>
    if 0x100 ≤ o ∧ o < 0x160 then
      match t.sensors[(o - 0x100) / 4]? with
      | none => 0
      | some x => packBits [(16, match x.reading with
          | some r => signed 16 r
          | none => 0x8000), (2, x.deviate), (1, flag x.valid)]
    else 0

/-- Domains of a half of PWR_GATE. -/
def gateBits (s : State) (lo : Nat) : Nat := packFlags ((List.range 32).map fun n => clocked s (lo + n))

/-- PWR_ registers (R341). -/
def pwrRegister (s : State) (o : Nat) : Nat :=
  match o with
  | 0x00 =>
    packBits [(3, s.pwr.state), (3, s.pwr.depthLorard), (3, nvmeDepth s), (1, flag !s.hup.protectedMode),
      (2, s.hup.verdict), (1, flag s.pwr.background), (1, flag s.clk.xtalFail)]
  | 0x04 => packBits [(16, limitMib s), (12, s.hup.sense), (1, flag s.hup.testLow)]
  | 0x08 => packBits [(16, s.hup.cap), (16, s.hup.esr)]
  | 0x0C =>
    let runs := (List.range 8).map (pllRuns s)
    packBits [(8, packFlags runs),
      (8, packFlags (runs.zipIdx.map fun x => x.1 && !s.pwr.pllBad.getLsbD x.2)), (8, s.pwr.pllFail.toNat)]
  | 0x10 => gateBits s 0
  | 0x14 => gateBits s 32
  | _ => 0

/-! ## Sequencers, SRAM and DRAM (R230, R279, R294) -/

/-- CS_VERSION_n (R230). -/
def csVersion (c : Channel) : Nat :=
  packBits [(8, 1), (16, c.patchVersion), (1, flag c.patchValid), (1, flag c.mismatch), (2, match c.state with
    | .running => 0
    | .loading => 1
    | .fenced => 2
    | .gated => 3)]

/-- Banks of the grid code (R281). -/
def gridBanks : List Nat :=
  List.range 8 ++ [0x10] ++ (List.range 8).map (· + 0x20) ++ (List.range 40).map (· + 0x30) ++ [0x60, 0x61, 0x70]

/-- Spare regions used of a bank. -/
def bankSparesUsed (s : State) (b : Nat) : Nat :=
  match s.sram.spares.find? fun x => x.1 == b with
  | some x => x.2
  | none => 0

/-- Fewest spare regions left in a bank of 64 KiB or more (R290, R294). -/
def sparesMin (s : State) : Nat :=
  (((gridBanks.filter fun b => decide (65536 ≤ bankBytes b)).map fun b => 8 - bankSparesUsed s b).min?).getD 8

/-- SRP_ registers (R294). -/
def srpRegister (s : State) (o : Nat) : Nat :=
  let r := s.sram
  match o with
  | 0x00 =>
    packBits [(1, flag (diagnostic s)), (1, flag r.scrubBusy), (6, 0), (8, sparesMin s),
      (16, sat 16 (r.blocks.filter (·.poison)).length)]
  | 0x04 => r.corrected
  | 0x08 => packBits [(16, r.uncorr), (16, r.poisonWr)]
  | 0x0C =>
    packBits [(12, r.lastBank), (1, flag r.lastUncorr), (1, flag r.lastScrub), (1, flag r.lastInjected), (1, 0),
      (14, r.lastBlock)]
  | 0x10 => r.flipBank % 4096
  | 0x14 => r.flipMask.toNat
  | 0x18 => packBits [(16, match r.sweptAt with
      | some t => sat 16 ((s.clk.us - t) / 1000000)
      | none => 0xFFFF), (16, r.sweeps)]
  | _ => 0

/-- DRC_ registers (R279). -/
def drcRegister (s : State) (o : Nat) : Nat :=
  let at_ (i : Nat) : DramChannel := s.dram.channels.getD i DramChannel.reset
  if o = 0 then packBits [(2, s.dram.rate), (1, flag (s.dram.channels.any fun c => c.rank0.hot || c.rank1.hot)), (3, s.dram.capacity)]
  else if 0x100 ≤ o ∧ o < 0x140 then
    let c := at_ ((o - 0x100) / 4)
    packBits [(2, match c.state with
        | .active => 0
        | .selfRefresh => 1
        | .recentring => 2
        | .off => 3),
      (4, max c.rank0.pending c.rank1.pending),
      (1, flag (c.queues.any (·.any fun w => requestClass w.req.requester == 0))), (1, 0), (8, c.window), (7, c.remaps.length)]
  else if 0x200 ≤ o ∧ o < 0x240 then
    let c := at_ ((o - 0x200) / 4)
    packBits [(16, c.corrected), (8, c.uncorr), (8, c.cmdErr)]
  else 0

/-! ## Capture link, pins, last words, Nutmeg (R317, R387, R421, R423) -/

/-- A per-lane register: lanes 0 to 7 by ball, 8 the back channel (R421). -/
def laneRegister (s : State) (n o : Nat) : Nat :=
  if n = 8 then
    match o with
    | 0x0 => packBits [(3, 0), (1, flag s.link.ibOn), (1, 0), (1, flag (isFenced s (laneUnit 8))), (1, flag (s.link.state != .down))]
    | _ => 0
  else
    let x := laneOf s n
    match o with
    | 0x0 =>
      packBits [(3, x.logical.getD 0), (1, flag x.lock), (1, flag x.inverted), (1, flag (isFenced s (laneUnitOf s n))),
        (1, flag x.signal), (1, 0), (8, x.fom), (8, x.trains)]
    | 0x4 => x.uncorr
    | 0x8 => x.corr
    | _ => 0

/-- CAP_ registers (R421). -/
def capRegister (s : State) (o : Nat) : Nat :=
  let l := s.link
  match o with
  | 0x00 =>
    packBits [(4, bundleCode l.state), (4, 0), (8, lockBitmap l), (8, l.epoch.toNat), (1, flag l.lastFast),
      (1, flag (l.state == .retrain)), (1, flag l.goingDown)]
  | 0x04 => l.granted.toNat
  | 0x08 => l.consumed.toNat / creditBytes
  | 0x0C => packBits [(13, l.window), (3, 0), (16, l.retrains)]
  | 0x10 => l.skew % 65536
  | _ => if 0x100 ≤ o ∧ o < 0x190 then laneRegister s ((o - 0x100) / 16) ((o - 0x100) % 16) else 0

/-- A pin's logical level under its function (R141). -/
def pinLogical (s : State) (p : Pin) : Bool :=
  match p.function with
  | 3 => s.life.captureReady
  | 4 => s.life.mapReady
  | 5 => s.hup.protectedMode
  | 6 => s.str.list.any fun x => x.state == .open_
  | 7 => s.thm.level != .normal
  | _ => p.on

/-- The electrical level at a ball: from outside on an input, a free value; on an output the function's level, inverted
when active low (R141, R423). -/
def pinLevel (s : State) (n : Nat) : Bool :=
  let p := s.pins.getD n Pin.reset
  if p.function ≤ 1 then (Config.pinInput s.free).getLsbD n else pinLogical s p != p.activeLow

/-- PIN_ registers (R423). -/
def pinRegister (s : State) (o : Nat) : Nat :=
  let p := s.pins.getD (o / 8) Pin.reset
  if o = 0x80 then packFlags ((List.range 16).map (pinLevel s))
  else if 0x80 < o then 0
  else if o % 8 = 0 then
    packBits [(8, p.function), (1, flag p.activeLow), (1, flag p.persist), (1, flag (pinLevel s (o / 8)))]
  else p.arg.toNat

/-- LWD_n (R387). -/
def lwdRegister (s : State) (o : Nat) : Nat :=
  let r := s.evr
  match o with
  | 0x0 => packBits [(16, r.lwdCause.toNat), (16, r.lwdCause2.toNat)]
  | 0x4 => r.lwdTime.toNat
  | 0x8 => packBits [(8, r.lwdHubResets), (2, r.lwdMode), (6, 0), (16, r.lwdUnit.toNat)]
  | 0xC => r.lwdSeq.toNat
  | _ => match r.lwdRecords[(o - 0x10) / 4]? with
    | some x => packBits [(16, x.1.toNat), (16, x.2.toNat)]
    | none => 0

/-- BANK_A and BANK_B codes (R317). -/
def bankCode (o : Option NorOp) : Nat :=
  match o with
  | none => 0
  | some x => if x.suspended then 3 else if x.kind = .erase then 2 else 1

/-- Execute-only regions are in force: in start-up and recovery, and while a demanded test of a Nutmeg sector runs
(R307). -/
def xoInForce (s : State) : Bool := s.nor.xo || s.st.running.any fun t => t.demanded && unitClass t.unit == 9

/-- NOR_ registers (R317). -/
def norRegister (s : State) (o : Nat) : Nat :=
  let n := s.nor
  match o with
  | 0x0 =>
    packBits [(2, bankCode n.opA), (2, bankCode n.opB), (1, flag (xoInForce s)), (1, flag n.cont.isSome), (2, n.slot),
      (1, flag n.slotAValid), (1, flag n.slotBValid), (1, flag n.boot0Valid), (1, flag n.boot1Valid), (4, 0),
      (10, n.unfinished.length)]
  | 0x4 => match n.lastOp with
    | none => 0
    | some x => packBits [(10, x.sector), (2, match x.kind with
        | .program => 1
        | .erase => 2
        | .flagRow => 3), (6, sat 6 x.suspends)]
  | 0x8 => packBits [(16, n.autoSuspends), (8, n.xoReads), (8, n.wpRefused)]
  | _ =>
    if 0x10 ≤ o ∧ o < 0x90 then
      packFlags ((List.range 32).map fun i => !n.writable.contains ((o - 0x10) / 4 * 32 + i))
    else 0

/-! ## The whole space (R410 to R412) -/

/-- A word of the DRS at an aligned offset, without its side effects; the scratch window is read through the checker and
has an operation of its own. -/
def drsWord (p : ReadPort) (s : State) (o : Nat) : Nat :=
  if o < 0x38 then idRegister s o
  else if o < 0x48 then wideRegister p s o
  else if 0x200 ≤ o ∧ o < 0x20C then evwRegister s (o - 0x200)
  else if 0x1000 ≤ o ∧ o < 0x5000 then mbxWord s ((o - 0x1000) / 0x400) (o % 0x400)
  else if 0x10000 ≤ o ∧ o < 0x18000 then ringWord s (o - 0x10000)
  else if 0x18000 ≤ o ∧ o < 0x18010 then crgRegister s (o - 0x18000)
  else if 0x100000 ≤ o ∧ o < 0x200000 then windowWord s (o - 0x100000)
  else if 0x200000 ≤ o ∧ o < 0x200160 then thmRegister s (o - 0x200000)
  else if 0x210000 ≤ o ∧ o < 0x210018 then pwrRegister s (o - 0x210000)
  else if 0x220000 ≤ o ∧ o < 0x220080 then csVersion (chanOf s ((o - 0x220000) / 4))
  else if 0x230000 ≤ o ∧ o < 0x23001C then srpRegister s (o - 0x230000)
  else if 0x240000 ≤ o ∧ o < 0x240240 then drcRegister s (o - 0x240000)
  else if 0x250000 ≤ o ∧ o < 0x250190 then capRegister s (o - 0x250000)
  else if 0x260000 ≤ o ∧ o < 0x260084 then pinRegister s (o - 0x260000)
  else if 0x270000 ≤ o ∧ o < 0x270020 then lwdRegister s (o - 0x270000)
  else if 0x280000 ≤ o ∧ o < 0x280090 then norRegister s (o - 0x280000)
  else 0

/-- The offsets a halted device still answers (R365, R412). -/
def haltedAnswers (o : Nat) : Bool :=
  decide (o < 0x48) || (decide (0x200000 ≤ o) && decide (o < 0x200160)) || (decide (0x210000 ≤ o) && decide (o < 0x210018)) ||
    (decide (0x270000 ≤ o) && decide (o < 0x270020)) ||
    (decide (0x1000 ≤ o) && decide (o < 0x5000) && o % 0x400 == 0x204)

/-- The offsets the recovery state still answers (R349, R412). -/
def recoveryAnswers (o : Nat) : Bool :=
  decide (o < 0x48) || (decide (0x270000 ≤ o) && decide (o < 0x270020)) ||
    (decide (0x280000 ≤ o) && decide (o < 0x280090)) || (decide (0x1000 ≤ o) && decide (o < 0x1400))

/-- What an aligned read finds in the present phase: none where the space cannot be reached (R412). -/
def drsRead (p : ReadPort) (s : State) (o : Nat) : Option Nat :=
  match s.life.phase with
  | .service => some (drsWord p s o)
  | .lossFlush => some (drsWord p s o)
  | .haltFlush => some (if haltedAnswers o then drsWord p s o else 0)
  | .halted => some (if haltedAnswers o then drsWord p s o else 0)
  | .recovery => some (if recoveryAnswers o then drsWord p s o else 0)
  | _ => none

/-- Bytes of the space from an offset, each taken from its word (R8, R128). -/
def drsBytes (p : ReadPort) (s : State) (o n : Nat) : List Byte :=
  (List.range n).map fun i =>
    BitVec.ofNat 8 (((drsRead p s ((o + i) / 4 * 4)).getD 0) / 2 ^ (8 * ((o + i) % 4)))

end Sys2Proof.Machine
end

