-- ==== Sys2Proof/Machine/Device.lean ====
section
/-! DEFINITION. Device information, inventory, time and the multi-function pins (R137, R141, R142, R239). -/

namespace Sys2Proof.Machine

/-- R137, R349: the boot firmware serves it in the recovery state too. -/
def execGetDeviceInfo (m : Fin 16) (s : State) : Result :=
  .next (
    if (serving s || recoveryServing s m.val) && waitsFor s m.val 0x0001 then
      let port := match s.sec.port with
        | .manufacture => 0
        | .field => 1
        | .opened => 2
      respond m.val stOk (packBytes [(4, s.sec.version), (2, 0x0011), (1, s.reg.populated), (1, port), (2, s.reg.dramGib),
        (1, flag !s.hup.protectedMode), (1, flag s.life.captureReady + 2 * flag s.life.mapReady), (16, s.reg.uid.toNat),
        (8, s.clk.us)]) s
    else s)

/-- R137: CAPACITY for a buffer of less than 8,192 bytes. -/
def execGetInventory (m : Fin 16) (s : State) : Result :=
  .next (serve m.val 0x0002 (fun s =>
    if reqField s m.val 16 4 < 8192 then respond m.val stCapacity [] s
    else accept m.val 0x0002 false (reqField s m.val 8 8) 0 false (fun _ s => s) s) s)

/-- The record of a flash-die index: a withdrawn die counts as not populated (R374). The
manufacturer and temperature of one that is absent are free values (log entry 43); its entry is 0xFFFF (R211). -/
def inventoryRecord (s : State) (i : Nat) : UnitId × Nat × Nat × Nat × Int :=
  match (findDie s i).filter fun d => d.state != .absent && !dieOut s i with
  | some d =>
    (dieUnit i, dieStateCode d.state, d.maker, d.qual, d.temp)
  | none =>
    (dieUnit i, dieStateCode .absent, Config.choice (s.free + i) % 256, (Die.absent i).qual, (Config.choice (s.free + 1024 + i) % 256 : Nat))

/-- R137, R140: 1,024 records have been written to the host's buffer. -/
def execGetInventoryDone (s : State) : Result :=
  .next (
    match liveOp s 0x0002 with
    | none => s
    | some h =>
      if serving s = false then s
      else
        let records := (List.range 1024).map (inventoryRecord s)
        let s := { emit (.inventory h.subject records) s with free := s.free + 2048 }
        completeHandle h.value stOk (ringData [(4, 1024), (1, s.reg.populated)]) s)

/-- First-program times noted in µs are converted once the time is known; a summary written before carries 0 (R239,
R240). -/
def datePrograms (utc : Nat) (s : State) : State :=
  { s with map := { s.map with sbs := s.map.sbs.map fun b =>
    match b.firstUs, b.firstUtc with
    | some t, none => if b.summaryLength = 0 then { b with firstUtc := some (utc - (s.clk.us - t)) } else b
    | _, _ => b } }

/-- R137, R239. -/
def execSetTime (m : Fin 16) (s : State) : Result :=
  .next (serve m.val 0x0003 (fun s =>
    let utc := reqField s m.val 8 8
    respond m.val stOk [] (datePrograms utc { s with clk := { s.clk with utc := some utc } })) s)

/-- A function that one pin, or one pin per stream, may hold is held by another pin (R141, R142). -/
def functionTaken (s : State) (pin f arg : Nat) : Bool :=
  (s.pins.zipIdx.any fun p => p.2 != pin && p.1.function == f && decide (3 ≤ f) &&
    (f != 9 || p.1.arg.toNat == arg))

/-- A pin takes a function, an argument and flags; a function it already holds keeps its level (R142). -/
def setPin (f : Nat) (low persist : Bool) (arg : Nat) (p : Pin) : Pin where
  function := f
  activeLow := low
  persist := persist
  arg := BitVec.ofNat 32 arg
  on := if f = 2 then arg % 2 == 1 else p.function == f && p.on
  faultDue := p.function == f && p.faultDue

/-- R137, R141, R142. -/
def execSetPinFunction (m : Fin 16) (s : State) : Result :=
  .next (serve m.val 0x0010 (fun s =>
    let r := reqField s m.val
    let pin := r 8 1
    let f := r 9 1
    let arg := r 12 4
    let old := s.pins.getD pin Pin.reset
    let low := field (r 10 1) 0 1 == 1
    let persist := field (r 10 1) 1 1 == 1
    if f ≠ 0 ∧ ((old.function ≠ 0 ∧ old.function ≠ f) ∨ functionTaken s pin f arg) then
      respond m.val stPinConflict [] s
    else
      let kept (c : ConfigStore) : List (Nat × Nat × Bool × Word32) := c.pins.filter fun p => p.1 != pin
      let entry : List (Nat × Nat × Bool × Word32) := if persist then [(pin, f, low, BitVec.ofNat 32 arg)] else []
      let s := if persist || old.persist then storeConfig (fun c => { c with pins := kept c ++ entry }) s else s
      respond m.val stOk [] { s with pins := s.pins.modify pin (setPin f low persist arg) }) s)

/-- R137. -/
def execGetPinFunction (m : Fin 16) (s : State) : Result :=
  .next (serve m.val 0x0011 (fun s =>
    let pin := reqField s m.val 8 1
    let p := s.pins.getD pin Pin.reset
    respond m.val stOk (packBytes [(1, p.function), (1, flag p.activeLow + 2 * flag p.persist),
      (1, flag (pinLevel s pin)), (1, 0), (4, p.arg.toNat)]) (drawn s)) s)

/-- R141: a fault pin asserts 100 ms after an event at or above its severity; when it is released the manual does not
say (DESIGN CHOICE, log entry 42). -/
def execFaultPinAssert (asserted : Bool) (s : State) : Result :=
  let drive (p : Pin) : Pin := if asserted then { p with on := true, faultDue := false } else { p with on := false }
  .next { s with pins := changeWhere (fun p => p.function == 8 && (p.faultDue || !asserted)) drive s.pins }

/-- R141: the 1 µs of a commit pulse ends. -/
def execCommitPulseEnd (pin : Fin 16) (s : State) : Result :=
  .next { s with pins := s.pins.modify pin.val fun p => if p.function = 9 then { p with on := false } else p }

end Sys2Proof.Machine
end

