-- ==== Sys2Proof/Machine/DramOps.lean ====
section
/-! DEFINITION. The buffer DRAM controller: what each requester does with a failed burst, the row test, refresh and
re-centring (R254, R255, R261 to R277). -/

namespace Sys2Proof.Machine

/-- A DRAM channel's record. -/
def dramOf (s : State) (d : Nat) : DramChannel := s.dram.channels.getD d DramChannel.reset

/-! ## Failed bursts (R254, R255, R274) -/

/-- Row of R274 of a requester, counted from 0. Those that write whole bursts read nothing. -/
def requesterRow : DramRequester → Nat
  | .bufferRead _ _ => 0
  | .bufferHit _ _ _ => 1
  | .mapEngine _ => 2
  | .staging => 3
  | .cloveFetch _ => 4
  | .cloveData _ => 5
  | .partialWrite => 6
  | .captureWriter => 7
  | .nvmeWriter => 7
  | .mapWriter => 7
  | .indexStaging => 7
  | .stagingWriter => 7
  | .mapRebuild => 3

/-- A unit that carries a write's data but has none: it is programmed as a lost unit, a payload of zeros whose guard is
the CRC-32C of zeros XOR 0xFFFF_FFFF (R249, R254). -/
def lostUnit (u : Unit4k) : Unit4k := { u with data := 0, guard := guardOf 0 ^^^ 0xFFFFFFFF#32, lost := true }

/-- E2E_GUARD_MISMATCH (R388). Stage: 0 W9, 1 F6, 2 F9, 3 GC read-back; where: 0 flash, 1 write buffer. -/
def guardMismatch (unit : UnitId) (lba ns stage where_ : Nat) (s : State) : State :=
  logEvent 0x0604 unit (evData [(5, lba), (1, ns), (1, stage), (1, where_)]) s

/-- An accepted unit not yet programmed is lost in the write buffer (R254, R369). -/
def loseUnit (seq k : Nat) (s : State) : State :=
  match s.ord.accepted.find? fun w => w.seq == seq && !w.programmed && decide (k < w.units.length) with
  | none => s
  | some w =>
    let s := updateWrite seq (fun w => { w with units := w.units.modify k lostUnit }) s
    startTest (blockUnit 0xA) 0x0604 (guardMismatch (blockUnit 0xA) (w.lba + k) w.ns 0 1 s)

/-- A segment is marked map-lost; the 4,097th restarts the device (R255). -/
def loseSegment (seg : Nat) (unit : UnitId) (s : State) : State :=
  if s.map.mapLost.contains seg then s
  else if 4096 ≤ s.map.mapLost.length then hubReset 0x0702 unit s
  else { s with map := { s.map with mapLost := s.map.mapLost ++ [seg] } }

/-- A unit a host command reads from the write buffer ends without good data (R256). -/
def failBufferRead (sq : Nat) (cid : BitVec 16) (k : Nat) (s : State) : State :=
  updateCmd sq cid (fun c =>
    if c.stage == .running && !c.waits && c.hits.contains k then
      let lba := sqeLba c.sqe + k
      { c with failed := some (min lba (c.failed.getD lba)) }
    else c) s

/-- What the requester of a failed burst does (R274). -/
def burstFailed (r : DramRequester) (unit : UnitId) (s : State) : State :=
  match r with
  | .bufferRead seq k => loseUnit seq k s
  | .bufferHit sq cid k => failBufferRead sq cid k s
  | .mapEngine seg => loseSegment seg unit s
  | .staging => s
  | .cloveFetch core => cloveFaultOn core.val s
  | .cloveData core => cloveFaultOn core.val s
  | .partialWrite => s
  | .captureWriter => s
  | .nvmeWriter => s
  | .mapWriter => s
  | .indexStaging => s
  | .stagingWriter => s
  | .mapRebuild => s

/-- The row test starts on the failing row, unless the channel is under test already (R276, R369, R371). -/
def startRowTest (ch rank bank row : Nat) (code : BitVec 16) (s : State) : State :=
  let busy := underTest s (dramUnit ch)
  let s := startTest (dramUnit ch) code s
  if busy then s else updateDram ch (fun c => { c with testing := c.testing ++ [(rank, bank, row)] }) s

/-! ## The command slot (R265 to R268) -/

/-- A requester writes whole bursts, so its bursts are not checked (R262). -/
def writesWhole : DramRequester → Bool
  | .captureWriter => true
  | .nvmeWriter => true
  | .mapWriter => true
  | .indexStaging => true
  | .stagingWriter => true
  | _ => false

/-- A rank of a channel. -/
def rankOf (c : DramChannel) (r : Nat) : DramRank := if r = 0 then c.rank0 else c.rank1

/-- A rank of a channel changed. -/
def updateRank (r : Nat) (f : DramRank → DramRank) (c : DramChannel) : DramChannel :=
  if r = 0 then { c with rank0 := f c.rank0 } else { c with rank1 := f c.rank1 }

/-- tRFCab in ns by the capacity fitted (R260). -/
def refreshNs (s : State) : Nat := if s.dram.capacity = 2 then 380 else 210

/-- A refresh of a rank issues: the rank is blocked, its open rows close, and a drift that waits is applied (R267,
R272). -/
def issueRefresh (r ns : Nat) (c : DramChannel) : DramChannel :=
  let c := { c with
    drift := (rankOf c r).driftDue.getD c.drift
    rows := c.rows.mapIdx fun i x => if i / 16 = r then none else x }
  updateRank r (fun x => { x with blocked := ns, driftDue := none }) c

/-- A forced refresh issues, or waits while the other rank refreshes (R267). -/
def forceRefresh (r trfc : Nat) (c : DramChannel) : DramChannel :=
  if 0 < (rankOf c (1 - r)).blocked then updateRank r (fun x => { x with owed := true }) c
  else updateRank r (fun x => { x with owed := false, forced := true }) (issueRefresh r (trfc + 21) c)

/-- Time passes on a channel: requests wait, activates grow older, blocks end, and a forced refresh that waits for the
other rank starts (R265 to R267). -/
def passNs (trfc ns : Nat) (c : DramChannel) : DramChannel :=
  let age (r : DramRank) : DramRank := { r with
    blocked := r.blocked - ns, activates := (r.activates.map (· + ns)).filter fun a => decide (a < 20) }
  let c := { c with
    rank0 := age c.rank0, rank1 := age c.rank1
    queues := c.queues.map fun q => q.map fun w => { w with ns := w.ns + ns } }
  [0, 1].foldl (fun c r => if (rankOf c r).owed then forceRefresh r trfc c else c) c

/-- A request joins its bank's queue (R265). -/
def enqueueRequest (q : DramRequest) (c : DramChannel) : DramChannel :=
  { c with queues := c.queues.modify (bankTurn q.rank.val q.bank.val) (· ++ [⟨q, 0⟩]) }

/-- Requests are queued for a rank, of class 0 or of any. -/
def rankQueued (c : DramChannel) (r : Nat) (classZero : Bool) : Bool :=
  c.queues.zipIdx.any fun x => x.2 / 16 == r && x.1.any fun w => !classZero || requestClass w.req.requester == 0

/-- Order of service at a bank: class 0, then a request that has waited 5 µs, then a hit of the open row, then by class
(R265, R266). -/
def serviceRank (c : DramChannel) (bank : Nat) (w : DramWaiting) : Nat :=
  let k := requestClass w.req.requester
  if k = 0 then 0
  else if 5000 ≤ w.ns then 1
  else if ((c.rows.getD bank none).map (·.1)) = some w.req.row then 1 + k
  else 4 + k

/-- The request a bank serves next: the oldest of the first order of service; while the writer's FIFO is over its
mark, of class 0 only (R266). -/
def bankHead (c : DramChannel) (urgent : Bool) (bank : Nat) : Option (Nat × DramWaiting) :=
  ((c.queues.getD bank []).zipIdx.filter fun x => !urgent || requestClass x.1.req.requester == 0).foldl
    (fun best x => match best with
      | none => some (x.2, x.1)
      | some y => if serviceRank c bank x.1 < serviceRank c bank y.2 then some (x.2, x.1) else best) none

/-- A request hits the row open at its bank. -/
def hitsRow (c : DramChannel) (bank : Nat) (w : DramWaiting) : Bool :=
  (c.rows.getD bank none).map (·.1) == some w.req.row

/-- A bank's next request can issue: its rank is not blocked, and one that needs an activate keeps tRRD and tFAW
(R265). -/
def canIssue (c : DramChannel) (bank : Nat) (w : DramWaiting) : Bool :=
  let r := rankOf c (bank / 16)
  r.blocked == 0 &&
    (hitsRow c bank w ||
      decide (r.activates.length < 4) && r.activates.all fun a => decide (Config.activateGap ≤ a))

/-- The bank and the request of a command slot: banks are tried in rotation, from the one after that activated last
(R265). -/
def pickRequest (c : DramChannel) (urgent : Bool) : Option (Nat × Nat × DramWaiting) :=
  (List.range 32).findSome? fun k =>
    let bank := (c.lastBank + 1 + k) % 32
    match bankHead c urgent bank with
    | some (i, w) => if canIssue c bank w then some (bank, i, w) else none
    | none => none

/-- A request issues: it leaves its queue, its row is open, counts the access, and closes after 32 of them or when no
queued request hits it (R265). -/
def issueRequest (bank i : Nat) (w : DramWaiting) (c : DramChannel) : DramChannel :=
  let hit := hitsRow c bank w
  let n := if hit then ((c.rows.getD bank none).map (·.2)).getD 0 + 1 else 1
  let c := { c with queues := c.queues.modify bank (·.eraseIdx i) }
  let keeps := decide (n < 32) && (c.queues.getD bank []).any fun x => x.req.row == w.req.row
  let c := { c with rows := c.rows.set bank (if keeps then some (w.req.row, n) else none) }
  if hit then c
  else updateRank (bank / 16) (fun r => { r with activates := 0 :: r.activates }) { c with lastBank := bank }

/-- Where a request's burst lies. -/
def burstPlace (q : DramRequest) : Nat × Nat × Nat × Nat := (q.rank.val, q.bank.val, q.row, q.burst)

/-- The writer's FIFO is over its mark of 128 KiB (R266). -/
def fifoUrgent (s : State) : Bool := decide (131072 < s.dram.fifo)

/-- Least passing window in taps at the rate in use (R270). -/
def windowLimit (s : State) : Nat := if s.dram.rate = 1 then 29 else 26

/-- A re-centring starts: 64 slices (R272, R273). -/
def startRecentring (ch cause : Nat) (drift : Int) (s : State) : State :=
  updateDram ch (fun c =>
    if c.state == .active then { c with state := .recentring, slices := 0, cause := cause, drift := drift } else c) s

end Sys2Proof.Machine
end

