-- ==== Sys2Proof/Machine/Dram.lean ====
section
/-! DEFINITION. The DRAM controller: bursts, row tests, refresh, self-refresh, drift and re-centring (R261 to R280). -/

namespace Sys2Proof.Machine

/-- A channel takes requests. -/
def dramLive (s : State) (d : Nat) : Bool := (dramOf s d).state == .active || (dramOf s d).state == .recentring

/-- The check of a request's burst shows something (R262, R274 to R276, R280); a poisoned burst always decodes as
uncorrectable, a partial write leaves an uncorrectable burst poisoned, and a write of the whole burst clears it. -/
def burstChecked (d : Nat) (q : DramRequest) (check : BurstCheck) (s : State) : State :=
  let u := dramUnit d
  let part := flag (q.requester == .partialWrite)
  let place := burstPlace q
  if writesWhole q.requester then updateDram d (fun c => { c with poisoned := c.poisoned.filter (· != place) }) s
  else
    match if (dramOf s d).poisoned.contains place then .uncorrectable else check with
    | .clean => s
    | .corrected sym =>
      logEvent 0x0701 u (evData [(1, q.rank.val), (1, q.bank.val), (1, sym.val), (1, part), (4, q.row)])
        (updateDram d (fun c => { c with corrected := sat 16 (c.corrected + 1) }) s)
    | .uncorrectable =>
      let s := updateDram d (fun c => { c with
        uncorr := sat 8 (c.uncorr + 1)
        poisoned := if q.requester == .partialWrite then c.poisoned.filter (· != place) ++ [place] else c.poisoned }) s
      let s := logEvent 0x0702 u
        (evData [(1, q.rank.val), (1, q.bank.val), (1, requesterRow q.requester), (1, part), (4, q.row)]) s
      burstFailed q.requester u (startRowTest d q.rank.val q.bank.val q.row 0x0702 s)
    | .tagMismatch retryOk =>
      let s := updateDram d (fun c => { c with cmdErr := sat 8 (c.cmdErr + 1) }) s
      let s := logEvent 0x0703 u
        (evData [(1, q.rank.val), (1, q.bank.val), (1, flag !retryOk), (1, 0), (4, q.row)]) s
      let s := startRowTest d q.rank.val q.bank.val q.row 0x0703 s
      let s := startRecentring d 4 (dramOf s d).drift s
      if retryOk then s else burstFailed q.requester u s

/-- R261, R265, R266, R274: requests join their banks' queues, and the command slot issues one of them, whose burst is
checked; a channel in self-refresh in P2 exits first (R268). -/
def execDramAccess (acc : DramAccess) (s : State) : Result :=
  .next (
    let d := acc.ch.val
    let s := if s.pwr.state = 2 ∧ (dramOf s d).state = .selfRefresh ∧ acc.arrivals ≠ [] then
        updateDram d (fun c => { c with state := .active }) s
      else s
    if dramLive s d = false then s
    else
      let s := { s with dram := { s.dram with fifo := min 262144 acc.fifo } }
      let s := updateDram d (fun c => acc.arrivals.foldl (fun c q => enqueueRequest q c) (passNs (refreshNs s) acc.ns c)) s
      let c := dramOf s d
      match pickRequest c (fifoUrgent s && c.queues.any (·.any fun w => requestClass w.req.requester == 0)) with
      | none => s
      | some (bank, i, w) => burstChecked d w.req acc.check (updateDram d (issueRequest bank i w) s))

/-- R276, R277, R371, R372: the row test ends; a failing row is remapped to a spare, and with 64 remaps used it is a
lasting fault of the channel. -/
def execDramRowTestDone (ch : Fin 16) (rank : Fin 2) (bank : Fin 16) (row : Nat) (pass : Bool) (s : State) : Result :=
  .next (
    let d := ch.val
    let c := dramOf s d
    let key := (rank.val, bank.val, row)
    if c.testing.contains key = false then s
    else
      let u := dramUnit d
      let trigger := ((s.st.running.find? fun t => t.unit == u).map (·.trigger)).getD 0
      let joined := s.st.running.any fun t => t.unit == u && t.joined
      let s := updateDram d (fun c => { c with testing := c.testing.filter (· != key) }) s
      let s := leaveTest u s
      if pass && !joined then noteTransient u trigger 200 s
      else if c.remaps.length < 64 then
        let s := updateDram d (fun c => { c with remaps := c.remaps ++ [(rank.val, bank.val, row, s.dram.spareRows)] }) s
        { s with dram := { s.dram with spareRows := s.dram.spareRows + 1 } }
      else lastingFault u trigger 4 s)

/-- One more refresh of a rank has fallen due. While class 0 requests are queued for the rank, or the writer's FIFO is
over its mark, or the other rank refreshes, it is taken from those pulled in or postponed; with 8 pending one is
forced. Else it issues, and with nothing queued up to 8 are pulled in (R266, R267). -/
def refreshStep (trfc r : Nat) (urgent : Bool) (c : DramChannel) : DramChannel :=
  let x := rankOf c r
  let other := decide (0 < (rankOf c (1 - r)).blocked)
  if urgent || rankQueued c r true || other then
    if 0 < x.ahead then updateRank r (fun x => { x with ahead := x.ahead - 1 }) c
    else if x.pending < 8 then updateRank r (fun x => { x with pending := x.pending + 1 }) c
    else forceRefresh r trfc c
  else if rankQueued c r false then issueRefresh r trfc c
  else if x.pending = 0 then
    updateRank r (fun x => { x with ahead := 8 }) (issueRefresh r ((9 - x.ahead) * trfc) c)
  else issueRefresh r trfc c

/-- R267, R279. -/
def execRefreshDue (ch : Fin 16) (rank : Fin 2) (ns : Nat) (hot : Bool) (s : State) : Result :=
  .next (
    if dramLive s ch.val then
      updateDram ch.val (fun c =>
        let c := passNs (refreshNs s) ns c
        refreshStep (refreshNs s) rank.val (fifoUrgent s)
          (updateRank rank.val (fun x => { x with hot := hot, forced := false }) c)) s
    else s)

/-- R267: an idle gap of the rank, in which its pending refreshes are made up back to back. -/
def execRefreshCatchUp (ch : Fin 16) (rank : Fin 2) (ns : Nat) (s : State) : Result :=
  .next (
    if dramLive s ch.val then
      updateDram ch.val (fun c =>
        let c := passNs (refreshNs s) ns c
        let n := (rankOf c rank.val).pending
        if n = 0 ∨ rankQueued c rank.val false = true ∨ 0 < (rankOf c (1 - rank.val)).blocked then c
        else updateRank rank.val (fun x => { x with pending := 0 }) (issueRefresh rank.val (n * refreshNs s) c)) s
    else s)

/-- R268: in P2 a channel idle for 2 µs makes up its refreshes and enters self-refresh. -/
def execSelfRefreshEntry (ch : Fin 16) (s : State) : Result :=
  .next (
    let c := dramOf s ch.val
    if s.life.phase = .service ∧ s.pwr.state = 2 ∧ c.state = .active ∧ c.queues.all (·.isEmpty) then
      updateDram ch.val toSelfRefresh s
    else s)

/-- R272: a rank's drift since the last centring in taps, and the temperature of the channel's sensor. -/
def execDramDriftCheck (ch : Fin 16) (rank : Fin 2) (driftTaps : Int) (celsius : Int) (s : State) : Result :=
  .next (
    let d := ch.val
    let c := dramOf s d
    let centring (cause : Nat) (drift : Int) : State :=
      startRecentring d cause drift (updateDram d (fun c => { c with centredAt := celsius }) s)
    if s.life.phase ≠ .service ∨ 2 < s.pwr.state ∨ c.state ≠ .active then s
    else if 8 ≤ driftTaps.natAbs then centring 2 driftTaps
    else if 20 ≤ (celsius - c.centredAt).natAbs then centring 3 c.drift
    else if 3 ≤ driftTaps.natAbs then
      updateDram d (updateRank rank.val fun x => { x with driftDue := some driftTaps }) s
    else s)

/-- The pass windows of a re-centring's 33 taps of one lane centre its delays; a lane below the limit keeps the ones
it had (R273). -/
def centreLane (limit : Nat) (drift : Int) (w : LaneSweep) (l : DramLane) : DramLane :=
  if limit ≤ laneWindow 33 w then
    ⟨l.read + drift - 16 + windowCentre (passWindow 33 w.read), l.write + drift - 16 + windowCentre (passWindow 33 w.write)⟩
  else ⟨l.read + drift, l.write + drift⟩

/-- R273: a slice runs, unless a refresh of the rank was forced in this interval or waits to be, or the writer's FIFO
is over its mark (R266); the 64th centres each lane in the window found, and a lane below the limit of R270 is an
error that counts as a transient of the channel. -/
def execRecentringSlice (ch : Fin 16) (rank : Fin 2) (ns : Nat) (sweeps : List LaneSweep) (s : State) : Result :=
  .next (
    let d := ch.val
    let s := updateDram d (passNs (refreshNs s) ns) s
    let c := dramOf s d
    let x := rankOf c rank.val
    if c.state ≠ .recentring ∨ x.forced = true ∨ x.owed = true ∨ fifoUrgent s = true then s
    else
      let s := updateDram d (fun c => updateRank rank.val (fun x => { x with blocked := max x.blocked 400 })
        { c with slices := c.slices + 1 }) s
      if c.slices + 1 < 64 then s
      else
        let ws := [0, 1].map fun l => laneWindow 33 (sweeps.getD l ⟨0, 0⟩)
        let w := min (ws.getD 0 0) (ws.getD 1 0)
        let u := dramUnit d
        let limit := windowLimit s
        let s := updateDram d (fun c => { c with
          state := .active, slices := 0, window := w, drift := 0
          lanes := c.lanes.mapIdx fun l x => centreLane limit c.drift (sweeps.getD l ⟨0, 0⟩) x }) s
        if limit ≤ w then logRetrain 1 u c.cause 0xFF w s.dram.rate c.drift s
        else
          let lane := 2 * d + (if ws.getD 0 0 ≤ ws.getD 1 0 then 0 else 1)
          noteTransient u 0x0704 0 (logRetrain 4 u c.cause lane w s.dram.rate c.drift s))

end Sys2Proof.Machine
end

