-- ==== Sys2Proof/Machine/SramOps.lean ====
section
/-! DEFINITION. On-die memory protection: the grid code, reads and writes of a block, what its owner does with an error,
the region test, the recorder's modes, and the scratch window (R281 to R295, R386). -/

namespace Sys2Proof.Machine

/-! ## The grid code (R283, R284) -/

/-- A block that was never written, or holds zeros intact. -/
def emptyBlock (bank block : Nat) : SramBlock where
  bank := bank
  block := block
  data := 0
  row := 0
  col := 0
  corner := false
  poison := false
  injected := false

/-- XOR of the low `w` bits of a number. -/
def oddBits : Nat → Nat → Bool
  | 0, _ => false
  | w + 1, n => n.testBit w != oddBits w n

/-- Word `i` of a block's data. -/
def dataWord (d : BitVec 512) (i : Nat) : Nat := field d.toNat (64 * i) 64

/-- Rows whose parity fails: 0 to 7 the data words with their row parity, 8 the column parities with the corner. -/
def rowFails (b : SramBlock) : List Nat :=
  ((List.range 8).filter fun i => oddBits 64 (dataWord b.data i) != b.row.getLsbD i) ++
    (if oddBits 64 b.col.toNat != b.corner then [8] else [])

/-- XOR of the eight words of a block's data: bit `j` is the parity of column `j`. -/
def columnSum (d : BitVec 512) : Nat := (List.range 8).foldl (fun acc i => acc ^^^ dataWord d i) 0

/-- Columns whose parity fails: 0 to 63, and 64 the row parities with the corner. -/
def colFails (b : SramBlock) : List Nat :=
  ((List.range 64).filter fun j => (columnSum b.data).testBit j != b.col.getLsbD j) ++
    (if oddBits 8 b.row.toNat != b.corner then [64] else [])

/-- Position under R293 of the bit at a row and column of the array. -/
def gridPosition (row col : Nat) : Nat :=
  if row < 8 then (if col < 64 then 64 * row + col else 512 + row) else 520 + col

/-- The stored bit at a position inverted (R293). -/
def flipAt (p : Nat) (b : SramBlock) : SramBlock :=
  if p < 512 then { b with data := b.data ^^^ BitVec.ofNat 512 (2 ^ p) }
  else if p < 520 then { b with row := b.row ^^^ BitVec.ofNat 8 (2 ^ (p - 512)) }
  else if p < 584 then { b with col := b.col ^^^ BitVec.ofNat 64 (2 ^ (p - 520)) }
  else { b with corner := !b.corner }

/-- What the syndrome of a block says (R284). -/
inductive GridCheck where
  | intact
  | corrected (position : Nat)
  | uncorrectable (rows cols : Nat)
deriving DecidableEq, Repr

/-- R284. -/
def gridCheck (b : SramBlock) : GridCheck :=
  match rowFails b, colFails b with
  | [], [] => .intact
  | [r], [c] => .corrected (gridPosition r c)
  | rs, cs => .uncorrectable rs.length cs.length

/-- Data with fresh check bits (R283). -/
def encodeBlock (bank block : Nat) (d : BitVec 512) : SramBlock where
  bank := bank
  block := block
  data := d
  row := BitVec.ofNat 8 (packFlags ((List.range 8).map fun i => oddBits 64 (dataWord d i)))
  col := BitVec.ofNat 64 (columnSum d)
  corner := oddBits 64 (columnSum d)
  poison := false
  injected := false

/-! ## Stored blocks -/

/-- The stored block of a bank, or none where the model lists none. -/
def findBlock (s : State) (bank block : Nat) : Option SramBlock :=
  s.sram.blocks.find? fun b => b.bank == bank && b.block == block

/-- A block comes before another in the list. -/
def blockBefore (a b : SramBlock) : Bool := a.bank < b.bank || (a.bank == b.bank && decide (a.block < b.block))

/-- A block that need not be listed: intact zeros of a bank other than the scratch bank. -/
def unlisted (b : SramBlock) : Bool := b.bank != 0x70 && b == emptyBlock b.bank b.block

/-- A block stored in its place. -/
def putBlock (b : SramBlock) (s : State) : State :=
  let l := s.sram.blocks
  { s with sram := { s.sram with
    blocks := l.filter (blockBefore · b) ++ (if unlisted b then [] else [b]) ++ l.filter (blockBefore b) } }

/-- The blocks of banks that meet a condition are written whole: their errors and poison are gone (R286, R289). -/
def rewriteBanks (p : Nat → Bool) (s : State) : State :=
  { s with sram := { s.sram with blocks := s.sram.blocks.filter fun b => !p b.bank } }

/-- ARM is set for a bank. -/
def armed (s : State) (bank : Nat) : Bool := s.sram.flipMask.getLsbD 31 && s.sram.flipBank == bank

/-- The positions that SRP_FLIP_MASK enables. -/
def armedPositions (m : Word32) : List Nat :=
  (if m.getLsbD 10 then [field m.toNat 0 10] else []) ++ (if m.getLsbD 26 then [field m.toNat 16 10] else [])

/-- A write of a block: with ARM set for the bank it is corrupted after its check bits are computed, and ARM clears
(R293). -/
def writeBlock (b : SramBlock) (s : State) : State :=
  if armed s b.bank then
    let ps := armedPositions s.sram.flipMask
    let bad : SramBlock := { ps.foldl (fun b p => flipAt p b) b with injected := !ps.isEmpty }
    let s := putBlock bad s
    { s with sram := { s.sram with flipMask := s.sram.flipMask &&& 0x7FFFFFFF#32 } }
  else putBlock b s

/-! ## Recorder modes (R386) -/

/-- Poisoned blocks of a bank. -/
def poisonedIn (s : State) (bank : Nat) : Nat := (s.sram.blocks.filter fun b => b.bank == bank && b.poison).length

/-- LOG_MEMORY_FAIL and the move to the next mode: LWD first, then the mode (R386, R388). -/
def logMemoryFails (bank : Nat) (mode : LogMode) (s : State) : State :=
  let s := { s with evr := { pushLastWord 0x0D01 (bankUnit bank) s.evr with mode := mode } }
  logEvent 0x0D01 (bankUnit bank) (evData [(2, bank), (1, modeCode mode), (1, 0), (4, s.evr.lostTotal)]) s

/-- The bank that records go to has failed: a region test found no spare, or more than 64 of its blocks are poisoned. -/
def bankFailed (bank : Nat) (s : State) : State :=
  if bank = 0x60 ∧ s.evr.mode = .ring then logMemoryFails 0x60 .reserve s
  else if bank = 0x61 ∧ s.evr.mode = .reserve then logMemoryFails 0x61 .lastWords s
  else s

/-! ## Errors and their owners (R284, R288, R289) -/

/-- Flags of the SRAM events: bit 0 scrub, bit 1 injected, bit 2 partial write (R388). -/
def sramFlags (scrub injected part : Bool) : Nat := flag scrub + 2 * flag injected + 4 * flag part

/-- SRP_LAST (R294). -/
def noteLast (bank block : Nat) (bad scrub injected : Bool) (s : State) : State :=
  { s with sram := { s.sram with
    lastBank := bank, lastUncorr := bad, lastScrub := scrub, lastInjected := injected, lastBlock := block } }

/-- The state record of a stream is lost: its open frame is closed short and frames are discarded while firmware
rewrites the record, which ends the block's error (R289). -/
def streamRecordLost (bank block : Nat) (s : State) : State :=
  let sid := block / 2
  let s := match s.parse.frame with
    | some f => if f.header.stream = sid then closeShort 4 s else s
    | none => s
  putBlock (emptyBlock bank block) (updateStream sid (fun x => { x with rebuilding := true }) s)

/-- What the owner of a bank does with an uncorrectable block (R289, R386). -/
def ownerActs (bank block : Nat) (s : State) : State :=
  if bank < 8 then cloveFaultOn (bank % 4) s
  else if bank = 0x10 then streamRecordLost bank block s
  else if 0x20 ≤ bank ∧ bank ≤ 0x27 then hubReset 0x0802 (bankUnit bank) s
  else if 0x30 ≤ bank ∧ bank ≤ 0x57 then putBlock (emptyBlock bank block) s
  else if bank = 0x60 ∧ 64 < poisonedIn s 0x60 then bankFailed 0x60 s
  else s

/-- The region of a block: 64 blocks, or the whole bank (R290). -/
def regionOf (block : Nat) : Nat := block / 64

/-- The region test starts, unless the bank is under test already (R290, R369, R371). -/
def startRegionTest (bank block : Nat) (s : State) : State :=
  let busy := s.st.running.any fun t => t.unit == bankUnit bank
  let s := startTest (bankUnit bank) 0x0802 s
  if busy then s else { s with sram := { s.sram with tests := s.sram.tests ++ [⟨bank, regionOf block⟩] } }

/-- A block is found uncorrectable: it is poisoned, logged and its region tested (R284, R289, R293). -/
def foundBad (b : SramBlock) (rows cols : Nat) (scrub part : Bool) (requester : Nat) (s : State) : State :=
  let s := putBlock { b with poison := true } s
  let s := { s with sram := { s.sram with uncorr := sat 16 (s.sram.uncorr + 1) } }
  let s := noteLast b.bank b.block true scrub b.injected s
  let s := logEvent 0x0802 (bankUnit b.bank)
    (evData [(4, b.block), (1, rows), (1, cols), (1, sramFlags scrub b.injected part), (1, requester)]) s
  if b.injected then s else startRegionTest b.bank b.block s

/-- A block is found with one wrong bit: it is corrected where it lies and logged (R284). -/
def foundCorrectable (b : SramBlock) (p : Nat) (scrub part : Bool) (s : State) : State :=
  let s := putBlock { flipAt p b with injected := false } s
  let s := { s with sram := { s.sram with corrected := sat 32 (s.sram.corrected + 1) } }
  let s := noteLast b.bank b.block false scrub b.injected s
  logEvent 0x0801 (bankUnit b.bank)
    (evData [(4, b.block), (2, p), (1, sramFlags scrub b.injected part), (1, 0)]) s

/-- A block is read and checked: its data, or none where it is poisoned or uncorrectable (R284 to R286). -/
def checkBlock (bank block : Nat) (scrub part : Bool) (requester : Nat) (s : State) : State × Option (BitVec 512) :=
  match findBlock s bank block with
  | none => (s, some 0)
  | some b =>
    if b.poison then (s, none)
    else
      match gridCheck b with
      | .intact => (s, some b.data)
      | .corrected p => (foundCorrectable b p scrub part s, some (flipAt p b).data)
      | .uncorrectable r c => (foundBad b r c scrub part requester s, none)

/-- A write of part of a block: read, checked, merged and written whole, or dropped (R287, R288). `merge` puts the new
bytes into the block's data. -/
def partialWrite (bank block bytes requester : Nat) (merge : BitVec 512 → BitVec 512) (s : State) : State :=
  let injected := ((findBlock s bank block).map (·.injected)).getD false
  match checkBlock bank block false true requester s with
  | (s, some d) => writeBlock (encodeBlock bank block (merge d)) s
  | (s, none) =>
    let s := { s with sram := { s.sram with poisonWr := sat 16 (s.sram.poisonWr + 1) } }
    let s := noteLast bank block true false injected s
    logEvent 0x0803 (bankUnit bank)
      (evData [(4, block), (1, requester), (1, bytes), (1, sramFlags false injected true), (1, 0)]) s

/-- A requester writes a block of a bank whose contents the model holds elsewhere: with ARM set for the bank, the
block is corrupted (R293). -/
def bankWritten (bank block : Nat) (s : State) : State :=
  if armed s bank then writeBlock (emptyBlock bank block) s else s

/-- A requester reads a block of such a bank: it is checked, and the bank's owner acts on one that fails (R284, R289).
-/
def bankRead (bank block requester : Nat) (s : State) : State :=
  match checkBlock bank block false false requester s with
  | (s, some _) => s
  | (s, none) => ownerActs bank block s

/-- A write takes an entry of the Overlap Directory, which one is a free value: with ARM set for its bank, the block is
corrupted (R281, R293). -/
def directoryWritten (s : State) : State :=
  if s.sram.flipMask.getLsbD 31 && decide (0x20 ≤ s.sram.flipBank ∧ s.sram.flipBank ≤ 0x27) then
    let e := Config.choice s.free % 262144
    drawn (bankWritten (0x20 + e / 32768) (e % 32768 / 2) s)
  else s

/-- A unit joins the parity of its row in one of the 40 accumulators, which one is a free value (R281, R293). -/
def parityWritten (s : State) : State :=
  if s.sram.flipMask.getLsbD 31 && decide (0x30 ≤ s.sram.flipBank ∧ s.sram.flipBank ≤ 0x57) then
    drawn (bankWritten (0x30 + Config.choice s.free % 40) 0 s)
  else s

/-! ## The diagnostic scratch window (R292, R293) -/

/-- Requester code of a register access to the scratch window: pipeline (R388). -/
def scratchRequester : Nat := 6

/-- A 32-bit write at an offset of the scratch bank. -/
def scratchWrite (o : Nat) (value : Word32) (s : State) : State :=
  if diagnostic s = false then s
  else
    let sh := o % 64 * 8
    let merge (d : BitVec 512) : BitVec 512 :=
      BitVec.ofNat 512 (d.toNat - field d.toNat sh 32 * 2 ^ sh + value.toNat * 2 ^ sh)
    partialWrite 0x70 (o / 64) 4 scratchRequester merge s

/-- A read of a word of the scratch bank, through the checker: all ones where it fails, zeros outside diagnostic mode.
-/
def scratchRead (o : Nat) (s : State) : State × Nat :=
  if diagnostic s = false then (s, 0)
  else
    match checkBlock 0x70 (o / 64) false false scratchRequester s with
    | (s, some d) => (s, field d.toNat (o % 64 / 4 * 32) 32)
    | (s, none) => (s, 0xFFFFFFFF)

/-- SRP_FLIP_BANK (R294). -/
def writeFlipBank (value : Word32) (s : State) : State :=
  if diagnostic s then { s with sram := { s.sram with flipBank := field value.toNat 0 12 } } else s

/-- SRP_FLIP_MASK; enabling a reserved position discards the whole write (R293, R294). -/
def writeFlipMask (value : Word32) (s : State) : State :=
  if diagnostic s && (armedPositions value).all fun p => decide (p ≤ 584) then
    { s with sram := { s.sram with flipMask := value &&& 0x87FF07FF#32 } }
  else s

/-! ## Mace tables: SECDED over 64-bit words (R281, R282) -/

/-- A word of a Mace die's tables is read with some of its bits flipped: one is corrected, two are uncorrectable and
make the affected die stale; which die, and which cause its record names, are free values. -/
def maceWord (m word : Nat) (flips : List Nat) (s : State) : State :=
  let bank := 0x80 + m
  match flips with
  | [] => s
  | [p] =>
    let s := { s with sram := { s.sram with corrected := sat 32 (s.sram.corrected + 1) } }
    logEvent 0x0801 (bankUnit bank) (evData [(4, word), (2, p), (1, 1), (1, 0)]) s
  | _ =>
    let die := 256 * m + Config.choice s.free % 256
    let s := { s with sram := { s.sram with uncorr := sat 16 (s.sram.uncorr + 1) } }
    let s := logEvent 0x0802 (bankUnit bank) (evData [(4, word), (1, 0), (1, 0), (1, 1), (1, 5)]) s
    drawn (drawn (markStale die (Config.choice (s.free + 1) % 6) (startRegionTest bank word s)))

end Sys2Proof.Machine
end

