-- ==== Sys2Proof/Machine/LogOps.lean ====
section
/-! DEFINITION. The event recorder behind its FIFO: numbering, the three tiers, and what EVENT_READ finds
(R379 to R386). -/

namespace Sys2Proof.Machine

/-- Serial arithmetic: `a` is at or after `b` (R380). -/
def atOrAfter (a b : Word32) : Bool := decide ((a - b).toNat < 2 ^ 31)

/-- Bank that records go to. -/
def ringBank (r : Recorder) : Nat := if r.mode == .reserve then 0x61 else 0x60

/-- Slots of the ring in the present mode. -/
def ringSlots (r : Recorder) : Nat := if r.mode == .reserve then 64 else 32768

/-- Slot of a record (R381, R386). -/
def slotOf (r : Recorder) (seq : Word32) : Nat := seq.toNat % ringSlots r

/-- The records tier 0 shows, newest first: those of the present ring whose slots can be read (R382, R386). -/
def tier0 (s : State) : List Record :=
  match s.evr.mode with
  | .lastWords => []
  | m => (s.evr.ring.filter fun x => x.reserve == (m == .reserve) &&
      !slotPoisoned s (ringBank s.evr) (slotOf s.evr x.seq)).take (ringSlots s.evr)

/-- A record enters tier 1: the oldest of 64 sectors of 2,048 is erased when the region is full (R312). -/
def keepLog (l : List Record) : List Record := if 131072 < l.length then l.take (131073 - 2048) else l

/-- A record put into tier 1 in its place in the order of numbers, unless it is there (R380). -/
def insertLog (x : Record) (l : List Record) : List Record :=
  if l.any fun y => y.seq == x.seq then l
  else
    let newer := l.takeWhile fun y => atOrAfter y.seq x.seq
    keepLog (newer ++ x :: l.drop newer.length)

/-- Tier 2 keeps at least 33,554,432 records (R381). -/
def insertHistory (x : Record) (l : List Record) : List Record := (x :: l).take 33554432

/-- A record leaves the staging register in last-words-only mode: tiers 1 and 2 take it straight, and from warning up
the last-words registers (R386). -/
def recordLast (x : Record) (s : State) : State :=
  let r := s.evr
  let r := if 2 ≤ x.event.severity then { r with log := insertLog x r.log } else r
  let r := if 1 ≤ x.event.severity ∧ s.life.captureReady then { r with history := insertHistory x r.history } else r
  let r := if 3 ≤ x.event.severity then pushLastWord x.event.code x.event.unit r else r
  { s with evr := r }

/-- A record meant for a slot that cannot take it is lost: what it would have carried, the lost count, its code's
suppressed count and the mark of a start, waits for the next record written (R379, R384 to R386). -/
def recordLost (x : Record) (s : State) : State :=
  let r := s.evr
  let b := bucketOf r x.event.code
  let r := setBucket r { b with suppressed := sat 16 (b.suppressed + x.event.suppressed) }
  { s with
    evr := { r with lost := sat 16 (r.lost + x.lost + 1), lostTotal := sat 32 (r.lostTotal + 1) }
    life := { s.life with bootRecordDue := s.life.bootRecordDue || x.boot } }

/-- A record is written into its slot, half a block: a poisoned or uncorrectable block loses it (R288, R383, R386). -/
def recordRing (x : Record) (s : State) : State :=
  let bank := ringBank s.evr
  let slot := slotOf s.evr x.seq
  let touched := armed s bank || (findBlock s bank (slot / 2)).isSome
  let s :=
    if slotPoisoned s bank slot then s
    else if touched then partialWrite bank (slot / 2) 32 6 id s else s
  if slotPoisoned s bank slot then
    let s := recordLost x s
    if touched then ownerActs bank (slot / 2) s else s
  else { s with evr := { s.evr with ring := (x :: s.evr.ring).take 32768 } }

/-- The oldest record of the FIFO gets its number and is written (R379, R380, R385). -/
def writeRecord (e : Event) (s : State) : State :=
  let r := s.evr
  let x : Record := ⟨r.next, { e with deferred := e.deferred || decide (e.us < s.clk.us) }, r.lost, r.mode == .reserve,
    s.life.bootRecordDue⟩
  let s := { s with evr := { r with next := r.next + 1, lost := 0 }, life := { s.life with bootRecordDue := false } }
  if s.evr.mode = .lastWords then recordLast x s else recordRing x s

/-- LOG_OVERFLOW takes the room there now is; the episode ends with the FIFO empty (R385). -/
def afterDrain (s : State) : State :=
  let r := s.evr
  let r := match r.overflowDue with
    | none => r
    | some (code, unit) =>
      let e : Event := ⟨0x0D02, 3, blockUnit 0x25, evData [(2, code.toNat), (2, unit.toNat), (4, 0)], s.clk.us, false, 0⟩
      if r.fifo.length < 64 then { r with fifo := r.fifo ++ [e], overflowDue := none } else r
  { s with evr := { r with overflow := r.overflow && !r.fifo.isEmpty } }

/-- The number after the newest record of a tier; `first` for a tier that holds none (R382). -/
def tierNext (l : List Record) (first : Word32) : Word32 :=
  match l.head? with
  | some x => x.seq + 1
  | none => first

/-- The records of a tier, newest first (R382). -/
def tierRecords (s : State) (tier : Nat) : List Record :=
  match tier with
  | 0 => tier0 s
  | 1 => s.evr.log
  | _ => s.evr.history

/-- What EVENT_READ answers: records, and the number to ask for next (R382). -/
def readTier (s : State) (first : Word32) (count minSev tier : Nat) : List Record × Word32 :=
  let held := tierRecords s tier
  let found := ((held.reverse.filter fun x => atOrAfter x.seq first && decide (minSev ≤ x.event.severity)).take count)
  match found.getLast? with
  | some x => if found.length = count then (found, x.seq + 1)
      else (found, if tier = 0 then s.evr.next else tierNext held first)
  | none => (found, if tier = 0 then s.evr.next else tierNext held first)

end Sys2Proof.Machine
end

