-- ==== Sys2Proof/Machine/Events.lean ====
section
/-! DEFINITION. The event recorder's steps and the commands that read it, and STATS_READ (R137, R379 to R385). -/

namespace Sys2Proof.Machine

/-- The recorder is clocked and numbers records: from step 3 of R347 until a halt has ended. -/
def recorderRuns (s : State) : Bool :=
  match s.life.phase with
  | .service => true
  | .recovery => true
  | .manufacturing => true
  | .lossFlush => true
  | .haltFlush => true
  | _ => false

/-- R379, R380, R385. -/
def execEventFifoDrain (s : State) : Result :=
  .next (
    if recorderRuns s = false then s
    else
      match s.evr.fifo with
      | [] => s
      | e :: rest => afterDrain (writeRecord e { s with evr := { s.evr with fifo := rest } }))

/-- R384: one token more, up to the capacity; a rate of 0 refills nothing. -/
def execEventTokenRefill (code : BitVec 16) (s : State) : Result :=
  .next (
    let b := bucketOf s.evr code
    if b.rate = 0 then s
    else { s with evr := setBucket s.evr { b with tokens := min b.burst (b.tokens + 1) } })

/-- R380, R381: firmware copies what tier 0 still holds and has not been copied, notice and above, in order. -/
def execEventLogCopy (s : State) : Result :=
  .next (
    if serving s = false then s
    else
      let due := (tier0 s).reverse.filter fun x => atOrAfter x.seq s.evr.copied && decide (2 ≤ x.event.severity)
      { s with evr := { s.evr with
        log := due.foldl (fun l x => insertLog x l) s.evr.log, copied := s.evr.next } })

/-- R380, R381: a page of at most 512 records of info and above; its newest goes into tier 1 first unless that holds a
number at least as high. -/
def execEventHistoryPage (s : State) : Result :=
  .next (
    if serving s = false ∨ s.life.captureReady = false then s
    else
      let due := (tier0 s).reverse.filter fun x => atOrAfter x.seq s.evr.paged && decide (1 ≤ x.event.severity)
      let page := due.take 512
      match page.getLast? with
      | none => s
      | some x =>
        let held := match s.evr.log.head? with
          | some y => atOrAfter y.seq x.seq
          | none => false
        { s with evr := { s.evr with
          log := if held then s.evr.log else insertLog x s.evr.log
          history := page.foldl (fun l x => insertHistory x l) s.evr.history
          paged := if page.length = due.length then s.evr.next else x.seq + 1 } })

/-- R349, R382. -/
def execEventRead (m : Fin 16) (s : State) : Result :=
  .next (
    let f := reqField s m.val
    if (serving s || recoveryServing s m.val) && waitsFor s m.val 0x0080 then
      let (found, next) := readTier s (BitVec.ofNat 32 (f 8 4)) (f 12 1) (f 13 1) (f 14 1)
      respond m.val stOk
        (packBytes [(1, found.length), (3, 0), (4, next.toNat)] ++ found.flatMap recordBytes32) s
    else s)

/-- A bucket with another rate and capacity. -/
def rebucket (rate burst : Nat) (b : Bucket) : Bucket :=
  { b with rate := rate, burst := burst, tokens := min burst b.tokens }

/-- R137, R384. -/
def execEventRateSet (m : Fin 16) (s : State) : Result :=
  .next (serve m.val 0x0081 (fun s =>
    let code : BitVec 16 := BitVec.ofNat 16 (reqField s m.val 8 2)
    let all := s.evr.buckets.map (rebucket 16 64)
    let one := rebucket (reqField s m.val 10 2) (reqField s m.val 12 2) (bucketOf s.evr code)
    let r : Recorder := if code = 0xFFFF then { s.evr with buckets := all } else setBucket s.evr one
    respond m.val stOk [] { s with evr := r }) s)

/-- R137. -/
def execStatsRead (m : Fin 16) (s : State) : Result :=
  .next (serve m.val 0x00C0 (fun s =>
    let counts := s.map.sbs.map (·.eraseCount)
    let mean := if counts.isEmpty then 0 else counts.sum / counts.length
    respond m.val stOk
      (packBytes ([(8, s.nv.bytesRead), (8, s.nv.bytesWritten), (8, s.map.captureBytes), (8, s.map.gcBytes),
        (4, counts.min?.getD 0), (4, mean), (4, counts.max?.getD 0), (4, s.life.powerUps),
        (4, s.life.uncleanShutdowns)] ++ (s.intg.ladder.map fun n => (4, n)))) s) s)

end Sys2Proof.Machine
end

