-- ==== Sys2Proof/Machine/Frames.lean ====
section
/-! DEFINITION. Frames on the bundle, their placing, credits and commits (R57 to R64, R70 to R84). -/

namespace Sys2Proof.Machine

/-! ## The stream router (R70, R72, R79, R81) -/

/-- A frame is discarded whole: its words join a discard run (R81). -/
def discardFrame (h : Header) (cause : Nat) (s : State) : State :=
  let s := updateStream h.stream (fun x => { x with discards := x.discards + 1 }) s
  let s := joinRun cause h.stream 512 s
  { s with parse := { s.parse with skipWords := (h.length + 7) / 8, frame := none } }

/-- A frame that arrives for a FULL stream is discarded without a run (R72, R81). -/
def discardFull (h : Header) (s : State) : State :=
  let s := updateStream h.stream (fun x => { x with discards := x.discards + 1 }) (endRun s)
  { s with parse := { s.parse with skipWords := (h.length + 7) / 8, frame := none } }

/-- A stream enters FULL at a frame it cannot place: STREAM_WINDOW_FULL, cause 1 no window room, 2 no index slot
(R72). -/
def fullAt (h : Header) (cause : Nat) (s : State) : State :=
  discardFull h (enterStream h.stream .full
    (logEvent 0x0202 (streamUnit h.stream) (evData [(1, cause), (3, 0), (4, h.frame % 2 ^ 32)]) s))

/-- The fence a frame's flags place in front of it, after the units held back in its scope are released (R79). -/
def frameFence (h : Header) (ns : Nat) (s : State) : State :=
  let f (scope : Nat) : FenceRec := ⟨0, scope, .stream h.stream, ns, none⟩
  if h.flags.getLsbD 2 then
    let ids := (s.str.list.filter fun x => x.ns == ns).map (·.sid)
    enqueueFence (f 1) (ids.foldl (fun s i => releaseHeld i s) s)
  else if h.flags.getLsbD 1 then enqueueFence (f 0) (releaseHeld h.stream s)
  else s

/-- A frame is taken at a write point: its index entry is made, the fence its flags ask for is placed, and it is open on
the bundle (R70, R74, R75, R79). -/
def takeFrame (x : Stream) (h : Header) (rebuilt skip : Bool) (point : Nat) (s : State) : State :=
  let gap := decide (x.last + 1 < h.frame) && !h.flags.getLsbD 4
  let flags : BitVec 16 := BitVec.ofNat 16 (1 + 8 * flag rebuilt + 16 * flag gap + 32 * flag skip)
  let e : IndexEntry :=
    { frame := h.frame, frameFlags := h.flags &&& 0x1F, indexFlags := flags, startLba := point, stream := h.stream
      length := h.length, timecode := h.timecode.getD 0, units := 0, placed := false, written := 0, ended := false }
  let slot := x.entries.length
  let s := endRun s
  let s := frameFence h x.ns s
  let s := updateStream h.stream (fun y => { y with
    last := h.frame, frames := y.frames + 1, entries := y.entries ++ [e], writePoint := point
    lastTakenUs := s.clk.us }) s
  let f : OpenFrame :=
    { header := h, received := 0, wordsLeft := (h.length + 7) / 8, partBits := 0, partBytes := 0, startLba := point
      units := 0, slot := slot, damaged := false, badGuard := false, stallLogged := false, cut := false }
  { s with parse := { s.parse with frame := some f } }

/-- Units a payload occupies (R70). -/
def frameUnits (h : Header) : Nat := (h.length + 4095) / 4096

/-- The stream router takes or discards a frame by its header (R70, R72, R81). -/
def routeFrame (h : Header) (rebuilt : Bool) (s : State) : State :=
  match findStream s h.stream with
  | none => discardFrame h 2 s
  | some x =>
    match x.state with
    | .full => discardFull h s
    | .open_ =>
      if x.rebuilding then discardFrame h 4 s
      else if (h.frame : Int) ≤ x.last then discardFrame h 3 s
      else if freeIndexSlots x = 0 then fullAt h 2 s
      else
        let w := dataWindow x
        if x.writePoint + frameUnits h ≤ w.start + w.length then takeFrame x h rebuilt false x.writePoint s
        else
          match windowFor (x.dataWindows.drop (x.dataCur + 1)) (x.dataCur + 1) (frameUnits h) with
          | none => fullAt h 1 s
          | some (i, v) =>
            let s := updateStream h.stream (fun y => { y with dataCur := i, writePoint := v.start })
              (releaseHeld h.stream s)
            noteLowWater h.stream (takeFrame x h rebuilt true v.start s)
    | _ => discardFrame h 2 s

/-- R63: the header the parser has found is taken; an open frame ends short at it. -/
def execFrameHeader (s : State) : Result :=
  .next (
    match s.parse.frame.filter (fun f => !f.cut), decide (0 < s.parse.skipWords), findFront s with
    | none, false, (.header h payload rebuilt, bad) =>
      let start := if rebuilt then payload - 512 else s.parse.pos
      let s := logFalse bad s
      let s := closeShort 1 s
      let s := if rebuilt then
          logEvent 0x0102 (blockUnit 3) (evData [(5, h.frame), (1, flag (bitMode s)), (2, h.stream)]) s
        else s
      let s := if s.parse.pos < start then joinRun 0 0xFFFF (start - s.parse.pos) s else s
      let s := { s with parse := { s.parse with pos := payload, searching := false } }
      let s := bankRead 0x10 (2 * h.stream) 6 s
      runParser (bankWritten 0x10 (2 * h.stream) (routeFrame h rebuilt s))
    | _, _, _ => s)

/-- R70: the last word of the frame has arrived: its last unit is padded and stored, the write point advances. -/
def execFrameEnd (s : State) : Result :=
  .next (
    match s.parse.frame with
    | none => s
    | some f =>
      if f.cut = true ∨ 0 < f.wordsLeft then s
      else
        let s := if f.partBytes = 0 then s else storeFrameUnit f s
        match s.parse.frame with
        | none => s
        | some g => runParser (endFrame g none s))

/-- R63: the open frame has had no data word for 1 ms. -/
def execFrameStallNotice (s : State) : Result :=
  .next (
    match s.parse.frame with
    | none => s
    | some f =>
      if f.stallLogged then s
      else
        logEvent 0x0105 (blockUnit 3) (evData [(2, f.header.stream), (5, f.header.frame), (1, 0)])
          { s with parse := { s.parse with frame := some { f with stallLogged := true } } })

/-- R80: the stall timer expires; words that follow without a header are searched and discarded. DESIGN CHOICE (log
entry 170): after a frame closed in mid-payload the next header counts as found by search, not as at an expected
position. -/
def execStallTimerExpire (s : State) : Result :=
  .next (
    match s.parse.frame with
    | none => s
    | some f =>
      let mid := !f.cut && decide (0 < f.wordsLeft)
      let s := closeShort 0 s
      { s with parse := { s.parse with searching := s.parse.searching || mid } })

/-! ## Credits and backpressure (R57, R82, R84) -/

/-- The grant R57 allows, modulo 2^32 credits: G × 65,536 − C brought to the lesser of the window and the capture space,
in whole credits. -/
def grantTarget (s : State) : Word32 :=
  BitVec.ofNat 32 ((s.link.consumed.toNat + min (s.link.window * creditBytes) (captureSpace s)) / creditBytes)

/-- The target stands above the grant in serial arithmetic (R56). -/
def grantBelow (g target : Word32) : Bool := decide (0 < (target - g).toNat) && decide ((target - g).toNat < 2 ^ 31)

/-- The grant stands W credits above the received data, that taken in whole credits (R84; DESIGN CHOICE, log entry
171). -/
def grantFull (l : Link) : Bool := decide (l.window ≤ (l.granted - BitVec.ofNat 32 (l.consumed.toNat / creditBytes)).toNat)

/-- R51, R57, R84: the grant is raised and CREDIT sent; an episode of backpressure ends when the grant again stands W
credits above the received data. -/
def execGrantRaise (s : State) : Result :=
  .next (
    if s.link.state = .up ∧ s.link.frozen = false ∧ grantBelow s.link.granted (grantTarget s) = true then
      let s := sendCredit (onLink (fun l => { l with granted := grantTarget s }) s)
      if grantFull s.link then { s with str := { s.str with backpressure := false } } else s
    else s)

/-- Streams that have a frame open, or had one open or took one in the last 10 ms (R84). -/
def recentStreams (s : State) : List Stream :=
  s.str.list.filter fun x =>
    (match s.parse.frame with
      | some f => f.header.stream == x.sid
      | none => false) || (decide (0 < x.frames) && decide (s.clk.us ≤ x.lastTakenUs + 10000))

/-- The received data has reached the grant: no whole set of 8 lanes × 79 words fits in it (R56). -/
def grantReached (s : State) : Bool := decide (grantedOpen s < 5056)

/-- R84: the grant has stayed unraised for 50 µs for want of capture space. -/
def execBackpressureEpisode (s : State) : Result :=
  .next (
    if s.link.state = .up ∧ s.str.backpressure = false ∧ grantReached s = true ∧
        grantBelow s.link.granted (grantTarget s) = false then
      let recent := recentStreams s
      let space := captureSpace s / mib
      let g := s.link.granted.toNat
      let s := { s with str := { s.str with backpressure := true } }
      recent.foldl (fun s x => logEvent 0x0203 (streamUnit x.sid) (evData [(4, space), (4, g)]) s) s
    else s)

/-! ## Commits (R64, R78, R141) -/

/-- A commit pulse on the pin that carries the stream's commit pulse function (R141 function 9). -/
def commitPulse (sid : Nat) (s : State) : State :=
  { s with pins := changeWhere (fun p => p.function == 9 && p.arg.toNat == sid) (fun p => { p with on := true }) s.pins }

/-- Result bytes of a commit notice (R133). -/
def noticeData (e : IndexEntry) : BitVec 128 :=
  ringData [(5, e.frame), (1, e.frameFlags.toNat), (2, 0), (8, e.timecode.toNat)]

/-- R64, R78: the stream's oldest commit frame and every earlier frame are durable: the echo goes out, the notice is
posted, and the echo's repeat is due. -/
def execCommitAck (sid : Fin 4096) (s : State) : Result :=
  .next (
    match findStream s sid with
    | none => s
    | some x =>
      match x.commits with
      | [] => s
      | slot :: rest =>
        match x.entries[slot]? with
        | none => s
        | some e =>
          if framesDurable s x slot then
            let s := updateStream sid (fun y => { y with commits := rest }) s
            let s := sendIb 4 (echoBody sid e.frame false) s
            let s := { s with str := { s.str with repeats := s.str.repeats ++ [(sid.val, e.frame)] } }
            commitPulse sid (postNotice sid (noticeData e) s)
          else s)

/-- R64: the repeat of an echo, 10 µs after the first; not sent once IB has stopped. -/
def execCommitEchoRepeat (sid : Fin 4096) (frame : BitVec 40) (s : State) : Result :=
  .next (
    if s.str.repeats.contains (sid.val, frame.toNat) then
      let s := { s with str := { s.str with repeats := s.str.repeats.erase (sid.val, frame.toNat) } }
      sendIb 4 (echoBody sid frame.toNat true) s
    else s)

end Sys2Proof.Machine
end

