-- ==== Sys2Proof/Machine/EraseOps.lean ====
section
/-! DEFINITION. The removal of every physical copy, which Format, Sanitize and SECURE_DISCARD share (R114, R407,
R408). -/

namespace Sys2Proof.Machine

/-- A superblock's rows are all programmed and it becomes CLOSED. -/
def finishRows (n : Nat) (s : State) : State :=
  match findSb s n with
  | none => s
  | some b =>
    let due := b.rowsSent.filter fun r => !b.rowsDone.contains r
    finishClose n (markProgrammed (due.foldl (fun s r => rowDone n r s) s))

/-- Superblocks that hold a unit of a kind. -/
def holders (hold : FlashUnit → Bool) (s : State) : List Superblock := s.map.sbs.filter fun b => b.units.any hold

/-- GRANTED superblocks that hold such units are closed (R407 step 1). -/
def closeHolders (hold : FlashUnit → Bool) (s : State) : State :=
  ((holders hold s).filter fun b => b.state == .granted).foldl (fun s b =>
    finishRows b.number (if closing b then s else closeSb b.number s)) s

/-- CLOSED superblocks that hold such units, and DIRTY ones that are not erased yet (R204, R407 step 2). -/
def collectHolders (hold : FlashUnit → Bool) (s : State) : List Nat :=
  ((holders hold s).filter fun b => b.state == .closed || b.state == .dirty).map (·.number)

/-- A released superblock is erased; one RETIRED loses what it held with its erases (R170, R407 step 5). -/
def eraseReleased (n : Nat) (s : State) : State :=
  match findSb s n with
  | none => s
  | some b => if b.state = .retired then updateSb n (fun b => { b with units := [] }) s else eraseSb n s

/-- The valid data of a collected superblock is relocated, read back and checked, and the superblock erased; it stays
CLOSED where valid data finds no place or reads back wrong (R195, R407 steps 4 and 5). -/
def eraseCollected (good : Bool) (n : Nat) (s : State) : State :=
  match findSb s n with
  | none => s
  | some b =>
    if b.state = .dirty then eraseSb n s
    else
      let s := copyOut good n s
      match findSb s n with
      | none => s
      | some b =>
        if b.state = .closed ∧ (validUnits s b).isEmpty = true then eraseReleased n (releaseSb n s) else s

/-- Every physical copy of such units is removed, as far as valid data finds a place and reads back correctly (R114,
R407). -/
def removeCopies (good : Bool) (hold : FlashUnit → Bool) (s : State) : State :=
  let s := closeHolders hold s
  (collectHolders hold s).foldl (fun s n => eraseCollected good n s) s

/-! ## Secure discard (R203, R407) -/

/-- A unit on flash is an older copy of the range (R407 step 2). -/
def discardedUnit (d : Discard) (u : FlashUnit) : Bool :=
  u.kind != .pad && u.kind != .summary && u.ns == d.ns && decide (d.lba ≤ u.lba) && decide (u.lba < d.lba + d.len) &&
    decide (u.seq < d.seq)

/-- The superblocks still to be collected and erased for a discard. -/
def discardHolders (s : State) (d : Discard) : List Nat := collectHolders (discardedUnit d) s

/-- The affected segments that hold anything in the map. -/
def discardSegments (s : State) (d : Discard) : List Nat :=
  match findNs s d.ns with
  | none => []
  | some n => ((List.range (segmentsTouched d.lba d.len)).map fun k => n.base + d.lba / 256 + k).filter fun g =>
      (segEntry s g).mapped || (segEntry s g).overlaid

/-- No accepted write other than the discard's record covers an affected segment: the folds may be made (R196). -/
def discardClear (s : State) (d : Discard) : Bool :=
  (discardSegments s d).all fun g => match namespaceOf s g with
    | none => true
    | some n => !segmentCovered { s with ord := { s.ord with accepted := s.ord.accepted.filter fun w => w.seq != d.seq } } n g

/-- Each affected segment is written as a fold that holds zeros for the discarded units (R203). None where one finds no
place. -/
def foldDiscard (d : Discard) (s : State) : Option State :=
  ((discardSegments s d).foldl (fun o g => o.bind fun s => match namespaceOf s g with
    | none => some s
    | some n => foldNow n g s) (some s)).map programCopies

end Sys2Proof.Machine
end

