-- ==== Sys2Proof/Machine/Handles.lean ====
section
/-! DEFINITION. CANCEL and HANDLE_QUERY (R130, R131, R137, R140). -/

namespace Sys2Proof.Machine

/-- A write waiting for W7 is not this handle's discard. -/
def keepsWaiting (v : BitVec 32) (x : Waiting) : Bool :=
  match x with
  | .write w => !(w.kind == .secureDiscard && w.src == .discard v)
  | .fence _ => true

/-- A hold-up test without a cancelled HOLDUP_TEST: a scheduled test goes on, one of its own does not run (R335,
R339). -/
def withoutTest (r : HoldupRun) : Option HoldupRun := if r.scheduled then some { r with handle := none } else none

/-- A cancelled CAPTURE_LINK_UP leaves the bundle DOWN with what it found (R131, R140). -/
def undoLinkUp (s : State) : State :=
  let s := enterDown s
  match s.link.before with
  | none => s
  | some b =>
    onLink (fun l => { l with
      window := b.window, forceFull := b.forceFull, epoch := b.epoch, granted := b.granted, consumed := b.consumed
      entered := b.entered, fastFails := b.fastFails, lastFast := b.lastFast, skew := b.skew, retrains := b.retrains
      lanes := List.zipWith (fun x c => { x with uncorr := c.1, corr := c.2.1, fom := c.2.2 }) l.lanes b.counts
      before := none }) s

/-- A cancelled command has no effect: what its acceptance prepared is undone (R131, R140). -/
def undo (h : Handle) (s : State) : State :=
  match h.opcode.toNat with
  | 0x0020 =>
    { s with pwr := { s.pwr with
      depthLorard := h.aux % 8, wakeSources := BitVec.ofNat 8 (h.aux / 8), timerWake := h.aux / 2048, entering := false } }
  | 0x0021 => { s with hup := { s.hup with run := s.hup.run.bind withoutTest } }
  | 0x0040 => undoLinkUp s
  | 0x0072 => { s with ord := { s.ord with waiting := s.ord.waiting.filter (keepsWaiting h.value) } }
  | 0x0090 => { s with st := { s.st with waiting := s.st.waiting.filter fun t => t.handle != some h.value } }
  | 0x0092 => { s with st := { s.st with waiting := s.st.waiting.filter fun t => t.handle != some h.value } }
  | 0x00A0 => { s with sec := { s.sec with staging := none, staged := 0 } }
  | 0x00B1 =>
    { s with sec := { s.sec with
      challenge := if s.sec.challenge.isNone then s.sec.spent else s.sec.challenge, spent := none } }
  | 0x00A2 =>
    let s := s.med.toLoad.foldl (fun s ch => freeChannel ch s) s
    { s with med := { s.med with load := none, toLoad := [], loaded := [] } }
  | _ => s

/-- HOST_ABORT_RACE of a mailbox against the serving Clove core; which of the four serves is not stated, a free value
(R131, R388). -/
def logCancelRace (m : Nat) (v : BitVec 32) (s : State) : State :=
  drawn (logEvent 0x0301 (blockUnit (0x20 + Config.choice s.free % 4)) (evData [(1, 1), (1, 0), (2, m), (4, v.toNat)]) s)

/-- R131. -/
def execCancel (m : Fin 16) (s : State) : Result :=
  .next (serve m.val 0x00F0 (fun s =>
    let v := BitVec.ofNat 32 (reqField s m.val 8 4)
    match findHandle s v with
    | none => respond m.val stTooLate [] s
    | some h =>
      if h.past || completing s v then respond m.val stTooLate [] (logCancelRace m.val v s)
      else respond m.val stOk [] (completeHandle v stCancelled 0 (undo h s))) s)

/-- Progress of a live handle, 0 to 99: image bytes written for FW_STAGE, superblocks erased for SECURE_DISCARD, else 0
(R130, R407). -/
def progressOf (s : State) (h : Handle) : Nat :=
  match h.opcode.toNat with
  | 0x00A0 => min 99 (s.sec.staged * 100 / max 1 h.aux)
  | 0x0072 =>
    match s.sec.discards.find? fun d => d.handle == h.value with
    | none => 0
    | some d => min 99 (d.erased * 100 / max 1 (d.erased + (discardHolders s d).length))
  | _ => 0

/-- What HANDLE_QUERY answers: state, progress, opcode, status, reserved, ms (R130, R137). -/
def handleReport (s : State) (v : BitVec 32) : List Byte :=
  match findHandle s v with
  | some h =>
    packBytes [(1, 0), (1, progressOf s h), (2, h.opcode.toNat), (2, 0), (2, 0), (4, (s.clk.us - h.acceptedUs) / 1000)]
  | none =>
    match s.hnd.retired.find? fun r => r.value == v with
    | some r => packBytes [(1, 1), (1, 100), (2, r.opcode.toNat), (2, r.status.toNat), (2, 0), (4, r.ms)]
    | none => packBytes [(1, 2), (1, 0), (2, 0), (2, 0), (2, 0), (4, 0)]

/-- R130. -/
def execHandleQuery (m : Fin 16) (s : State) : Result :=
  .next (serve m.val 0x00F1 (fun s =>
    respond m.val stOk (handleReport s (BitVec.ofNat 32 (reqField s m.val 8 4))) s) s)

end Sys2Proof.Machine
end

