-- ==== Sys2Proof/Machine/HoldupOps.lean ====
section
/-! DEFINITION. The hold-up formulas, the protected limit and the mode (R110, R158, R160, R334 to R338). -/

namespace Sys2Proof.Machine

/-- The end voltage under load is never below this, in µV (R334). -/
def endUv : Nat := 8000000

/-- Flush power P_F in W (R334). -/
def flushPower (groups : Nat) : Nat := 56 + 4 * groups

/-- Capacitance in 0.1 mF, rounded down; 0 when the store did not fall (R336): 3.92 A × 0.050 s / (V_r − V_a). -/
def capacitance (restUv afterUv : Nat) : Nat := if restUv ≤ afterUv then 0 else 1960000000 / (restUv - afterUv)

/-- Series resistance in 0.1 mΩ, rounded up; 0 if negative (R336): (V_a − V_L) / 3.92 A. -/
def resistance (afterUv loadedUv : Nat) : Nat := (afterUv - loadedUv + 391) / 392

/-- Twice the end voltage V_e in µV (R336). -/
def doubledEnd (power esr : Nat) : Nat := 2 * endUv + power * esr * 25

/-- C × (4 V_0² − 4 V_e²) in 0.1 mF µV²; 0 when V_0 is not above V_e. Energy in J is this over 8 × 10^16 (R336). -/
def storeMeasure (cap power esr v0 : Nat) : Nat := cap * (4 * (v0 * v0) - doubledEnd power esr * doubledEnd power esr)

/-- Energy in mJ, rounded down (R336). -/
def storeEnergy (cap power esr v0 : Nat) : Nat := storeMeasure cap power esr v0 / 80000000000000

/-- The protected limit in MiB: (t − 10 ms) × 0.9 × H × 93.75 MB/s, rounded down to a multiple of 64 MiB, at most B
(R336). -/
def storeLimit (cap power esr v0 healthy buffer : Nat) : Nat :=
  let bytes := (storeMeasure cap power esr v0 - 800000000000000 * power) * 84375000 * healthy / (80000000000000000 * power)
  min buffer (bytes / 67108864 * 64)

/-- The verdict of a test: 1 pass, 2 degraded, 3 absent (R337). -/
def holdupVerdict (restUv afterUv limit : Nat) : Nat :=
  if restUv < endUv ∨ afterUv < endUv then 3 else if limit < 64 then 2 else 1

/-- The highest sequence number among writes durable by the protected limit. -/
def limitReach (s : State) : Nat := (((s.ord.accepted.filter fun w => !w.programmed && durable s w).map (·.seq)).max?).getD 0

/-- The verdict and the limit it sets; what was durable by a higher limit stays durable and is written ahead of other
work (R146, R160, R338). -/
def placeLimit (verdict limit : Nat) (on : Bool) (s : State) : State :=
  let t := { s with hup := { s.hup with verdict := verdict, limit := limit, protectedMode := on } }
  if limitBytes t < limitBytes s then
    let u := latchDurable s
    { t with ord := u.ord, hup := { t.hup with flushAhead := max t.hup.flushAhead (limitReach s) } }
  else t

/-- Verdict and limit change, and with them the mode: HOLDUP_DEGRADED when Protected mode ends, the warning bit of
R110, STREAM_PROTECT_LIMIT at a crossing of Fc (R85), and the writes left beyond a lower limit ahead of other work
(R160, R338). Origin: 0 test, 1 recomputation. -/
def setLimit (origin verdict limit energy : Nat) (s : State) : State :=
  let on := verdict == 1 && decide (0 < limit)
  let t := placeLimit verdict limit on s
  let t :=
    if s.hup.protectedMode && !on then
      criticalBit 4 0 (logEvent 0x0A02 (blockUnit 0x26)
        (evData [(1, verdict), (1, origin), (2, limitMib t), (4, energy)]) t)
    else if on then clearCritical 4 t
    else t
  padWanted (logLimitCrossing s t)

end Sys2Proof.Machine
end

