-- ==== Sys2Proof/Machine/Holdup.lean ====
section
/-! DEFINITION. Hold-up tests and the protected limit (R137, R334 to R339). -/

namespace Sys2Proof.Machine

/-- HOLDUP_TEST joins a scheduled test that runs; once the load is applied it can no longer be cancelled (R339). -/
def joinHoldup (v : BitVec 32) (s : State) : State :=
  match s.hup.run with
  | some r =>
    let s := { s with hup := { s.hup with run := some { r with handle := some v } } }
    if r.loaded then passCancel v s else s
  | none => { s with hup := { s.hup with run := some ⟨false, some v, 0, 0, false⟩ } }

/-- R139, R339. -/
def execHoldupTest (m : Fin 16) (s : State) : Result :=
  .next (serve m.val 0x0021 (fun s => accept m.val 0x0021 (opLive s 0x0021) 0 0 false joinHoldup s) s)

/-- Seconds until the next scheduled test: 24 h after the last one; before the start-up test has run, when it comes is
not known to the device, a free value (R339). -/
def nextTest (s : State) : Nat :=
  if s.hup.startDone then (s.hup.lastUs + 86400000000 - s.clk.us) / 1000000 else (Config.word s.free).toNat

/-- R137. -/
def execHoldupStatus (m : Fin 16) (s : State) : Result :=
  .next (serve m.val 0x0022 (fun s =>
    respond m.val stOk (packBytes [(1, flag !s.hup.protectedMode), (1, s.hup.verdict), (2, 0), (4, limitMib s),
      (4, s.hup.energy), (8, s.hup.lastUtc), (4, nextTest s)]) (drawn s)) s)

/-- R331, R339: a scheduled test falls due: the start-up test once a start, a post-degradation test only after a
degraded verdict. It starts when none runs; one that falls due in P3 waits for the next resume. -/
def execHoldupTestDue (kind : HoldupDue) (s : State) : Result :=
  .next (
    let due := match kind with
      | .startUp => !s.hup.startDone
      | .periodic => s.hup.startDone
      | .postDegraded => s.hup.verdict == 2
    if due = false then s
    else if s.pwr.state = 3 then { s with hup := { s.hup with due := some kind } }
    else if mayTest kind s then startTestRun s
    else s)

/-- R335 steps 1 and 2: the rest voltage is measured and HU_TEST_N goes low; the cancel point is passed. -/
def execHoldupLoadApply (restUv : Nat) (s : State) : Result :=
  .next (
    match s.hup.run with
    | some r =>
      if r.loaded then s
      else
        let s := { s with hup := { s.hup with run := some { r with restUv := restUv, loaded := true }, testLow := true } }
        match r.handle with
        | some v => passCancel v s
        | none => s
    | none => s)

/-- R335 steps 3 and 4: the loaded voltage is measured and Cardamom releases HU_TEST_N, in a Clove stop too (R339). -/
def execHoldupLoadRelease (loadedUv : Nat) (s : State) : Result :=
  .next (
    if s.hup.testLow then
      { s with hup := { s.hup with
        testLow := false, run := s.hup.run.map fun r => { r with loadedUv := loadedUv } } }
    else s)

/-- The values and the verdict of a test are in force, and the handle completes (R336, R337, R339). -/
def endHoldup (r : HoldupRun) (afterUv : Nat) (s : State) : State :=
  let cap := capacitance r.restUv afterUv
  let esr := resistance afterUv r.loadedUv
  let power := flushPower s.reg.populated
  let energy := storeEnergy cap power esr r.restUv
  let limit := storeLimit cap power esr r.restUv (healthyDies s) (bufferMib s)
  let verdict := holdupVerdict r.restUv afterUv limit
  let utc := s.clk.utc.getD 0
  let s := { s with hup := { s.hup with
    run := none, cap := cap, esr := esr, energy := energy, testLimit := limit, restUv := r.restUv
    lastUtc := utc, lastUs := s.clk.us, startDone := true } }
  let s := storeConfig (fun c => { c with holdupUtc := utc }) s
  let s := setLimit 0 verdict limit energy s
  completeSome r.handle stOk (ringData [(4, energy), (4, limitMib s), (1, verdict)]) s

/-- R335 steps 5 and 6. -/
def execHoldupTestDone (afterUv : Nat) (s : State) : Result :=
  .next (
    match s.hup.run with
    | some r => if serving s && r.loaded && !s.hup.testLow then endHoldup r afterUv s else s
    | none => s)

/-- Verdict and limit that a recomputation gives: a limit of 0 degrades the verdict except while a test is past step
2; a limit above the present one is held to the last test's (R338). -/
def recomputed (s : State) (limit : Nat) : Nat × Nat :=
  let limit := if limit ≤ s.hup.limit then limit else min limit (max s.hup.limit s.hup.testLimit)
  if limit = 0 ∧ (s.hup.run.any fun r => r.loaded) = false then (2, 0) else (s.hup.verdict, limit)

/-- R338: every 1 ms in P0 to P2 the store voltage is sampled and, while the verdict is pass, L recomputed from the C
and ESR of the last test. -/
def execHoldupRecompute (storeUv : Nat) (s : State) : Result :=
  .next (
    if s.life.phase ≠ .service ∨ s.life.fwStart = false ∨ 2 < s.pwr.state then s
    else
      let s := { s with hup := { s.hup with sense := sat 12 (storeUv / 4880) } }
      if s.hup.verdict ≠ 1 then s
      else
        let v0 := min storeUv s.hup.restUv
        let power := flushPower s.reg.populated
        let limit := storeLimit s.hup.cap power s.hup.esr v0 (healthyDies s) (bufferMib s)
        let r := recomputed s limit
        setLimit 1 r.1 r.2 (storeEnergy s.hup.cap power s.hup.esr v0) s)

end Sys2Proof.Machine
end

