-- ==== Sys2Proof/Machine/AccessOps.lean ====
section
/-! DEFINITION. Accesses to the device register space over PCIe and over I3C: what a write changes, what a read does
besides returning its value (R8, R119 to R135, R412 to R420). -/

namespace Sys2Proof.Machine

/-- An access that is addressed to the device resumes P1 to P3 (R327). -/
def wakeByAccess (s : State) : State := if s.life.phase = .service then resumeP0 s else s

/-! ## Mailboxes (R119 to R124) -/

/-- A mailbox takes claims, releases and area writes on a path in this phase (R349, R350, R412). -/
def mailboxLive (s : State) (p : Path) (m : Nat) : Bool :=
  reaches s p m &&
    match s.life.phase with
    | .service => true
    | .recovery => p == .pcie && m == 0
    | _ => false

/-- A path may write the request area: it owns the mailbox, or nobody does and the mailbox is not one of the two that a
party must claim first; never while BUSY (R124). -/
def mayWriteArea (b : Mbx) (p : Path) (m : Nat) : Bool :=
  b.state != .busy && (b.owner == some p || (b.owner.isNone && decide (2 ≤ m)))

/-- A word of a request area. -/
def writeArea (p : Path) (m o : Nat) (value : Word32) (s : State) : State :=
  if mayWriteArea (boxOf s m) p m then
    { s with mbx := { s.mbx with mem := memSplice s.mbx.mem (mbxBase m + o) (leBytes 4 value.toNat) } }
  else s

/-- OVERRUN is cleared by its owner (R123). -/
def clearOverrun (p : Path) (m : Nat) (s : State) : State :=
  updateBox m (fun b => if b.owner == some p then { b with overrun := false } else b) s

/-- A RING of a path reaches the mailbox: it owns it, or nobody does (R124). -/
def ringHeard (b : Mbx) (p : Path) : Bool := b.owner == some p || b.owner.isNone

/-- MBX_DOORBELL_n: CLAIM first, RING second, RELEASE last; a RING that is heard leaves STATE BUSY, and RELEASE is then
ignored (R122). -/
def writeDoorbell (p : Path) (m : Nat) (value : Word32) (s : State) : State :=
  let s := if value.getLsbD 8 then claimBox p m s else s
  let rung := value.getLsbD 0 && ringHeard (boxOf s m) p
  let s := if value.getLsbD 0 then ringBox p m (value.getLsbD 2) s else s
  if value.getLsbD 1 && !rung then releaseBox p m s else s

/-- A word of a mailbox. -/
def writeMailbox (p : Path) (m o : Nat) (value : Word32) (s : State) : State :=
  if o < 0x100 then writeArea p m o value s
  else if o = 0x200 then writeDoorbell p m value s
  else if o = 0x204 ∧ value.getLsbD 4 then clearOverrun p m s
  else s

/-! ## The completion ring (R132, R134, R135) -/

/-- Entries between a consumer's head and TAIL: its unread ones, or those after the head of a consumer that is not
active. -/
def headSpan (r : Ring) (en : Bool) (head unread : Nat) : Nat := if en then unread else (r.tail + 1024 - head) % 1024

/-- Head and unread count after a head write of `v` (R134). -/
def moveHead (r : Ring) (en : Bool) (head unread v : Nat) : Nat × Nat :=
  let d := (v + 1024 - head) % 1024
  if v = r.tail then (v, 0)
  else if d ≤ headSpan r en head unread then (v, unread - d)
  else (head, unread)

/-- CRG_HEAD_PCIE, written over PCIe: entries are read, slots free, MSI-X is re-armed (R134, R135). -/
def writeHeadPcie (value : Word32) (s : State) : State :=
  let (h, u) := moveHead s.crg s.crg.pcieEn s.crg.headPcie s.crg.unreadPcie (field value.toNat 0 10)
  let s := { s with crg := { s.crg with headPcie := h, unreadPcie := u }, mbx := { s.mbx with msixArmed := true } }
  notify (refillRing s)

/-- CRG_HEAD_I3C, written over I3C (R134, R135). -/
def writeHeadI3c (value : Word32) (s : State) : State :=
  let (h, u) := moveHead s.crg s.crg.i3cEn s.crg.headI3c s.crg.unreadI3c (field value.toNat 0 10)
  let s := { s with crg := { s.crg with headI3c := h, unreadI3c := u }, mbx := { s.mbx with ibiArmed := true } }
  notify (refillRing s)

/-- PCIE_EN: enabling sets the head to TAIL; without the consumer its slots free at once (R134). -/
def setPcieEn (on : Bool) (s : State) : State :=
  let r := s.crg
  let r : Ring := if on && !r.pcieEn then { r with pcieEn := true, headPcie := r.tail, unreadPcie := 0 }
    else if on then r else { r with pcieEn := false, unreadPcie := 0 }
  { s with crg := r }

/-- I3C_EN (R134). -/
def setI3cEn (on : Bool) (s : State) : State :=
  let r := s.crg
  let r : Ring := if on && !r.i3cEn then { r with i3cEn := true, headI3c := r.tail, unreadI3c := 0 }
    else if on then r else { r with i3cEn := false, unreadI3c := 0 }
  { s with crg := r }

/-- OVERFLOW is cleared by a 1 (R132). -/
def clearOverflow (s : State) : State := { s with crg := { s.crg with overflow := false } }

/-- CRG_CTRL: each path writes its own fields (R132). -/
def writeCtrl (p : Path) (value : Word32) (s : State) : State :=
  let s := if value.getLsbD 2 then clearOverflow s else s
  let s := match p with
    | .pcie =>
      let s := setPcieEn (value.getLsbD 0) s
      { s with crg := { s.crg with vector := field value.toNat 16 11 } }
    | .i3c => setI3cEn (value.getLsbD 1) s
  notify (refillRing s)

/-- A register of the ring. -/
def writeRingRegister (p : Path) (o : Nat) (value : Word32) (s : State) : State :=
  match o, p with
  | 0x4, .pcie => writeHeadPcie value s
  | 0x8, .i3c => writeHeadI3c value s
  | 0xC, _ => writeCtrl p value s
  | _, _ => s

/-! ## Other writable registers (R417) -/

/-- PWR_PLL.FAIL: a 1 clears its bit (R341). -/
def clearPllFail (value : Word32) (s : State) : State :=
  { s with pwr := { s.pwr with pllFail := s.pwr.pllFail &&& ~~~(BitVec.ofNat 8 (field value.toNat 16 8)) } }

/-- ID_SUBSYS until the boot lock (R418, R420). -/
def writeSubsys (value : Word32) (s : State) : State :=
  if s.reg.lock then s
  else { s with reg := { s.reg with
    subVendor := BitVec.ofNat 16 value.toNat, subSystem := BitVec.ofNat 16 (value.toNat / 65536) } }

/-- An aligned 32-bit write in service; every other offset discards it (R411, R417). -/
def writeService (p : Path) (o : Nat) (value : Word32) (s : State) : State :=
  if 0x1000 ≤ o ∧ o < 0x5000 then
    let m := (o - 0x1000) / 0x400
    if mailboxLive s p m then writeMailbox p m (o % 0x400) value s else s
  else if 0x18000 ≤ o ∧ o < 0x18010 then writeRingRegister p (o - 0x18000) value s
  else if o = 0x30 then writeSubsys value s
  else if o = 0x21000C then clearPllFail value s
  else if o = 0x230010 then writeFlipBank value s
  else if o = 0x230014 then writeFlipMask value s
  else if 0x231000 ≤ o ∧ o < 0x232000 then scratchWrite (o - 0x231000) value s
  else s

/-- A RING that a halt sequence or the halted device answers; the rest of the write is discarded (R340, R365, R412). -/
def writeHalting (p : Path) (o : Nat) (value : Word32) (s : State) : State :=
  let m := (o - 0x1000) / 0x400
  if 0x1000 ≤ o ∧ o < 0x5000 ∧ o % 0x400 = 0x200 ∧ value.getLsbD 0 then
    if doorbellLive s p m && reaches s p m then ringBox p m (value.getLsbD 2) s else s
  else s

/-- An aligned 32-bit write to the DRS, by the access codes of its fields, as the phase takes it (R9, R412). -/
def writeDrs (p : Path) (o : Nat) (value : Word32) (s : State) : State :=
  match s.life.phase with
  | .service => writeService p o value (resumeP0 s)
  | .recovery =>
    if 0x1000 ≤ o ∧ o < 0x1400 ∧ mailboxLive s p 0 then writeMailbox p 0 (o % 0x400) value s else s
  | .lossFlush => writeHalting p o value s
  | .haltFlush => writeHalting p o value s
  | .halted => writeHalting p o value s
  | _ => s

/-! ## Reads (R8, R135, R412, R414, R416) -/

/-- An aligned 32-bit read of MBX_STATUS_n in DONE: the DONE is read, and the path's interrupt is re-armed (R135). -/
def readDone (p : Path) (m : Nat) (s : State) : State :=
  if (boxOf s m).state = .done then
    let s := updateBox m (fun b => if b.owner == some p then { b with unreadDone := false } else b) s
    notify (match p with
      | .pcie => { s with mbx := { s.mbx with msixArmed := true } }
      | .i3c => { s with mbx := { s.mbx with ibiArmed := true } })
  else s

/-- The RC fields of the register at an offset are cleared (R414). -/
def clearRead (o : Nat) (s : State) : State :=
  if o = 0x204 then { s with evr := { s.evr with episodes := 0 } }
  else if o = 0x208 then { s with evr := { s.evr with lostTotal := 0 } }
  else if o = 0x230004 then { s with sram := { s.sram with corrected := 0 } }
  else if o = 0x230008 then { s with sram := { s.sram with uncorr := 0, poisonWr := 0 } }
  else if 0x240200 ≤ o ∧ o < 0x240240 then
    updateDram ((o - 0x240200) / 4) (fun c => { c with corrected := 0, uncorr := 0, cmdErr := 0 }) s
  else if o = 0x280008 then { s with nor := { s.nor with autoSuspends := 0, xoReads := 0, wpRefused := 0 } }
  else s

/-- A port reaches the DRS: PCIe always, the debug port in MANUFACTURE and FIELD_OPENED (R403, R414). -/
def portReaches (p : ReadPort) (s : State) : Bool :=
  match p with
  | .pcie => true
  | .debug => diagnostic s

/-- The offsets whose reads show register contents in the present phase, so that their side effects happen. -/
def shown (s : State) (o : Nat) : Bool :=
  match s.life.phase with
  | .service => true
  | .lossFlush => true
  | .haltFlush => haltedAnswers o
  | .halted => haltedAnswers o
  | .recovery => recoveryAnswers o
  | _ => false

/-- What an aligned 32-bit read of a port does besides returning its value. -/
def readEffects (p : ReadPort) (o : Nat) (s : State) : State :=
  if shown s o = false then s
  else if o = 0x38 then latchHigh p false s
  else if o = 0x40 then latchHigh p true s
  else
    match p with
    | .debug => s
    | .pcie =>
      if 0x1000 ≤ o ∧ o < 0x5000 ∧ o % 0x400 = 0x204 then readDone .pcie ((o - 0x1000) / 0x400) s
      else clearRead o s

/-- The word at an aligned offset; in the scratch window it goes through the checker, which may correct or poison its
block (R285, R292). -/
def readWord (p : ReadPort) (o : Nat) (s : State) : State × Nat :=
  if 0x231000 ≤ o ∧ o < 0x232000 ∧ s.life.phase = .service then scratchRead (o - 0x231000) s
  else (s, (drsRead p s o).getD 0)

/-- The bytes of `k` words from an aligned offset. -/
def readWords (p : ReadPort) : Nat → Nat → State → State × List Byte
  | 0, _, s => (s, [])
  | k + 1, o, s =>
    let (s, w) := readWord p o s
    let (s, bs) := readWords p k (o + 4) s
    (s, leBytes 4 w ++ bs)

/-- The bytes a read of any width and alignment addresses. -/
def readAddressed (p : ReadPort) (o width : Nat) (s : State) : State × List Byte :=
  let (t, bs) := readWords p ((o % 4 + width + 3) / 4) (o / 4 * 4) s
  (t, (bs.drop (o % 4)).take width)

/-- A read of the DRS: unreachable, or its value, with side effects when it is aligned and 32 bits wide (R8, R412). The
levels a read samples from outside are fresh for each read. -/
def readDrs (p : ReadPort) (o width : Nat) (s : State) : State :=
  if portReaches p s = false then s
  else if (drsRead p s (o / 4 * 4)).isNone then emit (.unsupported o) s
  else
    let (t, bs) := readAddressed p o width s
    let t := drawn (emit (.regRead o (BitVec.ofNat 64 (leNat bs))) t)
    if width = 4 ∧ o % 4 = 0 then readEffects p o t else t

end Sys2Proof.Machine
end

