-- ==== Sys2Proof/Machine/I3cOps.lean ====
section
/-! DEFINITION. The I3C target: when it answers, the register window, the path reset (R127, R128, R136, R327, R350). -/

namespace Sys2Proof.Machine

/-- The target takes part in transfers: from firmware start, and in the halt sequences, which answer a RING (R136, R349,
R350). -/
def i3cServed (s : State) : Bool :=
  (s.life.phase == .service && s.life.fwStart) || s.life.phase == .lossFlush || s.life.phase == .haltFlush

/-- A transfer addressed to the dynamic address: it resumes P1 to P3; in P4 it is not acknowledged and wakes the
device if the source is enabled (R327). -/
def i3cAddressed (body : State → State) (s : State) : State :=
  if s.i3c.addr.isNone then emit .i3cNack s
  else if s.life.phase = .p4 then
    let s := emit .i3cNack s
    if s.pwr.wakeSources.getLsbD 1 then wakeFromP4 false s else s
  else if i3cServed s then body (wakeByAccess s)
  else emit .i3cNack s

/-- DRS offset of a window offset (R128). -/
def windowOffset (w : Nat) : Option Nat :=
  if w < 0x800 then some (0x1000 + w)
  else if w < 0x810 then some (0x18000 + (w - 0x800))
  else if 0x8000 ≤ w ∧ w < 0x10000 then some (0x10000 + (w - 0x8000))
  else none

/-- One byte of the window; unlisted offsets read zero. -/
def windowByte (s : State) (w : Nat) : Byte :=
  match windowOffset w with
  | none => 0
  | some o => BitVec.ofNat 8 (((drsRead .pcie s (o / 4 * 4)).getD 0) / 2 ^ (8 * (o % 4)))

/-- Bytes of the window are returned; a 4-byte read of MBX_STATUS_n in DONE at its aligned offset re-arms the in-band
interrupt (R128, R135). -/
def readWindowI3c (w n : Nat) (s : State) : State :=
  let s := emit (.i3cData ((List.range n).map fun i => windowByte s (w + i))) s
  if n = 4 ∧ w < 0x800 ∧ w % 0x400 = 0x204 then readDone .i3c (w / 0x400) s else s

/-- Whole words written from a window offset upward; a partial word is discarded (R128). -/
def writeWindow : Nat → List Byte → State → State
  | w, a :: b :: c :: d :: rest, s =>
    let v : Word32 := BitVec.ofNat 32 (leNat [a, b, c, d])
    let s := match windowOffset w with
      | some o => writeDrs .i3c o v s
      | none => s
    writeWindow (w + 4) rest s
  | _, _, s => s

/-- The path's reset: BUSY requests run on, I3C ownership ends, I3C_EN resets (R136). The path's interrupt is armed
again: DESIGN CHOICE, log entry 174. -/
def i3cReset (s : State) : State :=
  let s := endOwnership .i3c s
  notify (refillRing (setI3cEn false { s with mbx := { s.mbx with ibiArmed := true } }))

/-- A 16-bit length, most significant byte first, as the CCCs carry it (log entry 60). -/
def lengthBytes (v : BitVec 16) : List Byte := [BitVec.ofNat 8 (v.toNat / 256), BitVec.ofNat 8 v.toNat]

end Sys2Proof.Machine
end

