-- ==== Sys2Proof/Machine/I3c.lean ====
section
/-! DEFINITION. Transfers on the I3C sideband (R127, R128, R135, R136). -/

namespace Sys2Proof.Machine

/-- R128: two bytes of window offset, then whole words from there on; an offset that is not a multiple of 4 writes
nothing and leaves the read offset. -/
def execI3cPrivateWrite (bytes : List (BitVec 8)) (s : State) : Result :=
  .next (i3cAddressed (fun s =>
    match bytes.take s.i3c.mwl.toNat with
    | lo :: hi :: data =>
      let w := leNat [lo, hi]
      if w % 4 ≠ 0 then s else writeWindow w data { s with i3c := { s.i3c with offset := w } }
    | _ => s) s)

/-- R128: bytes from the offset of the last private write, at most the maximum read length. -/
def execI3cPrivateRead (count : Nat) (s : State) : Result :=
  .next (i3cAddressed (fun s => readWindowI3c s.i3c.offset (min count s.i3c.mrl.toNat) s) s)

/-- R127: a target without a dynamic address takes the one it is assigned. -/
def execEntdaa (addr : BitVec 7) (s : State) : Result :=
  .next (
    if i3cServed s && s.i3c.addr.isNone then { s with i3c := { s.i3c with addr := some addr } }
    else s)

/-- R127, R327: the same, by the static address 0x2C; in P4 a transfer to that address wakes. -/
def execSetdasa (static addr : BitVec 7) (s : State) : Result :=
  .next (
    if static ≠ 0x2C then s
    else if s.life.phase = .p4 then
      let s := emit .i3cNack s
      if s.pwr.wakeSources.getLsbD 1 then wakeFromP4 false s else s
    else if i3cServed s = false then emit .i3cNack s
    else
      let s := wakeByAccess s
      if s.i3c.addr.isNone then { s with i3c := { s.i3c with addr := some addr } } else s)

/-- R127, R136: the dynamic address is gone, and the path is reset. -/
def execRstdaa (s : State) : Result :=
  .next (if i3cServed s then i3cReset { s with i3c := { s.i3c with addr := none } } else s)

/-- R127, R135. -/
def execEnec (s : State) : Result :=
  .next (if i3cServed s then { s with i3c := { s.i3c with ibiOn := true } } else s)

/-- R127, R135. -/
def execDisec (s : State) : Result :=
  .next (if i3cServed s then { s with i3c := { s.i3c with ibiOn := false } } else s)

/-- R127: at most the 258 bytes the target takes. -/
def execSetmwl (len : BitVec 16) (s : State) : Result :=
  .next (i3cAddressed (fun s => { s with i3c := { s.i3c with mwl := if len.toNat ≤ 258 then len else 258 } }) s)

/-- R127: at most the 256 bytes the target returns. -/
def execSetmrl (len : BitVec 16) (s : State) : Result :=
  .next (i3cAddressed (fun s => { s with i3c := { s.i3c with mrl := if len.toNat ≤ 256 then len else 256 } }) s)

/-- R127. -/
def execGetmwl (s : State) : Result :=
  .next (i3cAddressed (fun s => emit (.i3cData (lengthBytes s.i3c.mwl)) s) s)

/-- R127: the length, and the one byte an in-band interrupt carries (log entry 60). -/
def execGetmrl (s : State) : Result :=
  .next (i3cAddressed (fun s => emit (.i3cData (lengthBytes s.i3c.mrl ++ [1])) s) s)

/-- R127: the 48-bit provisional ID, most significant byte first. -/
def execGetpid (s : State) : Result :=
  .next (i3cAddressed (fun s => emit (.i3cData (leBytes 6 s.i3c.pid.toNat).reverse) s) s)

/-- R127: BCR 0x06. -/
def execGetbcr (s : State) : Result := .next (i3cAddressed (emit (.i3cData [0x06])) s)

/-- R127: DCR 0x00. -/
def execGetdcr (s : State) : Result := .next (i3cAddressed (emit (.i3cData [0x00])) s)

/-- R127: two bytes of status; the manual does not say what they hold: a free value. -/
def execGetstatus (s : State) : Result :=
  .next (i3cAddressed (fun s => drawn (emit (.i3cData (leBytes 2 (Config.word s.free).toNat)) s)) s)

/-- R136: the reset action ends I3C ownership and resets I3C_EN, whichever action the controller names. -/
def execRstact (_action : BitVec 8) (s : State) : Result :=
  .next (if i3cServed s then i3cReset s else s)

end Sys2Proof.Machine
end

