-- ==== Sys2Proof/Machine/ReadOps.lean ====
section
/-! DEFINITION. Reads: the thresholds a flash read starts from, resolving a host read, and what waits (R112, R115, R155,
R175, R238 to R242). -/

namespace Sys2Proof.Machine

/-! ## Threshold prediction (R238 to R241) -/

/-- Bin of a number among rising lower bounds of bins 1, 2, …. -/
def binOf (bounds : List Int) (v : Int) : Nat := (bounds.filter fun b => b ≤ v).length

/-- Bin a: retention age in seconds (R238). -/
def ageBin (sec : Int) : Nat :=
  binOf [3600, 28800, 86400, 259200, 604800, 1209600, 2592000, 7776000, 15552000, 31536000] sec

/-- Bins t and u: a temperature in °C (R238). -/
def tempBin (c : Int) : Nat := binOf [0, 25, 45, 60, 75] c

/-- Bin w: erases as a share of rated endurance, in per cent (R238). -/
def wearBin (erases endurance : Nat) : Nat := binOf [5, 15, 30, 45, 60, 75, 90] (erases * 100 / endurance : Nat)

/-- The table index of four bins (R238). -/
def tableIndex (a t u w : Nat) : Nat := ((a * 6 + t) * 6 + u) * 8 + w

/-- Rated endurance of a qualification entry: the list is outside the manual, so the value is free (R211). -/
def ratedEndurance (entry : Nat) : Nat := (Config.qualification entry 0).toNat

/-- The seven offsets of a table entry, free as the list is (R211, R238). -/
def tableOffsets (entry index : Nat) : List Int :=
  (List.range 7).map fun i => ((Config.qualification entry (1 + index * 7 + i)).truncate 8 : BitVec 8).toInt

/-- The retention age of a superblock's member blocks in seconds; none where it is unknown (R239, R240). -/
def retentionAge (s : State) (b : Superblock) : Option Int :=
  match s.clk.utc, b.firstUtc with
  | some now, some t => if t = 0 ∨ now < t then none else some ((now - t) / 1000000 : Nat)
  | _, _ => none

/-- The table index a read of a die's member block uses; 0xFFFF with an unknown age (R238, R240). -/
def readIndex (s : State) (b : Superblock) (d : Die) : Nat :=
  match retentionAge s b with
  | none => 0xFFFF
  | some a =>
    tableIndex (ageBin a) (tempBin (b.firstTemps.getD (d.index / 32) 0)) (tempBin d.temp)
      (wearBin (b.memberErases.getD (d.index / 32) 0) (ratedEndurance d.qual))

/-- A correction stays within ±24 steps (R241). -/
def bound24 (i : Int) : Int := max (-24) (min 24 i)

/-- Offsets in force for an index: the drift estimate with an unknown age, else the table's plus the die's correction
(R240, R241). -/
def offsetsFor (d : Die) (index : Nat) : List Int :=
  if index = 0xFFFF then d.drift
  else if d.driftIndex = 0xFFFF then tableOffsets d.qual index
  else
    List.zipWith (fun t c => t + bound24 c) (tableOffsets d.qual index)
      (List.zipWith (fun e t => e - t) d.drift (tableOffsets d.qual d.driftIndex))

/-- Shift sets of a qualification entry and the offsets of one: the list is outside the manual (R211, R242). -/
def shiftSets (entry : Nat) : Nat := (Config.qualification entry 0x20000).toNat

/-- The seven offsets of a shift set. -/
def shiftOffsets (entry set : Nat) : List Int :=
  (List.range 7).map fun i => ((Config.qualification entry (0x20001 + set * 7 + i)).truncate 8 : BitVec 8).toInt

/-- The shift sets step 1 tries on a die: up to three, in the order of the die's success counts (R242). DESIGN CHOICE,
log entry 177: of equal counts the lower set first. -/
def setOrder (d : Die) : List Nat :=
  ((List.range (shiftSets d.qual)).insertionSort fun i j => d.setWins.getD j 0 ≤ d.setWins.getD i 0).take 3

/-- The index and offsets in force on a die. -/
def inForce (index : Nat) (offsets : List Int) (d : Die) : Die := { d with thresholdIndex := index, offsets := offsets }

/-! ## Where a codeword lies (R171, R244)

Offsets from the data space's end on stand for the units of the parity member: 48 for each row. -/

/-- An offset names a unit of the parity member. -/
def isParity (b : Superblock) (off : Nat) : Bool := decide (dataSpace b ≤ off)

/-- Row of a codeword. -/
def readRow (b : Superblock) (off : Nat) : Nat :=
  if isParity b off then (off - dataSpace b) / programUnit else rowOf b off

/-- Page of a codeword. -/
def readPage (b : Superblock) (off : Nat) : Nat :=
  if isParity b off then (off - dataSpace b) % programUnit / 16 else pageOf b off

/-- Die that holds a codeword. -/
def readDie (b : Superblock) (off : Nat) : Nat :=
  if isParity b off then memberDie b (parityChannel b) else dieOf b off

/-! ## Starting a read of one unit (R242, R247) -/

/-- A unit read enters the ladder at step 0, or at step 5 on a fenced die. -/
def startUnitRead (r : Reader) (ns lba sb off : Nat) (s : State) : State :=
  match findSb s sb with
  | none => s
  | some b =>
    let die := readDie b off
    let thresholds := match findDie s die with
      | some d => (readIndex s b d, offsetsFor d (readIndex s b d))
      | none => (0xFFFF, [])
    let s := { s with intg := { s.intg with reads := s.intg.reads ++
      [{ reader := r, ns := ns, lba := lba, sb := sb, off := off, step := if dieOut s die then 5 else 0, sets := 0
         index := thresholds.1, offsets := thresholds.2, waitsMap := false }] } }
    updateDie die (inForce thresholds.1 thresholds.2) s

/-! ## Host reads (R112, R115, R155, R175) -/

/-- What a host read finds for one of its units. -/
inductive Found where
  | unit (u : Unit4k)
  | hit (u : Unit4k)
  | flash (sb off : Nat)
  | lost
  | wait
deriving DecidableEq, Repr

/-- A unit of zeros as the host reads it: with protection information the escape values travel (log entry 18). -/
def zerosRead (s : State) (ns : Nat) : Unit4k :=
  match findNs s ns with
  | some n => if n.fmt == 1 && n.pi != 0 then { zeroUnit with pi := BitVec.allOnes 64 } else zeroUnit
  | none => zeroUnit

/-- One unit for a reader on queue `q`: the newest accepted write it may see, else the map once it is ready (R26,
R27). A write of the reader's own queue under a fence hold makes it wait (R155). -/
def findUnit (s : State) (q ns lba : Nat) : Found :=
  let own := s.ord.accepted.any fun w => w.src == .queue q && coversUnit w ns lba && !readable s w
  if own then .wait
  else
    match newestWrite s (readable s) ns lba with
    | some w =>
      match w.kind with
      | .deallocate => .unit (zerosRead s ns)
      | .secureDiscard => .unit (zerosRead s ns)
      | _ =>
        if w.programmed then
          match placedAt w (lba - w.lba) with
          | some (sb, off) => .flash sb off
          | none => .unit (zerosRead s ns)
        else
          match contentOf w lba with
          | some u => if u.lost then .lost else .hit u
          | none => .unit (zerosRead s ns)
    | none =>
      if s.life.mapReady = false then .wait
      else
        match resolveMap s ns lba with
        | .zeros => .unit (zerosRead s ns)
        | .lost => .lost
        | .flash sb off => .flash sb off

/-- The units of a read in LBA order. -/
def findUnits (s : State) (q : Nat) (e : Sqe) : List Found :=
  (List.range (sqeLen e)).map fun i => findUnit s q e.nsid.toNat (sqeLba e + i)

/-- A fetched or waiting read resolves all its units at once, or waits (R112, R115, R155). -/
def resolveRead (c : Cmd) (s : State) : State :=
  let fs := findUnits s c.sq c.sqe
  if fs.contains .wait then updateCmd c.sq c.sqe.cid (fun x => { x with stage := .running, waits := true }) s
  else
    let got := fs.map fun f => match f with
      | .unit u => some u
      | .hit u => some u
      | _ => none
    let hits := (fs.zipIdx.filter fun f => match f.1 with
      | .hit _ => true
      | _ => false).map (·.2)
    let bad := (fs.zipIdx.find? fun f => f.1 == .lost).map fun f => sqeLba c.sqe + f.2
    let s := updateCmd c.sq c.sqe.cid (fun x => { x with stage := .running, waits := false, got := got, hits := hits, failed := bad }) s
    fs.zipIdx.foldl (fun s f => match f.1 with
      | .flash sb off => startUnitRead (.host c.sq c.sqe.cid) c.sqe.nsid.toNat (sqeLba c.sqe + f.2) sb off s
      | _ => s) s

/-- Reads and Verifies that wait try again. -/
def retryReads (s : State) : State :=
  (s.nv.cmds.filter fun c => c.waits).foldl (fun s c => resolveRead c s) s

/-- A unit read of a host command ended: with good data, or with none (R242, R256). -/
def deliver (r : UnitRead) (u : Option Unit4k) (s : State) : State :=
  match r.reader with
  | .host sq cid =>
    updateCmd sq cid (fun c =>
      let k := r.lba - sqeLba c.sqe
      match u with
      | some u => { c with got := c.got.set k (some u) }
      | none => { c with failed := some (min r.lba (c.failed.getD r.lba)) }) s
  | _ => s

end Sys2Proof.Machine
end

