-- ==== Sys2Proof/Machine/Integrity.lean ====
section
/-! DEFINITION. The retry ladder, stripe rebuild, drift tracking and scrub (R234, R236, R241 to R249, R251 to R253,
R258). -/

namespace Sys2Proof.Machine

/-! ## What a read meets -/

/-- A unit read's record changed. -/
def updateRead (r : UnitRead) (f : UnitRead → UnitRead) (s : State) : State :=
  { s with intg := { s.intg with reads := changeWhere (· == r) f s.intg.reads } }

/-- A unit read has ended. -/
def endRead (r : UnitRead) (s : State) : State :=
  { s with intg := { s.intg with reads := s.intg.reads.erase r } }

/-- The F6 check of a unit against what the read expects (R251); pad and summary units, which only scrub reads, carry no
data of a namespace. -/
def f6Expected (s : State) (r : UnitRead) (u : FlashUnit) : Bool :=
  match u.kind with
  | .pad => r.reader == .scrub
  | .summary => r.reader == .scrub
  | _ => u.lba == r.lba && u.ns == r.ns && decide (u.seq < s.ord.next)

/-- What a unit decrypts to can pass F9: it is no lost unit, and its key is the namespace's (R249, R252, R392). -/
def f9Expected (s : State) (u : FlashUnit) : Bool :=
  !u.content.lost && (u.kind == .pad || u.kind == .summary || u.keyGen == keyGenOf s u.ns)

/-- E2E_GUARD_MISMATCH at F6 or F9 of a unit read from flash; at F9 the Mace die is tested (R251, R252, R369). -/
def logMismatch (atF9 : Bool) (r : UnitRead) (die : Nat) (s : State) : State :=
  let data := evData [(5, r.lba), (1, r.ns), (1, if atF9 then 2 else 1), (1, 0)]
  if atF9 then startTest (maceUnit (maceOf (die / 32))) 0x0604 (logEvent 0x0604 (blockUnit 5) data s)
  else logEvent 0x0604 (blockUnit 8) data s

/-- LDPC_UNCORRECTABLE (R258, R388). -/
def logUncorrectable (r : UnitRead) (die : Nat) (erased : Bool) (s : State) : State :=
  logEvent 0x0602 (dieUnit die) (evData [(4, r.sb), (3, r.off), (1, flag erased + 2 * flag (r.reader == .scrub))]) s

/-- Scrub is to visit a superblock out of turn (R248). -/
def wantVisit (sb : Nat) (s : State) : State :=
  if s.intg.visit.contains sb then s else { s with intg := { s.intg with visit := s.intg.visit ++ [sb] } }

/-- A superblock is queued for relocation; SCRUB_RELOCATE says why, once. Cause in the order of R249, from 0. -/
def wantRelocate (sb cause : Nat) (s : State) : State :=
  match findSb s sb with
  | none => s
  | some b =>
    if b.relocate then s
    else
      logEvent 0x0606 (superblockUnit sb) (evData [(4, sb), (1, cause), (3, 0)])
        (updateSb sb (fun b => { b with relocate := true }) s)

/-- Page reads of a member block are counted; at 100,000 scrub visits the superblock (R248). -/
def countReads (sb ch k : Nat) (s : State) : State :=
  let add (b : Superblock) : Superblock :=
    let rs := if b.reads.isEmpty then List.replicate 32 0 else b.reads
    { b with reads := rs.modify ch (· + k) }
  let s := updateSb sb add s
  match findSb s sb with
  | none => s
  | some b =>
    let n := b.reads.getD ch 0
    if 100000 ≤ n ∧ n < 100000 + k then wantVisit sb s else s

/-- Sensings of a ladder step (R242). -/
def sensings (step : Nat) : Nat :=
  match step with
  | 0 => 1
  | 1 => 1
  | 4 => 3
  | _ => 2

/-! ## Drift (R241) -/

/-- How an excess of 1-to-0 corrections moves each threshold for a page type, −1, 0 or 1: the bit coding of a
qualification entry is not in the manual (R211, R241). -/
def thresholdMoves (entry page : Nat) : List Int :=
  (List.range 7).map fun i => (Config.qualification entry (0x10000 + page * 7 + i)).toNat % 3 - 1

/-- The thresholds of a page type move one step; the correction stays within ±24 of the table (R241). -/
def moveDrift (d : Die) (page : Nat) (sign : Int) : List Int :=
  let moved := List.zipWith (fun x m => x + sign * m) d.drift (thresholdMoves d.qual page)
  if d.driftIndex = 0xFFFF then moved
  else List.zipWith (fun x t => t + bound24 (x - t)) moved (tableOffsets d.qual d.driftIndex)

/-- A codeword decoded at step 0: it is counted for its page type, and after 16 of them the thresholds may move. -/
def tallyDecode (page ones zeros : Nat) (d : Die) : Die :=
  let t := d.tallies.getD page ⟨0, 0, 0⟩
  let t : Tally := ⟨t.count + 1, t.ones + ones, t.zeros + zeros⟩
  if t.count < 16 then { d with tallies := d.tallies.set page t }
  else
    let total := t.ones + t.zeros
    let apart := max t.ones t.zeros - min t.ones t.zeros
    let moves := decide (8 ≤ total) && decide (total < 4 * apart)
    { d with
      tallies := d.tallies.set page ⟨0, 0, 0⟩
      drift := if moves then moveDrift d page (if t.zeros < t.ones then 1 else -1) else d.drift }

/-- The drift estimate after a decode at step 0 or 1: the offsets in force, of the table or of the shift set (R241). -/
def trackDrift (step page : Nat) (x : Decode) (d : Die) : Die :=
  match step with
  | 0 => tallyDecode page x.oneToZero x.zeroToOne { d with drift := d.offsets, driftIndex := d.thresholdIndex }
  | 1 => { d with drift := d.offsets, driftIndex := d.thresholdIndex }
  | _ => d

/-! ## The ladder (R242, R243) -/

/-- A shift set has ended one more read (R242). -/
def countWin (set : Nat) (wins : List Nat) : List Nat :=
  (List.range (max wins.length (set + 1))).map fun i => wins.getD i 0 + flag (i == set)

/-- A read at step 1 ends with the shift set it tries. -/
def winSet (sets : Nat) (d : Die) : Die :=
  match (setOrder d)[sets]? with
  | some k => { d with setWins := countWin k d.setWins }
  | none => d

/-- A read ends with good data at a ladder step. -/
def readGood (r : UnitRead) (b : Superblock) (u : Unit4k) (bits : Nat) (s : State) : State :=
  let die := readDie b r.off
  let s := endRead r (deliver r (some u) s)
  let s := if 1 ≤ r.step then { s with intg := { s.intg with ladder := s.intg.ladder.modify (r.step - 1) (· + 1) } } else s
  let s :=
    if 2 ≤ r.step ∧ r.step ≤ 4 then
      logEvent 0x0601 (dieUnit die) (evData [(4, r.sb), (1, r.step), (1, readPage b r.off), (2, sat 16 bits)]) s
    else s
  if 2 ≤ r.step then (if r.reader = .scrub then wantRelocate r.sb 0 s else wantVisit r.sb s)
  else if 96 < bits then wantRelocate r.sb 1 s
  else s

/-- A read ends with none; of a scrub read, the unit is a lost unit from now on and its superblock is relocated (R249,
R256). -/
def readLost (r : UnitRead) (s : State) : State :=
  let s := endRead r (deliver r none s)
  if r.reader = .scrub then
    let lose (u : FlashUnit) : FlashUnit :=
      if u.off = r.off then { u with content := { u.content with data := 0, guard := guardOf 0 ^^^ 0xFFFFFFFF, lost := true } }
      else u
    wantRelocate r.sb 0 (updateSb r.sb (fun b => { b with units := b.units.map lose }) s)
  else s

/-- The row of a unit is still in the write buffer: its parity member is not programmed (R243). -/
def rowBuffered (b : Superblock) (off : Nat) : Bool := b.state == .granted && !b.rowsDone.contains (readRow b off)

/-- The next shift set is tried, or step 2 where none is left (R242). -/
def nextSet (r : UnitRead) (k die : Nat) (s : State) : State :=
  match (findDie s die).bind fun d => ((setOrder d)[k]?).map (shiftOffsets d.qual) with
  | some os => updateDie die (inForce r.index os) (updateRead r (fun r => { r with step := 1, sets := k, offsets := os }) s)
  | none => updateRead r (fun r => { r with step := 2 }) s

/-- A decode failed at a step: the next shift set, the next step, or after step 4 the buffer copy or stripe rebuild. -/
def climb (r : UnitRead) (b : Superblock) (u : Option FlashUnit) (s : State) : State :=
  match r.step with
  | 0 => nextSet r 0 (readDie b r.off) s
  | 1 => nextSet r (r.sets + 1) (readDie b r.off) s
  | 4 =>
    let s := logUncorrectable r (readDie b r.off) false s
    match u with
    | some u => if rowBuffered b r.off then endRead r (deliver r (some u.content) s)
                else updateRead r (fun r => { r with step := 5 }) s
    | none => updateRead r (fun r => { r with step := 5 }) s
  | _ => updateRead r (fun r => { r with step := r.step + 1 }) s

/-- Unit a parity failure of a read stage is logged against and tests (R18, R253, R369). -/
def readStageUnit (die stage : Nat) : UnitId :=
  let ch := die / 32
  match stage with
  | 2 => channelUnit ch
  | 3 => channelUnit ch
  | 4 => maceUnit (maceOf ch)
  | 5 => maceUnit (maceOf ch)
  | 6 => blockUnit (0x18 + maceOf ch)
  | 7 => blockUnit 0xB
  | 8 => blockUnit 0xA
  | _ => blockUnit 5

/-- A byte parity failure on the way from the die: the codeword is read again at the same step; the byte lane is a free
value (R253). -/
def readParity (r : UnitRead) (die stage : Nat) (s : State) : State :=
  let u := readStageUnit die stage
  drawn (busParity (0x80 + stage) u u (Config.choice s.free % 256) 0 0 (r.lba % 2 ^ 32) s)

/-- The F6 and F9 checks of a decoded codeword (R243, R251, R252). -/
def checkDecoded (r : UnitRead) (b : Superblock) (u : FlashUnit) (x : Decode) (s : State) : State :=
  let die := readDie b r.off
  if (x.f6Ok && f6Expected s r u) = false then climb r b (some u) (logMismatch false r die s)
  else if u.content.lost then endRead r (deliver r none (logMismatch true r die s))
  else if (x.f9Ok && f9Expected s u) = false then climb r b (some u) (logMismatch true r die s)
  else
    let s := updateDie die (fun d =>
      (if r.step = 1 then winSet r.sets else id) (trackDrift r.step (readPage b r.off) x (inForce r.index r.offsets d))) s
    readGood r b u.content (x.oneToZero + x.zeroToOne) s

/-- What a codeword holds: the unit placed there, or, of the parity member of a programmed row, a unit whose metadata
has no meaning (R244; DESIGN CHOICE, log entry 177: it stands as a pad unit). -/
def heldUnit (b : Superblock) (off : Nat) : Option FlashUnit :=
  if isParity b off then (if b.rowsDone.contains (readRow b off) then some (padUnit off) else none) else unitAt b off

/-- R234, R236, R242, R243, R251 to R253. -/
def decodeEnds (r : UnitRead) (b : Superblock) (x : Decode) (s : State) : State :=
  let die := readDie b r.off
  let s := countReads r.sb (die / 32) (sensings r.step) s
  if x.parityStage ≠ 0 then readParity r die x.parityStage s
  else
    match heldUnit b r.off with
    | none => updateRead r (fun r => { r with step := 5 }) (logUncorrectable r die true s)
    | some u =>
      if x.erased then updateRead r (fun r => { r with step := 5 }) (logUncorrectable r die true s)
      else if x.ok then checkDecoded r b u x s
      else climb r b (some u) s

/-- The read at steps 0 to 4 of a unit whose decode ends, the oldest. -/
def ladderRead (s : State) (sb off : Nat) : Option UnitRead :=
  s.intg.reads.find? fun r => r.sb == sb && r.off == off && decide (r.step < 5) && !r.waitsMap

/-- R242. -/
def execCodewordDecodeDone (sb off : Nat) (result : Decode) (s : State) : Result :=
  .next (
    match ladderRead s sb off, findSb s sb with
    | some r, some b => if s.life.phase = .service then retryReads (decodeEnds r b result s) else s
    | _, _ => s)

/-! ## Stripe rebuild (R245, R246) -/

/-- STRIPE_REBUILD, a notice on success and an error on failure (R258, R388). Outcome: 0 success, 1 second member, 2
blank parity, 3 F6 or F9. -/
def logRebuild (r : UnitRead) (die outcome : Nat) (s : State) : State :=
  logSev 0x0603 (if outcome = 0 then 2 else 4) (dieUnit die) (evData [(4, r.sb), (3, r.off), (1, outcome)]) s

/-- A rebuild that fails ends the read with none. -/
def rebuildFails (r : UnitRead) (die outcome : Nat) (s : State) : State := readLost r (logRebuild r die outcome s)

/-- How a rebuild ends, given what is stored. -/
def rebuildEnds (r : UnitRead) (b : Superblock) (result : Rebuild) (s : State) : State :=
  let die := readDie b r.off
  match result, heldUnit b r.off with
  | .secondMember, _ => rebuildFails r die 1 s
  | .blankParity, _ => updateSb r.sb (fun b => { b with relocate := true }) (rebuildFails r die 2 s)
  | .f6Failed, _ => rebuildFails r die 3 (logMismatch false r die s)
  | .f9Failed, _ => rebuildFails r die 3 (logMismatch true r die s)
  | .success, none => rebuildFails r die 3 (logMismatch false r die s)
  | .success, some u =>
    if f6Expected s r u = false then rebuildFails r die 3 (logMismatch false r die s)
    else if f9Expected s u = false then rebuildFails r die 3 (logMismatch true r die s)
    else
      let s := logRebuild r die 0 s
      let s := { s with intg := { s.intg with ladder := s.intg.ladder.modify 4 (· + 1) } }
      wantRelocate r.sb 2 (endRead r (deliver r (some u.content) s))

/-- The read of a unit that waits for its rebuild, the oldest. -/
def rebuildRead (s : State) (sb off : Nat) : Option UnitRead :=
  s.intg.reads.find? fun r => r.sb == sb && r.off == off && r.step == 5 && !r.waitsMap

/-- R245. -/
def execStripeRebuildEnd (sb off : Nat) (result : Rebuild) (s : State) : Result :=
  .next (
    match rebuildRead s sb off, findSb s sb with
    | some r, some b => if s.life.phase = .service then retryReads (rebuildEnds r b result s) else s
    | _, _ => s)

/-! ## Scrub (R248, R249) -/

/-- The CLOSED superblock of the lowest close stamp among those scrub may read. -/
def lowestStamp (bs : List Superblock) : Option Superblock :=
  bs.foldl (fun o b => match o with
    | none => some b
    | some x => if b.closeStamp < x.closeStamp then some b else some x) none

/-- The superblock scrub reads next: one to visit out of turn, else the next of the patrol, which begins again when
every one has been read (R248). -/
def scrubNext (s : State) : Option Superblock :=
  let closed := s.map.sbs.filter fun b => b.state == .closed
  match s.intg.visit.findSome? fun n => closed.find? fun b => b.number == n with
  | some b => some b
  | none =>
    match lowestStamp (closed.filter fun b => !s.intg.patrolled.contains b.number) with
    | some b => some b
    | none => lowestStamp closed

/-- The superblock is entered as read: a cycle that is complete starts over with it. -/
def enterPatrol (s : State) (b : Superblock) : Integrity :=
  let i := s.intg
  if i.visit.contains b.number then { i with visit := i.visit.filter (· != b.number) }
  else if i.patrolled.contains b.number then { i with patrolled := [b.number] }
  else { i with patrolled := i.patrolled ++ [b.number] }

/-- Every codeword of a superblock as scrub reads it: its units, then those of the parity member's programmed rows, each
with namespace, LBA and offset (R248). -/
def patrolReads (b : Superblock) : List (Nat × Nat × Nat) :=
  (b.units.map fun u => (u.ns, u.lba, u.off)) ++
    b.rowsDone.flatMap fun r => (List.range programUnit).map fun j => (0, 0, dataSpace b + r * programUnit + j)

/-- R248, R249: every codeword of the superblock is read; one with a member on a fenced die is relocated. -/
def execScrubPatrol (s : State) : Result :=
  .next (
    if serving s && backgroundOpen s then
      match scrubNext s with
      | none => s
      | some b =>
        let s := { s with intg := enterPatrol s b }
        let s := if memberOut s b then wantRelocate b.number 3 s else s
        (patrolReads b).foldl (fun s x => startUnitRead .scrub x.1 x.2.1 b.number x.2.2 s) s
    else s)

end Sys2Proof.Machine
end

