-- ==== Sys2Proof/Machine/Link.lean ====
section
/-! DEFINITION. The capture link's commands: bring-up, training, signal and codewords (R36 to R57). -/

namespace Sys2Proof.Machine

/-! ## Lorard commands of the link (R137) -/

/-- What a CAPTURE_LINK_UP finds and changes (R131). -/
def linkBefore (l : Link) : LinkBefore where
  window := l.window
  forceFull := l.forceFull
  epoch := l.epoch
  granted := l.granted
  consumed := l.consumed
  entered := l.entered
  fastFails := l.fastFails
  lastFast := l.lastFast
  skew := l.skew
  retrains := l.retrains
  counts := l.lanes.map fun x => (x.uncorr, x.corr, x.fom)

/-- What CAPTURE_LINK_UP starts (R46, R47, R54, R421). -/
def startLink (window : Nat) (full : Bool) (s : State) : State :=
  let s := onLink (fun l => { l with
    before := some (linkBefore l)
    window := if window = 0 then 512 else window, forceFull := full, epoch := 0, granted := 0, consumed := 0
    entered := false, fastFails := 0, lastFast := false, skew := 0, retrains := 0, frozen := false
    goingDown := false, haltedUp := false }) s
  let s := onLanes (fun x => { x with uncorr := 0, corr := 0, fom := 0, trains := 0, tuneDone := false }) s
  enterAwait s

/-- R47, R137: WRONG_STATE unless the bundle is DOWN; then the full path starts against a handle. -/
def execCaptureLinkUp (m : Fin 16) (s : State) : Result :=
  .next (serve m 0x0040 (fun s =>
    if s.link.state ≠ .down ∨ 2 ≤ s.pwr.state then respond m stWrongState [] s
    else
      let w := reqField s m 8 2
      let full := (reqField s m 10 1).testBit 0
      accept m 0x0040 false 0 0 false (fun _ s => startLink w full s) s) s)

/-- A stream is OPEN, FULL or DRAINING (R137). -/
def streamsActive (s : State) : Bool :=
  s.str.list.any fun x => x.state == .open_ || x.state == .full || x.state == .draining

/-- R47, R53, R137: the bundle goes DOWN; STATUS carries the going-down flag; open frames end short; a live
CAPTURE_LINK_UP completes with NOT_READY. -/
def takeLinkDown (s : State) : State :=
  if s.link.state = .down then s
  else
    let s := sendStatus (onLink (fun l => { l with goingDown := true }) s)
    completeLinkUp stNotReady (enterDown (closeShort 3 s))

/-- R47, R137. -/
def execCaptureLinkDown (m : Fin 16) (s : State) : Result :=
  .next (serve m 0x0041 (fun s =>
    if streamsActive s && !(reqField s m 8 1).testBit 0 then respond m stWrongState [] s
    else if s.link.state = .halted then respond m stWrongState [] s
    else respond m stOk [] (takeLinkDown s)) s)

/-- Results of CAPTURE_LINK_STATUS (R137). -/
def linkStatusBytes (l : Link) : List Byte :=
  packBytes [(1, bundleCode l.state), (1, lockBitmap l), (1, l.epoch.toNat), (1, flag l.lastFast),
    (4, l.granted.toNat), (4, l.consumed.toNat / creditBytes), (2, l.window), (2, l.retrains),
    (4, sat 32 (l.lanes.map (·.uncorr)).sum), (4, sat 32 (l.lanes.map (·.corr)).sum)]

/-- R137. -/
def execCaptureLinkStatus (m : Fin 16) (s : State) : Result :=
  .next (serve m 0x0042 (fun s => respond m stOk (linkStatusBytes s.link) s) s)

/-- R47: not UP within 100 ms; the bundle keeps its state. -/
def execCaptureLinkUpTimeout (s : State) : Result :=
  .next (if s.link.state = .up then s else completeLinkUp stNotReady s)

/-- R51: every 1 µs from AWAIT onward. -/
def execStatusSend (s : State) : Result := .next (sendStatus s)

/-! ## Bring-up (R46 to R48, R55) -/

/-- R46: in AWAIT the receivers watch for signal; all eight lanes move the bundle to ACQUIRE. -/
def execLaneSignalDetect (balls : BitVec 8) (s : State) : Result :=
  .next (
    if s.link.state = .await then
      let s := onLink (fun l => { l with lanes := l.lanes.mapIdx fun i x => { x with signal := balls.getLsbD i } }) s
      if balls = 0xFF then onLink (fun l => { l with state := .acquire }) s else s
    else s)

/-- R46: a preamble in RETRAIN starts acquisition. -/
def execPreambleDetect (s : State) : Result :=
  .next (
    if s.link.state = .retrain then
      onLanes (fun x => { laneRestart x with signal := true }) (onLink (fun l => { l with state := .acquire }) s)
    else s)

/-- R37, R46: every lane acquires; inverted pairs are corrected. -/
def execAcquisitionDone (inverted : BitVec 8) (s : State) : Result :=
  .next (
    if s.link.state = .acquire then
      onLink (fun l => { l with
        state := .track, lanes := l.lanes.mapIdx fun i x => { x with inverted := inverted.getLsbD i } }) s
    else s)

/-- R46: not acquired within 4 µs. -/
def execAcquireTimeout (s : State) : Result :=
  .next (if s.link.state = .acquire then failBringUp s else s)

/-- R46, R48: word positions, codeword indices and alignment counts start here (R41, R42). -/
def execStartDelimiter (s : State) : Result :=
  .next (
    if s.link.state = .track then onLanes laneRestart (onLink (fun l => { l with state := .cwlock }) s) else s)

/-- R46: no delimiter within 100 µs. -/
def execTrackTimeout (s : State) : Result :=
  .next (if s.link.state = .track then failBringUp s else s)

/-- A first codeword is an alignment codeword with a good marker (R40, R41, R46); an uncorrectable one cannot be
trusted. -/
def firstGood (d : Decoded) : Bool :=
  !d.uncorrectable && field d.tag.toNat 16 1 == 1 && field d.tag.toNat 0 14 == 0 &&
    markerGood (d.words.headD 0) (field d.tag.toNat 17 3) 0

/-- The lane after its first codeword: its number is announced, it is locked, and the codeword has gone through the lane
framing and waits for its set (R40 to R43, R45). -/
def laneLocked (d : Decoded) (x : Lane) : Lane :=
  let f := laneCodeword { x with logical := some (field d.tag.toNat 17 3), lock := true } d false
  { f.lane with fifo := [⟨0, field d.tag.toNat 15 1 == 1, d.uncorrectable, 0, f.words, f.modes⟩] }

/-- The lane's count of uncorrectable codewords takes in its first one. -/
def countFirst (d : Decoded) (x : Lane) : Lane :=
  if d.uncorrectable then { x with uncorr := sat 32 (x.uncorr + 1) } else x

/-- Each uncorrectable first codeword is reported (R39). -/
def logFirst (ds : List Decoded) (s : State) : State :=
  ds.zipIdx.foldl (fun s d =>
    if d.1.uncorrectable then logFec d.2 0 0 (updateLane d.2 (countFirst d.1) s) else s) s

/-- R46: the first codewords are decoded and checked and the eight lane numbers are distinct: TUNE on the full path,
DESKEW on the fast path, AWAIT on failure. -/
def execFirstAlignmentCodeword (cws : List (List (BitVec 10))) (s : State) : Result :=
  .next (
    if s.link.state = .cwlock then
      let ds := cws.map decodeCodeword
      let good := ds.length == 8 && ds.all firstGood && decide (ds.map (fun d => field d.tag.toNat 17 3)).Nodup
      let s := logFirst ds s
      if good then
        let s := onLink (fun l => { l with lanes := l.lanes.mapIdx fun i x =>
          match ds[i]? with
          | some d => laneLocked d x
          | none => x }) s
        if s.link.fastNow then onLink (fun l => { l with state := .deskew }) s
        else onLanes (fun x => { x with fom := 0, trains := 0, tuneDone := false })
          (onLink (fun l => { l with state := .tune }) s)
      else failBringUp s
    else s)

/-- R55: a TRAIN command of value 0 to 3, or the closing command of value 4 once the figure of merit reaches 160 or 32
commands have gone; the last lane done moves the bundle to DESKEW (R46). -/
def execTrainSend (ball : Fin 8) (command : Fin 4) (taps fom : BitVec 8) (s : State) : Result :=
  .next (
    let x := laneOf s ball
    if s.link.state = .tune ∧ x.tuneDone = false then
      let n := x.logical.getD ball.val
      if 160 ≤ fom.toNat ∨ 32 ≤ x.trains then
        let s := updateLane ball (fun x => { x with fom := fom.toNat, tuneDone := true }) s
        let s := sendIb 3 (trainBody n 4 0 fom) s
        if s.link.lanes.all (·.tuneDone) then onLink (fun l => { l with state := .deskew }) s else s
      else
        let s := updateLane ball (fun x => { x with fom := fom.toNat, trains := x.trains + 1 }) s
        sendIb 3 (trainBody n command.val taps fom) s
    else s)

/-- R46: TUNE not done within 50 ms. -/
def execTuneTimeout (s : State) : Result :=
  .next (if s.link.state = .tune then failBringUp s else s)

/-- R46, R54: the lanes are aligned. UP when the skew is at most 100 ns and no lane is fenced (R373); else AWAIT. A live
CAPTURE_LINK_UP completes OK. -/
def execDeskewDone (skewNs : Nat) (s : State) : Result :=
  .next (
    if s.link.state = .deskew then
      let s := onLink (fun l => { l with skew := sat 16 skewNs }) s
      if 100 < skewNs ∨ laneFenced s = true then failBringUp s
      else completeLinkUp stOk (sendCredit (enterUp s))
    else s)

/-- R49: loss of signal is loss of lock. -/
def execLaneSignalLoss (ball : Fin 8) (s : State) : Result :=
  .next (loseLock ball 3 (updateLane ball (fun x => { x with signal := false }) s))

/-! ## Codewords (R39 to R45) -/

/-- Codewords are looked at once the lanes are locked: in TUNE, DESKEW, UP, and HALTED entered from UP (R46, R57). -/
def takesCodewords (s : State) : Bool :=
  s.link.state == .tune || s.link.state == .deskew || receiving s

/-- A byte parity failure at W2 to W7 is logged and its stage's block tested (R28, R253); the catalogue gives no outcome
code for data stored as received, so that byte is a free value. -/
def codewordParity (cw : Codeword) (s : State) : State :=
  if cw.parityStage = 0 then s
  else
    let u := blockUnit (stageBlock cw.parityStage)
    let lba := match s.parse.frame with
      | some f => f.startLba + f.units
      | none => 0
    busParity cw.parityStage u u cw.parityLane 0 (Config.choice s.free % 4) (lba % 2 ^ 32) (drawn s)

/-- R39 to R45, R49: one codeword of a lane. DESIGN CHOICE (log entry 170): of the tag of a locked lane's codeword the
idle mark alone is used; a lane, am or index field that disagrees with the lane's own count changes nothing. -/
def execCodewordReceive (ball : Fin 8) (cw : Codeword) (s : State) : Result :=
  .next (
    if takesCodewords s then
      let x := laneOf s ball
      let d := decodeCodeword cw.symbols
      let f := laneCodeword x d (cw.parityStage == 2 || cw.parityStage == 3)
      let entry : LaneCw := ⟨x.cwIndex, field d.tag.toNat 15 1 == 1, d.uncorrectable, cw.parityStage, f.words, f.modes⟩
      let s := updateLane ball (fun _ => { f.lane with fifo := f.lane.fifo ++ [entry] }) s
      let s := if d.uncorrectable then logFec ball x.cwIndex 0 s else s
      let s := codewordParity cw s
      match lockFailure f with
      | some cause => loseLock ball cause s
      | none => takeReadySet s
    else s)

end Sys2Proof.Machine
end

