-- ==== Sys2Proof/Machine/Mailbox.lean ====
section
/-! DEFINITION. The mailbox doorbell actions, status reads and the ownership timeout (R122 to R126, R135). -/

namespace Sys2Proof.Machine

/-- R124: a claim is granted when nobody owns the mailbox and it is not BUSY. -/
def execMbxClaim (path : Path) (m : Fin 16) (s : State) : Result :=
  .next (if mailboxLive s path m.val then claimBox path m.val (wakeByAccess s) else s)

/-- R123, R124, R126: the request is submitted and checked through step 5; a RING while BUSY sets OVERRUN. -/
def execMbxRing (path : Path) (m : Fin 16) (irq : Bool) (s : State) : Result :=
  .next (if doorbellLive s path m.val && reaches s path m.val then ringBox path m.val irq (wakeByAccess s) else s)

/-- R122, R124: the owner's ownership ends, but not while BUSY. -/
def execMbxRelease (path : Path) (m : Fin 16) (s : State) : Result :=
  .next (if mailboxLive s path m.val then releaseBox path m.val (wakeByAccess s) else s)

/-- R123: OVERRUN is W1C, for the owner only. -/
def execMbxOverrunClear (path : Path) (m : Fin 16) (s : State) : Result :=
  .next (if mailboxLive s path m.val then clearOverrun path m.val (wakeByAccess s) else s)

/-- R135: the status is returned; an aligned 32-bit read in DONE re-arms the path's interrupt. -/
def execMbxStatusRead (path : Path) (m : Fin 16) (width : Nat) (s : State) : Result :=
  .next (
    match path with
    | .pcie => readDrs .pcie (mbxBase m.val + 0x204) width s
    | .i3c => if m.val < 2 then i3cAddressed (readWindowI3c (m.val * 0x400 + 0x204) width) s else s)

/-- R124: 1 s has passed in DONE without a further RING. -/
def execMbxOwnershipTimeout (m : Fin 16) (s : State) : Result :=
  .next (updateBox m.val (fun b => if b.state == .done then { b with owner := none } else b) s)

end Sys2Proof.Machine
end

