-- ==== Sys2Proof/Machine/FirmwareOps.lean ====
section
/-! DEFINITION. Writing firmware slots and boot-stage copies, and taking an activated image into use (R306, R309, R398
to R402). -/

namespace Sys2Proof.Machine

/-- FW_STAGE, FW_ACTIVATE or CS_PATCH_LOAD is live (R139). -/
def imageLive (s : State) : Bool := opLive s 0x00A0 || opLive s 0x00A1 || opLive s 0x00A2

/-- Sectors an image occupies from a slot's first one. -/
def imageSectors (k : Nat) (i : FwImage) : List Nat := (slotSectors k).take ((i.length + 65535) / 65536)

/-- An erase of one of the sectors that runs is brought to its end (R309). -/
def endErase (sectors : List Nat) (b : Bool) (s : State) : State :=
  match bankOp s b with
  | some o =>
    if sectors.contains o.sector then
      setBankOp b none (protect [o.sector] true (putFlags (programDone (flagsOf s o.sector) o.pair) s))
    else s
  | none => s

/-- Sectors are erased and programmed, with their write-protect bits clear meanwhile (R306, R309, R400). -/
def writeSectors (sectors : List Nat) (s : State) : State :=
  protect sectors true (eraseSectors sectors (endErase sectors true (endErase sectors false s)))

/-- What the read-back of a firmware slot finds: a firmware image or a provisioning record passes R397 (R398, R400). -/
def stagedFault (s : State) (i : FwImage) : Option Nat := if i.type = 1 then some 0 else imageFault s i

/-- An image is written into a firmware slot and read back through R397; a failure leaves the slot invalid. Answers
whether it verified. -/
def writeSlot (k : Nat) (i : FwImage) (s : State) : State × Bool :=
  let s := putSlot k (some i) false (writeSectors (imageSectors k i) s)
  match stagedFault s i with
  | some cause => (authFail 5 cause k i.version s, false)
  | none => (putSlot k (some i) true s, true)

/-- Both boot-stage copies are written, copy 1 first (R401 steps 2 to 4). -/
def writeBoot (i : FwImage) (s : State) : State :=
  let s := writeSectors ((List.range 8).map (· + 8)) s
  let s := { s with nor := { s.nor with boot1 := some i, boot1Valid := true } }
  let s := writeSectors (List.range 8) s
  { s with nor := { s.nor with boot0 := some i, boot0Valid := true } }

/-- The image of a slot runs (R402, R418). Another image brings another qualification list: whether its feature sets
differ is a free value (R210, R218). -/
def runSlot (k : Nat) (s : State) : State :=
  let image := slotImage s k
  let other := s.sec.image != image
  let s := replacePatch { s with
    nor := { s.nor with slot := k }
    sec := { s.sec with image := image, version := versionOf image } }
  if other then drawn (if Config.choice s.free % 2 = 0 then changeFeatures s else s) else s

/-- A provisioning record is activated (R398): action 1 burns the hash of the integrator key into an empty slot,
action 2 revokes it. Answers the status the command completes with. -/
def provision (i : FwImage) (s : State) : State × BitVec 16 :=
  let o := s.nor.otp
  if i.provision = 1 then
    if o.integrator then (s, stWrongState)
    else ({ s with nor := { s.nor with otp := { o with integrator := true, integratorHash := keyHash i.integratorKey } } }, stOk)
  else if i.provision = 2 then ({ s with nor := { s.nor with otp := { o with revoked := true } } }, stOk)
  else (s, stBadParam)

end Sys2Proof.Machine
end

