-- ==== Sys2Proof/Machine/PatchFlow.lean ====
section
/-! DEFINITION. The check of a patch image against the rules of microcode, on its control-flow graph (R227). -/

namespace Sys2Proof.Machine

/-- A point of a routine's flow: the word, whether COMMIT has been passed, the return addresses of the calls entered. -/
structure FlowPoint where
  pc : Nat
  committed : Bool
  calls : List Nat
deriving DecidableEq, Repr

/-- Start address of a ROM routine by its vector, of which the manual prints one (R221). -/
def romStart (v : Nat) : Nat := if v = 0x10 then 0x0400 else Config.romEntry v % 12288

/-- Microwords that are legal only after COMMIT (R223). -/
def afterCommit (f : MicroFields) : Bool :=
  (f.op == 0x16 && needsCommit (f.imm.toNat % 256)) || f.op == 0x17 || (decide (0x23 ≤ f.op.toNat) && decide (f.op.toNat ≤ 0x28))

/-- The word a patch loads at an address. -/
def patchWord (words : List Word32) (pc : Nat) : Option MicroFields :=
  if pc < 12288 then none else (words[pc - 12288]?).map decodeMicro

/-- An address a branch, jump or call may name: in patch RAM or the start of a ROM routine (R227 rule 4). DESIGN
CHOICE, log entry 178: an address of patch RAM that the image does not fill is refused. -/
def targetOk (words : List Word32) (a : Nat) : Bool :=
  (patchWord words a).isSome || (List.range 256).any fun v => romStart v == a

/-- What may follow a point of the flow; none where the point breaks rule 1, 2, 4, 5 or 6. Flow that goes into ROM
keeps the rules or breaks them there by a free value, since the manual does not print the ROM (log entry 178). -/
def flowNext (words : List Word32) (p : FlowPoint) : Option (List FlowPoint) :=
  if p.pc < 12288 then (if Config.romFlowOk p.pc p.committed p.calls.length then some [] else none)
  else
    match patchWord words p.pc with
    | none => none
    | some f =>
      let next : FlowPoint := { p with pc := p.pc + 1 }
      let jump : FlowPoint := { p with pc := f.imm.toNat }
      if 0x2C ≤ f.op.toNat then none
      else if afterCommit f && !p.committed then none
      else
        match f.op.toNat with
        | 0x0D => if targetOk words jump.pc then some [jump] else none
        | 0x13 =>
          if targetOk words jump.pc && decide (p.calls.length < 4) then
            let callee : FlowPoint := { jump with calls := next.pc :: p.calls }
            some (if jump.pc < 12288 then [callee, { next with committed := p.committed || Config.romCommits jump.pc }] else [callee])
          else none
        | 0x14 => some (match p.calls with
          | [] => []
          | a :: rest => [{ p with pc := a, calls := rest }])
        | 0x22 => if p.committed then none else some [{ next with committed := true }]
        | 0x29 => some []
        | 0x2A => some []
        | k =>
          if k = 0x23 ∨ (0x0E ≤ k ∧ k ≤ 0x12) then (if targetOk words jump.pc then some [next, jump] else none)
          else some [next]

/-- The points reached from those to do, in at most `fuel` steps; none where one breaks a rule. -/
def flowReach (words : List Word32) : Nat → List FlowPoint → List FlowPoint → Option (List FlowPoint)
  | 0, todo, seen => if todo.isEmpty then some seen else none
  | _ + 1, [], seen => some seen
  | k + 1, p :: todo, seen =>
    if seen.contains p then flowReach words k todo seen
    else
      match flowNext words p with
      | none => none
      | some ps => flowReach words k (ps ++ todo) (p :: seen)

/-- Steps enough for every point an image of `w` words can reach: two flags, call stacks of up to four of its
addresses. -/
def flowFuel (w : Nat) : Nat := 8 * (w + 2) ^ 5 + 512

/-- A cycle may stand at this point: it is before COMMIT, or holds a YIELD or a DJNZ (R227 rule 3). -/
def breaksCycle (words : List Word32) (p : FlowPoint) : Bool :=
  !p.committed || (patchWord words p.pc).any fun f => f.op == 0x23 || f.op == 0x12

/-- Of a set of points, those that no path inside the set leaves: `n` rounds of taking out points without a successor.
-/
def cyclic (words : List Word32) : Nat → List FlowPoint → List FlowPoint
  | 0, ps => ps
  | n + 1, ps => cyclic words n (ps.filter fun p => ((flowNext words p).getD []).any ps.contains)

/-- The rules of R227 on an image, from every redirected vector. -/
def flowOk (words : List Word32) (vectors : List (Nat × Nat)) : Bool :=
  match flowReach words (flowFuel words.length) (vectors.map fun v => ⟨v.2, false, []⟩) [] with
  | none => false
  | some seen =>
    let left := seen.filter fun p => !breaksCycle words p
    !words.any reservedMicro && (cyclic words left.length left).isEmpty

end Sys2Proof.Machine
end

