-- ==== Sys2Proof/Machine/Media.lean ====
section
/-! DEFINITION. The channel scheduler, die temperatures, control-store sweeps and patch loads (R212 to R221, R225 to
R230). -/

namespace Sys2Proof.Machine

/-! ## The queues (R212, R213) -/

/-- Phases in which Mace dies work on jobs. -/
def jobsRun (s : State) : Bool :=
  s.life.phase == .service || s.life.phase == .lossFlush || s.life.phase == .haltFlush

/-- The kinds of job a class holds (R212). -/
def classHolds (j : Job) : Bool :=
  match j.cls with
  | .hostRead => j.kind == .read
  | .program => j.kind == .program
  | .gc => true
  | .scrub => j.kind == .read

/-- A job enters its die's queue, and the time is noted (R212, R225). -/
def queueJob (us : Nat) (j : Job) (d : Die) : Die :=
  { d with queue := d.queue ++ [j], arrivals := d.arrivals.filter (·.1 != j.id) ++ [(j.id, us)] }

/-- R212: a job enters a die's queue, which holds 64; after a halt only those the flush may need do (R225, R226). -/
def execJobEnqueue (die : Fin 1024) (job : Job) (s : State) : Result :=
  .next (
    match findDie s die.val with
    | none => s
    | some d =>
      if jobsRun s && d.state != .absent && !dieOut s die.val && decide (d.queue.length < 64) &&
          classHolds job && (s.life.phase == .service || job.cls == .program || (job.flushNeeds && job.cls != .hostRead)) then
        updateDie die.val (queueJob s.clk.us job) s
      else s)

/-- A job is a program or an erase. -/
def altersDie (j : Job) : Bool := j.kind != .read

/-- Dies of a channel that program or erase, suspended ones among them. -/
def programming (s : State) (ch : Nat) : Nat :=
  s.med.dies.countP fun d => chanIdx d.index == ch && (d.running.toList ++ d.parked.toList).any fun c => altersDie c.job

/-- Dies of a channel that may program or erase at once at a throttle step (R361). -/
def programLimit (step : Nat) : Nat :=
  match step with
  | 0 => 32
  | 1 => 24
  | 2 => 16
  | 3 => 8
  | _ => 4

/-- Throttle step and die limit let a die program or erase; they do not apply in the power-loss flush (R361, R362,
R365). -/
def mayProgram (s : State) (die : Nat) : Bool :=
  s.life.phase == .lossFlush ||
    (!s.thm.hotDies.contains die && decide (programming s (chanIdx die) < programLimit s.thm.step) &&
      !(s.life.phase == .haltFlush && s.thm.over120))

/-- An erase of the block of a job is queued or runs on the die. -/
def eraseAhead (d : Die) (j : Job) : Bool :=
  (d.queue ++ (d.running.toList ++ d.parked.toList).map (·.job)).any fun x =>
    x.kind == .erase && x.superblock == j.superblock

/-- A job may start on its die; while an operation is parked, a class 1 read until the first limit of its suspension
(R213, R215, R225, R226, R361, R362). -/
def startable (s : State) (d : Die) (j : Job) : Bool :=
  (d.parked.isNone || (j.cls == .hostRead && decide (d.readsServed < 8) && decide (s.clk.us < d.parkedUs + 150))) &&
    (s.life.phase == .service || j.cls == .program || j.flushNeeds) &&
    (j.kind == .erase || !eraseAhead d j) &&
    (j.kind != .program ||
      !d.queue.any fun x => x.kind == .program && x.superblock == j.superblock && decide (x.row < j.row)) &&
    (!altersDie j || mayProgram s d.index)

/-- The job that starts: the first in arrival order that may, of the highest class that has one (R213). -/
def pickJob (s : State) (d : Die) : Option Job :=
  [JobClass.hostRead, .program, .gc, .scrub].findSome? fun k => d.queue.find? fun j => j.cls == k && startable s d j

/-- Start address of the routine of a job kind: a redirected vector, else the entry of the ROM's vector table, of
which the manual prints one (R221). -/
def routineStart (c : Channel) (v : Nat) : Nat :=
  match c.vectors.find? fun x => x.1 == v with
  | some x => x.2
  | none => romStart v

/-- A routine begins in the context of its die's position, whose registers, flags and chip enable are as the last
routine left them; no call is open and no request taken (R220, R222; log entry 176). -/
def newContext (s : State) (ch : Channel) (p : Standing) (j : Job) : Context where
  job := j
  pc := routineStart ch j.vector
  regs := p.regs.set 11 0
  stack := []
  z := p.z
  n := p.n
  ce := p.ce
  fifo := j.payload
  committed := false
  request := 0
  startedUs := s.clk.us
  waitCycles := 0
  waitUs := 0

/-- The units a job goes through are not under test; their work waits (R370). -/
def testFree (s : State) (die : Nat) : Bool :=
  !underTest s (dieUnit die) && !underTest s (channelUnit (chanIdx die)) && !underTest s (maceUnit (maceOf (chanIdx die)))

/-- The channel takes jobs: it runs, its generation is Saffron's, no version mismatch, and its Mace die's link is up
(R22, R218, R229). -/
def channelTakes (s : State) (ch : Nat) : Bool :=
  let c := chanOf s ch
  c.state == .running && c.generation == s.med.golden && !c.mismatch &&
    !(s.med.links.getD (maceOf ch) UcieLink.reset).retraining

/-- The restore routine of a stale die ran: every feature applied and read back (R219). -/
def restored (s : State) (d : Die) : Die :=
  { d with state := .inService, featureGen := s.med.featureGen, staleLogged := false }

/-- R213, R219, R220: a stale die is restored first; a readback that differs starts its self-test instead. -/
def execJobStart (die : Fin 1024) (restoreOk : Bool) (s : State) : Result :=
  .next (
    match findDie s die.val with
    | none => s
    | some d =>
      let works := d.state == .inService || d.state == .stale
      match pickJob s d with
      | none => s
      | some j =>
        if (jobsRun s && works && !dieOut s die.val && d.running.isNone && testFree s die.val &&
            channelTakes s (chanIdx die.val)) = false then s
        else if d.state = .stale ∧ restoreOk = false then startTest (dieUnit die.val) 0 s
        else
          let ch := chanOf s (chanIdx die.val)
          let c := newContext s ch (ch.contexts.getD (die.val % 32) (Standing.reset (die.val % 32))) j
          updateDie die.val (fun d =>
            let d := if d.state = .stale then restored s d else d
            { d with running := some c, queue := d.queue.erase j }) s)

/-! ## The bus (R214) -/

/-- Class rank of the routine at a position, 4 where none runs. -/
def rankAt (s : State) (ch p : Nat) : Nat :=
  match (findDie s (ch * 32 + p)).bind (·.running) with
  | none => 4
  | some c => match c.job.cls with
    | .hostRead => 0
    | .program => 1
    | .gc => 2
    | .scrub => 3

/-- Garbage collection and folding run with priority (R194, R196, R205). -/
def gcPriority (s : State) : Bool :=
  s.life.mapReady && (s.map.overlayFull || decide (201326592 < s.map.overlay.length) || decide (7500000000 ≤ summaryBytes s) ||
    s.map.sbs.any fun b => b.state == .closed && b.noSummary)

/-- The class that gets the bus among those waiting (R214). -/
def grantClass (c : Channel) (priority : Bool) (has : Nat → Bool) : Nat :=
  if has 2 && decide (15 ≤ c.gcPassed) then 2
  else if has 3 && decide (255 ≤ c.scrubPassed) then 3
  else if has 0 then 0
  else if priority && has 1 && has 2 then (if c.gcTurn then 1 else 2)
  else if has 1 then 1
  else if has 2 then 2
  else 3

/-- The position of a set served least recently; one never served comes before all others (R214). -/
def leastRecent (served ps : List Nat) : Option Nat :=
  match ps.find? fun p => !served.contains p with
  | some p => some p
  | none => served.find? fun p => ps.contains p

/-- A grant to a position of a class is entered in the channel's record. -/
def grantTo (p k : Nat) (c : Channel) : Channel :=
  { c with
    bus := some p
    served := c.served.filter (· != p) ++ [p]
    gcPassed := if k < 2 then min 15 (c.gcPassed + 1) else 0
    scrubPassed := if k < 3 then min 255 (c.scrubPassed + 1) else 0
    gcTurn := if k = 1 ∨ k = 2 then k == 2 else c.gcTurn }

/-- R214. -/
def execBusGrant (ch : Fin 32) (waiting : List (Fin 32)) (s : State) : Result :=
  .next (
    let c := chanOf s ch.val
    let ps := (waiting.map (·.val)).filter fun p => decide (rankAt s ch.val p < 4)
    let k := grantClass c (gcPriority s) fun k => ps.any fun p => rankAt s ch.val p == k
    match leastRecent c.served (ps.filter fun p => rankAt s ch.val p == k) with
    | none => s
    | some p =>
      if sequencerRuns s (ch.val * 32) && c.bus.isNone then updateChan ch.val (grantTo p k) s else s)

/-! ## Suspend and resume (R215, R225) -/

/-- Minimum run time of an operation in µs. -/
def minRun (j : Job) : Nat :=
  match j.kind with
  | .erase => 500
  | _ => 200

/-- The operation of a die may be asked to suspend. -/
def maySuspend (s : State) (d : Die) (c : Context) : Bool :=
  altersDie c.job && c.committed && decide (d.runFromUs + minRun c.job ≤ s.clk.us) && decide (d.suspends < 8) &&
    c.request == 0 && d.suspended == .none

/-- R215: a class 1 read of the same die asks. -/
def execSuspendRequest (die : Fin 1024) (s : State) : Result :=
  .next (
    match findDie s die.val with
    | none => s
    | some d =>
      match d.running with
      | none => s
      | some c =>
        if s.life.phase == .service && d.queue.any (fun j => j.cls == .hostRead) && maySuspend s d c then
          updateContext die.val (fun c => { c with request := 1 }) s
        else s)

/-- The cause of a resume holds (R215, R226). -/
def resumeHolds (s : State) (d : Die) (cause : ResumeCause) : Bool :=
  match cause with
  | .queueEmpty => !d.queue.any fun j => j.cls == .hostRead
  | .eightReads => decide (8 ≤ d.readsServed)
  | .parked150us => decide (d.parkedUs + 150 ≤ s.clk.us)
  | .halt => s.life.phase == .lossFlush || s.life.phase == .haltFlush

/-- R215: once no read runs on the die. -/
def execSuspendResume (die : Fin 1024) (cause : ResumeCause) (s : State) : Result :=
  .next (
    match findDie s die.val with
    | none => s
    | some d => if d.parked.isSome && d.running.isNone && resumeHolds s d cause then unpark die.val s else s)

/-! ## Abandon (R225) -/

/-- A class 1 read of the channel has waited 8 µs (R225). -/
def readWaits (s : State) (ch : Nat) : Bool :=
  s.med.dies.any fun d => chanIdx d.index == ch && d.queue.any fun j => j.cls == .hostRead &&
    (d.arrivals.find? fun a => a.1 == j.id).any fun a => decide (a.2 + 8 ≤ s.clk.us)

/-- R225: for a read that wants the bus the routine owns, at most once; for a patch load; by a halt, after which only
what the power-loss flush needs is restarted. -/
def execRoutineAbandon (die : Fin 1024) (cause : AbandonCause) (s : State) : Result :=
  .next (
    match findDie s die.val with
    | none => s
    | some d =>
      match d.running with
      | none => s
      | some c =>
        let ch := chanOf s (chanIdx die.val)
        if c.committed then s
        else
          match cause with
          | .read =>
            if s.life.phase == .service && ch.bus == some (die.val % 32) &&
                readWaits s (chanIdx die.val) && !d.abandoned.contains c.job.id then abandon die.val 1 s
            else s
          | .patchLoad => if ch.state = .loading then abandon die.val 2 s else s
          | .halt =>
            if s.life.phase == .lossFlush || s.life.phase == .haltFlush then
              if c.job.flushNeeds then (if c.job.cls = .program then s else abandon die.val 3 s)
              else releaseBus die.val (updateDie die.val (fun d => { d with running := none }) (restContext die.val s))
            else s)

/-! ## Die temperature (R217) -/

/-- R217: while the die has work. -/
def execDieTempRead (die : Fin 1024) (celsius : Int) (s : State) : Result :=
  .next (
    match findDie s die.val with
    | none => s
    | some d =>
      if sequencerRuns s die.val && !dieOut s die.val && (!d.queue.isEmpty || d.running.isSome || d.parked.isSome) then
        takeDieTemp die.val celsius s
      else s)

/-! ## The control store (R221) -/

/-- A ROM word is known to have a wrong bit (R221). -/
def noteBadWord (word bit : Nat) (c : Channel) : Channel :=
  if 12288 ≤ word then c else { c with badWords := (word, bit) :: c.badWords.filter (·.1 != word) }

/-- R221: one word is read; two or more wrong bits are a double-bit error, which ends the routines at that word. Where
there is none, the die index of the record is a free value. -/
def execControlStoreSweep (ch : Fin 32) (word : Fin 16384) (flipped : List (Fin 39)) (s : State) : Result :=
  .next (
    if sequencerRuns s (ch.val * 32) = false then s
    else
      let s := updateChan ch.val (fun c => { c with swept := (c.swept + 1) % 16384 }) s
      match flipped with
      | [] => s
      | [b] => storeCorrected ch.val word.val b.val (updateChan ch.val (noteBadWord word.val b.val) s)
      | _ =>
        let die := (routinesAt s ch.val (· == word.val)).headD (ch.val * 32 + Config.choice s.free % 32)
        storeUncorrectable ch.val word.val 0 die (drawn s))

/-! ## Patch loads (R228 to R230) -/

/-- Lengths and ranges of an image, its magic number and reserved bytes among them, and the rules of R227 (R228,
R229). -/
def patchFormOk (i : PatchImage) (length : Nat) : Bool :=
  i.magic == 0x4D554350 && i.headerLength == 64 && decide (1 ≤ i.version) && decide (i.version ≤ 65535) &&
    decide (i.vectorCount ≤ 64) && decide (1 ≤ i.wordCount) && decide (i.wordCount ≤ 4096) &&
    i.bytes.length == length && i.length == length && i.reservedOk &&
    i.vectors.all (fun v => decide (v.1 < 256) && decide (12288 ≤ v.2) && decide (v.2 < 12288 + i.words.length)) &&
    flowOk i.words i.vectors

/-- The lowest patch version the running image accepts (R396, R397). -/
def minPatch (s : State) : Nat := (s.sec.image.map (·.minPatch)).getD 0

/-- The sequencers of a mask that serve. -/
def namedChannels (s : State) (mask : Nat) : List Nat :=
  (List.range 32).filter fun c => mask.testBit c && !channelOut s c

/-- The next channel of the load is held (R229). -/
def holdNext (s : State) : State :=
  match s.med.toLoad with
  | [] => s
  | ch :: _ => holdChannel ch s

/-- The patch is signed by the signer key of the running firmware image (R228, R397). -/
def patchSigned (s : State) (i : PatchImage) : Bool :=
  ((s.sec.image.bind fun x => runningKey s x.signer).map i.signed).getD false

/-- The loader's checks in order; the first failure completes the handle (R229). -/
def beginPatch (mask length : Nat) (i : PatchImage) (v : BitVec 32) (s : State) : State :=
  if patchSigned s i = false then completeHandle v stAuthFailed 0 (authFail 2 0 0 i.version s)
  else if i.version < minPatch s then completeHandle v stAuthFailed 0 s
  else if i.romVersion ≠ 1 ∨ s.sec.version < i.minFirmware then completeHandle v stWrongState 0 s
  else if patchFormOk i length = false then completeHandle v stBadParam 0 s
  else
    holdNext { s with med := { s.med with load := some i, toLoad := namedChannels s mask, loaded := [] } }

/-- R229. -/
def execCsPatchLoad (m : Fin 16) (image : PatchImage) (s : State) : Result :=
  .next (serve m.val 0x00A2 (fun s =>
    let mask := reqField s m.val 8 4
    accept m.val 0x00A2 (imageLive s) mask 0 false (beginPatch mask (reqField s m.val 20 4) image) s) s)

/-- A sequencer's control store holds the patch (R229, R230). -/
def patched (i : PatchImage) (c : Channel) : Channel :=
  { c with patchVersion := i.version, patchValid := true, mismatch := false, patch := i.words, vectors := i.vectors
           expected := i.version }

/-- CS_PATCH_LOADED (R388). -/
def logPatched (ch : Nat) (i : PatchImage) (s : State) : State :=
  logEvent 0x0508 (channelUnit ch)
    (evData [(2, i.version), (1, i.romVersion), (1, i.vectors.length), (2, i.words.length), (2, 0)]) s

/-- Nothing runs on a channel and nothing is parked. -/
def channelQuiet (s : State) (ch : Nat) : Bool :=
  s.med.dies.all fun d => chanIdx d.index != ch || (d.running.isNone && d.parked.isNone)

/-- R229: the channel whose turn it is, once its routines have ended. DESIGN CHOICE, log entry 176: a read-back that
differs leaves the channel held, to be written again. -/
def execPatchChannelLoad (ch : Fin 32) (readBackOk : Bool) (s : State) : Result :=
  .next (
    match s.med.load, s.med.toLoad, liveOp s 0x00A2 with
    | some i, c :: rest, some h =>
      if serving s && c == ch.val && channelQuiet s c && readBackOk then
        let s := freeChannel c (updateChan c (patched i) (passCancel h.value s))
        let s := logPatched c i (bumpGolden s)
        holdNext { s with med := { s.med with toLoad := rest, loaded := s.med.loaded ++ [c] } }
      else s
    | _, _, _ => s)

/-- Bits of a list of numbers. -/
def maskOf (cs : List Nat) : Nat := (cs.map (2 ^ ·)).sum

/-- R140, R229, R230: the last channel is loaded; the patch is kept for every start. -/
def execCsPatchLoadDone (s : State) : Result :=
  .next (
    match s.med.load, liveOp s 0x00A2 with
    | some i, some h =>
      if serving s && s.med.toLoad.isEmpty then
        let version := match s.med.loaded with
          | [] => 0
          | c :: _ => csVersion (chanOf s c)
        let result := ringData [(4, version), (4, maskOf s.med.loaded)]
        let s := storeConfig (fun c => { c with patch := some i }) s
        completeHandle h.value stOk result { s with med := { s.med with load := none, loaded := [] } }
      else s
    | _, _ => s)

end Sys2Proof.Machine
end

