-- ==== Sys2Proof/Machine/Nor.lean ====
section
/-! DEFINITION. Nutmeg's operations: suspended for a fetch, resumed, ended; continuous reads (R300 to R311). -/

namespace Sys2Proof.Machine

/-- Nutmeg starts and resumes operations: not after the trigger of a power-loss or thermal halt, nor without power
(R311). -/
def norWorks (s : State) : Bool := s.life.phase == .service || s.life.phase == .recovery

/-- Operation as NOR_AUTOSUSPEND codes it (R388). -/
def norOpCode (k : NorOpKind) : Nat :=
  match k with
  | .program => 1
  | .erase => 2
  | .flagRow => 2

/-- R300, R305 steps 1 to 3: the operation has run its 200 µs and is suspended, and the stalled fetch is served, after
which the read stays open. -/
def execNorAutoSuspend (bankB : Bool) (stallUs requester : Nat) (s : State) : Result :=
  .next (
    match bankOp s bankB with
    | none => s
    | some o =>
      if norWorks s && !o.suspended then
        let s :=
          if o.suspends = 0 then
            logEvent 0x0902 (sectorUnit o.sector)
              (evData [(1, norOpCode o.kind), (1, flag bankB), (2, sat 16 stallUs), (1, requester), (3, 0)]) s
          else s
        let s := setBankOp bankB (some { o with suspended := true, suspends := sat 6 (o.suspends + 1) }) s
        { s with nor := { s.nor with autoSuspends := sat 16 (s.nor.autoSuspends + 1), cont := some bankB } }
      else s)

/-- A suspended operation of a bank goes on; a read kept open there ends. -/
def norResume (b : Bool) (s : State) : State :=
  match bankOp s b with
  | none => s
  | some o =>
    if norWorks s && o.suspended then
      let s := setBankOp b (some { o with suspended := false }) s
      { s with nor := { s.nor with cont := if s.nor.cont = some b then none else s.nor.cont } }
    else s

/-- R305 step 4. -/
def execNorIdleResume (bankB : Bool) (s : State) : Result := .next (norResume bankB s)

/-- R305 step 5. -/
def execNorForcedResume (bankB : Bool) (s : State) : Result := .next (norResume bankB s)

/-- R300. -/
def execNorContinuousReadTimeout (s : State) : Result := .next { s with nor := { s.nor with cont := none } }

/-- R301, R306, R309, R311, R369: DONE is programmed, the sector is protected again, and an unfinished sector has had
its second erase; a status failure starts the sector's self-test. The next unfinished sector follows after
capture-ready. -/
def execNorOperationDone (bankB : Bool) (statusOk : Bool) (s : State) : Result :=
  .next (
    match bankOp s bankB with
    | none => s
    | some o =>
      if norWorks s && !o.suspended then
        let s := if o.kind = .erase then putFlags (programDone (flagsOf s o.sector) o.pair) s else s
        let s := setBankOp bankB none (protect [o.sector] true s)
        let s := { s with nor := { s.nor with unfinished := s.nor.unfinished.filter (· != o.sector) } }
        let s := if statusOk then s else startTest (sectorUnit o.sector) 0 s
        if s.life.phase == .service && s.life.captureReady then eraseUnfinished s else s
      else s)

end Sys2Proof.Machine
end

