-- ==== Sys2Proof/Machine/NvmeAdmin.lean ====
section
/-! DEFINITION. The NVMe admin commands (R94, R97, R98, R103, R110, R111, R114, R116, R328, R363, R400). -/

namespace Sys2Proof.Machine

/-! ## Identify and logs -/

/-- R103. -/
def execIdentify (cid : BitVec 16) (s : State) : Result :=
  .next (onAdmin cid 0x06 (fun c s =>
    match identifyData s c.sqe with
    | .inl fs => adminOk c (emit (.hostFields cid fs) s)
    | .inr sc => adminFail c sc s) s)

/-- R103: NUMD in Dwords 10 and 11, the 64-bit offset in Dwords 12 and 13. -/
def execGetLogPage (cid : BitVec 16) (s : State) : Result :=
  .next (onAdmin cid 0x02 (fun c s =>
    let e := c.sqe
    let len := 4 * (field e.cdw10.toNat 16 16 + 65536 * field e.cdw11.toNat 0 16 + 1)
    let off := e.cdw12.toNat + 2 ^ 32 * e.cdw13.toNat
    match logPage s (field e.cdw10.toNat 0 8) with
    | some fs =>
      adminOk c (emit (.hostFields cid (windowFields off len fs)) { s with free := s.free + pageDraws })
    | none => adminFail c 0x02 s) s)

/-! ## Queues (R94) -/

/-- R94: identifier in use, above the granted number or 0; size 2 to 4,096; contiguous; the completion queue exists. -/
def execCreateIoSubmissionQueue (cid : BitVec 16) (s : State) : Result :=
  .next (onAdmin cid 0x01 (fun c s =>
    let e := c.sqe
    let q := field e.cdw10.toNat 0 16
    let size := field e.cdw10.toNat 16 16 + 1
    let cq := field e.cdw11.toNat 16 16
    if q = 0 ∨ s.nv.grantedSq < q ∨ (findSq s q).isSome = true then adminFailSpecific c 0x01 s
    else if size < 2 ∨ 4096 < size then adminFailSpecific c 0x02 s
    else if e.cdw11.getLsbD 0 = false then adminFail c 0x02 s
    else if cq = 0 ∨ (findCq s cq).isNone = true then adminFailSpecific c 0x00 s
    else
      let x : Sq := ⟨q, size, cq, field e.cdw11.toNat 1 2, 0, 0, []⟩
      adminOk c { s with nv := { s.nv with sqs := s.nv.sqs ++ [x] } }) s)

/-- R94: the vector is one of the 2,048 of the MSI-X table. -/
def execCreateIoCompletionQueue (cid : BitVec 16) (s : State) : Result :=
  .next (onAdmin cid 0x05 (fun c s =>
    let e := c.sqe
    let q := field e.cdw10.toNat 0 16
    let size := field e.cdw10.toNat 16 16 + 1
    let iv := field e.cdw11.toNat 16 16
    if q = 0 ∨ s.nv.grantedCq < q ∨ (findCq s q).isSome = true then adminFailSpecific c 0x01 s
    else if size < 2 ∨ 4096 < size then adminFailSpecific c 0x02 s
    else if e.cdw11.getLsbD 0 = false then adminFail c 0x02 s
    else if 2048 ≤ iv then adminFailSpecific c 0x08 s
    else
      let x : Cq := ⟨q, size, iv, e.cdw11.getLsbD 1, 0, 0, true, [], [], 0⟩
      adminOk c { s with nv := { s.nv with cqs := s.nv.cqs ++ [x] } }) s)

/-- R94: commands not past their point of no return complete with Command Aborted due to SQ Deletion; the Delete
completes once none is left. -/
def execDeleteIoSubmissionQueue (cid : BitVec 16) (s : State) : Result :=
  .next (onAdmin cid 0x00 (fun c s =>
    let q := field c.sqe.cdw10.toNat 0 16
    if q = 0 ∨ (findSq s q).isNone = true then adminFailSpecific c 0x01 s
    else
      let s := updateSq q (fun x => { x with entries := [] }) s
      let s := (s.nv.cmds.filter fun d => d.sq == q && !pastReturn d).foldl (fun s d => abortCmd d 0 0x08 true s) s
      fetchAll (updateCmd 0 cid (fun x => { x with stage := .running }) s)) s)

/-- R94: a completion queue with submission queues cannot go (Invalid Queue Deletion). -/
def execDeleteIoCompletionQueue (cid : BitVec 16) (s : State) : Result :=
  .next (onAdmin cid 0x04 (fun c s =>
    let q := field c.sqe.cdw10.toNat 0 16
    if q = 0 ∨ (findCq s q).isNone = true then adminFailSpecific c 0x01 s
    else if s.nv.sqs.any fun x => x.cq == q then adminFailSpecific c 0x0C s
    else adminOk c { s with nv := { s.nv with cqs := s.nv.cqs.filter fun x => x.id != q } }) s)

/-! ## Features -/

/-- R97. -/
def execSetArbitration (cid : BitVec 16) (s : State) : Result :=
  .next (onFeature cid 0x01 (fun c s => adminOk c { s with nv := { s.nv with arbitration := c.sqe.cdw11 } }) s)

/-- R328: power states 0 to 2. -/
def execSetPowerManagement (cid : BitVec 16) (s : State) : Result :=
  .next (onFeature cid 0x02 (fun c s =>
    let ps := field c.sqe.cdw11.toNat 0 5
    if 2 < ps then adminFail c 0x02 s else adminOk c { s with nv := { s.nv with powerState := ps } }) s)

/-- R363: TMPSEL 0 to 5, THSEL 0 over, 1 under. -/
def execSetTemperatureThreshold (cid : BitVec 16) (s : State) : Result :=
  .next (onFeature cid 0x04 (fun c s =>
    let v := c.sqe.cdw11.toNat
    let k := field v 0 16
    let sel := field v 16 4
    match field v 20 2 with
    | 0 => if 5 < sel then adminFail c 0x02 s
        else adminOk c { s with nv := { s.nv with tempOver := s.nv.tempOver.set sel k } }
    | 1 => if 5 < sel then adminFail c 0x02 s
        else adminOk c { s with nv := { s.nv with tempUnder := s.nv.tempUnder.set sel k } }
    | _ => adminFail c 0x02 s) s)

/-- R110. -/
def execSetVolatileWriteCache (cid : BitVec 16) (s : State) : Result :=
  .next (onFeature cid 0x06 (fun c s =>
    adminOk c (padWanted { s with nv := { s.nv with wce := c.sqe.cdw11.getLsbD 0 } })) s)

/-- R94: at most 2,047 of each kind are granted, and Dword 0 says how many. -/
def execSetNumberOfQueues (cid : BitVec 16) (s : State) : Result :=
  .next (onFeature cid 0x07 (fun c s =>
    let sq := field c.sqe.cdw11.toNat 0 16
    let cq := field c.sqe.cdw11.toNat 16 16
    if sq = 65535 ∨ cq = 65535 then adminFail c 0x02 s
    else
      let gs := min (sq + 1) 2047
      let gc := min (cq + 1) 2047
      adminDw c (gs - 1 + 65536 * (gc - 1)) { s with nv := { s.nv with grantedSq := gs, grantedCq := gc } }) s)

/-- R97: threshold in entries less 1, time in 100 µs. -/
def execSetInterruptCoalescing (cid : BitVec 16) (s : State) : Result :=
  .next (onFeature cid 0x08 (fun c s =>
    adminOk c { s with nv := { s.nv with
      coalesceThreshold := field c.sqe.cdw11.toNat 0 8, coalesceTime := field c.sqe.cdw11.toNat 8 8 } }) s)

/-- R328. -/
def execSetAutonomousPowerState (cid : BitVec 16) (table : List (BitVec 64)) (s : State) : Result :=
  .next (onFeature cid 0x0C (fun c s =>
    adminOk c { s with nv := { s.nv with apstOn := c.sqe.cdw11.getLsbD 0, apst := table } }) s)

/-- The value of a feature, `none` where it is not offered (R103). -/
def featureValue (s : State) (e : Sqe) : Option Nat :=
  match sqeFeature e with
  | 0x01 => some s.nv.arbitration.toNat
  | 0x02 => some s.nv.powerState
  | 0x04 =>
    let sel := field e.cdw11.toNat 16 4
    match field e.cdw11.toNat 20 2 with
    | 0 => s.nv.tempOver[sel]?
    | 1 => s.nv.tempUnder[sel]?
    | _ => none
  | 0x07 => some (s.nv.grantedSq - 1 + 65536 * (s.nv.grantedCq - 1))
  | 0x08 => some (s.nv.coalesceThreshold + 256 * s.nv.coalesceTime)
  | 0x0C => some (flag s.nv.apstOn)
  | _ => none

/-- R103: Select is not offered. The write cache has a row of its own. -/
def execGetFeatures (cid : BitVec 16) (s : State) : Result :=
  .next (onAdmin cid 0x0A (fun c s =>
    if sqeFeature c.sqe = 0x06 ∧ field c.sqe.cdw10.toNat 8 3 = 0 then s
    else if field c.sqe.cdw10.toNat 8 3 ≠ 0 then adminFail c 0x02 s
    else
      match featureValue s c.sqe with
      | none => adminFail c 0x02 s
      | some v =>
        let s := if sqeFeature c.sqe = 0x0C then
            emit (.hostFields cid (s.nv.apst.mapIdx fun i e => (8 * i, 8, e.toNat))) s
          else s
        adminDw c v s) s)

/-- R110: host WCE AND Unprotected mode. -/
def execGetVolatileWriteCache (cid : BitVec 16) (s : State) : Result :=
  .next (onAdmin cid 0x0A (fun c s =>
    if sqeFeature c.sqe = 0x06 ∧ field c.sqe.cdw10.toNat 8 3 = 0 then
      adminDw c (flag (s.nv.wce && !s.hup.protectedMode)) s
    else s) s)

/-! ## Abort and event requests (R103, R111) -/

/-- Aborts fetched ahead of this one and not completed. -/
def abortsAhead (s : State) (cid : BitVec 16) : Nat :=
  ((s.nv.cmds.takeWhile fun d => !isCmd 0 cid d).filter fun d => d.sq == 0 && d.sqe.opcode == 0x08).length

/-- HOST_ABORT_RACE of an Abort (R111, R388). -/
def logAbortRace (sq : Nat) (target : BitVec 16) (s : State) : State :=
  logEvent 0x0301 (blockUnit 2) (evData [(1, 0), (1, 0), (2, sq), (4, target.toNat)]) s

/-- R111. A command whose completion waits to be posted can still be aborted where the posting is its point of no
return. -/
def execAbort (cid : BitVec 16) (s : State) : Result :=
  .next (onAdmin cid 0x08 (fun c s =>
    let sq := field c.sqe.cdw10.toNat 0 16
    let target : BitVec 16 := BitVec.ofNat 16 (field c.sqe.cdw10.toNat 16 16)
    if 32 ≤ abortsAhead s cid then adminFailSpecific c 0x03 s
    else
      match findCmd s sq target, unposted s sq target with
      | none, none => adminDw c 1 s
      | none, some e =>
        if e.early then adminDw c 0 (abortUnposted sq target s) else adminDw c 1 (logAbortRace sq target s)
      | some t, _ =>
        if pastReturn t then adminDw c 1 (logAbortRace sq target s)
        else adminDw c 0 (abortCmd t 0 0x07 false s)) s)

/-- R103: up to 4 outstanding; a fifth completes with Asynchronous Event Request Limit Exceeded. -/
def execAsynchronousEventRequest (cid : BitVec 16) (s : State) : Result :=
  .next (onAdmin cid 0x0C (fun c s =>
    if 4 ≤ s.nv.aers.length then adminFailSpecific c 0x05 s
    else
      updateCmd 0 cid (fun x => { x with stage := .running }) { s with nv := { s.nv with aers := s.nv.aers ++ [cid] } }) s)

/-! ## Namespaces (R98, R204, R392) -/

/-- Keys can be drawn: the DRBG answers, or the port's opening has left namespaces without keys (R391, R406). -/
def keysPossible (s : State) : Bool := s.sec.drbgOn || s.sec.port == .opened

/-- A new namespace's key is drawn and stored (R392, R393). -/
def giveKey (id : Nat) (s : State) : State := if s.sec.port = .opened then s else storeKeys (drawKey id s)

/-- R98, R204: checked, allotted a range, given its epoch and key; Dword 0 is its identifier. Unequal sizes, or one
that is no whole multiple of 256, complete with Invalid Field in Command: DESIGN CHOICE, log entry 172. -/
def execNamespaceCreate (cid : BitVec 16) (req : NsCreate) (s : State) : Result :=
  .next (onAdmin cid 0x0D (fun c s =>
    if field c.sqe.cdw10.toNat 0 4 ≠ 0 then s
    else if req.nsze ≠ req.ncap ∨ req.nsze = 0 ∨ req.nsze % 256 ≠ 0 then adminFail c 0x02 s
    else if formatOk req.lbaFormat req.piType = false then adminFailSpecific c 0x0A s
    else
      match freeNsid s, findBase s (req.nsze / 256) with
      | none, _ => adminFailSpecific c 0x16 s
      | some _, none => adminFailSpecific c 0x15 s
      | some id, some base =>
        if keysPossible s = false then fetchAll (completeCmd 0 cid 0 0x06 false 0 0 s)
        else
          needNumbers 1 (fun s =>
            let n : Namespace := ⟨id, base, req.nsze / 256, req.lbaFormat, req.piType, 0, false, false⟩
            let s := newEpoch id 0 { s with nv := { s.nv with namespaces := s.nv.namespaces ++ [n] } }
            adminDw c id (giveKey id s)) s) s)

/-- Namespaces go: epoch, then the record and the key (R98, R204). -/
def removeNs (ids : List Nat) (s : State) : State :=
  let s := endIo ids 0x0B s
  let s := ids.foldl (fun s i => newEpoch i 1 s) s
  storeKeys { s with
    nv := { s.nv with namespaces := s.nv.namespaces.filter fun n => !ids.contains n.id }
    sec := { s.sec with keys := s.sec.keys.filter fun k => !ids.contains k.ns } }

/-- R98. -/
def execNamespaceDelete (cid : BitVec 16) (s : State) : Result :=
  .next (onAdmin cid 0x0D (fun c s =>
    if field c.sqe.cdw10.toNat 0 4 ≠ 1 then s
    else
      let ids := namedNs s c.sqe.nsid.toNat
      if ids.isEmpty then adminFail c 0x0B s
      else if streamBound s ids then adminFail c 0x0C s
      else needNumbers ids.length (fun s => adminOk c (removeNs ids s)) s) s)

/-- R98: the one controller is 0x0001. -/
def execNamespaceAttach (cid : BitVec 16) (controllers : List (BitVec 16)) (s : State) : Result :=
  .next (onAdmin cid 0x15 (fun c s =>
    if field c.sqe.cdw10.toNat 0 4 ≠ 0 then s
    else
      match findNs s c.sqe.nsid.toNat with
      | none => adminFail c 0x0B s
      | some n =>
        if controllers ≠ [1] then adminFailSpecific c 0x1C s
        else if n.attached then adminFailSpecific c 0x18 s
        else adminOk c (attachNs n.id true s)) s)

/-- R98. -/
def execNamespaceDetach (cid : BitVec 16) (controllers : List (BitVec 16)) (s : State) : Result :=
  .next (onAdmin cid 0x15 (fun c s =>
    if field c.sqe.cdw10.toNat 0 4 ≠ 1 then s
    else
      match findNs s c.sqe.nsid.toNat with
      | none => adminFail c 0x0B s
      | some n =>
        if controllers ≠ [1] then adminFailSpecific c 0x1C s
        else if n.attached = false then adminFailSpecific c 0x1A s
        else if streamBound s [n.id] then adminFail c 0x0C s
        else adminOk c (attachNs n.id false (endIo [n.id] 0x0B s))) s)

/-! ## Format and Sanitize (R114, R204, R353, R395, R408) -/

/-- A Format begins: format and epoch of each namespace, keys with SES 2; its I/O ends with Format In Progress. -/
def beginFormat (ids : List Nat) (fmt pi ses : Nat) (s : State) : State :=
  let s := endAffected ids false 0x84 s
  let s := ids.foldl (fun s i =>
    newEpoch i 2 (updateNs i (fun n => { n with fmt := fmt, pi := pi, formatting := true }) s)) s
  let s := if ses = 2 then storeKeys (replaceKeys ids false s) else s
  { s with nv := { s.nv with formatSes := ses } }

/-- R114: format in bits [3:0] of Dword 10, metadata as extended LBA bit 4, protection type [7:5] in the last bytes
bit 8, secure erase setting [11:9]. -/
def execFormatNvm (cid : BitVec 16) (s : State) : Result :=
  .next (onAdmin cid 0x80 (fun c s =>
    let v := c.sqe.cdw10.toNat
    let fmt := field v 0 4
    let pi := field v 5 3
    let ses := field v 9 3
    let ids := namedNs s c.sqe.nsid.toNat
    if ids.isEmpty && c.sqe.nsid != 0xFFFFFFFF then adminFail c 0x0B s
    else if streamBound s ids then adminFail c 0x0C s
    else if s.nv.sanitize ≠ .none then fetchAll (completeCmd 0 cid 0 0x1D false 0 0 s)
    else if s.nv.namespaces.any (·.formatting) then fetchAll (completeCmd 0 cid 0 0x84 false 0 0 s)
    else if 2 < ses then adminFail c 0x02 s
    else if formatOk fmt pi = false ∨ (fmt = 1 ∧ v.testBit 4 = false) ∨ v.testBit 8 = true then adminFailSpecific c 0x0A s
    else if ses = 2 ∧ s.sec.drbgOn = false then fetchAll (completeCmd 0 cid 0 0x06 false 0 0 s)
    else
      if ids.isEmpty then adminOk c s
      else
        needNumbers (2 * ids.length) (fun s =>
          updateCmd 0 cid (fun x => { x with stage := .running }) (beginFormat ids fmt pi ses s)) s) s)

/-- R114, R204, R353: with SES 1 every superblock that holds the namespace's old data is erased before the Format
ends; with SES 2 the older key store is; the I/O block lifts and the command completes. -/
def execFormatNvmDone (readBackOk : Bool) (s : State) : Result :=
  .next (
    if serving s && s.nv.namespaces.any (·.formatting) then
      let ids := (s.nv.namespaces.filter (·.formatting)).map (·.id)
      let old (u : FlashUnit) : Bool := s.nv.namespaces.any fun n => n.formatting && n.id == u.ns && decide (u.seq < n.epoch)
      let t := if s.nv.formatSes = 1 then removeCopies readBackOk old s else if s.nv.formatSes = 2 then eraseOlderStore s else s
      if s.nv.formatSes = 1 ∧ collectHolders old t ≠ [] then t else
      let t := ids.foldl (fun t i => updateNs i (fun n => { n with formatting := false }) t) t
      match t.nv.cmds.find? fun c => c.sq == 0 && c.sqe.opcode == 0x80 && c.stage == .running with
      | some c => adminOk c t
      | none => fetchAll t
    else s)

/-- The first check a Sanitize fails (R114). -/
def sanitizeFault (s : State) : Option (Nat × Bool) :=
  if anyStream s then some (0x0C, true)
  else if s.nv.sanitize ≠ .none then some (0x1D, false)
  else if s.nv.namespaces.any (·.formatting) then some (0x84, false)
  else none

/-- A Sanitize begins: every namespace gets a new epoch and its I/O ends with Sanitize In Progress. -/
def beginSanitize (kind : Sanitize) (c : Cmd) (s : State) : State :=
  let ids := s.nv.namespaces.map (·.id)
  let s := endAffected ids true 0x1D s
  let s := if kind = .cryptoErase then storeKeys (replaceKeys ids true s)
    else ids.foldl (fun s i => newEpoch i 3 s) s
  adminOk c { s with nv := { s.nv with sanitize := kind } }

/-- R114. -/
def execSanitizeBlockErase (cid : BitVec 16) (s : State) : Result :=
  .next (onAdmin cid 0x84 (fun c s =>
    if field c.sqe.cdw10.toNat 0 3 ≠ 2 then s
    else
      match sanitizeFault s with
      | some f => fetchAll (completeCmd 0 cid 0 f.1 f.2 0 0 s)
      | none => needNumbers s.nv.namespaces.length (beginSanitize .blockErase c) s) s)

/-- R114, R395. -/
def execSanitizeCryptoErase (cid : BitVec 16) (s : State) : Result :=
  .next (onAdmin cid 0x84 (fun c s =>
    if field c.sqe.cdw10.toNat 0 3 ≠ 4 then s
    else
      match sanitizeFault s with
      | some f => fetchAll (completeCmd 0 cid 0 f.1 f.2 0 0 s)
      | none =>
        if s.sec.drbgOn = false then fetchAll (completeCmd 0 cid 0 0x06 false 0 0 s)
        else needNumbers s.nv.namespaces.length (beginSanitize .cryptoErase c) s) s)

/-- R114, R408: Block Erase has erased every superblock that held user data, Crypto Erase leaves them DIRTY and the
older key store erased. -/
def execSanitizeDone (readBackOk : Bool) (s : State) : Result :=
  .next (
    if serving s then
      match s.nv.sanitize with
      | .none => s
      | kind =>
        let held (u : FlashUnit) : Bool := u.kind != .pad && u.kind != .summary
        let t := if kind = .blockErase then removeCopies readBackOk held s
          else eraseOlderStore (issueErases (freeEmpty (closeHolders held s)))
        if kind = .blockErase ∧ collectHolders held t ≠ [] then t
        else fetchAll { t with nv := { t.nv with sanitize := .none, sanitized := true } }
    else s)

/-! ## Firmware (R103, R116, R400, R402) -/

/-- R400: pieces of whole 4 KiB; offset plus size at most 28,311,552. NUMD and OFST count Dwords. -/
def execFirmwareImageDownload (cid : BitVec 16) (s : State) : Result :=
  .next (onAdmin cid 0x11 (fun c s =>
    let size := 4 * (c.sqe.cdw10.toNat + 1)
    let off := 4 * c.sqe.cdw11.toNat
    if size % 4096 ≠ 0 ∨ off % 4096 ≠ 0 ∨ 28311552 < off + size then adminFail c 0x02 s
    else adminOk c { s with nv := { s.nv with download := s.nv.download ++ [(off, size)] } }) s)

/-- A slot no Firmware Commit can name, or that runs: Invalid Firmware Slot; one being staged: Command Sequence Error
(R116, R400). -/
def commitFault (s : State) (k : Nat) (writes : Bool) : Option (Nat × Nat) :=
  if k ≠ 1 ∧ k ≠ 2 then some (1, 0x06)
  else if writes && k == s.nor.slot then some (1, 0x06)
  else if stagingSlot s k then some (0, 0x0C)
  else none

/-- The slot is selected for the next controller-level reset or power-up (R116). -/
def selectSlot (k : Nat) (s : State) : State :=
  storeConfig (fun c => { c with activeSlot := k }) { s with nv := { s.nv with nextSlot := some k } }

/-- R116, R400: action in bits [5:3] of Dword 10, slot in [2:0]. -/
def execFirmwareCommit (cid : BitVec 16) (image : FwImage) (s : State) : Result :=
  .next (onAdmin cid 0x10 (fun c s =>
    let act := field c.sqe.cdw10.toNat 3 3
    let k := commitSlot s (field c.sqe.cdw10.toNat 0 3)
    if act = 3 then s
    else
      match commitFault s k (act != 2) with
      | some f => fetchAll (completeCmd 0 cid f.1 f.2 true 0 0 s)
      | none =>
        if act = 2 then
          match slotFault s k with
          | some cause =>
            adminFailSpecific c 0x07 (authFail 1 cause k ((slotImage s k).map (·.version) |>.getD 0) s)
          | none => adminOk c (selectSlot k s)
        else if s.nv.download.isEmpty then adminFailSpecific c 0x07 s
        else
          match writeSlot k image { s with nv := { s.nv with download := [] } } with
          | (s, false) => adminFailSpecific c 0x07 s
          | (s, true) => adminOk c (if act = 1 then selectSlot k s else s)) s)

/-- A downloaded image takes the slot's place first, where there is one (R103, R400; NVMe base, log entry 16). -/
def takeDownload (k : Nat) (image : FwImage) (s : State) : State × Bool :=
  if s.nv.download.isEmpty then (s, true) else writeSlot k image { s with nv := { s.nv with download := [] } }

/-- R116, R402: the slot takes a downloaded image, verifies, is recorded active and the warm recovery begins; the
command completes when it ends. -/
def execFirmwareCommitImmediate (cid : BitVec 16) (image : FwImage) (s : State) : Result :=
  .next (onAdmin cid 0x10 (fun c s =>
    let k := commitSlot s (field c.sqe.cdw10.toNat 0 3)
    if field c.sqe.cdw10.toNat 3 3 ≠ 3 then s
    else
      match commitFault s k (!s.nv.download.isEmpty) with
      | some f => fetchAll (completeCmd 0 cid f.1 f.2 true 0 0 s)
      | none =>
        match takeDownload k image s with
        | (s, false) => adminFailSpecific c 0x07 s
        | (s, true) =>
        match slotFault s k with
        | some cause => adminFailSpecific c 0x07 (authFail 1 cause k ((slotImage s k).map (·.version) |>.getD 0) s)
        | none => activate k none (some cid) (updateCmd 0 cid (fun x => { x with stage := .running }) s)) s)

end Sys2Proof.Machine
end

