-- ==== Sys2Proof/Machine/NvmeIo.lean ====
section
/-! DEFINITION. The NVMe I/O commands (R99 to R117). -/

namespace Sys2Proof.Machine

/-! ## Checks before an I/O command begins -/

/-- A status: type, code, DNR (R117). -/
abbrev Status := Nat × Nat × Bool

/-- The namespace can take I/O: keys exist, it exists and is attached, no Format or Sanitize runs on it (R114, R117,
R406). -/
def nsFault (s : State) (nsid : Nat) : Option Status :=
  if s.sec.port = .opened then some (0, 0x82, true)
  else match findNs s nsid with
  | none => some (0, 0x0B, true)
  | some n =>
    if n.attached = false then some (0, 0x0B, true)
    else if s.nv.sanitize ≠ .none then some (0, 0x1D, false)
    else if n.formatting then some (0, 0x84, false)
    else none

/-- Bytes a command moves for each LBA: 4,104 where the protection information travels (R99, R100). A Verify moves
none and is measured by its data (log entry 172). -/
def blockBytes (n : Namespace) (e : Sqe) : Nat :=
  if n.fmt = 0 ∨ (n.pi ≠ 0 ∧ sqePract e) ∨ e.opcode = 0x0C then 4096 else 4104

/-- Range, size and data pointer (R95, R113, R117). `most` is the greatest number of bytes. -/
def rangeFault (s : State) (e : Sqe) (most : Nat) : Option Status :=
  match findNs s e.nsid.toNat with
  | none => some (0, 0x0B, true)
  | some n =>
    if n.size * 256 < sqeLba e + sqeLen e then some (0, 0x80, true)
    else if most < sqeLen e * blockBytes n e then some (0, 0x02, true)
    else if sqeSglBad e then some (0, 0x11, true)
    else none

/-- What one command moves at most, 2 MiB (R95). -/
def moveLimit : Nat := 2097152

/-- The first check an I/O command fails. -/
def ioFault (s : State) (e : Sqe) (most : Nat) : Option Status :=
  match nsFault s e.nsid.toNat with
  | some st => some st
  | none => rangeFault s e most

/-- LBA ranges a command names: first LBA and number (R102, R112). -/
def cmdRanges (e : Sqe) : List (Nat × Nat) :=
  match e.opcode.toNat with
  | 0x00 => []
  | 0x84 => []
  | 0x09 => e.ranges.map fun r => (r.slba, r.nlb)
  | _ => [(sqeLba e, sqeLen e)]

/-- An earlier command of the same queue that has not taken effect: a write not accepted, a read not resolved. -/
def notEffective (c : Cmd) : Bool :=
  match c.stage with
  | .fetched => true
  | .running =>
    if c.sqe.opcode == 0x02 || c.sqe.opcode == 0x0C then c.waits
    else c.seq == 0

/-- R112: an earlier overlapping command of the same queue has not taken effect yet. -/
def overlapBlocked (s : State) (c : Cmd) : Bool :=
  (s.nv.cmds.takeWhile fun d => !isCmd c.sq c.sqe.cid d).any fun d =>
    d.sq == c.sq && notEffective d && (cmdRanges d.sqe).any fun a => (cmdRanges c.sqe).any fun b =>
      overlaps d.sqe.nsid.toNat a.1 a.2 c.sqe.nsid.toNat b.1 b.2

/-- A command completes with a status. -/
def failWith (c : Cmd) (st : Status) (s : State) : State :=
  fetchAll (completeCmd c.sq c.sqe.cid st.1 st.2.1 st.2.2 0 0 s)

/-! ## Protection information (R100, R101) -/

/-- Checks are off by the escape values of the NVM Command Set: application tag all ones under Type 1, with the
reference tag all ones too under Type 3. -/
def piEscaped (type : Nat) (pi : BitVec 64) : Bool :=
  field pi.toNat 16 16 == 0xFFFF && (type != 3 || field pi.toNat 32 32 == 0xFFFFFFFF)

/-- The first protection information check that fails: 0 guard, 1 application tag, 2 reference tag (R100, R101). -/
def piFault (type : Nat) (e : Sqe) (lba : Nat) (data : UnitData) (pi : BitVec 64) : Option Nat :=
  if piEscaped type pi then none
  else if sqeChkGuard e && field pi.toNat 0 16 != piGuard data then some 0
  else if sqeChkApp e && (field pi.toNat 16 16 &&& sqeAppMask e) != (sqeAppTag e &&& sqeAppMask e) then some 1
  else if sqeChkRef e && type == 1 && field pi.toNat 32 32 != lba % 2 ^ 32 then some 2
  else none

/-- Status of a protection information mismatch (R117). -/
def piStatus (k : Nat) : Status := (2, 0x82 + k, true)

/-- HOST_PI_MISMATCH (R118, R388). -/
def logPi (lba ns k : Nat) (onRead : Bool) (s : State) : State :=
  logEvent 0x0302 (blockUnit 2) (evData [(5, lba), (1, ns), (1, k + 128 * flag onRead), (1, 0)]) s

/-! ## Writes (R99 to R101, R108, R253) -/

/-- The unit a host block becomes at W5: guard, and protection information generated, taken along or absent (R100). -/
def hostUnit (n : Namespace) (e : Sqe) (lba : Nat) (h : HostUnit) : Unit4k :=
  let pi : BitVec 64 :=
    if n.fmt = 0 then 0
    else if n.pi ≠ 0 ∧ sqePract e then
      piOf h.data (sqeAppTag e) (if n.pi = 3 then sqeRefTag e else lba)
    else h.pi
  ⟨h.data, guardOf h.data, pi, false⟩

/-- The first unit whose protection information fails, with the kind of mismatch: checked with PRACT 0 (R100, R101). -/
def writePiFault (n : Namespace) (e : Sqe) (data : List HostUnit) : Option (Nat × Nat) :=
  if n.fmt = 0 ∨ n.pi = 0 ∨ sqePract e then none
  else
    data.zipIdx.findSome? fun d =>
      (piFault n.pi e (sqeLba e + d.2) d.1.data d.1.pi).map fun k => (sqeLba e + d.2, k)

/-- BUS_PARITY for a block whose check failed on its way to W7: fetched again once (R253). -/
def writeParity (e : Sqe) (d : HostUnit × Nat) (s : State) : State :=
  if d.1.parityFails = 0 then s
  else
    let u := blockUnit d.1.parityStage
    busParity d.1.parityStage u u 0 1 (if 2 ≤ d.1.parityFails then 2 else 0) (sqeLba e + d.2) s

/-- A write command of the queue's source, received at W6 (R146). -/
def receiveWrite (c : Cmd) (kind : WriteKind) (len : Nat) (units : List Unit4k) (ordered : Bool) (s : State) : State :=
  let w : Write :=
    { seq := 0, kind := kind, src := .queue c.sq, ns := c.sqe.nsid.toNat, lba := sqeLba c.sqe, len := len, more := []
      units := units, fua := sqeFua c.sqe, ordered := ordered, cmd := some (c.sq, c.sqe.cid), places := []
      programmed := false, applied := false, serial := 0,
      latched := false, recorded := false }
  enqueueWrite w (updateCmd c.sq c.sqe.cid (fun x => { x with stage := .running }) s)

/-- A Write or Ordered Write whose data is fetched: parity, capacity, protection information, room in the NVMe share. -/
def takeWrite (c : Cmd) (n : Namespace) (data : List HostUnit) (ordered : Bool) (s : State) : State :=
  let e := c.sqe
  if overCapacity s n.id (sqeLba e) (sqeLen e) then failWith c (0, 0x81, true) s
  else if nvmeRoom s (sqeLen e * 4096) = false then s
  else
    let s := data.zipIdx.foldl (fun s d => writeParity e d s) s
    if data.any fun d => decide (2 ≤ d.parityFails) then failWith c (0, 0x06, false) s
    else
      match writePiFault n e data with
      | some (lba, k) => failWith c (piStatus k) (logPi lba n.id k false s)
      | none =>
        let units := data.zipIdx.map fun d => hostUnit n e (sqeLba e + d.2) d.1
        let s := { s with nv := { s.nv with bytesWritten := s.nv.bytesWritten + sqeLen e * 4096 } }
        receiveWrite c .write (sqeLen e) units ordered s

/-- A Write or Ordered Write begins: data of as many blocks as it names has been fetched. -/
def beginWrite (sq : Nat) (cid : BitVec 16) (op : Nat) (data : List HostUnit) (ordered : Bool) (s : State) : State :=
  onIo sq cid [op] (fun c s =>
    match ioFault s c.sqe moveLimit with
    | some st => failWith c st s
    | none =>
      if overlapBlocked s c ∨ data.length ≠ sqeLen c.sqe then s
      else
        match findNs s c.sqe.nsid.toNat with
        | none => s
        | some n => takeWrite c n data ordered s) s

/-- R99 to R101, R108. -/
def execWrite (sq : Nat) (cid : BitVec 16) (data : List HostUnit) (s : State) : Result :=
  .next (beginWrite sq cid 0x01 data false s)

/-- R105. -/
def execOrderedWrite (sq : Nat) (cid : BitVec 16) (data : List HostUnit) (s : State) : Result :=
  .next (beginWrite sq cid 0x81 data true s)

/-- R113: zeros over up to 65,536 LBAs. -/
def execWriteZeroes (sq : Nat) (cid : BitVec 16) (s : State) : Result :=
  .next (onIo sq cid [0x08] (fun c s =>
    match ioFault s c.sqe (65536 * 4104) with
    | some st => failWith c st s
    | none =>
      if overlapBlocked s c then s
      else if overCapacity s c.sqe.nsid.toNat (sqeLba c.sqe) (sqeLen c.sqe) then failWith c (0, 0x81, true) s
      else receiveWrite c .zeroes (sqeLen c.sqe) [] false s) s)

/-- R113: the deallocate attribute is Dword 11 bit 2, the number of ranges Dword 10; without the attribute nothing is
done. -/
def execDatasetManagement (sq : Nat) (cid : BitVec 16) (s : State) : Result :=
  .next (onIo sq cid [0x09] (fun c s =>
    match nsFault s c.sqe.nsid.toNat with
    | some st => failWith c st s
    | none =>
      match findNs s c.sqe.nsid.toNat with
      | none => s
      | some n =>
        let rs := c.sqe.ranges
        if sqeSglBad c.sqe then failWith c (0, 0x11, true) s
        else if overlapBlocked s c ∨ rs.length ≠ field c.sqe.cdw10.toNat 0 8 + 1 then s
        else if rs.any fun r => decide (n.size * 256 < r.slba + r.nlb) then failWith c (0, 0x80, true) s
        else if c.sqe.cdw11.getLsbD 2 = false then fetchAll (completeOk sq cid s)
        else
          let first := rs.headD ⟨0, 0⟩
          let w : Write :=
            { seq := 0, kind := .deallocate, src := .queue sq, ns := n.id, lba := first.slba, len := first.nlb
              more := rs.tail.map fun r => (r.slba, r.nlb), units := [], fua := false, ordered := false
              cmd := some (sq, cid), places := [], programmed := false, applied := false, serial := 0
              latched := false, recorded := false }
          enqueueWrite w (updateCmd sq cid (fun x => { x with stage := .running }) s)) s)

/-! ## Reads (R102, R112, R115) -/

/-- A Read or Verify begins: checked, then resolved or made to wait. -/
def beginRead (sq : Nat) (cid : BitVec 16) (op : Nat) (s : State) : State :=
  onIo sq cid [op] (fun c s =>
    match ioFault s c.sqe moveLimit with
    | some st => failWith c st s
    | none => if overlapBlocked s c then s else resolveRead c s) s

/-- R112, R115. -/
def execRead (sq : Nat) (cid : BitVec 16) (s : State) : Result := .next (beginRead sq cid 0x02 s)

/-- R102. -/
def execVerify (sq : Nat) (cid : BitVec 16) (s : State) : Result := .next (beginRead sq cid 0x0C s)

/-- The first unit whose stored protection information fails at F9 (R101). -/
def readPiFault (n : Namespace) (e : Sqe) (units : List Unit4k) : Option (Nat × Nat) :=
  if n.fmt = 0 ∨ n.pi = 0 then none
  else
    units.zipIdx.findSome? fun d =>
      (piFault n.pi e (sqeLba e + d.2) d.1.data d.1.pi).map fun k => (sqeLba e + d.2, k)

/-- The read's unit reads end with it. -/
def dropReads (sq : Nat) (cid : BitVec 16) (s : State) : State :=
  { s with intg := { s.intg with reads := s.intg.reads.filter fun r => r.reader != .host sq cid } }

/-- A read ends without good data (R256). -/
def failRead (c : Cmd) (lba : Nat) (s : State) : State :=
  failWith c (2, 0x81, true) (logReadError c.sqe.nsid.toNat lba c.sq c.sqe.cid (dropReads c.sq c.sqe.cid s))

/-- Good data reaches F10 and the read completes (R24, R100). -/
def finishRead (c : Cmd) (n : Namespace) (units : List Unit4k) (s : State) : State :=
  let e := c.sqe
  match readPiFault n e units with
  | some (lba, k) => failWith c (piStatus k) (logPi lba n.id k true (dropReads c.sq e.cid s))
  | none =>
    let s := dropReads c.sq e.cid s
    let s :=
      if e.opcode == 0x02 then
        let send (u : Unit4k) : UnitData × Option (BitVec 64) :=
          (u.data, if n.fmt = 0 ∨ (n.pi ≠ 0 ∧ sqePract e) then none else some u.pi)
        emit (.hostUnits c.sq e.cid (units.map send))
          { s with nv := { s.nv with bytesRead := s.nv.bytesRead + units.length * 4096 } }
      else s
    fetchAll (completeOk c.sq e.cid s)

/-- The block that checks byte parity on entry to F8, F9 or F10 (R18, R253). -/
def endStageUnit (stage : Nat) : UnitId :=
  match stage with
  | 8 => blockUnit 0xA
  | 9 => blockUnit 5
  | _ => blockUnit 1

/-- R24, R253, R256: every unit found, or one has failed; a byte parity failure on entry to F10, or of a buffer hit on
entry to F8 or F9, is repeated once. A Clove stop holds back only the completion (R29, R33). -/
def execHostReadComplete (sq : Nat) (cid : BitVec 16) (parityStage parityFails : Nat) (s : State) : Result :=
  .next (
    if s.life.phase ≠ .service then s
    else
      match findCmd s sq cid with
      | none => s
      | some c =>
        if c.stage ≠ .running ∨ c.waits = true ∨ c.got = [] ∧ c.failed = none then s
        else
          match c.failed with
          | some lba => failRead c lba s
          | none =>
            if c.got.any Option.isNone then s
            else
              let u := endStageUnit parityStage
              let fails := if parityStage = 10 ∨ ([8, 9].contains parityStage ∧ c.hits ≠ []) then parityFails else 0
              let s :=
                if fails = 0 then s
                else busParity (0x80 + parityStage) u u 0 1 (if 2 ≤ fails then 3 else 0) (sqeLba c.sqe) s
              if 2 ≤ fails then failRead c (sqeLba c.sqe) s
              else
                match findNs s c.sqe.nsid.toNat with
                | none => failWith c (0, 0x0B, true) (dropReads sq cid s)
                | some n => finishRead c n (c.got.filterMap id) s)

/-! ## Completions of writes (R105, R108, R110) -/

/-- The rule of R108 for posting a write's completion (R161). -/
def mayComplete (s : State) (w : Write) : Bool :=
  readable s w &&
    if s.hup.protectedMode then durable s w
    else if w.fua || !s.nv.wce then w.programmed
    else true

/-- R105, R108. -/
def execWriteCompletionPost (sq : Nat) (cid : BitVec 16) (s : State) : Result :=
  .next (
    match (findCmd s sq cid).filter fun c => c.stage == .running && c.seq != 0 && [0x01, 0x08, 0x81].contains c.sqe.opcode.toNat with
    | none => s
    | some c =>
      let ok := match s.ord.accepted.find? fun w => w.seq == c.seq with
        | some w => mayComplete s w
        | none => true
      if serving s && ok then
        let seq := if c.sqe.opcode == 0x81 then c.seq else 0
        fetchAll (completeCmd sq cid 0 0 false (BitVec.ofNat 32 seq) (BitVec.ofNat 32 (seq / 2 ^ 32)) s)
      else s)

/-! ## Flush and Fence (R106, R107, R109) -/

/-- Format or Sanitize In Progress for a command of the whole device: a Format affects it where it covers every
namespace (R114; of a Fence, log entry 172). -/
def progressFault (s : State) (everyNs : Bool) : Option Status :=
  if s.nv.sanitize ≠ .none then some (0, 0x1D, false)
  else if everyNs && s.nv.namespaces.any (·.formatting) then some (0, 0x84, false)
  else none

/-- R109: the Flush covers what was accepted before it. -/
def execFlush (sq : Nat) (cid : BitVec 16) (s : State) : Result :=
  .next (onIo sq cid [0x00] (fun c s =>
    match if c.sqe.nsid = 0xFFFFFFFF then progressFault s true else nsFault s c.sqe.nsid.toNat with
    | some st => failWith c st s
    | none =>
      padWanted (updateCmd sq cid (fun x => { x with stage := .running, flushUpTo := lastIssued s }) s)) s)

/-- A write a Flush covers. -/
def flushCovers (c : Cmd) (w : Write) : Bool :=
  decide (w.seq ≤ c.flushUpTo) && (c.sqe.nsid == 0xFFFFFFFF || c.sqe.nsid.toNat == w.ns)

/-- R109. -/
def execFlushComplete (sq : Nat) (cid : BitVec 16) (s : State) : Result :=
  .next (
    match (findCmd s sq cid).filter fun c => sq != 0 && c.stage == .running && c.sqe.opcode == 0x00 with
    | none => s
    | some c =>
      if serving s && s.ord.accepted.all (fun w => !flushCovers c w || durable s w) then fetchAll (completeOk sq cid s)
      else s)

/-- The first check of R106 that fails. -/
def fenceFault (s : State) (e : Sqe) : Option Status :=
  let scope := field e.cdw10.toNat 0 2
  let reserved := e.cdw10.toNat / 4 != 0 || e.fuse != 0 || e.reserved0 != 0 || e.dw2 != 0 || e.dw3 != 0 ||
    e.mptr != 0 || e.dptr != 0 || e.cdw11 != 0 || e.cdw12 != 0 ||
    e.cdw13 != 0 || e.cdw14 != 0 || e.cdw15 != 0
  if scope = 3 ∨ reserved = true then some (0, 0x02, true)
  else if scope = 1 then
    if e.nsid = 0 ∨ e.nsid = 0xFFFFFFFF then some (0, 0x02, true)
    else match findNs s e.nsid.toNat with
      | none => some (0, 0x0B, true)
      | some n =>
        if n.attached = false then some (0, 0x0B, true)
        else if n.formatting then some (0, 0x84, false)
        else progressFault s false
  else if e.nsid = 0 ∨ e.nsid = 0xFFFFFFFF then progressFault s false
  else some (0, 0x02, true)

/-- R106, R107. -/
def execFence (sq : Nat) (cid : BitVec 16) (s : State) : Result :=
  .next (onIo sq cid [0x84] (fun c s =>
    match fenceFault s c.sqe with
    | some st => failWith c st s
    | none =>
      enqueueFence ⟨0, field c.sqe.cdw10.toNat 0 2, .queue sq, c.sqe.nsid.toNat, some (sq, cid)⟩
        (updateCmd sq cid (fun x => { x with stage := .running }) s)) s)

end Sys2Proof.Machine
end

