-- ==== Sys2Proof/Machine/Ordering.lean ====
section
/-! DEFINITION. Acceptance at W7 and the satisfying of fences (R144 to R155). -/

namespace Sys2Proof.Machine

/-- Acceptance is open: from capture-ready, outside the sequences that close W7 (R31, R340). -/
def accepting (s : State) : Bool := s.life.phase == .service && s.life.captureReady

/-- The Overlap Directory's 262,144 entries (R112, R281). -/
def directoryRoom (s : State) : Bool := decide (s.ord.accepted.length < 262144)

/-- The source of an item that waits for W7. -/
def waitingSource : Waiting → Source
  | .write w => w.src
  | .fence f => f.src

/-- Sequence numbers an item takes (R144). -/
def numbersTaken : Waiting → Nat
  | .fence _ => 1
  | .write w =>
    match w.kind with
    | .secureDiscard => max 1 (segmentsTouched w.lba w.len)
    | _ => if w.ordered then 2 else 1

/-- A block of 2^24 numbers is asked for in the ledger, once (R145). -/
def reserveBlock (s : State) : State :=
  let due := s.map.pendingSlots.any fun x => match x with
    | .seqBlock _ => true
    | _ => false
  if due then s else appendSlot (.seqBlock (s.ord.top + 2 ^ 24)) s

/-- A command's record takes its sequence number. -/
def numberCmd (c : Option (Nat × BitVec 16)) (seq : Nat) (s : State) : State :=
  match c with
  | some (sq, cid) => updateCmd sq cid (fun x => { x with seq := seq }) s
  | none => s

/-- A write with its number enters the Overlap Directory: it is accepted (R23, R25, R144, R150, R202, R203). -/
def takeAtW7 (w : Write) (s : State) : State :=
  let s := numberCmd w.cmd w.seq { s with ord := { s.ord with accepted := s.ord.accepted ++ [w] } }
  match w.kind with
  | .deallocate =>
    match w.cmd with
    | some (sq, cid) => fetchAll (completeOk sq cid (settleMap s))
    | none => settleMap s
  | .secureDiscard =>
    let handle := match w.src with
      | .discard h => h
      | _ => 0
    let d : Discard := ⟨w.seq, w.ns, w.lba, w.len, handle, false, 0, 0⟩
    settleMap (passCancel handle { s with sec := { s.sec with discards := s.sec.discards ++ [d] } })
  | .captureData => { s with map := { s.map with captureBytes := s.map.captureBytes + writeBytes w } }
  | _ => s

/-- An item passes W7 with the numbers from `n` on (R144, R105). -/
def acceptItem (x : Waiting) (n : Nat) (s : State) : State :=
  match x with
  | .fence f =>
    padWanted (numberCmd f.cmd n { s with ord := { s.ord with fences := s.ord.fences ++ [{ f with seq := n }] } })
  | .write w =>
    if w.ordered then
      let s := { s with ord := { s.ord with fences := s.ord.fences ++ [⟨n, 0, w.src, w.ns, none⟩] } }
      padWanted (takeAtW7 { w with seq := n + 1 } s)
    else takeAtW7 { w with seq := n } s

/-- Remove the first element that meets `p`. -/
def removeFirst {α : Type} (p : α → Bool) : List α → List α
  | [] => []
  | x :: xs => if p x then xs else x :: removeFirst p xs

/-- A capture stream's item. -/
def fromStream (x : Waiting) : Bool :=
  match waitingSource x with
  | .stream _ => true
  | _ => false

/-- An item gives a namespace a write. -/
def writesNs (ns : Nat) (x : Waiting) : Bool :=
  match x with
  | .write w => w.ns == ns
  | .fence _ => false

/-- The source's oldest item may pass W7 now: a write needs a free entry of the Overlap Directory (R112); a frame's
namespace fence passes after the units that its arrival released for every stream of the namespace (R79). -/
def mayPass (s : State) (src : Source) (x : Waiting) : Bool :=
  match x with
  | .write _ => directoryRoom s
  | .fence f =>
    !(f.scope == 1 && fromStream x &&
      (s.ord.waiting.takeWhile fun y => waitingSource y != src).any fun y => fromStream y && writesNs f.ns y)

/-- R79, R144, R145: the source's oldest waiting item passes W7, or waits for a block of numbers, a free entry, or
units of other streams that go before its fence. -/
def execWriteAccept (src : Source) (s : State) : Result :=
  .next (
    match s.ord.waiting.find? fun x => waitingSource x == src with
    | none => s
    | some x =>
      if accepting s && mayPass s src x then
        let k := numbersTaken x
        if s.ord.top < s.ord.next + k - 1 then reserveBlock s
        else
          let n := s.ord.next
          let s := { s with ord := { s.ord with
            next := n + k
            waiting := removeFirst (fun y => waitingSource y == src) s.ord.waiting } }
          retryReads (acceptItem x n (directoryWritten s))
      else s)

/-- R153, R154: every before-write of the fence is durable: it completes, and the writes it held are readable and go
on. -/
def execFenceSatisfied (seq : Nat) (s : State) : Result :=
  .next (
    match s.ord.fences.find? fun f => f.seq == seq with
    | none => s
    | some f =>
      if fenceReady s f then
        let s := { s with ord := { s.ord with fences := s.ord.fences.filter fun g => g.seq != seq } }
        let s := match f.cmd with
          | some (sq, cid) =>
            fetchAll (completeCmd sq cid 0 0 false (BitVec.ofNat 32 seq) (BitVec.ofNat 32 (seq / 2 ^ 32)) s)
          | none => s
        retryReads (settleMap s)
      else s)

end Sys2Proof.Machine
end

