-- ==== Sys2Proof/Machine/Placement.lean ====
section
/-! DEFINITION. Placement, rows, grants, the ledger, garbage collection, folds and wear levelling (R32, R176 to R200,
R205). -/

namespace Sys2Proof.Machine

/-! ## Writes (R177 to R180, R205) -/

/-- The first part of a write without a place that need not wait for overlay room: whole segments go on while units
for the overlay wait (R205). -/
def placeablePart (s : State) (w : Write) : Option (Nat × Nat) :=
  (writeParts w).find? fun p => !w.places.any (fun q => q.first == p.1) && (overlayWait s w p).isNone

/-- The cause for which a part waits. -/
def waitingPart (s : State) (w : Write) : Option Nat :=
  ((writeParts w).filter fun p => !w.places.any fun q => q.first == p.1).findSome? fun p => overlayWait s w p

/-- Byte parity on entry to W8, W9 or W10 of a unit read from the buffer: the read is repeated up to twice, then the
unit is lost (R28, R253, R254). -/
def placeParity (w : Write) (p : Nat × Nat) (parity : Option PlaceParity) (s : State) : State :=
  match parity with
  | none => s
  | some x =>
    if p.1 ≤ x.unit ∧ x.unit < p.1 + p.2 ∧ x.unit < w.units.length then
      let u := blockUnit (if x.stage = 8 then 8 else if x.stage = 9 then 0xA else 0xB)
      let s := busParity x.stage u u x.lane (min x.fails 2) (if 3 ≤ x.fails then 1 else 0) ((w.lba + x.unit) % 2 ^ 32) s
      if 3 ≤ x.fails then loseUnit w.seq x.unit s else s
    else s

/-- A write may be placed now as far as R160 goes: none that goes ahead of all other work can be placed before it. -/
def placeTurn (s : State) (w : Write) : Bool :=
  decide (w.seq ≤ s.hup.flushAhead) ||
    !s.ord.accepted.any fun v => !v.programmed && decide (v.seq ≤ s.hup.flushAhead) && (placeablePart s v).isSome

/-- R150, R154, R160, R177, R178, R205, R253: a part of an accepted write that no hold stops is placed. -/
def execWritePlace (seq : Nat) (parity : Option PlaceParity) (s : State) : Result :=
  .next (
    match s.ord.accepted.find? fun w => w.seq == seq with
    | none => s
    | some w =>
      if s.life.phase ≠ .service ∨ mayPlace s w = false ∨ placeTurn s w = false then s
      else
        let t := match waitingPart s w with
          | some cause => beginOverlayEpisode cause s
          | none => s
        match placeablePart t w with
        | some p =>
          let t := placeParity w p parity t
          padWanted (parityWritten (placePart ((t.ord.accepted.find? fun x => x.seq == seq).getD w) p t))
        | none => t)

/-- R178: an active superblock has held data for 24 h. -/
def execSuperblockAgeTimeout (sb : Nat) (s : State) : Result :=
  .next (
    match findSb s sb with
    | none => s
    | some b =>
      if s.life.phase == .service && b.state == .granted && b.active && !closing b && decide (0 < b.fill) then closeSb sb s
      else s)

/-- A row may be programmed now: the rows before it in its superblock are (DEDUCED, log entry 175), and it does not go
before rows of writes that R160 puts ahead of all other work. -/
def rowTurn (s : State) (b : Superblock) (row : Nat) : Bool :=
  b.rowsSent.all (fun r => decide (row ≤ r) || b.rowsDone.contains r) &&
    (!aheadPlaced s || aheadAt s b row)

/-- The temperatures read before the row's programs enter the die-state table, one a member by channel (R217). -/
def readMemberTemps (b : Superblock) (temps : List Int) (s : State) : State :=
  temps.zipIdx.foldl (fun s x =>
    if b.leftOut.contains x.2 then s else takeDieTemp (memberDie b x.2) x.1 s) s

/-- R147, R160, R178 to R180: a row and its parity are programmed: writes become durable and enter the map, a closing
superblock closes. -/
def execRowProgramDone (sb row : Nat) (temps : List Int) (s : State) : Result :=
  .next (
    match findSb s sb with
    | none => s
    | some b =>
      let runs := s.life.phase == .service || s.life.phase == .lossFlush || s.life.phase == .haltFlush
      if runs && b.state == .granted && b.rowsSent.contains row && !b.rowsDone.contains row && rowTurn s b row then
        let s := readMemberTemps b temps s
        retryReads (endOverlayEpisode (finishClose sb (markProgrammed (rowDone sb row s))))
      else s)

/-! ## Grants and the ledger (R32, R176, R186, R188, R194) -/

/-- R32, R186, R198: firmware grants a superblock of a group, and issues the erases that are due. -/
def execSuperblockGrant (group : Fin 32) (halfErased : List BlankFound) (s : State) : Result :=
  .next (
    if serving s then
      let s := if backgroundOpen s then freeEmpty s else s
      issueErases (grantSb group.val halfErased s)
    else s)

/-- A page programmed on one copy only stands on it alone (R188). -/
def onlyCopy (done : List Nat) (s : State) : State :=
  { s with map := { s.map with copies := s.map.copies.mapIdx fun i c =>
      if done == [i] then { c with extra := s.map.pendingSlots } else c } }

/-- R188: slots are durable once their page is programmed on two copies; a copy that was not programmed is rebuilt at
another site. Durable grants may bring capture-ready (R31). -/
def execLedgerPageDone (copies : List (Fin 3)) (s : State) : Result :=
  .next (
    if s.life.phase ≠ .service ∨ s.life.fwStart = false ∨ s.map.pendingSlots = [] then s
    else
      let done := (List.range 3).filter fun i => copies.any fun c => c.val == i
      let s := if 2 ≤ done.length then ledgerFlush s else onlyCopy done s
      let s := ((List.range 3).filter fun i => !done.contains i).foldl (fun s i => rebuildCopy i s) s
      let s := retryReads (endOverlayEpisode s)
      if s.life.captureReady then s else reachCaptureReady s)

/-! ## Garbage collection (R194, R195, R200) -/

/-- The victim of a group: the CLOSED superblock with the fewest valid units, of several the one with the lowest close
stamp (R194). -/
def gcVictim (s : State) (g : Nat) : Option Superblock :=
  (s.map.sbs.filter fun b => groupOf b.number == g && b.state == .closed).foldl (fun o b => match o with
    | none => some b
    | some x =>
      let vb := (validUnits s b).length
      let vx := (validUnits s x).length
      if vb < vx ∨ (vb = vx ∧ b.closeStamp < x.closeStamp) then some b else some x) none

/-- A CLOSED superblock is to be emptied: closed with no summary, chosen by scrub, with copies to be redone, or the
victim of a group where collection runs, which the summary total also starts (R194, R200, R249). -/
def gcDue (s : State) (b : Superblock) : Bool :=
  b.state == .closed &&
    (b.noSummary || b.relocate || memberOut s b || s.map.moves.any (fun m => m.src == b.number) ||
      ((s.map.gcGroups.contains (groupOf b.number) || decide (7500000000 ≤ summaryBytes s)) &&
        (gcVictim s (groupOf b.number)).any fun v => v.number == b.number))

/-- R195, R200: the copies are programmed, read back and checked at F9; the source is DIRTY once nothing valid is left
in it. A copy that reads back wrong is logged and redone. -/
def execGcCopyDone (src : Nat) (readBackOk : Bool) (s : State) : Result :=
  .next (
    match findSb s src with
    | none => s
    | some b =>
      if backgroundOpen s && gcDue s b then
        issueErases (updateGc (endOverlayEpisode (freeIfEmpty src (copyOut readBackOk src s))))
      else s)

/-! ## Folds (R196, R205) -/

/-- Overlay entries of a segment. -/
def entriesOf (s : State) (e : SegEntry) : Nat :=
  if e.overlaid then s.map.overlay.countP fun o => o.ovlNumber == e.ovlNumber else 0

/-- A segment may be folded: it holds overlay entries, and nothing accepted covers it. -/
def foldable (s : State) (e : SegEntry) : Bool :=
  e.overlaid && !e.foldPending && !s.map.mapLost.contains e.seg &&
    match namespaceOf s e.seg with
    | some n => !segmentCovered s n e.seg
    | none => false

/-- Folding runs: more than 16,777,216 entries, an overlay-full episode, or summaries of 7.5 × 10^9 bytes (R185, R196,
R205). -/
def foldingRuns (s : State) : Bool :=
  s.life.phase == .service && s.life.mapReady && s.life.stop.isNone &&
    (decide (16777216 < s.map.overlay.length) || s.map.overlayFull || decide (7500000000 ≤ summaryBytes s))

/-- No other segment that may be folded holds more entries (R196). -/
def foldsFirst (s : State) (e : SegEntry) : Bool :=
  s.map.segments.all fun x => !foldable s x || decide (entriesOf s x ≤ entriesOf s e)

/-- A fold begins: fold pending is set, the entries are marked, the write is accepted with number f. -/
def beginFold (n : Namespace) (e : SegEntry) (s : State) : State :=
  let w := foldWrite s n e.seg
  let s := putSeg { e with foldPending := true } s
  let s := { s with map := { s.map with
    overlay := changeWhere (fun o => o.ovlNumber == e.ovlNumber) (fun o => { o with foldMark := true }) s.map.overlay } }
  { s with ord := { s.ord with next := s.ord.next + 1, accepted := s.ord.accepted ++ [w] } }

/-- R196. -/
def execFoldStart (segment : Nat) (s : State) : Result :=
  .next (
    let e := segEntry s segment
    match namespaceOf s segment with
    | none => s
    | some n => if foldingRuns s && foldable s e && foldsFirst s e then needNumbers 1 (beginFold n e) s else s)

/-! ## Static wear levelling (R197) -/

/-- The spread of erase counts over all populated superblocks. -/
def eraseSpread (s : State) : Nat :=
  let counts := (s.map.sbs.filter fun b => b.state != .absent).map (·.eraseCount)
  (counts.max?).getD 0 - (counts.min?).getD 0

/-- The coldest CLOSED superblock of a group: lowest erase count, then lowest close stamp. -/
def coldest (s : State) (g : Nat) : Option Superblock :=
  (s.map.sbs.filter fun b => groupOf b.number == g && b.state == .closed).foldl (fun o b => match o with
    | none => some b
    | some x =>
      if b.eraseCount < x.eraseCount ∨ (b.eraseCount = x.eraseCount ∧ b.closeStamp < x.closeStamp) then some b
      else some x) none

/-- The ERASED superblock of a group with the highest erase count, of several the lowest number. -/
def mostWorn (s : State) (g : Nat) : Option Superblock :=
  (s.map.sbs.filter fun b => groupOf b.number == g && b.state == .erased).foldl (fun o b => match o with
    | none => some b
    | some x => if x.eraseCount < b.eraseCount then some b else some x) none

/-- A move may be made in a group: spread above 300, no stream OPEN, 8 ERASED superblocks, 60 s since the last one. -/
def mayMove (s : State) (g : Nat) : Bool :=
  backgroundOpen s && decide (300 < eraseSpread s) && !s.str.list.any (fun x => x.state == .open_) &&
    decide (8 ≤ erasedIn s g) && !s.map.staticMoves.any fun m => m.1 == g && decide (s.clk.us < m.2 + 60000000)

/-- A copy is placed in a given superblock; the map follows it when it reads back correctly, and otherwise it is to be
redone (R195, R197, R200). -/
def copyInto (good : Bool) (redone src dst : Nat) (us : List FlashUnit) (s : State) : State :=
  match findSb s dst with
  | none => s
  | some b =>
    let off := b.fill
    let copies := us.zipIdx.map fun x => copiedUnit (BitVec.ofNat 8 (redone + 1)) us.length (off + x.2) x.1
    let s := updateSb dst (fun b => sendRows (appendUnits copies b)) s
    let s := { s with map := { s.map with gcBytes := s.map.gcBytes + us.length * 4096 } }
    if good then remapCopy src us dst off s else addMove ⟨src, dst, redone + 1⟩ s

/-- The valid units of a superblock are placed from offset 0 in a target granted for them after its blank check,
programmed and mapped; the target closes (R195, R197, R198). -/
def moveInto (good : Bool) (halfErased : List BlankFound) (src dst : Superblock) (s : State) : State :=
  let n := dst.number
  let s := blankCheck n halfErased s
  let s := updateSb n (fun b => { b with
    state := .granted, usable := true, leftOut := membersOut s (groupOf n), grantUtc := utcSeconds s.clk.utc
    openedUs := s.clk.us }) s
  let s := ledgerFlush (appendSlot (.grant (lastIssued s) n true (s.clk.utc.getD 0)) s)
  let redone := redoneOf s src.number
  let s := { s with map := { s.map with moves := s.map.moves.filter fun m => m.src != src.number } }
  let units := copyUnits s src
  let s := (copiesOf units).foldl (fun s us => copyInto good redone src.number n us s) s
  let s := finishRows n (closeSb n s)
  let s := match units.head? with
    | some u => if good then s else logBadCopy src u s
    | none => s
  freeIfEmpty src.number s

/-- R197: the coldest superblock of a group moves into the most worn one. -/
def execStaticWearLevel (group : Fin 32) (halfErased : List BlankFound) (readBackOk : Bool) (s : State) : Result :=
  .next (
    let g := group.val
    match coldest s g, mostWorn s g with
    | some src, some dst =>
      if mayMove s g then
        let s := moveInto readBackOk halfErased src dst s
        { s with map := { s.map with staticMoves := (g, s.clk.us) :: s.map.staticMoves.filter fun m => m.1 != g } }
      else s
    | _, _ => s)

end Sys2Proof.Machine
end

