-- ==== Sys2Proof/Machine/Power.lean ====
section
/-! DEFINITION. POWER_SET_STATE, entry into power states, wake events, PLL and crystal failures (R320 to R331). -/

namespace Sys2Proof.Machine

/-- Lorard depth, wake sources and timer wake of a request are in force at once (R326). -/
def requestPower (k wake timer : Nat) (s : State) : State :=
  { s with pwr := { s.pwr with depthLorard := k, wakeSources := BitVec.ofNat 8 wake, timerWake := timer } }

/-- What a cancelled POWER_SET_STATE puts back: the depth, wake sources and timer wake before it. -/
def powerBefore (s : State) : Nat := s.pwr.depthLorard + 8 * s.pwr.wakeSources.toNat + 2048 * s.pwr.timerWake

/-- R47, R139, R326. -/
def execPowerSetState (m : Fin 16) (s : State) : Result :=
  .next (serve m.val 0x0020 (fun s =>
    let k := reqField s m.val 8 1
    let wake := reqField s m.val 9 1
    let timer := reqField s m.val 12 4
    if 2 ≤ k ∧ s.link.state ≠ .down then respond m.val stWrongState [] s
    else
      let begin_ (_ : BitVec 32) (s : State) : State := settlePowerSet (boundPower (requestPower k wake timer s))
      accept m.val 0x0020 (opLive s 0x0020) k (powerBefore s) false begin_ s) s)

/-- The device gates for P4: POWER_SET_STATE completes, then every domain but Cardamom is off (R323, R326, R329). -/
def gateForP4 (s : State) : State :=
  let s := completePowerSet stOk 4 s
  let s := gateMedia s
  { s with
    life := { s.life with phase := .p4 }
    pwr := { s.pwr with state := 4, entering := false, background := false, perstSeen := !s.life.perstN }
    dram := { s.dram with channels := s.dram.channels.map fun c => { c with state := .off } } }

/-- R324, R325: the deepest state whose conditions hold is entered, and P1 or P2 is left for work that is due; P4
first makes CLEAN the ledger's last slot, and gates once it is durable. -/
def execPowerStateEntry (s : State) : Result :=
  .next (
    let s := updateBackground s
    let k := targetState s
    if k = 0 ∧ 0 < s.pwr.state ∧ s.pwr.state ≤ 2 ∧ worksFirst s = true then updateBackground (leaveState s)
    else if k ≤ s.pwr.state then s
    else if k < 4 then enterState k s
    else if s.pwr.entering = false then beginP4 s
    else if ledgerClean s then gateForP4 s
    else s)

/-- R326: the state was not reached within 1 s; the depth stays set. -/
def execPowerSetStateTimeout (s : State) : Result := .next (completePowerSet stWrongState s.pwr.state s)

/-- R327: P1 to P3 resume; P4 wakes on the sources enabled. -/
def execWakeEvent (src : WakeSource) (s : State) : Result :=
  .next (
    match s.life.phase with
    | .service => resumeP0 s
    | .p4 =>
      match src with
      | .i3c => if s.pwr.wakeSources.getLsbD 1 then wakeFromP4 false s else s
      | .perst =>
        if s.pwr.perstSeen && s.pwr.wakeSources.getLsbD 0 then
          wakeFromP4 true { s with life := { s.life with perstN := true } }
        else s
      | _ => s
    | _ => s)

/-- R326, R327, R331: the timer wake of P2, P3 and P4, and of an entry to P4 that it abandons; a slot that holds another
deadline makes it move to the next one. -/
def execTimerWake (slotBusy : Bool) (s : State) : Result :=
  .next (
    if slotBusy || s.pwr.timerWake == 0 then s
    else
      match s.life.phase with
      | .service =>
        if s.pwr.entering || decide (2 ≤ s.pwr.state) then
          resumeP0 { s with pwr := { s.pwr with timerWake := 0 } }
        else s
      | .p4 => if s.pwr.wakeSources.getLsbD 2 then wakeFromP4 false s else s
      | _ => s)

/-- R327: the 100 ms of WAKE_N end. -/
def execWakeNRelease (s : State) : Result := .next { s with pwr := { s.pwr with wakeN := false } }

/-- R322: a fault of Cardamom; PLL0, PLL1 and PLL5 escalate to the hub reset. -/
def execPllLockFailure (pll : Fin 8) (s : State) : Result :=
  .next (
    if s.life.phase ≠ .service then s
    else
      let u := blockUnit 0x26
      let bit := BitVec.ofNat 8 (2 ^ pll.val)
      let s := { s with pwr := { s.pwr with pllBad := s.pwr.pllBad ||| bit, pllFail := s.pwr.pllFail ||| bit } }
      if corePll pll.val then hubReset 0 u s else startTest u 0 s)

/-- R240, R320: XTAL_FAIL is set and wall-clock time is unknown until the next SET_TIME. -/
def execCrystalFailure (s : State) : Result :=
  .next (if s.life.phase = .off then s else { s with clk := { s.clk with xtalFail := true, utc := none } })

end Sys2Proof.Machine
end

