-- ==== Sys2Proof/Machine/PowerLoss.lean ====
section
/-! DEFINITION. PLD_N, the power-loss sequence and power-off (R166, R333, R340, R365, R437). -/

namespace Sys2Proof.Machine

/-- A hub-like restart after the power-loss sequence when input power has returned, or the full start of RESET_N (R340,
R344). -/
def restartAfterLoss (s : State) : State := if s.life.lossByReset then start .resetN s else start .hub s

/-- R340, R437: a low level of 200 ns starts the power-loss sequence. In P4 the CLEAN slot is durable and nothing is
left to flush; in the recovery state nothing has been accepted. -/
def execPldNAssert (ns : Nat) (s : State) : Result :=
  .next (
    if ns < 200 then s
    else
      let s := { s with life := { s.life with pldN := false } }
      match s.life.phase with
      | .service => startLoss 0 s
      | .haltFlush => startLoss 0 s
      | .p4 => startLoss 0 s
      | .recovery => startLoss 0 s
      | _ => s)

/-- The flush of steps 6 to 8: the writes within the protected limit, the ledger, then further writes in order; joined
with a thermal halt it ends with the limit, or with as many writes as were begun when 120 °C was reached (R340, R365).
-/
def lossFlush (suppliesFailed : Bool) (extra : Nat) (s : State) : State :=
  let due := limitWrites s
  if s.thm.level = .halted then
    ledgerFlush (flushWrites (if s.thm.over120 then due.take extra else due) s)
  else
    let s := ledgerFlush (flushWrites due s)
    let rest := unwritten s
    ledgerFlush (flushWrites (if suppliesFailed then rest.take extra else rest) s)

/-- R340 step 9 and what follows: with the supplies gone, the device is off; where a thermal halt ran with it, halted; a
RESET_N cause or returned input power restarts it; else it waits. -/
def execPowerLossFlushEnd (suppliesFailed : Bool) (extra : Nat) (s : State) : Result :=
  .next (
    if s.life.phase ≠ .lossFlush then s
    else
      let s := writeLastWords (lossFlush suppliesFailed extra s)
      let s := { s with life := { s.life with phase := .lossDone } }
      if suppliesFailed then s
      else if s.thm.level = .halted ∧ s.life.lossByReset = false then
        { s with life := { s.life with phase := .halted }, nv := { s.nv with cfs := true, rdy := false } }
      else if s.thm.level = .halted ∧ 1000 ≤ s.thm.temp then
        { s with life := { s.life with phase := .halted, resetN := false } }
      else if s.life.pldN then restartAfterLoss s
      else s)

/-- R340, R437: PLD_N rises. A held reset is released, and power-up counts from here; a finished power-loss sequence
lets the device restart. -/
def execPldNDeassert (s : State) : Result :=
  .next (
    let s := { s with life := { s.life with pldN := true } }
    match s.life.phase with
    | .inReset =>
      if s.life.resetN && s.board.isSome then start (if s.life.lossByReset then .resetN else .fresh) s else s
    | .lossDone => restartAfterLoss s
    | .halted => if s.life.resetN = false ∧ s.thm.temp < 1000 then start .resetN s else s
    | _ => s)

/-- R333: a supply other than VDD_AON is gone. What DRAM, SRAM and the logic held is lost, and of the ledger's slots
those not durable; what flash and Nutmeg hold stays. The port's opening is remembered until the next start draws new
keys (R406). -/
def execPowerOff (s : State) : Result :=
  .next (
    if s.life.phase = .off then s
    else
      let t := resetBase .fresh s
      { t with
        evr := { t.evr with
          lwdCause := s.evr.lwdCause, lwdCause2 := s.evr.lwdCause2, lwdTime := s.evr.lwdTime
          lwdHubResets := s.evr.lwdHubResets, lwdMode := s.evr.lwdMode, lwdUnit := s.evr.lwdUnit
          lwdSeq := s.evr.lwdSeq, lwdRecords := s.evr.lwdRecords }
        life := { t.life with phase := .off, resetN := false, powerUps := s.life.powerUps } })

end Sys2Proof.Machine
end

