-- ==== Sys2Proof/Machine/Recovery.lean ====
section
/-! DEFINITION. Clove faults and warm recovery (R33, R165, R166, R402). -/

namespace Sys2Proof.Machine

/-- R165, R166, R348. -/
def execCloveFault (core : Fin 4) (s : State) : Result := .next (cloveFaultOn core.val s)

/-- The core a stop's RECOVERY_DONE names: the faulted one, Clove core 0 after an activation (R389). -/
def stopUnit (c : CloveStop) : UnitId := blockUnit (0x20 + if c.activation then 0 else c.core)

/-- Commands the queue engine has fetched and holds (R33, R388). -/
def heldCommands (s : State) : Nat := s.nv.cmds.countP fun c => c.stage == .fetched

/-- RECOVERY_DONE (R388). -/
def logRecovery (c : CloveStop) (ms : Nat) (s : State) : State :=
  logEvent 0x0E03 (stopUnit c)
    (evData [(1, flag c.activation), (1, if c.activation then 0xFF else c.core), (2, sat 16 ms), (4, heldCommands s)]) s

/-- An activated image runs: anti-rollback is burned up to its level, FW_ACTIVATED logged, the handle or the NVMe
command completes (R399, R402). -/
def finishActivation (c : CloveStop) (s : State) : State :=
  let s := burnLevel (runSlot c.newSlot s)
  let s := logEvent 0x0C02 (blockUnit 0x20) (evData [(4, s.sec.version), (4, c.previousVersion)]) s
  let s := completeSome c.handle stOk (ringData [(4, s.sec.version)]) s
  match c.nvmeCid with
  | some cid => completeOk 0 cid s
  | none => s

/-- Completions held by the stop are posted (R33). -/
def releaseCompletions (s : State) : State :=
  s.nv.held.foldl (fun s e => cqPost e.1 e.2 s) { s with nv := { s.nv with held := [] } }

/-- R33, R136, R165, R371, R402: firmware is back. Its instruction memory has been written anew, the verdicts of tests
are taken, latched requests are checked and commands go on. -/
def execRecoveryDone (ms : Nat) (s : State) : Result :=
  .next (
    match s.life.stop with
    | none => s
    | some c =>
      if s.life.phase ≠ .service then s
      else
        let s := logRecovery c ms s
        let s := { s with life := { s.life with stop := none }, nor := { s.nor with xo := false } }
        let s := (List.range 8).foldl (fun s b => bankWritten b 0 s) (rewriteBanks (· < 8) s)
        let s := if c.activation then finishActivation c s else s
        let s := serveLatched (takeVerdicts s)
        updateGc (retryReads (fetchAll (releaseCompletions s))))

/-- R166: 1 s without RECOVERY_DONE. -/
def execWarmRecoveryTimeout (s : State) : Result :=
  .next (
    match s.life.stop with
    | some c => if s.life.phase = .service then hubReset 0x0E03 (stopUnit c) s else s
    | none => s)

end Sys2Proof.Machine
end

