-- ==== Sys2Proof/Machine/PcieSpace.lean ====
section
/-! DEFINITION. What the function offers and the registers of its NVMe, MSI-X and configuration spaces as the host
reads them (R89 to R93). Offsets of NVMe registers other than CAP, and the whole configuration space but the places
R91 gives, are those of the NVMe and PCIe base specifications (log entries 16 and 173). -/

namespace Sys2Proof.Machine

/-! ## What is offered (R89) -/

/-- Optional capabilities of the table of R89. -/
inductive PcieCapability where
  | advancedErrorReporting | ecrc | functionLevelReset | aspmL1 | aspmL0s | l1Substates | latencyToleranceReporting
  | relaxedOrdering | d3hot | msix | msi | intx | srIov | ats | pri | pasid | resizableBar | tph | ide
deriving DecidableEq, Repr

/-- Whether the function offers a capability. -/
def PcieCapability.offered : PcieCapability → Bool
  | .aspmL0s | .intx | .srIov | .ats | .pri | .pasid | .resizableBar | .tph | .ide => false
  | .advancedErrorReporting | .ecrc | .functionLevelReset | .aspmL1 | .l1Substates | .latencyToleranceReporting
  | .relaxedOrdering | .d3hot | .msix | .msi => true

/-- Largest payload and read request in bytes, MSI-X and MSI vectors, tag bits at 64 GT/s and below (R89). -/
structure PcieLimits where
  payload : Nat
  readRequest : Nat
  msixVectors : Nat
  msiVectors : Nat
  tagBits64 : Nat
  tagBitsLower : Nat
deriving DecidableEq, Repr

/-- The limits of the table of R89. -/
def pcieLimits : PcieLimits := ⟨512, 4096, 2048, 1, 14, 10⟩

/-! ## NVMe registers (R92, R93, R115, R116) -/

/-- CAP (R93). -/
def capabilities : Nat :=
  packBits [(16, 0x0FFF), (1, 1), (2, 1), (5, 0), (8, 0x14), (4, 0), (1, 0), (8, 0x01), (1, 0), (2, 0), (4, 0), (4, 4),
    (1, 0), (1, 0), (1, 0), (2, 1), (3, 0)]

/-- CSTS: RDY, CFS and SHST (R115, R116, R349). -/
def controllerStatus (s : State) : Nat := packBits [(1, flag s.nv.rdy), (1, flag s.nv.cfs), (2, s.nv.shst)]

/-- The word at an aligned offset of the NVMe register space. What a read of a doorbell returns is free; CMBLOC, CMBSZ,
BPINFO, PMRCAP, NSSR and offsets of no register read as zero (R92). -/
def nvmeWord (s : State) (o : Nat) : Nat :=
  if 0x1000 ≤ o ∧ o < 0x5000 then Config.choice s.free % 2 ^ 32
  else
    match o with
    | 0x00 => capabilities % 2 ^ 32
    | 0x04 => capabilities / 2 ^ 32
    | 0x08 => 0x00020000
    | 0x14 => s.nv.cc.toNat
    | 0x1C => controllerStatus s
    | 0x24 => s.nv.aqa.toNat
    | 0x28 => s.nv.asq.toNat % 2 ^ 32
    | 0x2C => s.nv.asq.toNat / 2 ^ 32
    | 0x30 => s.nv.acq.toNat % 2 ^ 32
    | 0x34 => s.nv.acq.toNat / 2 ^ 32
    | _ => 0

/-! ## The MSI-X table space (R91) -/

/-- A byte of the MSI-X table space: the table, then the pending bits. -/
def msixSpaceByte (s : State) (o : Nat) : Byte :=
  if o < 0x8000 then msixByte s o
  else if o < 0x8100 then
    BitVec.ofNat 8 (packFlags ((List.range 8).map fun i => s.nv.pba.contains (8 * (o - 0x8000) + i)))
  else 0

/-- Pending vectors that are no longer masked send their messages (R91; PCIe base, log entry 173). -/
def sendPending (s : State) : State :=
  let due := if s.nv.msixEnabled && !s.nv.msixMasked then s.nv.pba.filter fun v => !vectorMasked s v else []
  due.foldl (fun s v => emit (.msix v) s) { s with nv := { s.nv with pba := s.nv.pba.filter fun v => !due.contains v } }

/-! ## Configuration space (R89 to R91) -/

/-- Sizes in bytes of the three memory spaces (R91). -/
def spaceSizes : List Nat := [0x8000, 0x4000000, 0x10000]

/-- Base address register `k` as it reads: 64-bit, not prefetchable, the bits below the space's size zero. -/
def barValue (s : State) (k : Nat) : Nat :=
  let size := spaceSizes.getD k 1
  (s.nv.bars.getD k 0).toNat / size * size + 4

/-- The word at an aligned offset of configuration space: IDs, class code 0x01_0802 and revision (R90), the base
addresses at 0x10, 0x18 and 0x20 (R91), and the MSI and MSI-X capabilities (R89), which stand at 0x50 and 0x70. -/
def configWord (s : State) (o : Nat) : Nat :=
  match o with
  | 0x00 => packBits [(16, 0x1F5E), (16, 0x9256)]
  | 0x04 => packBits [(16, 0), (16, 0x0010)]
  | 0x08 => packBits [(8, 0x11), (24, 0x010802)]
  | 0x10 => barValue s 0 % 2 ^ 32
  | 0x14 => barValue s 0 / 2 ^ 32
  | 0x18 => barValue s 1 % 2 ^ 32
  | 0x1C => barValue s 1 / 2 ^ 32
  | 0x20 => barValue s 2 % 2 ^ 32
  | 0x24 => barValue s 2 / 2 ^ 32
  | 0x2C => packBits [(16, s.reg.subVendor.toNat), (16, s.reg.subSystem.toNat)]
  | 0x34 => 0x50
  | 0x50 => packBits [(8, 0x05), (8, 0x70), (1, flag s.nv.msiEnabled), (6, 0), (1, 1), (8, 0)]
  | 0x54 => s.nv.msiAddress.toNat % 2 ^ 32
  | 0x58 => s.nv.msiAddress.toNat / 2 ^ 32
  | 0x5C => s.nv.msiData.toNat
  | 0x70 => packBits [(8, 0x11), (8, 0), (11, 2047), (3, 0), (1, flag s.nv.msixMasked), (1, flag s.nv.msixEnabled)]
  | 0x74 => 0x00000004
  | 0x78 => 0x00008004
  | _ => 0

/-- A 32-bit half of a 64-bit register. -/
def setHalf (high : Bool) (v : Nat) (r : Word64) : Word64 :=
  if high then BitVec.ofNat 64 (r.toNat % 2 ^ 32 + v % 2 ^ 32 * 2 ^ 32)
  else BitVec.ofNat 64 (r.toNat / 2 ^ 32 * 2 ^ 32 + v % 2 ^ 32)

/-- A write of a word of configuration space. -/
def writeConfigWord (o v : Nat) (s : State) : State :=
  if 0x10 ≤ o ∧ o < 0x28 then
    { s with nv := { s.nv with bars := s.nv.bars.modify ((o - 0x10) / 8) (setHalf (decide (o % 8 = 4)) v) } }
  else
    match o with
    | 0x50 => { s with nv := { s.nv with msiEnabled := v.testBit 16 } }
    | 0x54 => { s with nv := { s.nv with msiAddress := setHalf false (v / 4 * 4) s.nv.msiAddress } }
    | 0x58 => { s with nv := { s.nv with msiAddress := setHalf true v s.nv.msiAddress } }
    | 0x5C => { s with nv := { s.nv with msiData := BitVec.ofNat 16 v } }
    | 0x70 => sendPending { s with nv := { s.nv with msixMasked := v.testBit 30, msixEnabled := v.testBit 31 } }
    | _ => s

/-- A write of 1, 2 or 4 aligned bytes of configuration space. -/
def writeConfig (offset width : Nat) (value : Nat) (s : State) : State :=
  if (width = 1 ∨ width = 2 ∨ width = 4) ∧ offset % width = 0 then
    let o := offset / 4 * 4
    let old := leBytes 4 (configWord s o)
    let new := old.take (offset % 4) ++ leBytes width value ++ old.drop (offset % 4 + width)
    writeConfigWord o (leNat new) s
  else s

/-- Phases in which the function's memory and configuration are read: after step 4 of a start until the device is off
(R349, R412). -/
def functionReadable (s : State) : Bool :=
  s.life.perstN && [Phase.service, .recovery, .lossFlush, .haltFlush, .halted].contains s.life.phase

/-- The byte of a space other than the DRS. -/
def spaceByte (space : Space) (s : State) (o : Nat) : Byte :=
  match space with
  | .msix => msixSpaceByte s o
  | .config => BitVec.ofNat 8 (configWord s (o / 4 * 4) / 2 ^ (8 * (o % 4)))
  | _ => BitVec.ofNat 8 (nvmeWord s (o / 4 * 4) / 2 ^ (8 * (o % 4)))

/-- A read of a space other than the DRS: its bytes, or Unsupported Request (R8, R92, R412). -/
def readSpace (space : Space) (o width : Nat) (s : State) : State :=
  if functionReadable s then
    drawn (emit (.regRead o (BitVec.ofNat 64 (leNat ((List.range width).map fun i => spaceByte space s (o + i))))) s)
  else emit (.unsupported o) s

/-! ## Relaxed Ordering (R96) -/

/-- The Relaxed Ordering attribute of the memory writes an output stands for: set for read data, clear for messages. -/
def relaxedOrdering : Out → Option Bool
  | .hostUnits _ _ _ => some true
  | .msix _ => some false
  | .msi _ _ => some false
  | _ => none

/-- The attribute of the write of a completion entry. -/
def entryRelaxed : Bool := false

end Sys2Proof.Machine
end

