-- ==== Sys2Proof/Machine/Registers.lean ====
section
/-! DEFINITION. Register reads and writes (R8, R91, R92, R410 to R420). -/

namespace Sys2Proof.Machine

/-- R8, R91 to R93, R412, R414: the register's value; an aligned 32-bit read over PCIe of the DRS clears its RC
fields. The debug port reaches the DRS only. -/
def execRcRegisterRead (space : Space) (port : ReadPort) (offset width : Nat) (s : State) : Result :=
  .next (
    match space, port with
    | .drs, _ => readDrs port offset width s
    | _, .pcie => readSpace space offset width s
    | _, .debug => s)

/-- R416. -/
def execWideLoRead (port : ReadPort) (utc : Bool) (s : State) : Result :=
  .next (readDrs port (if utc then 0x40 else 0x38) 4 s)

/-- R416. -/
def execWideHiRead (port : ReadPort) (utc : Bool) (s : State) : Result :=
  .next (readDrs port (if utc then 0x44 else 0x3C) 4 s)

/-- R420. -/
def execIdSubsysWrite (value : BitVec 32) (s : State) : Result :=
  .next (if s.life.phase = .service then writeSubsys value (wakeByAccess s) else s)

/-- R341, R417. -/
def execPwrPllFailClear (value : BitVec 32) (s : State) : Result :=
  .next (if s.life.phase = .service then clearPllFail value (wakeByAccess s) else s)

/-- A write of CC: EN rises, EN falls, SHN is set, or other fields change (R115, R116). -/
def writeCc (value : Word32) (s : State) : State :=
  if value.getLsbD 0 ≠ s.nv.cc.getLsbD 0 then ccDisable value (ccEnable value s)
  else if value.getLsbD 0 && field value.toNat 14 2 != 0 && s.nv.shst == 0 then ccShutdown value s
  else { s with nv := { s.nv with cc := value &&& ccMask } }

/-- A controller register by offset; every other one is read-only or has its own commands (R92; offsets of log entry
16). -/
def writeController (offset width : Nat) (value : BitVec 64) (s : State) : State :=
  let v := value.toNat
  if width = 8 ∧ offset = 0x28 then { s with nv := { s.nv with asq := value } }
  else if width = 8 ∧ offset = 0x30 then { s with nv := { s.nv with acq := value } }
  else if width ≠ 4 ∨ offset % 4 ≠ 0 then s
  else
    match offset with
    | 0x14 => writeCc (BitVec.ofNat 32 v) s
    | 0x24 => { s with nv := { s.nv with aqa := BitVec.ofNat 32 v } }
    | 0x28 => { s with nv := { s.nv with asq := setHalf false v s.nv.asq } }
    | 0x2C => { s with nv := { s.nv with asq := setHalf true v s.nv.asq } }
    | 0x30 => { s with nv := { s.nv with acq := setHalf false v s.nv.acq } }
    | 0x34 => { s with nv := { s.nv with acq := setHalf true v s.nv.acq } }
    | _ => s

/-- A word of the MSI-X table; the pending-bit array is read-only (R91). A vector unmasked by it sends a pending
message. -/
def writeMsix (offset width : Nat) (value : BitVec 64) (s : State) : State :=
  if width = 4 ∧ offset % 4 = 0 ∧ offset < 0x8000 then
    let stored := value.toNat ^^^ (if offset % 16 = 12 then 1 else 0)
    sendPending { s with nv := { s.nv with msix := memSplice s.nv.msix offset (leBytes 4 stored) } }
  else s

/-- R8, R411, R417: a naturally aligned 32-bit write changes the field the offset and the path reach, any other is
discarded. Over I3C only its window is reached (R128). -/
def execRegisterWrite (space : Space) (path : Path) (offset width : Nat) (value : BitVec 64) (s : State) : Result :=
  .next (
    match space with
    | .drs =>
      if width ≠ 4 ∨ offset % 4 ≠ 0 then s
      else
        match path with
        | .pcie => writeDrs .pcie offset (BitVec.ofNat 32 value.toNat) s
        | .i3c =>
          if (0x1000 ≤ offset ∧ offset < 0x1800) ∨ (0x18000 ≤ offset ∧ offset < 0x18010) then
            i3cAddressed (writeDrs .i3c offset (BitVec.ofNat 32 value.toNat)) s
          else s
    | .nvme => if nvmeReachable s && path == .pcie then writeController offset width value s else s
    | .msix => if nvmeReachable s && path == .pcie then writeMsix offset width value s else s
    | .config => if functionLive s && path == .pcie then writeConfig offset width value.toNat s else s)

end Sys2Proof.Machine
end

