-- ==== Sys2Proof/Machine/Ring.lean ====
section
/-! DEFINITION. The completion ring's registers as each consumer writes them (R132, R134, R135). -/

namespace Sys2Proof.Machine

/-- The ring registers take writes: in service (R412). -/
def ringWritable (s : State) : Bool := s.life.phase == .service

/-- R134, R135. -/
def execCrgHeadPcieWrite (value : BitVec 32) (s : State) : Result :=
  .next (if ringWritable s then writeHeadPcie value (wakeByAccess s) else s)

/-- R134, R135. -/
def execCrgHeadI3cWrite (value : BitVec 32) (s : State) : Result :=
  .next (if ringWritable s && s.i3c.addr.isSome then writeHeadI3c value (wakeByAccess s) else s)

/-- R132, R134. -/
def execCrgPcieEnable (s : State) : Result :=
  .next (if ringWritable s then notify (refillRing (setPcieEn true (wakeByAccess s))) else s)

/-- R132, R134. -/
def execCrgI3cEnable (s : State) : Result :=
  .next (if ringWritable s && s.i3c.addr.isSome then notify (refillRing (setI3cEn true (wakeByAccess s))) else s)

/-- R132: either path clears it. -/
def execCrgOverflowClear (path : Path) (s : State) : Result :=
  .next (if ringWritable s && (path == .pcie || s.i3c.addr.isSome) then clearOverflow (wakeByAccess s) else s)

end Sys2Proof.Machine
end

