-- ==== Sys2Proof/Machine/Security.lean ====
section
/-! DEFINITION. Media keys, secure discard, firmware staging and activation, the debug port, the DRBG (R391 to R407). -/

namespace Sys2Proof.Machine

/-! ## Keys (R394, R395) -/

/-- A namespace holds data: a segment of it is mapped or overlaid, or an accepted write gives it units. -/
def holdsData (s : State) (n : Namespace) : Bool :=
  (s.map.segments.any fun e =>
      decide (n.base ≤ e.seg) && decide (e.seg < n.base + n.size) && (e.mapped || e.overlaid)) ||
    s.ord.accepted.any fun w => w.ns == n.id && !w.units.isEmpty

/-- KEY_SET or KEY_ZEROIZE is live (R139). -/
def keyLive (s : State) : Bool := opLive s 0x0070 || opLive s 0x0071

/-- A key procedure goes on: past its cancel point, or through it, which takes `k` sequence numbers and random values;
`finish` is what the writing of the store ends with (R391, R394, R395). -/
def keyStep (h : Handle) (k : Nat) (begin_ finish : State → State) (step : KeyStep) (s : State) : State :=
  let rest (s : State) : State := match step with
    | .replaced => s
    | .stored => finish s
  if h.past then rest s
  else if s.sec.drbgOn = false then completeHandle h.value stInternal 0 s
  else needNumbers k (fun s => rest (begin_ (passCancel h.value s))) s

/-- R394: the request is checked; the key is replaced at the cancel point. -/
def execKeySet (m : Fin 16) (s : State) : Result :=
  .next (serve m.val 0x0070 (fun s =>
    let id := reqField s m.val 8 1
    let confirm := (reqField s m.val 9 1).testBit 0
    match findNs s id with
    | none => respond m.val stBadParam [] s
    | some n =>
      if holdsData s n && !confirm then respond m.val stWrongState [] s
      else if streamBound s [id] then respond m.val stWrongState [] s
      else if s.sec.drbgOn = false then respond m.val stInternal [] s
      else
        accept m.val 0x0070 (keyLive s) id 0 false (fun _ s => s) s) s)

/-- R140, R394: the epoch is raised, the new key loaded, older buffered writes dropped; then the store is written. -/
def execKeySetDone (step : KeyStep) (s : State) : Result :=
  .next (
    match liveOp s 0x0070 with
    | none => s
    | some h =>
      if serving s then
        keyStep h 1 (fun s => drawKey h.subject (newEpoch h.subject 2 s))
          (fun s => completeHandle h.value stOk (ringData [(4, lastGeneration s h.subject)]) (storeKeys s)) step s
      else s)

/-- Namespaces a KEY_ZEROIZE names: one, or all (R395). -/
def zeroizeScope (s : State) (all ns : Nat) : List Nat := if all = 1 then s.nv.namespaces.map (·.id) else [ns]

/-- R395: the request is checked. -/
def execKeyZeroize (m : Fin 16) (s : State) : Result :=
  .next (serve m.val 0x0071 (fun s =>
    if s.sec.drbgOn = false then respond m.val stInternal [] s
    else accept m.val 0x0071 (keyLive s) (reqField s m.val 8 1) (reqField s m.val 9 1) false (fun _ s => s) s) s)

/-- R395: steps 1 to 3 at the cancel point, then steps 4 and 5. -/
def execKeyZeroizeDone (step : KeyStep) (s : State) : Result :=
  .next (
    match liveOp s 0x0071 with
    | none => s
    | some h =>
      if serving s then
        let ids := zeroizeScope s h.subject h.aux
        keyStep h ids.length (replaceKeys ids (h.subject == 1))
          (fun s => completeHandle h.value stOk 0 (eraseOlderStore (storeKeys s))) step s
      else s)

/-! ## Secure discard (R203, R407) -/

/-- The range overlaps a window of a stream that is not CLOSED. -/
def meetsWindow (s : State) (ns lba len : Nat) : Bool :=
  s.str.list.any fun x => x.state != .closed && x.ns == ns &&
    (x.dataWindows ++ x.indexWindows).any fun w => decide (lba < w.start + w.length) && decide (w.start < lba + len)

/-- The record of a SECURE_DISCARD waits for W7 (R144, R203). -/
def discardWrite (ns lba len : Nat) (v : BitVec 32) : Write where
  seq := 0
  kind := .secureDiscard
  src := .discard v
  ns := ns
  lba := lba
  len := len
  more := []
  units := []
  fua := false
  ordered := false
  cmd := none
  places := []
  programmed := false
  applied := false
  serial := 0
  latched := false
  recorded := false

/-- R407. -/
def execSecureDiscard (m : Fin 16) (s : State) : Result :=
  .next (serve m.val 0x0072 (fun s =>
    let ns := reqField s m.val 8 1
    let lba := reqField s m.val 12 8
    let len := reqField s m.val 20 8
    match findNs s ns with
    | none => respond m.val stBadParam [] s
    | some n =>
      if n.size * 256 < lba + len then respond m.val stBadParam [] s
      else if meetsWindow s ns lba len then respond m.val stWrongState [] s
      else
        let begin_ (v : BitVec 32) (s : State) : State :=
          { s with ord := { s.ord with waiting := s.ord.waiting ++ [.write (discardWrite ns lba len v)] } }
        accept m.val 0x0072 (opLive s 0x0072) ns len false begin_ s) s)

/-- Buffered copies of the range older than the record are zeros (R407 step 3). -/
def zeroBuffered (d : Discard) (s : State) : State :=
  let clean (w : Write) : Write :=
    if w.ns = d.ns ∧ w.seq < d.seq then
      { w with units := w.units.mapIdx fun k u =>
        if d.lba ≤ w.lba + k ∧ w.lba + k < d.lba + d.len then zeroUnit else u }
    else w
  { s with ord := { s.ord with accepted := s.ord.accepted.map clean } }

/-- A discard under way changes, or ends where `f` gives none. -/
def updateDiscard (d : Discard) (f : Discard → Option Discard) (s : State) : State :=
  { s with sec := { s.sec with discards := s.sec.discards.filterMap fun x => if x.seq = d.seq then f x else some x } }

/-- The command completes; its slot is dropped at the next compaction (R190, R203). -/
def endDiscard (d : Discard) (status : BitVec 16) (s : State) : State :=
  completeHandle d.handle status (ringData [(4, d.erased), (8, d.moved)]) (updateDiscard d (fun _ => none) s)

/-- Steps 2, 4 and 5 of R407 for up to `erases` collected superblocks; CAPACITY when a relocation found no place. -/
def eraseSome (d : Discard) (erases : Nat) (good : Bool) (s : State) : State :=
  let due := (discardHolders s d).take erases
  let t := due.foldl (fun s n => eraseCollected good n s) s
  let left := due.filter fun n => (discardHolders t d).contains n
  let d := { d with folded := true, erased := d.erased + (due.length - left.length), moved := d.moved + (t.map.gcBytes - s.map.gcBytes) }
  if good = true ∧ left ≠ [] then endDiscard d stCapacity t
  else if discardHolders t d = [] then endDiscard d stOk t
  else updateDiscard d (fun _ => some d) t

/-- The steps of R407: the superblocks are closed, the buffered copies zeroed, the segments folded, then superblocks
erased. -/
def runDiscard (d : Discard) (erases : Nat) (good : Bool) (s : State) : State :=
  let s := zeroBuffered d (closeHolders (discardedUnit d) s)
  match if d.folded then some s else foldDiscard d s with
  | none => endDiscard d stCapacity s
  | some s => eraseSome d erases good s

/-- The record of a discard is durable and in the map (R157, R161, R203). -/
def discardRecorded (s : State) (d : Discard) : Bool :=
  s.ord.accepted.all fun w => w.seq != d.seq || (w.applied && durable s w)

/-- R157, R203, R407: the oldest discard whose record is durable and in the map goes on, and completes once no
superblock is left to erase; after a power loss it runs again from its kept slot, with no handle. -/
def execSecureDiscardDone (erases : Nat) (readBackOk : Bool) (s : State) : Result :=
  .next (
    match s.sec.discards with
    | [] => s
    | d :: _ =>
      if serving s && s.life.mapReady && discardRecorded s d && (d.folded || discardClear s d) then
        needNumbers (if d.folded then 0 else (discardSegments s d).length) (runDiscard d erases readBackOk) s
      else s)

/-! ## Firmware (R349, R398 to R402) -/

/-- A command that the boot firmware serves too. -/
def bootServe (m : Nat) (op : BitVec 16) (body : State → State) (s : State) : State :=
  if (serving s || recoveryServing s m) && waitsFor s m op then body s else s

/-- Staging is under way; nothing is erased yet (R400, R401). -/
def beginStage (k : Nat) (_ : BitVec 32) (s : State) : State :=
  { s with sec := { s.sec with staging := some k, staged := 0 } }

/-- Sectors a staging writes first: the slot's, or those of boot-stage copy 1 (R401). -/
def stageSectors (k : Nat) : List Nat := if k = 3 then (List.range 8).map (· + 8) else slotSectors k

/-- The first erase begins, which passes the cancel point (R140); then `written` bytes of the image are in place
(R130). -/
def stageGoesOn (h : Handle) (k written : Nat) (s : State) : State :=
  let sectors := stageSectors k
  let s := if h.past then s else passCancel h.value (startErase (sectors.headD 0) (protect sectors false s))
  { s with sec := { s.sec with staged := written } }

/-- R400, R401. -/
def execFwStage (m : Fin 16) (s : State) : Result :=
  .next (bootServe m.val 0x00A0 (fun s =>
    let k := reqField s m.val 8 1
    if k = s.nor.slot then respond m.val stWrongState [] s
    else accept m.val 0x00A0 (imageLive s) k (reqField s m.val 20 4) false (beginStage k) s) s)

/-- Staging of the boot stage: an image of another type or too long, one that fails R397, or both copies written
(R401). -/
def stageBoot (v : BitVec 32) (i : FwImage) (s : State) : State :=
  if i.type ≠ 1 ∨ 524288 < i.length then completeHandle v stBadParam 0 s
  else
    match imageFault s i with
    | some cause => completeHandle v stAuthFailed 0 (authFail 0 cause 3 i.version s)
    | none => completeHandle v stOk (ringData [(4, i.version)]) (writeBoot i s)

/-- Staging of a firmware slot (R400). -/
def stageSlot (k : Nat) (v : BitVec 32) (i : FwImage) (s : State) : State :=
  let s := protect (slotSectors k) true s
  match writeSlot k i s with
  | (s, true) => completeHandle v stOk (ringData [(4, i.version)]) s
  | (s, false) => completeHandle v stAuthFailed 0 s

/-- The boot stage is verified before anything is erased (R401). -/
def bootRefused (s : State) (k : Nat) (i : FwImage) : Bool :=
  k == 3 && (i.type != 1 || decide (524288 < i.length) || (imageFault s i).isSome)

/-- R130, R140, R400, R401: `written` bytes of the image are written; with all of them staging ends, verified or
invalid. -/
def execFwStageDone (image : FwImage) (written : Nat) (s : State) : Result :=
  .next (
    match s.sec.staging, liveOp s 0x00A0 with
    | some k, some h =>
      if serving s || s.life.phase == .recovery then
        if written < image.length ∧ bootRefused s k image = false then stageGoesOn h k written s
        else
          let s := { s with sec := { s.sec with staging := none, staged := 0 } }
          if k = 3 then stageBoot h.value image s else stageSlot k h.value image s
      else s
    | _, _ => s)

/-- A provisioning record in the slot is carried out, and the handle completes with the version that still runs
(R398). -/
def activateRecord (i : FwImage) (v : BitVec 32) (s : State) : State :=
  match provision i s with
  | (s, st) => completeHandle v st (ringData [(4, s.sec.version)]) s

/-- What acceptance of FW_ACTIVATE starts: a provisioning record's action; in the recovery state a start from step 1;
else the warm recovery (R349, R398, R402). -/
def beginActivate (k : Nat) (i : FwImage) (v : BitVec 32) (s : State) : State :=
  if i.type = 2 then activateRecord i v s
  else if s.life.phase = .recovery then start .resetN (storeConfig (fun c => { c with activeSlot := k }) s)
  else activate k (some v) none s

/-- R398, R402: the slot is verified again. -/
def execFwActivate (m : Fin 16) (s : State) : Result :=
  .next (bootServe m.val 0x00A1 (fun s =>
    let k := reqField s m.val 8 1
    match slotImage s k with
    | none => respond m.val stAuthFailed [] (authFail 1 0 k 0 s)
    | some i =>
      match stagedFault s i with
      | some cause => respond m.val stAuthFailed [] (authFail 1 cause k i.version s)
      | none => accept m.val 0x00A1 (imageLive s) k 0 true (beginActivate k i) s) s)

/-! ## Debug port (R403 to R406) -/

/-- R404. -/
def execDebugChallenge (m : Fin 16) (s : State) : Result :=
  .next (serve m.val 0x00B0 (fun s =>
    if s.sec.drbgOn = false then respond m.val stInternal [] s
    else
      let c := BitVec.ofNat 256 (drbgOut 32 s)
      let port := match s.sec.port with
        | .manufacture => 0
        | .field => 1
        | .opened => 2
      let s := drbgDraw 32 { s with sec := { s.sec with challenge := some (c, s.clk.us), spent := none } }
      respond m.val stOk
        (packBytes [(32, c.toNat), (16, s.nor.otp.uid.toNat), (1, s.nor.otp.debugOpen), (1, port), (2, 0)]) s) s)

/-- The challenge is still good (R404). -/
def challengeGood (s : State) : Bool := s.sec.challenge.any fun c => decide (s.clk.us ≤ c.2 + 60000000)

/-- The fields of the token, from request offset 12, are those R404 asks for. -/
def tokenOk (s : State) (m : Nat) : Bool :=
  let t (o n : Nat) : Nat := reqField s m (12 + o) n
  t 0 4 == 0x444B544E && t 4 2 == 1 && decide (t 6 1 ≤ 1) && t 7 1 == 0 && t 8 16 == s.nor.otp.uid.toNat &&
    t 24 1 == s.nor.otp.debugOpen && t 25 23 == 0

/-- The token's signature, over bytes 0 to 47 and the challenge, under its signer's key in the running image (R404). -/
def tokenSigned (s : State) (m : Nat) : Bool :=
  match runningKey s (reqField s m 18 1), s.sec.challenge with
  | some key, some c =>
    signatureVerifies key (leBytes 48 (reqField s m 12 48) ++ leBytes 32 c.1.toNat) (leBytes 96 (reqField s m 60 96))
  | _, _ => false

/-- R405: the token and the challenge are judged as the request is taken. -/
def execDebugUnlock (m : Fin 16) (s : State) : Result :=
  .next (serve m.val 0x00B1 (fun s =>
    if 32 ≤ s.nor.otp.debugOpen then respond m.val stLocked [] s
    else if s.sec.port ≠ .field then respond m.val stWrongState [] s
    else if anyStream s || s.nv.sanitize != .none || s.nv.namespaces.any (·.formatting) then
      respond m.val stWrongState [] s
    else
      let good := flag (tokenOk s m.val && challengeGood s && tokenSigned s m.val)
      let begin_ (_ : BitVec 32) (s : State) : State := { s with sec := { s.sec with challenge := none, spent := s.sec.challenge } }
      accept m.val 0x00B1 false 0 good false begin_ s) s)

/-- Steps 3 to 10 of R405. -/
def openPort (v : BitVec 32) (s : State) : State :=
  let ids := s.nv.namespaces.map (·.id)
  let held := s.sec.keys.countP (·.present)
  let s := s.sec.keys.foldl (fun s k => zeroizeKey k.ns s) s
  let s := useSalt none s
  let s := ledgerFlush (ids.foldl (fun s i => newEpoch i 3 s) s)
  let s := eraseOlderStore (storeKeys s)
  let count := s.nor.otp.debugOpen + 1
  let s := { s with nor := { s.nor with otp := { s.nor.otp with debugOpen := count } } }
  let s := logEvent 0x0C01 (blockUnit 0x24) (evData [(1, count), (1, 1), (2, held), (4, 0)]) s
  completeHandle v stOk (ringData [(1, count), (1, 2)]) { s with sec := { s.sec with port := .opened } }

/-- R404, R405: the token passes and the port opens, or AUTH_FAILED. -/
def execDebugUnlockDone (s : State) : Result :=
  .next (
    match liveOp s 0x00B1 with
    | none => s
    | some h =>
      if serving s then
        if h.aux = 1 then
          needNumbers s.nv.namespaces.length (openPort h.value) (passCancel h.value s)
        else completeHandle h.value stAuthFailed 0 (authFail 3 0 0 0 s)
      else s)

/-! ## DRBG (R391) -/

/-- R391: after 2^20 requests. -/
def execDrbgReseed (s : State) : Result :=
  .next (
    if s.sec.drbgOn ∧ 2 ^ 20 ≤ s.sec.drbgRequests then
      drawn { s with sec := { s.sec with
        drbg := drbgReseed (leBytes 48 (Config.entropy s.free).toNat) s.sec.drbg, drbgRequests := 0 } }
    else s)

/-- R391: the DRBG stops until the next power-up. -/
def execDrbgHealthFail (s : State) : Result :=
  .next (
    if s.sec.drbgOn then authFail 4 3 0 0 { s with sec := { s.sec with drbgOn := false } } else s)

end Sys2Proof.Machine
end

