-- ==== Sys2Proof/Machine/SelfTest.lean ====
section
/-! DEFINITION. Unit tests, unit status and re-admission (R137, R139, R370 to R378). -/

namespace Sys2Proof.Machine

/-- R371, R372: a test of a unit ends. Row tests and region tests that an error started have rows of their own; what
ends during a Clove stop waits for firmware. -/
def execSelfTestEnd (unit : BitVec 16) (pass : Bool) (durationUs : Nat) (s : State) : Result :=
  .next (
    match s.st.running.find? fun t => t.unit == unit with
    | none => s
    | some t =>
      if !t.demanded && (unitClass unit == 4 || unitClass unit == 7) then s
      else
        let ok := pass && !t.joined
        if s.life.stop.isSome then
          { s with st := { s.st with
            running := changeWhere (fun x => x.unit == unit) (fun x => { x with verdict := some (ok, durationUs) })
              s.st.running } }
        else judgeTest t ok durationUs (leaveTest unit s))

/-- A SELF_TEST or UNIT_READMIT of the unit is live (R139). -/
def testLive (s : State) (u : UnitId) : Bool :=
  s.hnd.live.any fun h => (h.opcode == 0x0090 || h.opcode == 0x0092) && h.subject == u.toNat

/-- The test of a Nutmeg sector reads it: in an execute-only region that read returns zeros and is logged (R307,
R370). -/
def testReads (u : UnitId) (s : State) : State :=
  if unitClass u = 9 ∧ executeOnly s (unitIndex u) then xoRead (unitIndex u) 1 0 s else s

/-- R371: the test on demand. -/
def execSelfTest (m : Fin 16) (s : State) : Result :=
  .next (serve m.val 0x0090 (fun s =>
    let u : UnitId := BitVec.ofNat 16 (reqField s m.val 8 2)
    accept m.val 0x0090 (testLive s u) u.toNat 0 false
      (fun v s => demandTest ⟨u, 0, true, some v, false, false, none⟩ (testReads u s)) s) s)

/-- Configuration generation of a unit: its Mace die's or channel's, a die's feature generation (R216, R218). -/
def unitGeneration (s : State) (u : UnitId) : Nat :=
  let i := unitIndex u
  match unitClass u with
  | 1 => (chanOf s (8 * i)).generation
  | 2 => (chanOf s i).generation
  | 3 => ((findDie s i).map (·.featureGen)).getD 0
  | _ => 0

/-- R137. -/
def execUnitStatus (m : Fin 16) (s : State) : Result :=
  .next (serve m.val 0x0091 (fun s =>
    let u : UnitId := BitVec.ofNat 16 (reqField s m.val 8 2)
    let last := ((s.st.lastEvent.find? fun e => e.1 == u).map (·.2.toNat)).getD 0
    let at_ := ((s.st.fenced.find? fun f => f.1 == u).map (·.2)).getD 0
    respond m.val stOk (packBytes [(1, unitState s u), (1, min 255 (recentTransients s u)), (2, unitGeneration s u),
      (2, last), (2, 0), (8, at_)]) s) s)

/-- R378: WRONG_STATE for a unit that is not fenced. -/
def execUnitReadmit (m : Fin 16) (s : State) : Result :=
  .next (serve m.val 0x0092 (fun s =>
    let u : UnitId := BitVec.ofNat 16 (reqField s m.val 8 2)
    if isFenced s u = false then respond m.val stWrongState [] s
    else
      accept m.val 0x0092 (testLive s u) u.toNat 0 false
        (fun v s => demandTest ⟨u, 0, true, some v, true, false, none⟩ s) s) s)

end Sys2Proof.Machine
end

