-- ==== Sys2Proof/Machine/Sram.lean ====
section
/-! DEFINITION. The SRAM scrubber, the region test and fault injection (R289 to R293, R386). -/

namespace Sys2Proof.Machine

/-- The scrubber runs: from firmware start, in P0 to P2 (R291). -/
def scrubRuns (s : State) : Bool := s.life.phase == .service && s.life.fwStart && decide (s.pwr.state ≤ 2)

/-- The sweep moves on; it ends with the last block of the last bank (R291, R294, log entry 61). -/
def sweepOn (bank block : Nat) (s : State) : State :=
  if bank = 0x70 ∧ block = 63 then
    { s with sram := { s.sram with scrubBusy := false, sweeps := sat 16 (s.sram.sweeps + 1), sweptAt := some s.clk.us } }
  else { s with sram := { s.sram with scrubBusy := true } }

/-- A valid block of a grid bank is read with bits upset since it was last read or written. -/
def scrubBlock (b : SramBlock) (flips : List Nat) (s : State) : State :=
  if b.poison then s
  else
    match checkBlock b.bank b.block true false 5 (putBlock (flips.foldl (fun b p => flipAt p b) b) s) with
    | (s, some _) => s
    | (s, none) => ownerActs b.bank b.block s

/-- R284, R289, R291: the scrubber reads a block. A scratch block never written is not valid and is passed over. -/
def execSramScrubRead (bank block : Nat) (flipped : List (Fin 585)) (s : State) : Result :=
  .next (
    let flips := flipped.map (·.val)
    if scrubRuns s = false then s
    else if 0x80 ≤ bank ∧ bank ≤ 0x83 then maceWord (bank - 0x80) block flips s
    else if block < bankBytes bank / 64 then
      let s := sweepOn bank block s
      match findBlock s bank block with
      | some b => scrubBlock b flips s
      | none => if bank = 0x70 then s else scrubBlock (emptyBlock bank block) flips s
    else s)

/-- Spare regions of a bank (R290). -/
def spareRegions (bank : Nat) : Nat := if 65536 ≤ bankBytes bank then 8 else 1

/-- A region that failed its march is replaced by a spare; with none left the bank has a lasting fault, and the event
rings move on (R290, R386). -/
def regionFailed (bank : Nat) (s : State) : State :=
  let used := bankSparesUsed s bank
  if used < spareRegions bank then
    { s with sram := { s.sram with spares := (bank, used + 1) :: s.sram.spares.filter fun x => x.1 != bank } }
  else bankFailed bank (lastingFault (bankUnit bank) 0x0802 2 s)

/-- R290, R371, R372: the march of a region ends. -/
def execRegionTestDone (bank region : Nat) (pass : Bool) (s : State) : Result :=
  .next (
    if s.sram.tests.contains ⟨bank, region⟩ = false then s
    else
      let u := bankUnit bank
      let joined := s.st.running.any fun t => t.unit == u && t.joined
      let s := { s with sram := { s.sram with tests := s.sram.tests.filter fun t => t != ⟨bank, region⟩ } }
      let s := leaveTest u s
      if pass && !joined then noteTransient u 0x0802 50 s else regionFailed bank s)

/-- R293: SRP_FLIP_MASK is written, in diagnostic mode. -/
def execSrpFlipArm (value : BitVec 32) (s : State) : Result :=
  .next (if s.life.phase = .service then writeFlipMask value (wakeByAccess s) else s)

end Sys2Proof.Machine
end

