-- ==== Sys2Proof/Machine/Startup.lean ====
section
/-! DEFINITION. Power-up, map-ready, RESET_N and TRST_N (R343 to R354, R366, R437). -/

namespace Sys2Proof.Machine

/-- R343, R437: supplies in tolerance and RESET_N released. With PLD_N low the device stays in reset until it rises. -/
def execPowerUp (board : Board) (s : State) : Result :=
  .next (
    if s.life.phase = .off ∨ s.life.phase = .inReset then
      let s := { s with board := some board, life := { s.life with phase := .inReset, resetN := true, lossByReset := false } }
      if s.life.pldN then start .fresh s else s
    else s)

/-- Discards whose slot is durable run again; others never took place (R407). -/
def keptDiscards (s : State) : List Discard :=
  s.sec.discards.filter fun d =>
    s.ord.accepted.any (fun w => w.seq == d.seq) || s.map.slots.any fun x => match x with
      | .secureDiscard q _ _ _ _ => q == d.seq
      | _ => false

/-- Unit reads that waited for the map go on. -/
def releaseReads (s : State) : State :=
  { s with intg := { s.intg with reads := changeWhere (·.waitsMap) (fun r => { r with waitsMap := false }) s.intg.reads } }

/-- R115, R191 to R193, R256, R346: the rebuild ends. -/
def execMapReady (badSummaries : List Nat) (s : State) : Result :=
  .next (
    if s.life.phase == .service && s.life.captureReady && !s.life.mapReady && s.life.stop.isNone then
      let s := rebuildMap badSummaries s
      let s := { s with
        life := { s.life with mapReady := true, runBlockFaults := [] }
        evr := { s.evr with lwdHubResets := 0 }
        sec := { s.sec with discards := keptDiscards s } }
      let s := logEvent 0x0401 (blockUnit 8)
        (evData [(4, s.clk.us / 1000), (2, sat 16 s.map.scanned), (2, sat 16 s.map.partsDropped)]) s
      retryReads (updateGc (releaseReads s))
    else s)

/-- A reset with nothing to flush takes effect at once: the full sequence from step 1, or, where the temperature or
PLD_N holds it, the wait for its release (R344, R366, R437). -/
def resetNow (s : State) : State :=
  if s.life.pldN = false then { s with life := { s.life with phase := .inReset, resetN := true, lossByReset := true } }
  else start .resetN s

/-- R340, R344, R366, R437: a low level of 1 µs. While the power-loss sequence runs, that one serves. -/
def execResetNAssert (ns : Nat) (s : State) : Result :=
  .next (
    if ns < 1000 then s
    else
      match s.life.phase with
      | .service => startLoss 1 s
      | .p4 => startLoss 1 s
      | .recovery => startLoss 1 s
      | .lossFlush => { s with life := { s.life with lossByReset := true } }
      | .lossDone => resetNow s
      | .haltFlush => startLoss 1 s
      | .halted =>
        if 1000 ≤ s.thm.temp then { s with life := { s.life with resetN := false } } else resetNow s
      | .manufacturing => resetNow s
      | _ => s)

/-- R344: the test port only. -/
def execTrstN (s : State) : Result := .next { s with sec := { s.sec with tapActive := false } }

end Sys2Proof.Machine
end

