-- ==== Sys2Proof/Machine/Streams.lean ====
section
/-! DEFINITION. Stream and take commands, and the events that move streams on (R66 to R85). -/

namespace Sys2Proof.Machine

/-- LBAs of a namespace (R172). -/
def nsLbas (n : Namespace) : Nat := n.size * 256

/-- A window lies inside a namespace. -/
def windowInside (n : Namespace) (w : Window) : Bool := decide (w.start + w.length ≤ nsLbas n)

/-- A data window's start and length are whole segments, at least one (R67). -/
def dataWindowOk (w : Window) : Bool := w.start % 256 == 0 && w.length % 256 == 0 && decide (256 ≤ w.length)

/-- The state of a stream; CLOSED where it was never opened. -/
def streamState (s : State) (sid : Nat) : StreamState :=
  match findStream s sid with
  | some x => x.state
  | none => .closed

/-- A take by ID. -/
def findTake (s : State) (tid : Nat) : Option Take := s.str.takes.find? fun t => t.tid == tid

/-- A take's record changed. -/
def updateTake (tid : Nat) (f : Take → Take) (s : State) : State :=
  { s with str := { s.str with takes := changeWhere (fun t => t.tid == tid) f s.str.takes } }

/-! ## STREAM_OPEN (R66, R67, R69) -/

/-- The parameters of a STREAM_OPEN request as a stream not yet in a state (R66, R137). -/
def openRequest (s : State) (m : Nat) : Stream :=
  let stall := reqField s m 52 4
  let base := reqField s m 44 8
  { sid := reqField s m 8 2, state := .closed, ns := reqField s m 10 1, align1M := reqField s m 11 1 == 1
    stallMs := if stall = 0 then 20 else stall, base := base, take := reqField s m 56 2
    dataWindows := [⟨reqField s m 12 8, reqField s m 20 8⟩], dataCur := 0
    indexWindows := [⟨reqField s m 28 8, reqField s m 36 8⟩]
    writePoint := reqField s m 12 8, last := (base : Int) - 1, frames := 0, shorts := 0, discards := 0
    lowLogged := false, held := [], sent := [], entries := [], commits := [], indexWrites := 0, rebuilding := false
    lastTakenUs := 0 }

/-- The first check of R67 that fails, with its status. -/
def openFault (s : State) (x : Stream) : Option (BitVec 16) :=
  let d := dataWindow x
  let i := x.indexWindows.headD ⟨0, 0⟩
  if streamState s x.sid ≠ .closed then some stWrongState
  else
    match findNs s x.ns with
    | none => some stBadParam
    | some n =>
      if n.attached = false then some stBadParam
      else if dataWindowOk d = false then some stBadParam
      else if i.length < 1 then some stBadParam
      else if windowInside n d = false ∨ windowInside n i = false ∨ windowsOverlap d i = true then some stBadParam
      else if windowConflict s x.sid x.ns [d, i] then some stResourceConflict
      else if x.take ≠ 0xFFFF ∧ (match findTake s x.take with
          | some t => t.live || t.closing
          | none => true) = true then some stWrongState
      else if s.link.state = .halted then some stWrongState
      else none

/-- A stream's record takes the place of the last open's. -/
def putStream (x : Stream) (s : State) : State :=
  { s with str := { s.str with list := x :: s.str.list.filter fun y => y.sid != x.sid } }

/-- The stream is bound: OPEN without a take; a member in ARMED, and all members OPEN when it fills the count (R69). -/
def bindStream (x : Stream) (s : State) : State :=
  match findTake s x.take with
  | none => putStream { x with state := .open_ } s
  | some t =>
    let ids := t.ids ++ [x.sid]
    let s := putStream { x with state := .armed } (updateTake t.tid (fun t => { t with ids := ids }) s)
    if ids.length < t.members then s
    else
      let s := updateTake t.tid (fun t => { t with live := true }) s
      { s with str := { s.str with
          list := changeWhere (fun y => ids.contains y.sid) (fun y => { y with state := .open_ }) s.str.list } }

/-- R66, R67, R69. -/
def execStreamOpen (m : Fin 16) (s : State) : Result :=
  .next (serve m 0x0050 (fun s =>
    let x := openRequest s m
    match openFault s x with
    | some st => respond m st [] s
    | none => respond m stOk [] (bankWritten 0x10 (2 * x.sid) (bindStream x s))) s)

/-! ## Closing (R68, R69) -/

/-- R68: accepted for an OPEN or FULL stream outside any take. -/
def execStreamClose (m : Fin 16) (s : State) : Result :=
  .next (serve m 0x0051 (fun s =>
    let sid := reqField s m 8 2
    match findStream s sid with
    | none => respond m stWrongState [] s
    | some x =>
      if x.take = 0xFFFF ∧ (x.state = .open_ ∨ x.state = .full) then
        accept m 0x0051 false sid 0 true (fun _ s => enterStream sid .draining s) s
      else respond m stWrongState [] s) s)

/-- Result bytes of a STREAM_CLOSE (R140). -/
def closeResult (x : Stream) : BitVec 128 := ringData [(5, lastFrameField x), (3, 0), (4, placedCount x)]

/-- A take whose last member is CLOSED: its handle completes and its ID is free (R69). -/
def settleTake (tid : Nat) (s : State) : State :=
  match findTake s tid with
  | none => s
  | some t =>
    if t.closing = true ∧ t.ids = [] then
      let s := { s with str := { s.str with takes := s.str.takes.filter fun t => t.tid != tid } }
      match s.hnd.live.find? fun h => h.opcode == 0x0056 && h.subject == tid with
      | some h => completeHandle h.value stOk (ringData [(2, t.closed), (2, 0), (4, sat 32 t.placed)]) s
      | none => s
    else s

/-- A member of a take is CLOSED. -/
def memberClosed (x : Stream) (s : State) : State :=
  match findTake s x.take with
  | none => s
  | some t =>
    if t.ids.contains x.sid then
      settleTake t.tid (updateTake t.tid (fun t => { t with
        ids := t.ids.filter (fun i => i != x.sid), closed := t.closed + 1, placed := t.placed + placedCount x }) s)
    else s

/-- R68: a DRAINING stream with every frame durable and indexed becomes CLOSED. -/
def execStreamDrainDone (sid : Fin 4096) (s : State) : Result :=
  .next (
    match findStream s sid with
    | none => s
    | some x =>
      let open_ := match s.parse.frame with
        | some f => f.header.stream == sid.val
        | none => false
      if x.state = .draining ∧ open_ = false ∧ streamDrained s x = true then
        let s := updateStream sid (fun y => { y with state := .closed }) s
        let s := match s.hnd.live.find? fun h => h.opcode == 0x0051 && h.subject == sid.val with
          | some h => completeHandle h.value stOk (closeResult x) s
          | none => s
        memberClosed x s
      else s)

/-! ## Status and windows (R72, R137) -/

/-- Bytes of the erased pool: superblocks × 2,976 MiB (R86). -/
def erasedPool (s : State) : Nat := (s.map.sbs.filter fun b => b.state == .erased).length * 2976 * mib

/-- State code (R68). -/
def streamCode : StreamState → Nat
  | .closed => 0 | .armed => 1 | .open_ => 2 | .full => 3 | .draining => 4

/-- Results of STREAM_STATUS (R137). -/
def streamStatusBytes (s : State) (sid : Nat) : List Byte :=
  match findStream s sid with
  | none =>
    packBytes [(1, 0), (1, 0), (2, 0xFFFF), (8, 0), (8, 0xFFFFFFFFFF), (8, 0), (4, 0), (4, 0), (8, 0), (4, 0), (1, 0),
      (3, 0), (8, erasedPool s)]
  | some x =>
    packBytes [(1, streamCode x.state), (1, 0), (2, x.take), (8, x.writePoint), (8, lastFrameField x), (8, x.frames),
      (4, sat 32 x.shorts), (4, sat 32 x.discards), (8, dataRoom x * 4096), (4, sat 32 (freeIndexSlots x)),
      (1, queuedData x % 16 + 16 * (queuedIndex x % 16)), (3, 0), (8, erasedPool s)]

/-- R137. -/
def execStreamStatus (m : Fin 16) (s : State) : Result :=
  .next (serve m 0x0052 (fun s => respond m stOk (streamStatusBytes s (reqField s m 8 2)) s) s)

/-- The first check of R72 that fails. -/
def extendFault (s : State) (sid chain : Nat) (w : Window) : Option (BitVec 16) :=
  match findStream s sid with
  | none => some stWrongState
  | some x =>
    if x.state = .closed ∨ x.state = .draining then some stWrongState
    else if (if chain = 0 then dataWindowOk w else decide (1 ≤ w.length)) = false then some stBadParam
    else
      match findNs s x.ns with
      | none => some stBadParam
      | some n =>
        if windowInside n w = false ∨ (ownWindows x).any (windowsOverlap w) = true then some stBadParam
        else if windowConflict s sid x.ns [w] then some stResourceConflict
        else if 4 ≤ (if chain = 0 then queuedData x else queuedIndex x) then some stCapacity
        else none

/-- The window is queued; the low-water mark is taken anew; a FULL stream returns to OPEN (R72). DESIGN CHOICE (log
entry 171): room that stands above the new mark lets a later fall below it be logged again. -/
def extendStream (chain : Nat) (w : Window) (x : Stream) : Stream :=
  let y := if chain = 0 then { x with dataWindows := x.dataWindows ++ [w] }
    else { x with indexWindows := x.indexWindows ++ [w] }
  { y with
    lowLogged := y.lowLogged && belowLowWater y
    state := if y.state = .full then .open_ else y.state }

/-- R72. -/
def execStreamExtendWindow (m : Fin 16) (s : State) : Result :=
  .next (serve m 0x0053 (fun s =>
    let sid := reqField s m 8 2
    let chain := reqField s m 10 1
    let w : Window := ⟨reqField s m 12 8, reqField s m 20 8⟩
    match extendFault s sid chain w with
    | some st => respond m st [] s
    | none =>
      let s := updateStream sid (extendStream chain w) s
      let n := match findStream s sid with
        | some x => if chain = 0 then queuedData x else queuedIndex x
        | none => 0
      respond m stOk (packBytes [(1, n), (3, 0)]) s) s)

/-! ## The partition (R82, R83, R85) -/

/-- Results of BUFFER_PARTITION (R137). -/
def partitionBytes (s : State) : List Byte :=
  packBytes [(4, bufferMib s), (4, s.str.fc), (4, s.str.fn), (4, limitMib s)]

/-- A partition cannot be made: floors beyond B, or data held beyond a share (R83). -/
def partitionConflict (s : State) (fc fn : Nat) : Bool :=
  decide (bufferMib s < fc + fn) || decide ((bufferMib s - fn) * mib < captureHeld s) ||
    decide ((bufferMib s - fc) * mib < nvmeHeld s)

/-- R83. -/
def execBufferPartition (m : Fin 16) (s : State) : Result :=
  .next (serve m 0x0054 (fun s =>
    let a := reqField s m 8 4
    let b := reqField s m 12 4
    if a = 0xFFFFFFFF ∧ b = 0xFFFFFFFF then respond m stOk (partitionBytes s) s
    else
      let fc := if a = 0xFFFFFFFF then s.str.fc else a
      let fn := if b = 0xFFFFFFFF then s.str.fn else b
      if partitionConflict s fc fn then respond m stResourceConflict [] s
      else
        let t := logLimitCrossing s { s with str := { s.str with fc := fc, fn := fn } }
        respond m stOk (partitionBytes t) t) s)

/-! ## Takes (R69) -/

/-- R69: a take forms with its member count. -/
def execTakeOpen (m : Fin 16) (s : State) : Result :=
  .next (serve m 0x0055 (fun s =>
    let tid := reqField s m 8 1
    if (findTake s tid).isSome then respond m stWrongState [] s
    else
      let t : Take := ⟨tid, reqField s m 10 2, [], false, false, 0, 0⟩
      respond m stOk [] { s with str := { s.str with takes := s.str.takes ++ [t] } }) s)

/-- Every member leaves: OPEN and FULL to DRAINING, ARMED to CLOSED (R69). -/
def closeTakeMembers (ids : List Nat) (s : State) : State :=
  ids.foldl (fun s sid =>
    match findStream s sid with
    | none => s
    | some x =>
      match x.state with
      | .open_ => enterStream sid .draining s
      | .full => enterStream sid .draining s
      | .armed => memberClosed x (updateStream sid (fun y => { y with state := .closed }) s)
      | _ => s) s

/-- R69. -/
def execTakeClose (m : Fin 16) (s : State) : Result :=
  .next (serve m 0x0056 (fun s =>
    let tid := reqField s m 8 1
    match findTake s tid with
    | none => respond m stWrongState [] s
    | some t =>
      if t.closing then respond m stWrongState [] s
      else
        let s := accept m 0x0056 false tid 0 true (fun _ s =>
          closeTakeMembers t.ids (updateTake tid (fun t => { t with closing := true }) s)) s
        settleTake tid s) s)

/-! ## The index (R76) -/

/-- R76, R137: entries of the device's copy, placed entries only. -/
def execFrameIndexRead (m : Fin 16) (s : State) : Result :=
  .next (serve m 0x0060 (fun s =>
    let count := reqField s m 10 1
    let first := reqField s m 12 4
    match findStream s (reqField s m 8 2) with
    | none => respond m stOk (packBytes [(1, 0), (3, 0), (4, 0)]) s
    | some x =>
      let es := ((x.entries.take (placedCount x)).drop first).take count
      respond m stOk (packBytes [(1, es.length), (3, 0), (4, placedCount x)] ++ es.flatMap entryBytes) s) s)

/-- R71: 10 ms after the first held unit arrived. -/
def execHeldUnitTimeout (sid : Fin 4096) (s : State) : Result := .next (releaseHeld sid s)

/-- R76: the next entry is placed once every unit of its frame is durable; its index unit is written when it is the
unit's 128th or its frame carries a flag. -/
def execIndexEntryPlace (sid : Fin 4096) (s : State) : Result :=
  .next (
    match findStream s sid with
    | none => s
    | some x =>
      let k := placedCount x
      match x.entries[k]? with
      | none => s
      | some e =>
        if entryDataDurable s x e then
          let s := updateStream sid (fun y => { y with entries := y.entries.modify k fun e => { e with placed := true } }) s
          if (k + 1) % slotsPerLba = 0 ∨ releasesAtEnd e.frameFlags = true then writeIndexUnit sid (k / slotsPerLba) s
          else s
        else s)

/-- R76: 10 ms after the oldest unwritten entry of a unit was placed. -/
def execIndexUnitTimeout (sid : Fin 4096) (s : State) : Result := .next (writeIndexUnits sid s)

end Sys2Proof.Machine
end

