-- ==== Sys2Proof/Machine/Thermal.lean ====
section
/-! DEFINITION. The thermal commands, samples, throttle steps and the end of the thermal halt (R137, R355 to R366). -/

namespace Sys2Proof.Machine

/-- Temperature and unit of the hottest NAND die, the lowest index of several; with no die known, free values (R362). -/
def hottestDie (s : State) : Nat × Nat :=
  match (s.med.dies.map (·.temp)).max? with
  | some t => (signed 16 (t * 10), (dieUnit (((s.med.dies.find? fun d => d.temp == t).map (·.index)).getD 0)).toNat)
  | none => (Config.choice s.free % 65536, Config.choice (s.free + 1) % 65536)

/-- Level as THERMAL_GET codes it (R137). -/
def thermalLevel (s : State) : Nat :=
  match s.thm.level with
  | .normal => 0
  | .warn => 1
  | .throttle => 2
  | .halted => 3

/-- R137, R362. -/
def execThermalGet (m : Fin 16) (s : State) : Result :=
  .next (serve m.val 0x0030 (fun s =>
    let hot := hottestDie s
    let excluded := (s.thm.sensors.mapIdx fun n x => if x.excluded then 2 ^ n else 0).sum
    let readings := s.thm.sensors.map fun x => (2, match x.reading with
      | some r => signed 16 r
      | none => 0x8000)
    let head := [(2, signed 16 s.thm.temp), (1, thermalLevel s), (1, s.thm.step), (2, signed 16 s.thm.rate),
      (2, s.thm.predict), (2, hot.1), (2, hot.2), (4, excluded)]
    respond m.val stOk (packBytes (head ++ readings)) { s with free := s.free + 2 }) s)

/-- R137, R359, R362: 0 keeps a value; the configuration store keeps what is set. -/
def execThermalSetLimits (m : Fin 16) (s : State) : Result :=
  .next (serve m.val 0x0031 (fun s =>
    let r := reqField s m.val
    let pick (v old : Nat) : Nat := if v = 0 then old else v
    let die := pick (r 8 1) s.thm.dieLimitC
    let warn := pick (r 9 1) s.thm.warnC
    let rate := pick (r 10 1) s.thm.rateWarnAt
    let s := { s with thm := { s.thm with dieLimitC := die, warnC := warn, rateWarnAt := rate } }
    let s := storeConfig (fun c => { c with dieLimitC := die, warnC := warn, rateWarnAt := rate }) s
    respond m.val stOk (packBytes [(1, die), (1, warn), (1, rate), (1, 0)]) s) s)

/-- Phases in which the sensors are sampled (R358, R365). -/
def sampled (s : State) : Bool :=
  match s.life.phase with
  | .service => true
  | .recovery => true
  | .p4 => true
  | .lossFlush => true
  | .haltFlush => true
  | .halted => true
  | _ => false

/-- A reset held because of the temperature takes place once it is below 100 °C (R366). -/
def releaseHotReset (s : State) : State :=
  if s.life.phase = .halted ∧ s.life.resetN = false ∧ s.life.pldN = true ∧ s.thm.temp < 1000 then start .resetN s else s

/-- R358. -/
def execThermalSample (readings : List (Option Int)) (s : State) : Result :=
  .next (if sampled s then releaseHotReset (takeSample readings s) else s)

/-- R361: while a valid sensor reads 105 °C or more; at step 2 background work stops. -/
def execThrottleStepRise (s : State) : Result :=
  .next (
    let hot := (validReadings s).any fun t => decide (1050 ≤ t)
    if s.thm.level == .throttle && hot && decide (s.thm.step < 4) then
      logThrottle 0 { s with thm := { s.thm with step := s.thm.step + 1 } }
    else s)

/-- R361: below 102 °C and 3.0 °C/s; a fall from step 1 returns the level to warn or normal and releases THERM_N. -/
def execThrottleStepFall (s : State) : Result :=
  .next (
    if s.thm.level == .throttle && decide (s.thm.temp < 1020) && decide (s.thm.rate < 30) then
      let step := s.thm.step - 1
      let level : ThermalLevel := if step = 0 then (if 1000 < s.thm.coolMs then .normal else .warn) else .throttle
      { s with thm := { s.thm with step := step, level := level, thermN := step != 0 } }
    else s)

/-- R365 steps 4 to 7: the data within the protected limit is programmed, or as many of its writes as were begun when
120 °C was reached, then the ledger slots; CFS is set. -/
def execThermalHaltComplete (stoppedAt : Option Nat) (s : State) : Result :=
  .next (
    if s.life.phase ≠ .haltFlush then s
    else
      let due := limitWrites s
      let s := flushWrites (match stoppedAt with
        | some n => if s.thm.over120 then due.take n else due
        | none => due) s
      let s := writeLastWords (ledgerFlush s)
      { s with life := { s.life with phase := .halted }, nv := { s.nv with cfs := true, rdy := false } })

end Sys2Proof.Machine
end

