-- ==== Sys2Proof/Machine/Ucie.lean ====
section
/-! DEFINITION. The link layer of the UCIe links (R20, R22, R253). -/

namespace Sys2Proof.Machine

/-- A link's record. -/
def linkOf (s : State) (p : Nat) : UcieLink := s.med.links.getD p UcieLink.reset

/-- A link's record changed. -/
def updateLink (p : Nat) (f : UcieLink → UcieLink) (s : State) : State :=
  { s with med := { s.med with links := s.med.links.modify p f } }

/-- The sender's replay buffer of a direction. -/
def replayBuffer (toMace : Bool) (l : UcieLink) : List Flit := if toMace then l.replayDown else l.replayUp

/-- Flits delivered in a direction: the number of the next one. -/
def delivered (toMace : Bool) (l : UcieLink) : Nat := if toMace then l.deliveredDown else l.deliveredUp

/-- A replay buffer put in place. -/
def setReplay (toMace : Bool) (b : List Flit) (l : UcieLink) : UcieLink :=
  if toMace then { l with replayDown := b } else { l with replayUp := b }

/-- A delivery counted. -/
def countDelivery (toMace : Bool) (l : UcieLink) : UcieLink :=
  if toMace then { l with deliveredDown := l.deliveredDown + 1 } else { l with deliveredUp := l.deliveredUp + 1 }

/-- The sender keeps a flit until it is acknowledged (R20). -/
def keepFlit (toMace : Bool) (f : Flit) (l : UcieLink) : UcieLink :=
  if (replayBuffer toMace l).any fun x => x.number == f.number then l
  else setReplay toMace (replayBuffer toMace l ++ [f]) l

/-- A flit is acknowledged: it leaves the replay buffer. -/
def ackFlit (toMace : Bool) (n : Nat) (l : UcieLink) : UcieLink :=
  setReplay toMace ((replayBuffer toMace l).filter fun x => x.number != n) l

/-- A good flit: the next one is delivered, one delivered before is acknowledged again and dropped, one ahead of its
turn is dropped, and its replay follows that of the missing one (R20, R22). -/
def takeFlit (toMace : Bool) (f : Flit) (l : UcieLink) : UcieLink :=
  if f.number = delivered toMace l then { countDelivery toMace (ackFlit toMace f.number l) with failing := false, parityFails := 0 }
  else if f.number < delivered toMace l then ackFlit toMace f.number l
  else keepFlit toMace f l

/-- The byte parity of a flit fails on entry to W11 or F6: toward the Mace the unit is sent again from the buffer copy,
toward Saffron once, after which it is read again from the die (R253). Byte lane and LBA are free values. -/
def flitParity (p : Nat) (toMace : Bool) (f : Flit) (s : State) : State :=
  let l := linkOf s p
  let lane := Config.choice s.free % 256
  let lba := Config.choice (s.free + 1) % 2 ^ 32
  let hub := blockUnit (0x18 + p)
  let s := { s with free := s.free + 2 }
  if toMace then
    busParity 0x0B (maceUnit p) (maceUnit p) lane l.parityFails 0 lba
      (updateLink p (fun l => { keepFlit true f l with parityFails := l.parityFails + 1 }) s)
  else
    busParity 0x86 hub hub lane l.parityFails 0 lba
      (updateLink p (fun l =>
        if l.parityFails = 0 then { keepFlit false f l with parityFails := 1 }
        else { countDelivery false (ackFlit false f.number l) with parityFails := 0 }) s)

/-- The link of a Mace die carries flits. -/
def linkLive (s : State) (p : Nat) : Bool :=
  s.life.phase == .service && !isFenced s (maceUnit p) && !(linkOf s p).retraining

/-- R20, R22, R253: after three parity failures at W11 the program waits for the Mace self-test. -/
def execUcieFlitReceive (port : Fin 4) (toMace : Bool) (flit : Flit) (crcOk parityOk : Bool) (s : State) : Result :=
  .next (
    let p := port.val
    let waits := toMace && decide (3 ≤ (linkOf s p).parityFails) && underTest s (maceUnit p)
    if linkLive s p = false ∨ waits = true then s
    else if crcOk = false then updateLink p (fun l => { keepFlit toMace flit l with failing := true }) s
    else if parityOk || flit.number != delivered toMace (linkOf s p) then updateLink p (takeFlit toMace flit) s
    else flitParity p toMace flit s)

/-- R22: replays have failed for 1 ms. -/
def execUcieReplayTimeout (port : Fin 4) (s : State) : Result :=
  .next (
    if linkLive s port.val && (linkOf s port.val).failing then
      updateLink port.val (fun l => { l with retraining := true }) s
    else s)

/-- R22, R369: a successful retrain starts the Mace self-test, which makes it a transient; one that fails is a lasting
fault. -/
def execUcieRetrainDone (port : Fin 4) (ok : Bool) (s : State) : Result :=
  .next (
    let p := port.val
    if (linkOf s p).retraining then
      let s := updateLink p (fun l => { l with retraining := false, failing := false }) s
      if ok then startTest (maceUnit p) 0 s else lastingFault (maceUnit p) 0 4 s
    else s)

end Sys2Proof.Machine
end

