-- ==== Sys2Proof/Machine/Dispatch.lean ====
section
/-! DEFINITION. Which meaning each command has: one arm for each constructor. -/

namespace Sys2Proof.Machine

open Sys2Proof

def exec (i : Instr) (s : State) : Host.Outcome State Fault Refusal :=
  match i with
  | .powerUp board => Sys2Proof.Machine.execPowerUp board s
  | .mapReady badSummaries => Sys2Proof.Machine.execMapReady badSummaries s
  | .resetNAssert ns => Sys2Proof.Machine.execResetNAssert ns s
  | .trstN => Sys2Proof.Machine.execTrstN s
  | .pldNAssert ns => Sys2Proof.Machine.execPldNAssert ns s
  | .powerLossFlushEnd suppliesFailed extra => Sys2Proof.Machine.execPowerLossFlushEnd suppliesFailed extra s
  | .cloveFault core => Sys2Proof.Machine.execCloveFault core s
  | .recoveryDone ms => Sys2Proof.Machine.execRecoveryDone ms s
  | .warmRecoveryTimeout => Sys2Proof.Machine.execWarmRecoveryTimeout s
  | .ucieFlitReceive port toMace flit crcOk parityOk => Sys2Proof.Machine.execUcieFlitReceive port toMace flit crcOk parityOk s
  | .ucieReplayTimeout port => Sys2Proof.Machine.execUcieReplayTimeout port s
  | .ucieRetrainDone port ok => Sys2Proof.Machine.execUcieRetrainDone port ok s
  | .captureLinkUp m => Sys2Proof.Machine.execCaptureLinkUp m s
  | .captureLinkDown m => Sys2Proof.Machine.execCaptureLinkDown m s
  | .captureLinkStatus m => Sys2Proof.Machine.execCaptureLinkStatus m s
  | .captureLinkUpTimeout => Sys2Proof.Machine.execCaptureLinkUpTimeout s
  | .statusSend => Sys2Proof.Machine.execStatusSend s
  | .laneSignalDetect balls => Sys2Proof.Machine.execLaneSignalDetect balls s
  | .preambleDetect => Sys2Proof.Machine.execPreambleDetect s
  | .acquisitionDone inverted => Sys2Proof.Machine.execAcquisitionDone inverted s
  | .acquireTimeout => Sys2Proof.Machine.execAcquireTimeout s
  | .startDelimiter => Sys2Proof.Machine.execStartDelimiter s
  | .trackTimeout => Sys2Proof.Machine.execTrackTimeout s
  | .firstAlignmentCodeword cws => Sys2Proof.Machine.execFirstAlignmentCodeword cws s
  | .trainSend ball command taps fom => Sys2Proof.Machine.execTrainSend ball command taps fom s
  | .tuneTimeout => Sys2Proof.Machine.execTuneTimeout s
  | .deskewDone skewNs => Sys2Proof.Machine.execDeskewDone skewNs s
  | .laneSignalLoss ball => Sys2Proof.Machine.execLaneSignalLoss ball s
  | .codewordReceive ball cw => Sys2Proof.Machine.execCodewordReceive ball cw s
  | .frameHeader => Sys2Proof.Machine.execFrameHeader s
  | .frameEnd => Sys2Proof.Machine.execFrameEnd s
  | .frameStallNotice => Sys2Proof.Machine.execFrameStallNotice s
  | .stallTimerExpire => Sys2Proof.Machine.execStallTimerExpire s
  | .grantRaise => Sys2Proof.Machine.execGrantRaise s
  | .backpressureEpisode => Sys2Proof.Machine.execBackpressureEpisode s
  | .commitAck sid => Sys2Proof.Machine.execCommitAck sid s
  | .commitEchoRepeat sid frame => Sys2Proof.Machine.execCommitEchoRepeat sid frame s
  | .streamOpen m => Sys2Proof.Machine.execStreamOpen m s
  | .streamClose m => Sys2Proof.Machine.execStreamClose m s
  | .streamStatus m => Sys2Proof.Machine.execStreamStatus m s
  | .streamExtendWindow m => Sys2Proof.Machine.execStreamExtendWindow m s
  | .bufferPartition m => Sys2Proof.Machine.execBufferPartition m s
  | .takeOpen m => Sys2Proof.Machine.execTakeOpen m s
  | .takeClose m => Sys2Proof.Machine.execTakeClose m s
  | .frameIndexRead m => Sys2Proof.Machine.execFrameIndexRead m s
  | .streamDrainDone sid => Sys2Proof.Machine.execStreamDrainDone sid s
  | .heldUnitTimeout sid => Sys2Proof.Machine.execHeldUnitTimeout sid s
  | .indexEntryPlace sid => Sys2Proof.Machine.execIndexEntryPlace sid s
  | .indexUnitTimeout sid => Sys2Proof.Machine.execIndexUnitTimeout sid s
  | .sqTailDoorbell qid tail entries => Sys2Proof.Machine.execSqTailDoorbell qid tail entries s
  | .cqHeadDoorbell qid head => Sys2Proof.Machine.execCqHeadDoorbell qid head s
  | .interruptCoalescingTimeout vector => Sys2Proof.Machine.execInterruptCoalescingTimeout vector s
  | .flush sq cid => Sys2Proof.Machine.execFlush sq cid s
  | .write sq cid data => Sys2Proof.Machine.execWrite sq cid data s
  | .read sq cid => Sys2Proof.Machine.execRead sq cid s
  | .writeZeroes sq cid => Sys2Proof.Machine.execWriteZeroes sq cid s
  | .datasetManagement sq cid => Sys2Proof.Machine.execDatasetManagement sq cid s
  | .verify sq cid => Sys2Proof.Machine.execVerify sq cid s
  | .orderedWrite sq cid data => Sys2Proof.Machine.execOrderedWrite sq cid data s
  | .fence sq cid => Sys2Proof.Machine.execFence sq cid s
  | .fenceSatisfied seq => Sys2Proof.Machine.execFenceSatisfied seq s
  | .writeCompletionPost sq cid => Sys2Proof.Machine.execWriteCompletionPost sq cid s
  | .flushComplete sq cid => Sys2Proof.Machine.execFlushComplete sq cid s
  | .hostReadComplete sq cid parityStage parityFails => Sys2Proof.Machine.execHostReadComplete sq cid parityStage parityFails s
  | .identify cid => Sys2Proof.Machine.execIdentify cid s
  | .createIoSubmissionQueue cid => Sys2Proof.Machine.execCreateIoSubmissionQueue cid s
  | .createIoCompletionQueue cid => Sys2Proof.Machine.execCreateIoCompletionQueue cid s
  | .deleteIoSubmissionQueue cid => Sys2Proof.Machine.execDeleteIoSubmissionQueue cid s
  | .deleteIoCompletionQueue cid => Sys2Proof.Machine.execDeleteIoCompletionQueue cid s
  | .getLogPage cid => Sys2Proof.Machine.execGetLogPage cid s
  | .setArbitration cid => Sys2Proof.Machine.execSetArbitration cid s
  | .setPowerManagement cid => Sys2Proof.Machine.execSetPowerManagement cid s
  | .setTemperatureThreshold cid => Sys2Proof.Machine.execSetTemperatureThreshold cid s
  | .setVolatileWriteCache cid => Sys2Proof.Machine.execSetVolatileWriteCache cid s
  | .setNumberOfQueues cid => Sys2Proof.Machine.execSetNumberOfQueues cid s
  | .setInterruptCoalescing cid => Sys2Proof.Machine.execSetInterruptCoalescing cid s
  | .setAutonomousPowerState cid table => Sys2Proof.Machine.execSetAutonomousPowerState cid table s
  | .getFeatures cid => Sys2Proof.Machine.execGetFeatures cid s
  | .getVolatileWriteCache cid => Sys2Proof.Machine.execGetVolatileWriteCache cid s
  | .abort cid => Sys2Proof.Machine.execAbort cid s
  | .asynchronousEventRequest cid => Sys2Proof.Machine.execAsynchronousEventRequest cid s
  | .namespaceCreate cid req => Sys2Proof.Machine.execNamespaceCreate cid req s
  | .namespaceDelete cid => Sys2Proof.Machine.execNamespaceDelete cid s
  | .namespaceAttach cid controllers => Sys2Proof.Machine.execNamespaceAttach cid controllers s
  | .namespaceDetach cid controllers => Sys2Proof.Machine.execNamespaceDetach cid controllers s
  | .formatNvm cid => Sys2Proof.Machine.execFormatNvm cid s
  | .formatNvmDone readBackOk => Sys2Proof.Machine.execFormatNvmDone readBackOk s
  | .sanitizeBlockErase cid => Sys2Proof.Machine.execSanitizeBlockErase cid s
  | .sanitizeCryptoErase cid => Sys2Proof.Machine.execSanitizeCryptoErase cid s
  | .sanitizeDone readBackOk => Sys2Proof.Machine.execSanitizeDone readBackOk s
  | .firmwareImageDownload cid => Sys2Proof.Machine.execFirmwareImageDownload cid s
  | .firmwareCommit cid image => Sys2Proof.Machine.execFirmwareCommit cid image s
  | .firmwareCommitImmediate cid image => Sys2Proof.Machine.execFirmwareCommitImmediate cid image s
  | .ccEnable value => Sys2Proof.Machine.execCcEnable value s
  | .ccDisable value => Sys2Proof.Machine.execCcDisable value s
  | .ccShutdown value => Sys2Proof.Machine.execCcShutdown value s
  | .shutdownComplete => Sys2Proof.Machine.execShutdownComplete s
  | .functionLevelReset => Sys2Proof.Machine.execFunctionLevelReset s
  | .hotReset => Sys2Proof.Machine.execHotReset s
  | .perstNAssert => Sys2Proof.Machine.execPerstNAssert s
  | .perstNDeassert => Sys2Proof.Machine.execPerstNDeassert s
  | .pcieL1Entry d3hot => Sys2Proof.Machine.execPcieL1Entry d3hot s
  | .mbxClaim path m => Sys2Proof.Machine.execMbxClaim path m s
  | .mbxRing path m irq => Sys2Proof.Machine.execMbxRing path m irq s
  | .mbxRelease path m => Sys2Proof.Machine.execMbxRelease path m s
  | .mbxOverrunClear path m => Sys2Proof.Machine.execMbxOverrunClear path m s
  | .mbxStatusRead path m width => Sys2Proof.Machine.execMbxStatusRead path m width s
  | .mbxOwnershipTimeout m => Sys2Proof.Machine.execMbxOwnershipTimeout m s
  | .i3cPrivateWrite bytes => Sys2Proof.Machine.execI3cPrivateWrite bytes s
  | .i3cPrivateRead count => Sys2Proof.Machine.execI3cPrivateRead count s
  | .entdaa addr => Sys2Proof.Machine.execEntdaa addr s
  | .setdasa static addr => Sys2Proof.Machine.execSetdasa static addr s
  | .rstdaa => Sys2Proof.Machine.execRstdaa s
  | .enec => Sys2Proof.Machine.execEnec s
  | .disec => Sys2Proof.Machine.execDisec s
  | .setmwl len => Sys2Proof.Machine.execSetmwl len s
  | .setmrl len => Sys2Proof.Machine.execSetmrl len s
  | .getmwl => Sys2Proof.Machine.execGetmwl s
  | .getmrl => Sys2Proof.Machine.execGetmrl s
  | .getpid => Sys2Proof.Machine.execGetpid s
  | .getbcr => Sys2Proof.Machine.execGetbcr s
  | .getdcr => Sys2Proof.Machine.execGetdcr s
  | .getstatus => Sys2Proof.Machine.execGetstatus s
  | .rstact action => Sys2Proof.Machine.execRstact action s
  | .crgHeadPcieWrite value => Sys2Proof.Machine.execCrgHeadPcieWrite value s
  | .crgHeadI3cWrite value => Sys2Proof.Machine.execCrgHeadI3cWrite value s
  | .crgPcieEnable => Sys2Proof.Machine.execCrgPcieEnable s
  | .crgI3cEnable => Sys2Proof.Machine.execCrgI3cEnable s
  | .crgOverflowClear path => Sys2Proof.Machine.execCrgOverflowClear path s
  | .getDeviceInfo m => Sys2Proof.Machine.execGetDeviceInfo m s
  | .getInventory m => Sys2Proof.Machine.execGetInventory m s
  | .getInventoryDone => Sys2Proof.Machine.execGetInventoryDone s
  | .setTime m => Sys2Proof.Machine.execSetTime m s
  | .setPinFunction m => Sys2Proof.Machine.execSetPinFunction m s
  | .getPinFunction m => Sys2Proof.Machine.execGetPinFunction m s
  | .faultPinAssert asserted => Sys2Proof.Machine.execFaultPinAssert asserted s
  | .commitPulseEnd pin => Sys2Proof.Machine.execCommitPulseEnd pin s
  | .powerSetState m => Sys2Proof.Machine.execPowerSetState m s
  | .powerStateEntry => Sys2Proof.Machine.execPowerStateEntry s
  | .powerSetStateTimeout => Sys2Proof.Machine.execPowerSetStateTimeout s
  | .wakeEvent src => Sys2Proof.Machine.execWakeEvent src s
  | .timerWake slotBusy => Sys2Proof.Machine.execTimerWake slotBusy s
  | .wakeNRelease => Sys2Proof.Machine.execWakeNRelease s
  | .pllLockFailure pll => Sys2Proof.Machine.execPllLockFailure pll s
  | .crystalFailure => Sys2Proof.Machine.execCrystalFailure s
  | .holdupTest m => Sys2Proof.Machine.execHoldupTest m s
  | .holdupStatus m => Sys2Proof.Machine.execHoldupStatus m s
  | .holdupTestDue kind => Sys2Proof.Machine.execHoldupTestDue kind s
  | .holdupLoadApply restUv => Sys2Proof.Machine.execHoldupLoadApply restUv s
  | .holdupLoadRelease loadedUv => Sys2Proof.Machine.execHoldupLoadRelease loadedUv s
  | .holdupTestDone afterUv => Sys2Proof.Machine.execHoldupTestDone afterUv s
  | .holdupRecompute storeUv => Sys2Proof.Machine.execHoldupRecompute storeUv s
  | .thermalGet m => Sys2Proof.Machine.execThermalGet m s
  | .thermalSetLimits m => Sys2Proof.Machine.execThermalSetLimits m s
  | .thermalSample readings => Sys2Proof.Machine.execThermalSample readings s
  | .throttleStepRise => Sys2Proof.Machine.execThrottleStepRise s
  | .throttleStepFall => Sys2Proof.Machine.execThrottleStepFall s
  | .thermalHaltComplete stoppedAt => Sys2Proof.Machine.execThermalHaltComplete stoppedAt s
  | .writeAccept src => Sys2Proof.Machine.execWriteAccept src s
  | .writePlace seq parity => Sys2Proof.Machine.execWritePlace seq parity s
  | .superblockAgeTimeout sb => Sys2Proof.Machine.execSuperblockAgeTimeout sb s
  | .rowProgramDone sb row temps => Sys2Proof.Machine.execRowProgramDone sb row temps s
  | .superblockGrant group halfErased => Sys2Proof.Machine.execSuperblockGrant group halfErased s
  | .ledgerPageDone copies => Sys2Proof.Machine.execLedgerPageDone copies s
  | .gcCopyDone src readBackOk => Sys2Proof.Machine.execGcCopyDone src readBackOk s
  | .foldStart segment => Sys2Proof.Machine.execFoldStart segment s
  | .staticWearLevel group halfErased readBackOk => Sys2Proof.Machine.execStaticWearLevel group halfErased readBackOk s
  | .jobEnqueue die job => Sys2Proof.Machine.execJobEnqueue die job s
  | .jobStart die restoreOk => Sys2Proof.Machine.execJobStart die restoreOk s
  | .busGrant ch waiting => Sys2Proof.Machine.execBusGrant ch waiting s
  | .suspendRequest die => Sys2Proof.Machine.execSuspendRequest die s
  | .suspendResume die cause => Sys2Proof.Machine.execSuspendResume die cause s
  | .routineAbandon die cause => Sys2Proof.Machine.execRoutineAbandon die cause s
  | .dieTempRead die celsius => Sys2Proof.Machine.execDieTempRead die celsius s
  | .controlStoreSweep ch word flipped => Sys2Proof.Machine.execControlStoreSweep ch word flipped s
  | .csPatchLoad m image => Sys2Proof.Machine.execCsPatchLoad m image s
  | .patchChannelLoad ch readBackOk => Sys2Proof.Machine.execPatchChannelLoad ch readBackOk s
  | .csPatchLoadDone => Sys2Proof.Machine.execCsPatchLoadDone s
  | .cuNop die => Sys2Proof.Machine.execCuNop die s
  | .cuMovi die dst imm => Sys2Proof.Machine.execCuMovi die dst imm s
  | .cuMov die dst src => Sys2Proof.Machine.execCuMov die dst src s
  | .cuAdd die dst src => Sys2Proof.Machine.execCuAdd die dst src s
  | .cuAddi die dst imm => Sys2Proof.Machine.execCuAddi die dst imm s
  | .cuSub die dst src => Sys2Proof.Machine.execCuSub die dst src s
  | .cuAnd die dst src => Sys2Proof.Machine.execCuAnd die dst src s
  | .cuOr die dst src => Sys2Proof.Machine.execCuOr die dst src s
  | .cuShli die dst imm => Sys2Proof.Machine.execCuShli die dst imm s
  | .cuShri die dst imm => Sys2Proof.Machine.execCuShri die dst imm s
  | .cuCmpi die dst imm => Sys2Proof.Machine.execCuCmpi die dst imm s
  | .cuLdd die dst imm => Sys2Proof.Machine.execCuLdd die dst imm s
  | .cuLdq die dst imm => Sys2Proof.Machine.execCuLdq die dst imm s
  | .cuJmp die imm => Sys2Proof.Machine.execCuJmp die imm s
  | .cuBz die imm => Sys2Proof.Machine.execCuBz die imm s
  | .cuBnz die imm => Sys2Proof.Machine.execCuBnz die imm s
  | .cuBbs die bit src imm => Sys2Proof.Machine.execCuBbs die bit src imm s
  | .cuBbc die bit src imm => Sys2Proof.Machine.execCuBbc die bit src imm s
  | .cuDjnz die dst imm => Sys2Proof.Machine.execCuDjnz die dst imm s
  | .cuCall die imm => Sys2Proof.Machine.execCuCall die imm s
  | .cuRet die => Sys2Proof.Machine.execCuRet die s
  | .cuCe die src => Sys2Proof.Machine.execCuCe die src s
  | .cuCmd die imm => Sys2Proof.Machine.execCuCmd die imm s
  | .cuCmdr die src => Sys2Proof.Machine.execCuCmdr die src s
  | .cuAddr die count src => Sys2Proof.Machine.execCuAddr die count src s
  | .cuDout die imm parityOk => Sys2Proof.Machine.execCuDout die imm parityOk s
  | .cuDin die imm bytes => Sys2Proof.Machine.execCuDin die imm bytes s
  | .cuWaitc die imm => Sys2Proof.Machine.execCuWaitc die imm s
  | .cuWaitu die imm => Sys2Proof.Machine.execCuWaitu die imm s
  | .cuWaitq die imm => Sys2Proof.Machine.execCuWaitq die imm s
  | .cuStatr die status => Sys2Proof.Machine.execCuStatr die status s
  | .cuSetf die src imm => Sys2Proof.Machine.execCuSetf die src imm s
  | .cuGetf die dst imm value => Sys2Proof.Machine.execCuGetf die dst imm value s
  | .cuTemp die dst celsius => Sys2Proof.Machine.execCuTemp die dst celsius s
  | .cuCommit die => Sys2Proof.Machine.execCuCommit die s
  | .cuYield die imm => Sys2Proof.Machine.execCuYield die imm s
  | .cuPark die => Sys2Proof.Machine.execCuPark die s
  | .cuSusp die => Sys2Proof.Machine.execCuSusp die s
  | .cuRsm die => Sys2Proof.Machine.execCuRsm die s
  | .cuLrst die => Sys2Proof.Machine.execCuLrst die s
  | .cuHubinc die imm => Sys2Proof.Machine.execCuHubinc die imm s
  | .cuDone die src => Sys2Proof.Machine.execCuDone die src s
  | .cuFailr die imm => Sys2Proof.Machine.execCuFailr die imm s
  | .cuTrain die imm => Sys2Proof.Machine.execCuTrain die imm s
  | .codewordDecodeDone sb off result => Sys2Proof.Machine.execCodewordDecodeDone sb off result s
  | .stripeRebuildEnd sb off result => Sys2Proof.Machine.execStripeRebuildEnd sb off result s
  | .scrubPatrol => Sys2Proof.Machine.execScrubPatrol s
  | .dramAccess acc => Sys2Proof.Machine.execDramAccess acc s
  | .dramRowTestDone ch rank bank row pass => Sys2Proof.Machine.execDramRowTestDone ch rank bank row pass s
  | .refreshDue ch rank ns hot => Sys2Proof.Machine.execRefreshDue ch rank ns hot s
  | .refreshCatchUp ch rank ns => Sys2Proof.Machine.execRefreshCatchUp ch rank ns s
  | .selfRefreshEntry ch => Sys2Proof.Machine.execSelfRefreshEntry ch s
  | .dramDriftCheck ch rank driftTaps celsius => Sys2Proof.Machine.execDramDriftCheck ch rank driftTaps celsius s
  | .recentringSlice ch rank ns sweeps => Sys2Proof.Machine.execRecentringSlice ch rank ns sweeps s
  | .sramScrubRead bank block flipped => Sys2Proof.Machine.execSramScrubRead bank block flipped s
  | .regionTestDone bank region pass => Sys2Proof.Machine.execRegionTestDone bank region pass s
  | .srpFlipArm value => Sys2Proof.Machine.execSrpFlipArm value s
  | .norAutoSuspend bankB stallUs requester => Sys2Proof.Machine.execNorAutoSuspend bankB stallUs requester s
  | .norIdleResume bankB => Sys2Proof.Machine.execNorIdleResume bankB s
  | .norForcedResume bankB => Sys2Proof.Machine.execNorForcedResume bankB s
  | .norContinuousReadTimeout => Sys2Proof.Machine.execNorContinuousReadTimeout s
  | .norOperationDone bankB statusOk => Sys2Proof.Machine.execNorOperationDone bankB statusOk s
  | .selfTestEnd unit pass durationUs => Sys2Proof.Machine.execSelfTestEnd unit pass durationUs s
  | .selfTest m => Sys2Proof.Machine.execSelfTest m s
  | .unitStatus m => Sys2Proof.Machine.execUnitStatus m s
  | .unitReadmit m => Sys2Proof.Machine.execUnitReadmit m s
  | .eventFifoDrain => Sys2Proof.Machine.execEventFifoDrain s
  | .eventTokenRefill code => Sys2Proof.Machine.execEventTokenRefill code s
  | .eventLogCopy => Sys2Proof.Machine.execEventLogCopy s
  | .eventHistoryPage => Sys2Proof.Machine.execEventHistoryPage s
  | .eventRead m => Sys2Proof.Machine.execEventRead m s
  | .eventRateSet m => Sys2Proof.Machine.execEventRateSet m s
  | .statsRead m => Sys2Proof.Machine.execStatsRead m s
  | .cancel m => Sys2Proof.Machine.execCancel m s
  | .handleQuery m => Sys2Proof.Machine.execHandleQuery m s
  | .keySet m => Sys2Proof.Machine.execKeySet m s
  | .keySetDone step => Sys2Proof.Machine.execKeySetDone step s
  | .keyZeroize m => Sys2Proof.Machine.execKeyZeroize m s
  | .keyZeroizeDone step => Sys2Proof.Machine.execKeyZeroizeDone step s
  | .secureDiscard m => Sys2Proof.Machine.execSecureDiscard m s
  | .secureDiscardDone erases readBackOk => Sys2Proof.Machine.execSecureDiscardDone erases readBackOk s
  | .fwStage m => Sys2Proof.Machine.execFwStage m s
  | .fwStageDone image written => Sys2Proof.Machine.execFwStageDone image written s
  | .fwActivate m => Sys2Proof.Machine.execFwActivate m s
  | .debugChallenge m => Sys2Proof.Machine.execDebugChallenge m s
  | .debugUnlock m => Sys2Proof.Machine.execDebugUnlock m s
  | .debugUnlockDone => Sys2Proof.Machine.execDebugUnlockDone s
  | .drbgReseed => Sys2Proof.Machine.execDrbgReseed s
  | .drbgHealthFail => Sys2Proof.Machine.execDrbgHealthFail s
  | .rcRegisterRead space port offset width => Sys2Proof.Machine.execRcRegisterRead space port offset width s
  | .wideLoRead port utc => Sys2Proof.Machine.execWideLoRead port utc s
  | .wideHiRead port utc => Sys2Proof.Machine.execWideHiRead port utc s
  | .idSubsysWrite value => Sys2Proof.Machine.execIdSubsysWrite value s
  | .pwrPllFailClear value => Sys2Proof.Machine.execPwrPllFailClear value s
  | .registerWrite space path offset width value => Sys2Proof.Machine.execRegisterWrite space path offset width value s
  | .pldNDeassert => Sys2Proof.Machine.execPldNDeassert s
  | .powerOff => Sys2Proof.Machine.execPowerOff s
  | .pcieD3hotExit => Sys2Proof.Machine.execPcieD3hotExit s

end Sys2Proof.Machine
end

