-- ==== Sys2Proof/Safety.lean ====
section
/-! DEFINITION. What a sound state is, and the words claims are stated in. -/

namespace Sys2Proof.Safety

open Sys2Proof.Machine

/-- Handles (R129, R130): no two live handles share a slot, the generation is one that R129 counts, and no more than 256
retired handles are kept. -/
structure HandlesOk (h : Handles) : Prop where
  slots : (h.live.map fun x => x.value.toNat % 256).Nodup
  low : 1 ≤ h.generation
  high : h.generation ≤ 0xFFFFFF
  kept : h.retired.length ≤ 256

/-- Completion ring (R132 to R134): tail and heads are slot numbers, no consumer has more than 1,024 entries unread. -/
structure RingOk (r : Ring) : Prop where
  tail : r.tail < 1024
  headPcie : r.headPcie < 1024
  headI3c : r.headI3c < 1024
  unreadPcie : r.unreadPcie ≤ 1024
  unreadI3c : r.unreadI3c ≤ 1024

/-- Mailboxes (R119): sixteen of them, their areas in canonical form. -/
structure MailOk (m : Mailboxes) : Prop where
  boxes : m.box.length = 16
  areas : memWf m.mem = true

/-- Event recorder (R385): the FIFO holds at most 64 records. -/
structure RecorderOk (r : Recorder) : Prop where
  fifo : r.fifo.length ≤ 64

/-- The parts a sound state constrains. -/
structure PartsOk (h : Handles) (c : Ring) (m : Mailboxes) (e : Recorder) : Prop where
  handles : HandlesOk h
  ring : RingOk c
  mail : MailOk m
  recorder : RecorderOk e

/-- A sound state. -/
def Sound (s : State) : Prop := PartsOk s.hnd s.crg s.mbx s.evr

/-! ## Words the claims use -/

/-- P0, no PCIe link power state, no P4 entry under way: an access has nothing to resume (R323, R325, R327). -/
structure Awake (s : State) : Prop where
  state : s.pwr.state = 0
  l1 : s.pwr.l1 = false
  entering : s.pwr.entering = false

/-- From `s` to `t` exactly these events were logged, in this order (R377, R384, R385): code, unit, data. -/
def Logged (es : List (BitVec 16 × UnitId × BitVec 64)) (s t : State) : Prop :=
  let u := es.foldl (fun s e => logEvent e.1 e.2.1 e.2.2 s) s
  t.evr = u.evr ∧ t.pins = u.pins

/-- A routine runs on die `die`: its record and context, and clocks that let it go on (R220, R221). -/
structure Routine (s : State) (die : Nat) (d : Die) (c : Context) : Prop where
  found : findDie s die = some d
  running : d.running = some c
  clocks : sequencerRuns s die = true

/-- The next microword is a ROM word, or patch RAM holds one of these fields (R221, R222). -/
def Fetches (s : State) (die : Nat) (c : Context) (op : Nat) (dst src imm : Option Nat) : Prop :=
  fetchMicro s die c = .rom ∨
    ∃ w, fetchMicro s die c = .patch w ∧ reservedMicro w = false ∧ spells w op dst src imm = true

/-- `t` is `s` but for the record of one die, the record of its channel and what was sent on the bus, newest first. -/
structure MicroDone (die : Nat) (d : Die) (ch : Channel) (sent : List Out) (s t : State) : Prop where
  record : findDie t die = some d
  otherDies : ∀ k, k ≠ die → findDie t k = findDie s k
  chan : chanOf t (die / 32) = ch
  otherChans : ∀ k, k ≠ die / 32 → chanOf t k = chanOf s k
  sent : t.out = sent ++ s.out
  rest : t = { s with med := { s.med with dies := t.med.dies, channels := t.med.channels }, out := t.out }

/-- The same, with events logged. -/
def MicroTold (die : Nat) (d : Die) (ch : Channel) (sent : List Out) (es : List (BitVec 16 × UnitId × BitVec 64))
    (s t : State) : Prop :=
  Logged es s t ∧ ∃ u, MicroDone die d ch sent s u ∧ t = { u with evr := t.evr, pins := t.pins }

/-- The 256 bytes of a response (R121): status, length of the results, the request's tag, the results. -/
def responseBytes (m : Nat) (status : BitVec 16) (results : List Byte) (b : Mailboxes) : List Byte :=
  padTo 256 (leBytes 2 status.toNat ++ leBytes 2 results.length ++ memRange b.mem (mbxBase m + 4) 4 ++ results)

/-- From `a` to `b` mailbox `m` got the answer to its request: DONE with the status, the response written whole; no
other byte and no other mailbox has changed (R121, R125). -/
structure Answered (m : Nat) (status : BitVec 16) (results : List Byte) (a b : Mailboxes) : Prop where
  done : (b.box.getD m Mbx.reset).state = .done
  code : (b.box.getD m Mbx.reset).code = status
  area : ∀ k, k < 256 → memRead b.mem (mbxBase m + 0x100 + k) = (responseBytes m status results a).getD k 0
  bytes : ∀ p, p < mbxBase m + 0x100 ∨ mbxBase m + 0x200 ≤ p → memRead b.mem p = memRead a.mem p
  others : ∀ k, k ≠ m → b.box.getD k Mbx.reset = a.box.getD k Mbx.reset

/-- Firmware serves a request of opcode `op` in mailbox `m` (R119, R126). -/
structure Asked (m : Nat) (op : BitVec 16) (s : State) : Prop where
  serves : serving s = true
  waits : waitsFor s m op = true
  boxes : s.mbx.box.length = 16

/-- From `a` to `b` one long command was accepted under handle `v`: a free slot with the current generation, and the
generation counts on (R129). -/
structure Issued (v : BitVec 32) (h : Handle) (a b : Handles) : Prop where
  value : h.value = v
  slot : ∀ x ∈ a.live, x.value.toNat % 256 ≠ v.toNat % 256
  number : a.generation < 0x1000000 → v.toNat / 256 = a.generation
  table : b = { a with live := a.live ++ [h], generation := nextGeneration a.generation }

/-- The command ends by answering mailbox `m`: `t` is `u` with the answer, and with the interrupt it may have raised or,
masked, left pending (R91, R121, R125, R135). -/
def Replied (m : Nat) (status : BitVec 16) (results : List Byte) (u t : State) : Prop :=
  Answered m status results u.mbx t.mbx ∧ t = { u with mbx := t.mbx, nv := { u.nv with pba := t.nv.pba }, out := t.out }

/-- The request in mailbox `m` was accepted as a long command: `u` holds its handle, and `t` answers ACCEPTED with the
handle at offset 8 (R126, R129). -/
def Accepted (m : Nat) (op : BitVec 16) (past : Bool) (subject aux : Nat) (v : BitVec 32) (s u t : State) : Prop :=
  Issued v ⟨v, op, m, (boxOf s m).ringPath, s.clk.us, past, subject, aux⟩ s.hnd u.hnd ∧
    Replied m stAccepted (leBytes 4 v.toNat) u t

/-- From `s` to `t` the message of a vector was sent: by MSI where the host has enabled it, by MSI-X where that is enabled;
a masked MSI-X vector has its pending bit set instead (R89, R91). -/
def Notified (v : Nat) (s t : State) : Prop :=
  let masked := s.nv.msixMasked || vectorMasked s v
  t.out = (if s.nv.msiEnabled then .msi s.nv.msiAddress s.nv.msiData :: s.out
    else if s.nv.msixEnabled && !masked then .msix v :: s.out else s.out) ∧
  t.nv.pba = (if s.nv.msiEnabled = false ∧ s.nv.msixEnabled = true ∧ masked = true ∧ v ∉ s.nv.pba then s.nv.pba ++ [v]
    else s.nv.pba)

/-- A fetched NVMe command that has not begun, of opcode `op`, while firmware serves (R94, R33). -/
structure Begins (s : State) (sq : Nat) (cid : BitVec 16) (op : Nat) (c : Cmd) : Prop where
  serves : serving s = true
  found : findCmd s sq cid = some c
  fresh : c.stage = .fetched
  opcode : c.sqe.opcode.toNat = op

/-- The NVMe command that a step of `i` ends: it completes on the state `u` with a status and two result Dwords, and
what waits is fetched (R94, R117). -/
def Ends (i : Instr) (s : State) (sq : Nat) (cid : BitVec 16) (sct sc : Nat) (dnr : Bool) (dw0 dw1 : BitVec 32)
    (u : State) : Prop :=
  exec i s = .next (fetchAll (completeCmd sq cid sct sc dnr dw0 dw1 u))

end Sys2Proof.Safety
end

