-- ==== Sys2Proof/Certificates/Slice0/Obligations.lean ====
section
/-! DEFINITION. What is claimed of the model, for the provers. Every statement holds for every state that meets its
hypotheses, whether or not a run reaches it. -/

open Sys2Proof Sys2Proof.Machine Sys2Proof.Safety

/-- A step takes the command at the front of the queue and answers what the command answers on the state with the
queue's rest. -/
def Obligations.StepRunsCommand : Prop :=
  ∀ (c : Instr) (s : State), step { s with pending := c :: s.pending } = exec c s

/-- R319, R341, with log entry 2 (the model's choice): on an empty queue one microsecond passes: the counters of the
always-on island count, wall-clock time with them, and a lost stream record is rebuilt while the Clove cores run.
Where it rests on log entries 2 and 52 it states the model's choice. -/
def Obligations.IdleTicks : Prop :=
  ∀ s : State, s.pending = [] → ∃ t, step s = .next t ∧
    t.clk.us = (s.clk.us + 1) % 2 ^ 48 ∧
    (s.clk.rtcFrac < 1000000 → t.clk.rtcFrac < 1000000 ∧
      (t.clk.rtc = s.clk.rtc ∧ t.clk.rtcFrac = s.clk.rtcFrac + 32768 ∨
        t.clk.rtc = (s.clk.rtc + 1) % 2 ^ 48 ∧ t.clk.rtcFrac + 1000000 = s.clk.rtcFrac + 32768)) ∧
    (s.clk.utc = none → t.clk.utc = none) ∧ (∀ x, s.clk.utc = some x → t.clk.utc = some (x + 1)) ∧
    (s.life.stop ≠ none → t.str = s.str) ∧
    (s.life.stop = none → t.str.list = s.str.list.map fun x => { x with rebuilding := false }) ∧
    t = { s with
      clk := { s.clk with us := t.clk.us, rtc := t.clk.rtc, rtcFrac := t.clk.rtcFrac, utc := t.clk.utc }
      str := { s.str with list := t.str.list } }

/-- R119, R129, R132, R384, R385: what reset leaves: no command waits, every mailbox is IDLE, no handle is live and
the first generation is 1, ring and FIFO are empty, every token bucket is full, and the state is sound. Where it rests
on log entry 4 it states the model's choice. -/
def Obligations.ResetState : Prop :=
  let s := State.reset
  Safety.Sound s ∧ s.pending = [] ∧ s.life.phase = .inReset ∧ s.clk.us = 0 ∧ s.mbx.box = List.replicate 16 Mbx.reset ∧
    Mbx.reset.state = .idle ∧ s.hnd.live = [] ∧ s.hnd.generation = 1 ∧ s.crg.tail = 0 ∧ s.crg.unreadPcie = 0 ∧
    s.crg.unreadI3c = 0 ∧ s.str.list = [] ∧ s.link.state = .down ∧ s.evr.fifo = [] ∧ s.evr.mode = .ring ∧
    (∀ code, (bucketOf s.evr code).tokens = 64 ∧ (bucketOf s.evr code).rate = 16 ∧ (bucketOf s.evr code).burst = 64)

/-- No command is refused, and none but a microword that breaks R220, R223 or R227 stops the machine; the queue's rest
is the sender's, and only a power-up changes what the module is made of (R17, R343). Where it rests on log entry 162
it states the model's choice. -/
def Obligations.CommandsRun : Prop :=
  ∀ (c : Instr) (s : State),
    (∀ r, exec c s ≠ .refused r) ∧
    (microOf c = none → ∃ t, exec c s = .next t) ∧
    (∀ t, exec c s = .next t → t.pending = s.pending ∧ ((∀ b, c ≠ .powerUp b) → t.board = s.board))

/-- R119, R129, R130, R132 to R134, R385: every step, whatever the command, keeps a sound state sound. -/
def Obligations.StepsKeepSound : Prop :=
  ∀ s t : State, Safety.Sound s → step s = .next t → Safety.Sound t

/-- R283, R284: every row and column of a block's array has even parity; one flipped bit of the 585 is found and put
right where it lies, two are always found and never taken for one; a block that cannot be corrected is poisoned. -/
def Obligations.GridCode : Prop :=
  ∀ (bank block : Nat),
    let parity (n : Nat) (f : Nat → Bool) : Bool := ((List.range n).map f).foldl xor false
    let row (p : Nat) := if p < 512 then p / 64 else if p < 520 then p - 512 else 8
    let col (p : Nat) := if p < 512 then p % 64 else if p < 520 then 64 else if p < 584 then p - 520 else 64
    (∀ d : BitVec 512,
      let b := encodeBlock bank block d
      (∀ i < 8, b.row.getLsbD i = parity 64 fun j => d.getLsbD (64 * i + j)) ∧
      (∀ j < 64, b.col.getLsbD j = parity 8 fun i => d.getLsbD (64 * i + j)) ∧
      b.corner = parity 64 b.col.getLsbD ∧ b.corner = parity 512 d.getLsbD ∧
      gridCheck b = .intact ∧
      (∀ p < 585, gridCheck (flipAt p b) = .corrected p ∧ flipAt p (flipAt p b) = b) ∧
      (∀ p q, p < q → q < 585 → gridCheck (flipAt q (flipAt p b)) =
        .uncorrectable (if row p = row q then 0 else 2) (if col p = col q then 0 else 2))) ∧
    (∀ (s : State) (x : SramBlock) (scrub part : Bool) (who : Nat), findBlock s bank block = some x → x.poison = false →
      let flags := (if scrub then 1 else 0) + (if x.injected then 2 else 0) + if part then 4 else 0
      let reads (t : State) (r : Option (BitVec 512)) : Prop := checkBlock bank block scrub part who s = (t, r)
      (gridCheck x = .intact → reads s (some x.data)) ∧
      (∀ p, gridCheck x = .corrected p → ∃ t, reads t (some (flipAt p x).data) ∧ gridCheck (flipAt p x) = .intact ∧
        (p < 512 → ∀ k < 512, (flipAt p x).data.getLsbD k = (x.data.getLsbD k ^^ decide (k = p))) ∧
        (512 ≤ p → (flipAt p x).data = x.data) ∧
        (∀ y, findBlock t bank block = some y → y = { flipAt p x with injected := false }) ∧
        Logged [(0x0801, bankUnit bank, evData [(4, block), (2, p), (1, flags), (1, 0)])] s t) ∧
      (∀ r c, gridCheck x = .uncorrectable r c → ∃ t, reads t none ∧
        findBlock t bank block = some { x with poison := true } ∧
        Logged [(0x0802, bankUnit bank, evData [(4, block), (1, r), (1, c), (1, flags), (1, who)])] s t))

/-- R222, R223, R227: the four fields of a microword lie where R222 puts them and nothing of them is lost; the
microword of every Cumin command carries one of the opcodes 0x00 to 0x2B, and is matched by its own fields. The words
of the manual's example routine (R228) are those of the commands that stand for them. R222: register 0 reads 0,
registers 13, 14 and 15 read TIME, GEN and JOB, and a register written through `writeReg`, if it is one of 1 to 10,
reads what was written, every other register what it read before. -/
def Obligations.MicrowordFormat : Prop :=
  ((∀ f : MicroFields, decodeMicro (encodeMicro f) = f) ∧
  (∀ w : BitVec 32, encodeMicro (decodeMicro w) = w ∧ (decodeMicro w).op.toNat = w.toNat / 2 ^ 26 ∧
    (decodeMicro w).dst.toNat = w.toNat / 2 ^ 22 % 16 ∧ (decodeMicro w).src.toNat = w.toNat / 2 ^ 18 % 16 ∧
    (decodeMicro w).imm.toNat = w.toNat % 2 ^ 18 ∧ (reservedMicro w = true ↔ 0x2C * 2 ^ 26 ≤ w.toNat)) ∧
  (∀ (i : Instr) (f : MicroFields), microOf i = some f → reservedMicro (encodeMicro f) = false ∧
    spells (encodeMicro f) f.op.toNat (some f.dst.toNat) (some f.src.toNat) (some f.imm.toNat) = true)) ∧
  (∀ (die : Fin 1024) (ok : Bool),
    (microOf (.cuAddr die 3 7)).map encodeMicro = some 0x60DC0000#32 ∧
    (microOf (.cuDout die 18432 ok)).map encodeMicro = some 0x64004800#32 ∧
    (microOf (.cuCommit die)).map encodeMicro = some 0x88000000#32 ∧
    (microOf (.cuBbs die 6 10 0x423)).map encodeMicro = some 0x41A80423#32) ∧
  (∀ (s : State) (d : Die) (c : Context) (n k : Fin 16) (v : Word32), c.regs.length = 16 →
    readReg s d c 0 = 0 ∧
    readReg s d c 13 = BitVec.ofNat 32 (s.clk.us - c.startedUs) ∧
    readReg s d c 14 = BitVec.ofNat 32 d.featureGen ∧
    readReg s d c 15 = c.job.id ∧
    (∀ a rest, c.stack = a :: rest → readReg s d c 12 = BitVec.ofNat 32 a) ∧
    readReg s d (writeReg n v c) k = if k = n ∧ 1 ≤ n.val ∧ n.val ≤ 10 then v else readReg s d c k)

/-- R122, R123, R124: CLAIM takes a mailbox nobody owns that is not BUSY, RELEASE ends the writer's ownership unless
BUSY, OVERRUN is cleared by its owner, ownership ends 1 s after DONE. Nothing but that mailbox's register changes,
beside the resume that any access brings (R327). R91, R123, R135, R8: a 4-byte read of MBX_STATUS returns it and, in
DONE, notes the DONE as read and re-arms the path's interrupt, which goes out again at once while something is unread,
or is left pending where its vector is masked; a read of another width has no side effect. Where it rests on log
entries 34 and 35 it states the model's choice. -/
def Obligations.MailboxOwnership : Prop :=
  (∀ (s : State) (p : Path) (m : Fin 16),
    let sets (i : Instr) (u : State) (x : Mbx) : Prop :=
      exec i s = .next { u with mbx := { u.mbx with box := u.mbx.box.set m x } }
    let u := wakeByAccess s
    let b := boxOf u m
    (mailboxLive s p m = true →
      sets (.mbxClaim p m) u (if b.owner = none ∧ b.state ≠ .busy then { b with owner := some p } else b) ∧
      sets (.mbxRelease p m) u (if b.owner = some p ∧ b.state ≠ .busy then { b with owner := none } else b) ∧
      sets (.mbxOverrunClear p m) u (if b.owner = some p then { b with overrun := false } else b)) ∧
    sets (.mbxOwnershipTimeout m) s
      (if (boxOf s m).state = .done then { boxOf s m with owner := none } else boxOf s m)) ∧
  (∀ (s : State) (m : Fin 16), s.life.phase = .service →
    let b := boxOf s m
    let read (x : Mbx) (q : Path) : Mbx := { x with unreadDone := x.unreadDone && x.owner != some q }
    (∃ t more, exec (.mbxStatusRead .pcie m 4) s = .next t ∧
      t.out = more ++ .regRead (mbxBase m + 0x204) (BitVec.ofNat 64 (mbxStatus b)) :: s.out ∧
      t.mbx.box = (if b.state = .done then s.mbx.box.set m (read b .pcie) else s.mbx.box) ∧
      (b.state = .done → t.mbx.msixArmed = !pcieUnread t ∧ (t.mbx.msixArmed = false →
        (s.nv.msiEnabled = true → .msi s.nv.msiAddress s.nv.msiData ∈ more) ∧
        (s.nv.msiEnabled = false → s.nv.msixEnabled = true →
          if s.nv.msixMasked = true ∨ vectorMasked s s.crg.vector = true then s.crg.vector ∈ t.nv.pba
          else .msix s.crg.vector ∈ more))) ∧
      (b.state ≠ .done → t.mbx = s.mbx ∧ t.nv = s.nv ∧ more = []) ∧
      t = { s with
        mbx := { s.mbx with box := t.mbx.box, msixArmed := t.mbx.msixArmed, ibiArmed := t.mbx.ibiArmed }
        nv := { s.nv with pba := t.nv.pba }, out := t.out, free := s.free + 1 }) ∧
    (∃ value, exec (.mbxStatusRead .pcie m 8) s =
      .next { s with out := .regRead (mbxBase m + 0x204) value :: s.out, free := s.free + 1 }) ∧
    (m.val < 2 → s.i3c.addr ≠ none → s.life.fwStart = true →
      let u := wakeByAccess s
      let b := boxOf u m
      ∃ t more, exec (.mbxStatusRead .i3c m 4) s = .next t ∧
      t.out = more ++ .i3cData (leBytes 4 (mbxStatus b)) :: u.out ∧
      t.mbx.box = (if b.state = .done then u.mbx.box.set m (read b .i3c) else u.mbx.box) ∧
      t = { u with
        mbx := { u.mbx with box := t.mbx.box, msixArmed := t.mbx.msixArmed, ibiArmed := t.mbx.ibiArmed }
        nv := { u.nv with pba := t.nv.pba }, out := t.out }))

/-- R123, R124, R126, R33: a RING on an unowned mailbox claims it and starts the next request; one while BUSY sets
OVERRUN; one from a path that does not own the mailbox is ignored. The request waits for its command, is answered with
the first check it fails, or is LATCHED while firmware does not serve. R126: the order of the checks and the status of
each. Where it rests on log entry 37 it states the model's choice. -/
def Obligations.MailboxRings : Prop :=
  (∀ (s : State) (p : Path) (m : Fin 16) (irq : Bool), Sound s → doorbellLive s p m = true → reaches s p m = true →
    let u := wakeByAccess s
    let b := boxOf u m
    let put (x : Mbx) : State := { u with mbx := { u.mbx with box := u.mbx.box.set m x } }
    let busy : Mbx := { b with owner := some p, state := .busy, irq := irq, ringPath := p, unreadDone := false }
    (b.owner ≠ none → b.owner ≠ some p → exec (.mbxRing p m irq) s = .next u) ∧
    (b.owner = none ∨ b.owner = some p →
      (b.state = .busy → exec (.mbxRing p m irq) s = .next (put { b with overrun := true })) ∧
      (b.state ≠ .busy → serving s = true → requestFault (put busy) p m = none →
        exec (.mbxRing p m irq) s = .next (put busy)) ∧
      (b.state ≠ .busy → serving s = true → ∀ st, requestFault (put busy) p m = some st →
        ∃ t, exec (.mbxRing p m irq) s = .next t ∧ Replied m st [] (put busy) t) ∧
      (b.state ≠ .busy → s.life.phase = .service → serving s = false →
        exec (.mbxRing p m irq) s = .next (put { busy with latched := true })) ∧
      (b.state ≠ .busy → s.life.phase = .lossFlush → ∃ t, exec (.mbxRing p m irq) s = .next t ∧
        Replied m stPowerLoss [] (put busy) t))) ∧
  (∀ (s : State) (p : Path) (m : Nat),
    let op := reqOpcode s m
    (lorardRow op = none → requestFault s p m = some 0x0010) ∧
    ∀ r, lorardRow op = some r → s.sec.port ≠ .opened →
      (r.pcieOnly = true → p = .i3c → requestFault s p m = some 0x0051) ∧
      ((r.pcieOnly = false ∨ p = .pcie) →
        (reqField s m 2 2 ≠ r.length → requestFault s p m = some 0x0012) ∧
        (reqField s m 2 2 = r.length →
          (paramsOk s (reqField s m) r.opcode = false → requestFault s p m = some 0x0011) ∧
          (paramsOk s (reqField s m) r.opcode = true →
            requestFault s p m = if milestoneOk s r.milestone then none else some 0x0040))))

/-- R132, R134, R135: enabling a consumer sets its head to TAIL; a head write marks entries read, and one outside the
span from head to TAIL changes nothing of the ring; OVERFLOW is cleared; the interrupt of the path is re-armed and
goes out again while something is unread. With an empty backlog nothing else of the ring moves. -/
def Obligations.RingConsumers : Prop :=
  ∀ (s : State) (value : BitVec 32) (path : Path), s.life.phase = .service →
    let u := wakeByAccess s
    let r := u.crg
    let moved (head unread : Nat) (en : Bool) : Nat × Nat :=
      let v := value.toNat % 1024
      let span := if en then unread else (r.tail + 1024 - head) % 1024
      if v = r.tail then (v, 0)
      else if (v + 1024 - head) % 1024 ≤ span then (v, unread - (v + 1024 - head) % 1024) else (head, unread)
    let ring (i : Instr) (x : Ring) (f : Mailboxes → Bool) : Prop := ∃ t, exec i s = .next t ∧
      (r.backlog = [] → t.crg = x ∧
        t = { u with
          crg := x, mbx := { u.mbx with msixArmed := t.mbx.msixArmed, ibiArmed := t.mbx.ibiArmed }
          nv := { u.nv with pba := t.nv.pba }, out := t.out } ∧
        f t.mbx = true)
    ring (.crgHeadPcieWrite value)
      { r with headPcie := (moved r.headPcie r.unreadPcie r.pcieEn).1, unreadPcie := (moved r.headPcie r.unreadPcie r.pcieEn).2 }
      (fun m => m.msixArmed == !pcieUnread { u with mbx := m, crg := { r with
        headPcie := (moved r.headPcie r.unreadPcie r.pcieEn).1, unreadPcie := (moved r.headPcie r.unreadPcie r.pcieEn).2 } }) ∧
    ring .crgPcieEnable
      (if r.pcieEn then r else { r with pcieEn := true, headPcie := r.tail, unreadPcie := 0 }) (fun _ => true) ∧
    (s.i3c.addr ≠ none →
      ring (.crgHeadI3cWrite value)
        { r with headI3c := (moved r.headI3c r.unreadI3c r.i3cEn).1, unreadI3c := (moved r.headI3c r.unreadI3c r.i3cEn).2 }
        (fun _ => true) ∧
      ring .crgI3cEnable
        (if r.i3cEn then r else { r with i3cEn := true, headI3c := r.tail, unreadI3c := 0 }) (fun _ => true)) ∧
    (path = .pcie ∨ s.i3c.addr ≠ none →
      exec (.crgOverflowClear path) s = .next { u with crg := { r with overflow := false } })

/-- R130, R133, R134: a live handle's completion. With a free slot it is written at TAIL with the present phase bit
and entry number, TAIL moves on, the phase bit inverts at the wrap, active consumers have one more unread, the handle
is retired with its final status and its slot is free; without one it waits, last, in the backlog and the handle stays
live. R134: slots that come free take the backlog's entries in posting order until none waits or no slot is free.
Where it rests on log entry 30 it states the model's choice. -/
def Obligations.Completions : Prop :=
  (∀ (s : State) (v : BitVec 32) (h : Handle) (status : BitVec 16) (result : BitVec 128),
    findHandle s v = some h → completing s v = false →
    let r := s.crg
    let body : RingBody := ⟨1, h.path == .i3c, status, v, h.opcode, h.mbx, if status = 0 then result else 0⟩
    let t := completeHandle v status result s
    (r.backlog = [] → slotFree r = true →
      (t.crg.slots.find? fun e => e.1 == r.tail) = some (r.tail, ⟨body, r.phase, r.number⟩) ∧
      (∀ k, k ≠ r.tail → (t.crg.slots.find? fun e => e.1 == k) = r.slots.find? fun e => e.1 == k) ∧
      t.crg.tail = (r.tail + 1) % 1024 ∧ t.crg.phase = (if r.tail = 1023 then !r.phase else r.phase) ∧
      t.crg.number = r.number + 1 ∧
      t.crg.unreadPcie = (if r.pcieEn then r.unreadPcie + 1 else r.unreadPcie) ∧
      t.crg.unreadI3c = (if r.i3cEn then r.unreadI3c + 1 else r.unreadI3c) ∧
      findHandle t v = none ∧ (∀ w, w ≠ v → findHandle t w = findHandle s w) ∧
      t.hnd.retired.head? = some ⟨v, h.opcode, status, (s.clk.us - h.acceptedUs) / 1000⟩) ∧
    (r.backlog ≠ [] ∨ slotFree r = false → t = { s with crg := { r with backlog := r.backlog ++ [body] } }) ∧
    t = { s with mbx := t.mbx, crg := t.crg, hnd := t.hnd, nv := { s.nv with pba := t.nv.pba }, out := t.out }) ∧
  (∀ s : State, s.crg.tail < 1024 → ∃ k ≤ s.crg.backlog.length,
    let r := s.crg
    let t := refillRing s
    t.crg.backlog = r.backlog.drop k ∧ (k < r.backlog.length → slotFree t.crg = false) ∧
    t.crg.tail = (r.tail + k) % 1024 ∧ t.crg.number = r.number + BitVec.ofNat 32 k ∧
    t.crg.unreadPcie = (if r.pcieEn then r.unreadPcie + k else r.unreadPcie) ∧
    t.crg.unreadI3c = (if r.i3cEn then r.unreadI3c + k else r.unreadI3c) ∧
    (k ≤ 1024 → ∀ i, i < k → ((t.crg.slots.find? fun e => e.1 == (r.tail + i) % 1024).map fun e => e.2.body) = r.backlog[i]?) ∧
    (∀ b ∈ r.backlog.take k, b.type = 1 → findHandle t b.subject = none) ∧
    t = { s with crg := t.crg, hnd := t.hnd })

/-- R130, R131, R140: HANDLE_QUERY reports a live handle with its progress of 0 to 99, a retired and an unknown one;
CANCEL before the cancel point completes the handle CANCELLED and answers OK, later it answers TOO_LATE, and
HOST_ABORT_RACE is logged for a handle that was live. R131, R140, R324, R335, R404, R407: what a cancelled command's
acceptance had prepared is undone: the power request, the hold-up test, the link as it was found, the discard not yet
accepted, the demanded test that waits, the image received, the challenge spent, the patch load; every other command
leaves nothing behind. Where it rests on log entries 31, 33, 44 and 155 it states the model's choice. -/
def Obligations.Cancels : Prop :=
  (∀ (s : State) (m : Fin 16), Sound s →
    let v : BitVec 32 := BitVec.ofNat 32 (reqField s m 8 4)
    (Asked m 0x00F1 s → ∃ t r, exec (.handleQuery m) s = .next t ∧ Replied m stOk r s t ∧
      (∀ h, findHandle s v = some h → ∃ p ≤ 99, r = [0, BitVec.ofNat 8 p] ++ leBytes 2 h.opcode.toNat ++ [0, 0, 0, 0] ++
        leBytes 4 ((s.clk.us - h.acceptedUs) / 1000) ∧
        (h.opcode = 0x00A0 → p = min 99 (s.sec.staged * 100 / max 1 h.aux)) ∧
        (h.opcode ≠ 0x0072 → h.opcode ≠ 0x00A0 → p = 0)) ∧
      (findHandle s v = none → ∀ x, (s.hnd.retired.find? fun x => x.value == v) = some x →
        r = [1, 100] ++ leBytes 2 x.opcode.toNat ++ leBytes 2 x.status.toNat ++ [0, 0] ++ leBytes 4 x.ms) ∧
      (findHandle s v = none → (s.hnd.retired.find? fun x => x.value == v) = none →
        r = [2, 0, 0, 0, 0, 0, 0, 0, 0, 0, 0, 0])) ∧
    (Asked m 0x00F0 s →
      (findHandle s v = none → ∃ t, exec (.cancel m) s = .next t ∧ Replied m stTooLate [] s t) ∧
      ∀ h, findHandle s v = some h →
        (h.past = false → completing s v = false → ∃ t, exec (.cancel m) s = .next t ∧
          Replied m stOk [] (completeHandle v stCancelled 0 (undo h s)) t) ∧
        (h.past = true ∨ completing s v = true → ∃ t u, exec (.cancel m) s = .next t ∧
          Logged [(0x0301, blockUnit (0x20 + Config.choice s.free % 4),
            evData [(1, 1), (1, 0), (2, m), (4, v.toNat)])] s u ∧
          u = { s with evr := u.evr, pins := u.pins, free := s.free + 1 } ∧ Replied m stTooLate [] u t))) ∧
  (∀ (s : State) (h : Handle),
    (h.opcode = 0x0020 → undo h s = { s with pwr := { s.pwr with
      depthLorard := h.aux % 8, wakeSources := BitVec.ofNat 8 (h.aux / 8), timerWake := h.aux / 2048, entering := false } }) ∧
    (h.opcode = 0x0072 → undo h s = { s with ord := (undo h s).ord } ∧ (undo h s).ord = { s.ord with
      waiting := (undo h s).ord.waiting } ∧
      ∀ w : Write, .write w ∈ (undo h s).ord.waiting ↔
        .write w ∈ s.ord.waiting ∧ ¬ (w.kind = .secureDiscard ∧ w.src = .discard h.value)) ∧
    (h.opcode = 0x0090 ∨ h.opcode = 0x0092 → undo h s = { s with st := { s.st with
      waiting := s.st.waiting.filter fun t => t.handle != some h.value } }) ∧
    (h.opcode = 0x0021 → undo h s = { s with hup := { s.hup with run := (undo h s).hup.run } } ∧
      ∀ r, s.hup.run = some r → (undo h s).hup.run = if r.scheduled then some { r with handle := none } else none) ∧
    (h.opcode = 0x0040 → ∀ b, s.link.before = some b → let l := (undo h s).link
      l.state = .down ∧ l.window = b.window ∧ l.forceFull = b.forceFull ∧ l.epoch = b.epoch ∧ l.granted = b.granted ∧
      l.consumed = b.consumed ∧ l.entered = b.entered ∧ l.skew = b.skew ∧ l.retrains = b.retrains ∧ l.before = none ∧
      (b.counts.length = s.link.lanes.length → l.lanes.map (fun x => (x.uncorr, x.corr, x.fom)) = b.counts)) ∧
    (h.opcode = 0x00A0 → undo h s = { s with sec := { s.sec with staging := none, staged := 0 } }) ∧
    (h.opcode = 0x00B1 → undo h s = { s with sec := { s.sec with
      challenge := s.sec.challenge <|> s.sec.spent, spent := none } }) ∧
    (h.opcode = 0x00A2 → (undo h s).med.load = none ∧ (undo h s).med.toLoad = [] ∧ (undo h s).med.loaded = [] ∧
      (∀ ch ∈ s.med.toLoad, (chanOf (undo h s) ch).state ≠ .loading) ∧ undo h s = { s with med := (undo h s).med }) ∧
    (h.opcode ∈ [0x0002, 0x0030, 0x0042, 0x0091, 0x00A1, 0x00A3, 0x00B0] → undo h s = s))

/-- R127, R135, R136: the CCCs the target answers. SETMWL and SETMRL are held to the 258 and 256 bytes of R127 (log
entry 100); the two bytes of GETSTATUS and the third of GETMRL are no rule of the spec (log entries 60 and 99). R124,
R128: a private write sets the offset and writes whole words; one to the request area of mailbox 0 or 1 changes those
four bytes and no other when I3C owns the mailbox and it is not BUSY, and nothing otherwise; an offset that is not a
multiple of 4 writes nothing. A private read returns the bytes from the offset of the last write, at most the read
length. Where it rests on log entries 38, 39, 40, 41, 60, 99, 100 and 174 it states the model's choice. -/
def Obligations.I3cTransfers : Prop :=
  (∀ (s : State) (len : BitVec 16) (a : BitVec 7) (action : BitVec 8), Awake s → i3cServed s = true → s.life.phase = .service →
    let target (i : Instr) (x : I3cTarget) : Prop := exec i s = .next { s with i3c := x }
    let sends (i : Instr) (b : List (BitVec 8)) : Prop := exec i s = .next { s with out := .i3cData b :: s.out }
    let path (i : Instr) (x : I3cTarget) : Prop := ∃ t, exec i s = .next t ∧ t.i3c = x ∧ t.crg.i3cEn = false ∧
      (∀ k, k < s.mbx.box.length → boxOf t k = if (boxOf s k).owner = some .i3c
        then { boxOf s k with owner := none, unreadDone := false } else boxOf s k) ∧
      (s.crg.backlog = [] → t.crg = { s.crg with i3cEn := false, unreadI3c := 0 }) ∧
      t.mbx.ibiArmed = true ∧ t = { s with
        i3c := t.i3c, crg := t.crg, hnd := t.hnd, nv := { s.nv with pba := t.nv.pba }, out := t.out
        mbx := { s.mbx with box := t.mbx.box, msixArmed := t.mbx.msixArmed, ibiArmed := t.mbx.ibiArmed } }
    target .enec { s.i3c with ibiOn := true } ∧ target .disec { s.i3c with ibiOn := false } ∧
    (s.i3c.addr = none → target (.entdaa a) { s.i3c with addr := some a } ∧
      target (.setdasa 0x2C a) { s.i3c with addr := some a } ∧
      exec .getbcr s = .next { s with out := .i3cNack :: s.out }) ∧
    path .rstdaa { s.i3c with addr := none } ∧ path (.rstact action) s.i3c ∧
    (s.i3c.addr ≠ none →
      (len.toNat ≤ 258 → target (.setmwl len) { s.i3c with mwl := len }) ∧
      (len.toNat ≤ 256 → target (.setmrl len) { s.i3c with mrl := len }) ∧
      sends .getmwl [s.i3c.mwl.extractLsb' 8 8, s.i3c.mwl.extractLsb' 0 8] ∧
      sends .getmrl [s.i3c.mrl.extractLsb' 8 8, s.i3c.mrl.extractLsb' 0 8, 1] ∧
      sends .getpid ((List.range 6).map fun k => s.i3c.pid.extractLsb' (40 - 8 * k) 8) ∧
      sends .getbcr [0x06] ∧ sends .getdcr [0x00] ∧
      ∃ b c, exec .getstatus s = .next { s with out := .i3cData [b, c] :: s.out, free := s.free + 1 })) ∧
  (∀ (s : State) (lo hi a b c d : BitVec 8) (rest : List (BitVec 8)) (m o count : Nat),
    Awake s → i3cServed s = true → s.life.phase = .service → s.i3c.addr ≠ none → 6 + rest.length ≤ s.i3c.mwl.toNat →
    let w := lo.toNat + 256 * hi.toNat
    let i : Instr := .i3cPrivateWrite (lo :: hi :: a :: b :: c :: d :: rest)
    (w % 4 ≠ 0 → exec i s = .next s) ∧
    (m < 2 → o < 0x100 → o % 4 = 0 → w = m * 0x400 + o → rest.length < 4 →
      ∃ t, exec i s = .next t ∧ t = { s with i3c := { s.i3c with offset := w }, mbx := { s.mbx with mem := t.mbx.mem } } ∧
      ∀ p, memRead t.mbx.mem p =
        if (boxOf s m).owner = some .i3c ∧ (boxOf s m).state ≠ .busy ∧ mbxBase m + o ≤ p ∧ p < mbxBase m + o + 4
        then [a, b, c, d].getD (p - (mbxBase m + o)) 0 else memRead s.mbx.mem p) ∧
    (¬ (s.i3c.offset < 0x800 ∧ s.i3c.offset % 0x400 = 0x204) →
      exec (.i3cPrivateRead count) s = .next { s with
        out := .i3cData ((List.range (min count s.i3c.mrl.toNat)).map fun k => windowByte s (s.i3c.offset + k)) :: s.out }))

/-- R341, R417, R418, R420: ID_SUBSYS until the boot lock, PWR_PLL.FAIL cleared by ones; a write to any other field of
the identification block is discarded. R115, R91, R92, R412: the controller registers that hold queue addresses, and
the MSI-X table, change as written; a vector that a write unmasks is pending no longer. Where it rests on log entries
10, 11, 36 and 173 it states the model's choice. -/
def Obligations.RegisterWrites : Prop :=
  (∀ (s : State) (value : BitVec 32) (p : Path) (o : Nat), s.life.phase = .service → Awake s →
    exec (.idSubsysWrite value) s = .next (if s.reg.lock then s else { s with reg := { s.reg with
      subVendor := value.extractLsb' 0 16, subSystem := value.extractLsb' 16 16 } }) ∧
    exec (.pwrPllFailClear value) s = .next { s with pwr := { s.pwr with
      pllFail := s.pwr.pllFail &&& ~~~ (value.extractLsb' 16 8) } } ∧
    exec (.registerWrite .drs .pcie 0x30 4 (value.setWidth 64)) s = exec (.idSubsysWrite value) s ∧
    exec (.registerWrite .drs .pcie 0x21000C 4 (value.setWidth 64)) s = exec (.pwrPllFailClear value) s ∧
    exec (.registerWrite .drs .pcie 0x18004 4 (value.setWidth 64)) s = exec (.crgHeadPcieWrite value) s ∧
    (o % 4 = 0 → o < 0x1000 → o ≠ 0x30 → exec (.registerWrite .drs .pcie o 4 (value.setWidth 64)) s = .next s) ∧
    exec (.registerWrite .drs p o 2 (value.setWidth 64)) s = .next s) ∧
  (∀ (s : State) (value : BitVec 64) (o : Nat), nvmeReachable s = true →
    let nv (i : Instr) (x : Nvme) : Prop := exec i s = .next { s with nv := x }
    nv (.registerWrite .nvme .pcie 0x28 8 value) { s.nv with asq := value } ∧
    nv (.registerWrite .nvme .pcie 0x30 8 value) { s.nv with acq := value } ∧
    nv (.registerWrite .nvme .pcie 0x24 4 value) { s.nv with aqa := value.setWidth 32 } ∧
    exec (.registerWrite .nvme .i3c o 4 value) s = .next s ∧
    (o % 4 = 0 → o < 0x8000 → ∃ t, exec (.registerWrite .msix .pcie o 4 value) s = .next t ∧
      t = { s with nv := { s.nv with msix := t.nv.msix, pba := t.nv.pba }, out := t.out } ∧
      (∀ p, msixByte t p = if o ≤ p ∧ p < o + 4 then (value.extractLsb' (8 * (p - o)) 8) else msixByte s p) ∧
      ∀ v, v ∈ t.nv.pba ↔ v ∈ s.nv.pba ∧ ¬ (s.nv.msixEnabled = true ∧ s.nv.msixMasked = false ∧ vectorMasked t v = false)))

/-- R8, R90, R92, R93, R414, R416: a read returns the register; a 4-byte read over PCIe clears the RC fields of R414;
a LO read keeps the high half for the port's next HI read, and the two ports keep their own. CAP, VS, ASQ and ACQ read
as R93 and R92 say, NSSR and the registers not offered as zero, and the class code of configuration space is 0x010802.
Where it rests on log entries 11, 36, 45, 46, 172 and 173 it states the model's choice. -/
def Obligations.RegisterReads : Prop :=
  ∀ (s : State) (utc : Bool) (o : Nat), s.life.phase = .service → o % 4 = 0 → ¬ (0x231000 ≤ o ∧ o < 0x232000) →
    let live : Nat := if utc then s.clk.utc.getD 0 else s.clk.us
    let held (p : ReadPort) : Option Word32 := match p, utc with
      | .pcie, false => s.reg.holdPcieUp
      | .pcie, true => s.reg.holdPcieUtc
      | .debug, false => s.reg.holdDebugUp
      | .debug, true => s.reg.holdDebugUtc
    let shows (i : Instr) (off value : Nat) (x : Regs) : Prop := exec i s = .next { s with
      reg := x, out := .regRead off (BitVec.ofNat 64 value) :: s.out, free := s.free + 1 }
    let lo : Nat := if utc then 0x40 else 0x38
    let high : Option Word32 := some (BitVec.ofNat 32 (live / 2 ^ 32))
    shows (.wideLoRead .pcie utc) lo (live % 2 ^ 32)
      (if utc then { s.reg with holdPcieUtc := high } else { s.reg with holdPcieUp := high }) ∧
    (diagnostic s = true → shows (.wideLoRead .debug utc) lo (live % 2 ^ 32)
      (if utc then { s.reg with holdDebugUtc := high } else { s.reg with holdDebugUp := high })) ∧
    (∀ p, p = .pcie ∨ diagnostic s = true → shows (.wideHiRead p utc) (lo + 4)
      (match held p with
        | some x => x.toNat
        | none => live / 2 ^ 32 % 2 ^ 32) s.reg) ∧
    (∃ t, exec (.rcRegisterRead .drs .pcie o 4) s = .next t ∧
      (∃ more, t.out = more ++ .regRead o (BitVec.ofNat 64 (drsWord .pcie s o % 2 ^ 32)) :: s.out) ∧
      (o = 0x204 → t = { s with evr := { s.evr with episodes := 0 }, out := t.out, free := s.free + 1 }) ∧
      (o = 0x208 → t = { s with evr := { s.evr with lostTotal := 0 }, out := t.out, free := s.free + 1 }) ∧
      (o = 0x230004 → t = { s with sram := { s.sram with corrected := 0 }, out := t.out, free := s.free + 1 }) ∧
      (o = 0x230008 → t = { s with sram := { s.sram with uncorr := 0, poisonWr := 0 }, out := t.out, free := s.free + 1 }) ∧
      (o = 0x280008 → t = { s with nor := { s.nor with autoSuspends := 0, xoReads := 0, wpRefused := 0 }, out := t.out, free := s.free + 1 }) ∧
      (∀ k, k < 16 → o = 0x240200 + 4 * k → t = { s with
        dram := { s.dram with channels := s.dram.channels.modify k fun c => { c with corrected := 0, uncorr := 0, cmdErr := 0 } },
        out := t.out, free := s.free + 1 })) ∧
    (∀ k, functionReadable s = true → k ≤ 7 → ∃ t value, exec (.rcRegisterRead .nvme .pcie (8 * k) 8) s = .next t ∧
      t = { s with out := .regRead (8 * k) value :: s.out, free := s.free + 1 } ∧
      (k = 0 → value.extractLsb' 0 16 = 0x0FFF#16 ∧ value.extractLsb' 16 1 = 1#1 ∧ value.extractLsb' 24 8 = 0x14#8) ∧
      (k = 1 → value.extractLsb' 0 32 = 0x00020000#32) ∧ (k = 5 → value = s.nv.asq) ∧ (k = 6 → value = s.nv.acq) ∧
      (k = 4 ∨ k = 7 → value.extractLsb' 0 32 = 0#32)) ∧
    (functionReadable s = true → ∃ value, exec (.rcRegisterRead .config .pcie 0x08 4) s =
      .next { s with out := .regRead 0x08 value :: s.out, free := s.free + 1 } ∧ value.extractLsb' 8 24 = 0x010802#24) ∧
    (functionReadable s = false → exec (.rcRegisterRead .nvme .pcie 0 8) s = .next { s with out := .unsupported 0 :: s.out })

/-- R137: the answers of GET_DEVICE_INFO, GET_PIN_FUNCTION and SET_TIME, and the acceptance and completion of
GET_INVENTORY. R141, R142: SET_PIN_FUNCTION gives a free pin its function, updates argument and flags of the function
it holds, and answers PIN_CONFLICT for another function or one that another pin holds; function 0 is always granted. A
fault pin asserts and is released, a commit pulse ends; every other pin keeps its level. Where it rests on log entries
29, 42, 43 and 174 it states the model's choice. -/
def Obligations.DeviceCommands : Prop :=
  (∀ (s : State) (m : Fin 16),
    (Asked m 0x0001 s → ∃ t, exec (.getDeviceInfo m) s = .next t ∧ Replied m stOk
      (leBytes 4 s.sec.version ++ leBytes 2 0x0011 ++ leBytes 1 s.reg.populated ++
        leBytes 1 (match s.sec.port with
          | .manufacture => 0
          | .field => 1
          | .opened => 2) ++ leBytes 2 s.reg.dramGib ++
        leBytes 1 (if s.hup.protectedMode then 0 else 1) ++
        leBytes 1 ((if s.life.captureReady then 1 else 0) + 2 * (if s.life.mapReady then 1 else 0)) ++
        leBytes 16 s.reg.uid.toNat ++ leBytes 8 s.clk.us) s t) ∧
    (Asked m 0x0011 s →
      let p := s.pins.getD (reqField s m 8 1) Pin.reset
      ∃ t, exec (.getPinFunction m) s = .next t ∧ Replied m stOk
        (leBytes 1 p.function ++ leBytes 1 ((if p.activeLow then 1 else 0) + 2 * (if p.persist then 1 else 0)) ++
          leBytes 1 (if pinLevel s (reqField s m 8 1) then 1 else 0) ++ leBytes 1 0 ++ leBytes 4 p.arg.toNat)
        { s with free := s.free + 1 } t) ∧
    (Asked m 0x0003 s → ∃ t u, exec (.setTime m) s = .next t ∧ Replied m stOk [] u t ∧
      u = { s with clk := { s.clk with utc := some (reqField s m 8 8) }, map := { s.map with sbs := u.map.sbs } } ∧
      ∀ (i : Nat) (b : Superblock), s.map.sbs[i]? = some b → u.map.sbs[i]? = some (match b.firstUs with
        | none => b
        | some x => if b.summaryLength = 0
          then { b with firstUtc := b.firstUtc <|> some (reqField s m 8 8 - (s.clk.us - x)) } else b)) ∧
    (Asked m 0x0002 s → reqField s m 16 4 < 8192 →
      ∃ t, exec (.getInventory m) s = .next t ∧ Replied m stCapacity [] s t) ∧
    (Asked m 0x0002 s → 8192 ≤ reqField s m 16 4 → freeSlots s ≠ [] → ∃ t v u, exec (.getInventory m) s = .next t ∧
      Accepted m 0x0002 false (reqField s m 8 8) 0 v s u t ∧ u = { s with hnd := u.hnd, free := u.free }) ∧
    (∀ h, liveOp s 0x0002 = some h → serving s = true → ∃ records, records.length = 1024 ∧
      (∀ i d, i < 1024 → findDie s i = some d → d.state ≠ .absent → dieOut s i = false →
        records[i]? = some (dieUnit i, (match d.state with
          | .inService => 0
          | .fenced => 1
          | .stale => 2
          | .gated => 3
          | .absent => 4), d.maker, d.qual, d.temp)) ∧
      (∀ i, i < 1024 → findDie s i = none ∨ dieOut s i = true → ∃ maker temp,
        records[i]? = some (dieUnit i, 4, maker, 0xFFFF, temp)) ∧
      exec .getInventoryDone s = .next (completeHandle h.value stOk (ringData [(4, 1024), (1, s.reg.populated)])
        { s with out := .inventory h.subject records :: s.out, free := s.free + 2048 }))) ∧
  (∀ (s : State) (m pin : Fin 16) (f arg : Nat), s.pins.length = 16 →
    let p := s.pins.getD pin Pin.reset
    let flags := reqField s m 10 1
    (Asked m 0x0010 s → reqField s m 8 1 = pin.val → reqField s m 9 1 = f → reqField s m 12 4 = arg →
      (f ≠ 0 → (p.function ≠ 0 ∧ p.function ≠ f) ∨ functionTaken s pin f arg = true →
        ∃ t, exec (.setPinFunction m) s = .next t ∧ Replied m stPinConflict [] s t) ∧
      (f = 0 ∨ ((p.function = 0 ∨ p.function = f) ∧ functionTaken s pin f arg = false) →
        ∃ t u, exec (.setPinFunction m) s = .next t ∧ Replied m stOk [] u t ∧
        (∃ q, u.pins = s.pins.set pin q ∧ q.function = f ∧ q.arg = BitVec.ofNat 32 arg ∧
          q.activeLow = (flags % 2 == 1) ∧ q.persist = (flags / 2 % 2 == 1) ∧
          (f = 2 → q.on = (arg % 2 == 1)) ∧ (f ≠ 2 → f = p.function → q.on = p.on)) ∧
        u = { s with pins := u.pins, nor := { s.nor with
          config0 := u.nor.config0, config1 := u.nor.config1, flags := u.nor.flags } } ∧
        (flags / 2 % 2 = 0 → p.persist = false → u.nor = s.nor) ∧
        (flags / 2 % 2 = 1 → (pin.val, f, flags % 2 == 1, BitVec.ofNat 32 arg) ∈ (config u).pins))) ∧
    (∃ t, exec (.faultPinAssert true) s = .next t ∧ t = { s with pins := t.pins } ∧
      ∀ (k : Nat) (q : Pin), s.pins[k]? = some q → t.pins[k]? = some (if q.function = 8 ∧ q.faultDue = true
        then { q with on := true, faultDue := false } else q)) ∧
    (∃ t, exec (.faultPinAssert false) s = .next t ∧ t = { s with pins := t.pins } ∧
      ∀ (k : Nat) (q : Pin), s.pins[k]? = some q → t.pins[k]? = some (if q.function = 8 then { q with on := false } else q)) ∧
    exec (.commitPulseEnd pin) s =
      .next { s with pins := s.pins.set pin (if p.function = 9 then { p with on := false } else p) })

/-- R30, R260, R298, R322, R343 to R349, R402, R413, R420: POWER_UP. With PLD_N low the device waits in reset. Else
every reset value returns and the start-up sequence runs: a failing PLL0, PLL1 or PLL5 ends in the recovery state,
TEST_MODE in manufacturing test, and a board without fault comes to firmware start. R33, R115, R191, R343, R346, R388:
MAP_READY ends the rebuild: the milestone is reached, the run of hub resets ends, unit reads that waited go on, EVENT
MAP_READY is logged. TRST_N changes the test port alone. Where it rests on log entries 8, 63, 66, 142, 165, 175 and
177 it states the model's choice. -/
def Obligations.PowerUps : Prop :=
  (∀ (s : State) (b : Board), s.life.phase = .off ∨ s.life.phase = .inReset →
    (s.life.pldN = false → exec (.powerUp b) s = .next { s with
      board := some b, life := { s.life with phase := .inReset, resetN := true, lossByReset := false } }) ∧
    (s.life.pldN = true → ∃ t, exec (.powerUp b) s = .next t ∧
      t.clk = Clock.reset ∧ t.board = some b ∧ t.link = State.reset.link ∧ t.parse = State.reset.parse ∧
      t.str = State.reset.str ∧ t.mbx = State.reset.mbx ∧ t.crg = State.reset.crg ∧ t.intg = State.reset.intg ∧
      t.sram = State.reset.sram ∧ t.out = s.out ∧ t.pending = s.pending ∧
      ((∃ p ∈ b.pllFail, p.val = 0 ∨ p.val = 1 ∨ p.val = 5) → b.testMode = false →
        t.life.phase = .recovery ∧ t.nv.cfs = true ∧ t.nv.rdy = false ∧ t.nor.xo = true ∧ t.life.fwStart = false) ∧
      (b.pllFail = [] → b.testMode = true → t.life.phase = .manufacturing ∧ t.life.fwStart = false) ∧
      (∀ k, b.pllFail = [] → b.testMode = false → b.otpBad = false → b.ucieFail = [] → b.dramMatched = true →
        b.dramGib = 32 ∨ b.dramGib = 64 → (∀ w ∈ b.sweeps9600, 26 ≤ laneWindow 128 w) → s.nor.made = true → s.nor.flags = [] →
        bootFault s 0 = none → k = (if (config s).activeSlot = 2 then 2 else 1) → slotFault s k = none →
        t.life.phase = .service ∧ t.life.fwStart = true ∧ t.reg.lock = true ∧ t.reg.bootCopy = 0 ∧
        t.reg.subVendor = (config s).subVendor ∧ t.reg.subSystem = (config s).subSystem ∧ t.reg.uid = s.nor.otp.uid ∧
        t.reg.populated = min b.groups 32 ∧ t.reg.dramGib = b.dramGib ∧ t.dram.rate = 0))) ∧
  (∀ (s : State) (bad : List Nat),
    exec .trstN s = .next { s with sec := { s.sec with tapActive := false } } ∧
    (s.life.phase = .service → s.life.captureReady = true → s.life.mapReady = false → s.life.stop = none →
      ∃ t, exec (.mapReady bad) s = .next t ∧ t.life = { s.life with mapReady := true, runBlockFaults := [] } ∧
      t.evr.lwdHubResets = 0 ∧
      t.sec = { s.sec with discards := t.sec.discards } ∧ (∀ d ∈ t.sec.discards, d ∈ s.sec.discards) ∧
      (∃ data u, Logged [(0x0401, blockUnit 8, data)] s u ∧ t.evr = { u.evr with lwdHubResets := 0 } ∧ t.pins = u.pins) ∧
      t = { s with
        life := t.life, nv := t.nv, pins := t.pins, map := t.map, med := t.med, intg := t.intg, evr := t.evr, sec := t.sec }))

/-- R51, R136, R225, R340, R344, R387, R437: PLD_N low for 200 ns, or RESET_N low for 1 µs, starts the power-loss
sequence: POWER_LOSS is logged and is the cause in the last-words registers, no mailbox stays BUSY, every die's queue
and routine is halted, class 1 reads are dropped, tests end. A shorter pulse does nothing; a running sequence serves
RESET_N too. R333, R340, R344, R387, R437: the power-loss sequence ends. With the supplies gone the device waits in
its end state, with input power back it starts again; POWER_OFF loses what no flash, no Nutmeg sector and no last-
words register holds; PLD_N high releases a held reset. Where it rests on log entries 137 and 157 it states the
model's choice. -/
def Obligations.PowerLosses : Prop :=
  (∀ (s : State) (ns : Nat), s.mbx.box.length = 16 →
    let starts (i : Instr) (p cause : Bool) : Prop := ∃ t, exec i s = .next t ∧
      t.life = { s.life with phase := .lossFlush, stop := none, pldN := p, lossByReset := cause } ∧
      t.evr.lwdCause = 0x0A01 ∧ t.evr.lwdUnit = blockUnit 0x26 ∧ t.evr.lwdCause2 = 0 ∧
      t.evr.lwdTime = BitVec.ofNat 32 s.clk.us ∧
      (∀ m, (boxOf t m).state ≠ .busy) ∧
      (let dies := s.med.dies.map (haltDie s.clk.us)
       t.med = { s.med with dies := dies, load := none, toLoad := [], channels := t.med.channels } ∧
       ∀ (k : Nat) (c : Channel), s.med.channels[k]? = some c →
        ∃ x, t.med.channels[k]? = some { haltChannel dies k c with contexts := x }) ∧
      t.intg.reads = [] ∧ t.st.running = [] ∧ t.st.waiting = [] ∧ t.hup.run = none ∧ t.pwr.state = 0 ∧
      t = { s with
        life := t.life, link := t.link, nv := { s.nv with pba := t.nv.pba }, mbx := t.mbx, hnd := t.hnd, crg := t.crg
        pins := t.pins, pwr := t.pwr, hup := t.hup, med := t.med, intg := t.intg, nor := t.nor, st := t.st, evr := t.evr
        out := t.out }
    (200 ≤ ns → s.life.phase = .service ∨ s.life.phase = .p4 ∨ s.life.phase = .recovery → starts (.pldNAssert ns) false false) ∧
    (1000 ≤ ns → s.life.phase = .service ∨ s.life.phase = .p4 ∨ s.life.phase = .recovery →
      starts (.resetNAssert ns) s.life.pldN true) ∧
    (ns < 200 → exec (.pldNAssert ns) s = .next s) ∧ (ns < 1000 → exec (.resetNAssert ns) s = .next s) ∧
    (1000 ≤ ns → s.life.phase = .lossFlush →
      exec (.resetNAssert ns) s = .next { s with life := { s.life with lossByReset := true } })) ∧
  (∀ (s : State) (extra : Nat),
    (s.life.phase = .lossFlush → ∃ t, exec (.powerLossFlushEnd true extra) s = .next t ∧
      t.life = { s.life with phase := .lossDone } ∧
      (∀ w ∈ t.ord.accepted, ∃ x ∈ s.ord.accepted, x.seq = w.seq) ∧
      t.evr = { s.evr with lwdMode := t.evr.lwdMode, lwdSeq := t.evr.lwdSeq } ∧
      t = { s with life := t.life, ord := t.ord, map := t.map, evr := t.evr }) ∧
    (s.life.phase ≠ .off → ∃ t, exec .powerOff s = .next t ∧ t.life.phase = .off ∧ t.life.resetN = false ∧
      t.life.powerUps = s.life.powerUps ∧ t.clk = Clock.reset ∧ t.str = State.reset.str ∧ t.mbx = State.reset.mbx ∧
      t.crg = State.reset.crg ∧ t.hnd = State.reset.hnd ∧ t.dram = State.reset.dram ∧ t.sram = State.reset.sram ∧
      t.ord = State.reset.ord ∧ t.link = State.reset.link ∧ t.map.segments = [] ∧ t.map.overlay = [] ∧
      t.map.slots = s.map.slots ∧ t.map.sbs.map (·.number) = s.map.sbs.map (·.number) ∧
      t.nv.namespaces = s.nv.namespaces ∧
      t.nor.otp = s.nor.otp ∧ t.nor.config0 = s.nor.config0 ∧ t.nor.config1 = s.nor.config1 ∧
      t.nor.slotA = s.nor.slotA ∧ t.nor.slotB = s.nor.slotB ∧ t.nor.flags = s.nor.flags ∧
      t.evr.log = s.evr.log ∧ t.evr.history = s.evr.history ∧ t.evr.lwdCause = s.evr.lwdCause ∧
      t.evr.lwdRecords = s.evr.lwdRecords ∧ t.pending = s.pending ∧ t.out = s.out) ∧
    (s.life.phase = .service → exec .pldNDeassert s = .next { s with life := { s.life with pldN := true } }) ∧
    (s.life.phase = .inReset → s.life.resetN = true → ∀ b, s.board = some b → s.life.lossByReset = false →
      b.testMode = true → b.pllFail = [] → ∃ t, exec .pldNDeassert s = .next t ∧ t.life.phase = .manufacturing ∧
      t.life.pldN = true ∧ t.clk = Clock.reset ∧ t.mbx = State.reset.mbx ∧ t.str = State.reset.str))

/-- R33, R136, R165, R166, R348, R371: a Clove fault after map-ready stops the cores and starts the core's self-test;
hold-up test and self-test commands end, a patch load ends. RECOVERY_DONE ends the stop, logs it and takes up the
latched requests. Before map-ready, during a stop, or when 1 s has passed, the hub reset follows. R166, R340, R346,
R387: the hub reset flushes, halts, notes its cause and starts again; the third in one run stops in the recovery
state. The queue of commands, the board and what has been sent stay. Where it rests on log entries 132 and 135 it
states the model's choice. -/
def Obligations.CloveStops : Prop :=
  (∀ (s : State) (core : Fin 4) (ms : Nat), s.life.phase = .service →
    (s.life.fwStart = true → s.life.mapReady = true → s.life.stop = none → ∃ t, exec (.cloveFault core) s = .next t ∧
      t.life = { s.life with stop := some ⟨false, core, s.clk.us, s.sec.version, s.nor.slot, none, none⟩ } ∧
      t.hup = { s.hup with run := none } ∧ t.nor = { s.nor with xo := true } ∧
      (∃ x ∈ t.st.running, x.unit = blockUnit (0x20 + core)) ∧ (∀ x ∈ t.st.waiting, x.readmit = true ∧ x ∈ s.st.waiting) ∧
      t.med.load = none ∧ t.med.toLoad = [] ∧ (∀ c ∈ t.med.channels, c.state ≠ .loading) ∧ t.med.dies = s.med.dies ∧
      t = { s with
        life := t.life, nv := { s.nv with pba := t.nv.pba }, mbx := t.mbx, hnd := t.hnd, crg := t.crg, hup := t.hup
        med := t.med, nor := t.nor, st := t.st, out := t.out }) ∧
    (s.life.fwStart = true → s.life.mapReady = false ∨ s.life.stop ≠ none →
      exec (.cloveFault core) s = .next (hubReset 0x0E03 (blockUnit (0x20 + core)) s)) ∧
    (∀ c, s.life.stop = some c → exec .warmRecoveryTimeout s =
      .next (hubReset 0x0E03 (blockUnit (0x20 + if c.activation then 0 else c.core)) s)) ∧
    (∀ c, s.life.stop = some c → c.activation = false → (∀ x ∈ s.st.running, x.verdict = none) →
      (∀ m, m < 16 → (boxOf s m).latched = false) → s.nv.held = [] → ∃ t, exec (.recoveryDone ms) s = .next t ∧
      t.life = { s.life with stop := none } ∧ t.nor = { s.nor with xo := false } ∧ t.mbx = s.mbx ∧
      Logged [(0x0E03, blockUnit (0x20 + c.core), evData [(1, 0), (1, c.core), (2, sat 16 ms),
        (4, s.nv.cmds.countP fun x => x.stage == .fetched)])] s t)) ∧
  (∀ (s : State) (code : BitVec 16) (unit : UnitId), s.board ≠ none →
    let t := hubReset code unit s
    t.str = State.reset.str ∧ t.parse = State.reset.parse ∧ t.pending = s.pending ∧ t.board = s.board ∧
    t.clk = s.clk ∧ t.mbx = State.reset.mbx ∧ t.crg = State.reset.crg ∧ t.intg = State.reset.intg ∧
    t.sram = State.reset.sram ∧
    (s.life.mapReady = false → 2 ≤ s.evr.lwdHubResets → t.life.phase = .recovery ∧ t.nv.cfs = true ∧ t.nv.rdy = false ∧
      t.evr.lwdCause = code ∧ t.evr.lwdUnit = unit ∧ t.nor.xo = true ∧ t.hnd = State.reset.hnd ∧ t.link = State.reset.link))

/-- R47, R139, R323 to R327, R329, R351: POWER_SET_STATE sets depth, wake sources and timer wake, is refused for depth
2 and deeper with the capture link up, and completes at once when the state is deep enough; POWER_STATE_ENTRY enters
the deepest state allowed: P1 by itself, P4 first with its CLEAN slot, and leaves P1 for background work that is due;
1 s later the command answers WRONG_STATE. R240, R320, R322, R326, R327, R331, R339, R358: a wake event in P1 to P3
resumes to P0 with the Lorard depth at 2, DRAM leaving self-refresh, the events of P3 logged and a hold-up test begun
that fell due in P3; the timer wake does so in P2 and P3 unless its slot is busy; WAKE_N is released; a crystal
failure makes the time unknown; a failed PLL is reported, and PLL0, PLL1 and PLL5 lead to the hub reset. Where it
rests on log entries 126, 128, 129, 130 and 140 it states the model's choice. -/
def Obligations.PowerStates : Prop :=
  (∀ (s : State) (m : Fin 16),
    (Asked m 0x0020 s → 2 ≤ reqField s m 8 1 → s.link.state ≠ .down →
      ∃ t, exec (.powerSetState m) s = .next t ∧ Replied m stWrongState [] s t) ∧
    (Asked m 0x0020 s → s.link.state = .down → freeSlots s ≠ [] → opLive s 0x0020 = false →
      reqField s m 8 1 ≤ 4 → s.pwr.state < reqField s m 8 1 → s.pwr.state ≤ nvmeDepth s → ∃ t v u,
      exec (.powerSetState m) s = .next t ∧
      Accepted m 0x0020 false (reqField s m 8 1)
        (s.pwr.depthLorard + 8 * s.pwr.wakeSources.toNat + 2048 * s.pwr.timerWake) v s u t ∧
      u = { s with
        pwr := { s.pwr with
          depthLorard := reqField s m 8 1, wakeSources := BitVec.ofNat 8 (reqField s m 9 1), timerWake := reqField s m 12 4 }
        hnd := u.hnd, free := u.free }) ∧
    (s.life.phase = .service → s.life.mapReady = true → s.pwr.state = 0 → liveOp s 0x0020 = none →
      let k := targetState (updateBackground s)
      (k = 1 → exec .powerStateEntry s = .next { s with pwr := { s.pwr with state := 1, background := false } }) ∧
      (k = 3 → backgroundDue s = false → ∃ t, exec .powerStateEntry s = .next t ∧
        t.pwr = { s.pwr with state := 3, background := false } ∧
        (∀ c ∈ t.dram.channels, c.state = .selfRefresh ∨ c.state = .off) ∧
        (∀ c ∈ t.med.channels, c.state ≠ .running) ∧
        t = { s with pwr := t.pwr, dram := t.dram, med := t.med }) ∧
      (k = 4 → s.pwr.entering = false → ∃ t, exec .powerStateEntry s = .next t ∧ t.pwr.entering = true ∧ t.pwr.state = 0 ∧
        (∃ n, t.map = { s.map with pendingSlots := s.map.pendingSlots ++ [.clean n] }) ∧
        t = { s with pwr := t.pwr, map := t.map }) ∧
      (k = 4 → s.pwr.entering = true → ledgerClean s = true → ∃ t, exec .powerStateEntry s = .next t ∧
        t.life = { s.life with phase := .p4 } ∧ t.pwr.state = 4 ∧ t.pwr.entering = false ∧
        (∀ c ∈ t.dram.channels, c.state = .off) ∧ t.mbx = s.mbx ∧ t.map = s.map ∧ t.clk = s.clk)) ∧
    (s.life.phase = .service → s.life.mapReady = true → s.pwr.state = 1 → worksFirst s = true →
      targetState (updateBackground s) = 0 → ∃ b, exec .powerStateEntry s =
        .next { s with pwr := { s.pwr with state := 0, background := b } }) ∧
    (∀ h, liveOp s 0x0020 = some h → exec .powerSetStateTimeout s =
      .next (completeHandle h.value stWrongState (ringData [(1, s.pwr.state)]) s))) ∧
  (∀ (s : State) (src : WakeSource) (pll : Fin 8), s.life.phase = .service → s.pwr.entering = false →
    let resumed (f : Power → Power) (i : Instr) : Prop := ∃ t, exec i s = .next t ∧
      t.pwr = f { s.pwr with state := 0, depthLorard := 2, l1 := false } ∧
      (s.pwr.state = 1 → t = { s with pwr := t.pwr }) ∧
      (s.pwr.state = 2 → ∀ c ∈ t.dram.channels, c.state ≠ .selfRefresh) ∧
      (s.pwr.state = 3 → (∀ c ∈ t.dram.channels, c.state ≠ .selfRefresh) ∧ t.thm.deferred = []) ∧
      t.life = s.life ∧ t.clk = s.clk ∧ t.link = s.link ∧ t.str = s.str ∧ t.nv = s.nv ∧
      (s.pwr.state ≠ 3 ∨ s.hup.due = none → t.hup = s.hup) ∧
      ∀ kind, s.pwr.state = 3 → s.hup.due = some kind → t.hup = if mayTest kind s = true
        then { s.hup with run := some ⟨true, none, 0, 0, false⟩, due := none } else s.hup
    ((s.pwr.state = 1 ∨ s.pwr.state = 2 ∨ s.pwr.state = 3) → resumed id (.wakeEvent src)) ∧
    ((s.pwr.state = 2 ∨ s.pwr.state = 3) → s.pwr.timerWake ≠ 0 →
      resumed (fun p => { p with timerWake := 0 }) (.timerWake false)) ∧
    (s.pwr.state = 0 → exec (.wakeEvent src) s = .next { s with pwr := { s.pwr with l1 := false } }) ∧
    exec (.timerWake true) s = .next s ∧
    exec .wakeNRelease s = .next { s with pwr := { s.pwr with wakeN := false } } ∧
    exec .crystalFailure s = .next { s with clk := { s.clk with xtalFail := true, utc := none } } ∧
    (let bit : BitVec 8 := BitVec.ofNat 8 (2 ^ pll.val)
     let u : State := { s with pwr := { s.pwr with pllBad := s.pwr.pllBad ||| bit, pllFail := s.pwr.pllFail ||| bit } }
     (pll.val = 0 ∨ pll.val = 1 ∨ pll.val = 5 → exec (.pllLockFailure pll) s = .next (hubReset 0 (blockUnit 0x26) u)) ∧
     (¬ (pll.val = 0 ∨ pll.val = 1 ∨ pll.val = 5) → ∃ t, exec (.pllLockFailure pll) s = .next t ∧
      (∃ x ∈ t.st.running, x.unit = blockUnit 0x26) ∧ t = { u with st := t.st })))

/-- R20, R22, R253: a good flit in its turn is delivered once and leaves the replay buffer; one already delivered is
acknowledged and dropped; one that fails its check is kept and sent again, and after 1 ms of failing replays the port
retrains. A flit that fails byte parity toward the Mace is kept and counted, and BUS_PARITY is logged. R22, R369: the
retrain ends: flits run again, and the Mace self-test starts; one that fails is a lasting fault of the Mace die. Where
it rests on log entries 136 and 160 it states the model's choice. -/
def Obligations.UcieLinks : Prop :=
  (∀ (s : State) (port : Fin 4) (toMace : Bool) (f : Flit), linkLive s port = true → s.med.links.length = 4 →
    let l := linkOf s port
    let buffer := if toMace then l.replayDown else l.replayUp
    let turn := if toMace then l.deliveredDown else l.deliveredUp
    let put (x : UcieLink) : State := { s with med := { s.med with links := s.med.links.set port x } }
    let keep := if (buffer.any fun x => x.number == f.number) = true then buffer else buffer ++ [f]
    let drop := buffer.filter fun x => x.number != f.number
    let with_ (b : List Flit) (x : UcieLink) : UcieLink := if toMace then { x with replayDown := b } else { x with replayUp := b }
    ((toMace = false ∨ l.parityFails < 3) →
      (exec (.ucieFlitReceive port toMace f false true) s = .next (put (with_ keep { l with failing := true }))) ∧
      (f.number = turn → exec (.ucieFlitReceive port toMace f true true) s = .next (put (with_ drop { l with
        failing := false, parityFails := 0
        deliveredDown := if toMace then l.deliveredDown + 1 else l.deliveredDown
        deliveredUp := if toMace then l.deliveredUp else l.deliveredUp + 1 }))) ∧
      (f.number < turn → exec (.ucieFlitReceive port toMace f true true) s = .next (put (with_ drop l))) ∧
      (turn < f.number → exec (.ucieFlitReceive port toMace f true true) s = .next (put (with_ keep l))) ∧
      (toMace = true → f.number = turn → ∃ t data, exec (.ucieFlitReceive port toMace f true false) s = .next t ∧
        t.med = (put (with_ keep { l with parityFails := l.parityFails + 1 })).med ∧
        Logged [(0x0605, maceUnit port, data)] s t ∧ (∃ x ∈ t.st.running, x.unit = maceUnit port) ∧
        t = { s with med := t.med, st := t.st, evr := t.evr, pins := t.pins, free := s.free + 2 })) ∧
    (l.failing = true → exec (.ucieReplayTimeout port) s = .next (put { l with retraining := true })) ∧
    (l.failing = false → exec (.ucieReplayTimeout port) s = .next s)) ∧
  (∀ (s : State) (port : Fin 4), s.med.links.length = 4 → (linkOf s port).retraining = true →
    let u : State := { s with med := { s.med with
      links := s.med.links.set port { linkOf s port with retraining := false, failing := false } } }
    (∃ t, exec (.ucieRetrainDone port true) s = .next t ∧ (∃ x ∈ t.st.running, x.unit = maceUnit port) ∧
      t = { u with st := t.st }) ∧
    exec (.ucieRetrainDone port false) s = .next (lastingFault (maceUnit port) 0 4 u))

/-- R137, R139, R331, R334, R335, R339: HOLDUP_TEST is accepted and joins a scheduled test; a scheduled test starts
outside P3 and P4, and is kept due in P3; the load goes on with the cancel point passed, and off; HOLDUP_STATUS
answers the last result. R85, R110, R146, R158, R160, R336 to R339: a test's values and verdict, and the recomputation
of every millisecond: C, ESR, energy and limit by the formulas of R336, the verdict of R337, Protected mode exactly on
a pass with a limit above 0, and what was durable by a limit that falls stays durable. Where it rests on log entries
138 and 139 it states the model's choice. -/
def Obligations.HoldupTests : Prop :=
  (∀ (s : State) (m : Fin 16) (uv : Nat) (kind : HoldupDue),
    (Asked m 0x0021 s → freeSlots s ≠ [] → opLive s 0x0021 = false → ∃ t v u, exec (.holdupTest m) s = .next t ∧
      (s.hup.run = none → Accepted m 0x0021 false 0 0 v s u t ∧
        u = { s with hup := { s.hup with run := some ⟨false, some v, 0, 0, false⟩ }, hnd := u.hnd, free := u.free }) ∧
      (∀ r, s.hup.run = some r → r.loaded = false → Accepted m 0x0021 false 0 0 v s u t ∧
        u = { s with hup := { s.hup with run := some { r with handle := some v } }, hnd := u.hnd, free := u.free })) ∧
    (Asked m 0x0022 s → ∃ t next, exec (.holdupStatus m) s = .next t ∧
      Replied m stOk (leBytes 1 (if s.hup.protectedMode then 0 else 1) ++ leBytes 1 s.hup.verdict ++ leBytes 2 0 ++
        leBytes 4 (limitMib s) ++ leBytes 4 s.hup.energy ++ leBytes 8 s.hup.lastUtc ++ leBytes 4 next)
        { s with free := s.free + 1 } t ∧
      (s.hup.startDone = true → next = (s.hup.lastUs + 86400000000 - s.clk.us) / 1000000)) ∧
    (serving s = true → s.hup.run = none → s.pwr.state ≤ 2 →
      (kind = .startUp → s.hup.startDone = false) → (kind = .postDegraded → s.hup.verdict = 2) →
      (kind = .periodic → s.hup.startDone = true ∧
        ((∀ x ∈ s.str.list, x.state ≠ .open_) ∨ s.hup.lastUs + 172800000000 ≤ s.clk.us)) →
      exec (.holdupTestDue kind) s =
        .next { s with hup := { s.hup with run := some ⟨true, none, 0, 0, false⟩, due := none } }) ∧
    (s.pwr.state = 3 → (kind = .startUp ∧ s.hup.startDone = false) ∨ (kind = .periodic ∧ s.hup.startDone = true) →
      exec (.holdupTestDue kind) s = .next { s with hup := { s.hup with due := some kind } }) ∧
    (∀ r, s.hup.run = some r → r.loaded = false → ∃ t, exec (.holdupLoadApply uv) s = .next t ∧
      t.hup = { s.hup with run := some { r with restUv := uv, loaded := true }, testLow := true } ∧
      (∀ v, r.handle = some v → ∀ h ∈ t.hnd.live, h.value = v → h.past = true) ∧
      t = { s with hup := t.hup, hnd := { s.hnd with live := t.hnd.live } }) ∧
    (∀ r, s.hup.run = some r → s.hup.testLow = true → exec (.holdupLoadRelease uv) s = .next { s with hup := { s.hup with
      testLow := false, run := some { r with loadedUv := uv } } })) ∧
  (∀ (s : State) (uv : Nat),
    (∀ r, serving s = true → s.hup.run = some r → r.loaded = true → s.hup.testLow = false → r.handle = none →
      ∃ t, exec (.holdupTestDone uv) s = .next t ∧
      let cap := if r.restUv ≤ uv then 0 else 1960000000 / (r.restUv - uv)
      let esr := (uv - r.loadedUv + 391) / 392
      let power := 56 + 4 * s.reg.populated
      let measure := cap * (4 * (r.restUv * r.restUv) - (16000000 + power * esr * 25) * (16000000 + power * esr * 25))
      let limit := min (bufferMib s) ((measure - 800000000000000 * power) * 84375000 * healthyDies s /
        (80000000000000000 * power) / 67108864 * 64)
      t.hup.run = none ∧ t.hup.cap = cap ∧ t.hup.esr = esr ∧ t.hup.energy = measure / 80000000000000 ∧
      t.hup.limit = limit ∧ t.hup.testLimit = limit ∧ t.hup.restUv = r.restUv ∧
      t.hup.verdict = (if r.restUv < 8000000 ∨ uv < 8000000 then 3 else if limit < 64 then 2 else 1) ∧
      (t.hup.protectedMode = true ↔ t.hup.verdict = 1 ∧ 0 < limit) ∧
      t.hup.startDone = true ∧ t.hup.lastUs = s.clk.us ∧ t.hup.lastUtc = s.clk.utc.getD 0 ∧
      (config t).holdupUtc = s.clk.utc.getD 0 ∧ t.clk = s.clk ∧ t.str = s.str ∧ t.med = s.med ∧
      (t.ord = s.ord ∨ t.ord = (latchDurable s).ord)) ∧
    (s.life.phase = .service → s.life.fwStart = true → s.pwr.state ≤ 2 → ∃ t, exec (.holdupRecompute uv) s = .next t ∧
      t.hup.sense = min (uv / 4880) 4095 ∧
      (s.hup.verdict ≠ 1 → t = { s with hup := { s.hup with sense := t.hup.sense } }) ∧
      (t.hup.verdict = s.hup.verdict ∨ t.hup.verdict = 2 ∧ t.hup.limit = 0) ∧
      (s.hup.verdict = 1 → t.hup.limit ≤ max s.hup.limit s.hup.testLimit ∧
        (t.hup.protectedMode = true ↔ t.hup.verdict = 1 ∧ 0 < t.hup.limit)) ∧
      t.clk = s.clk ∧ t.str = s.str ∧ t.med = s.med ∧
      (if limitBytes t < limitBytes s then t.ord = (latchDurable s).ord else t.ord = s.ord)) ∧
    ∀ w ∈ s.ord.accepted, ∃ x ∈ (latchDurable s).ord.accepted, x = { w with latched := durable s w })

/-- R356 to R365: one sample of the 24 sensors. The reported temperature is the highest valid reading, 105 °C counting
for a group with fewer than two valid sensors; at 115 °C the halt sequence starts, below it the level follows R359:
throttle at 105 °C, warn at the warn threshold. A sensor with a conversion fault or out of range is excluded. R137,
R359, R361, R362, R365: throttle steps rise to 4 while a sensor reads 105 °C, and fall below 102 °C and 3.0 °C/s to
warn or normal; THERMAL_SET_LIMITS keeps a value for 0, and the store keeps what is set; THERMAL_GET answers; the halt
sequence ends halted with CFS set. Where it rests on log entries 143, 144, 145, 146 and 147 it states the model's
choice. -/
def Obligations.Thermals : Prop :=
  (∀ (s : State) (readings : List (Option Int)), s.life.phase = .service → s.thm.level ≠ .halted → s.mbx.box.length = 16 →
    ∃ t, exec (.thermalSample readings) s = .next t ∧
      let valid := t.thm.sensors.filterMap fun x => if x.valid then x.reading else none
      let low := [(0, 8), (8, 3), (11, 3), (14, 3), (17, 3), (20, 4)].any fun g : Nat × Nat =>
        decide (((t.thm.sensors.drop g.1).take g.2).countP (·.valid) < 2)
      t.thm.temp = ((valid ++ if low then [1050] else []).max?).getD 0 ∧
      t.thm.sensors.length = s.thm.sensors.length ∧
      (∀ (n : Nat) (x : Sensor), s.thm.sensors[n]? = some x →
        (∀ v, readings[n]? ≠ some (some v)) ∨ (∃ v, readings[n]? = some (some v) ∧ (v < -550 ∨ 1500 < v)) →
        ∃ y : Sensor, t.thm.sensors[n]? = some y ∧ y.excluded = true ∧ y.valid = false ∧ y.reading = none) ∧
      (1150 ≤ t.thm.temp → t.life.phase = .haltFlush ∧ t.thm.level = .halted ∧ t.thm.thermN = true ∧
        t.evr.lwdCause = 0x0B03 ∧ ∀ m, (boxOf t m).state ≠ .busy) ∧
      (t.thm.temp < 1150 → t.life = s.life ∧ t.med = s.med ∧ t.mbx = s.mbx ∧
        (1050 ≤ t.thm.temp → t.thm.level = .throttle ∧ (s.thm.level ≠ .throttle → t.thm.step = 1 ∧ t.thm.thermN = true)) ∧
        (s.thm.level = .normal → s.thm.warnC * 10 ≤ t.thm.temp → t.thm.level ≠ .normal) ∧
        (s.thm.level = .throttle → t.thm.level = .throttle ∧ t.thm.step = s.thm.step)) ∧
      t.clk = s.clk ∧ t.str = s.str ∧ t.ord = s.ord ∧ t.map = s.map ∧ t.dram = s.dram ∧ t.sec = s.sec) ∧
  (∀ (s : State) (m : Fin 16) (stopped : Option Nat),
    (s.thm.level = .throttle → s.thm.step < 4 → (∃ x ∈ s.thm.sensors, x.valid = true ∧ ∃ v, x.reading = some v ∧ 1050 ≤ v) →
      ∃ t, exec .throttleStepRise s = .next t ∧ t.thm = { s.thm with step := s.thm.step + 1, deferred := t.thm.deferred } ∧
      t = { s with thm := t.thm, evr := t.evr, pins := t.pins, free := s.free + 1 }) ∧
    (s.thm.level = .throttle → s.thm.temp < 1020 → s.thm.rate < 30 →
      exec .throttleStepFall s = .next { s with thm := { s.thm with
        step := s.thm.step - 1, thermN := decide (1 < s.thm.step)
        level := if 1 < s.thm.step then .throttle else if 1000 < s.thm.coolMs then .normal else .warn } }) ∧
    (Asked m 0x0031 s → ∃ t u die warn rate, exec (.thermalSetLimits m) s = .next t ∧
      die = (if reqField s m 8 1 = 0 then s.thm.dieLimitC else reqField s m 8 1) ∧
      warn = (if reqField s m 9 1 = 0 then s.thm.warnC else reqField s m 9 1) ∧
      rate = (if reqField s m 10 1 = 0 then s.thm.rateWarnAt else reqField s m 10 1) ∧
      Replied m stOk (leBytes 1 die ++ leBytes 1 warn ++ leBytes 1 rate ++ leBytes 1 0) u t ∧
      u.thm = { s.thm with dieLimitC := die, warnC := warn, rateWarnAt := rate } ∧
      (config u).dieLimitC = die ∧ (config u).warnC = warn ∧ (config u).rateWarnAt = rate ∧
      u = { s with thm := u.thm, nor := { s.nor with
        config0 := u.nor.config0, config1 := u.nor.config1, flags := u.nor.flags } }) ∧
    (Asked m 0x0030 s → ∃ t hot unit, exec (.thermalGet m) s = .next t ∧
      Replied m stOk (leBytes 2 (signed 16 s.thm.temp) ++ leBytes 1 (thermalLevel s) ++ leBytes 1 s.thm.step ++
        leBytes 2 (signed 16 s.thm.rate) ++ leBytes 2 s.thm.predict ++ leBytes 2 hot ++ leBytes 2 unit ++
        leBytes 4 (s.thm.sensors.mapIdx fun n x => if x.excluded then 2 ^ n else 0).sum ++
        s.thm.sensors.flatMap fun x => leBytes 2 (match x.reading with
          | some r => signed 16 r
          | none => 0x8000)) { s with free := s.free + 2 } t ∧
      ∀ d ∈ s.med.dies, (∀ e ∈ s.med.dies, e.temp ≤ d.temp) → hot = signed 16 (d.temp * 10)) ∧
    (s.life.phase = .haltFlush → ∃ t, exec (.thermalHaltComplete stopped) s = .next t ∧
      t.life = { s.life with phase := .halted } ∧ t.nv = { s.nv with cfs := true, rdy := false } ∧
      t.evr = { s.evr with lwdMode := t.evr.lwdMode, lwdSeq := t.evr.lwdSeq } ∧
      t = { s with life := t.life, nv := t.nv, ord := t.ord, map := t.map, evr := t.evr }))

/-- R137, R38, R46, R47, R50, R51, R54: CAPTURE_LINK_UP from DOWN starts at AWAIT under a handle, CAPTURE_LINK_DOWN is
refused while a stream runs (without its force bit) and in HALTED, else says so on IB and leaves DOWN with IB silent;
CAPTURE_LINK_STATUS answers; a bring-up that is not UP in time ends its handle with NOT_READY and keeps the state;
STATUS goes out on IB. -/
def Obligations.LinkCommands : Prop :=
  ∀ (s : State) (m : Fin 16),
    let l := s.link
    let restart (x : Lane) : Lane := { x with
      lock := false, badLcw := 0, badCw := 0, position := 0, cwIndex := 0, amCount := 0, lcwDue := 0, bitMode := false
      fifo := [] }
    let bitmap := ((List.range 8).map fun n => if l.lanes.any (fun x => x.lock && x.logical == some n) then 2 ^ n else 0).sum
    let code (b : Bundle) : Nat := match b with
      | .down => 0 | .await => 1 | .acquire => 2 | .track => 3 | .cwlock => 4
      | .tune => 5 | .deskew => 6 | .up => 7 | .retrain => 8 | .halted => 9
    let status (down : Bool) : List Byte :=
      let head := leBytes 1 1 ++ leBytes 1 l.seq.toNat ++ leBytes 1 (code l.state) ++ leBytes 1 bitmap ++
        leBytes 1 l.epoch.toNat ++ leBytes 4 l.granted.toNat ++
        leBytes 1 ((if l.state = .retrain then 1 else 0) + (if down = true then 2 else 0)) ++ leBytes 1 l.attempt.toNat ++ [0]
      head ++ leBytes 4 (crc32c head)
    let sent (message : List Byte) : Out := .ib message (ibBlocks message l.ibScrambler).1
    let after (message : List Byte) : BitVec 58 := (ibBlocks message l.ibScrambler).2
    let active := s.str.list.any fun x => x.state == .open_ || x.state == .full || x.state == .draining
    (Asked m 0x0040 s →
      ((l.state ≠ .down ∨ 2 ≤ s.pwr.state) → ∃ t, exec (.captureLinkUp m) s = .next t ∧ Replied m stWrongState [] s t) ∧
      (l.state = .down → s.pwr.state < 2 → freeSlots s ≠ [] → ∃ t v u, exec (.captureLinkUp m) s = .next t ∧
        Accepted m 0x0040 false 0 0 v s u t ∧
        u = { s with hnd := u.hnd, free := s.free + 1, link := { l with
          state := .await, attempt := l.attempt + 1, ibOn := true, fastNow := false, before := some (linkBefore l)
          window := if reqField s m 8 2 = 0 then 512 else reqField s m 8 2
          forceFull := (reqField s m 10 1).testBit 0
          epoch := 0, granted := 0, consumed := 0, entered := false, fastFails := 0, lastFast := false, skew := 0
          retrains := 0, frozen := false, goingDown := false, haltedUp := false
          lanes := l.lanes.map fun x =>
            { restart x with uncorr := 0, corr := 0, fom := 0, trains := 0, tuneDone := false } } })) ∧
    (Asked m 0x0041 s →
      ((active = true ∧ (reqField s m 8 1).testBit 0 = false) ∨ l.state = .halted →
        ∃ t, exec (.captureLinkDown m) s = .next t ∧ Replied m stWrongState [] s t) ∧
      ((active = false ∨ (reqField s m 8 1).testBit 0 = true) → l.state ≠ .halted →
        (l.state = .down → ∃ t, exec (.captureLinkDown m) s = .next t ∧ Replied m stOk [] s t) ∧
        (l.state ≠ .down → s.parse.frame = none → liveOp s 0x0040 = none →
          ∃ t, exec (.captureLinkDown m) s = .next t ∧ Replied m stOk [] { s with
            link := { l with
              state := .down, ibOn := false, goingDown := false, frozen := false
              seq := if l.ibOn then l.seq + 1 else l.seq
              ibScrambler := if l.ibOn then after (status true) else l.ibScrambler
              lanes := l.lanes.map fun x => { restart x with signal := false } }
            parse := { s.parse with
              bits := 0, len := 0, pos := 0, bad := [], modes := [], gaps := [], searching := false, skipWords := 0 }
            out := if l.ibOn then sent (status true) :: s.out else s.out } t))) ∧
    (Asked m 0x0042 s → ∃ t, exec (.captureLinkStatus m) s = .next t ∧ Replied m stOk
      (leBytes 1 (code l.state) ++ leBytes 1 bitmap ++ leBytes 1 l.epoch.toNat ++ leBytes 1 (if l.lastFast then 1 else 0) ++
        leBytes 4 l.granted.toNat ++ leBytes 4 (l.consumed.toNat / 65536) ++ leBytes 2 l.window ++ leBytes 2 l.retrains ++
        leBytes 4 (min (l.lanes.map (·.uncorr)).sum 0xFFFFFFFF) ++
        leBytes 4 (min (l.lanes.map (·.corr)).sum 0xFFFFFFFF)) s t) ∧
    (l.state = .up ∨ liveOp s 0x0040 = none → exec .captureLinkUpTimeout s = .next s) ∧
    (∀ h, l.state ≠ .up → liveOp s 0x0040 = some h → exec .captureLinkUpTimeout s = .next (completeHandle h.value stNotReady
      (BitVec.ofNat 128 (code l.state + 256 * (l.epoch.toNat + 256 * (l.skew % 65536 + 65536 * if l.lastFast then 1 else 0)))) s)) ∧
    exec .statusSend s = .next (if l.ibOn then
      { s with
        link := { l with seq := l.seq + 1, ibScrambler := after (status l.goingDown) }
        out := sent (status l.goingDown) :: s.out } else s)

/-- R37, R40, R41, R46, R47, R48, R54, R55: each bring-up step moves the bundle only from its own state; a step that
fails or takes too long returns it to AWAIT as the next attempt, and two fast attempts that fail in a row bring the
full path back; the first codewords announce eight distinct lanes with good markers; TRAIN commands go out until the
figure of merit is 160 or 32 are sent; UP opens the next credit epoch with nothing granted and sends CREDIT. Where it
rests on log entries 47, 48 and 170 it states the model's choice. -/
def Obligations.LinkBringUp : Prop :=
  ∀ (s : State) (balls : BitVec 8) (cws : List (List (BitVec 10))) (ball : Fin 8) (command : Fin 4) (taps fom : BitVec 8)
    (skew : Nat),
    let l := s.link
    let restart (x : Lane) : Lane := { x with
      lock := false, badLcw := 0, badCw := 0, position := 0, cwIndex := 0, amCount := 0, lcwDue := 0, bitMode := false
      fifo := [] }
    let message (type : Nat) (body : List Byte) : List Byte :=
      let head := leBytes 1 type ++ leBytes 1 l.seq.toNat ++ body
      head ++ leBytes 4 (crc32c head)
    let sent (m : List Byte) : List Out := if l.ibOn then .ib m (ibBlocks m l.ibScrambler).1 :: s.out else s.out
    let after (m : List Byte) : BitVec 58 := if l.ibOn then (ibBlocks m l.ibScrambler).2 else l.ibScrambler
    let fail (l : Link) : Link :=
      let fails := if l.fastNow then l.fastFails + 1 else l.fastFails
      { l with
        state := .await, attempt := l.attempt + 1, ibOn := true, lanes := l.lanes.map restart
        fastFails := fails, fastNow := l.entered && !l.forceFull && decide (fails < 2) }
    let goes (i : Instr) (x : Link) : Prop := exec i s = .next { s with link := x }
    let number (d : Decoded) : Nat := d.tag.toNat / 2 ^ 17
    let good (d : Decoded) : Prop :=
      d.uncorrectable = false ∧ d.tag.toNat / 2 ^ 16 % 2 = 1 ∧ d.tag.toNat % 2 ^ 14 = 0 ∧
        (d.words.headD 0).toNat / 2 ^ 40 = 0xD2B41E ∧ (d.words.headD 0).toNat / 2 ^ 37 % 8 = number d ∧
        (d.words.headD 0).toNat % 2 ^ 32 = 0
    let ds := cws.map decodeCodeword
    let goodSet := ds.length = 8 ∧ (∀ d ∈ ds, good d) ∧ (ds.map number).Nodup
    let fresh (x : Lane) : Prop := x.position = 0 ∧ x.cwIndex = 0 ∧ x.amCount = 0 ∧ x.badLcw = 0 ∧ x.lcwDue = 0
    let x := laneOf s ball
    let n := x.logical.getD ball
    (if l.state = .await then goes (.laneSignalDetect balls) { l with
        state := if balls = 0xFF then .acquire else .await
        lanes := l.lanes.mapIdx fun i x => { x with signal := balls.getLsbD i } }
      else exec (.laneSignalDetect balls) s = .next s) ∧
    (if l.state = .retrain then goes .preambleDetect { l with
        state := .acquire, lanes := l.lanes.map fun x => { restart x with signal := true } }
      else exec .preambleDetect s = .next s) ∧
    (if l.state = .acquire then
        goes (.acquisitionDone balls) { l with
          state := .track, lanes := l.lanes.mapIdx fun i x => { x with inverted := balls.getLsbD i } } ∧
        goes .acquireTimeout (fail l)
      else exec (.acquisitionDone balls) s = .next s ∧ exec .acquireTimeout s = .next s) ∧
    (if l.state = .track then
        goes .startDelimiter { l with state := .cwlock, lanes := l.lanes.map restart } ∧ goes .trackTimeout (fail l)
      else exec .startDelimiter s = .next s ∧ exec .trackTimeout s = .next s) ∧
    (if l.state = .cwlock then
        (¬goodSet → (∀ d ∈ ds, d.uncorrectable = false) → goes (.firstAlignmentCodeword cws) (fail l)) ∧
        (¬goodSet → ∃ t, exec (.firstAlignmentCodeword cws) s = .next t ∧ t.link.state = .await ∧
          t.link.attempt = l.attempt + 1 ∧ t.link.fastFails = if l.fastNow then l.fastFails + 1 else l.fastFails) ∧
        (goodSet → ∃ lanes : List Lane, goes (.firstAlignmentCodeword cws) { l with
            state := if l.fastNow then .deskew else .tune, lanes := lanes } ∧ lanes.length = l.lanes.length ∧
          ∀ (i : Nat) (d : Decoded) (x y : Lane), ds[i]? = some d → l.lanes[i]? = some x → lanes[i]? = some y → fresh x →
            let lcw := d.words.getD 59 0
            ∃ ws modes, ws.length = 78 ∧ modes.length = 78 ∧ y = { (x : Lane) with
              logical := some (number d), lock := true, position := 80, cwIndex := 1, amCount := 1, badCw := 0
              badLcw := if lcwGood lcw 0 then 0 else 1, lcwDue := lcwNext lcw 0
              corr := min (x.corr + d.corrected) 0xFFFFFFFF, scrambler := y.scrambler, bitMode := y.bitMode
              fifo := [⟨0, d.tag.getLsbD 15, false, 0, ws, modes⟩]
              fom := if l.fastNow then x.fom else 0
              trains := if l.fastNow then x.trains else 0
              tuneDone := l.fastNow && x.tuneDone })
      else exec (.firstAlignmentCodeword cws) s = .next s) ∧
    (if l.state = .tune then
        goes .tuneTimeout (fail l) ∧
        (x.tuneDone = false → (ball : Nat) < l.lanes.length → ∃ t, exec (.trainSend ball command taps fom) s = .next t ∧
          let ends := decide (160 ≤ fom.toNat ∨ 32 ≤ x.trains)
          t.link.lanes = l.lanes.set ball (if ends then { x with fom := fom.toNat, tuneDone := true }
            else { x with fom := fom.toNat, trains := x.trains + 1 }) ∧
          let m := message 3 (leBytes 1 n ++
            (if ends then [4, 0] else leBytes 1 (command : Nat) ++ leBytes 1 taps.toNat) ++ leBytes 1 fom.toNat ++ leBytes 6 0)
          t.out = sent m ∧
          t.link.state = (if t.link.lanes.all (·.tuneDone) then .deskew else .tune) ∧
          t = { s with
            link := { l with
              lanes := t.link.lanes, state := t.link.state, seq := if l.ibOn then l.seq + 1 else l.seq
              ibScrambler := after m }
            out := t.out })
      else goes .tuneTimeout l ∧ exec (.trainSend ball command taps fom) s = .next s) ∧
    (if l.state = .deskew then
        (100 < skew ∨ laneFenced s = true → goes (.deskewDone skew) (fail { l with skew := min skew 65535 })) ∧
        (skew ≤ 100 → laneFenced s = false →
          let epoch := if l.entered then l.epoch + 1 else 0
          let m := message 2 (leBytes 1 epoch.toNat ++ leBytes 9 0)
          let u : State := { s with
            link := { l with
              state := .up, skew := skew, epoch := epoch, entered := true
              granted := 0, consumed := 0, frozen := false, fastFails := 0, lastFast := l.fastNow
              seq := if l.ibOn then l.seq + 1 else l.seq, ibScrambler := after m
              lanes := l.lanes.map fun x => { x with bitMode := false } }
            parse := { s.parse with gaps := s.parse.gaps ++ [s.parse.len] }
            out := sent m }
          (liveOp s 0x0040 = none → exec (.deskewDone skew) s = .next u) ∧
          (∀ h, liveOp s 0x0040 = some h → exec (.deskewDone skew) s = .next (completeHandle h.value stOk
            (BitVec.ofNat 128 (7 + 256 * (u.link.epoch.toNat + 256 * (skew + 65536 * if l.fastNow then 1 else 0)))) u)))
      else exec (.deskewDone skew) s = .next s)

/-- R39 to R43, R45, R49: loss of signal or of lock while UP logs ING_LANE_LOCK_LOST, freezes the grant and starts
RETRAIN, and during bring-up sends the bundle back; a lane's codeword is counted, its data words wait for the set;
idle sets leave the parser and the credit alone; outside TUNE, DESKEW, UP and a HALTED entered from UP codewords are
not looked at. Where it rests on log entries 13, 49 and 170 it states the model's choice. -/
def Obligations.LinkReceive : Prop :=
  ∀ (s : State) (ball : Fin 8) (cw : Codeword),
    let l := s.link
    let x := laneOf s ball
    let d := decodeCodeword cw.symbols
    let unit := laneUnitOf s ball
    let lost (cause uncorr : Nat) := evData [(1, cause), (1, 7), (2, l.retrains), (4, uncorr)]
    let retrain (f : Lane → Lane) (t : State) : Prop :=
      t.link = { l with
        state := .retrain, attempt := l.attempt + 1, frozen := true, retrains := min (l.retrains + 1) 65535
        fastNow := l.entered && !l.forceFull && decide (l.fastFails < 2), lanes := l.lanes.modify ball f } ∧
      t.parse = { s.parse with gaps := s.parse.gaps ++ [s.parse.len] }
    let lcws (n : Nat) : Word32 := BitVec.ofNat 32 ((x.position + n) / 60 - x.position / 60)
    let lcwsGood := ∀ i w, d.words[i]? = some w → (x.position + i) % 60 = 59 → lcwGood w (x.lcwDue + lcws i) = true
    ((∀ y ∈ rsSyndromes (cw.symbols.map (·.toNat)), y = 0) → d.uncorrectable = false ∧ d.corrected = 0 ∧
      d.tag = BitVec.ofNat 20 (messageBits ((cw.symbols.map (·.toNat)).take 514)) ∧ d.words.length = 80 ∧
      ∀ k < 80, d.words[k]? =
        some (BitVec.ofNat 64 (messageBits ((cw.symbols.map (·.toNat)).take 514) / 2 ^ (20 + 64 * k)))) ∧
    (l.state = .up → ∃ t, exec (.laneSignalLoss ball) s = .next t ∧
      retrain (fun x => { x with signal := false, lock := false }) t ∧ Logged [(0x0101, unit, lost 3 x.uncorr)] s t ∧
      t = { s with link := t.link, parse := t.parse, evr := t.evr, pins := t.pins }) ∧
    (l.state = .cwlock ∨ l.state = .tune ∨ l.state = .deskew → ∃ t, exec (.laneSignalLoss ball) s = .next t ∧
      t.link.state = .await ∧ t.link.attempt = l.attempt + 1 ∧ t = { s with link := t.link }) ∧
    (l.state ≠ .up → l.state ≠ .cwlock → l.state ≠ .tune → l.state ≠ .deskew →
      exec (.laneSignalLoss ball) s = .next { s with link := { l with
        lanes := l.lanes.modify ball fun x => { x with signal := false } } }) ∧
    (l.state ≠ .tune → l.state ≠ .deskew → l.state ≠ .up → (l.state = .halted → l.haltedUp = false) →
      exec (.codewordReceive ball cw) s = .next s) ∧
    (l.state = .tune ∨ l.state = .deskew ∨ l.state = .up → (ball : Nat) < l.lanes.length → x.cwIndex % 16384 ≠ 0 →
      cw.parityStage = 0 → lcwsGood →
      (d.uncorrectable = false →
        (∃ n < 8, ∀ k y, l.lanes[k]? = some y → y.logical = some n → k ≠ ball ∧ y.fifo = []) →
        ∃ t y ws modes, exec (.codewordReceive ball cw) s = .next t ∧ t = { s with link := { l with lanes := l.lanes.set ball y } } ∧
          y = { x with
            cwIndex := (x.cwIndex + 1) % 16384, badCw := 0, corr := min (x.corr + d.corrected) 0xFFFFFFFF
            position := x.position + 80, lcwDue := x.lcwDue + lcws 80
            scrambler := y.scrambler, badLcw := y.badLcw, bitMode := y.bitMode
            fifo := x.fifo ++ [⟨x.cwIndex, d.tag.getLsbD 15, false, 0, ws, modes⟩] } ∧
          (y.badLcw = 0 ∨ y.badLcw = x.badLcw) ∧
          ws.length = ((List.range 80).filter fun i => (x.position + i) % 60 != 59).length ∧
          (x.position % 60 ≠ 59 → ws.head? = d.words.head?.map fun w => w ^^^ BitVec.ofNat 64 (scramblerBits 64 x.scrambler).1)) ∧
      (d.uncorrectable = true → x.badCw = 7 → l.state = .up → ∃ t where_, exec (.codewordReceive ball cw) s = .next t ∧
        t.link.state = .retrain ∧ t.link.frozen = true ∧ (∃ r ∈ t.st.running, r.unit = unit) ∧
        Logged [(0x0104, unit, evData [(2, x.cwIndex), (1, 0), (1, where_), (4, min (x.uncorr + 1) 0xFFFFFFFF)]),
          (0x0101, unit, lost 1 (min (x.uncorr + 1) 0xFFFFFFFF))] s t ∧
        t = { s with link := t.link, parse := t.parse, evr := t.evr, pins := t.pins, st := t.st }) ∧
      (d.uncorrectable = false → x.fifo = [] → d.tag.getLsbD 15 = true →
        (∀ k y h, k ≠ ball → l.lanes[k]? = some y → y.fifo.head? = some h → h.idle = true) →
        ∃ t, exec (.codewordReceive ball cw) s = .next t ∧ t.link.consumed = l.consumed ∧ t = { s with link := t.link }))

/-- R61, R62, R63, R70, R72, R74, R79, R80, R81: a valid header at the front, with nothing behind it, opens its frame
at the stream's write point with an index entry, makes the stream FULL when it has no index slot, or is discarded with
the cause of its discard run (2 stream not open, 3 frame number not higher, 4 stream record being rebuilt). R63, R70,
R71, R73, R80: the end of a frame stores its last, padded, unit, makes the index entry final and moves the write point
past the units, to the next segment where frames are aligned; a stalled frame ends short with its whole units;
ING_STALL is logged once for a pause. Held units go to W7 at a flagged, short or aligned end. Where it rests on log
entry 170 it states the model's choice. -/
def Obligations.FrameEvents : Prop :=
  (∀ s : State,
    let p := s.parse
    let h := partHeader p.bits p.pos false
    let words := (h.length + 7) / 8
    p.searching = false → p.frame = none → p.skipWords = 0 → p.run = none → p.gaps = [] → p.len = p.pos + 512 →
    findBlock s 0x10 (2 * h.stream) = none → armed s 0x10 = false →
    markMatches primaryMark (field p.bits p.pos 64) = true → partFault p.bits p.pos false = none →
    let discarded (cause : Nat) (t : State) : Prop :=
      t.parse.frame = none ∧ t.parse.skipWords = words ∧ t.parse.searching = false ∧
      t.parse.run = some ⟨cause, h.stream, 512, s.clk.us⟩ ∧ t.parse.len = t.parse.pos ∧
      (∀ x, findStream s h.stream = some x → findStream t h.stream = some { x with discards := x.discards + 1 }) ∧
      (∀ k, k ≠ h.stream → findStream t k = findStream s k) ∧
      t = { s with parse := t.parse, str := { s.str with list := t.str.list } }
    ((∀ x, findStream s h.stream = some x → x.state ≠ .open_ ∧ x.state ≠ .full) →
      ∃ t, exec .frameHeader s = .next t ∧ discarded 2 t) ∧
    ∀ x, findStream s h.stream = some x → x.state = .open_ →
      (x.rebuilding = true → ∃ t, exec .frameHeader s = .next t ∧ discarded 4 t) ∧
      (x.rebuilding = false → (h.frame : Int) ≤ x.last → ∃ t, exec .frameHeader s = .next t ∧ discarded 3 t) ∧
      (x.rebuilding = false → x.last < h.frame →
        (freeIndexSlots x = 0 → ∃ t y, exec .frameHeader s = .next t ∧ t.parse.frame = none ∧ t.parse.run = none ∧
          t.parse.skipWords = words ∧ findStream t h.stream = some y ∧ y.state = .full ∧ y.discards = x.discards + 1 ∧
          y.held = [] ∧ y.writePoint = x.writePoint ∧ y.frames = x.frames ∧
          Logged [(0x0202, streamUnit h.stream, evData [(1, 2), (3, 0), (4, h.frame % 2 ^ 32)])] s t ∧
          t = { s with parse := t.parse, str := t.str, ord := t.ord, evr := t.evr, pins := t.pins }) ∧
        (0 < freeIndexSlots x → h.flags.getLsbD 1 = false → h.flags.getLsbD 2 = false →
          x.writePoint + (h.length + 4095) / 4096 ≤ (dataWindow x).start + (dataWindow x).length →
          ∃ t, exec .frameHeader s = .next t ∧ t.parse.skipWords = 0 ∧ t.parse.searching = false ∧ t.parse.run = none ∧
            t.parse.len = t.parse.pos ∧
            t.parse.frame = some ⟨h, 0, words, 0, 0, x.writePoint, 0, x.entries.length, false, false, false, false⟩ ∧
            (∀ k, k ≠ h.stream → findStream t k = findStream s k) ∧
            findStream t h.stream = some { x with
              last := h.frame, frames := x.frames + 1, lastTakenUs := s.clk.us
              entries := x.entries ++ [⟨h.frame, h.flags &&& 0x1F,
                1 + (if x.last + 1 < h.frame ∧ h.flags.getLsbD 4 = false then 16 else 0), x.writePoint, h.stream, h.length,
                h.timecode.getD 0, 0, false, 0, false⟩] } ∧
            t = { s with parse := t.parse, str := { s.str with list := t.str.list } }))) ∧
  (∀ (s : State) (f : OpenFrame) (x : Stream), s.parse.frame = some f →
    let sid := f.header.stream
    let lba := f.startLba + f.units
    let ref := match findNs s x.ns with
      | some n => if n.pi = 3 then f.header.frame else lba
      | none => lba
    let unit := guardUnit s x.ns (BitVec.ofNat 32768 f.partBits) sid ref f.badGuard
    let part := 0 < f.partBytes
    let flagged := f.header.flags.getLsbD 0 || f.header.flags.getLsbD 1 || f.header.flags.getLsbD 2 || f.header.flags.getLsbD 3
    let commit := f.header.flags.getLsbD 0 || f.header.flags.getLsbD 3
    let ends (units short : Nat) (held : List (Nat × Unit4k)) (release : Bool) (t : State) : Prop :=
      let after := f.startLba + units
      t.parse.frame = none ∧ ∃ y, findStream t sid = some y ∧ (∀ k, k ≠ sid → findStream t k = findStream s k) ∧
        y = { x with
          held := y.held, sent := if release then unitsSent { x with held := held } else x.sent, lastTakenUs := s.clk.us
          commits := if commit then x.commits ++ [f.slot] else x.commits, shorts := x.shorts + short
          writePoint := if units = 0 then f.startLba else if x.align1M then (after + 255) / 256 * 256 else after
          entries := x.entries.modify f.slot fun e => { e with
            length := if short = 1 then units * 4096 else f.header.length
            units := units, ended := true
            indexFlags := e.indexFlags ||| ((if short = 1 then 2 else 0) ||| if f.damaged then 4 else 0) } } ∧
        (release = true → y.held = [] ∧ t.ord = { s.ord with waiting := s.ord.waiting ++
          ((cutRuns (unitsToWrite { x with held := held })).map fun r =>
            .write (runWrite .captureData (.stream sid) x.ns r 0)) }) ∧
        (release = false → y.held = held ∧ t.ord = s.ord)
    (f.stallLogged = false → ∃ t, exec .frameStallNotice s = .next t ∧
      Logged [(0x0105, blockUnit 3, evData [(2, sid), (5, f.header.frame), (1, 0)])] s t ∧
      t = { s with
        parse := { s.parse with frame := some { f with stallLogged := true } }, evr := t.evr, pins := t.pins }) ∧
    (f.stallLogged = true → exec .frameStallNotice s = .next s) ∧
    (f.cut = true ∨ 0 < f.wordsLeft → exec .frameEnd s = .next s) ∧
    (findStream s sid = some x → x.state = .open_ → x.lowLogged = true →
      (f.cut = false → f.wordsLeft = 0 → s.parse.gaps = [] → s.parse.len = s.parse.pos → ∃ t, exec .frameEnd s = .next t ∧
        ends (if part then f.units + 1 else f.units) 0 (if part then x.held ++ [(lba, unit)] else x.held)
          (flagged || x.align1M || (decide part && (lba + 1) % 256 == 0)) t ∧
        t = { s with parse := t.parse, str := { s.str with list := t.str.list }, ord := t.ord }) ∧
      (∃ t, exec .stallTimerExpire s = .next t ∧ ends f.units 1 x.held true t ∧
        t.parse = { s.parse with
          frame := none, searching := s.parse.searching || (!f.cut && decide (0 < f.wordsLeft)) } ∧
        Logged [(0x0201, streamUnit sid, evData [(4, f.header.frame % 2 ^ 32), (3, f.units), (1, 0)])] s t ∧
        t = { s with
          parse := t.parse, str := { s.str with list := t.str.list }, ord := t.ord, evr := t.evr, pins := t.pins })))

/-- R51, R56, R57, R64, R78, R84, R133: the grant rises to what the window and the capture space allow, never
otherwise; a backpressure episode is logged for each recent stream; a commit frame durable with all before it is
echoed, posted and pulsed, and its echo goes out a second time. Where it rests on log entries 50 and 171 it states the
model's choice. -/
def Obligations.CaptureCredit : Prop :=
  ∀ (s : State) (sid : Fin 4096) (frame : BitVec 40),
    let l := s.link
    let target : Word32 := BitVec.ofNat 32 ((l.consumed.toNat + min (l.window * 65536) (captureSpace s)) / 65536)
    let above := 0 < (target - l.granted).toNat ∧ (target - l.granted).toNat < 2 ^ 31
    let rest : BitVec 48 := BitVec.ofNat 48 (l.granted.toNat * 65536) - l.consumed
    let full := l.window ≤ (target - BitVec.ofNat 32 (l.consumed.toNat / 65536)).toNat
    let message (type : Nat) (body : List Byte) : List Byte :=
      let head := leBytes 1 type ++ leBytes 1 l.seq.toNat ++ body
      head ++ leBytes 4 (crc32c head)
    let credit := message 2 (leBytes 1 l.epoch.toNat ++ leBytes 4 target.toNat ++ leBytes 5 0)
    let echo (n again : Nat) := message 4 (leBytes 2 sid ++ leBytes 5 n ++ leBytes 1 again ++ leBytes 2 0)
    let next (m : List Byte) : Link :=
      { l with
        seq := if l.ibOn then l.seq + 1 else l.seq
        ibScrambler := if l.ibOn then (ibBlocks m l.ibScrambler).2 else l.ibScrambler }
    let sent (m : List Byte) : List Out := if l.ibOn then .ib m (ibBlocks m l.ibScrambler).1 :: s.out else s.out
    (l.state = .up → l.frozen = false → above → exec .grantRaise s = .next { s with
      link := { next credit with granted := target }, out := sent credit
      str := { s.str with backpressure := s.str.backpressure && !decide full } }) ∧
    (l.state ≠ .up ∨ l.frozen = true ∨ ¬above → exec .grantRaise s = .next s) ∧
    (l.state = .up → s.str.backpressure = false → (rest.toNat < 5056 ∨ 2 ^ 47 ≤ rest.toNat) → ¬above → ∃ t, exec .backpressureEpisode s = .next t ∧
        Logged ((s.str.list.filter fun x => (s.parse.frame.any fun f => f.header.stream == x.sid) ||
            (decide (0 < x.frames) && decide (s.clk.us ≤ x.lastTakenUs + 10000))).map fun x =>
          (0x0203, streamUnit x.sid, evData [(4, captureSpace s / 1048576), (4, l.granted.toNat)])) s t ∧
        t = { s with str := { s.str with backpressure := true }, evr := t.evr, pins := t.pins }) ∧
    (∀ x slot rest e, findStream s sid = some x → x.commits = slot :: rest → x.entries[slot]? = some e →
      (framesDurable s x slot = false → exec (.commitAck sid) s = .next s) ∧
      (framesDurable s x slot = true → s.crg.backlog = [] → s.crg.dropped = 0 → slotFree s.crg = true →
        ∃ t, exec (.commitAck sid) s = .next t ∧ findStream t sid = some { x with commits := rest } ∧
          (∀ k, k ≠ (sid : Nat) → findStream t k = findStream s k) ∧
          t.str.repeats = s.str.repeats ++ [((sid : Nat), e.frame)] ∧
          (∀ o ∈ sent (echo e.frame 0), o ∈ t.out) ∧ t.link = next (echo e.frame 0) ∧
          t.crg.tail = (s.crg.tail + 1) % 1024 ∧
          (t.crg.slots.find? fun y => y.1 == s.crg.tail) = some (s.crg.tail,
            ⟨⟨2, false, 0, BitVec.ofNat 32 sid, 0, 0, BitVec.ofNat 128
              (leNat (leBytes 5 e.frame ++ leBytes 1 e.frameFlags.toNat ++ leBytes 2 0 ++ leBytes 8 e.timecode.toNat))⟩,
              s.crg.phase, s.crg.number⟩) ∧
          t.pins = changeWhere (fun p => p.function == 9 && p.arg.toNat == (sid : Nat)) (fun p => { p with on := true }) s.pins ∧
          t = { s with
            link := t.link, str := { s.str with list := t.str.list, repeats := t.str.repeats }
            crg := t.crg, mbx := t.mbx, nv := { s.nv with pba := t.nv.pba }, out := t.out, pins := t.pins })) ∧
    ((((sid : Nat), frame.toNat) ∈ s.str.repeats) → exec (.commitEchoRepeat sid frame) s = .next { s with
      str := { s.str with repeats := s.str.repeats.erase ((sid : Nat), frame.toNat) }
      link := next (echo frame.toNat 1), out := sent (echo frame.toNat 1) }) ∧
    ((((sid : Nat), frame.toNat) ∉ s.str.repeats) → exec (.commitEchoRepeat sid frame) s = .next s)

/-- R66 to R69, R72, R76, R82, R83, R85, R137: the Lorard commands of the streams: the order of the checks and what
each command does once they pass. Where it rests on log entries 51, 53 and 171 it states the model's choice. -/
def Obligations.StreamCommands : Prop :=
  ∀ (s : State) (m : Fin 16),
    let p := reqField s m
    let sid := p 8 2
    let answers (i : Instr) (st : BitVec 16) : Prop := ∃ t, exec i s = .next t ∧ Replied m st [] s t
    let code (x : StreamState) : Nat := match x with
      | .closed => 0 | .armed => 1 | .open_ => 2 | .full => 3 | .draining => 4
    let erased := (s.map.sbs.filter fun b => b.state == .erased).length * 2976 * 1048576
    let partition (fc fn : Nat) := leBytes 4 (bufferMib s) ++ leBytes 4 fc ++ leBytes 4 fn ++ leBytes 4 (limitMib s)
    (Asked m 0x0050 s →
      let d : Window := ⟨p 12 8, p 20 8⟩
      let i : Window := ⟨p 28 8, p 36 8⟩
      let x : Stream := {
        sid := sid, state := .closed, ns := p 10 1, align1M := p 11 1 == 1, stallMs := if p 52 4 = 0 then 20 else p 52 4
        base := p 44 8, take := p 56 2, dataWindows := [d], dataCur := 0, indexWindows := [i], writePoint := d.start
        last := (p 44 8 : Int) - 1, frames := 0, shorts := 0, discards := 0, lowLogged := false, held := [], sent := []
        entries := [], commits := [], indexWrites := 0, rebuilding := false, lastTakenUs := 0 }
      let closed := ∀ y, findStream s sid = some y → y.state = .closed
      let fits (n : Namespace) := n.attached = true ∧ d.start % 256 = 0 ∧ d.length % 256 = 0 ∧ 256 ≤ d.length ∧ 1 ≤ i.length ∧
        d.start + d.length ≤ n.size * 256 ∧ i.start + i.length ≤ n.size * 256 ∧
        (d.start + d.length ≤ i.start ∨ i.start + i.length ≤ d.start)
      let conflict := ∃ y ∈ s.str.list, y.sid ≠ sid ∧ y.state ≠ .closed ∧ y.ns = x.ns ∧
        ∃ a ∈ [d, i], ∃ b ∈ y.dataWindows ++ y.indexWindows, a.start < b.start + b.length ∧ b.start < a.start + a.length
      let others := s.str.list.filter fun y => y.sid != sid
      (¬closed → answers (.streamOpen m) stWrongState) ∧
      (closed → (∀ n, findNs s x.ns = some n → ¬fits n) → answers (.streamOpen m) stBadParam) ∧
      ∀ n, closed → findNs s x.ns = some n → fits n →
        (conflict → answers (.streamOpen m) stResourceConflict) ∧
        (¬conflict → s.link.state = .halted → answers (.streamOpen m) stWrongState) ∧
        (¬conflict → x.take ≠ 0xFFFF → (∀ k, findTake s x.take = some k → k.live = true ∨ k.closing = true) →
          answers (.streamOpen m) stWrongState) ∧
        (¬conflict → s.link.state ≠ .halted →
          (x.take = 0xFFFF → findTake s 0xFFFF = none → ∃ t, exec (.streamOpen m) s = .next t ∧ Replied m stOk []
            (bankWritten 0x10 (2 * sid) { s with str := { s.str with list := { x with state := .open_ } :: others } }) t) ∧
          (x.take ≠ 0xFFFF → ∀ k, findTake s x.take = some k → k.live = false → k.closing = false →
            let full := decide (k.members ≤ k.ids.length + 1)
            ∃ t u, exec (.streamOpen m) s = .next t ∧ Replied m stOk [] u t ∧
              u = bankWritten 0x10 (2 * sid) { s with str := u.str } ∧
              findTake u x.take = some { k with ids := k.ids ++ [sid], live := full } ∧
              findStream u sid = some { x with state := if full then .open_ else .armed } ∧
              ∀ j, j ≠ sid → findStream u j = (findStream s j).map fun y =>
                if full ∧ j ∈ k.ids then { y with state := .open_ } else y))) ∧
    (Asked m 0x0051 s →
      ((∀ x, findStream s sid = some x → x.take ≠ 0xFFFF ∨ (x.state ≠ .open_ ∧ x.state ≠ .full)) →
        answers (.streamClose m) stWrongState) ∧
      (∀ x, findStream s sid = some x → x.take = 0xFFFF → x.state = .open_ ∨ x.state = .full → freeSlots s ≠ [] →
        ∃ t v u y, exec (.streamClose m) s = .next t ∧ Accepted m 0x0051 true sid 0 v s u t ∧
          findStream u sid = some y ∧ y.state = .draining ∧ y.held = [] ∧
          (∀ k, k ≠ sid → findStream u k = findStream s k) ∧
          u = { s with hnd := u.hnd, free := s.free + 1, str := { s.str with list := u.str.list }, ord := u.ord })) ∧
    (Asked m 0x0052 s →
      (findStream s sid = none → ∃ t, exec (.streamStatus m) s = .next t ∧ Replied m stOk
        ([0, 0, 0xFF, 0xFF] ++ leBytes 8 0 ++ leBytes 8 0xFFFFFFFFFF ++ leBytes 32 0 ++ leBytes 8 erased) s t) ∧
      (∀ x, findStream s sid = some x → ∃ t, exec (.streamStatus m) s = .next t ∧ Replied m stOk
        (leBytes 1 (code x.state) ++ leBytes 1 0 ++ leBytes 2 x.take ++ leBytes 8 x.writePoint ++
          leBytes 8 (x.last % 2 ^ 40).toNat ++ leBytes 8 x.frames ++ leBytes 4 (min x.shorts 0xFFFFFFFF) ++
          leBytes 4 (min x.discards 0xFFFFFFFF) ++ leBytes 8 (dataRoom x * 4096) ++
          leBytes 4 (min (freeIndexSlots x) 0xFFFFFFFF) ++ leBytes 1 (queuedData x % 16 + 16 * (queuedIndex x % 16)) ++
          leBytes 3 0 ++ leBytes 8 erased) s t)) ∧
    (Asked m 0x0053 s →
      let w : Window := ⟨p 12 8, p 20 8⟩
      let data := p 10 1 = 0
      let inside (n : Namespace) := w.start + w.length ≤ n.size * 256
      let shape := if data then w.start % 256 = 0 ∧ w.length % 256 = 0 ∧ 256 ≤ w.length else 1 ≤ w.length
      let hits (b : Window) := w.start < b.start + b.length ∧ b.start < w.start + w.length
      let conflict (ns : Nat) := ∃ y ∈ s.str.list, y.sid ≠ sid ∧ y.state ≠ .closed ∧ y.ns = ns ∧
        ∃ b ∈ y.dataWindows ++ y.indexWindows, hits b
      ((∀ x, findStream s sid = some x → x.state = .closed ∨ x.state = .draining) →
        answers (.streamExtendWindow m) stWrongState) ∧
      ∀ x, findStream s sid = some x → x.state ≠ .closed → x.state ≠ .draining →
        ((∀ n, findNs s x.ns = some n → ¬(shape ∧ inside n ∧ ∀ b ∈ ownWindows x, ¬hits b)) →
          answers (.streamExtendWindow m) stBadParam) ∧
        ∀ n, findNs s x.ns = some n → shape → inside n → (∀ b ∈ ownWindows x, ¬hits b) →
          (conflict x.ns → answers (.streamExtendWindow m) stResourceConflict) ∧
          (¬conflict x.ns → 4 ≤ (if data then queuedData x else queuedIndex x) → answers (.streamExtendWindow m) stCapacity) ∧
          (¬conflict x.ns → (if data then queuedData x else queuedIndex x) < 4 → ∃ t u y,
            exec (.streamExtendWindow m) s = .next t ∧ findStream u sid = some y ∧
            y = { x with
              dataWindows := if data then x.dataWindows ++ [w] else x.dataWindows
              indexWindows := if data then x.indexWindows else x.indexWindows ++ [w]
              state := if x.state = .full then .open_ else x.state, lowLogged := y.lowLogged } ∧
            (y.lowLogged = true ↔ x.lowLogged = true ∧ belowLowWater y = true) ∧
            (∀ k, k ≠ sid → findStream u k = findStream s k) ∧ u = { s with str := { s.str with list := u.str.list } } ∧
            Replied m stOk (leBytes 1 (if data then queuedData y else queuedIndex y) ++ leBytes 3 0) u t)) ∧
    (Asked m 0x0054 s →
      let fc := if p 8 4 = 0xFFFFFFFF then s.str.fc else p 8 4
      let fn := if p 12 4 = 0xFFFFFFFF then s.str.fn else p 12 4
      let conflict := bufferMib s < fc + fn ∨ (bufferMib s - fn) * 1048576 < captureHeld s ∨
        (bufferMib s - fc) * 1048576 < nvmeHeld s
      let ask := p 8 4 = 0xFFFFFFFF ∧ p 12 4 = 0xFFFFFFFF
      (ask → ∃ t, exec (.bufferPartition m) s = .next t ∧ Replied m stOk (partition s.str.fc s.str.fn) s t) ∧
      (¬ask → conflict → answers (.bufferPartition m) stResourceConflict) ∧
      (¬ask → ¬conflict → ∃ t u, exec (.bufferPartition m) s = .next t ∧ Replied m stOk (partition fc fn) u t ∧
        Logged (if decide (s.str.fc ≤ limitMib s) = decide (fc ≤ limitMib s) then []
          else [(0x0204, blockUnit 7, evData [(4, limitMib s), (4, fc)])]) s u ∧
        u = { s with str := { s.str with fc := fc, fn := fn }, evr := u.evr, pins := u.pins })) ∧
    (Asked m 0x0055 s →
      (findTake s (p 8 1) ≠ none → answers (.takeOpen m) stWrongState) ∧
      (findTake s (p 8 1) = none → ∃ t, exec (.takeOpen m) s = .next t ∧ Replied m stOk []
        { s with str := { s.str with takes := s.str.takes ++ [⟨p 8 1, p 10 2, [], false, false, 0, 0⟩] } } t)) ∧
    (Asked m 0x0056 s →
      ((∀ k, findTake s (p 8 1) = some k → k.closing = true) → answers (.takeClose m) stWrongState) ∧
      (∀ k, findTake s (p 8 1) = some k → k.closing = false → k.ids ≠ [] → freeSlots s ≠ [] →
        (∀ j ∈ k.ids, ∃ x, findStream s j = some x ∧ (x.state = .open_ ∨ x.state = .full)) →
        ∃ t v u, exec (.takeClose m) s = .next t ∧ Accepted m 0x0056 true (p 8 1) 0 v s u t ∧
          findTake u (p 8 1) = some { k with closing := true } ∧
          (∀ j ∈ k.ids, ∃ y, findStream u j = some y ∧ y.state = .draining ∧ y.held = []) ∧
          (∀ j, j ∉ k.ids → findStream u j = findStream s j) ∧
          u = { s with
            hnd := u.hnd, free := s.free + 1
            str := { s.str with list := u.str.list, takes := u.str.takes }, ord := u.ord })) ∧
    (Asked m 0x0060 s →
      (findStream s sid = none → ∃ t, exec (.frameIndexRead m) s = .next t ∧ Replied m stOk (leBytes 8 0) s t) ∧
      (∀ x, findStream s sid = some x →
        let placed := x.entries.takeWhile (·.placed)
        let es := (placed.drop (p 12 4)).take (p 10 1)
        let body (e : IndexEntry) := leBytes 8 e.timecode.toNat ++ leBytes 5 e.frame ++ leBytes 1 e.frameFlags.toNat ++
          leBytes 2 e.indexFlags.toNat ++ leBytes 6 e.startLba ++ leBytes 2 (0x1000 + e.stream) ++ leBytes 4 e.length
        ∃ t, exec (.frameIndexRead m) s = .next t ∧ Replied m stOk
          (leBytes 1 es.length ++ leBytes 3 0 ++ leBytes 4 placed.length ++
            es.flatMap fun e => body e ++ leBytes 4 (crc32c (body e))) s t))

/-- R68, R71, R74, R76, R78: a DRAINING stream whose frames are all durable and indexed becomes CLOSED and its handle
completes; held units go out after 10 ms; the next index entry is placed when its frame's units are durable, and its
unit is written when it is the 128th or the frame carries a flag, or 10 ms after. Where it rests on log entries 12 and
171 it states the model's choice. -/
def Obligations.StreamEvents : Prop :=
  ∀ (s : State) (sid : Fin 4096) (x : Stream), findStream s sid = some x →
    let busy := s.parse.frame.any fun f => f.header.stream == (sid : Nat)
    let placed := (x.entries.takeWhile (·.placed)).length
    let only (t : State) : Prop := (∀ k, k ≠ (sid : Nat) → findStream t k = findStream s k) ∧
      t = { s with str := { s.str with list := t.str.list }, ord := { s.ord with waiting := t.ord.waiting } }
    (x.state = .draining → busy = false → x.held = [] → framesDurable s x x.entries.length = true →
      findTake s x.take = none →
      let u : State := { s with str := { s.str with
        list := s.str.list.map fun y => if y.sid = (sid : Nat) then { y with state := .closed } else y } }
      ((∀ h ∈ s.hnd.live, h.opcode = 0x0051 → h.subject ≠ (sid : Nat)) → exec (.streamDrainDone sid) s = .next u) ∧
      (∀ h, (s.hnd.live.find? fun h => h.opcode == 0x0051 && h.subject == (sid : Nat)) = some h →
        exec (.streamDrainDone sid) s = .next (completeHandle h.value stOk (BitVec.ofNat 128
          (leNat (leBytes 5 (x.last % 2 ^ 40).toNat ++ leBytes 3 0 ++ leBytes 4 placed))) u))) ∧
    (x.state ≠ .draining ∨ busy = true ∨ x.held ≠ [] ∨ framesDurable s x x.entries.length = false →
      exec (.streamDrainDone sid) s = .next s) ∧
    (∃ t, exec (.heldUnitTimeout sid) s = .next t ∧ findStream t sid = some { x with held := [], sent := unitsSent x } ∧ only t ∧
      t.ord.waiting = s.ord.waiting ++
        ((cutRuns (unitsToWrite x)).map fun r => .write (runWrite .captureData (.stream sid) x.ns r 0))) ∧
    (∀ e, x.entries[placed]? = some e →
      (entryDataDurable s x e = false → exec (.indexEntryPlace sid) s = .next s) ∧
      (entryDataDurable s x e = true → e.written = 0 → ∃ t y, exec (.indexEntryPlace sid) s = .next t ∧ only t ∧
        findStream t sid = some y ∧ (∃ g, y.entries[placed]? = some g ∧ g = { e with placed := true, written := g.written }) ∧
        (((placed + 1) % 128 ≠ 0 ∧ e.frameFlags &&& 0xF = 0) → y.indexWrites = x.indexWrites ∧ t.ord = s.ord) ∧
        (((placed + 1) % 128 = 0 ∨ e.frameFlags &&& 0xF ≠ 0) → y.indexWrites = x.indexWrites + 1 ∧
          ∃ unit, t.ord.waiting = s.ord.waiting ++ [.write (runWrite .indexUnit (.stream sid) x.ns
            [(indexLba x.indexWindows (placed / 128), unit)] (x.indexWrites + 1))]))) ∧
    (∃ (t : State) (y : Stream) (ws : List Write), exec (.indexUnitTimeout sid) s = .next t ∧ only t ∧ findStream t sid = some y ∧
      (∀ e ∈ y.entries, e.placed = true → 0 < e.written) ∧
      y = { x with indexWrites := x.indexWrites + ws.length, entries := y.entries } ∧
      t.ord.waiting = s.ord.waiting ++ ws.map .write ∧
      ∀ w ∈ ws, w.kind = .indexUnit ∧ w.src = .stream sid ∧ w.ns = x.ns ∧ w.len = 1)

/-- R89, R91, R94, R97, R103, R105: a command that ends leaves the controller with one completion entry, written at
the tail of its queue with the phase of the pass and the submission queue's head, or waiting for a free slot; the
interrupt goes out at once for the admin queue, with no coalescing or over the threshold, or is left pending where its
vector is masked. During a Clove stop the entry is held; outside service none is posted (R33, R117). The head doorbell
frees slots for the entries that wait. R33, R94, R97, R102, R103, R115, R116, R327: a tail doorbell publishes the
entries up to the new tail and they are fetched; a tail outside the queue, or an unready controller, changes nothing
beside the resume. A ready controller in service with no shutdown fetches every published entry, the admin queue's
first, and moves the heads; else it fetches none. Where it rests on log entries 17, 28 and 173 it states the model's
choice. -/
def Obligations.NvmeQueues : Prop :=
  ((∀ (s : State) (sq : Nat) (cid : BitVec 16) (sct sc : Nat) (dnr : Bool) (dw0 dw1 : BitVec 32) (c : Cmd) (q : Sq) (k : Cq),
    findCmd s sq cid = some c → findSq s sq = some q → findCq s q.cq = some k →
    let t := completeCmd sq cid sct sc dnr dw0 dw1 s
    let cmds := s.nv.cmds.filter fun c => !(c.sq == sq && c.sqe.cid == cid)
    let op := c.sqe.opcode
    let nv : Nvme := { s.nv with
      cmds := cmds
      hostReads := s.nv.hostReads + if sq ≠ 0 ∧ op = 0x02 then 1 else 0
      hostWrites := s.nv.hostWrites + if sq ≠ 0 ∧ (op = 0x01 ∨ op = 0x81) then 1 else 0 }
    let e (p early : Bool) : Cqe := ⟨dw0, dw1, q.head, sq, cid, p, sct, sc, dnr, early⟩
    let waits := e false (endsEarly c (sct != 0 || sc != 0))
    t.nv.cmds = cmds ∧
    (s.life.phase ≠ .service → t = { s with nv := nv }) ∧
    (s.life.phase = .service → s.life.stop ≠ none → t = { s with nv := { nv with held := s.nv.held ++ [(q.cq, waits)] } }) ∧
    (s.life.phase = .service → s.life.stop = none →
      (k.overflow ≠ [] ∨ k.size ≤ k.entries.length + 1 → findCq t q.cq = some { k with overflow := k.overflow ++ [waits] } ∧
        t = { s with nv := { nv with cqs := t.nv.cqs } }) ∧
      (k.overflow = [] → k.entries.length + 1 < k.size → ∃ j, findCq t q.cq = some j ∧
        j = { k with
          entries := k.entries ++ [e k.phase false], tail := (k.tail + 1) % k.size
          phase := if k.tail + 1 = k.size then !k.phase else k.phase, aggregated := j.aggregated } ∧
        (k.ien = true → k.id = 0 ∨ s.nv.coalesceTime = 0 → Notified k.vector s t ∧ j.aggregated = 0) ∧
        (k.ien = false → t.out = s.out ∧ t.nv.pba = s.nv.pba ∧ j.aggregated = k.aggregated + 1) ∧
        (k.ien = true → k.id ≠ 0 → s.nv.coalesceTime ≠ 0 →
          (∀ x ∈ s.nv.cqs, x.vector = k.vector → x.ien = true → x.id = k.id) → s.nv.cqs.countP (fun x => x.id == k.id) = 1 →
          if s.nv.coalesceThreshold ≤ k.aggregated then Notified k.vector s t ∧ j.aggregated = 0
          else t.out = s.out ∧ t.nv.pba = s.nv.pba ∧ j.aggregated = k.aggregated + 1) ∧
        (∀ n, n ≠ k.id → ∃ f : Nat → Nat, findCq t n = (findCq s n).map fun x => { x with aggregated := f x.aggregated }) ∧
        t = { s with nv := { nv with cqs := t.nv.cqs, pba := t.nv.pba }, out := t.out }))) ∧
  (∀ (s : State) (qid : Nat) (head : BitVec 16) (q : Cq), s.life.phase = .service → s.life.perstN = true →
    let u := resumeP0 s
    let n := (head.toNat + q.size - q.head) % q.size
    (findCq u qid = none → exec (.cqHeadDoorbell qid head) s = .next u) ∧
    (findCq u qid = some q →
      (q.size ≤ head.toNat ∨ q.entries.length < n → exec (.cqHeadDoorbell qid head) s = .next u) ∧
      (head.toNat < q.size → n ≤ q.entries.length → ∃ (t : State) (r : Cq) (k : Nat) (new : List Cqe),
        exec (.cqHeadDoorbell qid head) s = .next t ∧ findCq t qid = some r ∧ r.head = head.toNat ∧ k ≤ q.overflow.length ∧
        r.overflow = q.overflow.drop k ∧ r.entries = q.entries.drop n ++ new ∧
        (new.map fun e => { e with phase := false }) = (q.overflow.take k).map (fun e => { e with phase := false }) ∧
        (k < q.overflow.length → r.size ≤ r.entries.length + 1) ∧ r.tail % q.size = (q.tail + k) % q.size ∧
        t = { u with nv := { u.nv with cqs := t.nv.cqs, pba := t.nv.pba }, out := t.out }))) ∧
  (∀ (s : State) (v : Fin 2048),
    let due := ∃ q ∈ s.nv.cqs, q.id ≠ 0 ∧ q.vector = (v : Nat) ∧ q.ien = true ∧ 0 < q.aggregated
    (due → ∃ t, exec (.interruptCoalescingTimeout v) s = .next t ∧ Notified v s t ∧ t = { s with
      nv := { s.nv with
        cqs := s.nv.cqs.map fun q => if q.vector = (v : Nat) then { q with aggregated := 0 } else q, pba := t.nv.pba }
      out := t.out }) ∧
    (¬due → exec (.interruptCoalescingTimeout v) s = .next s))) ∧
  ((∀ (s : State) (qid : Nat) (tail : BitVec 16) (entries : List Sqe), s.life.phase = .service → s.life.perstN = true →
    let u := resumeP0 s
    let good (q : Sq) := u.nv.rdy = true ∧ tail.toNat < q.size ∧ (tail.toNat + q.size - q.tail) % q.size = entries.length
    ((∀ q, findSq u qid = some q → ¬good q) → exec (.sqTailDoorbell qid tail entries) s = .next u) ∧
    (∀ q, findSq u qid = some q → good q → exec (.sqTailDoorbell qid tail entries) s = .next (fetchAll { u with
      nv := { u.nv with sqs := u.nv.sqs.map fun x =>
        if x.id = qid then { x with tail := tail.toNat, entries := x.entries ++ entries } else x } }))) ∧
  (∀ s : State, (∀ c ∈ s.nv.cmds, c.sq = 0 → c.sqe.opcode = 0 → c.stage ≠ .running) →
    (s.nv.rdy = false ∨ s.nv.shst ≠ 0 ∨ s.life.phase ≠ .service → fetchAll s = s) ∧
    (s.nv.rdy = true → s.nv.shst = 0 → s.life.phase = .service → s.life.stop = none →
      (s.nv.sqs.map (·.id)).Nodup → (∀ q ∈ s.nv.sqs, q.prio < 4 ∧ ∀ e ∈ q.entries, unsupported q.id e = none) →
      (∀ c ∈ s.nv.cmds, c.stage = .fetched → unsupported c.sq c.sqe = none) →
      (s.nv.cmds.filter fun c => c.sq != 0).length + ((s.nv.sqs.filter fun q => q.id != 0).map (·.entries.length)).sum ≤ 65536 →
      let cmd (q : Sq) (e : Sqe) : Cmd := ⟨q.id, e, .fetched, 0, 0, false, [], [], none⟩
      let admin := (s.nv.sqs.filter fun q => q.id == 0).flatMap fun q => q.entries.map (cmd q)
      let io := (s.nv.sqs.filter fun q => q.id != 0).flatMap fun q => q.entries.map (cmd q)
      ∃ t added, fetchAll s = t ∧ t.nv.cmds = s.nv.cmds ++ admin ++ added ∧ added.Perm io ∧
        (∀ q ∈ s.nv.sqs, q.id ≠ 0 → added.filter (fun c => c.sq == q.id) = q.entries.map (cmd q)) ∧
        t.nv.sqs = s.nv.sqs.map (fun q =>
          if q.entries = [] then q else { q with entries := [], head := (q.head + q.entries.length) % q.size }) ∧
        t = { s with nv := { s.nv with cmds := t.nv.cmds, sqs := t.nv.sqs, turns := t.nv.turns } })))

/-- R89, R91, R110, R115, R116, R136, R189: enabling makes the admin queues of AQA, disabling drops what is not
accepted and brings the features back but leaves the PCIe state, shutdown waits until every accepted write is durable
and then ends the ledger with CLEAN; a PCIe reset does what disabling does, resets the PCIe registers and ends PCIe
ownership of mailboxes; PERST_N, L1 and D3hot (R323, R324, R327). Awake, so that no access has anything to resume.
Where it rests on log entries 11, 26 and 174 it states the model's choice. -/
def Obligations.ControllerResets : Prop :=
  ∀ (s : State) (value : BitVec 32), Awake s →
    let live := s.life.phase = .service ∧ s.life.perstN = true
    let cc := value &&& 0x00FFFFF1
    let n := s.nv
    let orphaned : Sys2Proof.Machine.Ordering := { s.ord with
      waiting := s.ord.waiting.filter fun x => match x with
        | .write w => w.cmd.isNone
        | .fence f => f.cmd.isNone
      accepted := s.ord.accepted.map fun w => { w with cmd := none }
      fences := s.ord.fences.map fun f => { f with cmd := none } }
    let reads : Integrity := { s.intg with reads := s.intg.reads.filter fun r => match r.reader with
      | .host _ _ => false
      | _ => true }
    let kept : Nvme := { Nvme.reset with
      namespaces := n.namespaces, sanitize := n.sanitize, sanitized := n.sanitized, formatSes := n.formatSes
      bytesRead := n.bytesRead, bytesWritten := n.bytesWritten, mediaErrors := n.mediaErrors, errors := n.errors
      warnMs := n.warnMs, critMs := n.critMs, cfs := n.cfs, critical := n.critical, hostReads := n.hostReads
      hostWrites := n.hostWrites }
    let disabled : Nvme := { kept with
      aqa := n.aqa, asq := n.asq, acq := n.acq, cc := cc, msix := n.msix, pba := n.pba, msixEnabled := n.msixEnabled
      msixMasked := n.msixMasked, msiEnabled := n.msiEnabled, msiAddress := n.msiAddress, msiData := n.msiData
      bars := n.bars }
    let reset : State := { s with
      ord := orphaned, intg := reads, nv := kept
      mbx := { s.mbx with
        msixArmed := true
        box := s.mbx.box.map fun b => if b.owner = some .pcie then { b with owner := none, unreadDone := false } else b }
      crg := { s.crg with pcieEn := false, vector := 0, unreadPcie := 0 }
      pwr := { s.pwr with d3hot := false, l1 := false } }
    (live → value.getLsbD 0 = true → n.cc.getLsbD 0 = false → exec (.ccEnable value) s = .next { s with nv := { n with
      cc := cc, shst := 0, rdy := s.life.captureReady
      sqs := [⟨0, n.aqa.toNat % 4096 + 1, 0, 0, 0, 0, []⟩]
      cqs := [⟨0, n.aqa.toNat / 65536 % 4096 + 1, 0, true, 0, 0, true, [], [], 0⟩] } }) ∧
    (¬live ∨ value.getLsbD 0 = false ∨ n.cc.getLsbD 0 = true → exec (.ccEnable value) s = .next s) ∧
    (live → value.getLsbD 0 = false → n.cc.getLsbD 0 = true → n.nextSlot = none →
      exec (.ccDisable value) s = .next { s with
        ord := orphaned, intg := reads, nv := disabled }) ∧
    (live → serving s = true → value.getLsbD 0 = false → n.cc.getLsbD 0 = true → ∀ k, n.nextSlot = some k →
      ∃ t r, exec (.ccDisable value) s = .next t ∧ t.life.stop = some r ∧ r.activation = true ∧ r.newSlot = k ∧
        t.nv = { disabled with pba := t.nv.pba } ∧ t.ord = orphaned) ∧
    (¬live ∨ value.getLsbD 0 = true ∨ n.cc.getLsbD 0 = false → exec (.ccDisable value) s = .next s) ∧
    (live → value.getLsbD 0 = true → n.cc.getLsbD 0 = true → n.shst = 0 → value.toNat / 2 ^ 14 % 4 ≠ 0 →
      ∃ t, exec (.ccShutdown value) s = .next t ∧
        t = { s with nv := { n with cc := cc, shst := 1 }, map := { s.map with sbs := t.map.sbs } }) ∧
    (s.life.phase = .service → n.shst = 1 →
      ((∃ w ∈ s.ord.accepted, durable s w = false) → exec .shutdownComplete s = .next s) ∧
      ((∀ w ∈ s.ord.accepted, durable s w = true) →
        (bufferWritten s = false → exec .shutdownComplete s = .next { s with nv := { n with shst := 2 } }) ∧
        (bufferWritten s = true → s.map.pages + (s.map.pendingSlots.length + 255) / 255 < 1536 →
          ∃ t, exec .shutdownComplete s = .next t ∧ t.nv = { n with shst := 2 } ∧
            t.map.slots.head? = some (.clean (s.ord.next - 1)) ∧
            t = { s with nv := t.nv, map := t.map, ord := t.ord }))) ∧
    (s.life.phase ≠ .service ∨ n.shst ≠ 1 → exec .shutdownComplete s = .next s) ∧
    (n.nextSlot = none → s.crg.backlog = [] →
      (s.life.phase = .service ∨ s.life.phase = .recovery → s.life.perstN = true →
        exec .functionLevelReset s = .next (ibiNotify reset) ∧ exec .hotReset s = .next (ibiNotify reset) ∧
        exec .perstNAssert s = .next (ibiNotify { reset with life := { s.life with perstN := false } }))) ∧
    (s.life.phase ≠ .service → s.life.phase ≠ .recovery →
      exec .functionLevelReset s = .next s ∧ exec .hotReset s = .next s ∧
      exec .perstNAssert s = .next { s with
        life := { s.life with perstN := false }, pwr := { s.pwr with perstSeen := s.pwr.perstSeen || s.life.phase == .p4 } }) ∧
    (let u : State := { s with life := { s.life with perstN := true } };
      (s.life.phase ≠ .p4 ∨ s.pwr.perstSeen = false ∨ s.pwr.wakeSources.getLsbD 0 = false →
        exec .perstNDeassert s = .next u) ∧
      (s.life.phase = .p4 → s.pwr.perstSeen = true → s.pwr.wakeSources.getLsbD 0 = true →
        exec .perstNDeassert s = .next (wakeFromP4 true u))) ∧
    (∀ d3hot : Bool,
      let u : State := { s with pwr := { s.pwr with l1 := !d3hot, d3hot := s.pwr.d3hot || d3hot } }
      (live → targetState u ≠ 1 → exec (.pcieL1Entry d3hot) s = .next u) ∧
      (live → targetState u = 1 → ∃ t, exec (.pcieL1Entry d3hot) s = .next t ∧
        t.pwr = { u.pwr with state := 1, background := false } ∧
        t = { s with
          nv := { s.nv with pba := t.nv.pba }, pwr := t.pwr, mbx := t.mbx, hnd := t.hnd, crg := t.crg, out := t.out }) ∧
      (¬live → exec (.pcieL1Entry d3hot) s = .next s)) ∧
    (exec .pcieD3hotExit s = .next (if s.life.phase = .service ∧ s.life.perstN = true then
      { s with pwr := { s.pwr with d3hot := false } } else s))

/-- R95, R112, R113, R114, R117, R406: the checks of an I/O command, in order, with their statuses, and the wait for
an earlier overlapping command of the same queue that has not taken effect. R82, R99, R100, R101, R105, R108, R112,
R113, R146, R253: a Write, an Ordered Write, a Write Zeroes and a Dataset Management enter W6 with the units W5 makes
of their data; protection information that does not match ends the command with HOST_PI_MISMATCH; a full NVMe share
makes a write wait; completions are posted when R108 allows. Where it rests on log entries 16, 19, 20, 22 and 172 it
states the model's choice. -/
def Obligations.NvmeWrites : Prop :=
  (∀ (s : State) (sq : Nat) (cid : BitVec 16) (c : Cmd) (data : List HostUnit) (x : Instr × Nat × Nat),
    x ∈ [(Instr.write sq cid data, 0x01, 2097152), (.orderedWrite sq cid data, 0x81, 2097152),
      (.writeZeroes sq cid, 0x08, 65536 * 4104), (.read sq cid, 0x02, 2097152), (.verify sq cid, 0x0C, 2097152)] →
    sq ≠ 0 → Begins s sq cid x.2.1 c →
    let lba (e : Sqe) := e.cdw10.toNat + e.cdw11.toNat * 2 ^ 32
    let len (e : Sqe) := e.cdw12.toNat % 65536 + 1
    let ranges (e : Sqe) := if e.opcode = 0x09 then e.ranges.map (fun r => (r.slba, r.nlb))
      else if e.opcode = 0x00 ∨ e.opcode = 0x84 then [] else [(lba e, len e)]
    let block (n : Namespace) := if n.fmt = 0 ∨ (n.pi ≠ 0 ∧ c.sqe.cdw12.getLsbD 29 = true) ∨ x.2.1 = 0x0C then 4096 else 4104
    let stops (sct sc : Nat) (dnr : Bool) := Ends x.1 s sq cid sct sc dnr 0 0 s
    let earlier := s.nv.cmds.takeWhile fun d => !(d.sq == sq && d.sqe.cid == cid)
    (s.sec.port = .opened → stops 0 0x82 true) ∧
    (s.sec.port ≠ .opened →
      ((∀ n, findNs s c.sqe.nsid.toNat = some n → n.attached = false) → stops 0 0x0B true) ∧
      ∀ n, findNs s c.sqe.nsid.toNat = some n → n.attached = true →
        (s.nv.sanitize ≠ .none → stops 0 0x1D false) ∧
        (s.nv.sanitize = .none →
          (n.formatting = true → stops 0 0x84 false) ∧
          (n.formatting = false →
            (n.size * 256 < lba c.sqe + len c.sqe → stops 0 0x80 true) ∧
            (lba c.sqe + len c.sqe ≤ n.size * 256 →
              (x.2.2 < len c.sqe * block n → stops 0 0x02 true) ∧
              (len c.sqe * block n ≤ x.2.2 →
                (c.sqe.psdt ≠ 0 → (∃ t ∈ c.sqe.sgl, t ≠ 0 ∧ t ≠ 2 ∧ t ≠ 3) → stops 0 0x11 true) ∧
                ((c.sqe.psdt = 0 ∨ ∀ t ∈ c.sqe.sgl, t = 0 ∨ t = 2 ∨ t = 3) →
                  (∃ d ∈ earlier, d.sq = sq ∧
                    (d.stage = .fetched ∨ (if d.sqe.opcode.toNat ∈ [0x02, 0x0C] then d.waits = true else d.seq = 0)) ∧
                    d.sqe.nsid = c.sqe.nsid ∧
                    ∃ r ∈ ranges d.sqe, r.1 < lba c.sqe + len c.sqe ∧ lba c.sqe < r.1 + r.2) →
                  exec x.1 s = .next s))))))) ∧
  (∀ (s : State) (sq : Nat) (cid : BitVec 16) (c : Cmd) (n : Namespace), sq ≠ 0 → findNs s c.sqe.nsid.toNat = some n →
    let e := c.sqe
    let lba := e.cdw10.toNat + e.cdw11.toNat * 2 ^ 32
    let len := e.cdw12.toNat % 65536 + 1
    let pract := e.cdw12.getLsbD 29
    let cmds (f : Cmd → Cmd) := s.nv.cmds.map fun x => if x.sq = sq ∧ x.sqe.cid = cid then f x else x
    let queued (w : Write) (nv : Nvme) : State :=
      { s with nv := nv, ord := { s.ord with waiting := s.ord.waiting ++ [.write w] } }
    (∀ (data : List HostUnit) (i : Instr) (ordered : Bool),
      (i, ordered) ∈ [(Instr.write sq cid data, false), (.orderedWrite sq cid data, true)] →
      Begins s sq cid (if ordered then 0x81 else 0x01) c → ioFault s e 2097152 = none → overlapBlocked s c = false →
      let tag (h : HostUnit) (k w : Nat) := h.pi.toNat / 2 ^ k % 2 ^ w
      let escaped (h : HostUnit) := tag h 16 16 = 0xFFFF ∧ (n.pi = 3 → tag h 32 32 = 0xFFFFFFFF)
      let mismatch (h : HostUnit) (at_ : Nat) : Option Nat :=
        if n.fmt = 0 ∨ n.pi = 0 ∨ pract = true ∨ escaped h then none
        else if e.cdw12.getLsbD 28 = true ∧ tag h 0 16 ≠ piGuard h.data then some 0
        else if e.cdw12.getLsbD 27 = true ∧ (tag h 16 16 &&& (e.cdw15.toNat / 65536)) ≠
            (e.cdw15.toNat % 65536 &&& (e.cdw15.toNat / 65536)) then some 1
        else if e.cdw12.getLsbD 26 = true ∧ n.pi = 1 ∧ tag h 32 32 ≠ at_ % 2 ^ 32 then some 2
        else none
      let unit (h : HostUnit) (at_ : Nat) : Unit4k := ⟨h.data, guardOf h.data,
        if n.fmt = 0 then 0
        else if n.pi ≠ 0 ∧ pract = true then
          BitVec.ofNat 64 (piGuard h.data + e.cdw15.toNat % 65536 * 65536 +
            (if n.pi = 3 then e.cdw14.toNat else at_) % 2 ^ 32 * 2 ^ 32)
        else h.pi, false⟩
      (data.length ≠ len → exec i s = .next s) ∧
      (data.length = len →
        (overCapacity s n.id lba len = true → Ends i s sq cid 0 0x81 true 0 0 s) ∧
        (overCapacity s n.id lba len = false →
          (nvmeRoom s (len * 4096) = false → exec i s = .next s) ∧
          (nvmeRoom s (len * 4096) = true → (∀ h ∈ data, h.parityFails = 0) →
            ((∀ k h, data[k]? = some h → mismatch h (lba + k) = none) →
              exec i s = .next (queued
                ⟨0, .write, .queue sq, e.nsid.toNat, lba, len, [], data.mapIdx fun k h => unit h (lba + k),
                  e.cdw12.getLsbD 30, ordered, some (sq, cid), [], false, false, 0, false, false⟩
                { s.nv with
                  bytesWritten := s.nv.bytesWritten + len * 4096, cmds := cmds fun x => { x with stage := .running } })) ∧
            (∀ k h r, data[k]? = some h → mismatch h (lba + k) = some r →
              (∀ j g, j < k → data[j]? = some g → mismatch g (lba + j) = none) →
              ∃ u, Ends i s sq cid 2 (0x82 + r) true 0 0 u ∧
                Logged [(0x0302, blockUnit 2, evData [(5, lba + k), (1, n.id), (1, r), (1, 0)])] s u ∧
                u = { s with evr := u.evr, pins := u.pins })) ∧
          (nvmeRoom s (len * 4096) = true → ∀ h, data = [h] → 2 ≤ h.parityFails →
            ∃ u, Ends i s sq cid 0 0x06 false 0 0 u ∧
              Logged [(0x0605, blockUnit h.parityStage, evData [(1, h.parityStage), (1, 0), (1, 1), (1, 2), (4, lba)])] s u ∧
              (∃ x ∈ u.st.running, x.unit = blockUnit h.parityStage) ∧
              u = { s with evr := u.evr, pins := u.pins, st := u.st })))) ∧
    (Begins s sq cid 0x08 c → ioFault s e (65536 * 4104) = none → overlapBlocked s c = false →
      (overCapacity s n.id lba len = true → Ends (.writeZeroes sq cid) s sq cid 0 0x81 true 0 0 s) ∧
      (overCapacity s n.id lba len = false → exec (.writeZeroes sq cid) s = .next (queued
        ⟨0, .zeroes, .queue sq, e.nsid.toNat, lba, len, [], [], e.cdw12.getLsbD 30, false, some (sq, cid), [], false, false, 0,
          false, false⟩
        { s.nv with cmds := cmds fun x => { x with stage := .running } }))) ∧
    (Begins s sq cid 0x09 c → nsFault s e.nsid.toNat = none →
      let i := Instr.datasetManagement sq cid
      let rs := e.ranges
      (sqeSglBad e = true → Ends i s sq cid 0 0x11 true 0 0 s) ∧
      (sqeSglBad e = false → overlapBlocked s c = true ∨ rs.length ≠ e.cdw10.toNat % 256 + 1 → exec i s = .next s) ∧
      (sqeSglBad e = false → overlapBlocked s c = false → rs.length = e.cdw10.toNat % 256 + 1 →
        ((∃ r ∈ rs, n.size * 256 < r.slba + r.nlb) → Ends i s sq cid 0 0x80 true 0 0 s) ∧
        ((∀ r ∈ rs, r.slba + r.nlb ≤ n.size * 256) → e.cdw11.getLsbD 2 = false → Ends i s sq cid 0 0 false 0 0 s) ∧
        ((∀ r ∈ rs, r.slba + r.nlb ≤ n.size * 256) → e.cdw11.getLsbD 2 = true → ∀ r more, rs = r :: more → exec i s = .next (queued
          ⟨0, .deallocate, .queue sq, n.id, r.slba, r.nlb, more.map fun q => (q.slba, q.nlb), [], false, false,
            some (sq, cid), [], false, false, 0, false, false⟩
          { s.nv with cmds := cmds fun x => { x with stage := .running } })))) ∧
    (serving s = true → findCmd s sq cid = some c → c.stage = .running → c.seq ≠ 0 →
      e.opcode.toNat ∈ [0x01, 0x08, 0x81] → ∀ w, (s.ord.accepted.find? fun w => w.seq == c.seq) = some w →
      let seq := if e.opcode = 0x81 then c.seq else 0
      let may := (∀ f ∈ s.ord.fences, f.seq < w.seq → covers f w = false) ∧
        (if s.hup.protectedMode = true then durable s w = true else w.fua = true ∨ s.nv.wce = false → w.programmed = true)
      (may → Ends (.writeCompletionPost sq cid) s sq cid 0 0 false (BitVec.ofNat 32 seq) (BitVec.ofNat 32 (seq / 2 ^ 32)) s) ∧
      (¬may → exec (.writeCompletionPost sq cid) s = .next s)))

/-- R24, R100, R101, R102, R112, R115, R155, R253, R256: a read takes the newest accepted write it may see, waits for
a write of its own queue under a fence and for map-ready, else the map; its flash units go to the ladder; with every
unit found it sends the data and completes, with one lost it ends with an unrecovered read error. Where it rests on
log entries 16, 18 and 57 it states the model's choice. -/
def Obligations.NvmeReads : Prop :=
  ∀ (s : State) (sq : Nat) (cid : BitVec 16) (c : Cmd) (n : Namespace), findNs s c.sqe.nsid.toNat = some n →
    let e := c.sqe
    let ns := e.nsid.toNat
    let lba := e.cdw10.toNat + e.cdw11.toNat * 2 ^ 32
    let len := e.cdw12.toNat % 65536 + 1
    let cmds (f : Cmd → Cmd) := s.nv.cmds.map fun x => if x.sq = sq ∧ x.sqe.cid = cid then f x else x
    let zeros : Unit4k := ⟨zeroUnit.data, zeroUnit.guard, if n.fmt = 1 ∧ n.pi ≠ 0 then BitVec.allOnes 64 else zeroUnit.pi, false⟩
    (∀ at_,
      ((∃ w ∈ s.ord.accepted, w.src = .queue sq ∧ coversUnit w ns at_ = true ∧ readable s w = false) →
        findUnit s sq ns at_ = .wait) ∧
      (∀ before w after, s.ord.accepted = before ++ w :: after → w.kind = .write → w.programmed = false →
        readable s w = true → coversUnit w ns at_ = true → (∀ v ∈ after, coversUnit v ns at_ = false) →
        (∀ v ∈ before, readable s v = true) → ∀ x, w.units[at_ - w.lba]? = some x →
        findUnit s sq ns at_ = if x.lost then .lost else .hit x) ∧
      ((∀ w ∈ s.ord.accepted, coversUnit w ns at_ = false) →
        (s.life.mapReady = false → findUnit s sq ns at_ = .wait) ∧
        (s.life.mapReady = true →
          (resolveMap s ns at_ = .zeros → findUnit s sq ns at_ = .unit zeros) ∧
          (resolveMap s ns at_ = .lost → findUnit s sq ns at_ = .lost) ∧
          (∀ sb off, resolveMap s ns at_ = .flash sb off → findUnit s sq ns at_ = .flash sb off)))) ∧
    (∀ x ∈ [(Instr.read sq cid, 0x02), (.verify sq cid, 0x0C)], sq ≠ 0 → Begins s sq cid x.2 c → ioFault s e 2097152 = none →
      overlapBlocked s c = false →
      ((∃ k < len, findUnit s sq ns (lba + k) = .wait) → exec x.1 s = .next { s with nv := { s.nv with
        cmds := cmds fun y => { y with stage := .running, waits := true } } }) ∧
      (∀ (us : List Unit4k) (hit : Nat → Bool), us.length = len →
        (∀ k u, us[k]? = some u → findUnit s sq ns (lba + k) = if hit k then .hit u else .unit u) →
        exec x.1 s = .next { s with nv := { s.nv with cmds := cmds fun y => { y with
          stage := .running, waits := false, got := us.map some, hits := (List.range len).filter hit, failed := none } } }) ∧
      (∀ sb off b, len = 1 → findUnit s sq ns lba = .flash sb off → findSb s sb = some b → ∃ t r, exec x.1 s = .next t ∧
        t.nv = { s.nv with cmds := cmds fun y =>
          { y with stage := .running, waits := false, got := [none], hits := [], failed := none } } ∧
        t.intg.reads = s.intg.reads ++ [r] ∧
        r = ⟨.host sq cid, ns, lba, sb, off, if dieOut s (readDie b off) then 5 else 0, 0, r.index, r.offsets, false⟩ ∧
        (∀ d, findDie s (readDie b off) = some d → r.index = readIndex s b d ∧ r.offsets = offsetsFor d r.index ∧
          findDie t (readDie b off) = some { d with thresholdIndex := r.index, offsets := r.offsets }) ∧
        t = { s with nv := t.nv, intg := t.intg, med := { s.med with dies := t.med.dies } }) ∧
      (len = 1 → findUnit s sq ns lba = .lost → exec x.1 s = .next { s with nv := { s.nv with
        cmds := cmds fun y => { y with
          stage := .running, waits := false, got := [none], hits := [], failed := some lba } } })) ∧
    (∀ stage struck : Nat, s.life.phase = .service → findCmd s sq cid = some c → c.stage = .running → c.waits = false →
      let i := Instr.hostReadComplete sq cid stage struck
      let fails := if stage = 10 ∨ ((stage = 8 ∨ stage = 9) ∧ c.hits ≠ []) then struck else 0
      let block := blockUnit (if stage = 8 then 0xA else if stage = 9 then 5 else 1)
      let dropped : Integrity := { s.intg with reads := s.intg.reads.filter fun r => r.reader != .host sq cid }
      let lost (at_ : Nat) : Nvme := { s.nv with
        errors := (⟨ns, at_, sq, cid⟩ :: s.nv.errors).take 256, mediaErrors := s.nv.mediaErrors + 1 }
      (∀ at_, c.failed = some at_ → Ends i s sq cid 2 0x81 true 0 0 { s with intg := dropped, nv := lost at_ }) ∧
      (c.failed = none → none ∈ c.got ∨ c.got = [] → exec i s = .next s) ∧
      (∀ us : List Unit4k, c.failed = none → c.got = us.map some → us ≠ [] → n.fmt = 0 ∨ n.pi = 0 →
        let done : State := { s with intg := dropped }
        (fails = 0 → e.opcode = 0x02 → Ends i s sq cid 0 0 false 0 0 { done with
          nv := { s.nv with bytesRead := s.nv.bytesRead + us.length * 4096 }
          out := .hostUnits sq cid (us.map fun u => (u.data, if n.fmt = 0 then none else some u.pi)) :: s.out }) ∧
        (fails = 0 → e.opcode = 0x0C → Ends i s sq cid 0 0 false 0 0 done) ∧
        (2 ≤ fails → ∃ u, Ends i s sq cid 2 0x81 true 0 0 u ∧
          Logged [(0x0605, block, evData [(1, 0x80 + stage), (1, 0), (1, 1), (1, 3), (4, lba)])] s u ∧
          u = { s with intg := dropped, nv := lost lba, evr := u.evr, pins := u.pins, st := u.st })))

/-- R105, R106, R107, R109, R144, R145, R153, R154: Flush waits for what was accepted before it; Fence checks its
fields and waits at W7; W7 gives the oldest item of a source the next sequence numbers, an Ordered Write its queue
fence first, and asks for a block of 2^24 numbers when they run out; a satisfied fence completes and holds no more.
Where it rests on log entries 16, 54 and 172 it states the model's choice. -/
def Obligations.NvmeOrdering : Prop :=
  ∀ (s : State) (sq : Nat) (cid : BitVec 16) (c : Cmd), sq ≠ 0 →
    let e := c.sqe
    let cmds (f : Cmd → Cmd) (k : Nat × BitVec 16) :=
      s.nv.cmds.map fun x => if x.sq = k.1 ∧ x.sqe.cid = k.2 then f x else x
    let running (x : Cmd) : Cmd := { x with stage := .running }
    let formats := ∃ n ∈ s.nv.namespaces, n.formatting = true
    (Begins s sq cid 0x00 c →
      (∀ st, e.nsid ≠ 0xFFFFFFFF → nsFault s e.nsid.toNat = some st → Ends (.flush sq cid) s sq cid st.1 st.2.1 st.2.2 0 0 s) ∧
      (e.nsid = 0xFFFFFFFF → s.nv.sanitize ≠ .none → Ends (.flush sq cid) s sq cid 0 0x1D false 0 0 s) ∧
      (e.nsid = 0xFFFFFFFF → s.nv.sanitize = .none → formats → Ends (.flush sq cid) s sq cid 0 0x84 false 0 0 s) ∧
      ((e.nsid = 0xFFFFFFFF ∧ s.nv.sanitize = .none ∧ ¬formats) ∨ (e.nsid ≠ 0xFFFFFFFF ∧ nsFault s e.nsid.toNat = none) → ∃ t, exec (.flush sq cid) s = .next t ∧ t = { s with
        nv := { s.nv with cmds := cmds (fun x => { running x with flushUpTo := s.ord.next - 1 }) (sq, cid) }
        map := { s.map with sbs := t.map.sbs } })) ∧
    (serving s = true → findCmd s sq cid = some c → c.stage = .running → e.opcode = 0x00 →
      let clear := ∀ w ∈ s.ord.accepted, w.seq ≤ c.flushUpTo → e.nsid = 0xFFFFFFFF ∨ e.nsid.toNat = w.ns → durable s w = true
      (clear → Ends (.flushComplete sq cid) s sq cid 0 0 false 0 0 s) ∧
      (¬clear → exec (.flushComplete sq cid) s = .next s)) ∧
    (Begins s sq cid 0x84 c →
      let scope := e.cdw10.toNat % 4
      let wide := e.nsid = 0 ∨ e.nsid = 0xFFFFFFFF
      let good := scope ≠ 3 ∧ e.cdw10.toNat / 4 = 0 ∧ e.fuse = 0 ∧ e.reserved0 = 0 ∧ e.dw2 = 0 ∧ e.dw3 = 0 ∧ e.mptr = 0 ∧
        e.dptr = 0 ∧ e.cdw11 = 0 ∧ e.cdw12 = 0 ∧ e.cdw13 = 0 ∧ e.cdw14 = 0 ∧ e.cdw15 = 0 ∧ (scope = 1 ↔ ¬wide)
      let stands := ∃ n, findNs s e.nsid.toNat = some n ∧ n.attached = true
      (¬good → Ends (.fence sq cid) s sq cid 0 0x02 true 0 0 s) ∧
      (good → scope = 1 → ¬stands → Ends (.fence sq cid) s sq cid 0 0x0B true 0 0 s) ∧
      let blocked := scope = 1 ∧ ∃ n, findNs s e.nsid.toNat = some n ∧ n.formatting = true
      (good → (scope = 1 → stands) → blocked → Ends (.fence sq cid) s sq cid 0 0x84 false 0 0 s) ∧
      (good → (scope = 1 → stands) → ¬blocked → s.nv.sanitize ≠ .none → Ends (.fence sq cid) s sq cid 0 0x1D false 0 0 s) ∧
      (good → (scope = 1 → stands) → ¬blocked → s.nv.sanitize = .none → exec (.fence sq cid) s = .next { s with
        nv := { s.nv with cmds := cmds running (sq, cid) }
        ord := { s.ord with waiting := s.ord.waiting ++
          [.fence ⟨0, scope, .queue sq, e.nsid.toNat, some (sq, cid)⟩] } })) ∧
    (∀ (src : Source) (x : Waiting) (before after : List Waiting),
      s.ord.waiting = before ++ x :: after → waitingSource x = src → (∀ y ∈ before, waitingSource y ≠ src) →
      (∀ d ∈ s.nv.cmds, d.waits = false) → s.sram.flipMask.getLsbD 31 = false →
      let i := Instr.writeAccept src
      let take (k : Nat) (fences : List FenceRec) (accepted : List Write) : Sys2Proof.Machine.Ordering := { s.ord with
        next := s.ord.next + k, waiting := before ++ after, fences := s.ord.fences ++ fences
        accepted := s.ord.accepted ++ accepted }
      let behind (f : FenceRec) := f.scope = 1 ∧ (∃ k, src = .stream k) ∧
        ∃ w, Waiting.write w ∈ before ∧ w.ns = f.ns ∧ ∃ k, w.src = .stream k
      let open_ := s.life.phase = .service ∧ s.life.captureReady = true ∧
        (∀ w, x = .write w → s.ord.accepted.length < 262144) ∧ ∀ f, x = .fence f → ¬behind f
      let number (k : Option (Nat × BitVec 16)) (seq : Nat) : Nvme := match k with
        | some k => { s.nv with cmds := cmds (fun y => { y with seq := seq }) k }
        | none => s.nv
      (¬open_ → exec i s = .next s) ∧
      (open_ → s.ord.top < s.ord.next → (∀ y ∈ s.map.pendingSlots, ∀ k, y ≠ .seqBlock k) → exec i s = .next { s with
        map := { s.map with pendingSlots := s.map.pendingSlots ++ [.seqBlock (s.ord.top + 2 ^ 24)] } }) ∧
      (open_ → s.ord.next + 1 ≤ s.ord.top →
        (∀ w, x = .write w → w.kind = .write ∨ w.kind = .zeroes → w.ordered = false → exec i s = .next { s with
          nv := number w.cmd s.ord.next, ord := take 1 [] [{ w with seq := s.ord.next }] }) ∧
        (∀ w, x = .write w → w.kind = .write → w.ordered = true → ∃ t, exec i s = .next t ∧
          t.ord = take 2 [⟨s.ord.next, 0, w.src, w.ns, none⟩] [{ w with seq := s.ord.next + 1 }] ∧
          t = { s with nv := number w.cmd (s.ord.next + 1), ord := t.ord, map := { s.map with sbs := t.map.sbs } }) ∧
        (∀ w, x = .write w → w.kind = .captureData → w.ordered = false → w.cmd = none → exec i s = .next { s with
          map := { s.map with captureBytes := s.map.captureBytes + w.units.length * 4096 }
          ord := take 1 [] [{ w with seq := s.ord.next }] }) ∧
        (∀ f, x = .fence f → ∃ t, exec i s = .next t ∧ t.ord = take 1 [{ f with seq := s.ord.next }] [] ∧
          t = { s with nv := number f.cmd s.ord.next, ord := t.ord, map := { s.map with sbs := t.map.sbs } }))) ∧
    (∀ (f : FenceRec), (s.ord.fences.find? fun g => g.seq == f.seq) = some f →
      let ready := ∀ w ∈ s.ord.accepted, w.seq < f.seq → covers f w = true → durable s w = true
      let u : State := { s with ord := { s.ord with fences := s.ord.fences.filter fun g => g.seq != f.seq } }
      (¬ready → exec (.fenceSatisfied f.seq) s = .next s) ∧
      (ready → f.cmd = none → exec (.fenceSatisfied f.seq) s = .next (retryReads (settleMap u))) ∧
      (ready → ∀ k, f.cmd = some k → exec (.fenceSatisfied f.seq) s = .next (retryReads (settleMap (fetchAll
        (completeCmd k.1 k.2 0 0 false (BitVec.ofNat 32 f.seq) (BitVec.ofNat 32 (f.seq / 2 ^ 32)) u))))))

/-- R94, R103, R111, R117: I/O queues are created and deleted with the checks and statuses of R94; Abort ends a
command that is not past its point of no return, logs HOST_ABORT_RACE for one that is; up to four Asynchronous Event
Requests stand. Where it rests on log entries 16, 21 and 22 it states the model's choice. -/
def Obligations.NvmeQueueAdmin : Prop :=
  ∀ (s : State) (cid : BitVec 16) (c : Cmd),
    let e := c.sqe
    let q := e.cdw10.toNat % 65536
    let size := e.cdw10.toNat / 65536 + 1
    let high := e.cdw11.toNat / 65536
    let ok (i : Instr) (u : State) := Ends i s 0 cid 0 0 false 0 0 u
    let specific (i : Instr) (sc : Nat) := Ends i s 0 cid 1 sc true 0 0 s
    (Begins s 0 cid 0x01 c →
      let bad := q = 0 ∨ s.nv.grantedSq < q ∨ findSq s q ≠ none
      let small := size < 2 ∨ 4096 < size
      (bad → specific (.createIoSubmissionQueue cid) 0x01) ∧
      (¬bad → small → specific (.createIoSubmissionQueue cid) 0x02) ∧
      (¬bad → ¬small → e.cdw11.getLsbD 0 = false → Ends (.createIoSubmissionQueue cid) s 0 cid 0 0x02 true 0 0 s) ∧
      (¬bad → ¬small → e.cdw11.getLsbD 0 = true →
        (high = 0 ∨ findCq s high = none → specific (.createIoSubmissionQueue cid) 0x00) ∧
        (high ≠ 0 → findCq s high ≠ none → ok (.createIoSubmissionQueue cid) { s with nv := { s.nv with
          sqs := s.nv.sqs ++ [⟨q, size, high, e.cdw11.toNat / 2 % 4, 0, 0, []⟩] } }))) ∧
    (Begins s 0 cid 0x05 c →
      let bad := q = 0 ∨ s.nv.grantedCq < q ∨ findCq s q ≠ none
      let small := size < 2 ∨ 4096 < size
      (bad → specific (.createIoCompletionQueue cid) 0x01) ∧
      (¬bad → small → specific (.createIoCompletionQueue cid) 0x02) ∧
      (¬bad → ¬small → e.cdw11.getLsbD 0 = false → Ends (.createIoCompletionQueue cid) s 0 cid 0 0x02 true 0 0 s) ∧
      (¬bad → ¬small → e.cdw11.getLsbD 0 = true →
        (2048 ≤ high → specific (.createIoCompletionQueue cid) 0x08) ∧
        (high < 2048 → ok (.createIoCompletionQueue cid) { s with nv := { s.nv with
          cqs := s.nv.cqs ++ [⟨q, size, high, e.cdw11.getLsbD 1, 0, 0, true, [], [], 0⟩] } }))) ∧
    (Begins s 0 cid 0x00 c →
      (q = 0 ∨ findSq s q = none → specific (.deleteIoSubmissionQueue cid) 0x01) ∧
      (q ≠ 0 → findSq s q ≠ none →
        ∃ u, exec (.deleteIoSubmissionQueue cid) s = .next (fetchAll u) ∧ (∃ x, findSq u q = some x ∧ x.entries = []) ∧
          (∃ d, findCmd u 0 cid = some d ∧ d = { c with stage := .running }) ∧
          (∀ d ∈ u.nv.cmds, d.sq = q → d.seq ≠ 0) ∧ (∀ d ∈ s.nv.cmds, d.sq = q → d.seq ≠ 0 →
            (∀ b ∈ s.nv.cmds, b.sq = q → b.sqe.cid = d.sqe.cid → b.seq ≠ 0) → d ∈ u.nv.cmds) ∧
          u = { s with nv := u.nv, ord := { s.ord with waiting := u.ord.waiting }, intg := u.intg, out := u.out })) ∧
    (Begins s 0 cid 0x04 c →
      (q = 0 ∨ findCq s q = none → specific (.deleteIoCompletionQueue cid) 0x01) ∧
      (q ≠ 0 → findCq s q ≠ none →
        ((∃ x ∈ s.nv.sqs, x.cq = q) → specific (.deleteIoCompletionQueue cid) 0x0C) ∧
        ((∀ x ∈ s.nv.sqs, x.cq ≠ q) → ok (.deleteIoCompletionQueue cid) { s with nv := { s.nv with
          cqs := s.nv.cqs.filter fun x => x.id != q } }))) ∧
    (Begins s 0 cid 0x08 c →
      let target : BitVec 16 := BitVec.ofNat 16 (e.cdw10.toNat / 65536)
      let ahead := ((s.nv.cmds.takeWhile fun d => !(d.sq == 0 && d.sqe.cid == cid)).filter fun d =>
        d.sq == 0 && d.sqe.opcode == 0x08).length
      (32 ≤ ahead → specific (.abort cid) 0x03) ∧
      (ahead < 32 →
        (findCmd s q target = none → unposted s q target = none → Ends (.abort cid) s 0 cid 0 0 false 1 0 s) ∧
        (∀ x, findCmd s q target = none → unposted s q target = some x → x.early = true → ∃ u,
          Ends (.abort cid) s 0 cid 0 0 false 0 0 u ∧
          (∀ y, unposted u q target = some y → y.sct = 0 ∧ y.sc = 0x07 ∧ y.dnr = false ∧ y.dw0 = 0 ∧ y.dw1 = 0) ∧
          u = { s with nv := { s.nv with cqs := u.nv.cqs, held := u.nv.held } }) ∧
        (∀ x, findCmd s q target = none → unposted s q target = some x → x.early = false → ∃ u,
          Ends (.abort cid) s 0 cid 0 0 false 1 0 u ∧
            Logged [(0x0301, blockUnit 2, evData [(1, 0), (1, 0), (2, q), (4, target.toNat)])] s u ∧
            u = { s with evr := u.evr, pins := u.pins }) ∧
        (∀ t, findCmd s q target = some t → (if t.sq = 0 then t.sqe.opcode ≠ 0x0C else t.seq ≠ 0) →
          ∃ u, Ends (.abort cid) s 0 cid 0 0 false 1 0 u ∧
            Logged [(0x0301, blockUnit 2, evData [(1, 0), (1, 0), (2, q), (4, target.toNat)])] s u ∧
            u = { s with evr := u.evr, pins := u.pins }) ∧
        (∀ t, findCmd s q target = some t → (if t.sq = 0 then t.sqe.opcode = 0x0C else t.seq = 0) →
          ∃ u, Ends (.abort cid) s 0 cid 0 0 false 0 0 (completeCmd q target 0 0x07 false 0 0 u) ∧
            u.ord = { s.ord with waiting := s.ord.waiting.filter fun x => match x with
              | .write w => w.cmd != some (q, target)
              | .fence f => f.cmd != some (q, target) } ∧
            u.nv = { s.nv with aers := if q = 0 then s.nv.aers.filter (fun a => a != target) else s.nv.aers } ∧
            u = { s with ord := u.ord, nv := u.nv, intg := { s.intg with
              reads := s.intg.reads.filter fun r => r.reader != .host q target } }))) ∧
    (Begins s 0 cid 0x0C c →
      (4 ≤ s.nv.aers.length → specific (.asynchronousEventRequest cid) 0x05) ∧
      (s.nv.aers.length < 4 → exec (.asynchronousEventRequest cid) s = .next { s with nv := { s.nv with
        aers := s.nv.aers ++ [cid]
        cmds := s.nv.cmds.map fun x => if x.sq = 0 ∧ x.sqe.cid = cid then { x with stage := .running } else x } }))

/-- R94, R97, R103, R110, R328, R363: what each feature's Set Features keeps and answers, and what Get Features
returns; the write cache reads as host WCE and Unprotected mode. Where it rests on log entry 16 it states the model's
choice. -/
def Obligations.NvmeFeatures : Prop :=
  ∀ (s : State) (cid : BitVec 16) (c : Cmd) (table : List (BitVec 64)),
    let v := c.sqe.cdw11.toNat
    let fid := c.sqe.cdw10.toNat % 256
    let ok (i : Instr) (nv : Nvme) := Ends i s 0 cid 0 0 false 0 0 { s with nv := nv }
    let bad (i : Instr) := Ends i s 0 cid 0 0x02 true 0 0 s
    (Begins s 0 cid 0x09 c →
      (fid = 0x01 → ok (.setArbitration cid) { s.nv with arbitration := c.sqe.cdw11 }) ∧
      (fid = 0x02 → (v % 32 ≤ 2 → ok (.setPowerManagement cid) { s.nv with powerState := v % 32 }) ∧
        (2 < v % 32 → bad (.setPowerManagement cid))) ∧
      (fid = 0x04 →
        let sel := v / 65536 % 16
        let kind := v / 2 ^ 20 % 4
        (5 < sel ∨ 1 < kind → bad (.setTemperatureThreshold cid)) ∧
        (sel ≤ 5 → kind = 0 → ok (.setTemperatureThreshold cid) { s.nv with tempOver := s.nv.tempOver.set sel (v % 65536) }) ∧
        (sel ≤ 5 → kind = 1 →
          ok (.setTemperatureThreshold cid) { s.nv with tempUnder := s.nv.tempUnder.set sel (v % 65536) })) ∧
      (fid = 0x06 → ∃ u, Ends (.setVolatileWriteCache cid) s 0 cid 0 0 false 0 0 u ∧ u = { s with
        nv := { s.nv with wce := c.sqe.cdw11.getLsbD 0 }, map := { s.map with sbs := u.map.sbs } }) ∧
      (fid = 0x07 →
        (v % 65536 = 65535 ∨ v / 65536 = 65535 → bad (.setNumberOfQueues cid)) ∧
        (v % 65536 ≠ 65535 → v / 65536 ≠ 65535 →
          let gs := min (v % 65536 + 1) 2047
          let gc := min (v / 65536 + 1) 2047
          Ends (.setNumberOfQueues cid) s 0 cid 0 0 false (BitVec.ofNat 32 (gs - 1 + 65536 * (gc - 1))) 0
            { s with nv := { s.nv with grantedSq := gs, grantedCq := gc } })) ∧
      (fid = 0x08 → ok (.setInterruptCoalescing cid)
        { s.nv with coalesceThreshold := v % 256, coalesceTime := v / 256 % 256 }) ∧
      (fid = 0x0C → ok (.setAutonomousPowerState cid table) { s.nv with apstOn := c.sqe.cdw11.getLsbD 0, apst := table })) ∧
    (Begins s 0 cid 0x0A c →
      let select := c.sqe.cdw10.toNat / 256 % 8
      let dw (x : Nat) (u : State) := Ends (.getFeatures cid) s 0 cid 0 0 false (BitVec.ofNat 32 x) 0 u
      (select ≠ 0 → bad (.getFeatures cid) ∧ exec (.getVolatileWriteCache cid) s = .next s) ∧
      (select = 0 →
        (fid = 0x01 → dw s.nv.arbitration.toNat s) ∧ (fid = 0x02 → dw s.nv.powerState s) ∧
        (fid = 0x04 →
          (∀ x, v / 2 ^ 20 % 4 = 0 → s.nv.tempOver[v / 65536 % 16]? = some x → dw x s) ∧
          (∀ x, v / 2 ^ 20 % 4 = 1 → s.nv.tempUnder[v / 65536 % 16]? = some x → dw x s)) ∧
        (fid = 0x06 → Ends (.getVolatileWriteCache cid) s 0 cid 0 0 false
          (if s.nv.wce = true ∧ s.hup.protectedMode = false then 1 else 0) 0 s) ∧
        (fid = 0x07 → dw (s.nv.grantedSq - 1 + 65536 * (s.nv.grantedCq - 1)) s) ∧
        (fid = 0x08 → dw (s.nv.coalesceThreshold + 256 * s.nv.coalesceTime) s) ∧
        (fid = 0x0C → dw (if s.nv.apstOn then 1 else 0)
          { s with out := .hostFields cid (s.nv.apst.mapIdx fun i e => (8 * i, 8, e.toNat)) :: s.out }) ∧
        (fid ∉ [0x01, 0x02, 0x04, 0x06, 0x07, 0x08, 0x0C] → bad (.getFeatures cid))))

/-- R98, R204, R392, R393: namespaces are created in whole segments at a range no other holds, with the lowest free
identifier, an epoch and a key, deleted with their range, epoch and keys, and attached to and detached from the one
controller. Where it rests on log entries 16, 25 and 172 it states the model's choice. -/
def Obligations.NvmeNamespaces : Prop :=
  ∀ (s : State) (cid : BitVec 16) (c : Cmd) (req : NsCreate) (controllers : List (BitVec 16)),
    let e := c.sqe
    let sel := e.cdw10.toNat % 16
    let fails (i : Instr) (sct sc : Nat) := Ends i s 0 cid sct sc true 0 0 s
    let bound (ids : List Nat) := ∃ x ∈ s.str.list, x.state ≠ .closed ∧ x.ns ∈ ids
    (Begins s 0 cid 0x0D c → sel = 0 →
      let shape := req.nsze = req.ncap ∧ req.nsze ≠ 0 ∧ req.nsze % 256 = 0
      let format := req.lbaFormat ≤ 1 ∧ (req.piType = 0 ∨ (req.lbaFormat = 1 ∧ (req.piType = 1 ∨ req.piType = 3)))
      let size := req.nsze / 256
      let free (b : Nat) := b + size ≤ totalSegments s ∧ ∀ n ∈ s.nv.namespaces, n.base + n.size ≤ b ∨ b + size ≤ n.base
      (¬shape → fails (.namespaceCreate cid req) 0 0x02) ∧
      (shape → ¬format → fails (.namespaceCreate cid req) 1 0x0A) ∧
      (shape → format → (∀ i, 1 ≤ i → i ≤ 64 → findNs s i ≠ none) → fails (.namespaceCreate cid req) 1 0x16) ∧
      (shape → format → ∀ id, 1 ≤ id → id ≤ 64 → findNs s id = none → (∀ i, 1 ≤ i → i < id → findNs s i ≠ none) →
        ((∀ b, ¬free b) → fails (.namespaceCreate cid req) 1 0x15) ∧
        ((∃ b, free b) → s.sec.port ≠ .opened → s.sec.drbgOn = true → s.ord.next ≤ s.ord.top → ∃ u b,
          Ends (.namespaceCreate cid req) s 0 cid 0 0 false (BitVec.ofNat 32 id) 0 u ∧ free b ∧
          findNs u id = some ⟨id, b, size, req.lbaFormat, req.piType, s.ord.next, false, false⟩ ∧
          (∀ j, j ≠ id → findNs u j = findNs s j) ∧ (∃ k ∈ u.sec.keys, k.ns = id ∧ k.present = true) ∧
          (.namespace_ s.ord.next id 0 b size req.lbaFormat req.piType ∈ u.map.pendingSlots) ∧
          u.ord.next = s.ord.next + 1 ∧
          u = { s with
            nv := { s.nv with namespaces := u.nv.namespaces }, ord := u.ord, map := u.map, sec := u.sec, nor := u.nor, free := u.free }))) ∧
    (Begins s 0 cid 0x0D c → sel = 1 →
      let ids := if e.nsid = 0xFFFFFFFF then s.nv.namespaces.map (·.id)
        else if findNs s e.nsid.toNat = none then [] else [e.nsid.toNat]
      (ids = [] → fails (.namespaceDelete cid) 0 0x0B) ∧
      (ids ≠ [] → bound ids → fails (.namespaceDelete cid) 0 0x0C) ∧
      (ids ≠ [] → ¬bound ids → s.ord.next + ids.length ≤ s.ord.top + 1 → ∃ u,
        Ends (.namespaceDelete cid) s 0 cid 0 0 false 0 0 u ∧ (∀ i ∈ ids, findNs u i = none) ∧
        (∀ i, i ∉ ids → findNs u i = findNs s i) ∧ (∀ k ∈ u.sec.keys, k.ns ∉ ids) ∧
        (∀ d ∈ u.nv.cmds, d.sq ≠ 0 → d.stage = .running → d.sqe.nsid.toNat ∈ ids → d.seq ≠ 0) ∧
        u.ord.next = s.ord.next + ids.length ∧
        u = { s with nv := u.nv, ord := u.ord, map := u.map, intg := u.intg, nor := u.nor, sec := u.sec, out := u.out })) ∧
    (Begins s 0 cid 0x15 c →
      (findNs s e.nsid.toNat = none → (sel = 0 → fails (.namespaceAttach cid controllers) 0 0x0B) ∧
        (sel = 1 → fails (.namespaceDetach cid controllers) 0 0x0B)) ∧
      ∀ n, findNs s e.nsid.toNat = some n →
        let on (b : Bool) (l : List Namespace) := l.map fun m => if m.id = n.id then { m with attached := b } else m
        let set_ (b : Bool) : State := { s with
          nv := { s.nv with namespaces := on b s.nv.namespaces }, map := { s.map with table := on b s.map.table } }
        (controllers ≠ [1] → (sel = 0 → fails (.namespaceAttach cid controllers) 1 0x1C) ∧
          (sel = 1 → fails (.namespaceDetach cid controllers) 1 0x1C)) ∧
        (controllers = [1] → sel = 0 →
          (n.attached = true → fails (.namespaceAttach cid controllers) 1 0x18) ∧
          (n.attached = false → Ends (.namespaceAttach cid controllers) s 0 cid 0 0 false 0 0 (set_ true))) ∧
        (controllers = [1] → sel = 1 →
          (n.attached = false → fails (.namespaceDetach cid controllers) 1 0x1A) ∧
          (n.attached = true → bound [n.id] → fails (.namespaceDetach cid controllers) 0 0x0C) ∧
          (n.attached = true → ¬bound [n.id] →
            (∀ d ∈ s.nv.cmds, d.sq ≠ 0 → d.stage = .running → d.sqe.nsid.toNat = n.id → d.seq ≠ 0) →
            Ends (.namespaceDetach cid controllers) s 0 cid 0 0 false 0 0 (set_ false))))

/-- R114, R204, R353, R395, R408: Format gives each namespace its format and a new epoch and holds its I/O off until
it is done, with new keys for a cryptographic erase; Sanitize runs once for every namespace; both lift their block
when the old copies, or the older key store, are erased. Where it rests on log entries 16 and 24 it states the model's
choice. -/
def Obligations.NvmeErasing : Prop :=
  ∀ (s : State) (cid : BitVec 16) (c : Cmd) (good : Bool),
    let e := c.sqe
    let v := e.cdw10.toNat
    let fmt := v % 16
    let pi := v / 32 % 8
    let ses := v / 512 % 8
    let ids := if e.nsid = 0xFFFFFFFF then s.nv.namespaces.map (·.id)
      else if findNs s e.nsid.toNat = none then [] else [e.nsid.toNat]
    let formatting := ∃ n ∈ s.nv.namespaces, n.formatting = true
    let all := s.nv.namespaces.map (·.id)
    let open_ (l : List Nat) := ∃ x ∈ s.str.list, x.state ≠ .closed ∧ x.ns ∈ l
    let stops (i : Instr) (sct sc : Nat) (dnr : Bool) := Ends i s 0 cid sct sc dnr 0 0 s
    (Begins s 0 cid 0x80 c →
      (ids = [] → e.nsid ≠ 0xFFFFFFFF → stops (.formatNvm cid) 0 0x0B true) ∧
      (ids ≠ [] ∨ e.nsid = 0xFFFFFFFF →
        (open_ ids → stops (.formatNvm cid) 0 0x0C true) ∧
        (¬open_ ids → s.nv.sanitize ≠ .none → stops (.formatNvm cid) 0 0x1D false) ∧
        (¬open_ ids → s.nv.sanitize = .none → formatting → stops (.formatNvm cid) 0 0x84 false) ∧
        (¬open_ ids → s.nv.sanitize = .none → ¬formatting →
          let legal := (fmt = 0 ∧ pi = 0) ∨ (fmt = 1 ∧ (pi = 0 ∨ pi = 1 ∨ pi = 3))
          let layout := legal ∧ (fmt = 1 → v.testBit 4 = true) ∧ v.testBit 8 = false
          (2 < ses → stops (.formatNvm cid) 0 0x02 true) ∧
          (ses ≤ 2 → ¬layout → stops (.formatNvm cid) 1 0x0A true) ∧
          (ses = 2 → layout → s.sec.drbgOn = false → stops (.formatNvm cid) 0 0x06 false) ∧
          (ses ≤ 2 → layout → (ses = 2 → s.sec.drbgOn = true) → ids = [] → stops (.formatNvm cid) 0 0 false) ∧
          (ses ≤ 2 → layout → (ses = 2 → s.sec.drbgOn = true) → ids ≠ [] → s.ord.next + 2 * ids.length ≤ s.ord.top + 1 →
            ∃ t, exec (.formatNvm cid) s = .next t ∧
              (∀ i ∈ ids, ∀ n, findNs s i = some n → ∃ m, findNs t i = some m ∧ s.ord.next ≤ m.epoch ∧
                m = { n with fmt := fmt, pi := pi, formatting := true, epoch := m.epoch }) ∧
              (∀ i, i ∉ ids → findNs t i = findNs s i) ∧ t.nv.formatSes = ses ∧
              findCmd t 0 cid = some { c with stage := .running } ∧
              (ses = 2 → ∀ i ∈ ids, ∃ k ∈ t.sec.keys, k.ns = i ∧ k.present = true) ∧
              (ses ≠ 2 → t.sec = s.sec ∧ t.nor = s.nor) ∧ t.str = s.str ∧ t.med = s.med ∧ t.clk = s.clk)))) ∧
    (serving s = true → formatting →
      let i := Instr.formatNvmDone good
      let running := s.nv.cmds.find? fun c => c.sq == 0 && c.sqe.opcode == 0x80 && c.stage == .running
      let lifted (u : State) : State := { u with nv := { u.nv with
        namespaces := u.nv.namespaces.map fun n => { n with formatting := false } } }
      let ends (u : State) : Prop := (∀ d, running = some d → Ends i s 0 d.sqe.cid 0 0 false 0 0 (lifted u)) ∧
        (running = none → exec i s = .next (fetchAll (lifted u)))
      let old (u : FlashUnit) : Bool := s.nv.namespaces.any fun n => n.formatting && n.id == u.ns && decide (u.seq < n.epoch)
      (s.nv.formatSes ≠ 1 → ∃ u, ends u ∧ (s.nv.formatSes ≠ 2 → u = s) ∧ u = { s with nor := u.nor }) ∧
      (s.nv.formatSes = 1 → ∃ u, (collectHolders old u = [] → ends u) ∧ (collectHolders old u ≠ [] → exec i s = .next u) ∧
        u = { s with ord := u.ord, map := u.map, pins := u.pins, st := u.st, evr := u.evr })) ∧
    (Begins s 0 cid 0x84 c → ∀ x ∈ [(Instr.sanitizeBlockErase cid, 2, Sanitize.blockErase),
        (.sanitizeCryptoErase cid, 4, .cryptoErase)], v % 8 = x.2.1 →
      let busy := ∃ y ∈ s.str.list, y.state ≠ .closed
      (busy → stops x.1 0 0x0C true) ∧
      (¬busy → s.nv.sanitize ≠ .none → stops x.1 0 0x1D false) ∧
      (¬busy → s.nv.sanitize = .none → formatting → stops x.1 0 0x84 false) ∧
      (¬busy → s.nv.sanitize = .none → ¬formatting → x.2.1 = 4 → s.sec.drbgOn = false → stops x.1 0 0x06 false) ∧
      (¬busy → s.nv.sanitize = .none → ¬formatting → (x.2.1 = 4 → s.sec.drbgOn = true) →
        s.ord.next + all.length ≤ s.ord.top + 1 → ∃ u, Ends x.1 s 0 cid 0 0 false 0 0 u ∧ u.nv.sanitize = x.2.2 ∧
          (∀ n ∈ u.nv.namespaces, s.ord.next ≤ n.epoch) ∧ (u.nv.namespaces.map (·.id)) = all ∧
          (∀ d ∈ u.nv.cmds, d.sq ≠ 0 → d.stage = .running → d.sqe.nsid.toNat ∈ all → d.seq ≠ 0) ∧
          (x.2.1 = 2 → u.sec = s.sec ∧ u.nor = s.nor) ∧ u.str = s.str ∧ u.med = s.med ∧ u.clk = s.clk)) ∧
    (serving s = true →
      let user (u : FlashUnit) : Bool := u.kind != .pad && u.kind != .summary
      let lifted (u : State) : State := { u with nv := { u.nv with sanitize := .none, sanitized := true } }
      (s.nv.sanitize = .none → exec (.sanitizeDone good) s = .next s) ∧
      (s.nv.sanitize = .cryptoErase → ∃ u, exec (.sanitizeDone good) s = .next (fetchAll (lifted u)) ∧
        u = { s with ord := u.ord, map := u.map, nor := u.nor }) ∧
      (s.nv.sanitize = .blockErase → ∃ u, u = { s with ord := u.ord, map := u.map, pins := u.pins, st := u.st, evr := u.evr } ∧
        (collectHolders user u = [] → exec (.sanitizeDone good) s = .next (fetchAll (lifted u))) ∧
        (collectHolders user u ≠ [] → exec (.sanitizeDone good) s = .next u)))

/-- R103, R116, R400, R402: Identify and Get Log Page answer the fields they name, or end with their status; firmware
pieces are whole 4 KiB inside the image; Firmware Commit writes or selects a slot that is neither running nor being
staged; an immediate commit begins the warm recovery. Where it rests on log entries 16, 23 and 172 it states the
model's choice. -/
def Obligations.NvmeFirmware : Prop :=
  ∀ (s : State) (cid : BitVec 16) (c : Cmd) (image : FwImage),
    let e := c.sqe
    let shown (fs : List HostField) : State := { s with out := .hostFields cid fs :: s.out }
    let fails (i : Instr) (sct sc : Nat) := Ends i s 0 cid sct sc true 0 0 s
    (Begins s 0 cid 0x06 c →
      let ids (p : Namespace → Bool) := (List.range 65).filter fun i =>
        decide (e.nsid.toNat < i) && s.nv.namespaces.any fun n => n.id == i && p n
      let list (l : List Nat) := Ends (.identify cid) s 0 cid 0 0 false 0 0 (shown (l.mapIdx fun i n => (4 * i, 4, n)))
      (∀ fs, identifyData s e = .inl fs → Ends (.identify cid) s 0 cid 0 0 false 0 0 (shown fs)) ∧
      (∀ sc, identifyData s e = .inr sc → fails (.identify cid) 0 sc) ∧
      (e.cdw10.toNat % 256 = 0x02 → list (ids (·.attached))) ∧ (e.cdw10.toNat % 256 = 0x10 → list (ids fun _ => true)) ∧
      (e.cdw10.toNat % 256 = 0x00 → e.nsid = 0 ∨ (64 < e.nsid.toNat ∧ e.nsid ≠ 0xFFFFFFFF) → fails (.identify cid) 0 0x0B)) ∧
    (Begins s 0 cid 0x02 c →
      let len := 4 * (e.cdw10.toNat / 65536 + 65536 * (e.cdw11.toNat % 65536) + 1)
      let off := e.cdw12.toNat + 2 ^ 32 * e.cdw13.toNat
      let part (f : HostField) : Option HostField :=
        let lo := max off f.1
        let hi := min (off + len) (f.1 + f.2.1)
        if lo < hi then some (lo - off, hi - lo, f.2.2 / 2 ^ (8 * (lo - f.1)) % 2 ^ (8 * (hi - lo))) else none
      (∀ fs, logPage s (e.cdw10.toNat % 256) = some fs → Ends (.getLogPage cid) s 0 cid 0 0 false 0 0
        { shown (fs.filterMap part) with free := s.free + 65541 }) ∧
      (e.cdw10.toNat % 256 ∉ [0x01, 0x02, 0x03, 0x07, 0x81] → fails (.getLogPage cid) 0 0x02)) ∧
    (Begins s 0 cid 0x11 c →
      let size := 4 * (e.cdw10.toNat + 1)
      let off := 4 * e.cdw11.toNat
      let good := size % 4096 = 0 ∧ off % 4096 = 0 ∧ off + size ≤ 28311552
      (¬good → fails (.firmwareImageDownload cid) 0 0x02) ∧
      (good → Ends (.firmwareImageDownload cid) s 0 cid 0 0 false 0 0
        { s with nv := { s.nv with download := s.nv.download ++ [(off, size)] } })) ∧
    (Begins s 0 cid 0x10 c →
      let act := e.cdw10.toNat / 8 % 8
      let k := if e.cdw10.toNat % 8 = 0 then 3 - s.nor.slot else e.cdw10.toNat % 8
      let named := k = 1 ∨ k = 2
      let now := Instr.firmwareCommitImmediate cid image
      let begun (t : State) : Prop :=
        (∃ r, t.life.stop = some r ∧ r.activation = true ∧ r.newSlot = k ∧ r.nvmeCid = some cid ∧ r.startedUs = s.clk.us) ∧
        findCmd t 0 cid = some { c with stage := .running } ∧ (config t).activeSlot = k ∧ t.nor.xo = true ∧
        t.clk = s.clk ∧ t.str = s.str ∧ t.ord = s.ord ∧ t.map = s.map
      let selected (nv : Nvme) (t : State) := t.nv = { nv with nextSlot := some k } ∧ (config t).activeSlot = k
      (act ≠ 3 → ¬named ∨ (act ≠ 2 ∧ k = s.nor.slot) → fails (.firmwareCommit cid image) 1 0x06) ∧
      (act ≠ 3 → named → (act ≠ 2 → k ≠ s.nor.slot) → s.sec.staging = some k → fails (.firmwareCommit cid image) 0 0x0C) ∧
      (named → s.sec.staging ≠ some k →
        (act = 2 → slotFault s k = none → ∃ u, Ends (.firmwareCommit cid image) s 0 cid 0 0 false 0 0 u ∧
          selected s.nv u ∧ u = { s with nv := u.nv, nor := u.nor }) ∧
        (act = 2 → ∀ cause, slotFault s k = some cause → ∃ u version, Ends (.firmwareCommit cid image) s 0 cid 1 0x07 true 0 0 u ∧
          Logged [(0x0C03, blockUnit 0x24, evData [(1, 1), (1, cause), (1, k), (1, 0), (4, version)])] s u ∧
          u = { s with evr := u.evr, pins := u.pins }) ∧
        (act ≤ 1 → k ≠ s.nor.slot → s.nv.download = [] → fails (.firmwareCommit cid image) 1 0x07) ∧
        (act ≤ 1 → k ≠ s.nor.slot → s.nv.download ≠ [] → ∃ u, slotImage u k = some image ∧
          u.str = s.str ∧ u.med = s.med ∧ u.clk = s.clk ∧
          ((Ends (.firmwareCommit cid image) s 0 cid 1 0x07 true 0 0 u ∧ u.nv = { s.nv with download := [] }) ∨
            (Ends (.firmwareCommit cid image) s 0 cid 0 0 false 0 0 u ∧ Logged [] s u ∧
              (act = 0 → u.nv = { s.nv with download := [] }) ∧ (act = 1 → selected { s.nv with download := [] } u)))) ∧
        (act = 3 → s.nv.download = [] → slotFault s k = none → ∃ t, exec now s = .next t ∧ begun t) ∧
        (act = 3 → s.nv.download ≠ [] → k ≠ s.nor.slot → ∃ u, slotImage u k = some image ∧
          u.str = s.str ∧ u.med = s.med ∧ u.clk = s.clk ∧ u.nv = { s.nv with download := [] } ∧
          (Ends now s 0 cid 1 0x07 true 0 0 u ∨ ∃ t, exec now s = .next t ∧ begun t))) ∧
      (act = 3 → ¬named ∨ (s.nv.download ≠ [] ∧ k = s.nor.slot) → fails now 1 0x06) ∧
      (act = 3 → named → (s.nv.download ≠ [] → k ≠ s.nor.slot) → s.sec.staging = some k → fails now 0 0x0C))

/-- R28, R147, R150, R154, R156, R160, R171, R173, R176 to R180, R205, R217, R253: a part of a write that no hold
stops goes to the active superblock of the next stripe group, unit after unit; held writes wait, and parts that need
overlay room wait with MAP_OVERLAY_FULL once an episode; a byte parity failure at W8 to W10 is logged, a third one
loses the unit. A row programmed with its parity is recorded; writes with all their rows are durable and their whole
segments mapped; a superblock that closes gets its summary and is CLOSED when its rows are done. Where it rests on log
entries 15, 59, 69 and 175 it states the model's choice. -/
def Obligations.Placement : Prop :=
  ∀ s : State,
    (∀ (seq : Nat) (w : Write) (parity : Option PlaceParity), (s.ord.accepted.find? fun w => w.seq == seq) = some w →
      let i := Instr.writePlace seq parity
      (s.life.phase ≠ .service ∨ mayPlace s w = false ∨ placeTurn s w = false → exec i s = .next s) ∧
      (s.life.phase = .service → mayPlace s w = true → placeTurn s w = true → w.kind = .write → w.places = [] → 0 < w.len →
        w.lba / 512 = (w.lba + w.len - 1) / 512 →
        let unit (b : Superblock) (k : Nat) : FlashUnit := ⟨b.fill + k, w.seq, w.lba + k, w.ns, sourceField w, 0, w.len, .write,
          keyGenOf s w.ns, (w.units[k]?).getD zeroUnit⟩
        (∀ cause, overlayWait s w (0, w.len) = some cause → s.map.overlayFull = true → exec i s = .next s) ∧
        (∀ cause, overlayWait s w (0, w.len) = some cause → s.map.overlayFull = false →
          ∃ t, exec i s = .next t ∧ Logged [(0x0402, blockUnit 8,
            evData [(4, min s.map.overlay.length 0xFFFFFFFF), (3, summaryBytes s / 1000000), (1, cause)])] s t ∧
            t = { s with map := { s.map with overlayFull := true }, evr := t.evr, pins := t.pins }) ∧
        (∀ x, parity = some x → overlayWait s w (0, w.len) = none → x.unit < w.len → x.unit < w.units.length →
          w.programmed = false → ∃ t u, exec i s = .next t ∧
          Logged ((0x0605, blockUnit (if x.stage = 8 then 8 else if x.stage = 9 then 0xA else 0xB), evData [(1, x.stage),
            (1, x.lane), (1, min x.fails 2), (1, if 3 ≤ x.fails then 1 else 0), (4, (w.lba + x.unit) % 2 ^ 32)]) ::
            if 3 ≤ x.fails then [(0x0604, blockUnit 0xA, evData [(5, w.lba + x.unit), (1, w.ns), (1, 0), (1, 1)])] else []) s t ∧
          (t.ord.accepted.find? fun w => w.seq == seq) = some u ∧
          (3 ≤ x.fails → ∃ d, u.units[x.unit]? = some d ∧ d.lost = true) ∧ (x.fails < 3 → u.units = w.units)) ∧
        (∀ b, parity = none → overlayWait s w (0, w.len) = none → s.sram.flipMask.getLsbD 31 = false → s.map.nextGroup < 32 → activeOf s s.map.nextGroup = some b →
          findSb s b.number = some b → b.usable = true → unitsFit b ((List.range w.len).map (unit b)) = true →
          (∀ u ∈ b.units, u.off < b.fill) →
          ∃ t y, exec i s = .next t ∧ findSb t b.number = some y ∧
            (∀ k < w.len, unitAt y (b.fill + k) = some (unit b k)) ∧
            (∀ u ∈ b.units, u ∈ y.units) ∧ t.map.nextGroup = (s.map.nextGroup + 1) % 32 ∧
            t.ord = { s.ord with accepted := s.ord.accepted.map fun v =>
              if v.seq = seq then { v with places := v.places ++ [⟨b.number, b.fill, 0, w.len⟩] } else v } ∧
            t = { s with ord := t.ord, map := { s.map with sbs := t.map.sbs, nextGroup := t.map.nextGroup } }))) ∧
    (∀ (sb : Nat) (b : Superblock), findSb s sb = some b →
      let closing := b.summaryLength ≠ 0 ∨ b.noSummary = true
      (s.life.phase ≠ .service ∨ b.state ≠ .granted ∨ b.active = false ∨ closing ∨ b.fill = 0 →
        exec (.superblockAgeTimeout sb) s = .next s) ∧
      (s.life.phase = .service → b.state = .granted → b.active = true → ¬closing → 0 < b.fill → 0 < rowUnits b →
        ∃ t y, exec (.superblockAgeTimeout sb) s = .next t ∧ findSb t sb = some y ∧ y.active = false ∧ y.state = .granted ∧
          y.closeStamp = s.ord.next - 1 ∧ y.summaryStart = b.fill ∧
          y.summaryLength = (320 + 16 * (runsOf b).length + 4095) / 4096 ∧ y.fill % rowUnits b = 0 ∧
          b.fill + y.summaryLength ≤ y.fill ∧ (∀ r < y.fill / rowUnits b, r ∈ y.rowsSent) ∧ (∀ u ∈ b.units, u ∈ y.units) ∧
          t = { s with map := { s.map with sbs := t.map.sbs } }) ∧
      (∀ (row : Nat) (temps : List Int),
        let i := Instr.rowProgramDone sb row temps
        let records := ∃ w ∈ s.ord.accepted, w.kind = .deallocate ∨ w.kind = .secureDiscard
        let runs := s.life.phase = .service ∨ s.life.phase = .lossFlush ∨ s.life.phase = .haltFlush
        (¬runs ∨ b.state ≠ .granted ∨ row ∉ b.rowsSent ∨ row ∈ b.rowsDone ∨ rowTurn s b row = false → exec i s = .next s) ∧
        (runs → b.state = .granted → row ∈ b.rowsSent → row ∉ b.rowsDone → rowTurn s b row = true → ¬records → ∃ t y,
          exec i s = .next t ∧
          findSb t sb = some y ∧ y.rowsDone = b.rowsDone ++ [row] ∧ y.units = b.units ∧
          (if closing ∧ ∀ r ∈ b.rowsSent, r ∈ y.rowsDone then y.state = .closed ∧
              t.map.pendingSlots = s.map.pendingSlots ++ [.close b.closeStamp sb b.summaryStart b.summaryLength b.noSummary]
            else y.state = .granted ∧ t.map.pendingSlots = s.map.pendingSlots) ∧
          (b.rowsDone = [] → y.firstUs = some s.clk.us ∧ y.firstUtc = s.clk.utc ∧ y.firstTemps = y.lastTemps) ∧
          (∀ c < 32, ∀ v, temps[c]? = some v → c ∉ b.leftOut → findDie s (memberDie b c) ≠ none →
            y.lastTemps[c]? = some v ∧ ∃ d, findDie t (memberDie b c) = some d ∧ d.temp = v) ∧
          (temps = [] → t.thm = s.thm ∧ t.evr = s.evr ∧ t.pins = s.pins) ∧
          (∀ v ∈ t.ord.accepted, isProgrammed t v = true → v.programmed = true) ∧
          (∀ w off n, s.ord.accepted = [w] → w.kind = .write → w.places = [⟨sb, off, 0, 256⟩] → w.len = 256 →
            w.lba % 256 = 0 → w.programmed = false → w.applied = false → findNs s w.ns = some n → n.epoch ≤ w.seq →
            (∀ r, rowOf b off ≤ r → r ≤ rowOf b (off + 255) → r ∈ y.rowsDone) →
            t.ord.accepted = [] ∧ ∀ k < 256, resolveMap t w.ns (w.lba + k) = .flash sb (off + k)) ∧
          t = { s with
            ord := t.ord, map := t.map, nv := { s.nv with cmds := t.nv.cmds }
            intg := t.intg, med := { s.med with dies := t.med.dies }
            thm := { s.thm with hotDies := t.thm.hotDies }, evr := t.evr, pins := t.pins })))

/-- R31, R32, R145, R186, R188, R194 to R197, R200: a grant takes the least erased superblock of the group and waits
for its slot; a ledger page programmed on two copies makes its slots durable and what they grant usable; garbage
collection counts what it copies and frees a superblock with nothing valid, and redoes a copy that reads back wrong; a
fold takes the next number and marks the segment; a static move brings the coldest superblock into the most worn.
Where it rests on log entries 62, 63, 64, 65, 67, 68, 70 and 175 it states the model's choice. -/
def Obligations.Superblocks : Prop :=
  ∀ s : State,
    (∀ (group : Fin 32) (half : List BlankFound), serving s = true → backgroundOpen s = false →
      (∀ x ∈ s.map.sbs, x.state ≠ .dirty) →
      let inGroup (b : Superblock) := b.number % 32 = (group : Nat)
      let opens := s.map.sbs.filter fun b => groupOf b.number == (group : Nat) && b.state == .granted && !closing b
      (2 ≤ opens.length → exec (.superblockGrant group half) s = .next s) ∧
      ((∀ b ∈ s.map.sbs, inGroup b → b.state ≠ .erased) → exec (.superblockGrant group half) s = .next s) ∧
      (opens.length < 2 → (membersOut s group).length < 9 → (∀ b ∈ s.map.sbs, b.blankPending = false) →
        (∃ b ∈ s.map.sbs, inGroup b ∧ b.state = .erased) → (s.map.sbs.map (·.number)).Nodup →
        ∃ t b, exec (.superblockGrant group half) s = .next t ∧ b ∈ s.map.sbs ∧ inGroup b ∧ b.state = .erased ∧
          (∀ x ∈ s.map.sbs, inGroup x → x.state = .erased → b.eraseCount ≤ x.eraseCount) ∧
          findSb t b.number = some { b with
            state := .granted, active := !opens.any (·.active), usable := false, leftOut := membersOut s group
            grantUtc := match s.clk.utc with
              | some us => us / 1000000 - 946684800
              | none => 0 } ∧
          t.map.pendingSlots = s.map.pendingSlots ++
            [.grant (s.ord.next - 1) b.number (opens.any (·.active)) (s.clk.utc.getD 0)] ∧
          t = { s with map := { s.map with
            sbs := t.map.sbs, pendingSlots := t.map.pendingSlots, gcGroups := t.map.gcGroups } })) ∧
    (∀ copies : List (Fin 3), (∀ c ∈ s.nv.cmds, c.waits = false) →
      (s.life.phase ≠ .service ∨ s.life.fwStart = false ∨ s.map.pendingSlots = [] →
        exec (.ledgerPageDone copies) s = .next s) ∧
      (s.life.phase = .service → s.life.fwStart = true → s.life.captureReady = true → s.map.pendingSlots ≠ [] →
        (copies.dedup.length < 2 → ∃ t, exec (.ledgerPageDone copies) s = .next t ∧
          t.map.pendingSlots = s.map.pendingSlots ∧ t.map.slots = s.map.slots ∧ t.map.sbs = s.map.sbs ∧ t.ord = s.ord) ∧
        (2 ≤ copies.dedup.length → s.map.pages + (s.map.pendingSlots.length + 254) / 255 < 1536 →
          (∀ w ∈ s.ord.accepted, w.kind ≠ .deallocate ∧ w.kind ≠ .secureDiscard) →
          ∃ t, exec (.ledgerPageDone copies) s = .next t ∧ t.map.pendingSlots = [] ∧
            t.map.slots = s.map.pendingSlots.reverse ++ s.map.slots ∧
            (∀ q sb standby utc, Slot.grant q sb standby utc ∈ s.map.pendingSlots → ∀ b, findSb t sb = some b → b.usable = true) ∧
            (∀ top, Slot.seqBlock top ∈ s.map.pendingSlots → top ≤ t.ord.top) ∧ s.ord.top ≤ t.ord.top ∧
            t.ord.next = s.ord.next ∧ t.str = s.str ∧ t.clk = s.clk))) ∧
    (∀ (src : Nat) (b : Superblock), findSb s src = some b →
      (backgroundOpen s = false ∨ gcDue s b = false → ∀ ok, exec (.gcCopyDone src ok) s = .next s) ∧
      (backgroundOpen s = true → gcDue s b = true →
        (∃ t, ∃ k ≤ (copyUnits s b).length, exec (.gcCopyDone src true) s = .next t ∧
          t.map.gcBytes = s.map.gcBytes + k * 4096 ∧ t = { s with ord := t.ord, map := t.map }) ∧
        (validUnits s b = [] → s.ord.accepted = [] → (∀ x ∈ s.map.sbs, x.state ≠ .granted) →
          ∃ t, exec (.gcCopyDone src true) s = .next t ∧ match b.retireDie with
            | none => findSb t src = some { b with state := .dirty } ∧ Slot.dirty src ∈ t.map.pendingSlots
            | some die => findSb t src = some { b with state := .retired } ∧ Slot.retire src die ∈ t.map.pendingSlots) ∧
        (∀ u rest, copyUnits s b = u :: rest → ∃ t, exec (.gcCopyDone src false) s = .next t ∧
          Logged [(0x0604, blockUnit 5, evData [(5, u.lba), (1, u.ns), (1, 3), (1, 0)])] s t ∧
          (∃ x ∈ t.st.running, x.unit = maceUnit (maceOf (dieOf b u.off / 32))) ∧
          t = { s with ord := t.ord, map := t.map, st := t.st, evr := t.evr, pins := t.pins }))) ∧
    (∀ (segment : Nat) (n : Namespace), namespaceOf s segment = some n →
      let e := segEntry s segment
      let runs := s.life.phase = .service ∧ s.life.mapReady = true ∧ s.life.stop = none ∧
        (16777216 < s.map.overlay.length ∨ s.map.overlayFull = true ∨ 7500000000 ≤ summaryBytes s)
      (¬runs ∨ foldable s e = false ∨ foldsFirst s e = false → exec (.foldStart segment) s = .next s) ∧
      (runs → foldable s e = true → foldsFirst s e = true → s.ord.next ≤ s.ord.top → ∃ t w,
        exec (.foldStart segment) s = .next t ∧ t.ord = { s.ord with next := s.ord.next + 1, accepted := s.ord.accepted ++ [w] } ∧
        w.seq = s.ord.next ∧ w.kind = .fold ∧ w.src = .device ∧ w.ns = n.id ∧ w.lba = (segment - n.base) * 256 ∧
        w.len = 256 ∧ w.units.length = 256 ∧ w.programmed = false ∧ w.cmd = none ∧
        segEntry t segment = { e with foldPending := true } ∧ (∀ g, g ≠ segment → segEntry t g = segEntry s g) ∧
        t.map.overlay = s.map.overlay.map (fun o => if o.ovlNumber = e.ovlNumber then { o with foldMark := true } else o) ∧
        t = { s with ord := t.ord, map := { s.map with segments := t.map.segments, overlay := t.map.overlay } })) ∧
    (∀ (group : Fin 32) (half : List BlankFound) (good : Bool),
      let i := Instr.staticWearLevel group half good
      (mayMove s group = false → exec i s = .next s) ∧
      (∀ src dst, mayMove s group = true → coldest s group = some src → mostWorn s group = some dst →
        half = [] ∨ dst.blankPending = false → s.ord.accepted = [] → (s.map.sbs.map (·.number)).Nodup →
        ∃ t y, exec i s = .next t ∧
          findSb t dst.number = some y ∧ y.state = .closed ∧ y.active = false ∧
          t.map.gcBytes = s.map.gcBytes + (copyUnits s src).length * 4096 ∧
          t.map.staticMoves = ((group : Nat), s.clk.us) :: s.map.staticMoves.filter (fun m => m.1 != (group : Nat)) ∧
          (good = true → t = { s with map := t.map, ord := t.ord }) ∧
          t = { s with map := t.map, ord := t.ord, st := t.st, evr := t.evr, pins := t.pins }))

/-- R212 to R217, R219 to R222, R225, R226, R361, R362: a die's queue takes 64 jobs; an idle die starts the first
startable job of the highest class with a fresh context, a stale one restored first; the bus goes by class with the
aging of GC and scrub, least recently served first; a read may ask an operation to suspend, which resumes by its
causes; a routine before COMMIT is abandoned and its job goes to the front; a hot die is noted. Where it rests on log
entries 85, 87, 88, 96, 97, 98, 167 and 176 it states the model's choice. -/
def Obligations.MediaJobs : Prop :=
  ∀ (s : State) (die : Fin 1024) (d : Die), findDie s die = some d →
    let med (y : Die) (t : State) : Prop :=
      findDie t die = some y ∧ (∀ k, k ≠ (die : Nat) → findDie t k = findDie s k)
    let only (y : Die) (t : State) : Prop := med y t ∧ t = { s with med := { s.med with dies := t.med.dies } }
    let flush := s.life.phase = .lossFlush ∨ s.life.phase = .haltFlush
    let rank (k : JobClass) : Nat := match k with
      | .hostRead => 0 | .program => 1 | .gc => 2 | .scrub => 3
    let ch : Nat := (die : Nat) / 32
    (∀ job : Job,
      let fits : Prop := match job.cls with
        | .hostRead => job.kind = .read
        | .program => job.kind = .program
        | .gc => True
        | .scrub => job.kind = .read
      let takes := (s.life.phase = .service ∨ (flush ∧ (job.cls = .program ∨ (job.flushNeeds = true ∧ job.cls ≠ .hostRead)))) ∧
        fits ∧ d.state ≠ .absent ∧ dieOut s die = false ∧ d.queue.length < 64
      (takes → ∃ t, exec (.jobEnqueue die job) s = .next t ∧ only { d with
        queue := d.queue ++ [job]
        arrivals := d.arrivals.filter (fun a => a.1 != job.id) ++ [(job.id, s.clk.us)] } t) ∧
      (¬takes → exec (.jobEnqueue die job) s = .next s)) ∧
    (∀ ok : Bool,
      let idle := (s.life.phase = .service ∨ flush) ∧ (d.state = .inService ∨ d.state = .stale) ∧ dieOut s die = false ∧
        d.running = none ∧ testFree s die = true ∧ channelTakes s ch = true
      (¬idle ∨ (∀ j ∈ d.queue, startable s d j = false) → exec (.jobStart die ok) s = .next s) ∧
      (idle → (∃ j ∈ d.queue, startable s d j = true) →
        (d.state = .stale → ok = false → ∃ t, exec (.jobStart die ok) s = .next t ∧
          (∃ x ∈ t.st.running, x.unit = dieUnit die) ∧ t = { s with st := t.st }) ∧
        (d.state = .inService ∨ ok = true → ∃ t j c, exec (.jobStart die ok) s = .next t ∧
          j ∈ d.queue ∧ startable s d j = true ∧ (∀ x ∈ d.queue, startable s d x = true → rank j.cls ≤ rank x.cls) ∧
          c.job = j ∧ c.pc = routineStart (chanOf s ch) j.vector ∧ c.stack = [] ∧ c.committed = false ∧ c.request = 0 ∧
          c.startedUs = s.clk.us ∧ c.fifo = j.payload ∧ c.waitCycles = 0 ∧ c.waitUs = 0 ∧
          (∀ x, (chanOf s ch).contexts[(die : Nat) % 32]? = some x →
            c.regs = x.regs.set 11 0 ∧ c.z = x.z ∧ c.n = x.n ∧ c.ce = x.ce) ∧
          med { d with
            running := some c, queue := d.queue.erase j, state := .inService
            featureGen := if d.state = .stale then s.med.featureGen else d.featureGen
            staleLogged := if d.state = .stale then false else d.staleLogged } t ∧
          t = { s with med := { s.med with dies := t.med.dies } }))) ∧
    (∀ c : Context, d.running = some c →
      let asks := s.life.phase = .service ∧ (∃ j ∈ d.queue, j.cls = .hostRead) ∧ c.job.kind ≠ .read ∧ c.committed = true ∧
        d.runFromUs + (if c.job.kind = .erase then 500 else 200) ≤ s.clk.us ∧ d.suspends < 8 ∧ c.request = 0 ∧
        d.suspended = .none
      (asks → ∃ t, exec (.suspendRequest die) s = .next t ∧ only { d with running := some { c with request := 1 } } t) ∧
      (¬asks → exec (.suspendRequest die) s = .next s) ∧
      (c.committed = true → ∀ cause, exec (.routineAbandon die cause) s = .next s) ∧
      (c.committed = false → ch < s.med.channels.length →
        let bus := (chanOf s ch).bus
        let back (reason : Nat) (i : Instr) : Prop := ∃ t, exec i s = .next t ∧ med { d with
            running := none, queue := c.job :: d.queue
            abandoned := if reason = 1 then c.job.id :: d.abandoned else d.abandoned } t ∧
          chanOf t ch = { chanOf s ch with
            bus := if bus = some ((die : Nat) % 32) then none else bus
            contexts := (chanOf s ch).contexts.set ((die : Nat) % 32) ⟨c.pc, c.regs, c.stack, c.z, c.n, c.ce⟩ } ∧
          Logged [(0x0505, dieUnit die, evData [(1, c.job.vector), (1, reason), (2, c.pc), (4, c.job.id.toNat)])] s t ∧
          t = { s with
            med := { s.med with dies := t.med.dies, channels := t.med.channels }, evr := t.evr, pins := t.pins }
        (s.life.phase = .service → bus = some ((die : Nat) % 32) → readWaits s ch = true →
          c.job.id ∉ d.abandoned → back 1 (.routineAbandon die .read)) ∧
        ((chanOf s ch).state = .loading → back 2 (.routineAbandon die .patchLoad)) ∧
        (flush → c.job.flushNeeds = true → c.job.cls ≠ .program → back 3 (.routineAbandon die .halt)) ∧
        (flush → c.job.flushNeeds = false → ∃ t, exec (.routineAbandon die .halt) s = .next t ∧
          med { d with running := none } t ∧
          t = { s with med := { s.med with dies := t.med.dies, channels := t.med.channels } }))) ∧
    (∀ (c : Context) (cause : ResumeCause), d.parked = some c → d.running = none →
      let holds : Prop := match cause with
        | .queueEmpty => ∀ j ∈ d.queue, j.cls ≠ .hostRead
        | .eightReads => 8 ≤ d.readsServed
        | .parked150us => d.parkedUs + 150 ≤ s.clk.us
        | .halt => flush
      (holds → ∃ t, exec (.suspendResume die cause) s = .next t ∧ only { d with
        running := some { c with startedUs := c.startedUs + (s.clk.us - d.parkedUs) }, parked := none, readsServed := 0 } t) ∧
      (¬holds → exec (.suspendResume die cause) s = .next s)) ∧
    (∀ celsius : Int,
      let works := sequencerRuns s die = true ∧ dieOut s die = false ∧
        (d.queue ≠ [] ∨ d.running.isSome = true ∨ d.parked.isSome = true)
      let limit : Int := s.thm.dieLimitC
      let hot := (die : Nat) ∈ s.thm.hotDies
      (¬works → exec (.dieTempRead die celsius) s = .next s) ∧
      (works → ∃ t, exec (.dieTempRead die celsius) s = .next t ∧ med { d with temp := celsius, tempUs := s.clk.us } t ∧
        t.thm.hotDies = (if limit ≤ celsius ∧ ¬hot then (die : Nat) :: s.thm.hotDies
          else if celsius ≤ limit - 3 then s.thm.hotDies.filter (· != (die : Nat)) else s.thm.hotDies) ∧
        (limit ≤ celsius ∧ ¬hot ∨ t.evr = s.evr ∧ t.pins = s.pins) ∧
        t = { s with
          med := { s.med with dies := t.med.dies }, thm := { s.thm with hotDies := t.thm.hotDies }
          evr := t.evr, pins := t.pins })) ∧
    (∀ (k : Fin 32) (waiting : List (Fin 32)), s.med.channels.length = 32 →
      let c := chanOf s k
      let cls (p : Nat) := rankAt s k p
      let ps := (waiting.map (·.val)).filter fun p => decide (cls p < 4)
      let has (r : Nat) : Prop := ∃ p ∈ ps, cls p = r
      let aged2 := has 2 ∧ 15 ≤ c.gcPassed
      let aged3 := ¬aged2 ∧ has 3 ∧ 255 ≤ c.scrubPassed
      (ps = [] ∨ c.bus ≠ none ∨ sequencerRuns s ((k : Nat) * 32) = false → exec (.busGrant k waiting) s = .next s) ∧
      (ps ≠ [] → c.bus = none → sequencerRuns s ((k : Nat) * 32) = true → ∃ t p, exec (.busGrant k waiting) s = .next t ∧
        p ∈ ps ∧ (aged2 → cls p = 2) ∧ (aged3 → cls p = 3) ∧
        (¬aged2 → ¬aged3 → (has 0 → cls p = 0) ∧ (¬has 0 → gcPriority s = true → has 1 → has 2 →
          cls p = if c.gcTurn then 1 else 2) ∧
          (¬has 0 → (gcPriority s = false ∨ ¬has 1 ∨ ¬has 2) → ∀ q ∈ ps, cls p ≤ cls q)) ∧
        (∀ q ∈ ps, cls q = cls p → q ∉ c.served → p ∉ c.served) ∧
        (p ∈ c.served → ∀ q ∈ ps, cls q = cls p → c.served.idxOf p ≤ c.served.idxOf q) ∧
        chanOf t k = { c with
          bus := some p, served := c.served.filter (· != p) ++ [p]
          gcPassed := if cls p < 2 then min 15 (c.gcPassed + 1) else 0
          scrubPassed := if cls p < 3 then min 255 (c.scrubPassed + 1) else 0
          gcTurn := if cls p = 1 then false else if cls p = 2 then true else c.gcTurn } ∧
        (∀ j, j ≠ (k : Nat) → chanOf t j = chanOf s j) ∧
        t = { s with med := { s.med with channels := t.med.channels } }))

/-- R218, R221, R228 to R230, R388: the sweep counts corrections and, on two flips, withdraws the patch of a patch-RAM
word or calls a ROM word a lasting fault; CS_PATCH_LOAD checks the image in the order of R229; a channel whose
routines have ended takes the patch with a new golden generation; the last one completes the handle and the patch is
kept. Where it rests on log entries 91, 92, 93, 94, 101, 176 and 178 it states the model's choice. -/
def Obligations.ControlStore : Prop :=
  ∀ (s : State) (ch : Fin 32), s.med.channels.length = 32 →
    let c := chanOf s ch
    let only (t : State) : Prop := t = { s with med := { s.med with channels := t.med.channels } } ∧
      ∀ k, k ≠ (ch : Nat) → chanOf t k = chanOf s k
    let swept := (c.swept + 1) % 16384
    (∀ word : Fin 16384,
      (sequencerRuns s ((ch : Nat) * 32) = false → ∀ f, exec (.controlStoreSweep ch word f) s = .next s) ∧
      (sequencerRuns s ((ch : Nat) * 32) = true →
        (∃ t, exec (.controlStoreSweep ch word []) s = .next t ∧ chanOf t ch = { c with swept := swept } ∧ only t) ∧
        (∀ bit, ∃ t, exec (.controlStoreSweep ch word [bit]) s = .next t ∧
          let n := min (c.corrections + 1) 0xFFFFFFFF
          chanOf t ch = { c with
            swept := swept, corrections := n
            badWords := if 12288 ≤ (word : Nat) then c.badWords
              else ((word : Nat), (bit : Nat)) :: c.badWords.filter (fun x => x.1 != (word : Nat)) } ∧ (∀ k, k ≠ (ch : Nat) → chanOf t k = chanOf s k) ∧
          Logged [(0x0506, channelUnit ch,
            evData [(2, word), (1, bit), (1, if 12288 ≤ (word : Nat) then 1 else 0), (4, n)])] s t ∧
          t = { s with med := { s.med with channels := t.med.channels }, evr := t.evr, pins := t.pins }) ∧
        (∀ a b f, (∀ x ∈ s.med.dies, x.running = none) →
          (12288 ≤ (word : Nat) → ∃ t die, exec (.controlStoreSweep ch word (a :: b :: f)) s = .next t ∧
            Logged [(0x0507, channelUnit ch, evData [(2, word), (1, 0), (1, 0), (2, die), (2, 0)])] s t ∧
            chanOf t ch = { c with
              swept := swept, patchVersion := 0, patchValid := false, patch := [], vectors := [], expected := 0
              mismatch := false, generation := (chanOf t ch).generation } ∧
            t.med.golden = (s.med.golden + 1) % 65536 ∧ (∃ x ∈ t.st.running, x.unit = channelUnit ch) ∧
            t = { s with
              med := { s.med with channels := t.med.channels, golden := t.med.golden }, st := t.st, evr := t.evr
              pins := t.pins, free := s.free + 1 }) ∧
          ((word : Nat) < 12288 → ∃ u die,
            exec (.controlStoreSweep ch word (a :: b :: f)) s = .next (lastingFault (channelUnit ch) 0x0507 0 u) ∧
            Logged [(0x0507, channelUnit ch, evData [(2, word), (1, 0), (1, 1), (2, die), (2, 0)])] s u ∧
            u = { s with
              med := { s.med with channels := u.med.channels }, evr := u.evr, pins := u.pins, free := s.free + 1 })))) ∧
    (∀ (m : Fin 16) (i : PatchImage), Asked m 0x00A2 s → freeSlots s ≠ [] →
      let mask := reqField s m 8 4
      let form := patchFormOk i (reqField s m 20 4)
      let tooOld := i.version < minPatch s
      let wrong := i.romVersion ≠ 1 ∨ s.sec.version < i.minFirmware
      let fails (st : BitVec 16) (es : List (BitVec 16 × UnitId × BitVec 64)) : Prop := ∃ v u,
        exec (.csPatchLoad m i) s = .next (respond m stAccepted (leBytes 4 v.toNat) (completeHandle v st 0 u)) ∧
        Issued v ⟨v, 0x00A2, m, (boxOf s m).ringPath, s.clk.us, false, mask, 0⟩ s.hnd u.hnd ∧ Logged es s u ∧
        u = { s with hnd := u.hnd, free := s.free + 1, evr := u.evr, pins := u.pins }
      (imageLive s = true → ∃ t, exec (.csPatchLoad m i) s = .next t ∧ Replied m stBusyRetry [] s t) ∧
      (imageLive s = false →
        (patchSigned s i = false →
          fails stAuthFailed [(0x0C03, blockUnit 0x24, evData [(1, 2), (1, 0), (1, 0), (1, 0), (4, i.version)])]) ∧
        (patchSigned s i = true → tooOld → fails stAuthFailed []) ∧
        (patchSigned s i = true → ¬tooOld → wrong → fails stWrongState []) ∧
        (patchSigned s i = true → ¬tooOld → ¬wrong → form = false → fails stBadParam []) ∧
        (patchSigned s i = true → ¬tooOld → ¬wrong → form = true → ∃ t v u, exec (.csPatchLoad m i) s = .next t ∧
          Accepted m 0x00A2 false mask 0 v s u t ∧ u.med.load = some i ∧ u.med.loaded = [] ∧
          u.med.toLoad = (List.range 32).filter (fun k => mask.testBit k && !channelOut s k) ∧
          (∀ k rest, u.med.toLoad = k :: rest → (chanOf s k).state = .running → (chanOf u k).state = .loading) ∧
          u = { s with hnd := u.hnd, free := s.free + 1, med := u.med, evr := u.evr, pins := u.pins }))) ∧
    (∀ (i : PatchImage) (rest : List Nat) (h : Handle), s.med.load = some i → liveOp s 0x00A2 = some h → serving s = true →
      (s.med.toLoad = (ch : Nat) :: rest → channelQuiet s ch = true → ∃ t, exec (.patchChannelLoad ch true) s = .next t ∧
        chanOf t ch = { c with
          patchVersion := i.version, patchValid := true, mismatch := false, patch := i.words, vectors := i.vectors
          expected := i.version, state := (chanOf t ch).state, generation := (chanOf t ch).generation } ∧
        t.med.golden = (s.med.golden + 1) % 65536 ∧ t.med.toLoad = rest ∧ t.med.loaded = s.med.loaded ++ [(ch : Nat)] ∧
        t.med.load = some i ∧ (∀ x ∈ t.hnd.live, x.value = h.value → x.past = true) ∧
        (rest = [] → (c.state = .loading → (chanOf t ch).state = .running) ∧ Logged [(0x0508, channelUnit ch,
          evData [(2, i.version), (1, i.romVersion), (1, i.vectors.length), (2, i.words.length), (2, 0)])] s t) ∧
        t = { s with hnd := { s.hnd with live := t.hnd.live }, med := t.med, evr := t.evr, pins := t.pins }) ∧
      (s.med.toLoad = (ch : Nat) :: rest → channelQuiet s ch = false → exec (.patchChannelLoad ch true) s = .next s) ∧
      exec (.patchChannelLoad ch false) s = .next s ∧
      (s.med.toLoad ≠ [] → exec .csPatchLoadDone s = .next s) ∧
      (s.med.toLoad = [] → ∃ u, (config u).patch = some i ∧ u.med = { s.med with load := none, loaded := [] } ∧
        exec .csPatchLoadDone s = .next (completeHandle h.value stOk (BitVec.ofNat 128 (leNat
          (leBytes 4 (match s.med.loaded with | [] => 0 | k :: _ => csVersion (chanOf s k)) ++
            leBytes 4 (s.med.loaded.map (2 ^ ·)).sum))) u) ∧ u = { s with med := u.med, nor := u.nor }))

/-- R222, R223: the register and immediate microwords write their result to a writable register and go on to the next
word; nothing else changes but that the fetch of a ROM word with a wrong bit corrects it again (R221). Where it rests
on log entries 74, 75, 76, 77, 79 and 80 it states the model's choice. -/
def Obligations.MicroRegisterResults : Prop :=
  ∀ (s : State) (die : Fin 1024) (d : Die) (c : Context) (dst src : Fin 16) (imm : BitVec 18), Routine s die d c →
    let a := readReg s d c dst
    let b := readReg s d c src
    let u := fetchCorrects (die / 32) c.pc s
    let done (i : Instr) (v : Word32) : Prop := ∃ t, exec i s = .next t ∧
      MicroDone die { d with running := some { c with
        pc := c.pc + 1, regs := if 1 ≤ dst.val ∧ dst.val ≤ 10 then c.regs.set dst v else c.regs } }
        (chanOf u (die / 32)) [] u t
    (Fetches s die c 0x01 (some dst) none (some imm.toNat) → done (.cuMovi die dst imm) (imm.setWidth 32)) ∧
    (Fetches s die c 0x02 (some dst) (some src) none → done (.cuMov die dst src) b) ∧
    (Fetches s die c 0x03 (some dst) (some src) none → done (.cuAdd die dst src) (a + b)) ∧
    (Fetches s die c 0x04 (some dst) none (some imm.toNat) → done (.cuAddi die dst imm) (a + imm.setWidth 32)) ∧
    (Fetches s die c 0x05 (some dst) (some src) none → done (.cuSub die dst src) (a - b)) ∧
    (Fetches s die c 0x06 (some dst) (some src) none → done (.cuAnd die dst src) (a &&& b)) ∧
    (Fetches s die c 0x07 (some dst) (some src) none → done (.cuOr die dst src) (a ||| b)) ∧
    (Fetches s die c 0x08 (some dst) none (some imm.toNat) → done (.cuShli die dst imm) (a <<< (imm.toNat % 32))) ∧
    (Fetches s die c 0x09 (some dst) none (some imm.toNat) → done (.cuShri die dst imm) (a >>> (imm.toNat % 32))) ∧
    (Fetches s die c 0x0B (some dst) none (some imm.toNat) →
      done (.cuLdd die dst imm) (c.job.descriptor.getD (imm.toNat % 8) 0)) ∧
    (Fetches s die c 0x0C (some dst) none (some imm.toNat) →
      done (.cuLdq die dst imm) (Config.qualification d.qual (imm.toNat % 256)))

/-- R220, R222, R223: NOP, the compare, jumps, branches, calls and returns: flags, program counter, call stack. Where
it rests on log entries 75, 76, 77, 78 and 82 it states the model's choice. -/
def Obligations.MicroControlFlow : Prop :=
  ∀ (s : State) (die : Fin 1024) (d : Die) (c : Context) (dst bit src : Fin 16) (imm : BitVec 18), Routine s die d c →
    let a := readReg s d c dst
    let on := (readReg s d c src).getLsbD bit
    let u := fetchCorrects (die / 32) c.pc s
    let goes (i : Instr) (x : Context) : Prop := ∃ t, exec i s = .next t ∧
      MicroDone die { d with running := some x } (chanOf u (die / 32)) [] u t
    let jump (taken : Bool) : Context := { c with pc := if taken then imm.toNat else c.pc + 1 }
    let less : Context := { c with regs := if 1 ≤ dst.val ∧ dst.val ≤ 10 then c.regs.set dst (a - 1) else c.regs }
    (Fetches s die c 0x00 none none none → goes (.cuNop die) { c with pc := c.pc + 1 }) ∧
    (Fetches s die c 0x0A (some dst) none (some imm.toNat) → goes (.cuCmpi die dst imm)
      { c with pc := c.pc + 1, z := a.toNat == imm.toNat, n := decide (a.toNat < imm.toNat) }) ∧
    (Fetches s die c 0x0D none none (some imm.toNat) → goes (.cuJmp die imm) (jump true)) ∧
    (Fetches s die c 0x0E none none (some imm.toNat) → goes (.cuBz die imm) (jump c.z)) ∧
    (Fetches s die c 0x0F none none (some imm.toNat) → goes (.cuBnz die imm) (jump (!c.z))) ∧
    (Fetches s die c 0x10 (some bit) (some src) (some imm.toNat) → goes (.cuBbs die bit src imm) (jump on)) ∧
    (Fetches s die c 0x11 (some bit) (some src) (some imm.toNat) → goes (.cuBbc die bit src imm) (jump (!on))) ∧
    (Fetches s die c 0x12 (some dst) none (some imm.toNat) → goes (.cuDjnz die dst imm)
      { less with pc := if readReg s d less dst = 0 then c.pc + 1 else imm.toNat }) ∧
    (Fetches s die c 0x13 none none (some imm.toNat) → c.stack.length < 4 →
      goes (.cuCall die imm) { c with stack := (c.pc + 1) :: c.stack, pc := imm.toNat }) ∧
    (Fetches s die c 0x14 none none none → ∀ p rest, c.stack = p :: rest →
      goes (.cuRet die) { c with stack := rest, pc := p })

/-- R209, R214, R215, R220, R222, R223: the microwords of the bus. A context that the bus was granted to asserts its
chip enable (CE the one it selects), sends what the row says and goes on to the next word; WAITU, which needs no bus,
gives it up. Without the bus a bus microword waits: nothing changes. Where it rests on log entries 75, 83, 84, 85, 86,
88 and 176 it states the model's choice. -/
def Obligations.MicroBus : Prop :=
  ∀ (s : State) (die : Fin 1024) (d : Die) (c : Context) (dst count src : Fin 16) (imm : BitVec 18) (status : BitVec 8)
    (value : BitVec 32) (bytes : List (BitVec 8)) (parityOk : Bool), Routine s die d c →
    die / 32 < s.med.channels.length →
    let ch : Nat := die / 32
    let b := readReg s d c src
    let u := fetchCorrects ch c.pc s
    let chip (ce : Nat) : State := assertChip ch ce u
    let own := chip c.ce
    let put (v : Word32) : Context := { c with
      pc := c.pc + 1, regs := if 1 ≤ dst.val ∧ dst.val ≤ 10 then c.regs.set dst v else c.regs }
    let next : Context := { c with pc := c.pc + 1 }
    let target := lunTarget s die d c
    let goes (i : Instr) (x : Context) (v : State) (k : Channel) (sent : List Out) : Prop := ∃ t, exec i s = .next t ∧
      MicroDone die { d with running := some x } k sent v t
    let settled (e : Die) : Die := if status.getLsbD 6 = true ∧ status.getLsbD 2 = false ∧ e.suspended ≠ .none then
      { e with suspended := .none, suspends := e.suspends - 1 } else e
    (busFor s die = true →
      (Fetches s die c 0x15 none (some src) none → goes (.cuCe die src) { next with ce := b.toNat % 8 }
        (chip (b.toNat % 8)) (chanOf (chip (b.toNat % 8)) ch) []) ∧
      (Fetches s die c 0x16 none none (some imm.toNat) → needsCommit (imm.toNat % 256) = false →
        goes (.cuCmd die imm) next own (chanOf own ch) [.bus ch true (BitVec.ofNat 8 (imm.toNat % 256))]) ∧
      (Fetches s die c 0x16 none none (some imm.toNat) → c.committed = true → startsOperation (imm.toNat % 256) = true →
        ∃ t, exec (.cuCmd die imm) s = .next t ∧
        MicroDone die { d with runFromUs := s.clk.us, running := some next } (chanOf own ch)
          [.bus ch true (BitVec.ofNat 8 (imm.toNat % 256))] own t) ∧
      (Fetches s die c 0x16 none none (some imm.toNat) → c.committed = true → resetsDie (imm.toNat % 256) = true →
        exec (.cuCmd die imm) s = .next (updateContext die nextWord
          ((resetTargets (imm.toNat % 256) target).foldl (fun s k => lunReset k s)
            { own with out := .bus ch true (BitVec.ofNat 8 (imm.toNat % 256)) :: own.out }))) ∧
      (Fetches s die c 0x17 none (some src) none → c.committed = true → needsCommit (b.toNat % 256) = false →
        goes (.cuCmdr die src) next own (chanOf own ch) [.bus ch true (BitVec.ofNat 8 (b.toNat % 256))]) ∧
      (Fetches s die c 0x17 none (some src) none → c.committed = true → startsOperation (b.toNat % 256) = true →
        ∃ t, exec (.cuCmdr die src) s = .next t ∧
        MicroDone die { d with runFromUs := s.clk.us, running := some next } (chanOf own ch)
          [.bus ch true (BitVec.ofNat 8 (b.toNat % 256))] own t) ∧
      (Fetches s die c 0x17 none (some src) none → c.committed = true → resetsDie (b.toNat % 256) = true →
        exec (.cuCmdr die src) s = .next (updateContext die nextWord
          ((resetTargets (b.toNat % 256) target).foldl (fun s k => lunReset k s)
            { own with out := .bus ch true (BitVec.ofNat 8 (b.toNat % 256)) :: own.out }))) ∧
      (Fetches s die c 0x18 (some count) (some src) none → 1 ≤ count.val ∧ count.val ≤ 5 →
        goes (.cuAddr die count src) next own (chanOf own ch) ((leBytes count b.toNat).reverse.map (.bus ch false))) ∧
      (Fetches s die c 0x19 none none (some imm.toNat) → parityOk = true ∨ c.committed = true ∨ c.job.kind ≠ .program →
        goes (.cuDout die imm parityOk) { next with fifo := c.fifo.drop imm.toNat }
          { own with free := s.free + (imm.toNat - c.fifo.length) } (chanOf own ch)
          [.dataOut ch (burstBytes s c imm.toNat)]) ∧
      (Fetches s die c 0x1A none none (some imm.toNat) → goes (.cuDin die imm bytes) next own
        { chanOf own ch with zeroBits := some (zeroBitsOf bytes) } [.dataIn ch bytes]) ∧
      (Fetches s die c 0x1B none none (some imm.toNat) →
        goes (.cuWaitc die imm) { next with waitCycles := c.waitCycles + imm.toNat } own (chanOf own ch) []) ∧
      (Fetches s die c 0x1D none none (some imm.toNat) → goes (.cuWaitq die imm)
        { next with waitCycles := c.waitCycles + (Config.qualification d.qual (0x30000 + imm.toNat)).toNat }
        own (chanOf own ch) []) ∧
      (Fetches s die c 0x1F none (some src) (some imm.toNat) →
        goes (.cuSetf die src imm) next own (chanOf own ch) [.busOp ch 0x1F (imm.toNat % 256) b]) ∧
      (Fetches s die c 0x20 (some dst) none (some imm.toNat) →
        goes (.cuGetf die dst imm value) (put value) own (chanOf own ch) [.busOp ch 0x20 (imm.toNat % 256) 0]) ∧
      (Fetches s die c 0x1E none none none → ∃ t, exec (.cuStatr die status) s = .next t ∧
        (∀ k, findDie t k = (findDie s k).map fun e =>
          let e := if k = target then settled e else e
          if k = die.val then { e with running := some { next with regs := c.regs.set 10 (status.setWidth 32) } } else e) ∧
        t = { own with med := { own.med with dies := t.med.dies }, out := .busOp ch 0x1E 0 (readReg s d c 7) :: own.out })) ∧
    (Fetches s die c 0x1C none none (some imm.toNat) →
      goes (.cuWaitu die imm) { next with waitUs := c.waitUs + imm.toNat } u
        { chanOf u ch with bus := if (chanOf u ch).bus = some (die % 32) then none else (chanOf u ch).bus } []) ∧
    (busFor s die = false →
      (Fetches s die c 0x15 none (some src) none → exec (.cuCe die src) s = .next s) ∧
      (Fetches s die c 0x16 none none (some imm.toNat) → needsCommit (imm.toNat % 256) = true → c.committed = true →
        exec (.cuCmd die imm) s = .next s) ∧
      (Fetches s die c 0x1A none none (some imm.toNat) → exec (.cuDin die imm bytes) s = .next s) ∧
      (Fetches s die c 0x1E none none none → exec (.cuStatr die status) s = .next s))

/-- R215, R219, R220, R223, R226: COMMIT, YIELD, PARK, SUSP, RSM, LRST, HUBINC, DONE. A routine that parks or ends
leaves its registers in the context of its die's position, and gives up the bus if it holds it. R216, R217, R219,
R223, R224, R253, R362: TEMP; TRAIN, after which no die of the channel is in service; FAILR, whose failure the code
decides: a rejected job (5) goes back to the front of its queue, an erase that failed its blank check (4) leaves the
check pending, a code without a row of R224 does no more; and a data-out burst of a program before COMMIT that fails
byte parity. Where it rests on log entries 75, 81, 102, 103 and 176 it states the model's choice. -/
def Obligations.MicroRoutineEnds : Prop :=
  (∀ (s : State) (die : Fin 1024) (d : Die) (c : Context) (src : Fin 16) (imm : BitVec 18), Routine s die d c →
    die / 32 < s.med.channels.length →
    let ch : Nat := die / 32
    let u := fetchCorrects ch c.pc s
    let own := assertChip ch c.ce u
    let free : Channel :=
      { chanOf u ch with bus := if (chanOf u ch).bus = some (die % 32) then none else (chanOf u ch).bus }
    let left : Channel := { free with contexts := (chanOf u ch).contexts.set (die % 32) (standingOf c) }
    let next : Context := { c with pc := c.pc + 1 }
    let target := lunTarget s die d c
    let goes (i : Instr) (e : Die) (v : State) (k : Channel) (sent : List Out) : Prop := ∃ t, exec i s = .next t ∧
      MicroDone die e k sent v t
    (Fetches s die c 0x22 none none none → c.committed = false → goes (.cuCommit die)
      { d with runFromUs := s.clk.us, running := some { next with committed := true } } u (chanOf u ch) []) ∧
    (Fetches s die c 0x23 none none (some imm.toNat) → c.committed = true → goes (.cuYield die imm)
      { d with running := some { c with
        pc := if c.request = 0 then c.pc + 1 else imm.toNat
        regs := c.regs.set 11 (BitVec.ofNat 32 c.request), request := 0 } } u free []) ∧
    (Fetches s die c 0x24 none none none → c.committed = true → goes (.cuPark die)
      { d with running := none, parked := some next, parkedUs := s.clk.us, contextSlot := die % 32, readsServed := 0 }
      u left []) ∧
    (busFor s die = true → Fetches s die c 0x25 none none none → c.committed = true → goes (.cuSusp die)
      { d with suspended := suspendKind c.job, suspends := min 8 (d.suspends + 1), running := some next } own
      (chanOf own ch) [.busOp ch 0x25 0 0]) ∧
    (busFor s die = true → Fetches s die c 0x26 none none none → c.committed = true → goes (.cuRsm die)
      { d with suspended := .none, runFromUs := s.clk.us, running := some next } own (chanOf own ch)
      [.busOp ch 0x26 0 0]) ∧
    (busFor s die = true → Fetches s die c 0x27 none none none → c.committed = true →
      exec (.cuLrst die) s = .next (updateContext die nextWord
        (lunReset target { own with out := .busOp ch 0x27 0 (readReg s d c 7) :: own.out })) ∧
      (target = die.val → d.state = .inService → d.parked = none → ∃ t, exec (.cuLrst die) s = .next t ∧
        MicroTold die
          { d with suspended := .none, readsServed := 0, state := .stale, staleLogged := true, running := some next }
          (chanOf own ch) [.busOp ch 0x27 0 (readReg s d c 7)]
          [(0x0504, dieUnit die, evData [(1, 1), (1, 0), (2, d.featureGen), (4, 0)])] own t)) ∧
    (Fetches s die c 0x28 none none (some imm.toNat) → c.committed = true → ∃ t, exec (.cuHubinc die imm) s = .next t ∧
      hubCounter t imm.toNat = hubCounter s imm.toNat + 1 ∧
      (∀ k, k ≠ imm.toNat → hubCounter t k = hubCounter s k) ∧
      findDie t die = some { d with running := some next } ∧
      t = { u with med := { u.med with hubCounters := t.med.hubCounters, dies := t.med.dies } }) ∧
    (Fetches s die c 0x29 none (some src) none →
      let e : Die := { d with
        running := none, abandoned := d.abandoned.filter (· != c.job.id), arrivals := d.arrivals.filter (·.1 != c.job.id) }
      goes (.cuDone die src)
        (if d.parked.isSome then { e with readsServed := d.readsServed + 1 } else { e with suspended := .none, suspends := 0 })
        u left [.routineEnd die true (readReg s d c src)])) ∧
  (∀ (s : State) (die : Fin 1024) (d : Die) (c : Context) (dst : Fin 16) (imm : BitVec 18) (celsius : Int),
    Routine s die d c → die / 32 < s.med.channels.length →
    let ch : Nat := die / 32
    let u := fetchCorrects ch c.pc s
    let own := assertChip ch c.ce u
    let left : Channel := { chanOf u ch with
      bus := if (chanOf u ch).bus = some (die % 32) then none else (chanOf u ch).bus
      contexts := (chanOf u ch).contexts.set (die % 32) (standingOf c) }
    let next : Context := { c with pc := c.pc + 1 }
    let limit : Int := s.thm.dieLimitC
    let e : Die := { d with
      running := none, abandoned := d.abandoned.filter (· != c.job.id), arrivals := d.arrivals.filter (·.1 != c.job.id) }
    let ended : Die :=
      if d.parked.isSome then { e with readsServed := d.readsServed + 1 } else { e with suspended := .none, suspends := 0 }
    (busFor s die = true →
      (Fetches s die c 0x21 (some dst) none none → ∃ t, exec (.cuTemp die dst celsius) s = .next t ∧
        (∃ w, MicroTold die { d with
            temp := celsius, tempUs := s.clk.us
            running := some { next with regs :=
              if 1 ≤ dst.val ∧ dst.val ≤ 10 then c.regs.set dst (BitVec.ofInt 32 celsius) else c.regs } } (chanOf own ch)
            [.busOp ch 0x21 0 0]
            (if limit ≤ celsius ∧ die.val ∉ s.thm.hotDies then
              [(0x0B02, dieUnit die, throttleData s (celsius * 10) 2)] else []) own w ∧
          t = { w with thm := { w.thm with hotDies := t.thm.hotDies } }) ∧
        ∀ k, k ∈ t.thm.hotDies ↔ if k = die.val then limit ≤ celsius ∨ (k ∈ s.thm.hotDies ∧ limit - 3 < celsius)
          else k ∈ s.thm.hotDies) ∧
      (Fetches s die c 0x2B none none (some imm.toNat) → ∃ t, exec (.cuTrain die imm) s = .next t ∧
        (∀ k x, findDie s k = some x → findDie t k = some
          (let y : Die := if k / 32 = ch ∧ x.state ≠ .absent ∧ x.state ≠ .fenced then
            { x with state := .stale, staleLogged := true } else x
          if k = die.val then
            { y with dqDelays := Config.word s.free ++ Config.word (s.free + 1), running := some next } else y)) ∧
        t.out = .busOp ch 0x2B imm.toNat 0 :: own.out ∧ t.free = s.free + 2 ∧
        t = { own with
          med := { own.med with dies := t.med.dies }, evr := t.evr, pins := t.pins, out := t.out, free := t.free }) ∧
      (Fetches s die c 0x19 none none (some imm.toNat) → c.committed = false → c.job.kind = .program →
        ∃ t, exec (.cuDout die imm false) s = .next t ∧
        findDie t die = some { d with running := none, queue := c.job :: d.queue } ∧
        (∀ k, k ≠ die.val → findDie t k = findDie s k) ∧
        chanOf t ch = { chanOf own ch with
          bus := none
          contexts := (chanOf own ch).contexts.set (die % 32) (standingOf c) } ∧
        t.out = .dataOut ch (burstBytes s c imm.toNat) :: own.out ∧
        t = { own with med := t.med, pins := t.pins, st := t.st, evr := t.evr, out := t.out, free := t.free })) ∧
    (Fetches s die c 0x2A none none (some imm.toNat) → ∃ w,
      exec (.cuFailr die imm) s =
        .next (routineFailed die imm.toNat (readReg s d c 13) (readReg s d c 10) c.job w) ∧
      MicroDone die ended left [.routineEnd die false (imm.setWidth 32)] u w) ∧
    (∀ w : State, ∀ time status,
      (imm.toNat = 0 ∨ 6 ≤ imm.toNat → routineFailed die imm.toNat time status c.job w = w) ∧
      (imm.toNat = 5 → ∀ x, findDie w die = some x →
        findDie (routineFailed die imm.toNat time status c.job w) die = some { x with queue := c.job :: x.queue }) ∧
      (imm.toNat = 4 → c.job.kind = .erase → routineFailed die imm.toNat time status c.job w =
        updateSb c.job.superblock (fun b => { b with blankPending := true }) w)))

/-- R223, R227: what no path of a routine may do stops the model: a microword reserved for committed paths before
COMMIT, a second COMMIT, a fifth call, a return with nothing to return to, an address of no byte or of more than five.
Where it rests on log entry 162 it states the model's choice. -/
def Obligations.MicroFaults : Prop :=
  ∀ (s : State) (die : Fin 1024) (d : Die) (c : Context) (count src : Fin 16) (imm : BitVec 18), Routine s die d c →
    (Fetches s die c 0x13 none none (some imm.toNat) → 4 ≤ c.stack.length →
      exec (.cuCall die imm) s = .fault .callDepth) ∧
    (Fetches s die c 0x14 none none none → c.stack = [] → exec (.cuRet die) s = .fault .callStackEmpty) ∧
    (Fetches s die c 0x18 (some count) (some src) none → busFor s die = true → ¬ (1 ≤ count.val ∧ count.val ≤ 5) →
      exec (.cuAddr die count src) s = .fault .addressCount) ∧
    (Fetches s die c 0x22 none none none → c.committed = true → exec (.cuCommit die) s = .fault .commitTwice) ∧
    (c.committed = false →
      (Fetches s die c 0x16 none none (some imm.toNat) → needsCommit (imm.toNat % 256) = true →
        exec (.cuCmd die imm) s = .fault .microwordBeforeCommit) ∧
      (Fetches s die c 0x17 none (some src) none → exec (.cuCmdr die src) s = .fault .microwordBeforeCommit) ∧
      (Fetches s die c 0x23 none none (some imm.toNat) → exec (.cuYield die imm) s = .fault .microwordBeforeCommit) ∧
      (Fetches s die c 0x24 none none none → exec (.cuPark die) s = .fault .microwordBeforeCommit) ∧
      (Fetches s die c 0x25 none none none → exec (.cuSusp die) s = .fault .microwordBeforeCommit) ∧
      (Fetches s die c 0x26 none none none → exec (.cuRsm die) s = .fault .microwordBeforeCommit) ∧
      (Fetches s die c 0x27 none none none → exec (.cuLrst die) s = .fault .microwordBeforeCommit) ∧
      (Fetches s die c 0x28 none none (some imm.toNat) → exec (.cuHubinc die imm) s = .fault .microwordBeforeCommit))

/-- R234, R236, R241 to R246, R249, R251 to R253, R256, R258: where a decode leads at each step of the ladder and with
which offsets the next read senses, what a checked codeword delivers and counts, and how a rebuild ends. R238, R240,
R248, R249, R361: scrub runs while background work may and reads every codeword of its next superblock, the parity
member's among them, each with the offsets the table and the die's drift give: one to visit out of turn, else the
CLOSED one of the lowest stamp not yet read in this cycle; one with a member on a fenced die is relocated. Where it
rests on log entries 104, 105, 106, 107, 108, 177 and 179 it states the model's choice. -/
def Obligations.ReadIntegrity : Prop :=
  (∀ (s : State) (r : UnitRead) (b : Superblock), findSb s r.sb = some b → s.life.phase = .service →
    (∀ c ∈ s.nv.cmds, c.waits = false) →
    let die := readDie b r.off
    let delivered (u : Option Unit4k) : List Cmd := match r.reader with
      | .scrub => s.nv.cmds
      | .host sq cid => s.nv.cmds.map fun c => if c.sq = sq ∧ c.sqe.cid = cid then
          let k := r.lba - sqeLba c.sqe
          match u with
          | some u => { c with got := c.got.set k (some u) }
          | none => { c with failed := some (min r.lba (c.failed.getD r.lba)) }
        else c
    let moved (f : UnitRead → UnitRead) : List UnitRead := s.intg.reads.map fun y => if y = r then f y else y
    let gone := s.intg.reads.erase r
    let counts := s.intg.ladder.modify (r.step - 1) (· + 1)
    let buffered := b.state = .granted ∧ readRow b r.off ∉ b.rowsDone
    let shift (k : Nat) : Option (List Int) :=
      (findDie s die).bind fun d => ((setOrder d)[k]?).map (shiftOffsets d.qual)
    let tried : Nat := if r.step = 0 then 0 else r.sets + 1
    let lost (erased : Nat) := (0x0602, dieUnit die,
      evData [(4, r.sb), (3, r.off), (1, erased + 2 * if r.reader = .scrub then 1 else 0)])
    let guard (f9 : Bool) : BitVec 16 × UnitId × BitVec 64 :=
      (0x0604, blockUnit (if f9 then 5 else 8), evData [(5, r.lba), (1, r.ns), (1, if f9 then 2 else 1), (1, 0)])
    let frame (t : State) : Prop := t = { s with
      nv := { s.nv with cmds := t.nv.cmds }, map := { s.map with sbs := t.map.sbs }
      med := { s.med with dies := t.med.dies }, intg := t.intg, st := t.st, evr := t.evr, pins := t.pins, free := t.free }
    let climbs (told : List (BitVec 16 × UnitId × BitVec 64)) (u : FlashUnit) (t : State) : Prop :=
      Logged (told ++ if r.step = 4 then [lost 0] else []) s t ∧ t.free = s.free ∧
      (r.step ≤ 1 → t.nv = s.nv ∧
        (∀ os, shift tried = some os →
          t.intg.reads = moved (fun y => { y with step := 1, sets := tried, offsets := os }) ∧
          ∃ d e, findDie t die = some d ∧ findDie s die = some e ∧
            d = { e with thresholdIndex := r.index, offsets := os }) ∧
        (shift tried = none → t.intg.reads = moved (fun y => { y with step := 2 }) ∧ t.med = s.med)) ∧
      (r.step = 2 ∨ r.step = 3 → t.intg.reads = moved (fun y => { y with step := y.step + 1 }) ∧ t.nv = s.nv) ∧
      (r.step = 4 → buffered → t.intg.reads = gone ∧ t.nv.cmds = delivered (some u.content)) ∧
      (r.step = 4 → ¬buffered → t.intg.reads = moved (fun y => { y with step := 5 }) ∧ t.nv = s.nv)
    (∀ x : Decode, ladderRead s r.sb r.off = some r →
      let ends (t : State) : Prop := exec (.codewordDecodeDone r.sb r.off x) s = .next t ∧ frame t
      (x.parityStage ≠ 0 → ∃ t lane, ends t ∧ t.intg.reads = s.intg.reads ∧ t.nv = s.nv ∧
        Logged [(0x0605, readStageUnit die x.parityStage,
          evData [(1, 0x80 + x.parityStage), (1, lane), (1, 0), (1, 0), (4, r.lba % 2 ^ 32)])] s t) ∧
      (x.parityStage = 0 → heldUnit b r.off = none ∨ x.erased = true → ∃ t, ends t ∧
        t.intg.reads = moved (fun y => { y with step := 5 }) ∧ t.nv = s.nv ∧ Logged [lost 1] s t) ∧
      (∀ u, x.parityStage = 0 → heldUnit b r.off = some u → x.erased = false → x.ok = false → ∃ t, ends t ∧
        climbs [] u t ∧ t.st = s.st) ∧
      (∀ u, x.parityStage = 0 → heldUnit b r.off = some u → x.erased = false → x.ok = true →
        let good6 := x.f6Ok = true ∧ f6Expected s r u = true
        let good9 := x.f9Ok = true ∧ f9Expected s u = true
        let bits := x.oneToZero + x.zeroToOne
        let deep := 2 ≤ r.step
        (¬good6 → ∃ t, ends t ∧ climbs [guard false] u t ∧ t.st = s.st) ∧
        (good6 → u.content.lost = true → ∃ t, ends t ∧ Logged [guard true] s t ∧ t.intg.reads = gone ∧
          t.nv.cmds = delivered none) ∧
        (good6 → u.content.lost = false → ¬good9 → ∃ t, ends t ∧ climbs [guard true] u t ∧
          ∃ y ∈ t.st.running, y.unit = maceUnit (maceOf (die / 32))) ∧
        (good6 → good9 → ∃ t, ends t ∧ t.intg.reads = gone ∧ t.nv.cmds = delivered (some u.content) ∧
          t.intg.ladder = (if 1 ≤ r.step then counts else s.intg.ladder) ∧ t.st = s.st ∧
          (¬deep → bits ≤ 96 → t.evr = s.evr) ∧
          (deep → r.reader ≠ .scrub → r.sb ∈ t.intg.visit ∧
            Logged [(0x0601, dieUnit die, evData [(4, r.sb), (1, r.step), (1, readPage b r.off), (2, min bits 65535)])] s t) ∧
          ((deep ∧ r.reader = .scrub) ∨ (¬deep ∧ 96 < bits) → ∃ y, findSb t r.sb = some y ∧ y.relocate = true)))) ∧
    (∀ result : Rebuild, rebuildRead s r.sb r.off = some r →
      let ends (t : State) : Prop := exec (.stripeRebuildEnd r.sb r.off result) s = .next t ∧ frame t
      let told (outcome : Nat) (before : State) (t : State) : Prop := t.evr =
        (logSev 0x0603 (if outcome = 0 then 2 else 4) (dieUnit die) (evData [(4, r.sb), (3, r.off), (1, outcome)]) before).evr
      (∀ u, result = .success → heldUnit b r.off = some u → f6Expected s r u = true → f9Expected s u = true →
        ∃ t, ends t ∧ t.intg.reads = gone ∧ t.nv.cmds = delivered (some u.content) ∧
          t.intg.ladder = s.intg.ladder.modify 4 (· + 1) ∧ (∃ y, findSb t r.sb = some y ∧ y.relocate = true) ∧
          (b.relocate = true → told 0 s t)) ∧
      (result = .secondMember → r.reader ≠ .scrub → ∃ t, ends t ∧ t.intg.reads = gone ∧ t.nv.cmds = delivered none ∧ told 1 s t) ∧
      (result = .blankParity → r.reader ≠ .scrub → ∃ t, ends t ∧ t.intg.reads = gone ∧ t.nv.cmds = delivered none ∧
        told 2 s t ∧ ∃ y, findSb t r.sb = some y ∧ y.relocate = true) ∧
      (result = .f6Failed ∨ result = .f9Failed → r.reader ≠ .scrub → ∃ t u, ends t ∧ t.intg.reads = gone ∧
        t.nv.cmds = delivered none ∧ Logged [guard (result = .f9Failed)] s u ∧ told 3 u t) ∧
      (result = .secondMember → r.reader = .scrub → b.relocate = true → ∃ t y, ends t ∧ t.intg.reads = gone ∧ t.nv = s.nv ∧
        told 1 s t ∧ findSb t r.sb = some y ∧
        ∀ u ∈ y.units, u.off = r.off → u.content.lost = true ∧ u.content.guard ≠ guardOf u.content.data))) ∧
  (∀ s : State,
    let closed := s.map.sbs.filter fun b => b.state == .closed
    let open_ := serving s = true ∧ backgroundOpen s = true
    (¬open_ ∨ closed = [] → exec .scrubPatrol s = .next s) ∧
    (open_ → closed ≠ [] → (s.map.sbs.map (·.number)).Nodup → ∃ t b, exec .scrubPatrol s = .next t ∧ b ∈ closed ∧
      let entry (ns lba off : Nat) : UnitRead :=
        { reader := .scrub, ns := ns, lba := lba, sb := b.number, off := off
          step := if dieOut s (readDie b off) then 5 else 0, sets := 0
          index := ((findDie s (readDie b off)).map (readIndex s b)).getD 0xFFFF
          offsets := ((findDie s (readDie b off)).map fun d => offsetsFor d (readIndex s b d)).getD []
          waitsMap := false }
      ((∃ n ∈ s.intg.visit, ∃ x ∈ closed, x.number = n) → b.number ∈ s.intg.visit ∧
        t.intg.patrolled = s.intg.patrolled ∧ b.number ∉ t.intg.visit) ∧
      ((∀ n ∈ s.intg.visit, ∀ x ∈ closed, x.number ≠ n) → t.intg.visit = s.intg.visit ∧
        ((∃ x ∈ closed, x.number ∉ s.intg.patrolled) → b.number ∉ s.intg.patrolled ∧
          t.intg.patrolled = s.intg.patrolled ++ [b.number] ∧
          ∀ x ∈ closed, x.number ∉ s.intg.patrolled → b.closeStamp ≤ x.closeStamp) ∧
        ((∀ x ∈ closed, x.number ∈ s.intg.patrolled) → t.intg.patrolled = [b.number] ∧
          ∀ x ∈ closed, b.closeStamp ≤ x.closeStamp)) ∧
      t.intg.reads = s.intg.reads ++ b.units.map (fun u => entry u.ns u.lba u.off) ++
        b.rowsDone.flatMap (fun row => (List.range 48).map fun j => entry 0 0 (dataSpace b + row * 48 + j)) ∧
      (memberOut s b = false → t.evr = s.evr ∧ t.map = s.map) ∧
      (memberOut s b = true → ∃ y, findSb t b.number = some y ∧ y.relocate = true) ∧
      t = { s with
        intg := t.intg, med := { s.med with dies := t.med.dies }, map := { s.map with sbs := t.map.sbs }
        evr := t.evr, pins := t.pins }))

/-- R261, R262, R266 to R268, R272 to R277, R279: a command slot and what the check of its burst does for its
requester, the row test and its remap, refreshes due, caught up and pulled in, self-refresh in P2, drift and the 64
slices of a re-centring. Where it rests on log entries 111, 112, 113, 114, 115 and 181 it states the model's choice.
-/
def Obligations.DramChannels : Prop :=
  ∀ (s : State) (ch : Fin 16), s.dram.channels.length = 16 →
    let c := dramOf s ch
    let u := dramUnit ch
    let live := c.state = .active ∨ c.state = .recentring
    let dram (y : DramChannel) (t : State) : Prop :=
      dramOf t ch = y ∧ (∀ k, k ≠ (ch : Nat) → dramOf t k = dramOf s k) ∧ t.dram.rate = s.dram.rate
    let chan (y : DramChannel) (i : Instr) : Prop := ∃ t, exec i s = .next t ∧ dram y t ∧
      t = { s with dram := { s.dram with channels := t.dram.channels } }
    let trfc : Nat := if s.dram.capacity = 2 then 380 else 210
    (∀ (ns fifo : Nat) (arrivals : List DramRequest) (check : BurstCheck),
      let i := Instr.dramAccess ⟨ch, ns, arrivals, fifo, check⟩
      let wakes := s.pwr.state = 2 ∧ c.state = .selfRefresh ∧ arrivals ≠ []
      let woken : DramChannel := if wakes then { c with state := .active } else c
      let joined := arrivals.foldl (fun c q => enqueueRequest q c) (passNs trfc ns woken)
      let urgent : Bool := decide (131072 < min 262144 fifo) &&
        joined.queues.any (·.any fun w => requestClass w.req.requester == 0)
      let slot (y : DramChannel) (t : State) : Prop := dram y t ∧ t.dram.fifo = min 262144 fifo ∧ t = { s with
        dram := { s.dram with channels := t.dram.channels, fifo := t.dram.fifo }, st := t.st, evr := t.evr, pins := t.pins }
      (¬live → ¬wakes → exec i s = .next s) ∧
      (live ∨ wakes → pickRequest joined urgent = none → ∃ t, exec i s = .next t ∧ slot joined t ∧ t.st = s.st ∧
        t.evr = s.evr ∧ t.pins = s.pins) ∧
      (∀ bank k w, live ∨ wakes → pickRequest joined urgent = some (bank, k, w) →
        let q := w.req
        let y := issueRequest bank k w joined
        let place : Nat × Nat × Nat × Nat := ((q.rank : Nat), (q.bank : Nat), q.row, q.burst)
        let bad := place ∈ y.poisoned ∨ check = .uncorrectable
        let at_ (code : BitVec 16) (third fourth : Nat) : BitVec 16 × UnitId × BitVec 64 :=
          (code, u, evData [(1, q.rank), (1, q.bank), (1, third), (1, fourth), (4, q.row)])
        let rows : List (Nat × Nat × Nat) :=
          if underTest s u then y.testing else y.testing ++ [((q.rank : Nat), (q.bank : Nat), q.row)]
        let part := if q.requester = .partialWrite then 1 else 0
        let tested (t : State) : Prop := ∃ x ∈ t.st.running, x.unit = u
        (writesWhole q.requester = true → ∃ t, exec i s = .next t ∧
          slot { y with poisoned := y.poisoned.filter (· != place) } t ∧ t.st = s.st ∧ t.evr = s.evr ∧ t.pins = s.pins) ∧
        (writesWhole q.requester = false →
          (check = .clean → ¬bad → ∃ t, exec i s = .next t ∧ slot y t ∧ t.st = s.st ∧ t.evr = s.evr ∧ t.pins = s.pins) ∧
          (∀ symbol, check = .corrected symbol → ¬bad → ∃ t, exec i s = .next t ∧
            slot { y with corrected := min (y.corrected + 1) 65535 } t ∧ Logged [at_ 0x0701 symbol part] s t ∧ t.st = s.st) ∧
          (bad → ∃ v, exec i s = .next (burstFailed q.requester u v) ∧
            slot { y with
              uncorr := min (y.uncorr + 1) 255, testing := rows
              poisoned := if q.requester = .partialWrite then y.poisoned.filter (· != place) ++ [place] else y.poisoned } v ∧
            Logged [at_ 0x0702 (requesterRow q.requester) part] s v ∧ tested v) ∧
          (∀ retryOk, check = .tagMismatch retryOk → ¬bad → ∃ v,
            exec i s = .next (if retryOk then v else burstFailed q.requester u v) ∧
            slot { y with
              cmdErr := min (y.cmdErr + 1) 255, testing := rows, state := .recentring
              slices := if y.state = .active then 0 else y.slices
              cause := if y.state = .active then 4 else y.cause } v ∧
            Logged [at_ 0x0703 (if retryOk then 0 else 1) 0] s v ∧ tested v)))) ∧
    (∀ v : State,
      burstFailed .staging u v = v ∧ burstFailed .partialWrite u v = v ∧ burstFailed .mapRebuild u v = v ∧
      (∀ core : Fin 4, burstFailed (.cloveFetch core) u v = cloveFaultOn core v ∧
        burstFailed (.cloveData core) u v = cloveFaultOn core v) ∧
      (∀ seq k w,
        (v.ord.accepted.find? fun w => w.seq == seq && !w.programmed && decide (k < w.units.length)) = some w →
        let t := burstFailed (.bufferRead seq k) u v
        Logged [(0x0604, blockUnit 0xA, evData [(5, w.lba + k), (1, w.ns), (1, 0), (1, 1)])] v t ∧
        t.ord = { v.ord with accepted := v.ord.accepted.map fun x => if x.seq = seq then
          { x with units := x.units.modify k fun x => ⟨0, guardOf 0 ^^^ 0xFFFFFFFF, x.pi, true⟩ } else x } ∧
        t.str = v.str ∧ t.nv = v.nv ∧ t.map = v.map) ∧
      (∀ sq cid k, burstFailed (.bufferHit sq cid k) u v = { v with nv := { v.nv with cmds := v.nv.cmds.map fun x =>
        if x.sq = sq ∧ x.sqe.cid = cid ∧ x.stage = .running ∧ x.waits = false ∧ k ∈ x.hits then
          { x with failed := some (min (sqeLba x.sqe + k) (x.failed.getD (sqeLba x.sqe + k))) } else x } }) ∧
      (∀ seg, seg ∉ v.map.mapLost → v.map.mapLost.length < 4096 →
        burstFailed (.mapEngine seg) u v = { v with map := { v.map with mapLost := v.map.mapLost ++ [seg] } }) ∧
      (∀ seg, seg ∉ v.map.mapLost → 4096 ≤ v.map.mapLost.length →
        burstFailed (.mapEngine seg) u v = hubReset 0x0702 u v)) ∧
    (∀ (rank : Fin 2) (bank : Fin 16) (row : Nat) (pass : Bool),
      let key : Nat × Nat × Nat := ((rank : Nat), (bank : Nat), row)
      let i := Instr.dramRowTestDone ch rank bank row pass
      let trigger := ((s.st.running.find? fun t => t.unit == u).map (·.trigger)).getD 0
      let joined := ∃ x ∈ s.st.running, x.unit = u ∧ x.joined = true
      let off : DramChannel := { c with testing := c.testing.filter (· != key) }
      let st : SelfTests := { s.st with running := s.st.running.filter fun t => t.unit != u }
      (key ∉ c.testing → exec i s = .next s) ∧
      (key ∈ c.testing → (∀ x ∈ s.st.waiting, x.unit ≠ u) →
        (pass = true → ¬joined → recentTransients { s with st := st } u < 2 → ∃ t, exec i s = .next t ∧ dram off t ∧
          Logged [(0x0E01, u, evData [(2, u.toNat), (2, trigger.toNat),
            (1, recentTransients { s with st := st } u + 1), (1, 0), (2, 200)])] s t ∧
          t.st = { st with transients := (u, s.clk.us) :: s.st.transients } ∧
          t = { s with dram := { s.dram with channels := t.dram.channels }, st := t.st, evr := t.evr, pins := t.pins }) ∧
        (pass = false ∨ joined → c.remaps.length < 64 → ∃ t, exec i s = .next t ∧
          dram { off with remaps := c.remaps ++ [((rank : Nat), (bank : Nat), row, s.dram.spareRows)] } t ∧
          t = { s with
            dram := { s.dram with channels := t.dram.channels, spareRows := s.dram.spareRows + 1 }, st := st }) ∧
        (pass = false ∨ joined → 64 ≤ c.remaps.length → ∃ v, dram off v ∧ v = { s with
            dram := { s.dram with channels := v.dram.channels }, st := st } ∧
          exec i s = .next (lastingFault u trigger 4 v)))) ∧
    (∀ (rank : Fin 2) (ns : Nat) (hot : Bool),
      let due := Instr.refreshDue ch rank ns hot
      let catchUp := Instr.refreshCatchUp ch rank ns
      let y := passNs trfc ns c
      let e := updateRank rank (fun x => { x with hot := hot, forced := false }) y
      let x := rankOf e rank
      let others (c : DramChannel) : Prop := 0 < (rankOf c (1 - rank)).blocked
      let pressed := 131072 < s.dram.fifo ∨ rankQueued e rank true = true ∨ others e
      (¬live → exec due s = .next s ∧ exec catchUp s = .next s) ∧
      (live →
        (pressed → 0 < x.ahead → chan (updateRank rank (fun x => { x with ahead := x.ahead - 1 }) e) due) ∧
        (pressed → x.ahead = 0 → x.pending < 8 → chan (updateRank rank (fun x => { x with pending := x.pending + 1 }) e) due) ∧
        (pressed → x.ahead = 0 → 8 ≤ x.pending → others e →
          chan (updateRank rank (fun x => { x with owed := true }) e) due) ∧
        (pressed → x.ahead = 0 → 8 ≤ x.pending → ¬others e → chan (updateRank rank
          (fun x => { x with owed := false, forced := true }) (issueRefresh rank (trfc + 21) e)) due) ∧
        (¬pressed → rankQueued e rank false = true ∨ x.pending ≠ 0 → chan (issueRefresh rank trfc e) due) ∧
        (¬pressed → rankQueued e rank false = false → x.pending = 0 → chan (updateRank rank
          (fun x => { x with ahead := 8 }) (issueRefresh rank ((9 - x.ahead) * trfc) e)) due) ∧
        ((rankOf y rank).pending = 0 ∨ rankQueued y rank false = true ∨ others y → chan y catchUp) ∧
        ((rankOf y rank).pending ≠ 0 → rankQueued y rank false = false → ¬others y → chan (updateRank rank
          (fun x => { x with pending := 0 }) (issueRefresh rank ((rankOf y rank).pending * trfc) y)) catchUp))) ∧
    (let enters := s.life.phase = .service ∧ s.pwr.state = 2 ∧ c.state = .active ∧ ∀ q ∈ c.queues, q = []
      let rest (x : DramRank) : DramRank := { x with pending := 0, ahead := 0, owed := false, forced := false }
      (enters → chan { c with
        state := .selfRefresh, rank0 := rest c.rank0, rank1 := rest c.rank1, rows := List.replicate 32 none }
        (.selfRefreshEntry ch)) ∧
      (¬enters → exec (.selfRefreshEntry ch) s = .next s)) ∧
    (∀ (rank : Fin 2) (drift celsius : Int),
      let i := Instr.dramDriftCheck ch rank drift celsius
      let works := s.life.phase = .service ∧ s.pwr.state ≤ 2 ∧ c.state = .active
      (¬works → exec i s = .next s) ∧
      (works →
        (8 ≤ drift.natAbs →
          chan { c with state := .recentring, slices := 0, cause := 2, drift := drift, centredAt := celsius } i) ∧
        (drift.natAbs < 8 → 20 ≤ (celsius - c.centredAt).natAbs →
          chan { c with state := .recentring, slices := 0, cause := 3, centredAt := celsius } i) ∧
        (drift.natAbs < 8 → (celsius - c.centredAt).natAbs < 20 →
          (3 ≤ drift.natAbs → chan (updateRank rank (fun x => { x with driftDue := some drift }) c) i) ∧
          (drift.natAbs < 3 → exec i s = .next s)))) ∧
    (∀ (rank : Fin 2) (ns : Nat) (sweeps : List LaneSweep),
      let i := Instr.recentringSlice ch rank ns sweeps
      let y := passNs trfc ns c
      let x := rankOf y rank
      let least := if s.dram.rate = 1 then 29 else 26
      let width (l : Nat) : Nat := laneWindow 33 (sweeps.getD l ⟨0, 0⟩)
      let narrow := min (width 0) (width 1)
      let held := y.state ≠ .recentring ∨ x.forced = true ∨ x.owed = true ∨ 131072 < s.dram.fifo
      let sliced : DramChannel :=
        updateRank rank (fun x => { x with blocked := max x.blocked 400 }) { y with slices := y.slices + 1 }
      let ended : DramChannel := { sliced with
        state := .active, slices := 0, window := narrow, drift := 0
        lanes := y.lanes.mapIdx fun l d => centreLane least y.drift (sweeps.getD l ⟨0, 0⟩) d }
      let told (sev lane : Nat) (v : State) : Prop := v.evr = (logSev 0x0704 sev u (evData [(1, y.cause), (1, lane),
        (1, narrow), (1, s.dram.rate), (1, (y.drift % 256).toNat), (3, 0)]) s).evr
      (held → chan y i) ∧
      (¬held → y.slices < 63 → chan sliced i) ∧
      (¬held → 63 ≤ y.slices →
        (least ≤ narrow → ∃ t, exec i s = .next t ∧ told 1 0xFF t ∧ dram ended t ∧
          t = { s with dram := { s.dram with channels := t.dram.channels }, evr := t.evr, pins := t.pins }) ∧
        (narrow < least → recentTransients s u < 2 → ∃ t v, exec i s = .next t ∧
          told 4 (2 * (ch : Nat) + if width 0 ≤ width 1 then 0 else 1) v ∧ dram ended t ∧
          Logged [(0x0E01, u, evData [(2, u.toNat), (2, 0x0704), (1, recentTransients s u + 1), (1, 0), (2, 0)])] v t ∧
          t = { s with
            dram := { s.dram with channels := t.dram.channels }, evr := t.evr, pins := t.pins
            st := { s.st with transients := (u, s.clk.us) :: s.st.transients } })))

/-- R281 to R284, R289 to R294, R388: the scrubber corrects one wrong bit where it lies, poisons a block it cannot
correct and has its region tested, in the Mace tables by SECDED; a region that fails takes a spare while one is left;
the flip mask is armed only in diagnostic mode and for positions that exist. Where it rests on log entries 61, 116,
117, 118, 121 and 182 it states the model's choice. -/
def Obligations.SramProtection : Prop :=
  ∀ s : State,
    let bump (n m : Nat) : Nat := min (n + 1) m
    (∀ (bank block : Nat) (flipped : List (Fin 585)),
      let i := Instr.sramScrubRead bank block flipped
      let runs := s.life.phase = .service ∧ s.life.fwStart = true ∧ s.pwr.state ≤ 2
      let mace := 0x80 ≤ bank ∧ bank ≤ 0x83
      let swept : Sram := if bank = 0x70 ∧ block = 63
        then { s.sram with scrubBusy := false, sweeps := bump s.sram.sweeps 65535, sweptAt := some s.clk.us }
        else { s.sram with scrubBusy := true }
      let b := flipped.foldl (fun b p => flipAt p b) ((findBlock s bank block).getD (emptyBlock bank block))
      let frame (t : State) : Prop := t = { s with sram := t.sram, st := t.st, evr := t.evr, pins := t.pins }
      (¬runs ∨ (¬mace ∧ bankBytes bank / 64 ≤ block) → exec i s = .next s) ∧
      (runs → ¬mace → block < bankBytes bank / 64 → (bank = 0x70 → findBlock s bank block ≠ none) →
        (b.poison = true → exec i s = .next { s with sram := swept }) ∧
        (b.poison = false →
          (gridCheck b = .intact → ∃ t, exec i s = .next t ∧ (∀ k, k ≠ block → findBlock t bank k = findBlock s bank k) ∧
            t = { s with sram := { swept with blocks := t.sram.blocks } }) ∧
          (∀ p, gridCheck b = .corrected p → ∃ t, exec i s = .next t ∧
            Logged [(0x0801, bankUnit bank, evData [(4, block), (2, p), (1, 1 + 2 * if b.injected then 1 else 0), (1, 0)])] s t ∧
            t = { s with
              sram := { swept with
                blocks := t.sram.blocks, corrected := bump s.sram.corrected 0xFFFFFFFF, lastBank := bank
                lastUncorr := false, lastScrub := true, lastInjected := b.injected, lastBlock := block }
              evr := t.evr, pins := t.pins }) ∧
          (∀ r c, gridCheck b = .uncorrectable r c → bank = 0x70 → b.bank = bank → b.block = block →
            ∃ t x, exec i s = .next t ∧ findBlock t bank block = some x ∧ x = { b with poison := true } ∧
              Logged [(0x0802, bankUnit bank,
                evData [(4, block), (1, r), (1, c), (1, 1 + 2 * if b.injected then 1 else 0), (1, 5)])] s t ∧
              t.sram.uncorr = bump s.sram.uncorr 65535 ∧ t.sram.lastUncorr = true ∧ t.sram.lastBlock = block ∧
              (b.injected = false → ∃ y ∈ t.st.running, y.unit = bankUnit bank) ∧ (b.injected = true → t.st = s.st) ∧
              frame t))) ∧
      (runs → mace →
        (flipped = [] → exec i s = .next s) ∧
        (∀ p, flipped = [p] → ∃ t, exec i s = .next t ∧
          Logged [(0x0801, bankUnit bank, evData [(4, block), (2, p), (1, 1), (1, 0)])] s t ∧
          t = { s with
            sram := { s.sram with corrected := bump s.sram.corrected 0xFFFFFFFF }, evr := t.evr, pins := t.pins }) ∧
        (∀ p q f, flipped = p :: q :: f → ∃ t, exec i s = .next t ∧ t.sram.uncorr = bump s.sram.uncorr 65535 ∧
          (∃ y ∈ t.st.running, y.unit = bankUnit bank) ∧
          t = { s with
            sram := t.sram, st := t.st, med := { s.med with dies := t.med.dies }, evr := t.evr, pins := t.pins
            free := s.free + 2 }))) ∧
    (∀ (bank region : Nat) (pass : Bool),
      let i := Instr.regionTestDone bank region pass
      let u := bankUnit bank
      let key : RegionTest := ⟨bank, region⟩
      let joined := ∃ x ∈ s.st.running, x.unit = u ∧ x.joined = true
      let st : SelfTests := { s.st with running := s.st.running.filter fun t => t.unit != u }
      let off : Sram := { s.sram with tests := s.sram.tests.filter fun t => t != key }
      let spares := if 65536 ≤ bankBytes bank then 8 else 1
      (key ∉ s.sram.tests → exec i s = .next s) ∧
      (key ∈ s.sram.tests → (∀ x ∈ s.st.waiting, x.unit ≠ u) →
        (pass = true → ¬joined → recentTransients s u < 2 → ∃ t, exec i s = .next t ∧
          Logged [(0x0E01, u, evData [(2, u.toNat), (2, 0x0802), (1, recentTransients s u + 1), (1, 0), (2, 50)])] s t ∧
          t = { s with
            sram := off, st := { st with transients := (u, s.clk.us) :: s.st.transients }, evr := t.evr, pins := t.pins }) ∧
        (pass = false ∨ joined →
          (bankSparesUsed s bank < spares → exec i s = .next { s with
            st := st, sram := { off with
              spares := (bank, bankSparesUsed s bank + 1) :: s.sram.spares.filter fun x => x.1 != bank } }) ∧
          (spares ≤ bankSparesUsed s bank → exec i s = .next (bankFailed bank
            (lastingFault u 0x0802 2 { s with st := st, sram := off })))))) ∧
    (∀ value : BitVec 32,
      let u := wakeByAccess s
      let known := (value.getLsbD 10 = true → value.toNat % 1024 ≤ 584) ∧
        (value.getLsbD 26 = true → value.toNat / 65536 % 1024 ≤ 584)
      (s.life.phase ≠ .service → exec (.srpFlipArm value) s = .next s) ∧
      (s.life.phase = .service →
        (diagnostic u = true → known → exec (.srpFlipArm value) s = .next
          { u with sram := { u.sram with flipMask := value &&& 0x87FF07FF } }) ∧
        (diagnostic u = false ∨ ¬known → exec (.srpFlipArm value) s = .next u)))

/-- R300, R301, R305, R306, R309, R310, R369: an operation of a bank is suspended for a stalled fetch, which leaves
the read open, and goes on after the gap or the limit; its end programs DONE, protects the sector, and, with a status
failure, has the sector tested; an unfinished sector is erased again after capture-ready. Where it rests on log
entries 122, 123, 124 and 182 it states the model's choice. -/
def Obligations.FlashOperations : Prop :=
  ∀ (s : State) (b : Bool),
    let works := s.life.phase = .service ∨ s.life.phase = .recovery
    let banks (o : Option NorOp) (t : State) : Prop := bankOp t b = o ∧ bankOp t (!b) = bankOp s (!b)
    exec .norContinuousReadTimeout s = .next { s with nor := { s.nor with cont := none } } ∧
    (bankOp s b = none → (∀ stall who, exec (.norAutoSuspend b stall who) s = .next s) ∧
      (∀ ok, exec (.norOperationDone b ok) s = .next s) ∧
      exec (.norIdleResume b) s = .next s ∧ exec (.norForcedResume b) s = .next s) ∧
    (∀ o, bankOp s b = some o →
      (∀ stall who : Nat,
        let i := Instr.norAutoSuspend b stall who
        let code := if o.kind = .program then 1 else 2
        (¬works ∨ o.suspended = true → exec i s = .next s) ∧
        (works → o.suspended = false → ∃ t, exec i s = .next t ∧
          banks (some { o with suspended := true, suspends := min (o.suspends + 1) 63 }) t ∧
          t.nor.autoSuspends = min (s.nor.autoSuspends + 1) 65535 ∧ t.nor.cont = some b ∧
          (o.suspends = 0 → Logged [(0x0902, sectorUnit o.sector, evData [(1, code), (1, if b then 1 else 0),
            (2, min stall 65535), (1, who), (3, 0)])] s t) ∧
          (o.suspends ≠ 0 → Logged [] s t) ∧
          t = { s with
            nor := { s.nor with
              opA := t.nor.opA, opB := t.nor.opB, lastOp := bankOp t b, autoSuspends := t.nor.autoSuspends, cont := some b }
            evr := t.evr, pins := t.pins })) ∧
      (∀ i ∈ [Instr.norIdleResume b, Instr.norForcedResume b],
        (¬works ∨ o.suspended = false → exec i s = .next s) ∧
        (works → o.suspended = true → ∃ t, exec i s = .next t ∧ banks (some { o with suspended := false }) t ∧
          t = { s with nor := { s.nor with
            opA := t.nor.opA, opB := t.nor.opB, lastOp := bankOp t b
            cont := if s.nor.cont = some b then none else s.nor.cont } })) ∧
      (∀ ok : Bool,
        let i := Instr.norOperationDone b ok
        let left := s.nor.unfinished.filter (· != o.sector)
        let next := if s.life.phase = .service ∧ s.life.captureReady = true
          then left.find? (fun n => inBankB n == b || (bankOp s (inBankB n)).isNone) else none
        (¬works ∨ o.suspended = true → exec i s = .next s) ∧
        (works → o.suspended = false → ∃ t, exec i s = .next t ∧
          t.nor.unfinished = left ∧
          (ok = false → ∃ x ∈ t.st.running, x.unit = sectorUnit o.sector) ∧ (ok = true → t.st = s.st) ∧
          (next = none → banks none t ∧ o.sector ∉ t.nor.writable ∧ (∀ n, n ≠ o.sector → (n ∈ t.nor.writable ↔ n ∈ s.nor.writable)) ∧
            (o.kind ≠ .erase → t.nor.flags = s.nor.flags) ∧ t.nor.cont = s.nor.cont) ∧
          (∀ n, next = some n → ∃ p, (flagsOf t n, p) = programStart (flagsOf s n) ∧
            bankOp t (inBankB n) = some ⟨.erase, n, false, 0, p⟩ ∧ n ∈ t.nor.writable ∧ o.sector ∉ t.nor.writable) ∧
          (∀ k, o.kind = .erase → currentRow (flagsOf s o.sector) = some k →
            let old := rowOfFlags (flagsOf s o.sector) k
            let new := rowOfFlags (flagsOf t o.sector) k
            new = old.set (3 + 2 * o.pair) 0 ∧
            rowOfFlags (flagsOf t o.sector) (1 - k) = rowOfFlags (flagsOf s o.sector) (1 - k) ∧
            (old.length = 18 → lastPair old = some o.pair → unfinishedAt (flagsOf t o.sector) = none)) ∧
          t = { s with nor := t.nor, st := t.st })))

/-- R137, R139, R370 to R372, R378: SELF_TEST starts at once or waits for the test that runs, and with another live on
the unit answers BUSY_RETRY; UNIT_READMIT is for fenced units; UNIT_STATUS reports; a test that ends passes or fails
its unit by what started it. Where it rests on log entries 95, 125, 149 and 179 it states the model's choice. -/
def Obligations.UnitTests : Prop :=
  ∀ s : State,
    (∀ m : Fin 16,
      let u : UnitId := BitVec.ofNat 16 (reqField s m 8 2)
      let fenced := ∃ f ∈ s.st.fenced, f.1 = u
      let busy := ∃ h ∈ s.hnd.live, (h.opcode = 0x0090 ∨ h.opcode = 0x0092) ∧ h.subject = u.toNat
      let running := ∃ x ∈ s.st.running, x.unit = u
      let demands (op : BitVec 16) (again : Bool) (s' : State) : Prop := ∃ t v w,
        exec (if again then .unitReadmit m else .selfTest m) s = .next t ∧
        (running → Accepted m op false u.toNat 0 v s w t ∧
          w.st = { s.st with waiting := s.st.waiting ++ [⟨u, 0, true, some v, again, false, none⟩] }) ∧
        (¬running → Accepted m op true u.toNat 0 v s w t ∧
          w.st = { s.st with running := s.st.running ++ [⟨u, 0, true, some v, again, false, none⟩] }) ∧
        w = { s' with st := w.st, hnd := w.hnd, free := s'.free + 1 }
      (Asked m 0x0090 s → freeSlots s ≠ [] →
        (busy → ∃ t, exec (.selfTest m) s = .next t ∧ Replied m stBusyRetry [] s t) ∧
        (¬busy → unitClass u ≠ 9 ∨ executeOnly s (unitIndex u) = false → demands 0x0090 false s) ∧
        (¬busy → unitClass u = 9 → executeOnly s (unitIndex u) = true → ∃ r : State,
          Logged [(0x0903, u, evData [(1, (Config.word (s.free + 1)).toNat % 256), (1, 1), (2, 0), (4, 0)])] s r ∧
          r = { s with
            nor := { s.nor with xoReads := min (s.nor.xoReads + 1) 255 }
            evr := r.evr, pins := r.pins, free := s.free + 1 } ∧ demands 0x0090 false r)) ∧
      (Asked m 0x0092 s →
        (¬fenced → ∃ t, exec (.unitReadmit m) s = .next t ∧ Replied m stWrongState [] s t) ∧
        (fenced → freeSlots s ≠ [] → busy →
          ∃ t, exec (.unitReadmit m) s = .next t ∧ Replied m stBusyRetry [] s t) ∧
        (fenced → freeSlots s ≠ [] → ¬busy → demands 0x0092 true s)) ∧
      (Asked m 0x0091 s → ∃ t code gen, exec (.unitStatus m) s = .next t ∧
        Replied m stOk (leBytes 1 code ++ leBytes 1 (min 255 (recentTransients s u)) ++ leBytes 2 gen ++
          leBytes 2 (((s.st.lastEvent.find? fun e => e.1 == u).map (·.2.toNat)).getD 0) ++ [0, 0] ++
          leBytes 8 (((s.st.fenced.find? fun f => f.1 == u).map (·.2)).getD 0)) s t ∧
        (fenced → code = 1) ∧
        (∀ d, ¬fenced → unitClass u = 3 → findDie s (unitIndex u) = some d → gen = d.featureGen ∧
          (d.state = .inService → code = 0) ∧ (d.state = .stale → code = 2) ∧ (d.state = .gated → code = 3) ∧
          (d.state = .absent → code = 4)) ∧
        (¬fenced → unitClass u = 2 → gen = (chanOf s (unitIndex u)).generation ∧
          code = if (chanOf s (unitIndex u)).state = .gated then 3 else 0))) ∧
    (∀ (u : UnitId) (pass : Bool) (us : Nat),
      let i := Instr.selfTestEnd u pass us
      ((∀ x ∈ s.st.running, x.unit ≠ u) → exec i s = .next s) ∧
      (∀ x, (s.st.running.find? fun x => x.unit == u) = some x →
        let ok := pass && !x.joined
        let left : State := { s with st := { s.st with running := s.st.running.filter fun x => x.unit != u } }
        let base : State := if ok = false then left
          else if u = blockUnit 0x26 then { left with pwr := { s.pwr with pllBad := 0 } }
          else if unitClass u = 3 then updateDie (unitIndex u) (fun d => { d with timeouts := 0 }) left else left
        (x.demanded = false → unitClass u = 4 ∨ unitClass u = 7 → exec i s = .next s) ∧
        (x.demanded = true ∨ (unitClass u ≠ 4 ∧ unitClass u ≠ 7) →
          (s.life.stop ≠ none → exec i s = .next { s with st := { s.st with running := s.st.running.map fun x =>
            if x.unit = u then { x with verdict := some (ok, us) } else x } }) ∧
          (s.life.stop = none → (∀ y ∈ s.st.waiting, y.unit ≠ u) →
            (x.readmit = false → x.demanded = false → ok = true → recentTransients s u < 2 → ∃ t, exec i s = .next t ∧
              Logged [(0x0E01, u, evData [(2, u.toNat), (2, x.trigger.toNat), (1, recentTransients s u + 1), (1, 0),
                (2, us)])] s t ∧
              t = { base with
                st := { left.st with transients := (u, s.clk.us) :: s.st.transients }, evr := t.evr, pins := t.pins }) ∧
            (x.readmit = false → x.demanded = false → ok = false →
              exec i s = .next (lastingFault u x.trigger 0 base)) ∧
            (∀ v, x.readmit = false → x.demanded = true → x.handle = some v →
              let told := completeHandle v stOk (ringData [(1, if ok then 0 else 1), (3, 0), (4, us)]) base
              exec i s = .next (if ok then told else lastingFault u x.trigger 0 told)) ∧
            (∀ v, x.readmit = true → x.handle = some v →
              (ok = true → ∃ w code, exec i s = .next (completeHandle v stOk (ringData [(1, code)]) w) ∧
                w.st = { left.st with
                  fenced := s.st.fenced.filter fun f => f.1 != u, transients := s.st.transients.filter fun f => f.1 != u } ∧
                (config w).fenced = (config s).fenced.filter (· != u) ∧
                (∀ d, unitClass u = 3 → findDie s (unitIndex u) = some d →
                  ∃ y, findDie w (unitIndex u) = some y ∧ y.state = .stale ∧ code = 2) ∧
                w = { base with
                  ord := w.ord, map := w.map, med := w.med, thm := w.thm, nor := { s.nor with
                    config0 := w.nor.config0, config1 := w.nor.config1, flags := w.nor.flags }
                  st := w.st, evr := w.evr, pins := w.pins, free := w.free }) ∧
              (ok = false → ∃ w, exec i s = .next (completeHandle v stMediaFailed 0 w) ∧
                Logged [(0x0E02, u, evData [(2, u.toNat), (2, x.trigger.toNat), (1, 3), (1, 0), (2, healthyDies s)])] s w ∧
                w = { left with evr := w.evr, pins := w.pins }))))))

/-- R379 to R381, R384 to R386: an event takes a token of its code, or is withheld; the FIFO holds 64 and an overflow
begins with the first loss; a drained record gets the next number and its slot, and what a poisoned slot cannot take
is lost; tiers 1 and 2 are copied from what tier 0 holds. R137, R349, R382, R384: EVENT_READ answers records of a tier
in the order of their numbers and the number to ask for next; EVENT_RATE_SET changes one bucket, or with 0xFFFF all
back to the default; STATS_READ answers the counters. Where it rests on log entries 150, 151 and 153 it states the
model's choice. -/
def Obligations.EventRecorder : Prop :=
  (∀ s : State,
    let sat16 (n : Nat) := min n 65535
    (∀ (code : BitVec 16) (unit : UnitId) (data : BitVec 64),
      let b := bucketOf s.evr code
      let t := logEvent code unit data s
      let held := severityOf code < 5 ∧ b.tokens = 0
      (∀ c, c ≠ code → bucketOf t.evr c = bucketOf s.evr c) ∧
      (held → bucketOf t.evr code = { b with suppressed := sat16 (b.suppressed + 1) } ∧
        t = { s with evr := { s.evr with buckets := t.evr.buckets }, pins := t.pins }) ∧
      (¬held → s.evr.fifo.length < 64 → bucketOf t.evr code = { b with tokens := b.tokens - 1, suppressed := 0 } ∧
        t = { s with
          evr := { s.evr with
            buckets := t.evr.buckets
            fifo := s.evr.fifo ++ [⟨code, severityOf code, unit, data, s.clk.us, false, b.suppressed⟩] }
          pins := t.pins }) ∧
      (¬held → 64 ≤ s.evr.fifo.length → bucketOf t.evr code = { b with tokens := b.tokens - 1 } ∧
        t = { s with
          evr := { s.evr with
            buckets := t.evr.buckets, lost := sat16 (s.evr.lost + 1), lostTotal := min (s.evr.lostTotal + 1) 0xFFFFFFFF
            overflow := true, episodes := if s.evr.overflow = true then s.evr.episodes else sat16 (s.evr.episodes + 1)
            overflowDue := if s.evr.overflow = true then s.evr.overflowDue else some (code, unit) }
          pins := t.pins }) ∧
      (∀ (p : Pin) (k : Nat), s.pins[k]? = some p → ∃ q, t.pins[k]? = some q ∧
        q = if p.function = 8 ∧ p.arg.toNat ≤ severityOf code then { p with faultDue := true } else p)) ∧
    (∀ code : BitVec 16,
      let b := bucketOf s.evr code
      ∃ t, exec (.eventTokenRefill code) s = .next t ∧ (∀ c, c ≠ code → bucketOf t.evr c = bucketOf s.evr c) ∧
        bucketOf t.evr code = (if b.rate = 0 then b else { b with tokens := min b.burst (b.tokens + 1) }) ∧
        t = { s with evr := { s.evr with buckets := t.evr.buckets } }) ∧
    (let runs := s.life.phase = .service ∨ s.life.phase = .recovery ∨ s.life.phase = .manufacturing ∨
        s.life.phase = .lossFlush ∨ s.life.phase = .haltFlush;
      (¬runs ∨ s.evr.fifo = [] → exec .eventFifoDrain s = .next s) ∧
      ∀ e rest, runs → s.evr.fifo = e :: rest → s.evr.mode ≠ .lastWords →
        let reserve := s.evr.mode == .reserve
        let bank := if reserve then 0x61 else 0x60
        let slot := s.evr.next.toNat % (if reserve then 64 else 32768)
        let x : Record := ⟨s.evr.next, { e with deferred := e.deferred || decide (e.us < s.clk.us) }, s.evr.lost, reserve,
          s.life.bootRecordDue⟩
        (armed s bank = false → findBlock s bank (slot / 2) = none → ∃ t, exec .eventFifoDrain s = .next t ∧
          t.evr.ring = (x :: s.evr.ring).take 32768 ∧
          (s.evr.overflowDue = none → t.evr.fifo = rest ∧ t.evr.overflow = (s.evr.overflow && !rest.isEmpty)) ∧
          (∀ code unit, s.evr.overflowDue = some (code, unit) → rest.length < 64 → t.evr.overflow = s.evr.overflow ∧
            t.evr.overflowDue = none ∧ t.evr.fifo = rest ++ [⟨0x0D02, 3, blockUnit 0x25,
              evData [(2, code.toNat), (2, unit.toNat), (4, 0)], s.clk.us, false, 0⟩]) ∧
          t = { s with
            evr := { s.evr with
              ring := t.evr.ring, next := s.evr.next + 1, lost := 0, fifo := t.evr.fifo, overflow := t.evr.overflow
              overflowDue := t.evr.overflowDue }
            life := { s.life with bootRecordDue := false } }) ∧
        (slotPoisoned s bank slot = true → poisonedIn s 0x60 ≤ 64 → s.evr.overflowDue = none → ∃ t,
          exec .eventFifoDrain s = .next t ∧ t.evr.ring = s.evr.ring ∧ t.evr.next = s.evr.next + 1 ∧
          t.evr.lost = sat16 (s.evr.lost + 1) ∧ t.evr.lostTotal = min (s.evr.lostTotal + 1) 0xFFFFFFFF ∧
          t.evr.fifo = rest ∧ t.life = s.life ∧
          (bucketOf t.evr e.code).suppressed = sat16 ((bucketOf s.evr e.code).suppressed + e.suppressed) ∧
          t = { s with evr := t.evr })) ∧
    (serving s = false → exec .eventLogCopy s = .next s ∧ exec .eventHistoryPage s = .next s) ∧
    (serving s = true → s.evr.log.length + (tier0 s).length ≤ 131072 → ∃ t, exec .eventLogCopy s = .next t ∧
      t.evr.copied = s.evr.next ∧ (∀ x ∈ s.evr.log, x ∈ t.evr.log) ∧
      (∀ x ∈ t.evr.log, x ∈ s.evr.log ∨ (x ∈ tier0 s ∧ atOrAfter x.seq s.evr.copied = true ∧ 2 ≤ x.event.severity)) ∧
      (∀ x ∈ tier0 s, atOrAfter x.seq s.evr.copied = true → 2 ≤ x.event.severity → ∃ y ∈ t.evr.log, y.seq = x.seq) ∧
      t = { s with evr := { s.evr with log := t.evr.log, copied := s.evr.next } }) ∧
    (let due := (tier0 s).reverse.filter fun x => atOrAfter x.seq s.evr.paged && decide (1 ≤ x.event.severity);
      serving s = true →
        (s.life.captureReady = false ∨ due = [] → exec .eventHistoryPage s = .next s) ∧
        (∀ x, s.life.captureReady = true → (due.take 512).getLast? = some x → ∃ t, exec .eventHistoryPage s = .next t ∧
          t.evr.history = ((due.take 512).reverse ++ s.evr.history).take 33554432 ∧
          (∃ y ∈ t.evr.log, atOrAfter y.seq x.seq = true) ∧
          t.evr.paged = (if due.length ≤ 512 then s.evr.next else x.seq + 1) ∧
          t = { s with evr := { s.evr with log := t.evr.log, history := t.evr.history, paged := t.evr.paged } }))) ∧
  (∀ (s : State) (m : Fin 16),
    let p := reqField s m
    (waitsFor s m 0x0080 = true → serving s = true ∨ (s.life.phase = .recovery ∧ (m : Nat) = 0) → s.mbx.box.length = 16 →
      let held := match p 14 1 with
        | 0 => tier0 s
        | 1 => s.evr.log
        | _ => s.evr.history
      let found := (held.reverse.filter fun x =>
        atOrAfter x.seq (BitVec.ofNat 32 (p 8 4)) && decide (p 13 1 ≤ x.event.severity)).take (p 12 1)
      ∃ t next, exec (.eventRead m) s = .next t ∧
        Replied m stOk (leBytes 1 found.length ++ [0, 0, 0] ++ leBytes 4 next ++ found.flatMap recordBytes32) s t ∧
        (∀ x, found.getLast? = some x → found.length = p 12 1 → next = (x.seq + 1).toNat) ∧
        (found.length < p 12 1 → p 14 1 = 0 → next = s.evr.next.toNat) ∧
        (∀ x, found.length < p 12 1 → p 14 1 ≠ 0 → held.head? = some x → next = (x.seq + 1).toNat)) ∧
    (Asked m 0x0081 s →
      let code : BitVec 16 := BitVec.ofNat 16 (p 8 2)
      (code ≠ 0xFFFF → ∃ t u, exec (.eventRateSet m) s = .next t ∧ Replied m stOk [] u t ∧
        (∀ c, c ≠ code → bucketOf t.evr c = bucketOf s.evr c) ∧
        (let b := bucketOf s.evr code;
          bucketOf t.evr code = { b with rate := p 10 2, burst := p 12 2, tokens := min (p 12 2) b.tokens }) ∧
        u = { s with evr := { s.evr with buckets := t.evr.buckets } }) ∧
      (code = 0xFFFF → ∃ t u, exec (.eventRateSet m) s = .next t ∧ Replied m stOk [] u t ∧
        (∀ c, bucketOf t.evr c = { bucketOf s.evr c with rate := 16, burst := 64, tokens := min 64 (bucketOf s.evr c).tokens }) ∧
        u = { s with evr := { s.evr with buckets := t.evr.buckets } })) ∧
    (Asked m 0x00C0 s →
      let counts := s.map.sbs.map (·.eraseCount)
      ∃ t low mean high, exec (.statsRead m) s = .next t ∧
        Replied m stOk (leBytes 8 s.nv.bytesRead ++ leBytes 8 s.nv.bytesWritten ++ leBytes 8 s.map.captureBytes ++
          leBytes 8 s.map.gcBytes ++ leBytes 4 low ++ leBytes 4 mean ++ leBytes 4 high ++ leBytes 4 s.life.powerUps ++
          leBytes 4 s.life.uncleanShutdowns ++ s.intg.ladder.flatMap (leBytes 4)) s t ∧
        (∀ c ∈ counts, low ≤ c ∧ c ≤ high) ∧ (counts ≠ [] → low ∈ counts ∧ high ∈ counts) ∧
        mean * counts.length ≤ counts.sum ∧ (counts ≠ [] → counts.sum < (mean + 1) * counts.length)))

/-- R145, R189, R204, R391, R393 to R395: KEY_SET and KEY_ZEROIZE are checked as they are accepted. At the cancel
point each namespace in scope gets a new epoch and a key of the next generation, drawn from the DRBG, a zeroization of
all namespaces a new salt too; data older than the epoch is neither mapped nor buffered any more. Then the keys are
written wrapped, and zeroization leaves no older copy. Where it rests on log entries 54, 155, 164, 169 and 180 it
states the model's choice. -/
def Obligations.MediaKeys : Prop :=
  ∀ (s : State) (m : Fin 16) (step : KeyStep),
    let p := reqField s m
    let gen (t : State) (i : Nat) : Nat := ((t.sec.keys.find? fun k => k.ns == i).map (·.generation)).getD 0
    let busy := ∃ h ∈ s.hnd.live, h.opcode = 0x0070 ∨ h.opcode = 0x0071
    let answers (i : Instr) (st : BitVec 16) : Prop := ∃ t, exec i s = .next t ∧ Replied m st [] s t
    let takes (i : Instr) (op : BitVec 16) (subject aux : Nat) : Prop := ∃ t v u, exec i s = .next t ∧
      Accepted m op false subject aux v s u t ∧ u = { s with hnd := u.hnd, free := s.free + 1 }
    let short (i : Instr) : Prop :=
      ((∃ x, Slot.seqBlock x ∈ s.map.pendingSlots) → exec i s = .next s) ∧
      ((∀ x, Slot.seqBlock x ∉ s.map.pendingSlots) → exec i s = .next { s with map := { s.map with
        pendingSlots := s.map.pendingSlots ++ [.seqBlock (s.ord.top + 2 ^ 24)] } })
    let inside (n : Namespace) (e : SegEntry) := n.base ≤ e.seg ∧ e.seg < n.base + n.size
    let stored (w u : State) : Prop := (config u).valid = true ∧ (config u).keys = keyStore w ∧ (config u).salt = w.sec.salt ∧
      (config u).generation = (config w).generation + 1 ∧ (config u).keyGeneration = (config w).keyGeneration + 1 ∧
      u = { w with nor := { w.nor with config0 := u.nor.config0, config1 := u.nor.config1, flags := u.nor.flags } }
    let passed (h : Handle) (u : State) : Prop := u.hnd = { s.hnd with
      live := s.hnd.live.map fun x => if x.value = h.value then { x with past := true } else x }
    (Asked m 0x0070 s →
      let id := p 8 1
      let i := Instr.keySet m
      (findNs s id = none → answers i stBadParam) ∧
      ∀ n, findNs s id = some n →
        let holds := (∃ e ∈ s.map.segments, inside n e ∧ (e.mapped = true ∨ e.overlaid = true)) ∨
          ∃ w ∈ s.ord.accepted, w.ns = n.id ∧ w.units ≠ []
        let refused := (holds ∧ p 9 1 % 2 = 0) ∨ ∃ x ∈ s.str.list, x.state ≠ .closed ∧ x.ns = id
        (refused → answers i stWrongState) ∧
        (¬refused → s.sec.drbgOn = false → answers i stInternal) ∧
        (¬refused → s.sec.drbgOn = true → freeSlots s ≠ [] →
          (busy → answers i stBusyRetry) ∧ (¬busy → takes i 0x0070 id 0))) ∧
    (Asked m 0x0071 s →
      let i := Instr.keyZeroize m
      (s.sec.drbgOn = false → answers i stInternal) ∧
      (s.sec.drbgOn = true → freeSlots s ≠ [] →
        (busy → answers i stBusyRetry) ∧ (¬busy → takes i 0x0071 (p 8 1) (p 9 1)))) ∧
    (liveOp s 0x0070 = none ∨ serving s = false → exec (.keySetDone step) s = .next s) ∧
    (liveOp s 0x0071 = none ∨ serving s = false → exec (.keyZeroizeDone step) s = .next s) ∧
    (∀ h, liveOp s 0x0070 = some h → serving s = true →
      let i (k : KeyStep) := Instr.keySetDone k
      let begun (w : State) : Prop := exec (i .replaced) s = .next w ∧ ∃ u, stored w u ∧
        exec (i .stored) s = .next (completeHandle h.value stOk (ringData [(4, gen w h.subject)]) u)
      (h.past = true → begun s) ∧
      (h.past = false → s.sec.drbgOn = false → exec (i step) s = .next (completeHandle h.value stInternal 0 s)) ∧
      (h.past = false → s.sec.drbgOn = true → s.ord.top < s.ord.next → short (i step)) ∧
      (∀ n, h.past = false → s.sec.drbgOn = true → s.ord.next ≤ s.ord.top → findNs s h.subject = some n → ∃ u, begun u ∧
        passed h u ∧ findNs u h.subject = some { n with epoch := s.ord.next } ∧
        (∀ k, k ≠ h.subject → findNs u k = findNs s k ∧ gen u k = gen s k) ∧
        (u.sec.keys.find? fun k => k.ns == h.subject) =
          some ⟨h.subject, BitVec.ofNat 512 (drbgOut 64 s), gen s h.subject + 1, true⟩ ∧
        (∀ e ∈ u.map.segments, e ∈ s.map.segments ∧ ¬inside n e) ∧ (∀ e ∈ s.map.segments, ¬inside n e → e ∈ u.map.segments) ∧
        u.map.pendingSlots = s.map.pendingSlots ++ [.namespace_ s.ord.next h.subject 2 n.base n.size n.fmt n.pi] ∧
        u = { s with
          ord := { s.ord with
            next := s.ord.next + 1
            accepted := s.ord.accepted.filter fun w => w.ns != h.subject || decide (s.ord.next ≤ w.seq) }
          nv := { s.nv with namespaces := u.nv.namespaces }
          map := { s.map with
            segments := u.map.segments, overlay := u.map.overlay, mapLost := u.map.mapLost
            pendingSlots := u.map.pendingSlots }
          sec := { s.sec with
            keys := u.sec.keys, drbg := drbgNext 64 s.sec.drbg, drbgRequests := s.sec.drbgRequests + 1 }
          hnd := u.hnd })) ∧
    (∀ h, liveOp s 0x0071 = some h → serving s = true →
      let all := h.subject = 1
      let ids := if all then s.nv.namespaces.map (·.id) else [h.aux]
      let i (k : KeyStep) := Instr.keyZeroizeDone k
      let begun (w : State) : Prop := exec (i .replaced) s = .next w ∧ ∃ u, stored w u ∧
        (∀ c ∈ [u.nor.config0, u.nor.config1], c.valid = true ∨ c.keys = []) ∧
        exec (i .stored) s = .next (completeHandle h.value stOk 0 u)
      (h.past = true → begun s) ∧
      (h.past = false → s.sec.drbgOn = false → exec (i step) s = .next (completeHandle h.value stInternal 0 s)) ∧
      (h.past = false → s.sec.drbgOn = true → s.ord.top + 1 < s.ord.next + ids.length → short (i step)) ∧
      (h.past = false → s.sec.drbgOn = true → s.ord.next + ids.length ≤ s.ord.top + 1 → ids.Nodup →
        (∀ k ∈ ids, findNs s k ≠ none) → ∃ u, begun u ∧ passed h u ∧
          (∀ j k n, ids[j]? = some k → findNs s k = some n → findNs u k = some { n with epoch := s.ord.next + j } ∧
            gen u k = gen s k + 1 ∧ .namespace_ (s.ord.next + j) k 3 n.base n.size n.fmt n.pi ∈ u.map.pendingSlots ∧
            ∀ e ∈ u.map.segments, ¬inside n e) ∧
          (∀ k, k ∉ ids → findNs u k = findNs s k ∧ gen u k = gen s k) ∧
          (∀ w ∈ u.ord.accepted, w ∈ s.ord.accepted ∧ (w.ns ∈ ids → s.ord.next ≤ w.seq)) ∧
          (∀ w ∈ s.ord.accepted, w.ns ∉ ids → w ∈ u.ord.accepted) ∧
          (let salt := BitVec.ofNat 256 (drbgOut 32 s);
            u.sec.salt = (if all then some salt else s.sec.salt) ∧
            u.sec.kek = (if all then some (deriveKek s.nor.otp.seed salt) else s.sec.kek)) ∧
          u = { s with
            ord := { s.ord with next := s.ord.next + ids.length, accepted := u.ord.accepted }
            nv := { s.nv with namespaces := u.nv.namespaces }
            map := { s.map with
              segments := u.map.segments, overlay := u.map.overlay, mapLost := u.map.mapLost
              pendingSlots := u.map.pendingSlots }
            sec := { s.sec with
              keys := u.sec.keys, salt := u.sec.salt, kek := u.sec.kek, drbg := u.sec.drbg
              drbgRequests := s.sec.drbgRequests + ids.length + if all then 1 else 0 }
            hnd := u.hnd }))

/-- R157, R203, R407: SECURE_DISCARD checks its range and gives a record that waits for its turn. Once the record is
durable and in the map, buffered copies older than it are overwritten, its segments folded, every superblock that held
an older copy erased, and the command ends, with CAPACITY where data that stays finds no room. Where it rests on log
entries 71 and 175 it states the model's choice. -/
def Obligations.SecureDiscards : Prop :=
  ∀ s : State,
    (∀ m : Fin 16, Asked m 0x0072 s →
      let ns := reqField s m 8 1
      let lba := reqField s m 12 8
      let len := reqField s m 20 8
      let i := Instr.secureDiscard m
      let answers (st : BitVec 16) : Prop := ∃ t, exec i s = .next t ∧ Replied m st [] s t
      let fits (n : Namespace) := lba + len ≤ n.size * 256
      let meets := ∃ x ∈ s.str.list, x.state ≠ .closed ∧ x.ns = ns ∧ ∃ w ∈ x.dataWindows ++ x.indexWindows,
        lba < w.start + w.length ∧ w.start < lba + len
      ((∀ n, findNs s ns = some n → ¬fits n) → answers stBadParam) ∧
      (∀ n, findNs s ns = some n → fits n →
        (meets → answers stWrongState) ∧
        (¬meets → freeSlots s ≠ [] → (∃ h ∈ s.hnd.live, h.opcode = 0x0072) → answers stBusyRetry) ∧
        (¬meets → freeSlots s ≠ [] → (∀ h ∈ s.hnd.live, h.opcode ≠ 0x0072) → ∃ t v u, exec i s = .next t ∧
          Accepted m 0x0072 false ns len v s u t ∧
          u = { s with
            ord := { s.ord with waiting := s.ord.waiting ++ [.write {
              seq := 0, kind := .secureDiscard, src := .discard v, ns := ns, lba := lba, len := len, more := [], units := []
              fua := false, ordered := false, cmd := none, places := [], programmed := false, applied := false
              serial := 0, latched := false, recorded := false }] }
            hnd := u.hnd, free := s.free + 1 }))) ∧
    (∀ (erases : Nat) (good : Bool),
      let i := Instr.secureDiscardDone erases good
      (s.sec.discards = [] ∨ serving s = false ∨ s.life.mapReady = false → exec i s = .next s) ∧
      ∀ d rest, s.sec.discards = d :: rest → serving s = true → s.life.mapReady = true →
        let old (x : FlashUnit) := x.kind ≠ .pad ∧ x.kind ≠ .summary ∧ x.ns = d.ns ∧ d.lba ≤ x.lba ∧ x.lba < d.lba + d.len ∧
          x.seq < d.seq
        let sec := { s.sec with discards := s.sec.discards.filter fun x => x.seq != d.seq }
        let recorded := ∀ w ∈ s.ord.accepted, w.seq = d.seq → w.applied = true ∧ durable s w = true
        let cleaned : State := { s with ord := { s.ord with accepted := s.ord.accepted.map fun w =>
          { w with units := w.units.mapIdx fun k x =>
            if w.ns = d.ns ∧ w.seq < d.seq ∧ d.lba ≤ w.lba + k ∧ w.lba + k < d.lba + d.len then zeroUnit else x } } }
        (¬recorded ∨ (d.folded = false ∧ discardClear s d = false) → exec i s = .next s) ∧
        (recorded → d.folded = false → discardClear s d = true →
          s.ord.top + 1 < s.ord.next + (discardSegments s d).length →
          (∀ x, Slot.seqBlock x ∉ s.map.pendingSlots) → exec i s = .next { s with map := { s.map with
            pendingSlots := s.map.pendingSlots ++ [.seqBlock (s.ord.top + 2 ^ 24)] } }) ∧
        (recorded → d.folded = false → discardClear s d = true →
          s.ord.next + (discardSegments s d).length ≤ s.ord.top + 1 →
          (∀ b ∈ s.map.sbs, b.state = .granted → ∀ x ∈ b.units, ¬old x) →
          (foldDiscard d cleaned = none →
            exec i s = .next (completeHandle d.handle stCapacity 0 { cleaned with sec := sec })) ∧
          (∀ u, foldDiscard d cleaned = some u → exec i s = .next (eraseSome d erases good u))) ∧
        (recorded → d.folded = true → s.ord.next ≤ s.ord.top + 1 → (∀ b ∈ s.map.sbs, ∀ x ∈ b.units, ¬old x) →
          exec i s =
            .next (completeHandle d.handle stOk (ringData [(4, d.erased), (8, d.moved)]) { cleaned with sec := sec })) ∧
        (∀ b, d.folded = true → s.ord.next ≤ s.ord.top + 1 → s.ord.accepted = [] → s.map.sbs = [b] → (∃ x ∈ b.units, old x) → 1 ≤ erases →
          let erased (state : SbState) (slots : List Slot) : Prop := ∃ u y, exec i s =
              .next (completeHandle d.handle stOk (ringData [(4, d.erased + 1), (8, d.moved)]) u) ∧
            u.map.sbs = [y] ∧ y.number = b.number ∧ y.state = state ∧ y.units = [] ∧
            u.map.pendingSlots = s.map.pendingSlots ++ slots ++ [.erased b.number y.eraseCount] ∧
            u = { s with map := u.map, sec := sec }
          (b.state = .dirty → erased .erased []) ∧
          (b.state = .closed → validUnits s b = [] → b.retireDie = none → erased .erased [.dirty b.number]) ∧
          (b.state = .closed → validUnits s b ≠ [] → good = true → ∃ u,
            exec i s = .next (completeHandle d.handle stCapacity 0 u) ∧
            u.map.sbs = [b] ∧ u.map.segments = s.map.segments ∧ u = { s with map := u.map, sec := sec })))

/-- R130, R140, R306, R309, R349, R397, R398, R400 to R402: FW_STAGE never writes the running slot; its first erase
passes the cancel point, and what it has written is verified and protected again; FW_ACTIVATE verifies the slot once
more, burns or revokes the integrator slot for a provisioning record, and otherwise records the slot and stops the
cores. Where it rests on log entries 44, 158, 159, 178 and 180 it states the model's choice. -/
def Obligations.FirmwareImages : Prop :=
  ∀ (s : State) (m : Fin 16),
    let here := serving s = true ∨ (s.life.phase = .recovery ∧ (m : Nat) = 0)
    let asked (op : BitVec 16) := waitsFor s m op = true ∧ here ∧ s.mbx.box.length = 16
    let k := reqField s m 8 1
    let answers (i : Instr) (st : BitVec 16) (u : State) : Prop := ∃ t, exec i s = .next t ∧ Replied m st [] u t
    let told (es : List (BitVec 16 × UnitId × BitVec 64)) (a b : State) : Prop :=
      Logged es a b ∧ b = { a with evr := b.evr, pins := b.pins }
    let auth (object cause slot version : Nat) : BitVec 16 × UnitId × BitVec 64 :=
      (0x0C03, blockUnit 0x24, evData [(1, object), (1, cause), (1, slot), (1, 0), (4, version)])
    (asked 0x00A0 →
      let i := Instr.fwStage m
      let v := reqField s m 20 4
      (k = s.nor.slot → answers i stWrongState s) ∧
      (k ≠ s.nor.slot → freeSlots s ≠ [] → imageLive s = true → answers i stBusyRetry s) ∧
      (k = 1 ∨ k = 2 ∨ k = 3 → k ≠ s.nor.slot → freeSlots s ≠ [] → imageLive s = false → ∃ t h u, exec i s = .next t ∧
        Accepted m 0x00A0 false k v h s u t ∧
        u = { s with sec := { s.sec with staging := some k, staged := 0 }, hnd := u.hnd, free := s.free + 1 })) ∧
    (∀ (image : FwImage) (written : Nat),
      let works := serving s = true ∨ s.life.phase = .recovery
      let i := Instr.fwStageDone image written
      (s.sec.staging = none ∨ liveOp s 0x00A0 = none ∨ ¬works → exec i s = .next s) ∧
      (∀ slot h, s.sec.staging = some slot → liveOp s 0x00A0 = some h → works →
        let ends (st : BitVec 16) (r : BitVec 128) (u : State) : Prop := exec i s = .next (completeHandle h.value st r u)
        let off : State := { s with sec := { s.sec with staging := none, staged := 0 } }
        let version := ringData [(4, image.version)]
        let wrong := image.type ≠ 1 ∨ 524288 < image.length
        let refused := slot = 3 ∧ (wrong ∨ imageFault s image ≠ none)
        let first := if slot = 1 then 16 else if slot = 2 then 512 else 8
        (h.past = true → ¬refused → written < image.length →
          exec i s = .next { s with sec := { s.sec with staged := written } }) ∧
        (slot = 1 ∨ slot = 2 ∨ slot = 3 → h.past = false → ¬refused → written < image.length →
          bankOp s (slot == 2) = none → isFenced s (sectorUnit first) = false → ∃ u : State, exec i s = .next u ∧
          (∀ x ∈ u.hnd.live, x.value = h.value → x.past = true) ∧
          (∃ pair, bankOp u (slot == 2) = some ⟨.erase, first, false, 0, pair⟩) ∧
          bankOp u (slot != 2) = bankOp s (slot != 2) ∧ first ∈ u.nor.writable ∧
          u = { s with
            nor := { s.nor with
              opA := u.nor.opA, opB := u.nor.opB, lastOp := u.nor.lastOp, writable := u.nor.writable, flags := u.nor.flags
              cont := u.nor.cont }
            sec := { s.sec with staged := written }, hnd := u.hnd }) ∧
        (slot = 3 → wrong → ends stBadParam 0 off) ∧
        (slot = 3 → ¬wrong → ∀ cause, imageFault s image = some cause →
          ∃ u, told [auth 0 cause 3 image.version] off u ∧ ends stAuthFailed 0 u) ∧
        (slot = 3 → ¬wrong → imageFault s image = none → image.length ≤ written → ∃ u : State, ends stOk version u ∧
          u.nor.boot0 = some image ∧ u.nor.boot1 = some image ∧ u.nor.boot0Valid = true ∧ u.nor.boot1Valid = true ∧
          (∀ n < 16, n ∉ u.nor.writable) ∧ u = { off with nor := { u.nor with
            config0 := s.nor.config0, config1 := s.nor.config1, otp := s.nor.otp, slot := s.nor.slot, slotA := s.nor.slotA
            slotB := s.nor.slotB, slotAValid := s.nor.slotAValid, slotBValid := s.nor.slotBValid } }) ∧
        (slot = 1 ∨ slot = 2 → image.length ≤ written → ∃ u : State, slotImage u slot = some image ∧
          (∀ n, (if slot = 1 then 16 else 512) ≤ n → n < (if slot = 1 then 448 else 944) → n ∉ u.nor.writable) ∧
          slotImage u (3 - slot) = slotImage s (3 - slot) ∧ slotValid u (3 - slot) = slotValid s (3 - slot) ∧
          u = { off with nor := u.nor, evr := u.evr, pins := u.pins } ∧
          (image.type ≠ 1 → imageFault s image = none → ends stOk version u ∧ slotValid u slot = true ∧ u.evr = s.evr) ∧
          (image.type = 1 → ends stAuthFailed 0 u ∧ slotValid u slot = false ∧ Logged [auth 5 0 slot image.version] s u) ∧
          (∀ cause, image.type ≠ 1 → imageFault s image = some cause → ends stAuthFailed 0 u ∧
            slotValid u slot = false ∧ Logged [auth 5 cause slot image.version] s u)))) ∧
    (asked 0x00A1 →
      let i := Instr.fwActivate m
      (slotImage s k = none → ∃ u, told [auth 1 0 k 0] s u ∧ answers i stAuthFailed u) ∧
      ∀ image, slotImage s k = some image →
        (image.type = 1 → ∃ u, told [auth 1 0 k image.version] s u ∧ answers i stAuthFailed u) ∧
        (∀ cause, image.type ≠ 1 → imageFault s image = some cause →
          ∃ u, told [auth 1 cause k image.version] s u ∧ answers i stAuthFailed u) ∧
        (image.type ≠ 1 → imageFault s image = none → freeSlots s ≠ [] →
          (imageLive s = true → answers i stBusyRetry s) ∧
          (imageLive s = false → ∃ (h : BitVec 32) (a : State),
            Issued h ⟨h, 0x00A1, m, (boxOf s m).ringPath, s.clk.us, true, k, 0⟩ s.hnd a.hnd ∧
            a = { s with hnd := a.hnd, free := s.free + 1 } ∧
            let accepts (u : State) : Prop := exec i s = .next (respond m stAccepted (leBytes 4 h.toNat) u)
            let burnt (o : Otp) (st : BitVec 16) : Prop :=
              accepts (completeHandle h st (ringData [(4, s.sec.version)]) { a with nor := { s.nor with otp := o } })
            (image.type = 2 → image.provision = 1 → s.nor.otp.integrator = true → burnt s.nor.otp stWrongState) ∧
            (image.type = 2 → image.provision = 1 → s.nor.otp.integrator = false →
              burnt { s.nor.otp with integrator := true, integratorHash := keyHash image.integratorKey } stOk) ∧
            (image.type = 2 → image.provision = 2 → burnt { s.nor.otp with revoked := true } stOk) ∧
            (image.type ≠ 2 → s.life.phase = .recovery →
              accepts (start .resetN (storeConfig (fun c => { c with activeSlot := k }) a))) ∧
            (image.type ≠ 2 → s.life.phase = .service → liveOp s 0x0021 = none → liveOp s 0x0090 = none → ∃ u : State,
              accepts u ∧ (config u).activeSlot = k ∧ (config u).generation = (config s).generation + 1 ∧
              (∀ x ∈ u.st.running, x.handle ≠ none → x.readmit = true) ∧ (∀ c ∈ u.med.channels, c.state ≠ .loading) ∧
              u = { a with
                life := { s.life with stop := some ⟨true, 0xFF, s.clk.us, s.sec.version, k, some h, none⟩ }
                nv := { s.nv with nextSlot := none }, hup := { s.hup with run := none }
                nor := { s.nor with
                  config0 := u.nor.config0, config1 := u.nor.config1, flags := u.nor.flags, xo := true }
                st := { s.st with running := u.st.running, waiting := s.st.waiting.filter (·.readmit) }
                med := { s.med with load := none, toLoad := [], channels := u.med.channels } }))))

/-- R391, R403 to R405: a challenge is 32 bytes of the DRBG, good once and for 60 s; DEBUG_UNLOCK refuses in the order
of R405; a token that passes destroys every key, burns the counter and opens the port, any other is AUTH_FAILED; the
DRBG reseeds after 2^20 requests and stops at a health failure. Where it rests on log entries 33, 54, 156, 164 and 180
it states the model's choice. -/
def Obligations.DebugPortAccess : Prop :=
  ∀ (s : State) (m : Fin 16),
    let answers (i : Instr) (st : BitVec 16) : Prop := ∃ t, exec i s = .next t ∧ Replied m st [] s t
    (Asked m 0x00B0 s →
      (s.sec.drbgOn = false → answers (.debugChallenge m) stInternal) ∧
      (s.sec.drbgOn = true → ∃ t u, exec (.debugChallenge m) s = .next t ∧
        Replied m stOk (leBytes 32 (BitVec.ofNat 256 (drbgOut 32 s)).toNat ++ leBytes 16 s.nor.otp.uid.toNat ++
          leBytes 1 s.nor.otp.debugOpen ++
          leBytes 1 (match s.sec.port with | .manufacture => 0 | .field => 1 | .opened => 2) ++ [0, 0]) u t ∧
        u = { s with
          sec := { s.sec with
            challenge := some (BitVec.ofNat 256 (drbgOut 32 s), s.clk.us), spent := none
            drbg := drbgNext 32 s.sec.drbg, drbgRequests := s.sec.drbgRequests + 1 } })) ∧
    (Asked m 0x00B1 s →
      let t (o n : Nat) : Nat := reqField s m (12 + o) n
      let token := t 0 4 = 0x444B544E ∧ t 4 2 = 1 ∧ t 6 1 ≤ 1 ∧ t 7 1 = 0 ∧ t 8 16 = s.nor.otp.uid.toNat ∧
        t 24 1 = s.nor.otp.debugOpen ∧ t 25 23 = 0
      let signed (c : BitVec 256) := ∃ key, runningKey s (t 6 1) = some key ∧
        signatureVerifies key (leBytes 48 (t 0 48) ++ leBytes 32 c.toNat) (leBytes 96 (t 48 96)) = true
      let good := token ∧ ∃ c us, s.sec.challenge = some (c, us) ∧ s.clk.us ≤ us + 60000000 ∧ signed c
      let busy := (∃ x ∈ s.str.list, x.state ≠ .closed) ∨ s.nv.sanitize ≠ .none ∨ ∃ n ∈ s.nv.namespaces, n.formatting = true
      (32 ≤ s.nor.otp.debugOpen → answers (.debugUnlock m) stLocked) ∧
      (s.nor.otp.debugOpen < 32 → s.sec.port ≠ .field ∨ busy → answers (.debugUnlock m) stWrongState) ∧
      (s.nor.otp.debugOpen < 32 → s.sec.port = .field → ¬busy → freeSlots s ≠ [] → ∃ t v u aux,
        exec (.debugUnlock m) s = .next t ∧ Accepted m 0x00B1 false 0 aux v s u t ∧ (good → aux = 1) ∧ (¬good → aux = 0) ∧
        u = { s with sec := { s.sec with challenge := none, spent := s.sec.challenge }, hnd := u.hnd, free := s.free + 1 })) ∧
    (let i := Instr.debugUnlockDone;
      (liveOp s 0x00B1 = none ∨ serving s = false → exec i s = .next s) ∧
      (∀ h, liveOp s 0x00B1 = some h → serving s = true →
        let passes := h.aux = 1
        let count := s.nor.otp.debugOpen + 1
        (¬passes → ∃ u, exec i s = .next (completeHandle h.value stAuthFailed 0 u) ∧
          Logged [(0x0C03, blockUnit 0x24, evData [(1, 3), (1, 0), (1, 0), (1, 0), (4, 0)])] s u ∧
          u = { s with evr := u.evr, pins := u.pins }) ∧
        (passes → s.ord.top + 1 < s.ord.next + s.nv.namespaces.length → ∃ t, exec i s = .next t ∧
          (∀ x ∈ t.hnd.live, x.value = h.value → x.past = true) ∧ t.sec = s.sec ∧
          t = { s with hnd := t.hnd, map := { s.map with pendingSlots := t.map.pendingSlots } }) ∧
        (passes → s.ord.next + s.nv.namespaces.length ≤ s.ord.top + 1 → ∃ u : State,
          exec i s = .next (completeHandle h.value stOk (ringData [(1, count), (1, 2)]) u) ∧
          u.sec.port = .opened ∧ u.sec.kek = none ∧ (∀ k ∈ u.sec.keys, k.present = false) ∧
          (∀ n ∈ s.nv.namespaces, ∃ y, findNs u n.id = some y ∧ s.ord.next ≤ y.epoch) ∧
          u.nor.otp = { s.nor.otp with debugOpen := count } ∧ (config u).keys = [] ∧ (config u).salt = none ∧
          (∀ c ∈ [u.nor.config0, u.nor.config1], c.valid = true ∨ c.keys = []) ∧
          Logged [(0x0C01, blockUnit 0x24, evData [(1, count), (1, 1), (2, s.sec.keys.countP (·.present)), (4, 0)])] s u ∧
          u = { s with
            ord := u.ord, nv := { s.nv with namespaces := u.nv.namespaces }, hnd := u.hnd, map := u.map
            nor := { s.nor with
              config0 := u.nor.config0, config1 := u.nor.config1, otp := u.nor.otp, flags := u.nor.flags }
            sec := { s.sec with keys := u.sec.keys, salt := none, kek := none, port := .opened }
            evr := u.evr, pins := u.pins }))) ∧
    (s.sec.drbgOn = true → 2 ^ 20 ≤ s.sec.drbgRequests →
      exec .drbgReseed s = .next { s with
        sec := { s.sec with drbg := drbgReseed (leBytes 48 (Config.entropy s.free).toNat) s.sec.drbg, drbgRequests := 0 }
        free := s.free + 1 }) ∧
    (s.sec.drbgOn = false ∨ s.sec.drbgRequests < 2 ^ 20 → exec .drbgReseed s = .next s) ∧
    (s.sec.drbgOn = true → ∃ t, exec .drbgHealthFail s = .next t ∧
      Logged [(0x0C03, blockUnit 0x24, evData [(1, 4), (1, 3), (1, 0), (1, 0), (4, 0)])] s t ∧
      t = { s with sec := { s.sec with drbgOn := false }, evr := t.evr, pins := t.pins }) ∧
    (s.sec.drbgOn = false → exec .drbgHealthFail s = .next s)

/-- R265 to R267: whom a command slot serves. The banks are tried in rotation, from the one after that activated last;
a bank offers a class 0 request if it has one, else one that has waited 5 µs if it has one; a request that opens a row
keeps to four activates of its rank in 20 ns, and none goes to a rank that a refresh blocks. A row stays open for at
most 32 accesses, and while a request waits for it; time ages what waits; a refresh closes the rank's rows. Where it
rests on log entries 161 and 181 it states the model's choice. -/
def Obligations.DramScheduling : Prop :=
  ∀ c : DramChannel, c.queues.length = 32 → c.rows.length = 32 →
    let queue (b : Nat) : List DramWaiting := c.queues.getD b []
    let zero (w : DramWaiting) : Prop := requestClass w.req.requester = 0
    let hit (b : Nat) (w : DramWaiting) : Prop := ∃ n, c.rows[b]? = some (some (w.req.row, n))
    let free (b : Nat) (w : DramWaiting) : Prop := (rankOf c (b / 16)).blocked = 0 ∧
      (hit b w ∨ (rankOf c (b / 16)).activates.length < 4 ∧ ∀ a ∈ (rankOf c (b / 16)).activates, Config.activateGap ≤ a)
    (∀ urgent b i w, pickRequest c urgent = some (b, i, w) →
      b < 32 ∧ (queue b)[i]? = some w ∧ free b w ∧ (urgent = true → zero w) ∧
      ((∃ v ∈ queue b, zero v) → zero w) ∧
      ((∀ v ∈ queue b, ¬zero v) → (∃ v ∈ queue b, 5000 ≤ v.ns) → 5000 ≤ w.ns) ∧
      ((∀ v ∈ queue b, ¬zero v ∧ v.ns < 5000) →
        (∃ v ∈ queue b, hit b v) → hit b w) ∧
      (∀ k, k < (b + 31 - c.lastBank % 32) % 32 →
        ∀ j v, bankHead c urgent ((c.lastBank + 1 + k) % 32) = some (j, v) → ¬free ((c.lastBank + 1 + k) % 32) v)) ∧
    (∀ urgent, pickRequest c urgent = none → ∀ b, b < 32 → ∀ j v, bankHead c urgent b = some (j, v) → ¬free b v) ∧
    (∀ b i w, b < 32 → (queue b)[i]? = some w →
      let t := issueRequest b i w c
      t.queues = c.queues.set b ((queue b).eraseIdx i) ∧
      (∀ k, k ≠ b → t.rows[k]? = c.rows[k]?) ∧
      (∀ row n, t.rows[b]? = some (some (row, n)) → row = w.req.row ∧ n < 32 ∧
        ∃ v ∈ (queue b).eraseIdx i, v.req.row = row) ∧
      (hit b w → t.lastBank = c.lastBank ∧ t.rank0 = c.rank0 ∧ t.rank1 = c.rank1) ∧
      (¬hit b w → t.lastBank = b ∧ (rankOf t (b / 16)).activates = 0 :: (rankOf c (b / 16)).activates)) ∧
    (∀ r ns, r < 2 →
      let t := issueRefresh r ns c
      (rankOf t r).blocked = ns ∧ rankOf t (1 - r) = rankOf c (1 - r) ∧
      t.drift = (rankOf c r).driftDue.getD c.drift ∧ (rankOf t r).driftDue = none ∧
      ∀ b, t.rows[b]? = if b / 16 = r ∧ b < 32 then some none else c.rows[b]?)
end

