-- ==== Sys2Proof/Laws/Keep.lean ====
section
/-! SUPPORT. What keeps a state sound, and which groups of State an operation may change, as a mask of bits in the order of
State's fields. -/

namespace Sys2Proof.Laws

open Sys2Proof Sys2Proof.Machine Sys2Proof.Safety

/-- `t`'s groups where the mask has a bit, `s`'s elsewhere. -/
def merge (m : Nat) (s t : State) : State where
  pending := cond (m.testBit 0) t.pending s.pending
  life := cond (m.testBit 1) t.life s.life
  clk := cond (m.testBit 2) t.clk s.clk
  board := cond (m.testBit 3) t.board s.board
  link := cond (m.testBit 4) t.link s.link
  parse := cond (m.testBit 5) t.parse s.parse
  str := cond (m.testBit 6) t.str s.str
  ord := cond (m.testBit 7) t.ord s.ord
  nv := cond (m.testBit 8) t.nv s.nv
  mbx := cond (m.testBit 9) t.mbx s.mbx
  i3c := cond (m.testBit 10) t.i3c s.i3c
  hnd := cond (m.testBit 11) t.hnd s.hnd
  crg := cond (m.testBit 12) t.crg s.crg
  pins := cond (m.testBit 13) t.pins s.pins
  pwr := cond (m.testBit 14) t.pwr s.pwr
  hup := cond (m.testBit 15) t.hup s.hup
  thm := cond (m.testBit 16) t.thm s.thm
  map := cond (m.testBit 17) t.map s.map
  med := cond (m.testBit 18) t.med s.med
  intg := cond (m.testBit 19) t.intg s.intg
  dram := cond (m.testBit 20) t.dram s.dram
  sram := cond (m.testBit 21) t.sram s.sram
  nor := cond (m.testBit 22) t.nor s.nor
  st := cond (m.testBit 23) t.st s.st
  evr := cond (m.testBit 24) t.evr s.evr
  sec := cond (m.testBit 25) t.sec s.sec
  reg := cond (m.testBit 26) t.reg s.reg
  out := cond (m.testBit 27) t.out s.out
  free := cond (m.testBit 28) t.free s.free

/-- From `s` to `t` only groups of the mask change, and soundness is kept. -/
structure Keep (m : Nat) (s t : State) : Prop where
  same : t = merge m s t
  sound : Sound s → Sound t

theorem merge_self (m : Nat) (s : State) : merge m s s = s := by
  simp [merge]

theorem Keep.refl (m : Nat) (s : State) : Keep m s s := ⟨(merge_self m s).symm, id⟩

theorem Keep.pending {m : Nat} {s t : State} (h : Keep m s t) (hm : m.testBit 0 = false) : t.pending = s.pending := by
  have e := congrArg State.pending h.same
  simpa [merge, hm] using e

theorem Keep.life {m : Nat} {s t : State} (h : Keep m s t) (hm : m.testBit 1 = false) : t.life = s.life := by
  have e := congrArg State.life h.same
  simpa [merge, hm] using e

theorem Keep.clk {m : Nat} {s t : State} (h : Keep m s t) (hm : m.testBit 2 = false) : t.clk = s.clk := by
  have e := congrArg State.clk h.same
  simpa [merge, hm] using e

theorem Keep.board {m : Nat} {s t : State} (h : Keep m s t) (hm : m.testBit 3 = false) : t.board = s.board := by
  have e := congrArg State.board h.same
  simpa [merge, hm] using e

theorem Keep.link {m : Nat} {s t : State} (h : Keep m s t) (hm : m.testBit 4 = false) : t.link = s.link := by
  have e := congrArg State.link h.same
  simpa [merge, hm] using e

theorem Keep.parse {m : Nat} {s t : State} (h : Keep m s t) (hm : m.testBit 5 = false) : t.parse = s.parse := by
  have e := congrArg State.parse h.same
  simpa [merge, hm] using e

theorem Keep.str {m : Nat} {s t : State} (h : Keep m s t) (hm : m.testBit 6 = false) : t.str = s.str := by
  have e := congrArg State.str h.same
  simpa [merge, hm] using e

theorem Keep.ord {m : Nat} {s t : State} (h : Keep m s t) (hm : m.testBit 7 = false) : t.ord = s.ord := by
  have e := congrArg State.ord h.same
  simpa [merge, hm] using e

theorem Keep.nv {m : Nat} {s t : State} (h : Keep m s t) (hm : m.testBit 8 = false) : t.nv = s.nv := by
  have e := congrArg State.nv h.same
  simpa [merge, hm] using e

theorem Keep.mbx {m : Nat} {s t : State} (h : Keep m s t) (hm : m.testBit 9 = false) : t.mbx = s.mbx := by
  have e := congrArg State.mbx h.same
  simpa [merge, hm] using e

theorem Keep.i3c {m : Nat} {s t : State} (h : Keep m s t) (hm : m.testBit 10 = false) : t.i3c = s.i3c := by
  have e := congrArg State.i3c h.same
  simpa [merge, hm] using e

theorem Keep.hnd {m : Nat} {s t : State} (h : Keep m s t) (hm : m.testBit 11 = false) : t.hnd = s.hnd := by
  have e := congrArg State.hnd h.same
  simpa [merge, hm] using e

theorem Keep.crg {m : Nat} {s t : State} (h : Keep m s t) (hm : m.testBit 12 = false) : t.crg = s.crg := by
  have e := congrArg State.crg h.same
  simpa [merge, hm] using e

theorem Keep.pins {m : Nat} {s t : State} (h : Keep m s t) (hm : m.testBit 13 = false) : t.pins = s.pins := by
  have e := congrArg State.pins h.same
  simpa [merge, hm] using e

theorem Keep.pwr {m : Nat} {s t : State} (h : Keep m s t) (hm : m.testBit 14 = false) : t.pwr = s.pwr := by
  have e := congrArg State.pwr h.same
  simpa [merge, hm] using e

theorem Keep.hup {m : Nat} {s t : State} (h : Keep m s t) (hm : m.testBit 15 = false) : t.hup = s.hup := by
  have e := congrArg State.hup h.same
  simpa [merge, hm] using e

theorem Keep.thm {m : Nat} {s t : State} (h : Keep m s t) (hm : m.testBit 16 = false) : t.thm = s.thm := by
  have e := congrArg State.thm h.same
  simpa [merge, hm] using e

theorem Keep.map {m : Nat} {s t : State} (h : Keep m s t) (hm : m.testBit 17 = false) : t.map = s.map := by
  have e := congrArg State.map h.same
  simpa [merge, hm] using e

theorem Keep.med {m : Nat} {s t : State} (h : Keep m s t) (hm : m.testBit 18 = false) : t.med = s.med := by
  have e := congrArg State.med h.same
  simpa [merge, hm] using e

theorem Keep.intg {m : Nat} {s t : State} (h : Keep m s t) (hm : m.testBit 19 = false) : t.intg = s.intg := by
  have e := congrArg State.intg h.same
  simpa [merge, hm] using e

theorem Keep.dram {m : Nat} {s t : State} (h : Keep m s t) (hm : m.testBit 20 = false) : t.dram = s.dram := by
  have e := congrArg State.dram h.same
  simpa [merge, hm] using e

theorem Keep.sram {m : Nat} {s t : State} (h : Keep m s t) (hm : m.testBit 21 = false) : t.sram = s.sram := by
  have e := congrArg State.sram h.same
  simpa [merge, hm] using e

theorem Keep.nor {m : Nat} {s t : State} (h : Keep m s t) (hm : m.testBit 22 = false) : t.nor = s.nor := by
  have e := congrArg State.nor h.same
  simpa [merge, hm] using e

theorem Keep.st {m : Nat} {s t : State} (h : Keep m s t) (hm : m.testBit 23 = false) : t.st = s.st := by
  have e := congrArg State.st h.same
  simpa [merge, hm] using e

theorem Keep.evr {m : Nat} {s t : State} (h : Keep m s t) (hm : m.testBit 24 = false) : t.evr = s.evr := by
  have e := congrArg State.evr h.same
  simpa [merge, hm] using e

theorem Keep.sec {m : Nat} {s t : State} (h : Keep m s t) (hm : m.testBit 25 = false) : t.sec = s.sec := by
  have e := congrArg State.sec h.same
  simpa [merge, hm] using e

theorem Keep.reg {m : Nat} {s t : State} (h : Keep m s t) (hm : m.testBit 26 = false) : t.reg = s.reg := by
  have e := congrArg State.reg h.same
  simpa [merge, hm] using e

theorem Keep.out {m : Nat} {s t : State} (h : Keep m s t) (hm : m.testBit 27 = false) : t.out = s.out := by
  have e := congrArg State.out h.same
  simpa [merge, hm] using e

theorem Keep.free {m : Nat} {s t : State} (h : Keep m s t) (hm : m.testBit 28 = false) : t.free = s.free := by
  have e := congrArg State.free h.same
  simpa [merge, hm] using e
theorem merge_trans {m m1 : Nat} {s x y : State} (hm : m1 &&& m = m1) (h : x = merge m s x) (k : y = merge m1 x y) :
    y = merge m s y := by
  have hb : ∀ i, m.testBit i = false → m1.testBit i = false := by
    intro i hi
    have e := congrArg (Nat.testBit · i) hm
    simpa [Nat.testBit_and, hi] using e.symm
  rw [k, h]
  simp only [merge, State.mk.injEq]
  refine ⟨?_, ?_, ?_, ?_, ?_, ?_, ?_, ?_, ?_, ?_, ?_, ?_, ?_, ?_, ?_, ?_, ?_, ?_, ?_, ?_, ?_, ?_, ?_, ?_, ?_, ?_, ?_, ?_, ?_⟩
  · cases e : m.testBit 0
    · simp [hb 0 e]
    · rfl
  · cases e : m.testBit 1
    · simp [hb 1 e]
    · rfl
  · cases e : m.testBit 2
    · simp [hb 2 e]
    · rfl
  · cases e : m.testBit 3
    · simp [hb 3 e]
    · rfl
  · cases e : m.testBit 4
    · simp [hb 4 e]
    · rfl
  · cases e : m.testBit 5
    · simp [hb 5 e]
    · rfl
  · cases e : m.testBit 6
    · simp [hb 6 e]
    · rfl
  · cases e : m.testBit 7
    · simp [hb 7 e]
    · rfl
  · cases e : m.testBit 8
    · simp [hb 8 e]
    · rfl
  · cases e : m.testBit 9
    · simp [hb 9 e]
    · rfl
  · cases e : m.testBit 10
    · simp [hb 10 e]
    · rfl
  · cases e : m.testBit 11
    · simp [hb 11 e]
    · rfl
  · cases e : m.testBit 12
    · simp [hb 12 e]
    · rfl
  · cases e : m.testBit 13
    · simp [hb 13 e]
    · rfl
  · cases e : m.testBit 14
    · simp [hb 14 e]
    · rfl
  · cases e : m.testBit 15
    · simp [hb 15 e]
    · rfl
  · cases e : m.testBit 16
    · simp [hb 16 e]
    · rfl
  · cases e : m.testBit 17
    · simp [hb 17 e]
    · rfl
  · cases e : m.testBit 18
    · simp [hb 18 e]
    · rfl
  · cases e : m.testBit 19
    · simp [hb 19 e]
    · rfl
  · cases e : m.testBit 20
    · simp [hb 20 e]
    · rfl
  · cases e : m.testBit 21
    · simp [hb 21 e]
    · rfl
  · cases e : m.testBit 22
    · simp [hb 22 e]
    · rfl
  · cases e : m.testBit 23
    · simp [hb 23 e]
    · rfl
  · cases e : m.testBit 24
    · simp [hb 24 e]
    · rfl
  · cases e : m.testBit 25
    · simp [hb 25 e]
    · rfl
  · cases e : m.testBit 26
    · simp [hb 26 e]
    · rfl
  · cases e : m.testBit 27
    · simp [hb 27 e]
    · rfl
  · cases e : m.testBit 28
    · simp [hb 28 e]
    · rfl

/-- One operation after another, the first within the mask of the whole. -/
theorem Keep.after {m m1 : Nat} {s x y : State} (hm : m1 &&& m = m1) (k : Keep m1 x y) (h : Keep m s x) : Keep m s y :=
  ⟨merge_trans hm h.same k.same, fun hs => k.sound (h.sound hs)⟩

/-- A sequence of operations within the mask. -/
theorem Keep.foldl {α : Type} {m : Nat} {s : State} (f : State → α → State) (l : List α) (x : State)
    (hf : ∀ y a, Keep m y (f y a)) (h : Keep m s x) : Keep m s (l.foldl f x) := by
  induction l generalizing x with
  | nil => exact h
  | cons a l ih => exact ih _ (Keep.after (Nat.and_self m) (hf _ _) h)

/-- Either branch. -/
theorem Keep.ite {c : Prop} [Decidable c] {m : Nat} {s x y : State} (h : Keep m s x) (k : Keep m s y) :
    Keep m s (if c then x else y) := by
  split <;> assumption

/-- The next state of a command keeps. -/
def KeepR (m : Nat) (s : State) (r : Result) : Prop := ∀ t, r = .next t → Keep m s t

theorem KeepR.next {m : Nat} {s x : State} (h : Keep m s x) : KeepR m s (.next x) := by
  intro t e; cases e; exact h
theorem KeepR.fault {m : Nat} {s : State} {f : Fault} : KeepR m s (.fault f) := by intro t e; cases e
theorem KeepR.refused {m : Nat} {s : State} {f : Refusal} : KeepR m s (.refused f) := by intro t e; cases e
theorem KeepR.ite {c : Prop} [Decidable c] {m : Nat} {s : State} {x y : Result} (h : KeepR m s x) (k : KeepR m s y) :
    KeepR m s (if c then x else y) := by
  split <;> assumption
theorem KeepR.mono {m m1 : Nat} {s : State} {r : Result} (hm : m1 &&& m = m1) (h : KeepR m1 s r) : KeepR m s r :=
  fun t e => Keep.after hm (h t e) (Keep.refl m s)
theorem Keep.fst {α : Type} {p : State × α} {a : State} {b : α} {m : Nat} {s : State} (e : p = (a, b))
    (h : Keep m s p.1) : Keep m s a := by
  rw [e] at h; exact h
theorem Keep.ho {m : Nat} {s x y : State} (k : Keep m x y) (h : Keep m s x) : Keep m s y :=
  Keep.after (Nat.and_self m) k h

/-- Soundness looks at these parts alone. -/
theorem Sound.re {s t : State} (h : Sound s) (h1 : t.hnd.live = s.hnd.live) (h2 : t.hnd.generation = s.hnd.generation)
    (h3 : t.hnd.retired = s.hnd.retired) (h4 : t.crg.tail = s.crg.tail) (h5 : t.crg.headPcie = s.crg.headPcie)
    (h6 : t.crg.headI3c = s.crg.headI3c) (h7 : t.crg.unreadPcie = s.crg.unreadPcie)
    (h8 : t.crg.unreadI3c = s.crg.unreadI3c) (h9 : t.mbx.box = s.mbx.box) (h10 : t.mbx.mem = s.mbx.mem)
    (h11 : t.evr.fifo = s.evr.fifo) : Sound t :=
  ⟨⟨h1 ▸ h.handles.slots, h2 ▸ h.handles.low, h2 ▸ h.handles.high, h3 ▸ h.handles.kept⟩,
    ⟨h4 ▸ h.ring.tail, h5 ▸ h.ring.headPcie, h6 ▸ h.ring.headI3c, h7 ▸ h.ring.unreadPcie, h8 ▸ h.ring.unreadI3c⟩,
    ⟨h9 ▸ h.mail.boxes, h10 ▸ h.mail.areas⟩, ⟨h11 ▸ h.recorder.fifo⟩⟩

/-- One operation after another. -/
theorem Keep.on {m m1 : Nat} {s x y : State} (k : Keep m1 x y) (h : Keep m s x) (hm : m1 &&& m = m1) : Keep m s y :=
  Keep.after hm k h

/-- An optional result, or another. -/
theorem Keep.getD {o : Option State} {m : Nat} {s x : State} (ho : ∀ t, o = some t → Keep m s t) (h : Keep m s x) :
    Keep m s (o.getD x) := by
  cases o with
  | none => exact h
  | some t => exact ho t rfl

/-- A sequence of operations each of which may give nothing. -/
theorem keep_bindFold {α : Type} {m : Nat} {s : State} (f : State → α → Option State) (l : List α) (x : State)
    (hf : ∀ a y z, f y a = some z → Keep m y z) (h : Keep m s x) {t : State}
    (e : l.foldl (fun o a => o.bind fun y => f y a) (some x) = some t) : Keep m s t := by
  have none_ : ∀ l : List α, l.foldl (fun o a => o.bind fun y => f y a) none = (none : Option State) := by
    intro l
    induction l with
    | nil => rfl
    | cons a l ih => simpa using ih
  induction l generalizing x with
  | nil => cases e; exact h
  | cons a l ih =>
    simp only [List.foldl_cons, Option.bind_some] at e
    cases hfa : f x a with
    | none =>
      rw [hfa, none_] at e
      cases e
    | some y =>
      rw [hfa] at e
      exact ih y (Keep.ho (hf _ _ _ hfa) h) e

/-- A new handle takes a free slot (R129). -/
theorem handles_new {s : State} {v : BitVec 32} {h : Handle} (k : HandlesOk s.hnd) (hv : newHandle s = some v)
    (e : h.value = v) :
    HandlesOk { s.hnd with live := s.hnd.live ++ [h], generation := nextGeneration s.hnd.generation } := by
  have free : ∀ x ∈ s.hnd.live, x.value.toNat % 256 ≠ v.toNat % 256 := by
    unfold newHandle at hv
    split at hv
    · cases hv
    · rename_i n hn
      cases hv
      have m := List.mem_of_getElem? hn
      simp only [freeSlots, List.mem_filter, List.mem_range, Bool.not_eq_true', List.any_eq_false, beq_iff_eq] at m
      intro x hx
      have := m.2 x hx
      have : (BitVec.ofNat 32 (s.hnd.generation * 256 + n)).toNat % 256 = n := by
        rw [BitVec.toNat_ofNat]
        omega
      rw [this]
      exact m.2 x hx
  constructor
  · simp only [List.map_append, List.map_cons, List.map_nil]
    refine List.Nodup.append k.slots (by simp) ?_
    intro a ha hb
    simp only [List.mem_map] at ha
    obtain ⟨x, hx, rfl⟩ := ha
    simp only [List.mem_singleton] at hb
    rw [e] at hb
    exact free x hx hb
  · simp only [nextGeneration]
    split <;> omega
  · have := k.high
    simp only [nextGeneration]
    split <;> omega
  · exact k.kept

/-- A written entry keeps the ring (R133, R134). -/
theorem ring_write {r : Ring} (k : RingOk r) (hf : slotFree r = true) (b : RingBody) : RingOk (ringWrite r b) := by
  simp only [slotFree, Bool.and_eq_true, Bool.or_eq_true, Bool.not_eq_true', decide_eq_true_eq] at hf
  have hp := k.unreadPcie
  have hi := k.unreadI3c
  refine ⟨Nat.mod_lt _ (by decide), k.headPcie, k.headI3c, ?_, ?_⟩
  · simp only [ringWrite]
    split
    · rename_i e
      rcases hf.1 with h | h
      · rw [e] at h; cases h
      · omega
    · exact hp
  · simp only [ringWrite]
    split
    · rename_i e
      rcases hf.2 with h | h
      · rw [e] at h; cases h
      · omega
    · exact hi

/-- A record that enters the FIFO finds room (R385). -/
theorem pushFifo_ok {r : Recorder} (k : RecorderOk r) (e : Event) : RecorderOk (pushFifo r e) := by
  have f := k.fifo
  refine ⟨?_⟩
  unfold pushFifo
  split
  · rename_i h
    simp only [List.length_append, List.length_cons, List.length_nil]
    exact h
  · exact f

/-- The intake keeps the FIFO's 64 places (R385). -/
theorem intake_ok {r : Recorder} (k : RecorderOk r) (e : Event) : RecorderOk (intake r e) := by
  unfold intake
  dsimp only
  split
  · exact ⟨k.fifo⟩
  · exact pushFifo_ok (r := setBucket r _) ⟨k.fifo⟩ _

theorem memCells_low (a : Nat) (bs : List Byte) : ∀ c ∈ memCells a bs, a ≤ c.1 ∧ c.1 < a + bs.length ∧ c.2 ≠ 0 := by
  induction bs generalizing a with
  | nil => intro c hc; cases hc
  | cons b bs ih =>
    intro c hc
    have t : ∀ c ∈ memCells (a + 1) bs, a ≤ c.1 ∧ c.1 < a + (b :: bs).length ∧ c.2 ≠ 0 := by
      intro c hc
      have := ih (a + 1) c hc
      refine ⟨by omega, ?_, this.2.2⟩
      simp only [List.length_cons]
      omega
    unfold memCells at hc
    split at hc
    · exact t c hc
    · rename_i hb
      rcases List.mem_cons.mp hc with h | h
      · subst h
        exact ⟨Nat.le_refl _, by simp only [List.length_cons]; omega, hb⟩
      · exact t c h

theorem memCells_sorted (a : Nat) (bs : List Byte) : (memCells a bs).Pairwise fun x y => x.1 < y.1 := by
  induction bs generalizing a with
  | nil => exact List.Pairwise.nil
  | cons b bs ih =>
    unfold memCells
    split
    · exact ih _
    · refine List.Pairwise.cons ?_ (ih _)
      intro c hc
      have := (memCells_low (a + 1) bs c hc).1
      exact this

/-- A replaced range keeps the canonical form. -/
theorem memSplice_wf {m : List Host.Cell} (h : memWf m = true) (a : Nat) (bs : List Byte) :
    memWf (memSplice m a bs) = true := by
  simp only [memWf, Bool.and_eq_true, decide_eq_true_eq, List.all_eq_true, bne_iff_ne, ne_eq] at h ⊢
  obtain ⟨sorted, nz⟩ := h
  unfold memSplice
  constructor
  · refine List.pairwise_append.mpr ⟨List.pairwise_append.mpr ⟨sorted.filter _, memCells_sorted a bs, ?_⟩, sorted.filter _, ?_⟩
    · intro x hx y hy
      have h1 := (List.mem_filter.mp hx).2
      have h2 := (memCells_low a bs y hy).1
      simp only [decide_eq_true_eq] at h1
      omega
    · intro x hx y hy
      have h2 := (List.mem_filter.mp hy).2
      simp only [decide_eq_true_eq] at h2
      rcases List.mem_append.mp hx with hx | hx
      · have h1 := (List.mem_filter.mp hx).2
        simp only [decide_eq_true_eq] at h1
        omega
      · have := (memCells_low a bs x hx).2.1
        omega
  · intro c hc
    rcases List.mem_append.mp hc with hc | hc
    · rcases List.mem_append.mp hc with hc | hc
      · exact nz c (List.mem_filter.mp hc).1
      · exact (memCells_low a bs c hc).2.2
    · exact nz c (List.mem_filter.mp hc).1

/-- A moved head is a slot number and leaves no more unread (R134). -/
theorem moveHead_ok {r : Ring} {on : Bool} {h u v : Nat} (hh : h < 1024) (hu : u ≤ 1024) (hv : v < 1024) :
    (moveHead r on h u v).1 < 1024 ∧ (moveHead r on h u v).2 ≤ 1024 := by
  unfold moveHead
  dsimp only
  split
  · exact ⟨hv, Nat.zero_le _⟩
  · split
    · exact ⟨hv, by dsimp only; omega⟩
    · exact ⟨hh, hu⟩

/-- A part of a part. -/
theorem mask_sub {a b m : Nat} (hm : b &&& m = b) (h : a &&& b = a) : a &&& m = a := by
  rw [← h, Nat.and_assoc, hm]

theorem Keep.upd_2 {m : Nat} {s x : State} {v1 : _} (hm : 2 &&& m = 2) (h : Keep m s x) :
    Keep m s { x with life := v1 } :=
  Keep.after hm ⟨rfl, fun a => a⟩ h

theorem Keep.upd_4 {m : Nat} {s x : State} {v2 : _} (hm : 4 &&& m = 4) (h : Keep m s x) :
    Keep m s { x with clk := v2 } :=
  Keep.after hm ⟨rfl, fun a => a⟩ h

theorem Keep.upd_10 {m : Nat} {s x : State} {v1 : _} {v3 : _} (hm : 10 &&& m = 10) (h : Keep m s x) :
    Keep m s { x with life := v1, board := v3 } :=
  Keep.after hm ⟨rfl, fun a => a⟩ h

theorem Keep.upd_16 {m : Nat} {s x : State} {v4 : _} (hm : 16 &&& m = 16) (h : Keep m s x) :
    Keep m s { x with link := v4 } :=
  Keep.after hm ⟨rfl, fun a => a⟩ h

theorem Keep.upd_32 {m : Nat} {s x : State} {v5 : _} (hm : 32 &&& m = 32) (h : Keep m s x) :
    Keep m s { x with parse := v5 } :=
  Keep.after hm ⟨rfl, fun a => a⟩ h

theorem Keep.upd_64 {m : Nat} {s x : State} {v6 : _} (hm : 64 &&& m = 64) (h : Keep m s x) :
    Keep m s { x with str := v6 } :=
  Keep.after hm ⟨rfl, fun a => a⟩ h

theorem Keep.upd_68 {m : Nat} {s x : State} {v2 : _} {v6 : _} (hm : 68 &&& m = 68) (h : Keep m s x) :
    Keep m s { x with clk := v2, str := v6 } :=
  Keep.after hm ⟨rfl, fun a => a⟩ h

theorem Keep.upd_128 {m : Nat} {s x : State} {v7 : _} (hm : 128 &&& m = 128) (h : Keep m s x) :
    Keep m s { x with ord := v7 } :=
  Keep.after hm ⟨rfl, fun a => a⟩ h

theorem Keep.upd_130 {m : Nat} {s x : State} {v1 : _} {v7 : _} (hm : 130 &&& m = 130) (h : Keep m s x) :
    Keep m s { x with life := v1, ord := v7 } :=
  Keep.after hm ⟨rfl, fun a => a⟩ h

theorem Keep.upd_256 {m : Nat} {s x : State} {v8 : _} (hm : 256 &&& m = 256) (h : Keep m s x) :
    Keep m s { x with nv := v8 } :=
  Keep.after hm ⟨rfl, fun a => a⟩ h

theorem Keep.upd_258 {m : Nat} {s x : State} {v1 : _} {v8 : _} (hm : 258 &&& m = 258) (h : Keep m s x) :
    Keep m s { x with life := v1, nv := v8 } :=
  Keep.after hm ⟨rfl, fun a => a⟩ h

theorem Keep.upd_512 {m : Nat} {s x : State} {v9 : _} (hm : 512 &&& m = 512)
    (hs : Sound x → Sound { x with mbx := v9 }) (h : Keep m s x) :
    Keep m s { x with mbx := v9 } :=
  Keep.after hm ⟨rfl, hs⟩ h

theorem Keep.upd_1024 {m : Nat} {s x : State} {v10 : _} (hm : 1024 &&& m = 1024) (h : Keep m s x) :
    Keep m s { x with i3c := v10 } :=
  Keep.after hm ⟨rfl, fun a => a⟩ h

theorem Keep.upd_2048 {m : Nat} {s x : State} {v11 : _} (hm : 2048 &&& m = 2048)
    (hs : Sound x → Sound { x with hnd := v11 }) (h : Keep m s x) :
    Keep m s { x with hnd := v11 } :=
  Keep.after hm ⟨rfl, hs⟩ h

theorem Keep.upd_4096 {m : Nat} {s x : State} {v12 : _} (hm : 4096 &&& m = 4096)
    (hs : Sound x → Sound { x with crg := v12 }) (h : Keep m s x) :
    Keep m s { x with crg := v12 } :=
  Keep.after hm ⟨rfl, hs⟩ h

theorem Keep.upd_4608 {m : Nat} {s x : State} {v9 : _} {v12 : _} (hm : 4608 &&& m = 4608)
    (hs : Sound x → Sound { x with mbx := v9, crg := v12 }) (h : Keep m s x) :
    Keep m s { x with mbx := v9, crg := v12 } :=
  Keep.after hm ⟨rfl, hs⟩ h

theorem Keep.upd_8192 {m : Nat} {s x : State} {v13 : _} (hm : 8192 &&& m = 8192) (h : Keep m s x) :
    Keep m s { x with pins := v13 } :=
  Keep.after hm ⟨rfl, fun a => a⟩ h

theorem Keep.upd_16384 {m : Nat} {s x : State} {v14 : _} (hm : 16384 &&& m = 16384) (h : Keep m s x) :
    Keep m s { x with pwr := v14 } :=
  Keep.after hm ⟨rfl, fun a => a⟩ h

theorem Keep.upd_16386 {m : Nat} {s x : State} {v1 : _} {v14 : _} (hm : 16386 &&& m = 16386) (h : Keep m s x) :
    Keep m s { x with life := v1, pwr := v14 } :=
  Keep.after hm ⟨rfl, fun a => a⟩ h

theorem Keep.upd_16640 {m : Nat} {s x : State} {v8 : _} {v14 : _} (hm : 16640 &&& m = 16640) (h : Keep m s x) :
    Keep m s { x with nv := v8, pwr := v14 } :=
  Keep.after hm ⟨rfl, fun a => a⟩ h

theorem Keep.upd_32768 {m : Nat} {s x : State} {v15 : _} (hm : 32768 &&& m = 32768) (h : Keep m s x) :
    Keep m s { x with hup := v15 } :=
  Keep.after hm ⟨rfl, fun a => a⟩ h

theorem Keep.upd_32896 {m : Nat} {s x : State} {v7 : _} {v15 : _} (hm : 32896 &&& m = 32896) (h : Keep m s x) :
    Keep m s { x with ord := v7, hup := v15 } :=
  Keep.after hm ⟨rfl, fun a => a⟩ h

theorem Keep.upd_65536 {m : Nat} {s x : State} {v16 : _} (hm : 65536 &&& m = 65536) (h : Keep m s x) :
    Keep m s { x with thm := v16 } :=
  Keep.after hm ⟨rfl, fun a => a⟩ h

theorem Keep.upd_65538 {m : Nat} {s x : State} {v1 : _} {v16 : _} (hm : 65538 &&& m = 65538) (h : Keep m s x) :
    Keep m s { x with life := v1, thm := v16 } :=
  Keep.after hm ⟨rfl, fun a => a⟩ h

theorem Keep.upd_82944 {m : Nat} {s x : State} {v10 : _} {v14 : _} {v16 : _} (hm : 82944 &&& m = 82944) (h : Keep m s x) :
    Keep m s { x with i3c := v10, pwr := v14, thm := v16 } :=
  Keep.after hm ⟨rfl, fun a => a⟩ h

theorem Keep.upd_131072 {m : Nat} {s x : State} {v17 : _} (hm : 131072 &&& m = 131072) (h : Keep m s x) :
    Keep m s { x with map := v17 } :=
  Keep.after hm ⟨rfl, fun a => a⟩ h

theorem Keep.upd_131074 {m : Nat} {s x : State} {v1 : _} {v17 : _} (hm : 131074 &&& m = 131074) (h : Keep m s x) :
    Keep m s { x with life := v1, map := v17 } :=
  Keep.after hm ⟨rfl, fun a => a⟩ h

theorem Keep.upd_131200 {m : Nat} {s x : State} {v7 : _} {v17 : _} (hm : 131200 &&& m = 131200) (h : Keep m s x) :
    Keep m s { x with ord := v7, map := v17 } :=
  Keep.after hm ⟨rfl, fun a => a⟩ h

theorem Keep.upd_131328 {m : Nat} {s x : State} {v8 : _} {v17 : _} (hm : 131328 &&& m = 131328) (h : Keep m s x) :
    Keep m s { x with nv := v8, map := v17 } :=
  Keep.after hm ⟨rfl, fun a => a⟩ h

theorem Keep.upd_131458 {m : Nat} {s x : State} {v1 : _} {v7 : _} {v8 : _} {v17 : _} (hm : 131458 &&& m = 131458) (h : Keep m s x) :
    Keep m s { x with life := v1, ord := v7, nv := v8, map := v17 } :=
  Keep.after hm ⟨rfl, fun a => a⟩ h

theorem Keep.upd_262144 {m : Nat} {s x : State} {v18 : _} (hm : 262144 &&& m = 262144) (h : Keep m s x) :
    Keep m s { x with med := v18 } :=
  Keep.after hm ⟨rfl, fun a => a⟩ h

theorem Keep.upd_524288 {m : Nat} {s x : State} {v19 : _} (hm : 524288 &&& m = 524288) (h : Keep m s x) :
    Keep m s { x with intg := v19 } :=
  Keep.after hm ⟨rfl, fun a => a⟩ h

theorem Keep.upd_524544 {m : Nat} {s x : State} {v8 : _} {v19 : _} (hm : 524544 &&& m = 524544) (h : Keep m s x) :
    Keep m s { x with nv := v8, intg := v19 } :=
  Keep.after hm ⟨rfl, fun a => a⟩ h

theorem Keep.upd_524672 {m : Nat} {s x : State} {v7 : _} {v8 : _} {v19 : _} (hm : 524672 &&& m = 524672) (h : Keep m s x) :
    Keep m s { x with ord := v7, nv := v8, intg := v19 } :=
  Keep.after hm ⟨rfl, fun a => a⟩ h

theorem Keep.upd_1048576 {m : Nat} {s x : State} {v20 : _} (hm : 1048576 &&& m = 1048576) (h : Keep m s x) :
    Keep m s { x with dram := v20 } :=
  Keep.after hm ⟨rfl, fun a => a⟩ h

theorem Keep.upd_1064962 {m : Nat} {s x : State} {v1 : _} {v14 : _} {v20 : _} (hm : 1064962 &&& m = 1064962) (h : Keep m s x) :
    Keep m s { x with life := v1, pwr := v14, dram := v20 } :=
  Keep.after hm ⟨rfl, fun a => a⟩ h

theorem Keep.upd_2097152 {m : Nat} {s x : State} {v21 : _} (hm : 2097152 &&& m = 2097152) (h : Keep m s x) :
    Keep m s { x with sram := v21 } :=
  Keep.after hm ⟨rfl, fun a => a⟩ h

theorem Keep.upd_4194304 {m : Nat} {s x : State} {v22 : _} (hm : 4194304 &&& m = 4194304) (h : Keep m s x) :
    Keep m s { x with nor := v22 } :=
  Keep.after hm ⟨rfl, fun a => a⟩ h

theorem Keep.upd_4194306 {m : Nat} {s x : State} {v1 : _} {v22 : _} (hm : 4194306 &&& m = 4194306) (h : Keep m s x) :
    Keep m s { x with life := v1, nor := v22 } :=
  Keep.after hm ⟨rfl, fun a => a⟩ h

theorem Keep.upd_4194562 {m : Nat} {s x : State} {v1 : _} {v8 : _} {v22 : _} (hm : 4194562 &&& m = 4194562) (h : Keep m s x) :
    Keep m s { x with life := v1, nv := v8, nor := v22 } :=
  Keep.after hm ⟨rfl, fun a => a⟩ h

theorem Keep.upd_8388608 {m : Nat} {s x : State} {v23 : _} (hm : 8388608 &&& m = 8388608) (h : Keep m s x) :
    Keep m s { x with st := v23 } :=
  Keep.after hm ⟨rfl, fun a => a⟩ h

theorem Keep.upd_12877824 {m : Nat} {s x : State} {v15 : _} {v18 : _} {v22 : _} {v23 : _} (hm : 12877824 &&& m = 12877824) (h : Keep m s x) :
    Keep m s { x with hup := v15, med := v18, nor := v22, st := v23 } :=
  Keep.after hm ⟨rfl, fun a => a⟩ h

theorem Keep.upd_13418498 {m : Nat} {s x : State} {v1 : _} {v14 : _} {v15 : _} {v18 : _} {v19 : _} {v22 : _} {v23 : _} (hm : 13418498 &&& m = 13418498) (h : Keep m s x) :
    Keep m s { x with life := v1, pwr := v14, hup := v15, med := v18, intg := v19, nor := v22, st := v23 } :=
  Keep.after hm ⟨rfl, fun a => a⟩ h

theorem Keep.upd_16777216 {m : Nat} {s x : State} {v24 : _} (hm : 16777216 &&& m = 16777216)
    (hs : Sound x → Sound { x with evr := v24 }) (h : Keep m s x) :
    Keep m s { x with evr := v24 } :=
  Keep.after hm ⟨rfl, hs⟩ h

theorem Keep.upd_16777218 {m : Nat} {s x : State} {v1 : _} {v24 : _} (hm : 16777218 &&& m = 16777218)
    (hs : Sound x → Sound { x with life := v1, evr := v24 }) (h : Keep m s x) :
    Keep m s { x with life := v1, evr := v24 } :=
  Keep.after hm ⟨rfl, hs⟩ h

theorem Keep.upd_16785408 {m : Nat} {s x : State} {v13 : _} {v24 : _} (hm : 16785408 &&& m = 16785408)
    (hs : Sound x → Sound { x with pins := v13, evr := v24 }) (h : Keep m s x) :
    Keep m s { x with pins := v13, evr := v24 } :=
  Keep.after hm ⟨rfl, hs⟩ h

theorem Keep.upd_16793600 {m : Nat} {s x : State} {v14 : _} {v24 : _} (hm : 16793600 &&& m = 16793600)
    (hs : Sound x → Sound { x with pwr := v14, evr := v24 }) (h : Keep m s x) :
    Keep m s { x with pwr := v14, evr := v24 } :=
  Keep.after hm ⟨rfl, hs⟩ h

theorem Keep.upd_33554432 {m : Nat} {s x : State} {v25 : _} (hm : 33554432 &&& m = 33554432) (h : Keep m s x) :
    Keep m s { x with sec := v25 } :=
  Keep.after hm ⟨rfl, fun a => a⟩ h

theorem Keep.upd_33554688 {m : Nat} {s x : State} {v8 : _} {v25 : _} (hm : 33554688 &&& m = 33554688) (h : Keep m s x) :
    Keep m s { x with nv := v8, sec := v25 } :=
  Keep.after hm ⟨rfl, fun a => a⟩ h

theorem Keep.upd_37748736 {m : Nat} {s x : State} {v22 : _} {v25 : _} (hm : 37748736 &&& m = 37748736) (h : Keep m s x) :
    Keep m s { x with nor := v22, sec := v25 } :=
  Keep.after hm ⟨rfl, fun a => a⟩ h

theorem Keep.upd_50331650 {m : Nat} {s x : State} {v1 : _} {v24 : _} {v25 : _} (hm : 50331650 &&& m = 50331650)
    (hs : Sound x → Sound { x with life := v1, evr := v24, sec := v25 }) (h : Keep m s x) :
    Keep m s { x with life := v1, evr := v24, sec := v25 } :=
  Keep.after hm ⟨rfl, hs⟩ h

theorem Keep.upd_67108864 {m : Nat} {s x : State} {v26 : _} (hm : 67108864 &&& m = 67108864) (h : Keep m s x) :
    Keep m s { x with reg := v26 } :=
  Keep.after hm ⟨rfl, fun a => a⟩ h

theorem Keep.upd_68157440 {m : Nat} {s x : State} {v20 : _} {v26 : _} (hm : 68157440 &&& m = 68157440) (h : Keep m s x) :
    Keep m s { x with dram := v20, reg := v26 } :=
  Keep.after hm ⟨rfl, fun a => a⟩ h

theorem Keep.upd_71303168 {m : Nat} {s x : State} {v22 : _} {v26 : _} (hm : 71303168 &&& m = 71303168) (h : Keep m s x) :
    Keep m s { x with nor := v22, reg := v26 } :=
  Keep.after hm ⟨rfl, fun a => a⟩ h

theorem Keep.upd_100663296 {m : Nat} {s x : State} {v25 : _} {v26 : _} (hm : 100663296 &&& m = 100663296) (h : Keep m s x) :
    Keep m s { x with sec := v25, reg := v26 } :=
  Keep.after hm ⟨rfl, fun a => a⟩ h

theorem Keep.upd_134086646 {m : Nat} {s x : State} {v1 : _} {v2 : _} {v4 : _} {v5 : _} {v6 : _} {v7 : _} {v8 : _} {v9 : _} {v10 : _} {v11 : _} {v12 : _} {v13 : _} {v14 : _} {v15 : _} {v16 : _} {v18 : _} {v19 : _} {v20 : _} {v21 : _} {v22 : _} {v23 : _} {v24 : _} {v25 : _} {v26 : _} (hm : 134086646 &&& m = 134086646)
    (hs : Sound x → Sound { x with life := v1, clk := v2, link := v4, parse := v5, str := v6, ord := v7, nv := v8, mbx := v9, i3c := v10, hnd := v11, crg := v12, pins := v13, pwr := v14, hup := v15, thm := v16, med := v18, intg := v19, dram := v20, sram := v21, nor := v22, st := v23, evr := v24, sec := v25, reg := v26 }) (h : Keep m s x) :
    Keep m s { x with life := v1, clk := v2, link := v4, parse := v5, str := v6, ord := v7, nv := v8, mbx := v9, i3c := v10, hnd := v11, crg := v12, pins := v13, pwr := v14, hup := v15, thm := v16, med := v18, intg := v19, dram := v20, sram := v21, nor := v22, st := v23, evr := v24, sec := v25, reg := v26 } :=
  Keep.after hm ⟨rfl, hs⟩ h

theorem Keep.upd_134217728 {m : Nat} {s x : State} {v27 : _} (hm : 134217728 &&& m = 134217728) (h : Keep m s x) :
    Keep m s { x with out := v27 } :=
  Keep.after hm ⟨rfl, fun a => a⟩ h

theorem Keep.upd_268435456 {m : Nat} {s x : State} {v28 : _} (hm : 268435456 &&& m = 268435456) (h : Keep m s x) :
    Keep m s { x with free := v28 } :=
  Keep.after hm ⟨rfl, fun a => a⟩ h

theorem Keep.upd_335806464 {m : Nat} {s x : State} {v18 : _} {v26 : _} {v28 : _} (hm : 335806464 &&& m = 335806464) (h : Keep m s x) :
    Keep m s { x with med := v18, reg := v26, free := v28 } :=
  Keep.after hm ⟨rfl, fun a => a⟩ h

theorem Keep.upd_373402626 {m : Nat} {s x : State} {v1 : _} {v10 : _} {v11 : _} {v13 : _} {v15 : _} {v16 : _} {v22 : _} {v25 : _} {v26 : _} {v28 : _} (hm : 373402626 &&& m = 373402626)
    (hs : Sound x → Sound { x with life := v1, i3c := v10, hnd := v11, pins := v13, hup := v15, thm := v16, nor := v22, sec := v25, reg := v26, free := v28 }) (h : Keep m s x) :
    Keep m s { x with life := v1, i3c := v10, hnd := v11, pins := v13, hup := v15, thm := v16, nor := v22, sec := v25, reg := v26, free := v28 } :=
  Keep.after hm ⟨rfl, hs⟩ h

end Sys2Proof.Laws
end

