-- ==== Sys2Proof/Laws/Keep1.lean ====
section
/-! SUPPORT. What each operation and each meaning may change, and that it keeps soundness: part 1 of 4, each after the
ones it uses. -/

namespace Sys2Proof.Laws

open Sys2Proof Sys2Proof.Machine Sys2Proof.Safety

theorem drawn_keep : ∀ s, Keep 268435456 s (drawn s) := by
  intro s
  unfold drawn
  exact
    Keep.upd_268435456 rfl (Keep.refl _ _)

theorem emit_keep : ∀ a0 s, Keep 134217728 s (emit a0 s) := by
  intro a0 s
  unfold emit
  exact
    Keep.upd_134217728 rfl (Keep.refl _ _)

theorem onLink_keep : ∀ a0 s, Keep 16 s (onLink a0 s) := by
  intro a0 s
  unfold onLink
  exact
    Keep.upd_16 rfl (Keep.refl _ _)

theorem beginStage_keep : ∀ a0 a1 s, Keep 33554432 s (beginStage a0 a1 s) := by
  intro a0 a1 s
  unfold beginStage
  dsimp only
  exact
    Keep.upd_33554432 rfl (Keep.refl _ _)

theorem trimParser_keep : ∀ s, Keep 32 s (trimParser s) := by
  intro s
  unfold trimParser
  dsimp only
  exact
    Keep.upd_32 rfl (Keep.refl _ _)

theorem zeroizeKey_keep : ∀ a0 s, Keep 33554432 s (zeroizeKey a0 s) := by
  intro a0 s
  unfold zeroizeKey
  dsimp only
  exact
    Keep.upd_33554432 rfl (Keep.refl _ _)

theorem updateDiscard_keep : ∀ a0 a1 s, Keep 33554432 s (updateDiscard a0 a1 s) := by
  intro a0 a1 s
  unfold updateDiscard
  dsimp only
  exact
    Keep.upd_33554432 rfl (Keep.refl _ _)

theorem execHoldupLoadRelease_keep : ∀ a0 s, KeepR 32768 s (execHoldupLoadRelease a0 s) := by
  intro a0 s
  unfold execHoldupLoadRelease
  dsimp only
  exact
    KeepR.next (Keep.ite (Keep.upd_32768 rfl (Keep.refl _ _)) (Keep.refl _ _))

theorem mendBoot_keep : ∀ s, Keep 4194304 s (mendBoot s) := by
  intro s
  unfold mendBoot
  dsimp only
  exact
    (by split; exacts [(Keep.upd_4194304 rfl (Keep.refl _ _)), (Keep.upd_4194304 rfl (Keep.refl _ _)), (Keep.ite
      (Keep.upd_4194304 rfl (Keep.refl _ _)) (Keep.ite (Keep.upd_4194304 rfl (Keep.refl _ _)) (Keep.ite (Keep.ite
      (Keep.upd_4194304 rfl (Keep.refl _ _)) (Keep.upd_4194304 rfl (Keep.refl _ _))) (Keep.refl _ _)))), (Keep.refl _
      _)])

theorem execWakeNRelease_keep : ∀ s, KeepR 16384 s (execWakeNRelease s) := by
  intro s
  unfold execWakeNRelease
  dsimp only
  exact
    KeepR.next (Keep.upd_16384 rfl (Keep.refl _ _))

theorem passBits_keep : ∀ a0 s, Keep 32 s (passBits a0 s) := by
  intro a0 s
  unfold passBits
  dsimp only
  exact
    Keep.upd_32 rfl (Keep.refl _ _)

theorem onLanes_keep : ∀ a0 s, Keep 16 s (onLanes a0 s) := by
  intro a0 s
  unfold onLanes
  exact
    Keep.on (onLink_keep _ _) (Keep.refl _ _) rfl

theorem provision_keep : ∀ a0 s, Keep 4194304 s (provision a0 s).1 := by
  intro a0 s
  unfold provision
  dsimp only
  exact
    (by split; exacts [(by split; exacts [(Keep.refl _ _), (Keep.upd_4194304 rfl (Keep.refl _ _))]), (by split; exacts
      [(Keep.upd_4194304 rfl (Keep.refl _ _)), (Keep.refl _ _)])])

theorem updateWrite_keep : ∀ a0 a1 s, Keep 128 s (updateWrite a0 a1 s) := by
  intro a0 a1 s
  unfold updateWrite
  dsimp only
  exact
    Keep.upd_128 rfl (Keep.refl _ _)

theorem datePrograms_keep : ∀ a0 s, Keep 131072 s (datePrograms a0 s) := by
  intro a0 s
  unfold datePrograms
  dsimp only
  exact
    Keep.upd_131072 rfl (Keep.refl _ _)

theorem updateStream_keep : ∀ a0 a1 s, Keep 64 s (updateStream a0 a1 s) := by
  intro a0 a1 s
  unfold updateStream
  dsimp only
  exact
    Keep.upd_64 rfl (Keep.refl _ _)

theorem enqueueFence_keep : ∀ a0 s, Keep 128 s (enqueueFence a0 s) := by
  intro a0 s
  unfold enqueueFence
  dsimp only
  exact
    Keep.upd_128 rfl (Keep.refl _ _)

theorem noteLast_keep : ∀ a0 a1 a2 a3 a4 s, Keep 2097152 s (noteLast a0 a1 a2 a3 a4 s) := by
  intro a0 a1 a2 a3 a4 s
  unfold noteLast
  dsimp only
  exact
    Keep.upd_2097152 rfl (Keep.refl _ _)

theorem setI3cEn_keep : ∀ a0 s, Keep 4096 s (setI3cEn a0 s) := by
  intro a0 s
  refine Keep.upd_4096 rfl (fun h => ⟨h.handles, ?_, h.mail, h.recorder⟩) (Keep.refl _ _)
  have r := h.ring
  split
  · exact ⟨r.tail, r.headPcie, r.tail, r.unreadPcie, by simp⟩
  · split
    · exact r
    · exact ⟨r.tail, r.headPcie, r.headI3c, r.unreadPcie, by simp⟩

theorem updateSq_keep : ∀ a0 a1 s, Keep 256 s (updateSq a0 a1 s) := by
  intro a0 a1 s
  unfold updateSq
  dsimp only
  exact
    Keep.upd_256 rfl (Keep.refl _ _)

theorem unmapRange_keep : ∀ a0 a1 s, Keep 131072 s (unmapRange a0 a1 s) := by
  intro a0 a1 s
  unfold unmapRange
  dsimp only
  exact
    Keep.upd_131072 rfl (Keep.refl _ _)

theorem installFactory_keep : ∀ a0 s, Keep 37748736 s (installFactory a0 s) := by
  intro a0 s
  unfold installFactory
  dsimp only
  exact
    Keep.ite (Keep.refl _ _) (Keep.upd_37748736 rfl (Keep.refl _ _))

theorem updateCq_keep : ∀ a0 a1 s, Keep 256 s (updateCq a0 a1 s) := by
  intro a0 a1 s
  unfold updateCq
  dsimp only
  exact
    Keep.upd_256 rfl (Keep.refl _ _)

theorem updateBox_keep : ∀ a0 a1 s, Keep 512 s (updateBox a0 a1 s) := by
  intro a0 a1 s
  exact Keep.upd_512 rfl (fun h => ⟨h.handles, h.ring, ⟨by simpa using h.mail.boxes, h.mail.areas⟩, h.recorder⟩)
    (Keep.refl _ _)

theorem wantVisit_keep : ∀ a0 s, Keep 524288 s (wantVisit a0 s) := by
  intro a0 s
  unfold wantVisit
  dsimp only
  exact
    Keep.ite (Keep.refl _ _) (Keep.upd_524288 rfl (Keep.refl _ _))

theorem updateTake_keep : ∀ a0 a1 s, Keep 64 s (updateTake a0 a1 s) := by
  intro a0 a1 s
  unfold updateTake
  dsimp only
  exact
    Keep.upd_64 rfl (Keep.refl _ _)

theorem clearOverflow_keep : ∀ s, Keep 4096 s (clearOverflow s) := by
  intro s
  unfold clearOverflow
  dsimp only
  exact
    Keep.upd_4096 rfl (fun h => Sound.re h rfl rfl rfl rfl rfl rfl rfl rfl rfl rfl rfl) ((Keep.refl _ _))

theorem dropParser_keep : ∀ s, Keep 32 s (dropParser s) := by
  intro s
  unfold dropParser
  dsimp only
  exact
    Keep.upd_32 rfl (Keep.refl _ _)

theorem onlyCopy_keep : ∀ a0 s, Keep 131072 s (onlyCopy a0 s) := by
  intro a0 s
  unfold onlyCopy
  dsimp only
  exact
    Keep.upd_131072 rfl (Keep.refl _ _)

theorem endOwnership_keep : ∀ a0 s, Keep 512 s (endOwnership a0 s) := by
  intro a0 s
  exact Keep.upd_512 rfl (fun h => ⟨h.handles, h.ring, ⟨by simpa [changeWhere] using h.mail.boxes, h.mail.areas⟩,
    h.recorder⟩) (Keep.refl _ _)

theorem addToRun_keep : ∀ a0 s, Keep 32 s (addToRun a0 s) := by
  intro a0 s
  unfold addToRun
  dsimp only
  exact
    Keep.upd_32 rfl (Keep.refl _ _)

theorem writeSubsys_keep : ∀ a0 s, Keep 67108864 s (writeSubsys a0 s) := by
  intro a0 s
  unfold writeSubsys
  dsimp only
  exact
    Keep.ite (Keep.refl _ _) (Keep.upd_67108864 rfl (Keep.refl _ _))

theorem putSlot_keep : ∀ a0 a1 a2 s, Keep 4194304 s (putSlot a0 a1 a2 s) := by
  intro a0 a1 a2 s
  unfold putSlot
  dsimp only
  exact
    Keep.ite (Keep.upd_4194304 rfl (Keep.refl _ _)) (Keep.upd_4194304 rfl (Keep.refl _ _))

theorem clearCritical_keep : ∀ a0 s, Keep 256 s (clearCritical a0 s) := by
  intro a0 s
  unfold clearCritical
  dsimp only
  exact
    Keep.upd_256 rfl (Keep.refl _ _)

theorem updateNs_keep : ∀ a0 a1 s, Keep 256 s (updateNs a0 a1 s) := by
  intro a0 a1 s
  unfold updateNs
  dsimp only
  exact
    Keep.upd_256 rfl (Keep.refl _ _)

theorem orphan_keep : ∀ s, Keep 128 s (orphan s) := by
  intro s
  unfold orphan
  dsimp only
  exact
    Keep.upd_128 rfl (Keep.refl _ _)

theorem abortUnposted_keep : ∀ a0 a1 s, Keep 256 s (abortUnposted a0 a1 s) := by
  intro a0 a1 s
  unfold abortUnposted
  dsimp only
  exact
    Keep.upd_256 rfl (Keep.refl _ _)

theorem execTrstN_keep : ∀ s, KeepR 33554432 s (execTrstN s) := by
  intro s
  unfold execTrstN
  dsimp only
  exact
    KeepR.next (Keep.upd_33554432 rfl (Keep.refl _ _))

theorem updateSb_keep : ∀ a0 a1 s, Keep 131072 s (updateSb a0 a1 s) := by
  intro a0 a1 s
  unfold updateSb
  dsimp only
  exact
    Keep.upd_131072 rfl (Keep.refl _ _)

theorem execFaultPinAssert_keep : ∀ a0 s, KeepR 8192 s (execFaultPinAssert a0 s) := by
  intro a0 s
  unfold execFaultPinAssert
  dsimp only
  exact
    KeepR.next (Keep.upd_8192 rfl (Keep.refl _ _))

theorem latchHigh_keep : ∀ a0 a1 s, Keep 67108864 s (latchHigh a0 a1 s) := by
  intro a0 a1 s
  unfold latchHigh
  dsimp only
  exact
    (by split; exacts [(Keep.upd_67108864 rfl (Keep.refl _ _)), (Keep.upd_67108864 rfl (Keep.refl _ _)),
      (Keep.upd_67108864 rfl (Keep.refl _ _)), (Keep.upd_67108864 rfl (Keep.refl _ _))])

theorem updateDie_keep : ∀ a0 a1 s, Keep 262144 s (updateDie a0 a1 s) := by
  intro a0 a1 s
  unfold updateDie
  dsimp only
  exact
    Keep.upd_262144 rfl (Keep.refl _ _)

theorem clearPllFail_keep : ∀ a0 s, Keep 16384 s (clearPllFail a0 s) := by
  intro a0 s
  unfold clearPllFail
  dsimp only
  exact
    Keep.upd_16384 rfl (Keep.refl _ _)

theorem updateLink_keep : ∀ a0 a1 s, Keep 262144 s (updateLink a0 a1 s) := by
  intro a0 a1 s
  unfold updateLink
  dsimp only
  exact
    Keep.upd_262144 rfl (Keep.refl _ _)

theorem excludeSensor_keep : ∀ a0 s, Keep 65536 s (excludeSensor a0 s) := by
  intro a0 s
  unfold excludeSensor
  dsimp only
  exact
    Keep.upd_65536 rfl (Keep.refl _ _)

theorem loadFenced_keep : ∀ s, Keep 8388608 s (loadFenced s) := by
  intro s
  unfold loadFenced
  dsimp only
  exact
    Keep.upd_8388608 rfl (Keep.refl _ _)

theorem updateHandle_keep (v : BitVec 32) (f : Handle → Handle) (s : State) (hf : ∀ h, (f h).value = h.value) :
    Keep 2048 s (updateHandle v f s) := by
  refine Keep.upd_2048 rfl (fun h => ⟨⟨?_, h.handles.low, h.handles.high, h.handles.kept⟩, h.ring, h.mail, h.recorder⟩)
    (Keep.refl _ _)
  have e : (changeWhere (fun h => h.value == v) f s.hnd.live).map (fun x => x.value.toNat % 256) =
      s.hnd.live.map (fun x => x.value.toNat % 256) := by
    simp only [changeWhere, List.map_map]
    refine List.map_congr_left fun x _ => ?_
    simp only [Function.comp]
    split
    · rw [hf]
    · rfl
  rw [e]
  exact h.handles.slots

theorem execNorContinuousReadTimeout_keep : ∀ s, KeepR 4194304 s (execNorContinuousReadTimeout s) := by
  intro s
  unfold execNorContinuousReadTimeout
  dsimp only
  exact
    KeepR.next (Keep.upd_4194304 rfl (Keep.refl _ _))

theorem bufferWords_keep : ∀ a0 s, Keep 32 s (bufferWords a0 s) := by
  intro a0 s
  unfold bufferWords
  dsimp only
  exact
    Keep.upd_32 rfl (Keep.refl _ _)

theorem enqueueWrite_keep : ∀ a0 s, Keep 128 s (enqueueWrite a0 s) := by
  intro a0 s
  unfold enqueueWrite
  dsimp only
  exact
    Keep.upd_128 rfl (Keep.refl _ _)

theorem resyncParser_keep : ∀ s, Keep 32 s (resyncParser s) := by
  intro s
  unfold resyncParser
  dsimp only
  exact
    Keep.upd_32 rfl (Keep.refl _ _)

theorem clearOverrun_keep : ∀ a0 a1 s, Keep 512 s (clearOverrun a0 a1 s) := by
  intro a0 a1 s
  unfold clearOverrun
  exact
    Keep.on (updateBox_keep _ _ _) (Keep.refl _ _) rfl

theorem startTest_keep : ∀ a0 a1 s, Keep 8388608 s (startTest a0 a1 s) := by
  intro a0 a1 s
  unfold startTest
  dsimp only
  exact
    Keep.ite (Keep.upd_8388608 rfl (Keep.refl _ _)) (Keep.upd_8388608 rfl (Keep.refl _ _))

theorem updateContext_keep : ∀ a0 a1 s, Keep 262144 s (updateContext a0 a1 s) := by
  intro a0 a1 s
  unfold updateContext
  exact
    Keep.on (updateDie_keep _ _ _) (Keep.refl _ _) rfl

theorem setPcieEn_keep : ∀ a0 s, Keep 4096 s (setPcieEn a0 s) := by
  intro a0 s
  refine Keep.upd_4096 rfl (fun h => ⟨h.handles, ?_, h.mail, h.recorder⟩) (Keep.refl _ _)
  have r := h.ring
  split
  · exact ⟨r.tail, r.tail, r.headI3c, by simp, r.unreadI3c⟩
  · split
    · exact r
    · exact ⟨r.tail, r.headPcie, r.headI3c, by simp, r.unreadI3c⟩

theorem clearMappings_keep : ∀ a0 s, Keep 131072 s (clearMappings a0 s) := by
  intro a0 s
  unfold clearMappings
  dsimp only
  exact
    Keep.upd_131072 rfl (Keep.refl _ _)

theorem countHubReset_keep : ∀ a0 s, Keep 16777216 s (countHubReset a0 s) := by
  intro a0 s
  unfold countHubReset
  dsimp only
  exact
    Keep.upd_16777216 rfl (fun h => Sound.re h rfl rfl rfl rfl rfl rfl rfl rfl rfl rfl rfl) ((Keep.refl _ _))

theorem enterRetrain_keep : ∀ s, Keep 48 s (enterRetrain s) := by
  intro s
  unfold enterRetrain
  exact
    Keep.on (resyncParser_keep _) (Keep.on (onLink_keep _ _) (Keep.refl _ _) rfl) rfl

theorem relock_keep : ∀ a0 s, Keep 278528 s (relock a0 s) := by
  intro a0 s
  unfold relock
  dsimp only
  exact
    Keep.ite (Keep.upd_16384 rfl (Keep.refl _ _)) (Keep.ite (Keep.on (updateDie_keep _ _ _) (Keep.refl _ _) rfl)
      (Keep.refl _ _))

theorem putStream_keep : ∀ a0 s, Keep 64 s (putStream a0 s) := by
  intro a0 s
  unfold putStream
  dsimp only
  exact
    Keep.upd_64 rfl (Keep.refl _ _)

theorem attachNs_keep : ∀ a0 a1 s, Keep 131328 s (attachNs a0 a1 s) := by
  intro a0 a1 s
  unfold attachNs
  dsimp only
  exact
    Keep.upd_131072 rfl (Keep.on (updateNs_keep _ _ _) (Keep.refl _ _) rfl)

theorem updateLane_keep : ∀ a0 a1 s, Keep 16 s (updateLane a0 a1 s) := by
  intro a0 a1 s
  unfold updateLane
  dsimp only
  exact
    Keep.upd_16 rfl (Keep.refl _ _)

theorem measureSample_keep : ∀ a0 s, Keep 65536 s (measureSample a0 s) := by
  intro a0 s
  unfold measureSample
  dsimp only
  exact
    Keep.upd_65536 rfl (Keep.refl _ _)

theorem requestPower_keep : ∀ a0 a1 a2 s, Keep 16384 s (requestPower a0 a1 a2 s) := by
  intro a0 a1 a2 s
  unfold requestPower
  dsimp only
  exact
    Keep.upd_16384 rfl (Keep.refl _ _)

theorem tick_keep : ∀ s, Keep 68 s (tick s) := by
  intro s
  unfold tick
  dsimp only
  exact
    Keep.upd_68 rfl (Keep.refl _ _)

theorem dramRuns_keep : ∀ a0 a1 a2 s, Keep 68157440 s (dramRuns a0 a1 a2 s) := by
  intro a0 a1 a2 s
  unfold dramRuns
  dsimp only
  exact
    Keep.upd_68157440 rfl (Keep.refl _ _)

theorem retire_keep : ∀ s a1 a2, Keep 2048 s (retire s a1 a2) := by
  intro s a1 a2
  unfold retire
  split
  · exact Keep.refl _ _
  · refine Keep.upd_2048 rfl (fun h => ⟨⟨?_, h.handles.low, h.handles.high, ?_⟩, h.ring, h.mail, h.recorder⟩)
      (Keep.refl _ _)
    · exact List.Nodup.sublist (List.Sublist.map _ List.filter_sublist) h.handles.slots
    · simp

theorem burnLevel_keep : ∀ s, Keep 4194304 s (burnLevel s) := by
  intro s
  unfold burnLevel
  dsimp only
  exact
    Keep.upd_4194304 rfl (Keep.refl _ _)

theorem dropWrites_keep : ∀ a0 a1 s, Keep 128 s (dropWrites a0 a1 s) := by
  intro a0 a1 s
  unfold dropWrites
  dsimp only
  exact
    Keep.upd_128 rfl (Keep.refl _ _)

theorem haltBundle_keep : ∀ s, Keep 16 s (haltBundle s) := by
  intro s
  unfold haltBundle
  exact
    Keep.on (onLink_keep _ _) (Keep.refl _ _) rfl

theorem execAcquisitionDone_keep : ∀ a0 s, KeepR 16 s (execAcquisitionDone a0 s) := by
  intro a0 s
  unfold execAcquisitionDone
  exact
    KeepR.next (Keep.ite (Keep.on (onLink_keep _ _) (Keep.refl _ _) rfl) (Keep.refl _ _))

theorem execCommitPulseEnd_keep : ∀ a0 s, KeepR 8192 s (execCommitPulseEnd a0 s) := by
  intro a0 s
  unfold execCommitPulseEnd
  exact
    KeepR.next (Keep.upd_8192 rfl (Keep.refl _ _))

theorem updateDram_keep : ∀ a0 a1 s, Keep 1048576 s (updateDram a0 a1 s) := by
  intro a0 a1 s
  unfold updateDram
  dsimp only
  exact
    Keep.upd_1048576 rfl (Keep.refl _ _)

theorem releaseReads_keep : ∀ s, Keep 524288 s (releaseReads s) := by
  intro s
  unfold releaseReads
  dsimp only
  exact
    Keep.upd_524288 rfl (Keep.refl _ _)

theorem putSeg_keep : ∀ a0 s, Keep 131072 s (putSeg a0 s) := by
  intro a0 s
  unfold putSeg
  dsimp only
  exact
    Keep.upd_131072 rfl (Keep.refl _ _)

theorem sweepOn_keep : ∀ a0 a1 s, Keep 2097152 s (sweepOn a0 a1 s) := by
  intro a0 a1 s
  unfold sweepOn
  dsimp only
  exact
    Keep.ite (Keep.upd_2097152 rfl (Keep.refl _ _)) (Keep.upd_2097152 rfl (Keep.refl _ _))

theorem enterAwait_keep : ∀ s, Keep 16 s (enterAwait s) := by
  intro s
  unfold enterAwait
  exact
    Keep.on (onLanes_keep _ _) (Keep.on (onLink_keep _ _) (Keep.refl _ _) rfl) rfl

theorem countHost_keep : ∀ a0 s, Keep 256 s (countHost a0 s) := by
  intro a0 s
  unfold countHost
  dsimp only
  exact
    Keep.ite (Keep.refl _ _) (Keep.ite (Keep.upd_256 rfl (Keep.refl _ _)) (Keep.ite (Keep.upd_256 rfl (Keep.refl _ _))
      (Keep.refl _ _)))

theorem setBankOp_keep : ∀ a0 a1 s, Keep 4194304 s (setBankOp a0 a1 s) := by
  intro a0 a1 s
  unfold setBankOp
  dsimp only
  exact
    Keep.ite (Keep.upd_4194304 rfl (Keep.refl _ _)) (Keep.upd_4194304 rfl (Keep.refl _ _))

theorem resetPcie_keep : ∀ s, Keep 16640 s (resetPcie s) := by
  intro s
  unfold resetPcie
  dsimp only
  exact
    Keep.upd_16640 rfl (Keep.refl _ _)

theorem sendBytes_keep : ∀ a0 a1 a2 s, Keep 134217728 s (sendBytes a0 a1 a2 s) := by
  intro a0 a1 a2 s
  unfold sendBytes
  exact
    Keep.foldl _ _ _ (fun _ _ => (Keep.on (emit_keep _ _) (Keep.refl _ _) rfl)) (Keep.refl _ _)

theorem startTestRun_keep : ∀ s, Keep 32768 s (startTestRun s) := by
  intro s
  unfold startTestRun
  dsimp only
  exact
    Keep.upd_32768 rfl (Keep.refl _ _)

theorem crossGap_keep : ∀ s, Keep 32 s (crossGap s) := by
  intro s
  unfold crossGap
  dsimp only
  exact
    Keep.upd_32 rfl (Keep.refl _ _)

theorem unpark_keep : ∀ a0 s, Keep 262144 s (unpark a0 s) := by
  intro a0 s
  unfold unpark
  exact
    Keep.on (updateDie_keep _ _ _) (Keep.refl _ _) rfl

theorem adminQueues_keep : ∀ s, Keep 256 s (adminQueues s) := by
  intro s
  unfold adminQueues
  dsimp only
  exact
    Keep.upd_256 rfl (Keep.refl _ _)

theorem appendSlot_keep : ∀ a0 s, Keep 131072 s (appendSlot a0 s) := by
  intro a0 s
  unfold appendSlot
  dsimp only
  exact
    Keep.upd_131072 rfl (Keep.refl _ _)

theorem rewriteBanks_keep : ∀ a0 s, Keep 2097152 s (rewriteBanks a0 s) := by
  intro a0 s
  unfold rewriteBanks
  dsimp only
  exact
    Keep.upd_2097152 rfl (Keep.refl _ _)

theorem logReadError_keep : ∀ a0 a1 a2 a3 s, Keep 256 s (logReadError a0 a1 a2 a3 s) := by
  intro a0 a1 a2 a3 s
  unfold logReadError
  dsimp only
  exact
    Keep.upd_256 rfl (Keep.refl _ _)

theorem updateCmd_keep : ∀ a0 a1 a2 s, Keep 256 s (updateCmd a0 a1 a2 s) := by
  intro a0 a1 a2 s
  unfold updateCmd
  dsimp only
  exact
    Keep.upd_256 rfl (Keep.refl _ _)

theorem commitPulse_keep : ∀ a0 s, Keep 8192 s (commitPulse a0 s) := by
  intro a0 s
  unfold commitPulse
  exact
    Keep.upd_8192 rfl (Keep.refl _ _)

theorem consume_keep : ∀ a0 s, Keep 16 s (consume a0 s) := by
  intro a0 s
  unfold consume
  exact
    Keep.on (onLink_keep _ _) (Keep.refl _ _) rfl

theorem updateChan_keep : ∀ a0 a1 s, Keep 262144 s (updateChan a0 a1 s) := by
  intro a0 a1 s
  unfold updateChan
  dsimp only
  exact
    Keep.upd_262144 rfl (Keep.refl _ _)

theorem lastCause_keep : ∀ a0 a1 a2 s, Keep 16777216 s (lastCause a0 a1 a2 s) := by
  intro a0 a1 a2 s
  unfold lastCause
  dsimp only
  exact
    Keep.ite (Keep.upd_16777216 rfl (fun h => Sound.re h rfl rfl rfl rfl rfl rfl rfl rfl rfl rfl rfl) ((Keep.refl _
      _))) (Keep.upd_16777216 rfl (fun h => Sound.re h rfl rfl rfl rfl rfl rfl rfl rfl rfl rfl rfl) ((Keep.refl _ _)))

theorem failBufferRead_keep : ∀ a0 a1 a2 s, Keep 256 s (failBufferRead a0 a1 a2 s) := by
  intro a0 a1 a2 s
  unfold failBufferRead
  dsimp only
  exact
    Keep.on (updateCmd_keep _ _ _ _) (Keep.refl _ _) rfl

theorem reserveBlock_keep : ∀ s, Keep 131072 s (reserveBlock s) := by
  intro s
  unfold reserveBlock
  dsimp only
  exact
    Keep.ite (Keep.refl _ _) (Keep.on (appendSlot_keep _ _) (Keep.refl _ _) rfl)

theorem promote_keep : ∀ a0 s, Keep 131072 s (promote a0 s) := by
  intro a0 s
  unfold promote
  exact
    (by split; exacts [(Keep.on (updateSb_keep _ _ _) (Keep.refl _ _) rfl), (Keep.refl _ _)])

theorem uncleanLedger_keep : ∀ s, Keep 131074 s (uncleanLedger s) := by
  intro s
  unfold uncleanLedger
  dsimp only
  exact
    Keep.foldl _ _ _ (fun _ _ => (Keep.on (appendSlot_keep _ _) (Keep.refl _ _) rfl)) (Keep.upd_131074 rfl (Keep.refl
      _ _))

theorem applyDeallocate_keep : ∀ a0 a1 a2 a3 s, Keep 131072 s (applyDeallocate a0 a1 a2 a3 s) := by
  intro a0 a1 a2 a3 s
  unfold applyDeallocate
  dsimp only
  exact
    (by split; exacts [(Keep.refl _ _), (Keep.ite (Keep.refl _ _) (Keep.foldl _ _ _ (fun _ _ => (Keep.ite (Keep.on
      (putSeg_keep _ _) (Keep.refl _ _) rfl) (Keep.refl _ _))) (Keep.refl _ _)))])

theorem writeLastWords_keep : ∀ s, Keep 16777216 s (writeLastWords s) := by
  intro s
  unfold writeLastWords
  dsimp only
  exact
    Keep.upd_16777216 rfl (fun h => Sound.re h rfl rfl rfl rfl rfl rfl rfl rfl rfl rfl rfl) ((Keep.refl _ _))

theorem releaseSb_keep : ∀ a0 s, Keep 131072 s (releaseSb a0 s) := by
  intro a0 s
  unfold releaseSb
  exact
    (by split; exacts [(Keep.on (appendSlot_keep _ _) (Keep.on (updateSb_keep _ _ _) (Keep.refl _ _) rfl) rfl),
      (Keep.on (appendSlot_keep _ _) (Keep.on (updateSb_keep _ _ _) (Keep.on (clearMappings_keep _ _) (Keep.refl _ _)
      rfl) rfl) rfl)])

theorem putOverlay_keep : ∀ a0 a1 a2 a3 a4 s, ∀ t, putOverlay a0 a1 a2 a3 a4 s = some t → Keep 131072 s t := by
  intro a0 a1 a2 a3 a4 s t h
  unfold putOverlay at h
  dsimp only at h
  split at h
  · cases h
  · cases h
    exact Keep.upd_131072 rfl (Keep.on (putSeg_keep _ _) (Keep.refl _ _) rfl)

theorem dropOverlay_keep : ∀ a0 a1 s, Keep 131072 s (dropOverlay a0 a1 s) := by
  intro a0 a1 s
  unfold dropOverlay
  dsimp only
  exact
    Keep.ite (Keep.refl _ _) (Keep.ite (Keep.upd_131072 rfl (Keep.refl _ _)) (Keep.on (putSeg_keep _ _)
      (Keep.upd_131072 rfl (Keep.refl _ _)) rfl))

theorem protect_keep : ∀ a0 a1 s, Keep 4194304 s (protect a0 a1 s) := by
  intro a0 a1 s
  unfold protect
  dsimp only
  exact
    Keep.upd_4194304 rfl (Keep.refl _ _)

theorem numberCmd_keep : ∀ a0 a1 s, Keep 256 s (numberCmd a0 a1 s) := by
  intro a0 a1 s
  unfold numberCmd
  exact
    (by split; exacts [(Keep.on (updateCmd_keep _ _ _ _) (Keep.refl _ _) rfl), (Keep.refl _ _)])

theorem writeFlipBank_keep : ∀ a0 s, Keep 2097152 s (writeFlipBank a0 s) := by
  intro a0 s
  unfold writeFlipBank
  dsimp only
  exact
    Keep.ite (Keep.upd_2097152 rfl (Keep.refl _ _)) (Keep.refl _ _)

theorem receiveWrite_keep : ∀ a0 a1 a2 a3 a4 s, Keep 384 s (receiveWrite a0 a1 a2 a3 a4 s) := by
  intro a0 a1 a2 a3 a4 s
  unfold receiveWrite
  dsimp only
  exact
    Keep.on (enqueueWrite_keep _ _) (Keep.on (updateCmd_keep _ _ _ _) (Keep.refl _ _) rfl) rfl

theorem execLaneSignalDetect_keep : ∀ a0 s, KeepR 16 s (execLaneSignalDetect a0 s) := by
  intro a0 s
  unfold execLaneSignalDetect
  dsimp only
  exact
    KeepR.next (Keep.ite (Keep.ite (Keep.on (onLink_keep _ _) (Keep.on (onLink_keep _ _) (Keep.refl _ _) rfl) rfl)
      (Keep.on (onLink_keep _ _) (Keep.refl _ _) rfl)) (Keep.refl _ _))

theorem writeFlipMask_keep : ∀ a0 s, Keep 2097152 s (writeFlipMask a0 s) := by
  intro a0 s
  unfold writeFlipMask
  dsimp only
  exact
    Keep.ite (Keep.upd_2097152 rfl (Keep.refl _ _)) (Keep.refl _ _)

theorem restContext_keep : ∀ a0 s, Keep 262144 s (restContext a0 s) := by
  intro a0 s
  unfold restContext
  exact
    (by split; exacts [(Keep.on (updateChan_keep _ _ _) (Keep.refl _ _) rfl), (Keep.refl _ _)])

theorem enterUp_keep : ∀ s, Keep 48 s (enterUp s) := by
  intro s
  unfold enterUp
  exact
    Keep.on (resyncParser_keep _) (Keep.on (onLanes_keep _ _) (Keep.on (onLink_keep _ _) (Keep.refl _ _) rfl) rfl) rfl

theorem assertChip_keep : ∀ a0 a1 s, Keep 134479872 s (assertChip a0 a1 s) := by
  intro a0 a1 s
  unfold assertChip
  exact
    Keep.ite (Keep.refl _ _) (Keep.on (emit_keep _ _) (Keep.on (updateChan_keep _ _ _) (Keep.refl _ _) rfl) rfl)

theorem newEpoch_keep : ∀ a0 a1 s, Keep 131456 s (newEpoch a0 a1 s) := by
  intro a0 a1 s
  unfold newEpoch
  dsimp only
  exact
    (by split; exacts [(Keep.refl _ _), (Keep.on (dropWrites_keep _ _ _) (Keep.on (unmapRange_keep _ _ _) (Keep.on
      (updateNs_keep _ _ _) (Keep.on (appendSlot_keep _ _) (Keep.upd_128 rfl (Keep.refl _ _)) rfl) rfl) rfl) rfl)])

theorem putEntry_keep (b : RingBody) (s : State) (hf : slotFree s.crg = true) : Keep 6144 s (putEntry b s) := by
  have w : Keep 6144 s { s with crg := ringWrite s.crg b } :=
    Keep.upd_4096 rfl (fun h => ⟨h.handles, ring_write h.ring hf b, h.mail, h.recorder⟩) (Keep.refl _ _)
  unfold putEntry
  dsimp only
  exact Keep.ite (Keep.on (retire_keep _ _ _) w rfl) w

theorem execSuspendResume_keep : ∀ a0 a1 s, KeepR 262144 s (execSuspendResume a0 a1 s) := by
  intro a0 a1 s
  unfold execSuspendResume
  exact
    KeepR.next (by split; exacts [(Keep.refl _ _), (Keep.ite (Keep.on (unpark_keep _ _) (Keep.refl _ _) rfl)
      (Keep.refl _ _))])

theorem finishClose_keep : ∀ a0 s, Keep 131072 s (finishClose a0 s) := by
  intro a0 s
  unfold finishClose
  exact
    (by split; exacts [(Keep.refl _ _), (Keep.ite (Keep.on (appendSlot_keep _ _) (Keep.on (updateSb_keep _ _ _)
      (Keep.refl _ _) rfl) rfl) (Keep.refl _ _))])

theorem keepFlash_keep : ∀ s, Keep 268566528 s (keepFlash s) := by
  intro s
  unfold keepFlash
  dsimp only
  exact
    Keep.upd_131072 rfl (Keep.foldl _ _ _ (fun _ _ => (Keep.ite (Keep.on (drawn_keep _) (Keep.on (updateSb_keep _ _ _)
      (Keep.refl _ _) rfl) rfl) (Keep.refl _ _))) (Keep.refl _ _))

theorem putBlock_keep : ∀ a0 s, Keep 2097152 s (putBlock a0 s) := by
  intro a0 s
  unfold putBlock
  dsimp only
  exact
    Keep.upd_2097152 rfl (Keep.refl _ _)

theorem startChannels_keep : ∀ s, Keep 268697600 s (startChannels s) := by
  intro s
  unfold startChannels
  dsimp only
  exact
    Keep.upd_262144 rfl (Keep.on (drawn_keep _) (Keep.upd_262144 rfl (Keep.refl _ _)) rfl)

theorem failBringUp_keep : ∀ s, Keep 16 s (failBringUp s) := by
  intro s
  unfold failBringUp
  exact
    Keep.on (enterAwait_keep _) (Keep.on (onLink_keep _ _) (Keep.refl _ _) rfl) rfl

theorem startLink_keep : ∀ a0 a1 s, Keep 16 s (startLink a0 a1 s) := by
  intro a0 a1 s
  unfold startLink
  dsimp only
  exact
    Keep.on (enterAwait_keep _) (Keep.on (onLanes_keep _ _) (Keep.on (onLink_keep _ _) (Keep.refl _ _) rfl) rfl) rfl

theorem writeBlock_keep : ∀ a0 s, Keep 2097152 s (writeBlock a0 s) := by
  intro a0 s
  unfold writeBlock
  dsimp only
  exact
    Keep.ite (Keep.upd_2097152 rfl (Keep.on (putBlock_keep _ _) (Keep.refl _ _) rfl)) (Keep.on (putBlock_keep _ _)
      (Keep.refl _ _) rfl)

theorem execEventTokenRefill_keep : ∀ a0 s, KeepR 16777216 s (execEventTokenRefill a0 s) := by
  intro a0 s
  unfold execEventTokenRefill
  dsimp only
  exact
    KeepR.next (Keep.ite (Keep.refl _ _) (Keep.upd_16777216 rfl (fun h => Sound.re h rfl rfl rfl rfl rfl rfl rfl rfl
      rfl rfl rfl) ((Keep.refl _ _))))

theorem passCancel_keep : ∀ a0 s, Keep 2048 s (passCancel a0 s) := by
  intro a0 s
  unfold passCancel
  exact
    Keep.on (updateHandle_keep _ _ _ (fun _ => rfl)) (Keep.refl _ _) rfl

theorem putFlags_keep : ∀ a0 s, Keep 4194304 s (putFlags a0 s) := by
  intro a0 s
  unfold putFlags
  dsimp only
  exact
    Keep.upd_4194304 rfl (Keep.refl _ _)

theorem execPreambleDetect_keep : ∀ s, KeepR 16 s (execPreambleDetect s) := by
  intro s
  unfold execPreambleDetect
  dsimp only
  exact
    KeepR.next (Keep.ite (Keep.on (onLanes_keep _ _) (Keep.on (onLink_keep _ _) (Keep.refl _ _) rfl) rfl) (Keep.refl _
      _))

theorem recordLost_keep : ∀ a0 s, Keep 16777218 s (recordLost a0 s) := by
  intro a0 s
  exact Keep.upd_16777218 rfl (fun h => ⟨h.handles, h.ring, h.mail, ⟨h.recorder.fifo⟩⟩) (Keep.refl _ _)

theorem invalidate_keep : ∀ a0 s, Keep 4194304 s (invalidate a0 s) := by
  intro a0 s
  unfold invalidate
  dsimp only
  exact
    Keep.ite (Keep.upd_4194304 rfl (Keep.refl _ _)) (Keep.ite (Keep.upd_4194304 rfl (Keep.refl _ _)) (Keep.ite
      (Keep.on (putSlot_keep _ _ _ _) (Keep.refl _ _) rfl) (Keep.ite (Keep.refl _ _) (Keep.ite (Keep.on (putSlot_keep
      _ _ _ _) (Keep.refl _ _) rfl) (Keep.ite (Keep.refl _ _) (Keep.ite (Keep.upd_4194304 rfl (Keep.refl _ _))
      (Keep.upd_4194304 rfl (Keep.refl _ _))))))))

theorem updateGc_keep : ∀ s, Keep 131072 s (updateGc s) := by
  intro s
  unfold updateGc
  dsimp only
  exact
    Keep.ite (Keep.refl _ _) (Keep.upd_131072 rfl (Keep.refl _ _))

theorem startStep_keep {m : Nat} (f : State → State) (s : State) (hf : ∀ x, Keep m x (f x)) : Keep m s (startStep f s) := by
  unfold startStep
  exact Keep.ite (hf s) (Keep.refl m s)

theorem claimBox_keep : ∀ a0 a1 s, Keep 512 s (claimBox a0 a1 s) := by
  intro a0 a1 s
  unfold claimBox
  exact
    Keep.on (updateBox_keep _ _ _) (Keep.refl _ _) rfl

theorem rowDone_keep : ∀ a0 a1 s, Keep 131072 s (rowDone a0 a1 s) := by
  intro a0 a1 s
  unfold rowDone
  dsimp only
  exact
    Keep.on (updateSb_keep _ _ _) (Keep.refl _ _) rfl

theorem releaseBus_keep : ∀ a0 s, Keep 262144 s (releaseBus a0 s) := by
  intro a0 s
  unfold releaseBus
  exact
    Keep.on (updateChan_keep _ _ _) (Keep.refl _ _) rfl

theorem execMbxOwnershipTimeout_keep : ∀ a0 s, KeepR 512 s (execMbxOwnershipTimeout a0 s) := by
  intro a0 s
  unfold execMbxOwnershipTimeout
  exact
    KeepR.next (Keep.on (updateBox_keep _ _ _) (Keep.refl _ _) rfl)

theorem fetchQueue_keep : ∀ a0 a1 a2 s, Keep 256 s (fetchQueue a0 a1 a2 s) := by
  intro q n l
  induction n generalizing l with
  | zero => intro s; exact Keep.refl _ _
  | succ n ih =>
    cases l with
    | nil => intro s; exact Keep.refl _ _
    | cons e es =>
      intro s
      unfold fetchQueue
      exact Keep.ite (Keep.refl _ _) (Keep.on (ih _ _) (Keep.on (updateSq_keep _ _ _) (Keep.upd_256 rfl (Keep.refl _ _))
        rfl) rfl)

theorem execCrystalFailure_keep : ∀ s, KeepR 4 s (execCrystalFailure s) := by
  intro s
  unfold execCrystalFailure
  dsimp only
  exact
    KeepR.next (Keep.ite (Keep.refl _ _) (Keep.upd_4 rfl (Keep.refl _ _)))

theorem addMove_keep : ∀ a0 s, Keep 131072 s (addMove a0 s) := by
  intro a0 s
  unfold addMove
  dsimp only
  exact
    Keep.upd_131072 rfl (Keep.refl _ _)

theorem joinHoldup_keep : ∀ a0 s, Keep 34816 s (joinHoldup a0 s) := by
  intro a0 s
  unfold joinHoldup
  dsimp only
  exact
    (by split; exacts [(Keep.ite (Keep.on (passCancel_keep _ _) (Keep.upd_32768 rfl (Keep.refl _ _)) rfl)
      (Keep.upd_32768 rfl (Keep.refl _ _))), (Keep.upd_32768 rfl (Keep.refl _ _))])

theorem enterDown_keep : ∀ s, Keep 48 s (enterDown s) := by
  intro s
  unfold enterDown
  dsimp only
  exact
    Keep.on (dropParser_keep _) (Keep.on (onLanes_keep _ _) (Keep.on (onLink_keep _ _) (Keep.refl _ _) rfl) rfl) rfl

theorem bindStream_keep : ∀ a0 s, Keep 64 s (bindStream a0 s) := by
  intro a0 s
  unfold bindStream
  dsimp only
  exact
    (by split; exacts [(Keep.on (putStream_keep _ _) (Keep.refl _ _) rfl), (Keep.ite (Keep.on (putStream_keep _ _)
      (Keep.on (updateTake_keep _ _ _) (Keep.refl _ _) rfl) rfl) (Keep.upd_64 rfl (Keep.on (updateTake_keep _ _ _)
      (Keep.on (putStream_keep _ _) (Keep.on (updateTake_keep _ _ _) (Keep.refl _ _) rfl) rfl) rfl)))])

theorem countReads_keep : ∀ a0 a1 a2 s, Keep 655360 s (countReads a0 a1 a2 s) := by
  intro a0 a1 a2 s
  unfold countReads
  dsimp only
  exact
    (by split; exacts [(Keep.on (updateSb_keep _ _ _) (Keep.refl _ _) rfl), (Keep.ite (Keep.on (wantVisit_keep _ _)
      (Keep.on (updateSb_keep _ _ _) (Keep.refl _ _) rfl) rfl) (Keep.on (updateSb_keep _ _ _) (Keep.refl _ _) rfl))])

theorem slotLost_keep : ∀ s a1, Keep 131072 s (slotLost s a1) := by
  intro s a1
  unfold slotLost
  dsimp only
  exact
    (by split; exacts [(Keep.on (updateSb_keep _ _ _) (Keep.refl _ _) rfl), (Keep.on (updateSb_keep _ _ _) (Keep.refl
      _ _) rfl), (Keep.on (updateSb_keep _ _ _) (Keep.refl _ _) rfl), (Keep.on (updateSb_keep _ _ _) (Keep.refl _ _)
      rfl), (Keep.on (updateSb_keep _ _ _) (Keep.refl _ _) rfl), (Keep.upd_131072 rfl (Keep.refl _ _)), (Keep.refl _
      _)])

theorem deliver_keep : ∀ a0 a1 s, Keep 256 s (deliver a0 a1 s) := by
  intro a0 a1 s
  unfold deliver
  dsimp only
  exact
    (by split; exacts [(Keep.on (updateCmd_keep _ _ _ _) (Keep.refl _ _) rfl), (Keep.refl _ _)])

theorem releaseBox_keep : ∀ a0 a1 s, Keep 512 s (releaseBox a0 a1 s) := by
  intro a0 a1 s
  unfold releaseBox
  exact
    Keep.on (updateBox_keep _ _ _) (Keep.refl _ _) rfl

theorem execTrackTimeout_keep : ∀ s, KeepR 16 s (execTrackTimeout s) := by
  intro s
  unfold execTrackTimeout
  exact
    KeepR.next (Keep.ite (Keep.on (failBringUp_keep _) (Keep.refl _ _) rfl) (Keep.refl _ _))

theorem recordLast_keep : ∀ a0 s, Keep 16777216 s (recordLast a0 s) := by
  intro a0 s
  refine Keep.upd_16777216 rfl (fun h => ⟨h.handles, h.ring, h.mail, ⟨?_⟩⟩) (Keep.refl _ _)
  have f := h.recorder.fifo
  dsimp only
  split <;> split <;> split <;> exact f

theorem clearRead_keep : ∀ a0 s, Keep 24117248 s (clearRead a0 s) := by
  intro a0 s
  unfold clearRead
  dsimp only
  exact
    Keep.ite (Keep.upd_16777216 rfl (fun h => Sound.re h rfl rfl rfl rfl rfl rfl rfl rfl rfl rfl rfl) ((Keep.refl _
      _))) (Keep.ite (Keep.upd_16777216 rfl (fun h => Sound.re h rfl rfl rfl rfl rfl rfl rfl rfl rfl rfl rfl)
      ((Keep.refl _ _))) (Keep.ite (Keep.upd_2097152 rfl (Keep.refl _ _)) (Keep.ite (Keep.upd_2097152 rfl (Keep.refl _
      _)) (Keep.ite (Keep.on (updateDram_keep _ _ _) (Keep.refl _ _) rfl) (Keep.ite (Keep.upd_4194304 rfl (Keep.refl _
      _)) (Keep.refl _ _))))))

theorem settleSuspend_keep : ∀ a0 a1 s, Keep 262144 s (settleSuspend a0 a1 s) := by
  intro a0 a1 s
  unfold settleSuspend
  exact
    Keep.ite (Keep.on (updateDie_keep _ _ _) (Keep.refl _ _) rfl) (Keep.refl _ _)

theorem bankWritten_keep : ∀ a0 a1 s, Keep 2097152 s (bankWritten a0 a1 s) := by
  intro a0 a1 s
  unfold bankWritten
  exact
    Keep.ite (Keep.on (writeBlock_keep _ _) (Keep.refl _ _) rfl) (Keep.refl _ _)

theorem enterRecovery_keep : ∀ a0 a1 s, Keep 20971778 s (enterRecovery a0 a1 s) := by
  intro a0 a1 s
  unfold enterRecovery
  dsimp only
  exact
    Keep.on (writeLastWords_keep _) (Keep.upd_4194562 rfl (Keep.on (lastCause_keep _ _ _ _) (Keep.refl _ _) rfl)) rfl

theorem execStartDelimiter_keep : ∀ s, KeepR 16 s (execStartDelimiter s) := by
  intro s
  unfold execStartDelimiter
  exact
    KeepR.next (Keep.ite (Keep.on (onLanes_keep _ _) (Keep.on (onLink_keep _ _) (Keep.refl _ _) rfl) rfl) (Keep.refl _
      _))

theorem sweepOverlay_keep : ∀ s, Keep 131072 s (sweepOverlay s) := by
  intro s
  unfold sweepOverlay
  exact
    Keep.foldl _ _ _ (fun _ _ => (Keep.on (dropOverlay_keep _ _ _) (Keep.refl _ _) rfl)) (Keep.refl _ _)

theorem startRowTest_keep : ∀ a0 a1 a2 a3 a4 s, Keep 9437184 s (startRowTest a0 a1 a2 a3 a4 s) := by
  intro a0 a1 a2 a3 a4 s
  unfold startRowTest
  dsimp only
  exact
    Keep.ite (Keep.on (startTest_keep _ _ _) (Keep.refl _ _) rfl) (Keep.on (updateDram_keep _ _ _) (Keep.on
      (startTest_keep _ _ _) (Keep.refl _ _) rfl) rfl)

theorem startRegionTest_keep : ∀ a0 a1 s, Keep 10485760 s (startRegionTest a0 a1 s) := by
  intro a0 a1 s
  unfold startRegionTest
  dsimp only
  exact
    Keep.ite (Keep.on (startTest_keep _ _ _) (Keep.refl _ _) rfl) (Keep.upd_2097152 rfl (Keep.on (startTest_keep _ _
      _) (Keep.refl _ _) rfl))

theorem execThrottleStepFall_keep : ∀ s, KeepR 65536 s (execThrottleStepFall s) := by
  intro s
  unfold execThrottleStepFall
  dsimp only
  exact
    KeepR.next (Keep.ite (Keep.upd_65536 rfl (Keep.refl _ _)) (Keep.refl _ _))

theorem norResume_keep : ∀ a0 s, Keep 4194304 s (norResume a0 s) := by
  intro a0 s
  unfold norResume
  dsimp only
  exact
    (by split; exacts [(Keep.refl _ _), (Keep.ite (Keep.upd_4194304 rfl (Keep.on (setBankOp_keep _ _ _) (Keep.refl _
      _) rfl)) (Keep.refl _ _))])

theorem ibiNotify_keep : ∀ s, Keep 134218240 s (ibiNotify s) := by
  intro s
  unfold ibiNotify
  dsimp only
  exact
    Keep.ite (Keep.on (emit_keep _ _) (Keep.upd_512 rfl (fun h => Sound.re h rfl rfl rfl rfl rfl rfl rfl rfl rfl rfl
      rfl) ((Keep.refl _ _))) rfl) (Keep.refl _ _)

theorem interrupt_keep : ∀ a0 s, Keep 134217984 s (interrupt a0 s) := by
  intro a0 s
  unfold interrupt
  dsimp only
  exact
    Keep.ite (Keep.on (emit_keep _ _) (Keep.refl _ _) rfl) (Keep.ite (Keep.refl _ _) (Keep.ite (Keep.ite (Keep.refl _
      _) (Keep.upd_256 rfl (Keep.refl _ _))) (Keep.on (emit_keep _ _) (Keep.refl _ _) rfl)))

theorem freeChannel_keep : ∀ a0 s, Keep 262144 s (freeChannel a0 s) := by
  intro a0 s
  unfold freeChannel
  exact
    Keep.on (updateChan_keep _ _ _) (Keep.refl _ _) rfl

theorem execEntdaa_keep : ∀ a0 s, KeepR 1024 s (execEntdaa a0 s) := by
  intro a0 s
  unfold execEntdaa
  dsimp only
  exact
    KeepR.next (Keep.ite (Keep.upd_1024 rfl (Keep.refl _ _)) (Keep.refl _ _))

theorem gateMedia_keep : ∀ s, Keep 262144 s (gateMedia s) := by
  intro s
  unfold gateMedia
  dsimp only
  exact
    Keep.upd_262144 rfl (Keep.refl _ _)

theorem remapUnit_keep : ∀ a0 a1 a2 a3 s, Keep 131072 s (remapUnit a0 a1 a2 a3 s) := by
  intro a0 a1 a2 a3 s
  unfold remapUnit
  exact
    Keep.ite (by split; exacts [(Keep.refl _ _), (Keep.getD (fun t e => Keep.on (putOverlay_keep _ _ _ _ _ _ t e)
      (Keep.refl _ _) rfl) (Keep.refl _ _))]) (Keep.refl _ _)

theorem startPlls_keep : ∀ a0 s, Keep 29376770 s (startPlls a0 s) := by
  intro a0 s
  unfold startPlls
  dsimp only
  exact
    Keep.ite (Keep.on (enterRecovery_keep _ _ _) (Keep.upd_16793600 rfl (fun h => Sound.re h rfl rfl rfl rfl rfl rfl
      rfl rfl rfl rfl rfl) ((Keep.refl _ _))) rfl) (Keep.ite (Keep.upd_16384 rfl (Keep.refl _ _)) (Keep.on
      (startTest_keep _ _ _) (Keep.upd_16384 rfl (Keep.refl _ _)) rfl))

theorem parityWritten_keep : ∀ s, Keep 270532608 s (parityWritten s) := by
  intro s
  unfold parityWritten
  exact
    Keep.ite (Keep.on (drawn_keep _) (Keep.on (bankWritten_keep _ _ _) (Keep.refl _ _) rfl) rfl) (Keep.refl _ _)

theorem startErase_keep : ∀ a0 s, Keep 4194304 s (startErase a0 s) := by
  intro a0 s
  unfold startErase
  dsimp only
  exact
    Keep.ite (Keep.upd_4194304 rfl (Keep.refl _ _)) (Keep.ite (Keep.refl _ _) (Keep.on (setBankOp_keep _ _ _)
      (Keep.ite (Keep.upd_4194304 rfl (Keep.on (putFlags_keep _ _) (Keep.refl _ _) rfl)) (Keep.on (putFlags_keep _ _)
      (Keep.refl _ _) rfl)) rfl))

theorem execJobEnqueue_keep : ∀ a0 a1 s, KeepR 262144 s (execJobEnqueue a0 a1 s) := by
  intro a0 a1 s
  unfold execJobEnqueue
  exact
    KeepR.next (by split; exacts [(Keep.refl _ _), (Keep.ite (Keep.on (updateDie_keep _ _ _) (Keep.refl _ _) rfl)
      (Keep.refl _ _))])

theorem settleBoot_keep : ∀ s, Keep 4194304 s (settleBoot s) := by
  intro s
  unfold settleBoot
  dsimp only
  exact
    Keep.on (mendBoot_keep _) (Keep.upd_4194304 rfl (Keep.refl _ _)) rfl

theorem startRecentring_keep : ∀ a0 a1 a2 s, Keep 1048576 s (startRecentring a0 a1 a2 s) := by
  intro a0 a1 a2 s
  unfold startRecentring
  exact
    Keep.on (updateDram_keep _ _ _) (Keep.refl _ _) rfl

theorem undoLinkUp_keep : ∀ s, Keep 48 s (undoLinkUp s) := by
  intro s
  unfold undoLinkUp
  dsimp only
  exact
    (by split; exacts [(Keep.on (enterDown_keep _) (Keep.refl _ _) rfl), (Keep.on (onLink_keep _ _) (Keep.on
      (enterDown_keep _) (Keep.refl _ _) rfl) rfl)])

theorem directoryWritten_keep : ∀ s, Keep 270532608 s (directoryWritten s) := by
  intro s
  unfold directoryWritten
  dsimp only
  exact
    Keep.ite (Keep.on (drawn_keep _) (Keep.on (bankWritten_keep _ _ _) (Keep.refl _ _) rfl) rfl) (Keep.refl _ _)

theorem execUcieReplayTimeout_keep : ∀ a0 s, KeepR 262144 s (execUcieReplayTimeout a0 s) := by
  intro a0 s
  unfold execUcieReplayTimeout
  exact
    KeepR.next (Keep.ite (Keep.on (updateLink_keep _ _ _) (Keep.refl _ _) rfl) (Keep.refl _ _))

theorem runDueTest_keep : ∀ s, Keep 32768 s (runDueTest s) := by
  intro s
  unfold runDueTest
  exact
    (by split; exacts [(Keep.ite (Keep.on (startTestRun_keep _) (Keep.refl _ _) rfl) (Keep.refl _ _)), (Keep.refl _
      _)])

theorem wakeDram_keep : ∀ a0 s, Keep 1048576 s (wakeDram a0 s) := by
  intro a0 s
  unfold wakeDram
  dsimp only
  exact
    Keep.upd_1048576 rfl (Keep.refl _ _)

theorem eraseSb_keep : ∀ a0 s, Keep 131072 s (eraseSb a0 s) := by
  intro a0 s
  unfold eraseSb
  exact
    (by split; exacts [(Keep.refl _ _), (Keep.on (appendSlot_keep _ _) (Keep.on (updateSb_keep _ _ _) (Keep.refl _ _)
      rfl) rfl)])

theorem execHoldupLoadApply_keep : ∀ a0 s, KeepR 34816 s (execHoldupLoadApply a0 s) := by
  intro a0 s
  unfold execHoldupLoadApply
  dsimp only
  exact
    KeepR.next (by split; exacts [(Keep.ite (Keep.refl _ _) (by split; exacts [(Keep.on (passCancel_keep _ _)
      (Keep.upd_32768 rfl (Keep.refl _ _)) rfl), (Keep.upd_32768 rfl (Keep.refl _ _))])), (Keep.refl _ _)])

theorem dropPending_keep : ∀ s, Keep 131328 s (dropPending s) := by
  intro s
  unfold dropPending
  dsimp only
  exact
    Keep.upd_256 rfl (Keep.foldl _ _ _ (fun _ _ => (Keep.on (slotLost_keep _ _) (Keep.refl _ _) rfl)) (Keep.upd_131072
      rfl (Keep.refl _ _)))

theorem sendPending_keep : ∀ s, Keep 134217984 s (sendPending s) := by
  intro s
  unfold sendPending
  dsimp only
  exact
    Keep.foldl _ _ _ (fun _ _ => (Keep.on (emit_keep _ _) (Keep.refl _ _) rfl)) (Keep.upd_256 rfl (Keep.refl _ _))

theorem execDisec_keep : ∀ s, KeepR 1024 s (execDisec s) := by
  intro s
  unfold execDisec
  dsimp only
  exact
    KeepR.next (Keep.ite (Keep.upd_1024 rfl (Keep.refl _ _)) (Keep.refl _ _))

theorem reset_handles : HandlesOk State.reset.hnd := ⟨by decide, by decide, by decide, by decide⟩

theorem reset_ring : RingOk State.reset.crg := ⟨by decide, by decide, by decide, by decide, by decide⟩

theorem reset_mail : MailOk State.reset.mbx := ⟨by decide, by decide⟩

theorem keptRecorder_ok (k : StartKind) {r : Recorder} (h : RecorderOk r) : RecorderOk (keptRecorder k r) := by
  have f := h.fifo
  refine ⟨?_⟩
  unfold keptRecorder
  dsimp only
  split <;> split <;> first | exact f | exact Nat.zero_le _

theorem resetBase_keep : ∀ a0 s, Keep 402653174 s (resetBase a0 s) := by
  intro a0 s
  have k := keepFlash_keep s
  refine ⟨?_, fun h => ?_⟩
  · have e1 := k.pending rfl
    have e2 := k.board rfl
    have e3 := k.out rfl
    unfold resetBase
    dsimp only
    rw [e1, e2, e3]
    rfl
  · exact ⟨reset_handles, reset_ring, reset_mail, keptRecorder_ok a0 (k.sound h).recorder⟩

theorem execNorIdleResume_keep : ∀ a0 s, KeepR 4194304 s (execNorIdleResume a0 s) := by
  intro a0 s
  unfold execNorIdleResume
  exact
    KeepR.next (Keep.on (norResume_keep _ _) (Keep.refl _ _) rfl)

theorem askBlock_keep : ∀ s, Keep 131072 s (askBlock s) := by
  intro s
  unfold askBlock
  exact
    Keep.ite (Keep.refl _ _) (Keep.on (appendSlot_keep _ _) (Keep.refl _ _) rfl)

theorem execAcquireTimeout_keep : ∀ s, KeepR 16 s (execAcquireTimeout s) := by
  intro s
  unfold execAcquireTimeout
  exact
    KeepR.next (Keep.ite (Keep.on (failBringUp_keep _) (Keep.refl _ _) rfl) (Keep.refl _ _))

theorem eraseReleased_keep : ∀ a0 s, Keep 131072 s (eraseReleased a0 s) := by
  intro a0 s
  unfold eraseReleased
  exact
    (by split; exacts [(Keep.refl _ _), (Keep.ite (Keep.on (updateSb_keep _ _ _) (Keep.refl _ _) rfl) (Keep.on
      (eraseSb_keep _ _) (Keep.refl _ _) rfl))])

theorem releaseHeld_keep : ∀ a0 s, Keep 192 s (releaseHeld a0 s) := by
  intro a0 s
  unfold releaseHeld
  dsimp only
  exact
    (by split; exacts [(Keep.refl _ _), (Keep.upd_128 rfl (Keep.on (updateStream_keep _ _ _) (Keep.refl _ _) rfl))])

theorem writeMsix_keep : ∀ a0 a1 a2 s, Keep 134217984 s (writeMsix a0 a1 a2 s) := by
  intro a0 a1 a2 s
  unfold writeMsix
  dsimp only
  exact
    Keep.ite (Keep.on (sendPending_keep _) (Keep.upd_256 rfl (Keep.refl _ _)) rfl) (Keep.refl _ _)

theorem slotDurable_keep : ∀ s a1, Keep 131200 s (slotDurable s a1) := by
  intro s a1
  unfold slotDurable
  dsimp only
  exact
    (by split; exacts [(Keep.on (updateSb_keep _ _ _) (Keep.refl _ _) rfl), (Keep.upd_128 rfl (Keep.refl _ _)),
      (Keep.on (updateWrite_keep _ _ _) (Keep.refl _ _) rfl), (Keep.on (updateWrite_keep _ _ _) (Keep.refl _ _) rfl),
      (Keep.upd_131072 rfl (Keep.refl _ _)), (Keep.refl _ _)])

theorem execRefreshCatchUp_keep : ∀ a0 a1 a2 s, KeepR 1048576 s (execRefreshCatchUp a0 a1 a2 s) := by
  intro a0 a1 a2 s
  unfold execRefreshCatchUp
  exact
    KeepR.next (Keep.ite (Keep.on (updateDram_keep _ _ _) (Keep.refl _ _) rfl) (Keep.refl _ _))

theorem diesBack_keep : ∀ a0 s, Keep 262144 s (diesBack a0 s) := by
  intro a0 s
  unfold diesBack
  dsimp only
  exact
    Keep.upd_262144 rfl (Keep.refl _ _)

theorem execTuneTimeout_keep : ∀ s, KeepR 16 s (execTuneTimeout s) := by
  intro s
  unfold execTuneTimeout
  exact
    KeepR.next (Keep.ite (Keep.on (failBringUp_keep _) (Keep.refl _ _) rfl) (Keep.refl _ _))

theorem msixNotify_keep : ∀ s, Keep 134218496 s (msixNotify s) := by
  intro s
  unfold msixNotify
  dsimp only
  exact
    Keep.ite (Keep.on (interrupt_keep _ _) (Keep.upd_512 rfl (fun h => Sound.re h rfl rfl rfl rfl rfl rfl rfl rfl rfl
      rfl rfl) ((Keep.refl _ _))) rfl) (Keep.refl _ _)

theorem execNorForcedResume_keep : ∀ a0 s, KeepR 4194304 s (execNorForcedResume a0 s) := by
  intro a0 s
  unfold execNorForcedResume
  exact
    KeepR.next (Keep.on (norResume_keep _ _) (Keep.refl _ _) rfl)

theorem execSuspendRequest_keep : ∀ a0 s, KeepR 262144 s (execSuspendRequest a0 s) := by
  intro a0 s
  unfold execSuspendRequest
  exact
    KeepR.next (by split; exacts [(Keep.refl _ _), (by split; exacts [(Keep.refl _ _), (Keep.ite (Keep.on
      (updateContext_keep _ _ _) (Keep.refl _ _) rfl) (Keep.refl _ _))])])

theorem rebuildLedger_keep : ∀ s, Keep 268566784 s (rebuildLedger s) := by
  intro s
  unfold rebuildLedger
  dsimp only
  exact
    Keep.on (drawn_keep _) (Keep.upd_131328 rfl (Keep.refl _ _)) rfl

theorem bumpGolden_keep : ∀ s, Keep 262144 s (bumpGolden s) := by
  intro s
  unfold bumpGolden
  dsimp only
  exact
    Keep.upd_262144 rfl (Keep.refl _ _)

theorem vectorMessage_keep : ∀ a0 s, Keep 134217984 s (vectorMessage a0 s) := by
  intro a0 s
  unfold vectorMessage
  dsimp only
  exact
    Keep.on (interrupt_keep _ _) (Keep.upd_256 rfl (Keep.refl _ _)) rfl

theorem offerUnit_keep : ∀ a0 a1 a2 a3 a4 s, Keep 131072 s (offerUnit a0 a1 a2 a3 a4 s) := by
  intro a0 a1 a2 a3 a4 s
  unfold offerUnit
  dsimp only
  exact
    Keep.ite (Keep.getD (fun t e => Keep.on (putOverlay_keep _ _ _ _ _ _ t e) (Keep.refl _ _) rfl) (Keep.refl _ _))
      (Keep.refl _ _)

theorem execDramDriftCheck_keep : ∀ a0 a1 a2 a3 s, KeepR 1048576 s (execDramDriftCheck a0 a1 a2 a3 s) := by
  intro a0 a1 a2 a3 s
  unfold execDramDriftCheck
  dsimp only
  exact
    KeepR.next (Keep.ite (Keep.refl _ _) (Keep.ite (Keep.on (startRecentring_keep _ _ _ _) (Keep.on (updateDram_keep _
      _ _) (Keep.refl _ _) rfl) rfl) (Keep.ite (Keep.on (startRecentring_keep _ _ _ _) (Keep.on (updateDram_keep _ _
      _) (Keep.refl _ _) rfl) rfl) (Keep.ite (Keep.on (updateDram_keep _ _ _) (Keep.refl _ _) rfl) (Keep.refl _ _)))))

theorem demandTest_keep : ∀ a0 s, Keep 8390656 s (demandTest a0 s) := by
  intro a0 s
  unfold demandTest
  dsimp only
  exact
    Keep.ite (Keep.upd_8388608 rfl (Keep.refl _ _)) (by split; exacts [(Keep.on (passCancel_keep _ _)
      (Keep.upd_8388608 rfl (Keep.refl _ _)) rfl), (Keep.upd_8388608 rfl (Keep.refl _ _))])

theorem beginP4_keep : ∀ s, Keep 149504 s (beginP4 s) := by
  intro s
  unfold beginP4
  dsimp only
  exact
    Keep.on (appendSlot_keep _ _) (Keep.upd_16384 rfl (by split; exacts [(Keep.on (passCancel_keep _ _) (Keep.refl _
      _) rfl), (Keep.refl _ _)])) rfl

theorem needNumbers_keep {m : Nat} (k : Nat) (f : State → State) (s : State) (hm : 131072 &&& m = 131072)
    (hf : ∀ x, Keep m x (f x)) : Keep m s (needNumbers k f s) := by
  unfold needNumbers
  exact Keep.ite (hf s) (Keep.on (askBlock_keep s) (Keep.refl m s) hm)

theorem mapSegment_keep : ∀ a0 a1 a2 a3 a4 s, Keep 131072 s (mapSegment a0 a1 a2 a3 a4 s) := by
  intro a0 a1 a2 a3 a4 s
  unfold mapSegment
  dsimp only
  exact
    Keep.upd_131072 rfl (Keep.on (putSeg_keep _ _) (Keep.on (dropOverlay_keep _ _ _) (Keep.refl _ _) rfl) rfl)

theorem logFull_keep : ∀ a0 a1 a2 a3 a4 a5 s, Keep 16785408 s (logFull a0 a1 a2 a3 a4 a5 s) := by
  intro a0 a1 a2 a3 a4 a5 s
  exact Keep.upd_16785408 rfl (fun h => ⟨h.handles, h.ring, h.mail, intake_ok h.recorder _⟩) (Keep.refl _ _)

theorem stageGoesOn_keep : ∀ a0 a1 a2 s, Keep 37750784 s (stageGoesOn a0 a1 a2 s) := by
  intro a0 a1 a2 s
  unfold stageGoesOn
  dsimp only
  exact
    Keep.upd_33554432 rfl (Keep.ite (Keep.refl _ _) (Keep.on (passCancel_keep _ _) (Keep.on (startErase_keep _ _)
      (Keep.on (protect_keep _ _ _) (Keep.refl _ _) rfl) rfl) rfl))

theorem endRoutine_keep : ∀ a0 a1 a2 a3 s, Keep 134479872 s (endRoutine a0 a1 a2 a3 s) := by
  intro a0 a1 a2 a3 s
  unfold endRoutine
  dsimp only
  exact
    Keep.on (emit_keep _ _) (Keep.on (updateDie_keep _ _ _) (Keep.on (releaseBus_keep _ _) (Keep.on (restContext_keep
      _ _) (Keep.refl _ _) rfl) rfl) rfl) rfl

theorem leaveTest_keep : ∀ a0 s, Keep 8390656 s (leaveTest a0 s) := by
  intro a0 s
  unfold leaveTest
  dsimp only
  exact
    (by split; exacts [(Keep.upd_8388608 rfl (Keep.refl _ _)), (Keep.on (demandTest_keep _ _) (Keep.upd_8388608 rfl
      (Keep.refl _ _)) rfl)])

theorem applyDiscard_keep : ∀ a0 a1 a2 a3 s, Keep 131072 s (applyDiscard a0 a1 a2 a3 s) := by
  intro a0 a1 a2 a3 s
  unfold applyDiscard
  exact
    (by split; exacts [(Keep.refl _ _), (Keep.ite (Keep.refl _ _) (Keep.foldl _ _ _ (fun _ _ => (Keep.on
      (offerUnit_keep _ _ _ _ _ _) (Keep.refl _ _) rfl)) (Keep.refl _ _)))])

theorem applyRecord_keep : ∀ s a1, Keep 131072 s (applyRecord s a1) := by
  intro s a1
  unfold applyRecord
  exact
    (by split; exacts [(Keep.on (applyDeallocate_keep _ _ _ _ _) (Keep.refl _ _) rfl), (Keep.on (applyDiscard_keep _ _
      _ _ _) (Keep.refl _ _) rfl), (Keep.refl _ _)])

theorem execSelfRefreshEntry_keep : ∀ a0 s, KeepR 1048576 s (execSelfRefreshEntry a0 s) := by
  intro a0 s
  unfold execSelfRefreshEntry
  exact
    KeepR.next (Keep.ite (Keep.on (updateDram_keep _ _ _) (Keep.refl _ _) rfl) (Keep.refl _ _))

theorem latchDurable_keep : ∀ s, Keep 128 s (latchDurable s) := by
  intro s
  unfold latchDurable
  dsimp only
  exact
    Keep.upd_128 rfl (Keep.refl _ _)

end Sys2Proof.Laws
end

