-- ==== Sys2Proof/Laws/Keep2.lean ====
section
/-! SUPPORT. What each operation and each meaning may change, and that it keeps soundness: part 2 of 4, each after the
ones it uses. -/

namespace Sys2Proof.Laws

open Sys2Proof Sys2Proof.Machine Sys2Proof.Safety

theorem satisfyReady_keep : ∀ s, Keep 128 s (satisfyReady s) := by
  intro s
  unfold satisfyReady
  dsimp only
  exact
    Keep.upd_128 rfl (Keep.refl _ _)

theorem unmapSegment_keep : ∀ a0 a1 s, Keep 131072 s (unmapSegment a0 a1 s) := by
  intro a0 a1 s
  unfold unmapSegment
  dsimp only
  exact
    Keep.upd_131072 rfl (Keep.on (putSeg_keep _ _) (Keep.on (dropOverlay_keep _ _ _) (Keep.refl _ _) rfl) rfl)

theorem endErase_keep : ∀ a0 a1 s, Keep 4194304 s (endErase a0 a1 s) := by
  intro a0 a1 s
  unfold endErase
  exact
    (by split; exacts [(Keep.ite (Keep.on (setBankOp_keep _ _ _) (Keep.on (protect_keep _ _ _) (Keep.on (putFlags_keep
      _ _) (Keep.refl _ _) rfl) rfl) rfl) (Keep.refl _ _)), (Keep.refl _ _)])

theorem execHoldupTestDue_keep : ∀ a0 s, KeepR 32768 s (execHoldupTestDue a0 s) := by
  intro a0 s
  unfold execHoldupTestDue
  dsimp only
  exact
    KeepR.next (Keep.ite (Keep.refl _ _) (Keep.ite (Keep.upd_32768 rfl (Keep.refl _ _)) (Keep.ite (Keep.on
      (startTestRun_keep _) (Keep.refl _ _) rfl) (Keep.refl _ _))))

theorem serveClass_keep : ∀ a0 a1 a2 a3 s, Keep 256 s (serveClass a0 a1 a2 a3 s) := by
  intro k c n
  induction n with
  | zero => intro b s; exact Keep.refl _ _
  | succ n ih =>
    intro b s
    unfold serveClass
    refine Keep.ite (Keep.refl _ _) ?_
    split
    · exact Keep.refl _ _
    · exact Keep.on (ih _ _) (Keep.on (fetchQueue_keep _ _ _ _) (Keep.upd_256 rfl (Keep.refl _ _)) rfl) rfl

theorem execEnec_keep : ∀ s, KeepR 1024 s (execEnec s) := by
  intro s
  unfold execEnec
  dsimp only
  exact
    KeepR.next (Keep.ite (Keep.upd_1024 rfl (Keep.refl _ _)) (Keep.refl _ _))

theorem writeArea_keep : ∀ a0 a1 a2 a3 s, Keep 512 s (writeArea a0 a1 a2 a3 s) := by
  intro a0 a1 a2 a3 s
  unfold writeArea
  exact Keep.ite (Keep.upd_512 rfl (fun h => ⟨h.handles, h.ring, ⟨h.mail.boxes, memSplice_wf h.mail.areas _ _⟩,
    h.recorder⟩) (Keep.refl _ _)) (Keep.refl _ _)

theorem closeFailed_keep : ∀ a0 s, Keep 131200 s (closeFailed a0 s) := by
  intro a0 s
  unfold closeFailed
  dsimp only
  exact
    Keep.on (finishClose_keep _ _) (Keep.on (promote_keep _ _) (Keep.on (updateSb_keep _ _ _) (Keep.upd_128 rfl
      (Keep.refl _ _)) rfl) rfl) rfl

theorem dropEffects_keep : ∀ a0 a1 s, Keep 524672 s (dropEffects a0 a1 s) := by
  intro a0 a1 s
  unfold dropEffects
  dsimp only
  exact
    Keep.upd_524672 rfl (Keep.refl _ _)

theorem recordAll_keep : ∀ s, Keep 131200 s (recordAll s) := by
  intro s
  unfold recordAll
  exact
    Keep.foldl _ _ _ (fun _ _ => (Keep.ite (Keep.foldl _ _ _ (fun _ _ => (Keep.on (appendSlot_keep _ _) (Keep.refl _
      _) rfl)) (Keep.on (updateWrite_keep _ _ _) (Keep.refl _ _) rfl)) (Keep.refl _ _))) (Keep.refl _ _)

theorem weightedRounds_keep : ∀ a0 s, Keep 256 s (weightedRounds a0 s) := by
  intro n
  induction n with
  | zero => intro s; exact Keep.refl _ _
  | succ n ih =>
    intro s
    have turn (k : Nat) (c : Sq → Bool) (a b : Nat) (x : State) (h : Keep 256 s x) : Keep 256 s (serveClass k c a b x) :=
      Keep.on (serveClass_keep _ _ _ _ _) h rfl
    exact Keep.on (ih _) (turn _ _ _ _ _ (turn _ _ _ _ _ (turn _ _ _ _ _ (Keep.refl _ _)))) rfl

theorem mapPart_keep : ∀ a0 a1 a2 s, ∀ t, mapPart a0 a1 a2 s = some t → Keep 131072 s t := by
  intro a0 a1 a2 s t h
  unfold mapPart at h
  refine keep_bindFold _ _ _ (fun k x y e => putOverlay_keep _ _ _ _ _ _ _ e) ?_ h
  exact Keep.foldl _ _ _ (fun _ _ => Keep.on (mapSegment_keep _ _ _ _ _ _) (Keep.refl _ _) rfl) (Keep.refl _ _)

theorem fetchQueues_keep : ∀ s, Keep 256 s (fetchQueues s) := by
  intro s
  unfold fetchQueues
  dsimp only
  exact
    Keep.ite (Keep.on (weightedRounds_keep _ _) (Keep.on (serveClass_keep _ _ _ _ _) (by split; exacts [(Keep.on
      (fetchQueue_keep _ _ _ _) (Keep.refl _ _) rfl), (Keep.refl _ _)]) rfl) rfl) (Keep.on (serveClass_keep _ _ _ _ _)
      (by split; exacts [(Keep.on (fetchQueue_keep _ _ _ _) (Keep.refl _ _) rfl), (Keep.refl _ _)]) rfl)

theorem logDeferred_keep : ∀ a0 a1 a2 a3 s, Keep 16785408 s (logDeferred a0 a1 a2 a3 s) := by
  intro a0 a1 a2 a3 s
  unfold logDeferred
  exact
    Keep.on (logFull_keep _ _ _ _ _ _ _) (Keep.refl _ _) rfl

theorem cqInterrupt_keep : ∀ a0 s, Keep 134217984 s (cqInterrupt a0 s) := by
  intro a0 s
  unfold cqInterrupt
  exact
    (by split; exacts [(Keep.refl _ _), (Keep.ite (Keep.refl _ _) (Keep.ite (Keep.on (vectorMessage_keep _ _)
      (Keep.refl _ _) rfl) (Keep.refl _ _)))])

theorem logSev_keep : ∀ a0 a1 a2 a3 s, Keep 16785408 s (logSev a0 a1 a2 a3 s) := by
  intro a0 a1 a2 a3 s
  unfold logSev
  exact
    Keep.on (logFull_keep _ _ _ _ _ _ _) (Keep.refl _ _) rfl

theorem closeMembers_keep : ∀ a0 s, Keep 131200 s (closeMembers a0 s) := by
  intro a0 s
  unfold closeMembers
  exact
    Keep.foldl _ _ _ (fun _ _ => (Keep.ite (Keep.on (closeFailed_keep _ _) (Keep.refl _ _) rfl) (Keep.refl _ _)))
      (Keep.refl _ _)

theorem execPowerOff_keep : ∀ s, KeepR 402653174 s (execPowerOff s) := by
  intro s
  unfold execPowerOff
  dsimp only
  exact
    KeepR.next (Keep.ite (Keep.refl _ _) (Keep.upd_16777218 rfl (fun h => Sound.re h rfl rfl rfl rfl rfl rfl rfl rfl
      rfl rfl rfl) ((Keep.on (resetBase_keep _ _) (Keep.refl _ _) rfl))))

theorem mapWrite_keep : ∀ a0 s, ∀ t, mapWrite a0 s = some t → Keep 131072 s t := by
  intro a0 s t h
  unfold mapWrite at h
  split at h
  · cases h
    exact Keep.refl _ _
  · split at h
    · cases h
      exact Keep.refl _ _
    · split at h
      · cases h
        exact Keep.foldl _ _ _ (fun _ _ => Keep.foldl _ _ _ (fun _ _ => Keep.on (unmapSegment_keep _ _ _) (Keep.refl _ _) rfl)
          (Keep.refl _ _)) (Keep.refl _ _)
      · exact keep_bindFold _ _ _ (fun k x y e => putOverlay_keep _ _ _ _ _ _ _ e) (Keep.refl _ _) h
      · exact keep_bindFold _ _ _ (fun k x y e => mapPart_keep _ _ _ _ _ e) (Keep.refl _ _) h

theorem execEventHistoryPage_keep : ∀ s, KeepR 16777216 s (execEventHistoryPage s) := by
  intro s
  unfold execEventHistoryPage
  dsimp only
  exact
    KeepR.next (Keep.ite (Keep.refl _ _) (by split; exacts [(Keep.refl _ _), (Keep.upd_16777216 rfl (fun h => Sound.re
      h rfl rfl rfl rfl rfl rfl rfl rfl rfl rfl rfl) ((Keep.refl _ _)))]))

theorem notify_keep : ∀ s, Keep 134218496 s (notify s) := by
  intro s
  unfold notify
  exact
    Keep.on (ibiNotify_keep _) (Keep.on (msixNotify_keep _) (Keep.refl _ _) rfl) rfl

theorem execInterruptCoalescingTimeout_keep : ∀ a0 s, KeepR 134217984 s (execInterruptCoalescingTimeout a0 s) := by
  intro a0 s
  unfold execInterruptCoalescingTimeout
  exact
    KeepR.next (Keep.ite (Keep.on (vectorMessage_keep _ _) (Keep.refl _ _) rfl) (Keep.refl _ _))

theorem execJobStart_keep : ∀ a0 a1 s, KeepR 8650752 s (execJobStart a0 a1 s) := by
  intro a0 a1 s
  unfold execJobStart
  dsimp only
  exact
    KeepR.next (by split; exacts [(Keep.refl _ _), (by split; exacts [(Keep.refl _ _), (Keep.ite (Keep.refl _ _)
      (Keep.ite (Keep.on (startTest_keep _ _ _) (Keep.refl _ _) rfl) (Keep.on (updateDie_keep _ _ _) (Keep.refl _ _)
      rfl)))])])

theorem startUnitRead_keep : ∀ a0 a1 a2 a3 a4 s, Keep 786432 s (startUnitRead a0 a1 a2 a3 a4 s) := by
  intro a0 a1 a2 a3 a4 s
  unfold startUnitRead
  dsimp only
  exact
    (by split; exacts [(Keep.refl _ _), (Keep.on (updateDie_keep _ _ _) (Keep.upd_524288 rfl (Keep.refl _ _)) rfl)])

theorem execHeldUnitTimeout_keep : ∀ a0 s, KeepR 192 s (execHeldUnitTimeout a0 s) := by
  intro a0 s
  unfold execHeldUnitTimeout
  exact
    KeepR.next (Keep.on (releaseHeld_keep _ _) (Keep.refl _ _) rfl)

theorem execRefreshDue_keep : ∀ a0 a1 a2 a3 s, KeepR 1048576 s (execRefreshDue a0 a1 a2 a3 s) := by
  intro a0 a1 a2 a3 s
  unfold execRefreshDue
  dsimp only
  exact
    KeepR.next (Keep.ite (Keep.on (updateDram_keep _ _ _) (Keep.refl _ _) rfl) (Keep.refl _ _))

theorem updateBackground_keep : ∀ s, Keep 16384 s (updateBackground s) := by
  intro s
  unfold updateBackground
  dsimp only
  exact
    Keep.upd_16384 rfl (Keep.refl _ _)

theorem postEntry_keep : ∀ a0 s, Keep 134224640 s (postEntry a0 s) := by
  intro b s
  unfold postEntry
  split
  · rename_i h
    have hf : slotFree s.crg = true := by
      rw [Bool.and_eq_true] at h
      exact h.2
    exact Keep.on (notify_keep _) (Keep.on (putEntry_keep b s hf) (Keep.refl _ _) rfl) rfl
  · exact Keep.upd_4096 rfl (fun h => Sound.re h rfl rfl rfl rfl rfl rfl rfl rfl rfl rfl rfl) (Keep.refl _ _)

theorem onCmd_keep {m : Nat} (sq : Nat) (cid : BitVec 16) (l : List Nat) (f : Cmd → State → State) (s : State)
    (hf : ∀ c x, Keep m x (f c x)) : Keep m s (onCmd sq cid l f s) := by
  unfold onCmd
  split
  · exact hf _ s
  · exact Keep.refl m s

theorem placeLimit_keep : ∀ a0 a1 a2 s, Keep 32896 s (placeLimit a0 a1 a2 s) := by
  intro a0 a1 a2 s
  unfold placeLimit
  dsimp only
  exact
    Keep.ite (Keep.upd_32896 rfl (Keep.refl _ _)) (Keep.upd_32768 rfl (Keep.refl _ _))

theorem storeUnit_keep : ∀ a0 a1 a2 s, Keep 192 s (storeUnit a0 a1 a2 s) := by
  intro a0 a1 a2 s
  unfold storeUnit
  dsimp only
  exact
    Keep.ite (Keep.on (releaseHeld_keep _ _) (Keep.on (updateStream_keep _ _ _) (Keep.refl _ _) rfl) rfl) (Keep.on
      (updateStream_keep _ _ _) (Keep.refl _ _) rfl)

theorem flushDeferred_keep : ∀ s, Keep 16850944 s (flushDeferred s) := by
  intro s
  unfold flushDeferred
  dsimp only
  exact
    Keep.foldl _ _ _ (fun _ _ => (Keep.on (logDeferred_keep _ _ _ _ _) (Keep.refl _ _) rfl)) (Keep.upd_65536 rfl
      (Keep.refl _ _))

theorem frameFence_keep : ∀ a0 a1 s, Keep 192 s (frameFence a0 a1 s) := by
  intro a0 a1 s
  unfold frameFence
  dsimp only
  exact
    Keep.ite (Keep.on (enqueueFence_keep _ _) (Keep.foldl _ _ _ (fun _ _ => (Keep.on (releaseHeld_keep _ _) (Keep.refl
      _ _) rfl)) (Keep.refl _ _)) rfl) (Keep.ite (Keep.on (enqueueFence_keep _ _) (Keep.on (releaseHeld_keep _ _)
      (Keep.refl _ _) rfl) rfl) (Keep.refl _ _))

theorem drainBacklog_keep : ∀ a0 s, Keep 6144 s (drainBacklog a0 s) := by
  intro l
  induction l with
  | nil =>
    intro s
    exact Keep.upd_4096 rfl (fun h => Sound.re h rfl rfl rfl rfl rfl rfl rfl rfl rfl rfl rfl) (Keep.refl _ _)
  | cons b bs ih =>
    intro s
    unfold drainBacklog
    split
    · rename_i hf
      exact Keep.on (ih _) (Keep.on (putEntry_keep b s hf) (Keep.refl _ _) rfl) rfl
    · exact Keep.upd_4096 rfl (fun h => Sound.re h rfl rfl rfl rfl rfl rfl rfl rfl rfl rfl rfl) (Keep.refl _ _)

theorem dropReads_keep : ∀ a0 a1 s, Keep 524288 s (dropReads a0 a1 s) := by
  intro a0 a1 s
  unfold dropReads
  dsimp only
  exact
    Keep.upd_524288 rfl (Keep.refl _ _)

theorem offerSegment_keep : ∀ a0 a1 a2 a3 s, Keep 131072 s (offerSegment a0 a1 a2 a3 s) := by
  intro a0 a1 a2 a3 s
  unfold offerSegment
  dsimp only
  exact
    Keep.ite (Keep.on (putSeg_keep _ _) (Keep.refl _ _) rfl) (Keep.refl _ _)

theorem writeConfigWord_keep : ∀ a0 a1 s, Keep 134217984 s (writeConfigWord a0 a1 s) := by
  intro a0 a1 s
  unfold writeConfigWord
  dsimp only
  exact
    Keep.ite (Keep.upd_256 rfl (Keep.refl _ _)) (by split; exacts [(Keep.upd_256 rfl (Keep.refl _ _)), (Keep.upd_256
      rfl (Keep.refl _ _)), (Keep.upd_256 rfl (Keep.refl _ _)), (Keep.upd_256 rfl (Keep.refl _ _)), (Keep.on
      (sendPending_keep _) (Keep.upd_256 rfl (Keep.refl _ _)) rfl), (Keep.refl _ _)])

theorem onAdmin_keep {m : Nat} (cid : BitVec 16) (l : Nat) (f : Cmd → State → State) (s : State)
    (hf : ∀ c x, Keep m x (f c x)) : Keep m s (onAdmin cid l f s) := onCmd_keep _ _ _ _ _ hf

theorem eraseUnfinished_keep : ∀ s, Keep 4194304 s (eraseUnfinished s) := by
  intro s
  unfold eraseUnfinished
  exact
    (by split; exacts [(Keep.refl _ _), (Keep.on (startErase_keep _ _) (Keep.on (protect_keep _ _ _) (Keep.refl _ _)
      rfl) rfl)])

theorem remapCopy_keep : ∀ a0 a1 a2 a3 s, Keep 131072 s (remapCopy a0 a1 a2 a3 s) := by
  intro a0 a1 a2 a3 s
  unfold remapCopy
  dsimp only
  exact
    (by split; exacts [(Keep.refl _ _), (by split; exacts [(Keep.refl _ _), (Keep.foldl _ _ _ (fun _ _ => (Keep.on
      (remapUnit_keep _ _ _ _ _) (Keep.refl _ _) rfl)) (Keep.foldl _ _ _ (fun _ _ => (Keep.on (putSeg_keep _ _)
      (Keep.refl _ _) rfl)) (Keep.refl _ _)))])])

theorem freeIfEmpty_keep : ∀ a0 s, Keep 131072 s (freeIfEmpty a0 s) := by
  intro a0 s
  unfold freeIfEmpty
  exact
    (by split; exacts [(Keep.refl _ _), (Keep.ite (Keep.on (releaseSb_keep _ _) (Keep.refl _ _) rfl) (Keep.refl _
      _))])

theorem undo_keep : ∀ a0 s, Keep 42254512 s (undo a0 s) := by
  intro a0 s
  unfold undo
  dsimp only
  exact
    (by split; exacts [(Keep.upd_16384 rfl (Keep.refl _ _)), (Keep.upd_32768 rfl (Keep.refl _ _)), (Keep.on
      (undoLinkUp_keep _) (Keep.refl _ _) rfl), (Keep.upd_128 rfl (Keep.refl _ _)), (Keep.upd_8388608 rfl (Keep.refl _
      _)), (Keep.upd_8388608 rfl (Keep.refl _ _)), (Keep.upd_33554432 rfl (Keep.refl _ _)), (Keep.upd_33554432 rfl
      (Keep.refl _ _)), (Keep.upd_262144 rfl (Keep.foldl _ _ _ (fun _ _ => (Keep.on (freeChannel_keep _ _) (Keep.refl
      _ _) rfl)) (Keep.refl _ _))), (Keep.refl _ _)])

theorem eraseSectors_keep : ∀ a0 s, Keep 4194304 s (eraseSectors a0 s) := by
  intro a0 s
  unfold eraseSectors
  dsimp only
  exact
    Keep.upd_4194304 rfl (Keep.refl _ _)

theorem compact_keep : ∀ s, Keep 131072 s (compact s) := by
  intro s
  unfold compact
  dsimp only
  exact
    Keep.upd_131072 rfl (Keep.refl _ _)

theorem offerRun_keep : ∀ a0 a1 s, Keep 131072 s (offerRun a0 a1 s) := by
  intro a0 a1 s
  unfold offerRun
  dsimp only
  exact
    (by split; exacts [(Keep.refl _ _), (by split; exacts [(Keep.refl _ _), (Keep.ite (Keep.refl _ _) (Keep.foldl _ _
      _ (fun _ _ => (Keep.on (offerUnit_keep _ _ _ _ _ _) (Keep.refl _ _) rfl)) (Keep.foldl _ _ _ (fun _ _ => (Keep.on
      (offerSegment_keep _ _ _ _ _) (Keep.refl _ _) rfl)) (Keep.refl _ _))))])])

theorem logRebuild_keep : ∀ a0 a1 a2 s, Keep 16785408 s (logRebuild a0 a1 a2 s) := by
  intro a0 a1 a2 s
  unfold logRebuild
  exact
    Keep.on (logSev_keep _ _ _ _ _) (Keep.refl _ _) rfl

theorem afterDrain_keep : ∀ s, Keep 16777216 s (afterDrain s) := by
  intro s
  refine Keep.upd_16777216 rfl (fun h => ⟨h.handles, h.ring, h.mail, ⟨?_⟩⟩) (Keep.refl _ _)
  have f := h.recorder.fifo
  dsimp only
  split
  · exact f
  · split
    · simp
      omega
    · exact f

theorem logRetrain_keep : ∀ a0 a1 a2 a3 a4 a5 a6 s, Keep 16785408 s (logRetrain a0 a1 a2 a3 a4 a5 a6 s) := by
  intro a0 a1 a2 a3 a4 a5 a6 s
  unfold logRetrain
  exact
    Keep.on (logSev_keep _ _ _ _ _) (Keep.refl _ _) rfl

theorem endRun_keep : ∀ s, Keep 16785440 s (endRun s) := by
  intro s
  unfold endRun
  dsimp only
  exact
    (by split; exacts [(Keep.refl _ _), (Keep.on (logDeferred_keep _ _ _ _ _) (Keep.upd_32 rfl (Keep.refl _ _)) rfl)])

theorem trainDram_keep : ∀ a0 s, Keep 89137410 s (trainDram a0 s) := by
  intro a0 s
  unfold trainDram
  dsimp only
  exact
    Keep.ite (Keep.on (enterRecovery_keep _ _ _) (Keep.on (logRetrain_keep _ _ _ _ _ _ _ _) (Keep.refl _ _) rfl) rfl)
      (by split; exacts [(Keep.on (dramRuns_keep _ _ _ _) (Keep.refl _ _) rfl), (by split; exacts [(Keep.on
      (dramRuns_keep _ _ _ _) (Keep.on (logRetrain_keep _ _ _ _ _ _ _ _) (Keep.refl _ _) rfl) rfl), (Keep.on
      (enterRecovery_keep _ _ _) (Keep.on (logRetrain_keep _ _ _ _ _ _ _ _) (Keep.upd_1048576 rfl (Keep.on
      (logRetrain_keep _ _ _ _ _ _ _ _) (Keep.refl _ _) rfl)) rfl) rfl)])])

theorem writeSectors_keep : ∀ a0 s, Keep 4194304 s (writeSectors a0 s) := by
  intro a0 s
  unfold writeSectors
  exact
    Keep.on (protect_keep _ _ _) (Keep.on (eraseSectors_keep _ _) (Keep.on (endErase_keep _ _ _) (Keep.on
      (endErase_keep _ _ _) (Keep.refl _ _) rfl) rfl) rfl) rfl

theorem freeEmpty_keep : ∀ s, Keep 131072 s (freeEmpty s) := by
  intro s
  unfold freeEmpty
  exact
    Keep.foldl _ _ _ (fun _ _ => (Keep.on (freeIfEmpty_keep _ _) (Keep.refl _ _) rfl)) (Keep.refl _ _)

theorem storeConfig_keep : ∀ a0 s, Keep 4194304 s (storeConfig a0 s) := by
  intro a0 s
  unfold storeConfig
  dsimp only
  exact
    Keep.ite (Keep.upd_4194304 rfl (Keep.refl _ _)) (Keep.upd_4194304 rfl (Keep.refl _ _))

theorem retireSb_keep : ∀ a0 a1 s, Keep 131200 s (retireSb a0 a1 s) := by
  intro a0 a1 s
  unfold retireSb
  dsimp only
  exact
    (by split; exacts [(Keep.on (updateSb_keep _ _ _) (Keep.ite (Keep.on (closeFailed_keep _ _) (Keep.refl _ _) rfl)
      (Keep.refl _ _)) rfl), (by split; exacts [(Keep.on (freeIfEmpty_keep _ _) (Keep.on (updateSb_keep _ _ _)
      (Keep.ite (Keep.on (closeFailed_keep _ _) (Keep.refl _ _) rfl) (Keep.refl _ _)) rfl) rfl), (Keep.on
      (releaseSb_keep _ _) (Keep.on (updateSb_keep _ _ _) (Keep.ite (Keep.on (closeFailed_keep _ _) (Keep.refl _ _)
      rfl) (Keep.refl _ _)) rfl) rfl), (Keep.on (releaseSb_keep _ _) (Keep.on (updateSb_keep _ _ _) (Keep.ite (Keep.on
      (closeFailed_keep _ _) (Keep.refl _ _) rfl) (Keep.refl _ _)) rfl) rfl), (Keep.on (updateSb_keep _ _ _) (Keep.ite
      (Keep.on (closeFailed_keep _ _) (Keep.refl _ _) rfl) (Keep.refl _ _)) rfl)])])

theorem copyInto_keep : ∀ a0 a1 a2 a3 a4 s, Keep 131072 s (copyInto a0 a1 a2 a3 a4 s) := by
  intro a0 a1 a2 a3 a4 s
  unfold copyInto
  dsimp only
  exact
    (by split; exacts [(Keep.refl _ _), (Keep.ite (Keep.on (remapCopy_keep _ _ _ _ _) (Keep.upd_131072 rfl (Keep.on
      (updateSb_keep _ _ _) (Keep.refl _ _) rfl)) rfl) (Keep.on (addMove_keep _ _) (Keep.upd_131072 rfl (Keep.on
      (updateSb_keep _ _ _) (Keep.refl _ _) rfl)) rfl))])

theorem refillRing_keep : ∀ s, Keep 6144 s (refillRing s) := by
  intro s
  unfold refillRing
  exact
    Keep.on (drainBacklog_keep _ _) (Keep.refl _ _) rfl

theorem execNorOperationDone_keep : ∀ a0 a1 s, KeepR 12582912 s (execNorOperationDone a0 a1 s) := by
  intro a0 a1 s
  unfold execNorOperationDone
  dsimp only
  exact
    KeepR.next (by split; exacts [(Keep.refl _ _), (Keep.ite (Keep.ite (Keep.on (eraseUnfinished_keep _) (Keep.ite
      (Keep.upd_4194304 rfl (Keep.on (setBankOp_keep _ _ _) (Keep.on (protect_keep _ _ _) (Keep.ite (Keep.on
      (putFlags_keep _ _) (Keep.refl _ _) rfl) (Keep.refl _ _)) rfl) rfl)) (Keep.on (startTest_keep _ _ _)
      (Keep.upd_4194304 rfl (Keep.on (setBankOp_keep _ _ _) (Keep.on (protect_keep _ _ _) (Keep.ite (Keep.on
      (putFlags_keep _ _) (Keep.refl _ _) rfl) (Keep.refl _ _)) rfl) rfl)) rfl)) rfl) (Keep.ite (Keep.upd_4194304 rfl
      (Keep.on (setBankOp_keep _ _ _) (Keep.on (protect_keep _ _ _) (Keep.ite (Keep.on (putFlags_keep _ _) (Keep.refl
      _ _) rfl) (Keep.refl _ _)) rfl) rfl)) (Keep.on (startTest_keep _ _ _) (Keep.upd_4194304 rfl (Keep.on
      (setBankOp_keep _ _ _) (Keep.on (protect_keep _ _ _) (Keep.ite (Keep.on (putFlags_keep _ _) (Keep.refl _ _) rfl)
      (Keep.refl _ _)) rfl) rfl)) rfl))) (Keep.refl _ _))])

theorem discardFull_keep : ∀ a0 s, Keep 16785504 s (discardFull a0 s) := by
  intro a0 s
  unfold discardFull
  dsimp only
  exact
    Keep.upd_32 rfl (Keep.on (updateStream_keep _ _ _) (Keep.on (endRun_keep _) (Keep.refl _ _) rfl) rfl)

theorem sendIb_keep : ∀ a0 a1 s, Keep 134217744 s (sendIb a0 a1 s) := by
  intro a0 a1 s
  unfold sendIb
  exact
    Keep.ite (Keep.on (emit_keep _ _) (Keep.on (onLink_keep _ _) (Keep.refl _ _) rfl) rfl) (Keep.refl _ _)

theorem fenceUnit_keep : ∀ a0 s, Keep 12910592 s (fenceUnit a0 s) := by
  intro a0 s
  unfold fenceUnit
  dsimp only
  exact
    Keep.ite (Keep.refl _ _) (by split; exacts [(Keep.on (updateChan_keep _ _ _) (Keep.on (storeConfig_keep _ _)
      (Keep.upd_8388608 rfl (Keep.refl _ _)) rfl) rfl), (Keep.on (updateDie_keep _ _ _) (Keep.on (storeConfig_keep _
      _) (Keep.upd_8388608 rfl (Keep.refl _ _)) rfl) rfl), (Keep.upd_65536 rfl (Keep.on (storeConfig_keep _ _)
      (Keep.upd_8388608 rfl (Keep.refl _ _)) rfl)), (Keep.on (storeConfig_keep _ _) (Keep.upd_8388608 rfl (Keep.refl _
      _)) rfl)])

theorem writeHeadI3c_keep : ∀ a0 s, Keep 134224640 s (writeHeadI3c a0 s) := by
  intro a0 s
  unfold writeHeadI3c
  refine Keep.on (notify_keep _) (Keep.on (refillRing_keep _) (Keep.upd_4608 rfl (fun h => ⟨h.handles, ?_,
    ⟨h.mail.boxes, h.mail.areas⟩, h.recorder⟩) (Keep.refl _ _)) rfl) rfl
  have r := h.ring
  have v : field a0.toNat 0 10 < 1024 := Nat.mod_lt _ (by decide)
  have w := moveHead_ok (r := s.crg) (on := s.crg.i3cEn) r.headI3c r.unreadI3c v
  exact ⟨r.tail, r.headPcie, w.1, r.unreadPcie, w.2⟩

theorem execTrainSend_keep : ∀ a0 a1 a2 a3 s, KeepR 134217744 s (execTrainSend a0 a1 a2 a3 s) := by
  intro a0 a1 a2 a3 s
  unfold execTrainSend
  dsimp only
  exact
    KeepR.next (Keep.ite (Keep.ite (Keep.ite (Keep.on (onLink_keep _ _) (Keep.on (sendIb_keep _ _ _) (Keep.on
      (updateLane_keep _ _ _) (Keep.refl _ _) rfl) rfl) rfl) (Keep.on (sendIb_keep _ _ _) (Keep.on (updateLane_keep _
      _ _) (Keep.refl _ _) rfl) rfl)) (Keep.on (sendIb_keep _ _ _) (Keep.on (updateLane_keep _ _ _) (Keep.refl _ _)
      rfl) rfl)) (Keep.refl _ _))

theorem onFeature_keep {m : Nat} (cid : BitVec 16) (l : Nat) (f : Cmd → State → State) (s : State)
    (hf : ∀ c x, Keep m x (f c x)) : Keep m s (onFeature cid l f s) :=
  onAdmin_keep _ _ _ _ fun c x => Keep.ite (hf c x) (Keep.refl m x)

theorem eraseOlderStore_keep : ∀ s, Keep 4194304 s (eraseOlderStore s) := by
  intro s
  unfold eraseOlderStore
  dsimp only
  exact
    Keep.ite (Keep.upd_4194304 rfl (Keep.refl _ _)) (Keep.upd_4194304 rfl (Keep.refl _ _))

theorem execEventLogCopy_keep : ∀ s, KeepR 16777216 s (execEventLogCopy s) := by
  intro s
  unfold execEventLogCopy
  dsimp only
  exact
    KeepR.next (Keep.ite (Keep.refl _ _) (Keep.upd_16777216 rfl (fun h => Sound.re h rfl rfl rfl rfl rfl rfl rfl rfl
      rfl rfl rfl) ((Keep.refl _ _))))

theorem completeHandle_keep : ∀ a0 a1 a2 s, Keep 134224640 s (completeHandle a0 a1 a2 s) := by
  intro a0 a1 a2 s
  unfold completeHandle
  exact
    (by split; exacts [(Keep.refl _ _), (Keep.ite (Keep.refl _ _) (Keep.on (postEntry_keep _ _) (Keep.refl _ _)
      rfl))])

theorem sendStatus_keep : ∀ s, Keep 134217744 s (sendStatus s) := by
  intro s
  unfold sendStatus
  exact
    Keep.on (sendIb_keep _ _ _) (Keep.refl _ _) rfl

theorem readSpace_keep : ∀ a0 a1 a2 s, Keep 402653184 s (readSpace a0 a1 a2 s) := by
  intro a0 a1 a2 s
  unfold readSpace
  exact
    Keep.ite (Keep.on (drawn_keep _) (Keep.on (emit_keep _ _) (Keep.refl _ _) rfl) rfl) (Keep.on (emit_keep _ _)
      (Keep.refl _ _) rfl)

theorem writeConfig_keep : ∀ a0 a1 a2 s, Keep 134217984 s (writeConfig a0 a1 a2 s) := by
  intro a0 a1 a2 s
  unfold writeConfig
  dsimp only
  exact
    Keep.ite (Keep.on (writeConfigWord_keep _ _ _) (Keep.refl _ _) rfl) (Keep.refl _ _)

theorem respond_keep : ∀ a0 a1 a2 s, Keep 134218496 s (respond a0 a1 a2 s) := by
  intro a0 a1 a2 s
  unfold respond
  dsimp only
  refine Keep.on (notify_keep _) (Keep.on (updateBox_keep _ _ _) (Keep.upd_512 rfl (fun h => ⟨h.handles, h.ring,
    ⟨h.mail.boxes, memSplice_wf h.mail.areas _ _⟩, h.recorder⟩) (Keep.refl _ _)) rfl) rfl

theorem completeAll_keep : ∀ a0 s, Keep 134224640 s (completeAll a0 s) := by
  intro a0 s
  unfold completeAll
  exact
    Keep.foldl _ _ _ (fun _ _ => (Keep.on (completeHandle_keep _ _ _ _) (Keep.refl _ _) rfl)) (Keep.refl _ _)

theorem writeBoot_keep : ∀ a0 s, Keep 4194304 s (writeBoot a0 s) := by
  intro a0 s
  unfold writeBoot
  dsimp only
  exact
    Keep.upd_4194304 rfl (Keep.on (writeSectors_keep _ _) (Keep.upd_4194304 rfl (Keep.on (writeSectors_keep _ _)
      (Keep.refl _ _) rfl)) rfl)

theorem execCommitEchoRepeat_keep : ∀ a0 a1 s, KeepR 134217808 s (execCommitEchoRepeat a0 a1 s) := by
  intro a0 a1 s
  unfold execCommitEchoRepeat
  dsimp only
  exact
    KeepR.next (Keep.ite (Keep.on (sendIb_keep _ _ _) (Keep.upd_64 rfl (Keep.refl _ _)) rfl) (Keep.refl _ _))

theorem takeFrame_keep : ∀ a0 a1 a2 a3 a4 s, Keep 16785632 s (takeFrame a0 a1 a2 a3 a4 s) := by
  intro a0 a1 a2 a3 a4 s
  unfold takeFrame
  dsimp only
  exact
    Keep.upd_32 rfl (Keep.on (updateStream_keep _ _ _) (Keep.on (frameFence_keep _ _ _) (Keep.on (endRun_keep _)
      (Keep.refl _ _) rfl) rfl) rfl)

theorem onIo_keep {m : Nat} (sq : Nat) (cid : BitVec 16) (l : List Nat) (f : Cmd → State → State) (s : State)
    (hf : ∀ c x, Keep m x (f c x)) : Keep m s (onIo sq cid l f s) :=
  Keep.ite (Keep.refl m s) (onCmd_keep _ _ _ _ _ hf)

theorem logLasting_keep : ∀ a0 a1 a2 a3 a4 s, Keep 16785408 s (logLasting a0 a1 a2 a3 a4 s) := by
  intro a0 a1 a2 a3 a4 s
  unfold logLasting
  exact
    Keep.on (logSev_keep _ _ _ _ _) (Keep.refl _ _) rfl

theorem cqPost_keep : ∀ a0 a1 s, Keep 134217984 s (cqPost a0 a1 s) := by
  intro a0 a1 s
  unfold cqPost
  exact
    (by split; exacts [(Keep.refl _ _), (Keep.ite (Keep.on (cqInterrupt_keep _ _) (Keep.on (updateCq_keep _ _ _)
      (Keep.refl _ _) rfl) rfl) (Keep.on (updateCq_keep _ _ _) (Keep.refl _ _) rfl))])

theorem joinRun_keep : ∀ a0 a1 a2 s, Keep 16785440 s (joinRun a0 a1 a2 s) := by
  intro a0 a1 a2 s
  unfold joinRun
  dsimp only
  exact
    (by split; exacts [(Keep.upd_32 rfl (Keep.refl _ _)), (Keep.ite (Keep.upd_32 rfl (Keep.refl _ _)) (Keep.upd_32 rfl
      (Keep.on (endRun_keep _) (Keep.refl _ _) rfl)))])

theorem completeOp_keep : ∀ a0 a1 s, Keep 134224640 s (completeOp a0 a1 s) := by
  intro a0 a1 s
  unfold completeOp
  exact
    Keep.foldl _ _ _ (fun _ _ => (Keep.on (completeHandle_keep _ _ _ _) (Keep.refl _ _) rfl)) (Keep.refl _ _)

theorem discardFrame_keep : ∀ a0 a1 s, Keep 16785504 s (discardFrame a0 a1 s) := by
  intro a0 a1 s
  unfold discardFrame
  dsimp only
  exact
    Keep.upd_32 rfl (Keep.on (joinRun_keep _ _ _ _) (Keep.on (updateStream_keep _ _ _) (Keep.refl _ _) rfl) rfl)

theorem execCsPatchLoadDone_keep : ∀ s, KeepR 138681088 s (execCsPatchLoadDone s) := by
  intro s
  unfold execCsPatchLoadDone
  dsimp only
  exact
    KeepR.next (by split; exacts [(Keep.ite (Keep.on (completeHandle_keep _ _ _ _) (Keep.upd_262144 rfl (Keep.on
      (storeConfig_keep _ _) (Keep.refl _ _) rfl)) rfl) (Keep.refl _ _)), (Keep.refl _ _)])

theorem replacePosition_keep : ∀ a0 a1 s, Keep 268566656 s (replacePosition a0 a1 s).1 := by
  intro a0 a1 s
  unfold replacePosition
  dsimp only
  exact
    (by split; exacts [(Keep.on (appendSlot_keep _ _) (Keep.on (drawn_keep _) (Keep.upd_131072 rfl (Keep.refl _ _))
      rfl) rfl), (Keep.on (retireSb_keep _ _ _) (Keep.refl _ _) rfl)])

theorem writeCtrl_keep : ∀ a0 a1 s, Keep 134224640 s (writeCtrl a0 a1 s) := by
  intro a0 a1 s
  unfold writeCtrl
  dsimp only
  exact
    Keep.on (notify_keep _) (Keep.on (refillRing_keep _) (by split; exacts [(Keep.upd_4096 rfl (fun h => Sound.re h
      rfl rfl rfl rfl rfl rfl rfl rfl rfl rfl rfl) ((Keep.on (setPcieEn_keep _ _) (Keep.ite (Keep.on
      (clearOverflow_keep _) (Keep.refl _ _) rfl) (Keep.refl _ _)) rfl))), (Keep.on (setI3cEn_keep _ _) (Keep.ite
      (Keep.on (clearOverflow_keep _) (Keep.refl _ _) rfl) (Keep.refl _ _)) rfl)]) rfl) rfl

theorem reachCaptureReady_keep : ∀ s, Keep 21102850 s (reachCaptureReady s) := by
  intro s
  unfold reachCaptureReady
  dsimp only
  exact
    Keep.ite (Keep.refl _ _) (Keep.ite (Keep.on (updateGc_keep _) (Keep.upd_16777216 rfl (fun h => Sound.re h rfl rfl
      rfl rfl rfl rfl rfl rfl rfl rfl rfl) ((Keep.on (eraseUnfinished_keep _) (Keep.on (settleBoot_keep _) (Keep.on
      (burnLevel_keep _) (Keep.upd_258 rfl (Keep.refl _ _)) rfl) rfl) rfl))) rfl) (Keep.on (eraseUnfinished_keep _)
      (Keep.on (settleBoot_keep _) (Keep.on (burnLevel_keep _) (Keep.upd_258 rfl (Keep.refl _ _)) rfl) rfl) rfl))

theorem logEvent_keep : ∀ a0 a1 a2 s, Keep 16785408 s (logEvent a0 a1 a2 s) := by
  intro a0 a1 a2 s
  unfold logEvent
  exact
    Keep.on (logSev_keep _ _ _ _ _) (Keep.refl _ _) rfl

theorem refillCq_keep : ∀ a0 a1 s, Keep 134217984 s (refillCq a0 a1 s) := by
  intro q l
  induction l with
  | nil => intro s; exact Keep.refl _ _
  | cons e es ih =>
    intro s
    unfold refillCq
    split
    · exact Keep.refl _ _
    · exact Keep.ite (Keep.on (ih _) (Keep.on (cqInterrupt_keep _ _) (Keep.on (updateCq_keep _ _ _) (Keep.refl _ _) rfl) rfl)
        rfl) (Keep.on (updateCq_keep _ _ _) (Keep.refl _ _) rfl)

theorem writeHeadPcie_keep : ∀ a0 s, Keep 134224640 s (writeHeadPcie a0 s) := by
  intro a0 s
  unfold writeHeadPcie
  refine Keep.on (notify_keep _) (Keep.on (refillRing_keep _) (Keep.upd_4608 rfl (fun h => ⟨h.handles, ?_,
    ⟨h.mail.boxes, h.mail.areas⟩, h.recorder⟩) (Keep.refl _ _)) rfl) rfl
  have r := h.ring
  have v : field a0.toNat 0 10 < 1024 := Nat.mod_lt _ (by decide)
  have w := moveHead_ok (r := s.crg) (on := s.crg.pcieEn) r.headPcie r.unreadPcie v
  exact ⟨r.tail, w.1, r.headI3c, w.2, r.unreadI3c⟩

theorem logFalse_keep : ∀ a0 s, Keep 16785408 s (logFalse a0 s) := by
  intro a0 s
  unfold logFalse
  exact
    Keep.foldl _ _ _ (fun _ _ => (Keep.on (logEvent_keep _ _ _ _) (Keep.refl _ _) rfl)) (Keep.refl _ _)

theorem execGetInventoryDone_keep : ∀ s, KeepR 402660096 s (execGetInventoryDone s) := by
  intro s
  unfold execGetInventoryDone
  dsimp only
  exact
    KeepR.next (by split; exacts [(Keep.refl _ _), (Keep.ite (Keep.refl _ _) (Keep.on (completeHandle_keep _ _ _ _)
      (Keep.upd_268435456 rfl (Keep.on (emit_keep _ _) (Keep.refl _ _) rfl)) rfl))])

theorem endDiscard_keep : ∀ a0 a1 s, Keep 167779072 s (endDiscard a0 a1 s) := by
  intro a0 a1 s
  unfold endDiscard
  exact
    Keep.on (completeHandle_keep _ _ _ _) (Keep.on (updateDiscard_keep _ _ _) (Keep.refl _ _) rfl) rfl

theorem accept_keep {m : Nat} (n : Nat) (op : BitVec 16) (c : Bool) (a b : Nat) (past : Bool)
    (k : BitVec 32 → State → State) (s : State) (hm : 402656000 &&& m = 402656000)
    (hk : ∀ v x, Keep m x (k v x)) : Keep m s (accept n op c a b past k s) := by
  have r (x : State) (st : BitVec 16) (l : List Byte) (h : Keep m s x) : Keep m s (respond n st l x) :=
    Keep.on (respond_keep _ _ _ _) h (mask_sub hm rfl)
  unfold accept
  split
  · exact r _ _ _ (Keep.refl m s)
  · rename_i v hv
    refine Keep.ite (r _ _ _ (Keep.refl m s)) (r _ _ _ (Keep.ho (hk _ _) ?_))
    refine Keep.on (drawn_keep _) (Keep.on (y := { s with hnd := { s.hnd with
      live := s.hnd.live ++ [_], generation := nextGeneration s.hnd.generation } }) (m1 := 2048) ⟨rfl, fun h => ?_⟩
      (Keep.refl m s) (mask_sub hm rfl)) (mask_sub hm rfl)
    exact ⟨handles_new h.handles hv rfl, h.ring, h.mail, h.recorder⟩

theorem logCopyBad_keep : ∀ a0 a1 a2 a3 s, Keep 16785408 s (logCopyBad a0 a1 a2 a3 s) := by
  intro a0 a1 a2 a3 s
  unfold logCopyBad
  exact
    Keep.on (logSev_keep _ _ _ _ _) (Keep.refl _ _) rfl

theorem replacePatch_keep : ∀ s, Keep 4194304 s (replacePatch s) := by
  intro s
  unfold replacePatch
  dsimp only
  exact
    Keep.ite (Keep.on (storeConfig_keep _ _) (Keep.refl _ _) rfl) (Keep.refl _ _)

theorem blankCheck_keep : ∀ a0 a1 s, Keep 16916480 s (blankCheck a0 a1 s) := by
  intro a0 a1 s
  unfold blankCheck
  dsimp only
  exact
    Keep.ite (by split; exacts [(Keep.ite (Keep.on (updateSb_keep _ _ _) (Keep.foldl _ _ _ (fun _ _ => (Keep.on
      (logEvent_keep _ _ _ _) (Keep.refl _ _) rfl)) (Keep.refl _ _)) rfl) (Keep.on (appendSlot_keep _ _) (Keep.on
      (updateSb_keep _ _ _) (Keep.foldl _ _ _ (fun _ _ => (Keep.on (logEvent_keep _ _ _ _) (Keep.refl _ _) rfl))
      (Keep.refl _ _)) rfl) rfl)), (Keep.on (updateSb_keep _ _ _) (Keep.foldl _ _ _ (fun _ _ => (Keep.on
      (logEvent_keep _ _ _ _) (Keep.refl _ _) rfl)) (Keep.refl _ _)) rfl)]) (Keep.refl _ _)

theorem logBadCopy_keep : ∀ a0 a1 s, Keep 25174016 s (logBadCopy a0 a1 s) := by
  intro a0 a1 s
  unfold logBadCopy
  exact
    Keep.on (startTest_keep _ _ _) (Keep.on (logEvent_keep _ _ _ _) (Keep.refl _ _) rfl) rfl

theorem settlePowerSet_keep : ∀ s, Keep 134224640 s (settlePowerSet s) := by
  intro s
  unfold settlePowerSet
  exact
    (by split; exacts [(Keep.ite (Keep.on (completeHandle_keep _ _ _ _) (Keep.refl _ _) rfl) (Keep.refl _ _)),
      (Keep.refl _ _)])

theorem sendCredit_keep : ∀ s, Keep 134217744 s (sendCredit s) := by
  intro s
  unfold sendCredit
  exact
    Keep.on (sendIb_keep _ _ _) (Keep.refl _ _) rfl

theorem logHaltRestarts_keep : ∀ s, Keep 16785408 s (logHaltRestarts s) := by
  intro s
  unfold logHaltRestarts
  exact
    Keep.foldl _ _ _ (fun _ _ => (by split; exacts [(Keep.ite (Keep.on (logEvent_keep _ _ _ _) (Keep.refl _ _) rfl)
      (Keep.refl _ _)), (Keep.refl _ _)])) (Keep.refl _ _)

theorem beginStop_keep : ∀ a0 s, Keep 147102466 s (beginStop a0 s) := by
  intro a0 s
  unfold beginStop
  dsimp only
  exact
    Keep.upd_12877824 rfl (Keep.on (completeOp_keep _ _ _) (Keep.on (completeOp_keep _ _ _) (Keep.on (completeOp_keep
      _ _ _) (Keep.upd_2 rfl (Keep.refl _ _)) rfl) rfl) rfl)

theorem readDone_keep : ∀ a0 a1 s, Keep 134218496 s (readDone a0 a1 s) := by
  intro a0 a1 s
  unfold readDone
  dsimp only
  exact
    Keep.ite (Keep.on (notify_keep _) (by split; exacts [(Keep.upd_512 rfl (fun h => Sound.re h rfl rfl rfl rfl rfl
      rfl rfl rfl rfl rfl rfl) ((Keep.on (updateBox_keep _ _ _) (Keep.refl _ _) rfl))), (Keep.upd_512 rfl (fun h =>
      Sound.re h rfl rfl rfl rfl rfl rfl rfl rfl rfl rfl rfl) ((Keep.on (updateBox_keep _ _ _) (Keep.refl _ _)
      rfl)))]) rfl) (Keep.refl _ _)

theorem postNotice_keep : ∀ a0 a1 s, Keep 134224640 s (postNotice a0 a1 s) := by
  intro a0 a1 s
  unfold postNotice
  dsimp only
  exact
    Keep.ite (Keep.upd_4096 rfl (fun h => Sound.re h rfl rfl rfl rfl rfl rfl rfl rfl rfl rfl rfl) ((Keep.refl _ _)))
      (Keep.on (postEntry_keep _ _) (Keep.ite (Keep.refl _ _) (Keep.on (postEntry_keep _ _) (Keep.upd_4096 rfl (fun h
      => Sound.re h rfl rfl rfl rfl rfl rfl rfl rfl rfl rfl rfl) ((Keep.refl _ _))) rfl)) rfl)

theorem readEffects_keep : ∀ a0 a1 s, Keep 225444608 s (readEffects a0 a1 s) := by
  intro a0 a1 s
  unfold readEffects
  exact
    Keep.ite (Keep.refl _ _) (Keep.ite (Keep.on (latchHigh_keep _ _ _) (Keep.refl _ _) rfl) (Keep.ite (Keep.on
      (latchHigh_keep _ _ _) (Keep.refl _ _) rfl) (by split; exacts [(Keep.refl _ _), (Keep.ite (Keep.on
      (readDone_keep _ _ _) (Keep.refl _ _) rfl) (Keep.on (clearRead_keep _ _) (Keep.refl _ _) rfl))])))

theorem busParity_keep : ∀ a0 a1 a2 a3 a4 a5 a6 s, Keep 25174016 s (busParity a0 a1 a2 a3 a4 a5 a6 s) := by
  intro a0 a1 a2 a3 a4 a5 a6 s
  unfold busParity
  exact
    Keep.on (startTest_keep _ _ _) (Keep.on (logEvent_keep _ _ _ _) (Keep.refl _ _) rfl) rfl

theorem execFrameStallNotice_keep : ∀ s, KeepR 16785440 s (execFrameStallNotice s) := by
  intro s
  unfold execFrameStallNotice
  dsimp only
  exact
    KeepR.next (by split; exacts [(Keep.refl _ _), (Keep.ite (Keep.refl _ _) (Keep.on (logEvent_keep _ _ _ _)
      (Keep.upd_32 rfl (Keep.refl _ _)) rfl))])

theorem guardMismatch_keep : ∀ a0 a1 a2 a3 a4 s, Keep 16785408 s (guardMismatch a0 a1 a2 a3 a4 s) := by
  intro a0 a1 a2 a3 a4 s
  unfold guardMismatch
  exact
    Keep.on (logEvent_keep _ _ _ _) (Keep.refl _ _) rfl

theorem writeParity_keep : ∀ a0 a1 s, Keep 25174016 s (writeParity a0 a1 s) := by
  intro a0 a1 s
  unfold writeParity
  dsimp only
  exact
    Keep.ite (Keep.refl _ _) (Keep.on (busParity_keep _ _ _ _ _ _ _ _) (Keep.refl _ _) rfl)

theorem wantRelocate_keep : ∀ a0 a1 s, Keep 16916480 s (wantRelocate a0 a1 s) := by
  intro a0 a1 s
  unfold wantRelocate
  exact
    (by split; exacts [(Keep.refl _ _), (Keep.ite (Keep.refl _ _) (Keep.on (logEvent_keep _ _ _ _) (Keep.on
      (updateSb_keep _ _ _) (Keep.refl _ _) rfl) rfl))])

theorem logPatched_keep : ∀ a0 a1 s, Keep 16785408 s (logPatched a0 a1 s) := by
  intro a0 a1 s
  unfold logPatched
  exact
    Keep.on (logEvent_keep _ _ _ _) (Keep.refl _ _) rfl

theorem readParity_keep : ∀ a0 a1 a2 s, Keep 293609472 s (readParity a0 a1 a2 s) := by
  intro a0 a1 a2 s
  unfold readParity
  dsimp only
  exact
    Keep.on (drawn_keep _) (Keep.on (busParity_keep _ _ _ _ _ _ _ _) (Keep.refl _ _) rfl) rfl

theorem abandonSb_keep : ∀ a0 a1 s, Keep 16916608 s (abandonSb a0 a1 s) := by
  intro a0 a1 s
  unfold abandonSb
  dsimp only
  exact
    (by split; exacts [(Keep.refl _ _), (Keep.ite (Keep.refl _ _) (Keep.ite (Keep.on (logEvent_keep _ _ _ _) (Keep.on
      (closeFailed_keep _ _) (Keep.refl _ _) rfl) rfl) (Keep.on (closeFailed_keep _ _) (Keep.refl _ _) rfl)))])

theorem rebuildMap_keep : ∀ a0 s, Keep 131072 s (rebuildMap a0 s) := by
  intro a0 s
  unfold rebuildMap
  dsimp only
  exact
    Keep.upd_131072 rfl (Keep.on (sweepOverlay_keep _) (Keep.foldl _ _ _ (fun _ _ => (Keep.on (applyRecord_keep _ _)
      (Keep.refl _ _) rfl)) (Keep.foldl _ _ _ (fun _ _ => (Keep.foldl _ _ _ (fun _ _ => (Keep.on (offerRun_keep _ _ _)
      (Keep.refl _ _) rfl)) (Keep.refl _ _))) (Keep.refl _ _))) rfl)

theorem logCancelRace_keep : ∀ a0 a1 s, Keep 285220864 s (logCancelRace a0 a1 s) := by
  intro a0 a1 s
  unfold logCancelRace
  exact
    Keep.on (drawn_keep _) (Keep.on (logEvent_keep _ _ _ _) (Keep.refl _ _) rfl) rfl

theorem loseLock_keep : ∀ a0 a1 s, Keep 25174064 s (loseLock a0 a1 s) := by
  intro a0 a1 s
  unfold loseLock
  dsimp only
  exact
    (by split; exacts [(Keep.on (enterRetrain_keep _) (Keep.on (updateLane_keep _ _ _) (Keep.ite (Keep.on
      (logEvent_keep _ _ _ _) (Keep.refl _ _) rfl) (Keep.on (startTest_keep _ _ _) (Keep.on (logEvent_keep _ _ _ _)
      (Keep.refl _ _) rfl) rfl)) rfl) rfl), (Keep.on (failBringUp_keep _) (Keep.refl _ _) rfl), (Keep.on
      (failBringUp_keep _) (Keep.refl _ _) rfl), (Keep.on (failBringUp_keep _) (Keep.refl _ _) rfl), (Keep.refl _ _)])

theorem recoveryRing_keep : ∀ a0 s, Keep 134218496 s (recoveryRing a0 s) := by
  intro a0 s
  unfold recoveryRing
  exact
    Keep.ite (Keep.on (respond_keep _ _ _ _) (Keep.refl _ _) rfl) (by split; exacts [(Keep.on (respond_keep _ _ _ _)
      (Keep.refl _ _) rfl), (Keep.ite (Keep.on (respond_keep _ _ _ _) (Keep.refl _ _) rfl) (Keep.refl _ _))])

theorem execBackpressureEpisode_keep : ∀ s, KeepR 16785472 s (execBackpressureEpisode s) := by
  intro s
  unfold execBackpressureEpisode
  dsimp only
  exact
    KeepR.next (Keep.ite (Keep.foldl _ _ _ (fun _ _ => (Keep.on (logEvent_keep _ _ _ _) (Keep.refl _ _) rfl))
      (Keep.upd_64 rfl (Keep.refl _ _))) (Keep.refl _ _))

theorem markStale_keep : ∀ a0 a1 s, Keep 17047552 s (markStale a0 a1 s) := by
  intro a0 a1 s
  unfold markStale
  dsimp only
  exact
    (by split; exacts [(Keep.refl _ _), (Keep.ite (Keep.refl _ _) (Keep.ite (Keep.on (updateDie_keep _ _ _) (Keep.refl
      _ _) rfl) (Keep.on (logEvent_keep _ _ _ _) (Keep.on (updateDie_keep _ _ _) (Keep.refl _ _) rfl) rfl)))])

theorem programFailed_keep : ∀ a0 a1 a2 a3 s, Keep 285352064 s (programFailed a0 a1 a2 a3 s) := by
  intro a0 a1 a2 a3 s
  unfold programFailed
  dsimp only
  exact
    Keep.on (logEvent_keep _ _ _ _) (Keep.on (replacePosition_keep _ _ _) (Keep.on (abandonSb_keep _ _ _) (Keep.refl _
      _) rfl) rfl) rfl

theorem loseUnit_keep : ∀ a0 a1 s, Keep 25174144 s (loseUnit a0 a1 s) := by
  intro a0 a1 s
  unfold loseUnit
  dsimp only
  exact
    (by split; exacts [(Keep.refl _ _), (Keep.on (startTest_keep _ _ _) (Keep.on (guardMismatch_keep _ _ _ _ _ _)
      (Keep.on (updateWrite_keep _ _ _) (Keep.refl _ _) rfl) rfl) rfl)])

theorem noteLowWater_keep : ∀ a0 s, Keep 16785472 s (noteLowWater a0 s) := by
  intro a0 s
  unfold noteLowWater
  exact
    (by split; exacts [(Keep.refl _ _), (Keep.ite (Keep.on (logEvent_keep _ _ _ _) (Keep.on (updateStream_keep _ _ _)
      (Keep.refl _ _) rfl) rfl) (Keep.refl _ _))])

theorem foundCorrectable_keep : ∀ a0 a1 a2 a3 s, Keep 18882560 s (foundCorrectable a0 a1 a2 a3 s) := by
  intro a0 a1 a2 a3 s
  unfold foundCorrectable
  dsimp only
  exact
    Keep.on (logEvent_keep _ _ _ _) (Keep.on (noteLast_keep _ _ _ _ _ _) (Keep.upd_2097152 rfl (Keep.on (putBlock_keep
      _ _) (Keep.refl _ _) rfl)) rfl) rfl

theorem execCommitAck_keep : ∀ a0 s, KeepR 134232912 s (execCommitAck a0 s) := by
  intro a0 s
  unfold execCommitAck
  dsimp only
  exact
    KeepR.next (by split; exacts [(Keep.refl _ _), (by split; exacts [(Keep.refl _ _), (by split; exacts [(Keep.refl _
      _), (Keep.ite (Keep.on (commitPulse_keep _ _) (Keep.on (postNotice_keep _ _ _) (Keep.upd_64 rfl (Keep.on
      (sendIb_keep _ _ _) (Keep.on (updateStream_keep _ _ _) (Keep.refl _ _) rfl) rfl)) rfl) rfl) (Keep.refl _
      _))])])])

theorem completePowerSet_keep : ∀ a0 a1 s, Keep 134224640 s (completePowerSet a0 a1 s) := by
  intro a0 a1 s
  unfold completePowerSet
  exact
    (by split; exacts [(Keep.on (completeHandle_keep _ _ _ _) (Keep.refl _ _) rfl), (Keep.refl _ _)])

theorem activateRecord_keep : ∀ a0 a1 s, Keep 138418944 s (activateRecord a0 a1 s) := by
  intro a0 a1 s
  unfold activateRecord
  dsimp only
  exact
    Keep.on (completeHandle_keep _ _ _ _) (Keep.on (provision_keep _ _) (Keep.refl _ _) rfl) rfl

theorem logAbortRace_keep : ∀ a0 a1 s, Keep 16785408 s (logAbortRace a0 a1 s) := by
  intro a0 a1 s
  unfold logAbortRace
  exact
    Keep.on (logEvent_keep _ _ _ _) (Keep.refl _ _) rfl

theorem completeCmd_keep : ∀ a0 a1 a2 a3 a4 a5 a6 s, Keep 134217984 s (completeCmd a0 a1 a2 a3 a4 a5 a6 s) := by
  intro a0 a1 a2 a3 a4 a5 a6 s
  unfold completeCmd
  dsimp only
  exact
    (by split; exacts [(Keep.refl _ _), (by split; exacts [(Keep.on (countHost_keep _ _) (Keep.upd_256 rfl (Keep.refl
      _ _)) rfl), (Keep.ite (Keep.on (cqPost_keep _ _ _) (Keep.on (countHost_keep _ _) (Keep.upd_256 rfl (Keep.refl _
      _)) rfl) rfl) (Keep.ite (Keep.upd_256 rfl (Keep.on (countHost_keep _ _) (Keep.upd_256 rfl (Keep.refl _ _)) rfl))
      (Keep.on (countHost_keep _ _) (Keep.upd_256 rfl (Keep.refl _ _)) rfl)))])])

theorem storeCorrected_keep : ∀ a0 a1 a2 s, Keep 17047552 s (storeCorrected a0 a1 a2 s) := by
  intro a0 a1 a2 s
  unfold storeCorrected
  dsimp only
  exact
    Keep.on (logEvent_keep _ _ _ _) (Keep.on (updateChan_keep _ _ _) (Keep.refl _ _) rfl) rfl

theorem fenceLasting_keep : ∀ a0 a1 a2 s, Keep 29696000 s (fenceLasting a0 a1 a2 s) := by
  intro a0 a1 a2 s
  unfold fenceLasting
  dsimp only
  exact
    Keep.on (logLasting_keep _ _ _ _ _ _) (Keep.on (fenceUnit_keep _ _) (Keep.refl _ _) rfl) rfl

theorem endRead_keep : ∀ a0 s, Keep 524288 s (endRead a0 s) := by
  intro a0 s
  unfold endRead
  dsimp only
  exact
    Keep.upd_524288 rfl (Keep.refl _ _)

theorem logRestart_keep : ∀ a0 a1 a2 s, Keep 16785408 s (logRestart a0 a1 a2 s) := by
  intro a0 a1 a2 s
  unfold logRestart
  exact
    Keep.on (logEvent_keep _ _ _ _) (Keep.refl _ _) rfl

theorem logWake_keep : ∀ a0 s, Keep 285220864 s (logWake a0 s) := by
  intro a0 s
  unfold logWake
  exact
    Keep.on (drawn_keep _) (Keep.on (logEvent_keep _ _ _ _) (Keep.refl _ _) rfl) rfl

theorem completeSome_keep : ∀ a0 a1 a2 s, Keep 134224640 s (completeSome a0 a1 a2 s) := by
  intro a0 a1 a2 s
  unfold completeSome
  exact
    (by split; exacts [(Keep.refl _ _), (Keep.on (completeHandle_keep _ _ _ _) (Keep.refl _ _) rfl)])

theorem logLimitCrossing_keep : ∀ a0 s, Keep 16785408 s (logLimitCrossing a0 s) := by
  intro a0 s
  unfold logLimitCrossing
  exact
    Keep.ite (Keep.refl _ _) (Keep.on (logEvent_keep _ _ _ _) (Keep.refl _ _) rfl)

theorem execLaneSignalLoss_keep : ∀ a0 s, KeepR 25174064 s (execLaneSignalLoss a0 s) := by
  intro a0 s
  unfold execLaneSignalLoss
  exact
    KeepR.next (Keep.on (loseLock_keep _ _ _) (Keep.on (updateLane_keep _ _ _) (Keep.refl _ _) rfl) rfl)

theorem logSample_keep : ∀ a0 a1 a2 s, Keep 16850944 s (logSample a0 a1 a2 s) := by
  intro a0 a1 a2 s
  unfold logSample
  dsimp only
  exact
    Keep.ite (Keep.upd_65536 rfl (Keep.refl _ _)) (Keep.on (logEvent_keep _ _ _ _) (Keep.refl _ _) rfl)

theorem checkRing_keep : ∀ a0 s, Keep 134218496 s (checkRing a0 s) := by
  intro a0 s
  unfold checkRing
  exact
    (by split; exacts [(Keep.on (respond_keep _ _ _ _) (Keep.refl _ _) rfl), (Keep.refl _ _)])

theorem authFail_keep : ∀ a0 a1 a2 a3 s, Keep 16785408 s (authFail a0 a1 a2 a3 s) := by
  intro a0 a1 a2 a3 s
  unfold authFail
  exact
    Keep.on (logEvent_keep _ _ _ _) (Keep.refl _ _) rfl

theorem eraseFailed_keep : ∀ a0 a1 a2 s, Keep 285352064 s (eraseFailed a0 a1 a2 s) := by
  intro a0 a1 a2 s
  unfold eraseFailed
  dsimp only
  exact
    Keep.on (logEvent_keep _ _ _ _) (Keep.on (replacePosition_keep _ _ _) (Keep.refl _ _) rfl) rfl

theorem completeDw_keep : ∀ a0 a1 a2 s, Keep 134217984 s (completeDw a0 a1 a2 s) := by
  intro a0 a1 a2 s
  unfold completeDw
  exact
    Keep.on (completeCmd_keep _ _ _ _ _ _ _ _) (Keep.refl _ _) rfl

theorem updateRead_keep : ∀ a0 a1 s, Keep 524288 s (updateRead a0 a1 s) := by
  intro a0 a1 s
  unfold updateRead
  dsimp only
  exact
    Keep.upd_524288 rfl (Keep.refl _ _)

theorem stageBoot_keep : ∀ a0 a1 s, Keep 155204352 s (stageBoot a0 a1 s) := by
  intro a0 a1 s
  unfold stageBoot
  exact
    Keep.ite (Keep.on (completeHandle_keep _ _ _ _) (Keep.refl _ _) rfl) (by split; exacts [(Keep.on
      (completeHandle_keep _ _ _ _) (Keep.on (authFail_keep _ _ _ _ _) (Keep.refl _ _) rfl) rfl), (Keep.on
      (completeHandle_keep _ _ _ _) (Keep.on (writeBoot_keep _ _) (Keep.refl _ _) rfl) rfl)])

theorem xoRead_keep : ∀ a0 a1 a2 s, Keep 289415168 s (xoRead a0 a1 a2 s) := by
  intro a0 a1 a2 s
  unfold xoRead
  dsimp only
  exact
    Keep.on (logEvent_keep _ _ _ _) (Keep.on (drawn_keep _) (Keep.upd_4194304 rfl (Keep.refl _ _)) rfl) rfl

theorem logMemoryFails_keep : ∀ a0 a1 s, Keep 16785408 s (logMemoryFails a0 a1 s) := by
  intro a0 a1 s
  unfold logMemoryFails
  dsimp only
  exact
    Keep.on (logEvent_keep _ _ _ _) (Keep.upd_16777216 rfl (fun h => Sound.re h rfl rfl rfl rfl rfl rfl rfl rfl rfl
      rfl rfl) ((Keep.refl _ _))) rfl

theorem execGetDeviceInfo_keep : ∀ a0 s, KeepR 134218496 s (execGetDeviceInfo a0 s) := by
  intro a0 s
  unfold execGetDeviceInfo
  dsimp only
  exact
    KeepR.next (Keep.ite (Keep.on (respond_keep _ _ _ _) (Keep.refl _ _) rfl) (Keep.refl _ _))

theorem loseRoutine_keep : ∀ a0 s a2, Keep 16916608 s (loseRoutine a0 s a2) := by
  intro a0 s a2
  unfold loseRoutine
  exact
    (by split; exacts [(Keep.on (abandonSb_keep _ _ _) (Keep.refl _ _) rfl), (Keep.on (updateSb_keep _ _ _) (Keep.refl
      _ _) rfl), (Keep.refl _ _)])

theorem enterState_keep : ∀ a0 s, Keep 135551744 s (enterState a0 s) := by
  intro a0 s
  unfold enterState
  dsimp only
  exact
    Keep.on (settlePowerSet_keep _) (Keep.ite (Keep.upd_1048576 rfl (Keep.ite (Keep.on (gateMedia_keep _)
      (Keep.upd_16384 rfl (Keep.refl _ _)) rfl) (Keep.upd_16384 rfl (Keep.refl _ _)))) (Keep.ite (Keep.on
      (gateMedia_keep _) (Keep.upd_16384 rfl (Keep.refl _ _)) rfl) (Keep.upd_16384 rfl (Keep.refl _ _)))) rfl

theorem settleFrom_keep : ∀ a0 a1 s, Keep 131200 s (settleFrom a0 a1 s) := by
  intro a0 a1
  induction a1 generalizing a0 with
  | nil => intro s; exact Keep.upd_128 rfl (Keep.refl _ _)
  | cons w ws ih =>
    intro s
    unfold settleFrom
    dsimp only
    refine Keep.ite ?_ (Keep.ite (ih _ _) (ih _ _))
    split
    · rename_i e
      have k := Keep.on (m := 131200) (mapWrite_keep _ _ _ e) (Keep.refl _ _) rfl
      exact Keep.ite (Keep.ho (ih _ _) k) (Keep.ho (ih _ _) k)
    · exact ih _ _

theorem logUnfinished_keep : ∀ a0 a1 a2 s, Keep 16785408 s (logUnfinished a0 a1 a2 s) := by
  intro a0 a1 a2 s
  unfold logUnfinished
  dsimp only
  exact
    Keep.on (logEvent_keep _ _ _ _) (Keep.refl _ _) rfl

theorem logThrottle_keep : ∀ a0 s, Keep 285286400 s (logThrottle a0 s) := by
  intro a0 s
  unfold logThrottle
  exact
    Keep.on (drawn_keep _) (Keep.on (logSample_keep _ _ _ _) (Keep.refl _ _) rfl) rfl

theorem execNorAutoSuspend_keep : ∀ a0 a1 a2 s, KeepR 20979712 s (execNorAutoSuspend a0 a1 a2 s) := by
  intro a0 a1 a2 s
  unfold execNorAutoSuspend
  dsimp only
  exact
    KeepR.next (by split; exacts [(Keep.refl _ _), (Keep.ite (Keep.upd_4194304 rfl (Keep.on (setBankOp_keep _ _ _)
      (Keep.ite (Keep.on (logEvent_keep _ _ _ _) (Keep.refl _ _) rfl) (Keep.refl _ _)) rfl)) (Keep.refl _ _))])

theorem logPi_keep : ∀ a0 a1 a2 a3 s, Keep 16785408 s (logPi a0 a1 a2 a3 s) := by
  intro a0 a1 a2 a3 s
  unfold logPi
  exact
    Keep.on (logEvent_keep _ _ _ _) (Keep.refl _ _) rfl

theorem logUncorrectable_keep : ∀ a0 a1 a2 s, Keep 16785408 s (logUncorrectable a0 a1 a2 s) := by
  intro a0 a1 a2 s
  unfold logUncorrectable
  exact
    Keep.on (logEvent_keep _ _ _ _) (Keep.refl _ _) rfl

theorem execGrantRaise_keep : ∀ s, KeepR 134217808 s (execGrantRaise s) := by
  intro s
  unfold execGrantRaise
  dsimp only
  exact
    KeepR.next (Keep.ite (Keep.ite (Keep.upd_64 rfl (Keep.on (sendCredit_keep _) (Keep.on (onLink_keep _ _) (Keep.refl
      _ _) rfl) rfl)) (Keep.on (sendCredit_keep _) (Keep.on (onLink_keep _ _) (Keep.refl _ _) rfl) rfl)) (Keep.refl _
      _))

theorem keyStep_keep {m : Nat} (h : Handle) (k : Nat) (b f : State → State) (x : KeyStep) (s : State)
    (hm : 134355712 &&& m = 134355712) (hb : ∀ x, Keep m x (b x)) (hf : ∀ x, Keep m x (f x)) :
    Keep m s (keyStep h k b f x s) := by
  have rest (y : State) (hy : Keep m s y) : Keep m s (match x with
      | .replaced => y
      | .stored => f y) := by
    split
    · exact hy
    · exact Keep.ho (hf _) hy
  unfold keyStep
  refine Keep.ite (rest s (Keep.refl m s)) (Keep.ite ?_ ?_)
  · exact Keep.on (completeHandle_keep _ _ _ _) (Keep.refl m s) (mask_sub hm rfl)
  · unfold needNumbers
    refine Keep.ite (rest _ (Keep.ho (hb _) ?_)) (Keep.on (askBlock_keep s) (Keep.refl m s) (mask_sub hm rfl))
    exact Keep.on (passCancel_keep _ _) (Keep.refl m s) (mask_sub hm rfl)

theorem serveLatched_keep : ∀ s, Keep 134218496 s (serveLatched s) := by
  intro s
  unfold serveLatched
  exact
    Keep.foldl _ _ _ (fun _ _ => (Keep.ite (Keep.on (checkRing_keep _ _) (Keep.on (updateBox_keep _ _ _) (Keep.refl _
      _) rfl) rfl) (Keep.refl _ _))) (Keep.refl _ _)

theorem routeRing_keep : ∀ a0 s, Keep 134218496 s (routeRing a0 s) := by
  intro a0 s
  unfold routeRing
  exact
    (by split; exacts [(Keep.ite (Keep.on (checkRing_keep _ _) (Keep.refl _ _) rfl) (Keep.on (updateBox_keep _ _ _)
      (Keep.refl _ _) rfl)), (Keep.on (recoveryRing_keep _ _) (Keep.refl _ _) rfl), (Keep.on (respond_keep _ _ _ _)
      (Keep.refl _ _) rfl), (Keep.on (respond_keep _ _ _ _) (Keep.refl _ _) rfl), (Keep.on (respond_keep _ _ _ _)
      (Keep.refl _ _) rfl), (Keep.refl _ _)])

theorem activate_keep : ∀ a0 a1 a2 s, Keep 147102466 s (activate a0 a1 a2 s) := by
  intro a0 a1 a2 s
  unfold activate
  dsimp only
  exact
    Keep.on (beginStop_keep _ _) (Keep.on (storeConfig_keep _ _) (Keep.upd_256 rfl (Keep.refl _ _)) rfl) rfl

theorem bootServe_keep {m : Nat} (n : Nat) (op : BitVec 16) (f : State → State) (s : State)
    (hf : ∀ x, Keep m x (f x)) : Keep m s (bootServe n op f s) := Keep.ite (hf s) (Keep.refl m s)

theorem foundBad_keep : ∀ a0 a1 a2 a3 a4 a5 s, Keep 27271168 s (foundBad a0 a1 a2 a3 a4 a5 s) := by
  intro a0 a1 a2 a3 a4 a5 s
  unfold foundBad
  dsimp only
  exact
    Keep.ite (Keep.on (logEvent_keep _ _ _ _) (Keep.on (noteLast_keep _ _ _ _ _ _) (Keep.upd_2097152 rfl (Keep.on
      (putBlock_keep _ _) (Keep.refl _ _) rfl)) rfl) rfl) (Keep.on (startRegionTest_keep _ _ _) (Keep.on
      (logEvent_keep _ _ _ _) (Keep.on (noteLast_keep _ _ _ _ _ _) (Keep.upd_2097152 rfl (Keep.on (putBlock_keep _ _)
      (Keep.refl _ _) rfl)) rfl) rfl) rfl)

theorem serve_keep {m : Nat} (n : Nat) (op : BitVec 16) (f : State → State) (s : State)
    (hf : ∀ x, Keep m x (f x)) : Keep m s (serve n op f s) := Keep.ite (hf s) (Keep.refl m s)

theorem grantSb_keep : ∀ a0 a1 s, Keep 16916480 s (grantSb a0 a1 s) := by
  intro a0 a1 s
  unfold grantSb
  dsimp only
  exact
    Keep.ite (Keep.refl _ _) (by split; exacts [(Keep.refl _ _), (Keep.on (updateGc_keep _) (Keep.on (appendSlot_keep
      _ _) (Keep.on (updateSb_keep _ _ _) (Keep.on (blankCheck_keep _ _ _) (Keep.refl _ _) rfl) rfl) rfl) rfl)])

theorem releaseCompletions_keep : ∀ s, Keep 134217984 s (releaseCompletions s) := by
  intro s
  unfold releaseCompletions
  dsimp only
  exact
    Keep.foldl _ _ _ (fun _ _ => (Keep.on (cqPost_keep _ _ _) (Keep.refl _ _) rfl)) (Keep.upd_256 rfl (Keep.refl _ _))

theorem selectSlot_keep : ∀ a0 s, Keep 4194560 s (selectSlot a0 s) := by
  intro a0 s
  unfold selectSlot
  dsimp only
  exact
    Keep.on (storeConfig_keep _ _) (Keep.upd_256 rfl (Keep.refl _ _)) rfl

theorem logRecovery_keep : ∀ a0 a1 s, Keep 16785408 s (logRecovery a0 a1 s) := by
  intro a0 a1 s
  unfold logRecovery
  exact
    Keep.on (logEvent_keep _ _ _ _) (Keep.refl _ _) rfl

theorem answerBusy_keep : ∀ a0 s, Keep 134218496 s (answerBusy a0 s) := by
  intro a0 s
  unfold answerBusy
  exact
    Keep.foldl _ _ _ (fun _ _ => (Keep.ite (Keep.on (respond_keep _ _ _ _) (Keep.refl _ _) rfl) (Keep.refl _ _)))
      (Keep.refl _ _)

theorem execHoldupTest_keep : ∀ a0 s, KeepR 402688768 s (execHoldupTest a0 s) := by
  intro a0 s
  unfold execHoldupTest
  exact
    KeepR.next (Keep.ho (serve_keep _ _ _ _ (fun x => (Keep.ho (accept_keep _ _ _ _ _ _ _ _ rfl (fun v x => (Keep.on
      (joinHoldup_keep _ _) (Keep.refl _ _) rfl))) (Keep.refl _ _)))) (Keep.refl _ _))

theorem logMismatch_keep : ∀ a0 a1 a2 s, Keep 25174016 s (logMismatch a0 a1 a2 s) := by
  intro a0 a1 a2 s
  unfold logMismatch
  dsimp only
  exact
    Keep.ite (Keep.on (startTest_keep _ _ _) (Keep.on (logEvent_keep _ _ _ _) (Keep.refl _ _) rfl) rfl) (Keep.on
      (logEvent_keep _ _ _ _) (Keep.refl _ _) rfl)

theorem codewordParity_keep : ∀ a0 s, Keep 293609472 s (codewordParity a0 s) := by
  intro a0 s
  unfold codewordParity
  dsimp only
  exact
    Keep.ite (Keep.refl _ _) (Keep.on (busParity_keep _ _ _ _ _ _ _ _) (Keep.on (drawn_keep _) (Keep.refl _ _) rfl)
      rfl)

theorem rebuildCopy_keep : ∀ a0 s, Keep 16916480 s (rebuildCopy a0 s) := by
  intro a0 s
  unfold rebuildCopy
  dsimp only
  exact
    (by split; exacts [(Keep.refl _ _), (Keep.on (logEvent_keep _ _ _ _) (Keep.upd_131072 rfl (Keep.refl _ _)) rfl)])

theorem flitParity_keep : ∀ a0 a1 a2 s, Keep 293871616 s (flitParity a0 a1 a2 s) := by
  intro a0 a1 a2 s
  unfold flitParity
  dsimp only
  exact
    Keep.ite (Keep.on (busParity_keep _ _ _ _ _ _ _ _) (Keep.on (updateLink_keep _ _ _) (Keep.upd_268435456 rfl
      (Keep.refl _ _)) rfl) rfl) (Keep.on (busParity_keep _ _ _ _ _ _ _ _) (Keep.on (updateLink_keep _ _ _)
      (Keep.upd_268435456 rfl (Keep.refl _ _)) rfl) rfl)

theorem i3cReset_keep : ∀ s, Keep 134224640 s (i3cReset s) := by
  intro s
  unfold i3cReset
  dsimp only
  exact
    Keep.on (notify_keep _) (Keep.on (refillRing_keep _) (Keep.on (setI3cEn_keep _ _) (Keep.upd_512 rfl (fun h =>
      Sound.re h rfl rfl rfl rfl rfl rfl rfl rfl rfl rfl rfl) ((Keep.on (endOwnership_keep _ _) (Keep.refl _ _) rfl)))
      rfl) rfl) rfl

theorem execThermalSetLimits_keep : ∀ a0 s, KeepR 138478336 s (execThermalSetLimits a0 s) := by
  intro a0 s
  unfold execThermalSetLimits
  dsimp only
  exact
    KeepR.next (Keep.ho (serve_keep _ _ _ _ (fun x => (Keep.on (respond_keep _ _ _ _) (Keep.on (storeConfig_keep _ _)
      (Keep.upd_65536 rfl (Keep.refl _ _)) rfl) rfl))) (Keep.refl _ _))

theorem haltAll_keep : ∀ a0 a1 s, Keep 164428562 s (haltAll a0 a1 s) := by
  intro a0 a1 s
  unfold haltAll
  dsimp only
  exact
    Keep.upd_13418498 rfl (Keep.foldl _ _ _ (fun _ _ => (Keep.on (restContext_keep _ _) (Keep.refl _ _) rfl)) (Keep.on
      (logHaltRestarts_keep _) (Keep.on (completeAll_keep _ _) (Keep.on (answerBusy_keep _ _) (Keep.ite (Keep.refl _
      _) (Keep.on (sendStatus_keep _) (Keep.on (haltBundle_keep _) (Keep.refl _ _) rfl) rfl)) rfl) rfl) rfl))

theorem execDrbgHealthFail_keep : ∀ s, KeepR 50339840 s (execDrbgHealthFail s) := by
  intro s
  unfold execDrbgHealthFail
  dsimp only
  exact
    KeepR.next (Keep.ite (Keep.on (authFail_keep _ _ _ _ _) (Keep.upd_33554432 rfl (Keep.refl _ _)) rfl) (Keep.refl _
      _))

theorem asyncEvent_keep : ∀ a0 a1 a2 s, Keep 134217984 s (asyncEvent a0 a1 a2 s) := by
  intro a0 a1 a2 s
  unfold asyncEvent
  dsimp only
  exact
    (by split; exacts [(Keep.refl _ _), (Keep.on (completeDw_keep _ _ _ _) (Keep.upd_256 rfl (Keep.refl _ _)) rfl)])

theorem logFec_keep : ∀ a0 a1 a2 s, Keep 25174016 s (logFec a0 a1 a2 s) := by
  intro a0 a1 a2 s
  unfold logFec
  dsimp only
  exact
    Keep.on (startTest_keep _ _ _) (Keep.on (logEvent_keep _ _ _ _) (Keep.refl _ _) rfl) rfl

theorem endOverlayEpisode_keep : ∀ s, Keep 131072 s (endOverlayEpisode s) := by
  intro s
  unfold endOverlayEpisode
  dsimp only
  exact
    Keep.ite (Keep.upd_131072 rfl (Keep.refl _ _)) (Keep.refl _ _)

theorem takeDieTemp_keep : ∀ a0 a1 s, Keep 17113088 s (takeDieTemp a0 a1 s) := by
  intro a0 a1 s
  unfold takeDieTemp
  dsimp only
  exact
    Keep.ite (Keep.on (logEvent_keep _ _ _ _) (Keep.upd_65536 rfl (Keep.on (updateDie_keep _ _ _) (Keep.refl _ _)
      rfl)) rfl) (Keep.ite (Keep.upd_65536 rfl (Keep.on (updateDie_keep _ _ _) (Keep.refl _ _) rfl)) (Keep.on
      (updateDie_keep _ _ _) (Keep.refl _ _) rfl))

theorem settleTake_keep : ∀ a0 s, Keep 134224704 s (settleTake a0 s) := by
  intro a0 s
  unfold settleTake
  dsimp only
  exact
    (by split; exacts [(Keep.refl _ _), (Keep.ite (by split; exacts [(Keep.on (completeHandle_keep _ _ _ _)
      (Keep.upd_64 rfl (Keep.refl _ _)) rfl), (Keep.upd_64 rfl (Keep.refl _ _))]) (Keep.refl _ _))])

theorem execCancel_keep : ∀ a0 s, KeepR 461700016 s (execCancel a0 s) := by
  intro a0 s
  unfold execCancel
  dsimp only
  exact
    KeepR.next (Keep.ho (serve_keep _ _ _ _ (fun x => (by split; exacts [(Keep.on (respond_keep _ _ _ _) (Keep.refl _
      _) rfl), (Keep.ite (Keep.on (respond_keep _ _ _ _) (Keep.on (logCancelRace_keep _ _ _) (Keep.refl _ _) rfl) rfl)
      (Keep.on (respond_keep _ _ _ _) (Keep.on (completeHandle_keep _ _ _ _) (Keep.on (undo_keep _ _) (Keep.refl _ _)
      rfl) rfl) rfl))]))) (Keep.refl _ _))

theorem maceWord_keep : ∀ a0 a1 a2 s, Keep 295968768 s (maceWord a0 a1 a2 s) := by
  intro a0 a1 a2 s
  unfold maceWord
  dsimp only
  exact
    (by split; exacts [(Keep.refl _ _), (Keep.on (logEvent_keep _ _ _ _) (Keep.upd_2097152 rfl (Keep.refl _ _)) rfl),
      (Keep.on (drawn_keep _) (Keep.on (drawn_keep _) (Keep.on (markStale_keep _ _ _) (Keep.on (startRegionTest_keep _
      _ _) (Keep.on (logEvent_keep _ _ _ _) (Keep.upd_2097152 rfl (Keep.refl _ _)) rfl) rfl) rfl) rfl) rfl)])

theorem logNoStore_keep : ∀ s, Keep 16785408 s (logNoStore s) := by
  intro s
  unfold logNoStore
  dsimp only
  exact
    Keep.ite (Keep.refl _ _) (Keep.foldl _ _ _ (fun _ _ => (Keep.on (logEvent_keep _ _ _ _) (Keep.refl _ _) rfl))
      (Keep.refl _ _))

theorem execBufferPartition_keep : ∀ a0 s, KeepR 151003968 s (execBufferPartition a0 s) := by
  intro a0 s
  unfold execBufferPartition
  dsimp only
  exact
    KeepR.next (Keep.ho (serve_keep _ _ _ _ (fun x => (Keep.ite (Keep.on (respond_keep _ _ _ _) (Keep.refl _ _) rfl)
      (Keep.ite (Keep.on (respond_keep _ _ _ _) (Keep.refl _ _) rfl) (Keep.on (respond_keep _ _ _ _) (Keep.on
      (logLimitCrossing_keep _ _) (Keep.upd_64 rfl (Keep.refl _ _)) rfl) rfl))))) (Keep.refl _ _))

theorem writeRingRegister_keep : ∀ a0 a1 a2 s, Keep 134224640 s (writeRingRegister a0 a1 a2 s) := by
  intro a0 a1 a2 s
  unfold writeRingRegister
  exact
    (by split; exacts [(Keep.on (writeHeadPcie_keep _ _) (Keep.refl _ _) rfl), (Keep.on (writeHeadI3c_keep _ _)
      (Keep.refl _ _) rfl), (Keep.on (writeCtrl_keep _ _ _) (Keep.refl _ _) rfl), (Keep.refl _ _)])

theorem failGeneric_keep : ∀ a0 a1 a2 s, Keep 134217984 s (failGeneric a0 a1 a2 s) := by
  intro a0 a1 a2 s
  unfold failGeneric
  exact
    Keep.on (completeCmd_keep _ _ _ _ _ _ _ _) (Keep.refl _ _) rfl

theorem loseOperation_keep : ∀ a0 s, Keep 17178752 s (loseOperation a0 s) := by
  intro a0 s
  unfold loseOperation
  dsimp only
  exact
    (by split; exacts [(Keep.refl _ _), (Keep.foldl _ _ _ (fun _ _ => (Keep.on (loseRoutine_keep _ _ _) (Keep.refl _
      _) rfl)) (Keep.on (updateDie_keep _ _ _) (Keep.on (restContext_keep _ _) (Keep.refl _ _) rfl) rfl))])

theorem zeroBuffered_keep : ∀ a0 s, Keep 128 s (zeroBuffered a0 s) := by
  intro a0 s
  unfold zeroBuffered
  dsimp only
  exact
    Keep.upd_128 rfl (Keep.refl _ _)

theorem execKeySet_keep : ∀ a0 s, KeepR 402656000 s (execKeySet a0 s) := by
  intro a0 s
  unfold execKeySet
  dsimp only
  exact
    KeepR.next (Keep.ho (serve_keep _ _ _ _ (fun x => (by split; exacts [(Keep.on (respond_keep _ _ _ _) (Keep.refl _
      _) rfl), (Keep.ite (Keep.on (respond_keep _ _ _ _) (Keep.refl _ _) rfl) (Keep.ite (Keep.on (respond_keep _ _ _
      _) (Keep.refl _ _) rfl) (Keep.ite (Keep.on (respond_keep _ _ _ _) (Keep.refl _ _) rfl) (Keep.ho (accept_keep _ _
      _ _ _ _ _ _ rfl (fun v x => (Keep.refl _ _))) (Keep.refl _ _)))))]))) (Keep.refl _ _))

theorem logExcluded_keep : ∀ a0 a1 a2 a3 s, Keep 285286400 s (logExcluded a0 a1 a2 a3 s) := by
  intro a0 a1 a2 a3 s
  unfold logExcluded
  dsimp only
  exact
    Keep.upd_268435456 rfl (Keep.on (logSample_keep _ _ _ _) (Keep.refl _ _) rfl)

theorem firstLedger_keep : ∀ a0 s, Keep 268566914 s (firstLedger a0 s) := by
  intro a0 s
  unfold firstLedger
  dsimp only
  exact
    Keep.foldl _ _ _ (fun _ _ => (Keep.on (replacePosition_keep _ _ _) (Keep.refl _ _) rfl)) (Keep.upd_131458 rfl
      (Keep.refl _ _))

theorem execStatusSend_keep : ∀ s, KeepR 134217744 s (execStatusSend s) := by
  intro s
  unfold execStatusSend
  exact
    KeepR.next (Keep.on (sendStatus_keep _) (Keep.refl _ _) rfl)

theorem fenceGroup_keep : ∀ a0 s, Keep 12910592 s (fenceGroup a0 s) := by
  intro a0 s
  unfold fenceGroup
  exact
    Keep.ite (Keep.foldl _ _ _ (fun _ _ => (Keep.on (fenceUnit_keep _ _) (Keep.refl _ _) rfl)) (Keep.refl _ _))
      (Keep.refl _ _)

theorem takeWhole_keep : ∀ a0 s, Keep 131200 s (takeWhole a0 s) := by
  intro a0 s
  unfold takeWhole
  dsimp only
  exact
    Keep.foldl _ _ _ (fun _ _ => (Keep.on (slotDurable_keep _ _) (Keep.refl _ _) rfl)) (Keep.upd_131072 rfl (Keep.refl
      _ _))

theorem startHalt_keep : ∀ s, Keep 432929554 s (startHalt s) := by
  intro s
  unfold startHalt
  dsimp only
  exact
    Keep.upd_65538 rfl (Keep.ite (Keep.on (lastCause_keep _ _ _ _) (Keep.on (drawn_keep _) (Keep.on (logEvent_keep _ _
      _ _) (Keep.refl _ _) rfl) rfl) rfl) (Keep.on (haltAll_keep _ _ _) (Keep.on (lastCause_keep _ _ _ _) (Keep.on
      (drawn_keep _) (Keep.on (logEvent_keep _ _ _ _) (Keep.refl _ _) rfl) rfl) rfl) rfl))

theorem disagreeSet_keep : ∀ a0 s, Keep 25174032 s (disagreeSet a0 s) := by
  intro a0 s
  unfold disagreeSet
  dsimp only
  exact
    Keep.foldl _ _ _ (fun _ _ => (Keep.ite (Keep.refl _ _) (Keep.on (logFec_keep _ _ _ _) (Keep.refl _ _) rfl)))
      (Keep.on (consume_keep _ _) (Keep.refl _ _) rfl)

theorem logFirst_keep : ∀ a0 s, Keep 25174032 s (logFirst a0 s) := by
  intro a0 s
  unfold logFirst
  exact
    Keep.foldl _ _ _ (fun _ _ => (Keep.ite (Keep.on (logFec_keep _ _ _ _) (Keep.on (updateLane_keep _ _ _) (Keep.refl
      _ _) rfl) rfl) (Keep.refl _ _))) (Keep.refl _ _)

theorem reportExclusion_keep : ∀ a0 a1 s a3, Keep 293675008 s (reportExclusion a0 a1 s a3) := by
  intro a0 a1 s a3
  unfold reportExclusion
  exact
    Keep.on (startTest_keep _ _ _) (Keep.on (logExcluded_keep _ _ _ _ _) (Keep.refl _ _) rfl) rfl

theorem execDieTempRead_keep : ∀ a0 a1 s, KeepR 17113088 s (execDieTempRead a0 a1 s) := by
  intro a0 a1 s
  unfold execDieTempRead
  exact
    KeepR.next (by split; exacts [(Keep.refl _ _), (Keep.ite (Keep.on (takeDieTemp_keep _ _ _) (Keep.refl _ _) rfl)
      (Keep.refl _ _))])

theorem memberClosed_keep : ∀ a0 s, Keep 134224704 s (memberClosed a0 s) := by
  intro a0 s
  unfold memberClosed
  exact
    (by split; exacts [(Keep.refl _ _), (Keep.ite (Keep.on (settleTake_keep _ _) (Keep.on (updateTake_keep _ _ _)
      (Keep.refl _ _) rfl) rfl) (Keep.refl _ _))])

theorem execGetInventory_keep : ∀ a0 s, KeepR 402656000 s (execGetInventory a0 s) := by
  intro a0 s
  unfold execGetInventory
  exact
    KeepR.next (Keep.ho (serve_keep _ _ _ _ (fun x => (Keep.ite (Keep.on (respond_keep _ _ _ _) (Keep.refl _ _) rfl)
      (Keep.ho (accept_keep _ _ _ _ _ _ _ _ rfl (fun v x => (Keep.refl _ _))) (Keep.refl _ _))))) (Keep.refl _ _))

theorem execFrameIndexRead_keep : ∀ a0 s, KeepR 134218496 s (execFrameIndexRead a0 s) := by
  intro a0 s
  unfold execFrameIndexRead
  dsimp only
  exact
    KeepR.next (Keep.ho (serve_keep _ _ _ _ (fun x => (by split; exacts [(Keep.on (respond_keep _ _ _ _) (Keep.refl _
      _) rfl), (Keep.on (respond_keep _ _ _ _) (Keep.refl _ _) rfl)]))) (Keep.refl _ _))

theorem execDebugUnlock_keep : ∀ a0 s, KeepR 436210432 s (execDebugUnlock a0 s) := by
  intro a0 s
  unfold execDebugUnlock
  dsimp only
  exact
    KeepR.next (Keep.ho (serve_keep _ _ _ _ (fun x => (Keep.ite (Keep.on (respond_keep _ _ _ _) (Keep.refl _ _) rfl)
      (Keep.ite (Keep.on (respond_keep _ _ _ _) (Keep.refl _ _) rfl) (Keep.ite (Keep.on (respond_keep _ _ _ _)
      (Keep.refl _ _) rfl) (Keep.ho (accept_keep _ _ _ _ _ _ _ _ rfl (fun v x => (Keep.upd_33554432 rfl (Keep.refl _
      _)))) (Keep.refl _ _))))))) (Keep.refl _ _))

theorem readMemberTemps_keep : ∀ a0 a1 s, Keep 17113088 s (readMemberTemps a0 a1 s) := by
  intro a0 a1 s
  unfold readMemberTemps
  exact
    Keep.foldl _ _ _ (fun _ _ => (Keep.ite (Keep.refl _ _) (Keep.on (takeDieTemp_keep _ _ _) (Keep.refl _ _) rfl)))
      (Keep.refl _ _)

theorem execRstact_keep : ∀ a0 s, KeepR 134224640 s (execRstact a0 s) := by
  intro a0 s
  unfold execRstact
  exact
    KeepR.next (Keep.ite (Keep.on (i3cReset_keep _) (Keep.refl _ _) rfl) (Keep.refl _ _))

theorem issueErases_keep : ∀ s, Keep 131072 s (issueErases s) := by
  intro s
  unfold issueErases
  exact
    Keep.foldl _ _ _ (fun _ _ => (Keep.ite (Keep.on (eraseSb_keep _ _) (Keep.refl _ _) rfl) (Keep.refl _ _)))
      (Keep.refl _ _)

theorem closeSb_keep : ∀ a0 s, Keep 131072 s (closeSb a0 s) := by
  intro a0 s
  unfold closeSb
  dsimp only
  exact
    Keep.on (promote_keep _ _) (Keep.on (updateSb_keep _ _ _) (Keep.refl _ _) rfl) rfl

theorem execEventRead_keep : ∀ a0 s, KeepR 134218496 s (execEventRead a0 s) := by
  intro a0 s
  unfold execEventRead
  dsimp only
  exact
    KeepR.next (Keep.ite (Keep.on (respond_keep _ _ _ _) (Keep.refl _ _) rfl) (Keep.refl _ _))

theorem storeKeys_keep : ∀ s, Keep 4194304 s (storeKeys s) := by
  intro s
  unfold storeKeys
  exact
    Keep.on (storeConfig_keep _ _) (Keep.refl _ _) rfl

theorem nextSet_keep : ∀ a0 a1 a2 s, Keep 786432 s (nextSet a0 a1 a2 s) := by
  intro a0 a1 a2 s
  unfold nextSet
  exact
    (by split; exacts [(Keep.on (updateDie_keep _ _ _) (Keep.on (updateRead_keep _ _ _) (Keep.refl _ _) rfl) rfl),
      (Keep.on (updateRead_keep _ _ _) (Keep.refl _ _) rfl)])

end Sys2Proof.Laws
end

