-- ==== Sys2Proof/Laws/Keep3.lean ====
section
/-! SUPPORT. What each operation and each meaning may change, and that it keeps soundness: part 3 of 4, each after the
ones it uses. -/

namespace Sys2Proof.Laws

open Sys2Proof Sys2Proof.Machine Sys2Proof.Safety

theorem execSetTime_keep : ∀ a0 s, KeepR 134349572 s (execSetTime a0 s) := by
  intro a0 s
  unfold execSetTime
  dsimp only
  exact
    KeepR.next (Keep.ho (serve_keep _ _ _ _ (fun x => (Keep.on (respond_keep _ _ _ _) (Keep.on (datePrograms_keep _ _)
      (Keep.upd_4 rfl (Keep.refl _ _)) rfl) rfl))) (Keep.refl _ _))

theorem enterThrottle_keep : ∀ a0 s, Keep 285286400 s (enterThrottle a0 s) := by
  intro a0 s
  unfold enterThrottle
  dsimp only
  exact
    Keep.on (logThrottle_keep _ _) (Keep.upd_65536 rfl (Keep.refl _ _)) rfl

theorem execKeyZeroize_keep : ∀ a0 s, KeepR 402656000 s (execKeyZeroize a0 s) := by
  intro a0 s
  unfold execKeyZeroize
  exact
    KeepR.next (Keep.ho (serve_keep _ _ _ _ (fun x => (Keep.ite (Keep.on (respond_keep _ _ _ _) (Keep.refl _ _) rfl)
      (Keep.ho (accept_keep _ _ _ _ _ _ _ _ rfl (fun v x => (Keep.refl _ _))) (Keep.refl _ _))))) (Keep.refl _ _))

theorem fenceSensor_keep : ∀ a0 s, Keep 285286400 s (fenceSensor a0 s) := by
  intro a0 s
  unfold fenceSensor
  dsimp only
  exact
    Keep.ite (Keep.refl _ _) (Keep.on (logExcluded_keep _ _ _ _ _) (Keep.on (excludeSensor_keep _ _) (Keep.refl _ _)
      rfl) rfl)

theorem execCaptureLinkUp_keep : ∀ a0 s, KeepR 402656016 s (execCaptureLinkUp a0 s) := by
  intro a0 s
  unfold execCaptureLinkUp
  dsimp only
  exact
    KeepR.next (Keep.ho (serve_keep _ _ _ _ (fun x => (Keep.ite (Keep.on (respond_keep _ _ _ _) (Keep.refl _ _) rfl)
      (Keep.ho (accept_keep _ _ _ _ _ _ _ _ rfl (fun v x => (Keep.on (startLink_keep _ _ _) (Keep.refl _ _) rfl)))
      (Keep.refl _ _))))) (Keep.refl _ _))

theorem scanFlags_keep : ∀ s, Keep 20979712 s (scanFlags s) := by
  intro s
  unfold scanFlags
  dsimp only
  exact
    Keep.foldl _ _ _ (fun _ _ => (by split; exacts [(Keep.refl _ _), (Keep.upd_4194304 rfl (Keep.on
      (logUnfinished_keep _ _ _ _) (Keep.on (invalidate_keep _ _) (Keep.refl _ _) rfl) rfl))])) (Keep.refl _ _)

theorem execFwStage_keep : ∀ a0 s, KeepR 436210432 s (execFwStage a0 s) := by
  intro a0 s
  unfold execFwStage
  dsimp only
  exact
    KeepR.next (Keep.ho (bootServe_keep _ _ _ _ (fun x => (Keep.ite (Keep.on (respond_keep _ _ _ _) (Keep.refl _ _)
      rfl) (Keep.ho (accept_keep _ _ _ _ _ _ _ _ rfl (fun v x => (Keep.on (beginStage_keep _ _ _) (Keep.refl _ _)
      rfl))) (Keep.refl _ _))))) (Keep.refl _ _))

theorem execGetPinFunction_keep : ∀ a0 s, KeepR 402653952 s (execGetPinFunction a0 s) := by
  intro a0 s
  unfold execGetPinFunction
  dsimp only
  exact
    KeepR.next (Keep.ho (serve_keep _ _ _ _ (fun x => (Keep.on (respond_keep _ _ _ _) (Keep.on (drawn_keep _)
      (Keep.refl _ _) rfl) rfl))) (Keep.refl _ _))

theorem storeFrameUnit_keep : ∀ a0 s, Keep 224 s (storeFrameUnit a0 s) := by
  intro a0 s
  unfold storeFrameUnit
  dsimp only
  exact
    (by split; exacts [(Keep.refl _ _), (Keep.on (storeUnit_keep _ _ _ _) (Keep.upd_32 rfl (Keep.refl _ _)) rfl)])

theorem loseParked_keep : ∀ a0 s, Keep 17178752 s (loseParked a0 s) := by
  intro a0 s
  unfold loseParked
  dsimp only
  exact
    Keep.foldl _ _ _ (fun _ _ => (Keep.on (loseRoutine_keep _ _ _) (Keep.refl _ _) rfl)) (Keep.on (updateDie_keep _ _
      _) (Keep.refl _ _) rfl)

theorem fetchCorrects_keep : ∀ a0 a1 s, Keep 17047552 s (fetchCorrects a0 a1 s) := by
  intro a0 a1 s
  unfold fetchCorrects
  exact
    (by split; exacts [(Keep.on (storeCorrected_keep _ _ _ _) (Keep.refl _ _) rfl), (Keep.refl _ _)])

theorem discover_keep : ∀ a0 s, Keep 365240320 s (discover a0 s) := by
  intro a0 s
  unfold discover
  dsimp only
  exact
    Keep.foldl _ _ _ (fun _ _ => (Keep.on (fenceGroup_keep _ _) (Keep.refl _ _) rfl)) (Keep.foldl _ _ _ (fun _ _ =>
      (Keep.ite (Keep.refl _ _) (Keep.on (fenceLasting_keep _ _ _ _) (Keep.refl _ _) rfl))) (Keep.foldl _ _ _ (fun _ _
      => (Keep.ite (Keep.refl _ _) (Keep.on (fenceLasting_keep _ _ _ _) (Keep.refl _ _) rfl))) (Keep.upd_335806464 rfl
      (Keep.refl _ _))))

theorem execSetPinFunction_keep : ∀ a0 s, KeepR 138420992 s (execSetPinFunction a0 s) := by
  intro a0 s
  unfold execSetPinFunction
  dsimp only
  exact
    KeepR.next (Keep.ho (serve_keep _ _ _ _ (fun x => (Keep.ite (Keep.on (respond_keep _ _ _ _) (Keep.refl _ _) rfl)
      (Keep.on (respond_keep _ _ _ _) (Keep.upd_8192 rfl (Keep.ite (Keep.on (storeConfig_keep _ _) (Keep.refl _ _)
      rfl) (Keep.refl _ _))) rfl)))) (Keep.refl _ _))

theorem endForStore_keep : ∀ a0 s, Keep 285614208 s (endForStore a0 s) := by
  intro a0 s
  unfold endForStore
  dsimp only
  exact
    (by split; exacts [(Keep.refl _ _), (Keep.ite (Keep.on (drawn_keep _) (Keep.on (markStale_keep _ _ _) (Keep.on
      (loseOperation_keep _ _) (Keep.on (releaseBus_keep _ _) (Keep.refl _ _) rfl) rfl) rfl) rfl) (Keep.on
      (loseOperation_keep _ _) (Keep.on (releaseBus_keep _ _) (Keep.refl _ _) rfl) rfl))])

theorem beginFold_keep : ∀ a0 a1 s, Keep 131200 s (beginFold a0 a1 s) := by
  intro a0 a1 s
  unfold beginFold
  dsimp only
  exact
    Keep.upd_131200 rfl (Keep.on (putSeg_keep _ _) (Keep.refl _ _) rfl)

theorem settleMap_keep : ∀ s, Keep 131200 s (settleMap s) := by
  intro s
  unfold settleMap
  exact
    Keep.on (settleFrom_keep _ _ _) (Keep.on (recordAll_keep _) (Keep.refl _ _) rfl) rfl

theorem refuseUnsupported_keep : ∀ s, Keep 134217984 s (refuseUnsupported s) := by
  intro s
  unfold refuseUnsupported
  exact
    Keep.ite (Keep.refl _ _) (Keep.foldl _ _ _ (fun _ _ => (by split; exacts [(Keep.ite (Keep.on (failGeneric_keep _ _
      _ _) (Keep.refl _ _) rfl) (Keep.refl _ _)), (Keep.refl _ _)])) (Keep.refl _ _))

theorem gateForP4_keep : ∀ s, Keep 135551746 s (gateForP4 s) := by
  intro s
  unfold gateForP4
  dsimp only
  exact
    Keep.upd_1064962 rfl (Keep.on (gateMedia_keep _) (Keep.on (completePowerSet_keep _ _ _) (Keep.refl _ _) rfl) rfl)

theorem routineFailed_keep : ∀ a0 a1 a2 a3 a4 s, Keep 294002816 s (routineFailed a0 a1 a2 a3 a4 s) := by
  intro a0 a1 a2 a3 a4 s
  unfold routineFailed
  dsimp only
  exact
    (by split; exacts [(Keep.on (programFailed_keep _ _ _ _ _) (Keep.refl _ _) rfl), (Keep.on (eraseFailed_keep _ _ _
      _) (Keep.refl _ _) rfl), (Keep.ite (Keep.on (replacePosition_keep _ _ _) (Keep.on (abandonSb_keep _ _ _)
      (Keep.on (startTest_keep _ _ _) (Keep.on (markStale_keep _ _ _) (Keep.on (logEvent_keep _ _ _ _) (Keep.on
      (updateDie_keep _ _ _) (Keep.refl _ _) rfl) rfl) rfl) rfl) rfl) rfl) (Keep.on (startTest_keep _ _ _) (Keep.on
      (markStale_keep _ _ _) (Keep.on (logEvent_keep _ _ _ _) (Keep.on (updateDie_keep _ _ _) (Keep.refl _ _) rfl)
      rfl) rfl) rfl)), (Keep.ite (Keep.on (updateSb_keep _ _ _) (Keep.refl _ _) rfl) (Keep.refl _ _)), (Keep.on
      (updateDie_keep _ _ _) (Keep.refl _ _) rfl), (Keep.refl _ _)])

theorem criticalBit_keep : ∀ a0 a1 s, Keep 134217984 s (criticalBit a0 a1 s) := by
  intro a0 a1 s
  unfold criticalBit
  dsimp only
  exact
    Keep.ite (Keep.refl _ _) (Keep.on (asyncEvent_keep _ _ _ _) (Keep.upd_256 rfl (Keep.refl _ _)) rfl)

theorem trainUcie_keep : ∀ a0 s, Keep 29696000 s (trainUcie a0 s) := by
  intro a0 s
  unfold trainUcie
  exact
    Keep.foldl _ _ _ (fun _ _ => (Keep.ite (Keep.refl _ _) (Keep.on (fenceLasting_keep _ _ _ _) (Keep.refl _ _) rfl)))
      (Keep.refl _ _)

theorem execRstdaa_keep : ∀ s, KeepR 134225664 s (execRstdaa s) := by
  intro s
  unfold execRstdaa
  dsimp only
  exact
    KeepR.next (Keep.ite (Keep.on (i3cReset_keep _) (Keep.upd_1024 rfl (Keep.refl _ _)) rfl) (Keep.refl _ _))

theorem execSuperblockAgeTimeout_keep : ∀ a0 s, KeepR 131072 s (execSuperblockAgeTimeout a0 s) := by
  intro a0 s
  unfold execSuperblockAgeTimeout
  exact
    KeepR.next (by split; exacts [(Keep.refl _ _), (Keep.ite (Keep.on (closeSb_keep _ _) (Keep.refl _ _) rfl)
      (Keep.refl _ _))])

theorem readGood_keep : ∀ a0 a1 a2 a3 s, Keep 17441024 s (readGood a0 a1 a2 a3 s) := by
  intro a0 a1 a2 a3 s
  unfold readGood
  dsimp only
  exact
    Keep.ite (Keep.ite (Keep.on (wantRelocate_keep _ _ _) (Keep.ite (Keep.on (logEvent_keep _ _ _ _) (Keep.ite
      (Keep.upd_524288 rfl (Keep.on (endRead_keep _ _) (Keep.on (deliver_keep _ _ _) (Keep.refl _ _) rfl) rfl))
      (Keep.on (endRead_keep _ _) (Keep.on (deliver_keep _ _ _) (Keep.refl _ _) rfl) rfl)) rfl) (Keep.ite
      (Keep.upd_524288 rfl (Keep.on (endRead_keep _ _) (Keep.on (deliver_keep _ _ _) (Keep.refl _ _) rfl) rfl))
      (Keep.on (endRead_keep _ _) (Keep.on (deliver_keep _ _ _) (Keep.refl _ _) rfl) rfl))) rfl) (Keep.on
      (wantVisit_keep _ _) (Keep.ite (Keep.on (logEvent_keep _ _ _ _) (Keep.ite (Keep.upd_524288 rfl (Keep.on
      (endRead_keep _ _) (Keep.on (deliver_keep _ _ _) (Keep.refl _ _) rfl) rfl)) (Keep.on (endRead_keep _ _) (Keep.on
      (deliver_keep _ _ _) (Keep.refl _ _) rfl) rfl)) rfl) (Keep.ite (Keep.upd_524288 rfl (Keep.on (endRead_keep _ _)
      (Keep.on (deliver_keep _ _ _) (Keep.refl _ _) rfl) rfl)) (Keep.on (endRead_keep _ _) (Keep.on (deliver_keep _ _
      _) (Keep.refl _ _) rfl) rfl))) rfl)) (Keep.ite (Keep.on (wantRelocate_keep _ _ _) (Keep.ite (Keep.on
      (logEvent_keep _ _ _ _) (Keep.ite (Keep.upd_524288 rfl (Keep.on (endRead_keep _ _) (Keep.on (deliver_keep _ _ _)
      (Keep.refl _ _) rfl) rfl)) (Keep.on (endRead_keep _ _) (Keep.on (deliver_keep _ _ _) (Keep.refl _ _) rfl) rfl))
      rfl) (Keep.ite (Keep.upd_524288 rfl (Keep.on (endRead_keep _ _) (Keep.on (deliver_keep _ _ _) (Keep.refl _ _)
      rfl) rfl)) (Keep.on (endRead_keep _ _) (Keep.on (deliver_keep _ _ _) (Keep.refl _ _) rfl) rfl))) rfl) (Keep.ite
      (Keep.on (logEvent_keep _ _ _ _) (Keep.ite (Keep.upd_524288 rfl (Keep.on (endRead_keep _ _) (Keep.on
      (deliver_keep _ _ _) (Keep.refl _ _) rfl) rfl)) (Keep.on (endRead_keep _ _) (Keep.on (deliver_keep _ _ _)
      (Keep.refl _ _) rfl) rfl)) rfl) (Keep.ite (Keep.upd_524288 rfl (Keep.on (endRead_keep _ _) (Keep.on
      (deliver_keep _ _ _) (Keep.refl _ _) rfl) rfl)) (Keep.on (endRead_keep _ _) (Keep.on (deliver_keep _ _ _)
      (Keep.refl _ _) rfl) rfl))))

theorem sampleSensors_keep : ∀ a0 s, Keep 293675008 s (sampleSensors a0 s) := by
  intro a0 s
  unfold sampleSensors
  dsimp only
  exact
    Keep.foldl _ _ _ (fun _ _ => (Keep.on (reportExclusion_keep _ _ _ _) (Keep.refl _ _) rfl)) (Keep.upd_65536 rfl
      (Keep.refl _ _))

theorem execPowerSetStateTimeout_keep : ∀ s, KeepR 134224640 s (execPowerSetStateTimeout s) := by
  intro s
  unfold execPowerSetStateTimeout
  exact
    KeepR.next (Keep.on (completePowerSet_keep _ _ _) (Keep.refl _ _) rfl)

theorem execEventRateSet_keep : ∀ a0 s, KeepR 150995712 s (execEventRateSet a0 s) := by
  intro a0 s
  unfold execEventRateSet
  refine KeepR.next (Keep.ho (serve_keep _ _ _ _ fun x => Keep.on (respond_keep _ _ _ _) (Keep.upd_16777216 rfl
    (fun h => ⟨h.handles, h.ring, h.mail, ⟨?_⟩⟩) (Keep.refl _ _)) rfl) (Keep.refl _ _))
  have f := h.recorder.fifo
  dsimp only
  split <;> exact f

theorem abortCmd_keep : ∀ a0 a1 a2 a3 s, Keep 134742400 s (abortCmd a0 a1 a2 a3 s) := by
  intro a0 a1 a2 a3 s
  unfold abortCmd
  exact
    Keep.on (completeCmd_keep _ _ _ _ _ _ _ _) (Keep.on (dropEffects_keep _ _ _) (Keep.refl _ _) rfl) rfl

theorem placeParity_keep : ∀ a0 a1 a2 s, Keep 25174144 s (placeParity a0 a1 a2 s) := by
  intro a0 a1 a2 s
  unfold placeParity
  dsimp only
  exact
    (by split; exacts [(Keep.refl _ _), (Keep.ite (Keep.ite (Keep.on (loseUnit_keep _ _ _) (Keep.on (busParity_keep _
      _ _ _ _ _ _ _) (Keep.refl _ _) rfl) rfl) (Keep.on (busParity_keep _ _ _ _ _ _ _ _) (Keep.refl _ _) rfl))
      (Keep.refl _ _))])

theorem execThrottleStepRise_keep : ∀ s, KeepR 285286400 s (execThrottleStepRise s) := by
  intro s
  unfold execThrottleStepRise
  dsimp only
  exact
    KeepR.next (Keep.ite (Keep.on (logThrottle_keep _ _) (Keep.upd_65536 rfl (Keep.refl _ _)) rfl) (Keep.refl _ _))

theorem execStreamStatus_keep : ∀ a0 s, KeepR 134218496 s (execStreamStatus a0 s) := by
  intro a0 s
  unfold execStreamStatus
  exact
    KeepR.next (Keep.ho (serve_keep _ _ _ _ (fun x => (Keep.on (respond_keep _ _ _ _) (Keep.refl _ _) rfl)))
      (Keep.refl _ _))

theorem execUnitReadmit_keep : ∀ a0 s, KeepR 411044608 s (execUnitReadmit a0 s) := by
  intro a0 s
  unfold execUnitReadmit
  dsimp only
  exact
    KeepR.next (Keep.ho (serve_keep _ _ _ _ (fun x => (Keep.ite (Keep.on (respond_keep _ _ _ _) (Keep.refl _ _) rfl)
      (Keep.ho (accept_keep _ _ _ _ _ _ _ _ rfl (fun v x => (Keep.on (demandTest_keep _ _) (Keep.refl _ _) rfl)))
      (Keep.refl _ _))))) (Keep.refl _ _))

theorem writeSlot_keep : ∀ a0 a1 s, Keep 20979712 s (writeSlot a0 a1 s).1 := by
  intro a0 a1 s
  unfold writeSlot
  dsimp only
  exact
    (by split; exacts [(Keep.on (authFail_keep _ _ _ _ _) (Keep.on (putSlot_keep _ _ _ _) (Keep.on (writeSectors_keep
      _ _) (Keep.refl _ _) rfl) rfl) rfl), (Keep.on (putSlot_keep _ _ _ _) (Keep.on (putSlot_keep _ _ _ _) (Keep.on
      (writeSectors_keep _ _) (Keep.refl _ _) rfl) rfl) rfl)])

theorem beginOverlayEpisode_keep : ∀ a0 s, Keep 16916480 s (beginOverlayEpisode a0 s) := by
  intro a0 s
  unfold beginOverlayEpisode
  dsimp only
  exact
    Keep.ite (Keep.refl _ _) (Keep.on (logEvent_keep _ _ _ _) (Keep.upd_131072 rfl (Keep.refl _ _)) rfl)

theorem climb_keep : ∀ a0 a1 a2 s, Keep 17572096 s (climb a0 a1 a2 s) := by
  intro a0 a1 a2 s
  unfold climb
  dsimp only
  exact
    (by split; exacts [(Keep.on (nextSet_keep _ _ _ _) (Keep.refl _ _) rfl), (Keep.on (nextSet_keep _ _ _ _)
      (Keep.refl _ _) rfl), (by split; exacts [(Keep.ite (Keep.on (endRead_keep _ _) (Keep.on (deliver_keep _ _ _)
      (Keep.on (logUncorrectable_keep _ _ _ _) (Keep.refl _ _) rfl) rfl) rfl) (Keep.on (updateRead_keep _ _ _)
      (Keep.on (logUncorrectable_keep _ _ _ _) (Keep.refl _ _) rfl) rfl)), (Keep.on (updateRead_keep _ _ _) (Keep.on
      (logUncorrectable_keep _ _ _ _) (Keep.refl _ _) rfl) rfl)]), (Keep.on (updateRead_keep _ _ _) (Keep.refl _ _)
      rfl)])

theorem execTakeOpen_keep : ∀ a0 s, KeepR 134218560 s (execTakeOpen a0 s) := by
  intro a0 s
  unfold execTakeOpen
  dsimp only
  exact
    KeepR.next (Keep.ho (serve_keep _ _ _ _ (fun x => (Keep.ite (Keep.on (respond_keep _ _ _ _) (Keep.refl _ _) rfl)
      (Keep.on (respond_keep _ _ _ _) (Keep.upd_64 rfl (Keep.refl _ _)) rfl)))) (Keep.refl _ _))

theorem execHandleQuery_keep : ∀ a0 s, KeepR 134218496 s (execHandleQuery a0 s) := by
  intro a0 s
  unfold execHandleQuery
  exact
    KeepR.next (Keep.ho (serve_keep _ _ _ _ (fun x => (Keep.on (respond_keep _ _ _ _) (Keep.refl _ _) rfl)))
      (Keep.refl _ _))

theorem execHoldupStatus_keep : ∀ a0 s, KeepR 402653952 s (execHoldupStatus a0 s) := by
  intro a0 s
  unfold execHoldupStatus
  exact
    KeepR.next (Keep.ho (serve_keep _ _ _ _ (fun x => (Keep.on (respond_keep _ _ _ _) (Keep.on (drawn_keep _)
      (Keep.refl _ _) rfl) rfl))) (Keep.refl _ _))

theorem rateWarning_keep : ∀ s, Keep 16850944 s (rateWarning s) := by
  intro s
  unfold rateWarning
  dsimp only
  exact
    Keep.ite (Keep.on (logSample_keep _ _ _ _) (Keep.upd_65536 rfl (Keep.refl _ _)) rfl) (Keep.upd_65536 rfl
      (Keep.refl _ _))

theorem execThermalGet_keep : ∀ a0 s, KeepR 402653952 s (execThermalGet a0 s) := by
  intro a0 s
  unfold execThermalGet
  dsimp only
  exact
    KeepR.next (Keep.ho (serve_keep _ _ _ _ (fun x => (Keep.on (respond_keep _ _ _ _) (Keep.upd_268435456 rfl
      (Keep.refl _ _)) rfl))) (Keep.refl _ _))

theorem execSuperblockGrant_keep : ∀ a0 a1 s, KeepR 16916480 s (execSuperblockGrant a0 a1 s) := by
  intro a0 a1 s
  unfold execSuperblockGrant
  dsimp only
  exact
    KeepR.next (Keep.ite (Keep.on (issueErases_keep _) (Keep.on (grantSb_keep _ _ _) (Keep.ite (Keep.on
      (freeEmpty_keep _) (Keep.refl _ _) rfl) (Keep.refl _ _)) rfl) rfl) (Keep.refl _ _))

theorem startLoss_keep : ∀ a0 s, Keep 164428562 s (startLoss a0 s) := by
  intro a0 s
  unfold startLoss
  dsimp only
  exact
    Keep.upd_2 rfl (Keep.on (haltAll_keep _ _ _) (Keep.on (lastCause_keep _ _ _ _) (Keep.on (logEvent_keep _ _ _ _)
      (Keep.refl _ _) rfl) rfl) rfl)

theorem enterWarn_keep : ∀ s, Keep 285286400 s (enterWarn s) := by
  intro s
  unfold enterWarn
  dsimp only
  exact
    Keep.on (drawn_keep _) (Keep.on (logSample_keep _ _ _ _) (Keep.upd_65536 rfl (Keep.refl _ _)) rfl) rfl

theorem completeOk_keep : ∀ a0 a1 s, Keep 134217984 s (completeOk a0 a1 s) := by
  intro a0 a1 s
  unfold completeOk
  exact
    Keep.on (completeCmd_keep _ _ _ _ _ _ _ _) (Keep.refl _ _) rfl

theorem testReads_keep : ∀ a0 s, Keep 289415168 s (testReads a0 s) := by
  intro a0 s
  unfold testReads
  exact
    Keep.ite (Keep.on (xoRead_keep _ _ _ _) (Keep.refl _ _) rfl) (Keep.refl _ _)

theorem execPldNAssert_keep : ∀ a0 s, KeepR 164428562 s (execPldNAssert a0 s) := by
  intro a0 s
  unfold execPldNAssert
  dsimp only
  exact
    KeepR.next (Keep.ite (Keep.refl _ _) (by split; exacts [(Keep.on (startLoss_keep _ _) (Keep.upd_2 rfl (Keep.refl _
      _)) rfl), (Keep.on (startLoss_keep _ _) (Keep.upd_2 rfl (Keep.refl _ _)) rfl), (Keep.on (startLoss_keep _ _)
      (Keep.upd_2 rfl (Keep.refl _ _)) rfl), (Keep.on (startLoss_keep _ _) (Keep.upd_2 rfl (Keep.refl _ _)) rfl),
      (Keep.upd_2 rfl (Keep.refl _ _))]))

theorem readCopies_keep : ∀ a0 s, Keep 285352320 s (readCopies a0 s) := by
  intro a0 s
  unfold readCopies
  dsimp only
  exact
    Keep.ite (Keep.on (rebuildLedger_keep _) (Keep.on (logCopyBad_keep _ _ _ _ _) (Keep.on (dropPending_keep _)
      (Keep.on (takeWhole_keep _ _) (Keep.foldl _ _ _ (fun _ _ => (Keep.on (logCopyBad_keep _ _ _ _ _) (Keep.refl _ _)
      rfl)) (Keep.refl _ _)) rfl) rfl) rfl) rfl) (Keep.foldl _ _ _ (fun _ _ => (Keep.on (rebuildCopy_keep _ _)
      (Keep.refl _ _) rfl)) (Keep.foldl _ _ _ (fun _ _ => (Keep.on (logCopyBad_keep _ _ _ _ _) (Keep.refl _ _) rfl))
      (Keep.on (dropPending_keep _) (Keep.on (takeWhole_keep _ _) (Keep.foldl _ _ _ (fun _ _ => (Keep.on
      (logCopyBad_keep _ _ _ _ _) (Keep.refl _ _) rfl)) (Keep.refl _ _)) rfl) rfl)))

theorem controllerReset_keep : ∀ s, Keep 147626882 s (controllerReset s) := by
  intro s
  unfold controllerReset
  dsimp only
  exact
    (by split; exacts [(Keep.ite (Keep.on (activate_keep _ _ _ _) (Keep.upd_524544 rfl (Keep.on (orphan_keep _)
      (Keep.refl _ _) rfl)) rfl) (Keep.upd_524544 rfl (Keep.on (orphan_keep _) (Keep.refl _ _) rfl))),
      (Keep.upd_524544 rfl (Keep.on (orphan_keep _) (Keep.refl _ _) rfl))])

theorem checkDecoded_keep : ∀ a0 a1 a2 a3 s, Keep 26091776 s (checkDecoded a0 a1 a2 a3 s) := by
  intro a0 a1 a2 a3 s
  unfold checkDecoded
  dsimp only
  exact
    Keep.ite (Keep.on (climb_keep _ _ _ _) (Keep.on (logMismatch_keep _ _ _ _) (Keep.refl _ _) rfl) rfl) (Keep.ite
      (Keep.on (endRead_keep _ _) (Keep.on (deliver_keep _ _ _) (Keep.on (logMismatch_keep _ _ _ _) (Keep.refl _ _)
      rfl) rfl) rfl) (Keep.ite (Keep.on (climb_keep _ _ _ _) (Keep.on (logMismatch_keep _ _ _ _) (Keep.refl _ _) rfl)
      rfl) (Keep.on (readGood_keep _ _ _ _ _) (Keep.on (updateDie_keep _ _ _) (Keep.refl _ _) rfl) rfl)))

theorem abandonP4_keep : ∀ s, Keep 134241024 s (abandonP4 s) := by
  intro s
  unfold abandonP4
  dsimp only
  exact
    Keep.ite (Keep.on (completePowerSet_keep _ _ _) (Keep.upd_16384 rfl (Keep.refl _ _)) rfl) (Keep.refl _ _)

theorem execSecureDiscard_keep : ∀ a0 s, KeepR 402656128 s (execSecureDiscard a0 s) := by
  intro a0 s
  unfold execSecureDiscard
  dsimp only
  exact
    KeepR.next (Keep.ho (serve_keep _ _ _ _ (fun x => (by split; exacts [(Keep.on (respond_keep _ _ _ _) (Keep.refl _
      _) rfl), (Keep.ite (Keep.on (respond_keep _ _ _ _) (Keep.refl _ _) rfl) (Keep.ite (Keep.on (respond_keep _ _ _
      _) (Keep.refl _ _) rfl) (Keep.ho (accept_keep _ _ _ _ _ _ _ _ rfl (fun v x => (Keep.upd_128 rfl (Keep.refl _
      _)))) (Keep.refl _ _))))]))) (Keep.refl _ _))

theorem execScrubPatrol_keep : ∀ s, KeepR 17702912 s (execScrubPatrol s) := by
  intro s
  unfold execScrubPatrol
  dsimp only
  exact
    KeepR.next (Keep.ite (by split; exacts [(Keep.refl _ _), (Keep.foldl _ _ _ (fun _ _ => (Keep.on
      (startUnitRead_keep _ _ _ _ _ _) (Keep.refl _ _) rfl)) (Keep.ite (Keep.on (wantRelocate_keep _ _ _)
      (Keep.upd_524288 rfl (Keep.refl _ _)) rfl) (Keep.upd_524288 rfl (Keep.refl _ _))))]) (Keep.refl _ _))

theorem readLost_keep : ∀ a0 s, Keep 17441024 s (readLost a0 s) := by
  intro a0 s
  unfold readLost
  dsimp only
  exact
    Keep.ite (Keep.on (wantRelocate_keep _ _ _) (Keep.on (updateSb_keep _ _ _) (Keep.on (endRead_keep _ _) (Keep.on
      (deliver_keep _ _ _) (Keep.refl _ _) rfl) rfl) rfl) rfl) (Keep.on (endRead_keep _ _) (Keep.on (deliver_keep _ _
      _) (Keep.refl _ _) rfl) rfl)

theorem execUnitStatus_keep : ∀ a0 s, KeepR 134218496 s (execUnitStatus a0 s) := by
  intro a0 s
  unfold execUnitStatus
  dsimp only
  exact
    KeepR.next (Keep.ho (serve_keep _ _ _ _ (fun x => (Keep.on (respond_keep _ _ _ _) (Keep.refl _ _) rfl)))
      (Keep.refl _ _))

theorem execStatsRead_keep : ∀ a0 s, KeepR 134218496 s (execStatsRead a0 s) := by
  intro a0 s
  unfold execStatsRead
  dsimp only
  exact
    KeepR.next (Keep.ho (serve_keep _ _ _ _ (fun x => (Keep.on (respond_keep _ _ _ _) (Keep.refl _ _) rfl)))
      (Keep.refl _ _))

theorem execStreamOpen_keep : ∀ a0 s, KeepR 136315712 s (execStreamOpen a0 s) := by
  intro a0 s
  unfold execStreamOpen
  dsimp only
  exact
    KeepR.next (Keep.ho (serve_keep _ _ _ _ (fun x => (by split; exacts [(Keep.on (respond_keep _ _ _ _) (Keep.refl _
      _) rfl), (Keep.on (respond_keep _ _ _ _) (Keep.on (bankWritten_keep _ _ _) (Keep.on (bindStream_keep _ _)
      (Keep.refl _ _) rfl) rfl) rfl)]))) (Keep.refl _ _))

theorem checkBlock_keep : ∀ a0 a1 a2 a3 a4 s, Keep 27271168 s (checkBlock a0 a1 a2 a3 a4 s).1 := by
  intro a0 a1 a2 a3 a4 s
  unfold checkBlock
  exact
    (by split; exacts [(Keep.refl _ _), (by split; exacts [(Keep.refl _ _), (by split; exacts [(Keep.refl _ _),
      (Keep.on (foundCorrectable_keep _ _ _ _ _) (Keep.refl _ _) rfl), (Keep.on (foundBad_keep _ _ _ _ _ _ _)
      (Keep.refl _ _) rfl)])])])

theorem execUcieFlitReceive_keep : ∀ a0 a1 a2 a3 a4 s, KeepR 293871616 s (execUcieFlitReceive a0 a1 a2 a3 a4 s) := by
  intro a0 a1 a2 a3 a4 s
  unfold execUcieFlitReceive
  dsimp only
  exact
    KeepR.next (Keep.ite (Keep.refl _ _) (Keep.ite (Keep.on (updateLink_keep _ _ _) (Keep.refl _ _) rfl) (Keep.ite
      (Keep.on (updateLink_keep _ _ _) (Keep.refl _ _) rfl) (Keep.on (flitParity_keep _ _ _ _) (Keep.refl _ _) rfl))))

theorem seedDrbg_keep : ∀ a0 a1 s, Keep 301989888 s (seedDrbg a0 a1 s) := by
  intro a0 a1 s
  unfold seedDrbg
  dsimp only
  exact
    Keep.ite (Keep.refl _ _) (Keep.on (drawn_keep _) (Keep.upd_33554432 rfl (Keep.refl _ _)) rfl)

theorem execCaptureLinkStatus_keep : ∀ a0 s, KeepR 134218496 s (execCaptureLinkStatus a0 s) := by
  intro a0 s
  unfold execCaptureLinkStatus
  exact
    KeepR.next (Keep.ho (serve_keep _ _ _ _ (fun x => (Keep.on (respond_keep _ _ _ _) (Keep.refl _ _) rfl)))
      (Keep.refl _ _))

theorem drbgDraw_keep : ∀ a0 s, Keep 33554432 s (drbgDraw a0 s) := by
  intro a0 s
  unfold drbgDraw
  dsimp only
  exact
    Keep.upd_33554432 rfl (Keep.refl _ _)

theorem wakeChannel_keep : ∀ a0 s, Keep 285614208 s (wakeChannel a0 s) := by
  intro a0 s
  unfold wakeChannel
  dsimp only
  exact
    Keep.ite (Keep.refl _ _) (Keep.foldl _ _ _ (fun _ _ => (Keep.on (markStale_keep _ _ _) (Keep.on
      (loseOperation_keep _ _) (Keep.refl _ _) rfl) rfl)) (Keep.on (logWake_keep _ _) (Keep.on (updateChan_keep _ _ _)
      (Keep.refl _ _) rfl) rfl))

theorem execStreamExtendWindow_keep : ∀ a0 s, KeepR 134218560 s (execStreamExtendWindow a0 s) := by
  intro a0 s
  unfold execStreamExtendWindow
  dsimp only
  exact
    KeepR.next (Keep.ho (serve_keep _ _ _ _ (fun x => (by split; exacts [(Keep.on (respond_keep _ _ _ _) (Keep.refl _
      _) rfl), (Keep.on (respond_keep _ _ _ _) (Keep.on (updateStream_keep _ _ _) (Keep.refl _ _) rfl) rfl)])))
      (Keep.refl _ _))

theorem execFirstAlignmentCodeword_keep : ∀ a0 s, KeepR 25174032 s (execFirstAlignmentCodeword a0 s) := by
  intro a0 s
  unfold execFirstAlignmentCodeword
  dsimp only
  exact
    KeepR.next (Keep.ite (Keep.ite (Keep.ite (Keep.on (onLink_keep _ _) (Keep.on (onLink_keep _ _) (Keep.on
      (logFirst_keep _ _) (Keep.refl _ _) rfl) rfl) rfl) (Keep.on (onLanes_keep _ _) (Keep.on (onLink_keep _ _)
      (Keep.on (onLink_keep _ _) (Keep.on (logFirst_keep _ _) (Keep.refl _ _) rfl) rfl) rfl) rfl)) (Keep.on
      (failBringUp_keep _) (Keep.on (logFirst_keep _ _) (Keep.refl _ _) rfl) rfl)) (Keep.refl _ _))

theorem endFrame_keep : ∀ a0 a1 s, Keep 16785632 s (endFrame a0 a1 s) := by
  intro a0 a1 s
  unfold endFrame
  dsimp only
  exact
    (by split; exacts [(Keep.upd_32 rfl (Keep.refl _ _)), (by split; exacts [(Keep.on (noteLowWater_keep _ _)
      (Keep.ite (Keep.on (releaseHeld_keep _ _) (Keep.on (updateStream_keep _ _ _) (Keep.upd_32 rfl (Keep.refl _ _))
      rfl) rfl) (Keep.on (updateStream_keep _ _ _) (Keep.upd_32 rfl (Keep.refl _ _)) rfl)) rfl), (Keep.on
      (logEvent_keep _ _ _ _) (Keep.on (noteLowWater_keep _ _) (Keep.ite (Keep.on (releaseHeld_keep _ _) (Keep.on
      (updateStream_keep _ _ _) (Keep.upd_32 rfl (Keep.refl _ _)) rfl) rfl) (Keep.on (updateStream_keep _ _ _)
      (Keep.upd_32 rfl (Keep.refl _ _)) rfl)) rfl) rfl)])])

theorem execDebugChallenge_keep : ∀ a0 s, KeepR 167772928 s (execDebugChallenge a0 s) := by
  intro a0 s
  unfold execDebugChallenge
  dsimp only
  exact
    KeepR.next (Keep.ho (serve_keep _ _ _ _ (fun x => (Keep.ite (Keep.on (respond_keep _ _ _ _) (Keep.refl _ _) rfl)
      (Keep.on (respond_keep _ _ _ _) (Keep.on (drbgDraw_keep _ _) (Keep.upd_33554432 rfl (Keep.refl _ _)) rfl)
      rfl)))) (Keep.refl _ _))

theorem useSalt_keep : ∀ a0 s, Keep 33554432 s (useSalt a0 s) := by
  intro a0 s
  unfold useSalt
  dsimp only
  exact
    Keep.upd_33554432 rfl (Keep.refl _ _)

theorem finishDeletes_keep : ∀ s, Keep 134217984 s (finishDeletes s) := by
  intro s
  unfold finishDeletes
  dsimp only
  exact
    Keep.foldl _ _ _ (fun _ _ => (Keep.on (completeOk_keep _ _ _) (Keep.upd_256 rfl (Keep.refl _ _)) rfl)) (Keep.refl
      _ _)

theorem bankFailed_keep : ∀ a0 s, Keep 16785408 s (bankFailed a0 s) := by
  intro a0 s
  unfold bankFailed
  exact
    Keep.ite (Keep.on (logMemoryFails_keep _ _ _) (Keep.refl _ _) rfl) (Keep.ite (Keep.on (logMemoryFails_keep _ _ _)
      (Keep.refl _ _) rfl) (Keep.refl _ _))

theorem completeLinkUp_keep : ∀ a0 s, Keep 134224640 s (completeLinkUp a0 s) := by
  intro a0 s
  unfold completeLinkUp
  exact
    Keep.on (completeSome_keep _ _ _ _) (Keep.refl _ _) rfl

theorem moveCopies_keep : ∀ s, Keep 16916480 s (moveCopies s) := by
  intro s
  unfold moveCopies
  exact
    Keep.foldl _ _ _ (fun _ _ => (Keep.ite (Keep.on (rebuildCopy_keep _ _) (Keep.refl _ _) rfl) (Keep.refl _ _)))
      (Keep.refl _ _)

theorem pcieReset_keep : ∀ s, Keep 147643266 s (pcieReset s) := by
  intro s
  unfold pcieReset
  dsimp only
  exact
    Keep.on (notify_keep _) (Keep.on (refillRing_keep _) (Keep.upd_4608 rfl (fun h => ⟨h.handles, ⟨h.ring.tail,
      h.ring.headPcie, h.ring.headI3c, by simp, h.ring.unreadI3c⟩, ⟨h.mail.boxes, h.mail.areas⟩, h.recorder⟩)
      ((Keep.on (resetPcie_keep _) (Keep.on (endOwnership_keep _ _) (Keep.on (controllerReset_keep _) (Keep.refl _ _)
      rfl) rfl) rfl))) rfl) rfl

theorem execPcieL1Entry_keep : ∀ a0 s, KeepR 135551744 s (execPcieL1Entry a0 s) := by
  intro a0 s
  unfold execPcieL1Entry
  dsimp only
  exact
    KeepR.next (Keep.ite (Keep.ite (Keep.on (enterState_keep _ _) (Keep.upd_16384 rfl (Keep.refl _ _)) rfl)
      (Keep.upd_16384 rfl (Keep.refl _ _))) (Keep.refl _ _))

theorem bootStage_keep : ∀ s, Keep 88088834 s (bootStage s) := by
  intro s
  unfold bootStage
  dsimp only
  exact
    (by split; exacts [(Keep.upd_71303168 rfl (Keep.refl _ _)), (by split; exacts [(Keep.upd_71303168 rfl (Keep.on
      (authFail_keep _ _ _ _ _) (Keep.refl _ _) rfl)), (Keep.on (enterRecovery_keep _ _ _) (Keep.on (authFail_keep _ _
      _ _ _) (Keep.on (authFail_keep _ _ _ _ _) (Keep.refl _ _) rfl) rfl) rfl)])])

theorem failSpecific_keep : ∀ a0 a1 a2 s, Keep 134217984 s (failSpecific a0 a1 a2 s) := by
  intro a0 a1 a2 s
  unfold failSpecific
  exact
    Keep.on (completeCmd_keep _ _ _ _ _ _ _ _) (Keep.refl _ _) rfl

theorem execBusGrant_keep : ∀ a0 a1 s, KeepR 262144 s (execBusGrant a0 a1 s) := by
  intro a0 a1 s
  unfold execBusGrant
  dsimp only
  exact
    KeepR.next (by split; exacts [(Keep.refl _ _), (Keep.ite (Keep.on (updateChan_keep _ _ _) (Keep.refl _ _) rfl)
      (Keep.refl _ _))])

theorem fetchAll_keep : ∀ s, Keep 134217984 s (fetchAll s) := by
  intro s
  unfold fetchAll
  dsimp only
  exact
    Keep.ite (Keep.on (refuseUnsupported_keep _) (Keep.on (fetchQueues_keep _) (Keep.on (finishDeletes_keep _)
      (Keep.refl _ _) rfl) rfl) rfl) (Keep.on (finishDeletes_keep _) (Keep.refl _ _) rfl)

theorem abandon_keep : ∀ a0 a1 s, Keep 17047552 s (abandon a0 a1 s) := by
  intro a0 a1 s
  unfold abandon
  exact
    (by split; exacts [(Keep.refl _ _), (by split; exacts [(Keep.refl _ _), (Keep.ite (Keep.refl _ _) (Keep.on
      (logRestart_keep _ _ _ _) (Keep.on (releaseBus_keep _ _) (Keep.on (updateDie_keep _ _ _) (Keep.on
      (restContext_keep _ _) (Keep.refl _ _) rfl) rfl) rfl) rfl))])])

theorem readOtp_keep : ∀ a0 s, Keep 121643266 s (readOtp a0 s) := by
  intro a0 s
  unfold readOtp
  dsimp only
  exact
    Keep.ite (Keep.on (enterRecovery_keep _ _ _) (Keep.on (authFail_keep _ _ _ _ _) (Keep.refl _ _) rfl) rfl) (Keep.on
      (scanFlags_keep _) (Keep.upd_100663296 rfl (Keep.refl _ _)) rfl)

theorem changeFeatures_keep : ∀ s, Keep 17047552 s (changeFeatures s) := by
  intro s
  unfold changeFeatures
  dsimp only
  exact
    Keep.foldl _ _ _ (fun _ _ => (Keep.on (markStale_keep _ _ _) (Keep.refl _ _) rfl)) (Keep.on (bumpGolden_keep _)
      (Keep.upd_262144 rfl (Keep.refl _ _)) rfl)

theorem writeIndexUnit_keep : ∀ a0 a1 s, Keep 192 s (writeIndexUnit a0 a1 s) := by
  intro a0 a1 s
  unfold writeIndexUnit
  dsimp only
  exact
    (by split; exacts [(Keep.refl _ _), (Keep.ite (Keep.refl _ _) (Keep.on (enqueueWrite_keep _ _) (Keep.on
      (updateStream_keep _ _ _) (Keep.refl _ _) rfl) rfl))])

theorem ringBox_keep : ∀ a0 a1 a2 s, Keep 134218496 s (ringBox a0 a1 a2 s) := by
  intro a0 a1 a2 s
  unfold ringBox
  dsimp only
  exact
    Keep.ite (Keep.ite (Keep.on (updateBox_keep _ _ _) (Keep.refl _ _) rfl) (Keep.on (routeRing_keep _ _) (Keep.on
      (updateBox_keep _ _ _) (Keep.refl _ _) rfl) rfl)) (Keep.refl _ _)

theorem execFlushComplete_keep : ∀ a0 a1 s, KeepR 134217984 s (execFlushComplete a0 a1 s) := by
  intro a0 a1 s
  unfold execFlushComplete
  exact
    KeepR.next (by split; exacts [(Keep.refl _ _), (Keep.ite (Keep.on (fetchAll_keep _) (Keep.on (completeOk_keep _ _
      _) (Keep.refl _ _) rfl) rfl) (Keep.refl _ _))])

theorem adminFail_keep : ∀ a0 a1 s, Keep 134217984 s (adminFail a0 a1 s) := by
  intro a0 a1 s
  unfold adminFail
  exact
    Keep.on (fetchAll_keep _) (Keep.on (failGeneric_keep _ _ _ _) (Keep.refl _ _) rfl) rfl

theorem fenceMedia_keep : ∀ a0 s, Keep 29827200 s (fenceMedia a0 s) := by
  intro a0 s
  unfold fenceMedia
  dsimp only
  exact
    Keep.ite (Keep.on (moveCopies_keep _) (Keep.foldl _ _ _ (fun _ _ => (Keep.on (fenceGroup_keep _ _) (Keep.refl _ _)
      rfl)) (Keep.on (closeMembers_keep _ _) (Keep.on (fenceUnit_keep _ _) (Keep.refl _ _) rfl) rfl)) rfl) (Keep.foldl
      _ _ _ (fun _ _ => (Keep.on (fenceGroup_keep _ _) (Keep.refl _ _) rfl)) (Keep.on (closeMembers_keep _ _) (Keep.on
      (fenceUnit_keep _ _) (Keep.refl _ _) rfl) rfl))

theorem burstParity_keep : ∀ a0 s, Keep 293871616 s (burstParity a0 s) := by
  intro a0 s
  unfold burstParity
  dsimp only
  exact
    Keep.on (abandon_keep _ _ _) (Keep.on (busParity_keep _ _ _ _ _ _ _ _) (Keep.upd_268435456 rfl (Keep.refl _ _))
      rfl) rfl

theorem execDrbgReseed_keep : ∀ s, KeepR 301989888 s (execDrbgReseed s) := by
  intro s
  unfold execDrbgReseed
  dsimp only
  exact
    KeepR.next (Keep.ite (Keep.on (drawn_keep _) (Keep.upd_33554432 rfl (Keep.refl _ _)) rfl) (Keep.refl _ _))

theorem rebuildFails_keep : ∀ a0 a1 a2 s, Keep 17441024 s (rebuildFails a0 a1 a2 s) := by
  intro a0 a1 a2 s
  unfold rebuildFails
  exact
    Keep.on (readLost_keep _ _) (Keep.on (logRebuild_keep _ _ _ _) (Keep.refl _ _) rfl) rfl

theorem readWindowI3c_keep : ∀ a0 a1 s, Keep 134218496 s (readWindowI3c a0 a1 s) := by
  intro a0 a1 s
  unfold readWindowI3c
  dsimp only
  exact
    Keep.ite (Keep.on (readDone_keep _ _ _) (Keep.on (emit_keep _ _) (Keep.refl _ _) rfl) rfl) (Keep.on (emit_keep _
      _) (Keep.refl _ _) rfl)

theorem execIndexEntryPlace_keep : ∀ a0 s, KeepR 192 s (execIndexEntryPlace a0 s) := by
  intro a0 s
  unfold execIndexEntryPlace
  dsimp only
  exact
    KeepR.next (by split; exacts [(Keep.refl _ _), (by split; exacts [(Keep.refl _ _), (Keep.ite (Keep.ite (Keep.on
      (writeIndexUnit_keep _ _ _) (Keep.on (updateStream_keep _ _ _) (Keep.refl _ _) rfl) rfl) (Keep.on
      (updateStream_keep _ _ _) (Keep.refl _ _) rfl)) (Keep.refl _ _))])])

theorem execSelfTest_keep : ∀ a0 s, KeepR 432024320 s (execSelfTest a0 s) := by
  intro a0 s
  unfold execSelfTest
  dsimp only
  exact
    KeepR.next (Keep.ho (serve_keep _ _ _ _ (fun x => (Keep.ho (accept_keep _ _ _ _ _ _ _ _ rfl (fun v x => (Keep.on
      (demandTest_keep _ _) (Keep.on (testReads_keep _ _) (Keep.refl _ _) rfl) rfl))) (Keep.refl _ _)))) (Keep.refl _
      _))

theorem wakeMedia_keep : ∀ s, Keep 285614208 s (wakeMedia s) := by
  intro s
  unfold wakeMedia
  dsimp only
  exact
    Keep.foldl _ _ _ (fun _ _ => (Keep.ite (Keep.refl _ _) (Keep.on (wakeChannel_keep _ _) (Keep.refl _ _) rfl)))
      (Keep.foldl _ _ _ (fun _ _ => (Keep.ite (Keep.refl _ _) (Keep.on (logWake_keep _ _) (Keep.refl _ _) rfl)))
      (Keep.refl _ _))

theorem writeIndexUnits_keep : ∀ a0 s, Keep 192 s (writeIndexUnits a0 s) := by
  intro a0 s
  unfold writeIndexUnits
  exact
    (by split; exacts [(Keep.refl _ _), (Keep.foldl _ _ _ (fun _ _ => (Keep.on (writeIndexUnit_keep _ _ _) (Keep.refl
      _ _) rfl)) (Keep.refl _ _))])

theorem execRoutineAbandon_keep : ∀ a0 a1 s, KeepR 17047552 s (execRoutineAbandon a0 a1 s) := by
  intro a0 a1 s
  unfold execRoutineAbandon
  dsimp only
  exact
    KeepR.next (by split; exacts [(Keep.refl _ _), (by split; exacts [(Keep.refl _ _), (Keep.ite (Keep.refl _ _)
      (by split; exacts [(Keep.ite (Keep.on (abandon_keep _ _ _) (Keep.refl _ _) rfl) (Keep.refl _ _)), (Keep.ite
      (Keep.on (abandon_keep _ _ _) (Keep.refl _ _) rfl) (Keep.refl _ _)), (Keep.ite (Keep.ite (Keep.ite (Keep.refl _
      _) (Keep.on (abandon_keep _ _ _) (Keep.refl _ _) rfl)) (Keep.on (releaseBus_keep _ _) (Keep.on (updateDie_keep _
      _ _) (Keep.on (restContext_keep _ _) (Keep.refl _ _) rfl) rfl) rfl)) (Keep.refl _ _))]))])])

theorem ledgerFlush_keep : ∀ s, Keep 131200 s (ledgerFlush s) := by
  intro s
  unfold ledgerFlush
  dsimp only
  exact
    Keep.ite (Keep.refl _ _) (Keep.on (settleMap_keep _) (Keep.ite (Keep.on (compact_keep _) (Keep.foldl _ _ _ (fun _
      _ => (Keep.on (slotDurable_keep _ _) (Keep.refl _ _) rfl)) (Keep.upd_131072 rfl (Keep.refl _ _))) rfl)
      (Keep.foldl _ _ _ (fun _ _ => (Keep.on (slotDurable_keep _ _) (Keep.refl _ _) rfl)) (Keep.upd_131072 rfl
      (Keep.refl _ _)))) rfl)

theorem endIoWhere_keep : ∀ a0 a1 s, Keep 134742400 s (endIoWhere a0 a1 s) := by
  intro a0 a1 s
  unfold endIoWhere
  exact
    Keep.foldl _ _ _ (fun _ _ => (Keep.on (abortCmd_keep _ _ _ _ _) (Keep.refl _ _) rfl)) (Keep.refl _ _)

theorem firmwareStart_keep : ∀ a0 s, Keep 373402626 s (firmwareStart a0 s) := by
  intro a0 s
  unfold firmwareStart
  dsimp only
  refine Keep.upd_373402626 rfl (fun h => ⟨⟨h.handles.slots, ?_, ?_, h.handles.kept⟩, h.ring, h.mail, h.recorder⟩)
    (Keep.on (putSlot_keep _ _ _ _) (Keep.refl _ _) rfl)
  · exact Nat.le_add_right 1 _
  · unfold firstGeneration
    have (n : Nat) : n % 0xFFFFFF < 0xFFFFFF := Nat.mod_lt _ (by decide)
    have := this (if (putSlot a0 (slotImage s a0) true s).sec.drbgOn then drbgOut 3 (putSlot a0 (slotImage s a0) true s)
      else Config.choice (putSlot a0 (slotImage s a0) true s).free)
    dsimp only
    omega

theorem failWith_keep : ∀ a0 a1 s, Keep 134217984 s (failWith a0 a1 s) := by
  intro a0 a1 s
  unfold failWith
  exact
    Keep.on (fetchAll_keep _) (Keep.on (completeCmd_keep _ _ _ _ _ _ _ _) (Keep.refl _ _) rfl) rfl

theorem execWriteCompletionPost_keep : ∀ a0 a1 s, KeepR 134217984 s (execWriteCompletionPost a0 a1 s) := by
  intro a0 a1 s
  unfold execWriteCompletionPost
  dsimp only
  exact
    KeepR.next (by split; exacts [(Keep.refl _ _), (Keep.ite (Keep.on (fetchAll_keep _) (Keep.on (completeCmd_keep _ _
      _ _ _ _ _ _) (Keep.refl _ _) rfl) rfl) (Keep.refl _ _))])

theorem openPort_keep : ∀ a0 s, Keep 188889984 s (openPort a0 s) := by
  intro a0 s
  unfold openPort
  dsimp only
  exact
    Keep.on (completeHandle_keep _ _ _ _) (Keep.upd_33554432 rfl (Keep.on (logEvent_keep _ _ _ _) (Keep.upd_4194304
      rfl (Keep.on (eraseOlderStore_keep _) (Keep.on (storeKeys_keep _) (Keep.on (ledgerFlush_keep _) (Keep.foldl _ _
      _ (fun _ _ => (Keep.on (newEpoch_keep _ _ _) (Keep.refl _ _) rfl)) (Keep.on (useSalt_keep _ _) (Keep.foldl _ _ _
      (fun _ _ => (Keep.on (zeroizeKey_keep _ _) (Keep.refl _ _) rfl)) (Keep.refl _ _)) rfl)) rfl) rfl) rfl)) rfl))
      rfl

theorem resolveRead_keep : ∀ a0 s, Keep 786688 s (resolveRead a0 s) := by
  intro a0 s
  unfold resolveRead
  dsimp only
  exact
    Keep.ite (Keep.on (updateCmd_keep _ _ _ _) (Keep.refl _ _) rfl) (Keep.foldl _ _ _ (fun _ _ => (by split; exacts
      [(Keep.on (startUnitRead_keep _ _ _ _ _ _) (Keep.refl _ _) rfl), (Keep.refl _ _)])) (Keep.on (updateCmd_keep _ _
      _ _) (Keep.refl _ _) rfl))

theorem rebuildEnds_keep : ∀ a0 a1 a2 s, Keep 25829632 s (rebuildEnds a0 a1 a2 s) := by
  intro a0 a1 a2 s
  unfold rebuildEnds
  dsimp only
  exact
    (by split; exacts [(Keep.on (rebuildFails_keep _ _ _ _) (Keep.refl _ _) rfl), (Keep.on (updateSb_keep _ _ _)
      (Keep.on (rebuildFails_keep _ _ _ _) (Keep.refl _ _) rfl) rfl), (Keep.on (rebuildFails_keep _ _ _ _) (Keep.on
      (logMismatch_keep _ _ _ _) (Keep.refl _ _) rfl) rfl), (Keep.on (rebuildFails_keep _ _ _ _) (Keep.on
      (logMismatch_keep _ _ _ _) (Keep.refl _ _) rfl) rfl), (Keep.on (rebuildFails_keep _ _ _ _) (Keep.on
      (logMismatch_keep _ _ _ _) (Keep.refl _ _) rfl) rfl), (Keep.ite (Keep.on (rebuildFails_keep _ _ _ _) (Keep.on
      (logMismatch_keep _ _ _ _) (Keep.refl _ _) rfl) rfl) (Keep.ite (Keep.on (rebuildFails_keep _ _ _ _) (Keep.on
      (logMismatch_keep _ _ _ _) (Keep.refl _ _) rfl) rfl) (Keep.on (wantRelocate_keep _ _ _) (Keep.on (endRead_keep _
      _) (Keep.on (deliver_keep _ _ _) (Keep.upd_524288 rfl (Keep.on (logRebuild_keep _ _ _ _) (Keep.refl _ _) rfl))
      rfl) rfl) rfl)))])

theorem execDeskewDone_keep : ∀ a0 s, KeepR 134224688 s (execDeskewDone a0 s) := by
  intro a0 s
  unfold execDeskewDone
  dsimp only
  exact
    KeepR.next (Keep.ite (Keep.ite (Keep.on (failBringUp_keep _) (Keep.on (onLink_keep _ _) (Keep.refl _ _) rfl) rfl)
      (Keep.on (completeLinkUp_keep _ _) (Keep.on (sendCredit_keep _) (Keep.on (enterUp_keep _) (Keep.on (onLink_keep
      _ _) (Keep.refl _ _) rfl) rfl) rfl) rfl)) (Keep.refl _ _))

theorem hostThermal_keep : ∀ a0 s, Keep 134217984 s (hostThermal a0 s) := by
  intro a0 s
  unfold hostThermal
  dsimp only
  exact
    Keep.ite (Keep.on (criticalBit_keep _ _ _) (Keep.upd_256 rfl (Keep.refl _ _)) rfl) (Keep.on (clearCritical_keep _
      _) (Keep.upd_256 rfl (Keep.refl _ _)) rfl)

theorem closeShort_keep : ∀ a0 s, Keep 16785632 s (closeShort a0 s) := by
  intro a0 s
  unfold closeShort
  exact
    (by split; exacts [(Keep.refl _ _), (Keep.on (endFrame_keep _ _ _) (Keep.refl _ _) rfl)])

theorem writeHalting_keep : ∀ a0 a1 a2 s, Keep 134218496 s (writeHalting a0 a1 a2 s) := by
  intro a0 a1 a2 s
  unfold writeHalting
  dsimp only
  exact
    Keep.ite (Keep.ite (Keep.on (ringBox_keep _ _ _ _) (Keep.refl _ _) rfl) (Keep.refl _ _)) (Keep.refl _ _)

theorem scratchRead_keep : ∀ a0 s, Keep 27271168 s (scratchRead a0 s).1 := by
  intro a0 s
  unfold scratchRead
  exact
    (by split; exacts [(Keep.refl _ _), (by split; exacts [(Keep.fst (by assumption) (Keep.on (checkBlock_keep _ _ _ _
      _ _) (Keep.refl _ _) rfl)), (Keep.fst (by assumption) (Keep.on (checkBlock_keep _ _ _ _ _ _) (Keep.refl _ _)
      rfl))])])

theorem sampleLevel_keep : ∀ s, Keep 285286400 s (sampleLevel s) := by
  intro s
  unfold sampleLevel
  dsimp only
  exact
    (by split; exacts [(Keep.refl _ _), (Keep.refl _ _), (Keep.ite (Keep.on (enterThrottle_keep _ _) (Keep.refl _ _)
      rfl) (Keep.ite (Keep.on (enterThrottle_keep _ _) (Keep.refl _ _) rfl) (Keep.ite (Keep.upd_65536 rfl (Keep.refl _
      _)) (Keep.refl _ _)))), (Keep.ite (Keep.on (enterThrottle_keep _ _) (Keep.refl _ _) rfl) (Keep.ite (Keep.on
      (enterThrottle_keep _ _) (Keep.refl _ _) rfl) (Keep.ite (Keep.on (enterWarn_keep _) (Keep.refl _ _) rfl)
      (Keep.refl _ _))))])

theorem execFoldStart_keep : ∀ a0 s, KeepR 131200 s (execFoldStart a0 s) := by
  intro a0 s
  unfold execFoldStart
  dsimp only
  exact
    KeepR.next (by split; exacts [(Keep.refl _ _), (Keep.ite (Keep.ho (needNumbers_keep _ _ _ rfl (fun x => (Keep.on
      (beginFold_keep _ _ _) (Keep.refl _ _) rfl))) (Keep.refl _ _)) (Keep.refl _ _))])

theorem flushStream_keep : ∀ a0 s, Keep 192 s (flushStream a0 s) := by
  intro a0 s
  unfold flushStream
  exact
    Keep.on (writeIndexUnits_keep _ _) (Keep.on (releaseHeld_keep _ _) (Keep.refl _ _) rfl) rfl

theorem writeDoorbell_keep : ∀ a0 a1 a2 s, Keep 134218496 s (writeDoorbell a0 a1 a2 s) := by
  intro a0 a1 a2 s
  unfold writeDoorbell
  dsimp only
  exact
    Keep.ite (Keep.on (releaseBox_keep _ _ _) (Keep.ite (Keep.on (ringBox_keep _ _ _ _) (Keep.ite (Keep.on
      (claimBox_keep _ _ _) (Keep.refl _ _) rfl) (Keep.refl _ _)) rfl) (Keep.ite (Keep.on (claimBox_keep _ _ _)
      (Keep.refl _ _) rfl) (Keep.refl _ _))) rfl) (Keep.ite (Keep.on (ringBox_keep _ _ _ _) (Keep.ite (Keep.on
      (claimBox_keep _ _ _) (Keep.refl _ _) rfl) (Keep.refl _ _)) rfl) (Keep.ite (Keep.on (claimBox_keep _ _ _)
      (Keep.refl _ _) rfl) (Keep.refl _ _)))

theorem holdChannel_keep : ∀ a0 s, Keep 17047552 s (holdChannel a0 s) := by
  intro a0 s
  unfold holdChannel
  dsimp only
  exact
    Keep.foldl _ _ _ (fun _ _ => (Keep.on (unpark_keep _ _) (Keep.on (abandon_keep _ _ _) (Keep.refl _ _) rfl) rfl))
      (Keep.on (updateChan_keep _ _ _) (Keep.refl _ _) rfl)

theorem enterStream_keep : ∀ a0 a1 s, Keep 192 s (enterStream a0 a1 s) := by
  intro a0 a1 s
  unfold enterStream
  exact
    Keep.on (flushStream_keep _ _) (Keep.on (updateStream_keep _ _ _) (Keep.refl _ _) rfl) rfl

theorem lunReset_keep : ∀ a0 s, Keep 17178752 s (lunReset a0 s) := by
  intro a0 s
  unfold lunReset
  exact
    Keep.on (markStale_keep _ _ _) (Keep.on (loseParked_keep _ _) (Keep.refl _ _) rfl) rfl

theorem eatFrame_keep : ∀ a0 s, Keep 224 s (eatFrame a0 s) := by
  intro a0 s
  unfold eatFrame
  dsimp only
  exact
    Keep.ite (Keep.on (storeFrameUnit_keep _ _) (Keep.on (passBits_keep _ _) (Keep.upd_32 rfl (Keep.refl _ _)) rfl)
      rfl) (Keep.on (passBits_keep _ _) (Keep.upd_32 rfl (Keep.refl _ _)) rfl)

theorem execStreamClose_keep : ∀ a0 s, KeepR 402656192 s (execStreamClose a0 s) := by
  intro a0 s
  unfold execStreamClose
  dsimp only
  exact
    KeepR.next (Keep.ho (serve_keep _ _ _ _ (fun x => (by split; exacts [(Keep.on (respond_keep _ _ _ _) (Keep.refl _
      _) rfl), (Keep.ite (Keep.ho (accept_keep _ _ _ _ _ _ _ _ rfl (fun v x => (Keep.on (enterStream_keep _ _ _)
      (Keep.refl _ _) rfl))) (Keep.refl _ _)) (Keep.on (respond_keep _ _ _ _) (Keep.refl _ _) rfl))]))) (Keep.refl _
      _))

theorem adminOk_keep : ∀ a0 s, Keep 134217984 s (adminOk a0 s) := by
  intro a0 s
  unfold adminOk
  exact
    Keep.on (fetchAll_keep _) (Keep.on (completeOk_keep _ _ _) (Keep.refl _ _) rfl) rfl

theorem stageSlot_keep : ∀ a0 a1 a2 s, Keep 155204352 s (stageSlot a0 a1 a2 s) := by
  intro a0 a1 a2 s
  unfold stageSlot
  dsimp only
  exact
    (by split; exacts [(Keep.on (completeHandle_keep _ _ _ _) (Keep.fst (by assumption) (Keep.on (writeSlot_keep _ _
      _) (Keep.on (protect_keep _ _ _) (Keep.refl _ _) rfl) rfl)) rfl), (Keep.on (completeHandle_keep _ _ _ _)
      (Keep.fst (by assumption) (Keep.on (writeSlot_keep _ _ _) (Keep.on (protect_keep _ _ _) (Keep.refl _ _) rfl)
      rfl)) rfl)])

theorem endAffected_keep : ∀ a0 a1 a2 s, Keep 134742400 s (endAffected a0 a1 a2 s) := by
  intro a0 a1 a2 s
  unfold endAffected
  exact
    Keep.on (endIoWhere_keep _ _ _) (Keep.refl _ _) rfl

theorem drawSalt_keep : ∀ s, Keep 33554432 s (drawSalt s) := by
  intro s
  unfold drawSalt
  exact
    Keep.on (useSalt_keep _ _) (Keep.on (drbgDraw_keep _ _) (Keep.refl _ _) rfl) rfl

theorem markProgrammed_keep : ∀ s, Keep 131200 s (markProgrammed s) := by
  intro s
  unfold markProgrammed
  dsimp only
  exact
    Keep.on (settleMap_keep _) (Keep.upd_128 rfl (Keep.refl _ _)) rfl

theorem runSlot_keep : ∀ a0 s, Keep 323231744 s (runSlot a0 s) := by
  intro a0 s
  unfold runSlot
  dsimp only
  exact
    Keep.ite (Keep.on (drawn_keep _) (Keep.ite (Keep.on (changeFeatures_keep _) (Keep.on (replacePatch_keep _)
      (Keep.upd_37748736 rfl (Keep.refl _ _)) rfl) rfl) (Keep.on (replacePatch_keep _) (Keep.upd_37748736 rfl
      (Keep.refl _ _)) rfl)) rfl) (Keep.on (replacePatch_keep _) (Keep.upd_37748736 rfl (Keep.refl _ _)) rfl)

theorem partialWrite_keep : ∀ a0 a1 a2 a3 a4 s, Keep 27271168 s (partialWrite a0 a1 a2 a3 a4 s) := by
  intro a0 a1 a2 a3 a4 s
  unfold partialWrite
  dsimp only
  exact
    (by split; exacts [(Keep.on (writeBlock_keep _ _) (Keep.fst (by assumption) (Keep.on (checkBlock_keep _ _ _ _ _ _)
      (Keep.refl _ _) rfl)) rfl), (Keep.on (logEvent_keep _ _ _ _) (Keep.on (noteLast_keep _ _ _ _ _ _)
      (Keep.upd_2097152 rfl (Keep.fst (by assumption) (Keep.on (checkBlock_keep _ _ _ _ _ _) (Keep.refl _ _) rfl)))
      rfl) rfl)])

theorem adminFailSpecific_keep : ∀ a0 a1 s, Keep 134217984 s (adminFailSpecific a0 a1 s) := by
  intro a0 a1 s
  unfold adminFailSpecific
  exact
    Keep.on (fetchAll_keep _) (Keep.on (failSpecific_keep _ _ _ _) (Keep.refl _ _) rfl) rfl

theorem execStreamDrainDone_keep : ∀ a0 s, KeepR 134224704 s (execStreamDrainDone a0 s) := by
  intro a0 s
  unfold execStreamDrainDone
  dsimp only
  exact
    KeepR.next (by split; exacts [(Keep.refl _ _), (Keep.ite (Keep.on (memberClosed_keep _ _) (by split; exacts
      [(Keep.on (completeHandle_keep _ _ _ _) (Keep.on (updateStream_keep _ _ _) (Keep.refl _ _) rfl) rfl), (Keep.on
      (updateStream_keep _ _ _) (Keep.refl _ _) rfl)]) rfl) (Keep.refl _ _))])

theorem backInService_keep : ∀ a0 s, Keep 285679744 s (backInService a0 s) := by
  intro a0 s
  unfold backInService
  dsimp only
  exact
    (by split; exacts [(Keep.foldl _ _ _ (fun _ _ => (Keep.ite (Keep.refl _ _) (Keep.on (wakeChannel_keep _ _)
      (Keep.on (updateChan_keep _ _ _) (Keep.refl _ _) rfl) rfl))) (Keep.on (logWake_keep _ _) (Keep.refl _ _) rfl)),
      (Keep.ite (Keep.refl _ _) (Keep.on (wakeChannel_keep _ _) (Keep.on (updateChan_keep _ _ _) (Keep.refl _ _) rfl)
      rfl)), (Keep.on (markStale_keep _ _ _) (Keep.on (updateDie_keep _ _ _) (Keep.refl _ _) rfl) rfl),
      (Keep.upd_65536 rfl (Keep.refl _ _)), (Keep.refl _ _)])

theorem takeDownload_keep : ∀ a0 a1 s, Keep 20979968 s (takeDownload a0 a1 s).1 := by
  intro a0 a1 s
  unfold takeDownload
  dsimp only
  exact
    (by split; exacts [(Keep.refl _ _), (Keep.on (writeSlot_keep _ _ _) (Keep.upd_256 rfl (Keep.refl _ _)) rfl)])

theorem decodeEnds_keep : ∀ a0 a1 a2 s, Keep 294527232 s (decodeEnds a0 a1 a2 s) := by
  intro a0 a1 a2 s
  unfold decodeEnds
  dsimp only
  exact
    Keep.ite (Keep.on (readParity_keep _ _ _ _) (Keep.on (countReads_keep _ _ _ _) (Keep.refl _ _) rfl) rfl)
      (by split; exacts [(Keep.on (updateRead_keep _ _ _) (Keep.on (logUncorrectable_keep _ _ _ _) (Keep.on
      (countReads_keep _ _ _ _) (Keep.refl _ _) rfl) rfl) rfl), (Keep.ite (Keep.on (updateRead_keep _ _ _) (Keep.on
      (logUncorrectable_keep _ _ _ _) (Keep.on (countReads_keep _ _ _ _) (Keep.refl _ _) rfl) rfl) rfl) (Keep.ite
      (Keep.on (checkDecoded_keep _ _ _ _ _) (Keep.on (countReads_keep _ _ _ _) (Keep.refl _ _) rfl) rfl) (Keep.on
      (climb_keep _ _ _ _) (Keep.on (countReads_keep _ _ _ _) (Keep.refl _ _) rfl) rfl)))])

theorem leaveState_keep : ∀ s, Keep 286777472 s (leaveState s) := by
  intro s
  unfold leaveState
  dsimp only
  exact
    Keep.ite (Keep.on (runDueTest_keep _) (Keep.on (flushDeferred_keep _) (Keep.ite (Keep.on (wakeDram_keep _ _)
      (Keep.on (wakeMedia_keep _) (Keep.upd_16384 rfl (Keep.refl _ _)) rfl) rfl) (Keep.upd_16384 rfl (Keep.refl _ _)))
      rfl) rfl) (Keep.ite (Keep.on (wakeDram_keep _ _) (Keep.on (wakeMedia_keep _) (Keep.upd_16384 rfl (Keep.refl _
      _)) rfl) rfl) (Keep.upd_16384 rfl (Keep.refl _ _)))

theorem startGrants_keep : ∀ a0 s, Keep 16916608 s (startGrants a0 s) := by
  intro a0 s
  unfold startGrants
  dsimp only
  exact
    Keep.on (ledgerFlush_keep _) (Keep.foldl _ _ _ (fun _ _ => (Keep.on (grantSb_keep _ _ _) (Keep.on (grantSb_keep _
      _ _) (Keep.refl _ _) rfl) rfl)) (Keep.on (appendSlot_keep _ _) (Keep.refl _ _) rfl)) rfl

theorem execSetTemperatureThreshold_keep : ∀ a0 s, KeepR 134217984 s (execSetTemperatureThreshold a0 s) := by
  intro a0 s
  unfold execSetTemperatureThreshold
  dsimp only
  exact
    KeepR.next (Keep.ho (onFeature_keep _ _ _ _ (fun c x => (by split; exacts [(Keep.ite (Keep.on (adminFail_keep _ _
      _) (Keep.refl _ _) rfl) (Keep.on (adminOk_keep _ _) (Keep.upd_256 rfl (Keep.refl _ _)) rfl)), (Keep.ite (Keep.on
      (adminFail_keep _ _ _) (Keep.refl _ _) rfl) (Keep.on (adminOk_keep _ _) (Keep.upd_256 rfl (Keep.refl _ _))
      rfl)), (Keep.on (adminFail_keep _ _ _) (Keep.refl _ _) rfl)]))) (Keep.refl _ _))

theorem loadKeys_keep : ∀ s, Keep 33554432 s (loadKeys s) := by
  intro s
  unfold loadKeys
  dsimp only
  exact
    Keep.upd_33554432 rfl (Keep.on (useSalt_keep _ _) (Keep.refl _ _) rfl)

theorem execStallTimerExpire_keep : ∀ s, KeepR 16785632 s (execStallTimerExpire s) := by
  intro s
  unfold execStallTimerExpire
  dsimp only
  exact
    KeepR.next (by split; exacts [(Keep.refl _ _), (Keep.upd_32 rfl (Keep.on (closeShort_keep _ _) (Keep.refl _ _)
      rfl))])

theorem execNamespaceAttach_keep : ∀ a0 a1 s, KeepR 134349056 s (execNamespaceAttach a0 a1 s) := by
  intro a0 a1 s
  unfold execNamespaceAttach
  exact
    KeepR.next (Keep.ho (onAdmin_keep _ _ _ _ (fun c x => (Keep.ite (Keep.refl _ _) (by split; exacts [(Keep.on
      (adminFail_keep _ _ _) (Keep.refl _ _) rfl), (Keep.ite (Keep.on (adminFailSpecific_keep _ _ _) (Keep.refl _ _)
      rfl) (Keep.ite (Keep.on (adminFailSpecific_keep _ _ _) (Keep.refl _ _) rfl) (Keep.on (adminOk_keep _ _) (Keep.on
      (attachNs_keep _ _ _) (Keep.refl _ _) rfl) rfl)))])))) (Keep.refl _ _))

theorem execDeleteIoCompletionQueue_keep : ∀ a0 s, KeepR 134217984 s (execDeleteIoCompletionQueue a0 s) := by
  intro a0 s
  unfold execDeleteIoCompletionQueue
  dsimp only
  exact
    KeepR.next (Keep.ho (onAdmin_keep _ _ _ _ (fun c x => (Keep.ite (Keep.on (adminFailSpecific_keep _ _ _) (Keep.refl
      _ _) rfl) (Keep.ite (Keep.on (adminFailSpecific_keep _ _ _) (Keep.refl _ _) rfl) (Keep.on (adminOk_keep _ _)
      (Keep.upd_256 rfl (Keep.refl _ _)) rfl))))) (Keep.refl _ _))

theorem readLedger_keep : ∀ a0 s, Keep 285352322 s (readLedger a0 s) := by
  intro a0 s
  unfold readLedger
  dsimp only
  exact
    Keep.ite (Keep.on (firstLedger_keep _ _) (Keep.refl _ _) rfl) (Keep.upd_131072 rfl (Keep.ite (Keep.upd_130 rfl
      (Keep.on (moveCopies_keep _) (Keep.on (readCopies_keep _ _) (Keep.refl _ _) rfl) rfl)) (Keep.on
      (uncleanLedger_keep _) (Keep.upd_130 rfl (Keep.on (moveCopies_keep _) (Keep.on (readCopies_keep _ _) (Keep.refl
      _ _) rfl) rfl)) rfl)))

theorem execSetAutonomousPowerState_keep : ∀ a0 a1 s, KeepR 134217984 s (execSetAutonomousPowerState a0 a1 s) := by
  intro a0 a1 s
  unfold execSetAutonomousPowerState
  dsimp only
  exact
    KeepR.next (Keep.ho (onFeature_keep _ _ _ _ (fun c x => (Keep.on (adminOk_keep _ _) (Keep.upd_256 rfl (Keep.refl _
      _)) rfl))) (Keep.refl _ _))

theorem adminDw_keep : ∀ a0 a1 s, Keep 134217984 s (adminDw a0 a1 s) := by
  intro a0 a1 s
  unfold adminDw
  exact
    Keep.on (fetchAll_keep _) (Keep.on (completeDw_keep _ _ _ _) (Keep.refl _ _) rfl) rfl

theorem execSetNumberOfQueues_keep : ∀ a0 s, KeepR 134217984 s (execSetNumberOfQueues a0 s) := by
  intro a0 s
  unfold execSetNumberOfQueues
  dsimp only
  exact
    KeepR.next (Keep.ho (onFeature_keep _ _ _ _ (fun c x => (Keep.ite (Keep.on (adminFail_keep _ _ _) (Keep.refl _ _)
      rfl) (Keep.on (adminDw_keep _ _ _) (Keep.upd_256 rfl (Keep.refl _ _)) rfl)))) (Keep.refl _ _))

theorem drawKey_keep : ∀ a0 s, Keep 33554432 s (drawKey a0 s) := by
  intro a0 s
  unfold drawKey
  dsimp only
  exact
    Keep.on (drbgDraw_keep _ _) (Keep.upd_33554432 rfl (Keep.refl _ _)) rfl

theorem takeAtW7_keep : ∀ a0 s, Keep 167905664 s (takeAtW7 a0 s) := by
  intro a0 s
  unfold takeAtW7
  dsimp only
  exact
    (by split; exacts [(by split; exacts [(Keep.on (fetchAll_keep _) (Keep.on (completeOk_keep _ _ _) (Keep.on
      (settleMap_keep _) (Keep.on (numberCmd_keep _ _ _) (Keep.upd_128 rfl (Keep.refl _ _)) rfl) rfl) rfl) rfl),
      (Keep.on (settleMap_keep _) (Keep.on (numberCmd_keep _ _ _) (Keep.upd_128 rfl (Keep.refl _ _)) rfl) rfl)]),
      (Keep.on (settleMap_keep _) (Keep.on (passCancel_keep _ _) (Keep.upd_33554432 rfl (Keep.on (numberCmd_keep _ _
      _) (Keep.upd_128 rfl (Keep.refl _ _)) rfl)) rfl) rfl), (Keep.upd_131072 rfl (Keep.on (numberCmd_keep _ _ _)
      (Keep.upd_128 rfl (Keep.refl _ _)) rfl)), (Keep.on (numberCmd_keep _ _ _) (Keep.upd_128 rfl (Keep.refl _ _))
      rfl)])

theorem execCaptureLinkUpTimeout_keep : ∀ s, KeepR 134224640 s (execCaptureLinkUpTimeout s) := by
  intro s
  unfold execCaptureLinkUpTimeout
  exact
    KeepR.next (Keep.ite (Keep.refl _ _) (Keep.on (completeLinkUp_keep _ _) (Keep.refl _ _) rfl))

theorem sendCommand_keep : ∀ a0 a1 a2 s, Keep 151396480 s (sendCommand a0 a1 a2 s) := by
  intro a0 a1 a2 s
  unfold sendCommand
  dsimp only
  exact
    Keep.foldl _ _ _ (fun _ _ => (Keep.on (lunReset_keep _ _) (Keep.refl _ _) rfl)) (Keep.ite (Keep.on (updateDie_keep
      _ _ _) (Keep.on (sendBytes_keep _ _ _ _) (Keep.refl _ _) rfl) rfl) (Keep.on (sendBytes_keep _ _ _ _) (Keep.refl
      _ _) rfl))

theorem padSb_keep : ∀ a0 s, Keep 131072 s (padSb a0 s) := by
  intro a0 s
  unfold padSb
  exact
    (by split; exacts [(Keep.refl _ _), (Keep.ite (Keep.on (updateSb_keep _ _ _) (Keep.refl _ _) rfl) (Keep.on
      (closeSb_keep _ _) (Keep.refl _ _) rfl))])

theorem loadFirmware_keep : ∀ s, Keep 390180098 s (loadFirmware s) := by
  intro s
  unfold loadFirmware
  dsimp only
  exact
    (by split; exacts [(Keep.on (firmwareStart_keep _ _) (Keep.refl _ _) rfl), (by split; exacts [(Keep.on
      (firmwareStart_keep _ _) (Keep.on (putSlot_keep _ _ _ _) (Keep.on (authFail_keep _ _ _ _ _) (Keep.refl _ _) rfl)
      rfl) rfl), (Keep.on (enterRecovery_keep _ _ _) (Keep.on (authFail_keep _ _ _ _ _) (Keep.on (putSlot_keep _ _ _
      _) (Keep.on (authFail_keep _ _ _ _ _) (Keep.refl _ _) rfl) rfl) rfl) rfl)])])

theorem execWriteZeroes_keep : ∀ a0 a1 s, KeepR 134218112 s (execWriteZeroes a0 a1 s) := by
  intro a0 a1 s
  unfold execWriteZeroes
  exact
    KeepR.next (Keep.ho (onIo_keep _ _ _ _ _ (fun c x => (by split; exacts [(Keep.on (failWith_keep _ _ _) (Keep.refl
      _ _) rfl), (Keep.ite (Keep.refl _ _) (Keep.ite (Keep.on (failWith_keep _ _ _) (Keep.refl _ _) rfl) (Keep.on
      (receiveWrite_keep _ _ _ _ _ _) (Keep.refl _ _) rfl)))]))) (Keep.refl _ _))

theorem execGetVolatileWriteCache_keep : ∀ a0 s, KeepR 134217984 s (execGetVolatileWriteCache a0 s) := by
  intro a0 s
  unfold execGetVolatileWriteCache
  exact
    KeepR.next (Keep.ho (onAdmin_keep _ _ _ _ (fun c x => (Keep.ite (Keep.on (adminDw_keep _ _ _) (Keep.refl _ _) rfl)
      (Keep.refl _ _)))) (Keep.refl _ _))

theorem advance_keep : ∀ a0 s, Keep 16785632 s (advance a0 s) := by
  intro n
  induction n with
  | zero => intro s; exact Keep.refl _ _
  | succ n ih =>
    intro s
    have gap (x : State) : Keep 16785632 x (advance n (crossGap x)) :=
      Keep.ho (ih _) (Keep.on (crossGap_keep _) (Keep.refl _ _) rfl)
    unfold advance
    dsimp only
    split
    · exact Keep.ite (Keep.refl _ _) (Keep.ite (gap _) (Keep.ite (Keep.refl _ _)
        (Keep.ho (ih _) (Keep.on (eatFrame_keep _ _) (Keep.refl _ _) rfl))))
    · refine Keep.ite (gap _) (Keep.ite (Keep.ite (Keep.refl _ _) (Keep.ho (ih _) (Keep.on (addToRun_keep _ _)
        (Keep.on (passBits_keep _ _) (Keep.upd_32 rfl (Keep.refl _ _)) rfl) rfl))) (Keep.ite (Keep.ho (ih _)
        (Keep.on (addToRun_keep _ _) (Keep.on (passBits_keep _ _) (Keep.refl _ _) rfl) rfl)) ?_))
      split
      · exact Keep.ite (Keep.on (logFalse_keep _ _) (Keep.refl _ _) rfl) (Keep.ho (ih _) (Keep.on (joinRun_keep _ _ _ _)
          (Keep.on (passBits_keep _ _) (Keep.upd_32 rfl (Keep.on (logFalse_keep _ _) (Keep.refl _ _) rfl)) rfl) rfl))
      · exact Keep.refl _ _

theorem replaceKeys_keep : ∀ a0 a1 s, Keep 33685888 s (replaceKeys a0 a1 s) := by
  intro a0 a1 s
  unfold replaceKeys
  dsimp only
  exact
    Keep.foldl _ _ _ (fun _ _ => (Keep.on (drawKey_keep _ _) (Keep.refl _ _) rfl)) (Keep.ite (Keep.on (drawSalt_keep
      _) (Keep.foldl _ _ _ (fun _ _ => (Keep.on (newEpoch_keep _ _ _) (Keep.refl _ _) rfl)) (Keep.foldl _ _ _ (fun _ _
      => (Keep.on (zeroizeKey_keep _ _) (Keep.refl _ _) rfl)) (Keep.refl _ _))) rfl) (Keep.foldl _ _ _ (fun _ _ =>
      (Keep.on (newEpoch_keep _ _ _) (Keep.refl _ _) rfl)) (Keep.foldl _ _ _ (fun _ _ => (Keep.on (zeroizeKey_keep _
      _) (Keep.refl _ _) rfl)) (Keep.refl _ _))))

theorem execFirmwareImageDownload_keep : ∀ a0 s, KeepR 134217984 s (execFirmwareImageDownload a0 s) := by
  intro a0 s
  unfold execFirmwareImageDownload
  dsimp only
  exact
    KeepR.next (Keep.ho (onAdmin_keep _ _ _ _ (fun c x => (Keep.ite (Keep.on (adminFail_keep _ _ _) (Keep.refl _ _)
      rfl) (Keep.on (adminOk_keep _ _) (Keep.upd_256 rfl (Keep.refl _ _)) rfl)))) (Keep.refl _ _))

theorem padWhere_keep : ∀ a0 s, Keep 131072 s (padWhere a0 s) := by
  intro a0 s
  unfold padWhere
  exact
    Keep.foldl _ _ _ (fun _ _ => (Keep.on (padSb_keep _ _) (Keep.refl _ _) rfl)) (Keep.refl _ _)

theorem execIdentify_keep : ∀ a0 s, KeepR 134217984 s (execIdentify a0 s) := by
  intro a0 s
  unfold execIdentify
  exact
    KeepR.next (Keep.ho (onAdmin_keep _ _ _ _ (fun c x => (by split; exacts [(Keep.on (adminOk_keep _ _) (Keep.on
      (emit_keep _ _) (Keep.refl _ _) rfl) rfl), (Keep.on (adminFail_keep _ _ _) (Keep.refl _ _) rfl)]))) (Keep.refl _
      _))

theorem execAbort_keep : ∀ a0 s, KeepR 151527808 s (execAbort a0 s) := by
  intro a0 s
  unfold execAbort
  dsimp only
  exact
    KeepR.next (Keep.ho (onAdmin_keep _ _ _ _ (fun c x => (Keep.ite (Keep.on (adminFailSpecific_keep _ _ _) (Keep.refl
      _ _) rfl) (by split; exacts [(Keep.on (adminDw_keep _ _ _) (Keep.refl _ _) rfl), (Keep.ite (Keep.on
      (adminDw_keep _ _ _) (Keep.on (abortUnposted_keep _ _ _) (Keep.refl _ _) rfl) rfl) (Keep.on (adminDw_keep _ _ _)
      (Keep.on (logAbortRace_keep _ _ _) (Keep.refl _ _) rfl) rfl)), (Keep.ite (Keep.on (adminDw_keep _ _ _) (Keep.on
      (logAbortRace_keep _ _ _) (Keep.refl _ _) rfl) rfl) (Keep.on (adminDw_keep _ _ _) (Keep.on (abortCmd_keep _ _ _
      _ _) (Keep.refl _ _) rfl) rfl))])))) (Keep.refl _ _))

theorem execSetInterruptCoalescing_keep : ∀ a0 s, KeepR 134217984 s (execSetInterruptCoalescing a0 s) := by
  intro a0 s
  unfold execSetInterruptCoalescing
  dsimp only
  exact
    KeepR.next (Keep.ho (onFeature_keep _ _ _ _ (fun c x => (Keep.on (adminOk_keep _ _) (Keep.upd_256 rfl (Keep.refl _
      _)) rfl))) (Keep.refl _ _))

theorem closeTakeMembers_keep : ∀ a0 s, Keep 134224832 s (closeTakeMembers a0 s) := by
  intro a0 s
  unfold closeTakeMembers
  exact
    Keep.foldl _ _ _ (fun _ _ => (by split; exacts [(Keep.refl _ _), (by split; exacts [(Keep.on (enterStream_keep _ _
      _) (Keep.refl _ _) rfl), (Keep.on (enterStream_keep _ _ _) (Keep.refl _ _) rfl), (Keep.on (memberClosed_keep _
      _) (Keep.on (updateStream_keep _ _ _) (Keep.refl _ _) rfl) rfl), (Keep.refl _ _)])])) (Keep.refl _ _)

theorem execFirmwareCommitImmediate_keep : ∀ a0 a1 s, KeepR 163887874 s (execFirmwareCommitImmediate a0 a1 s) := by
  intro a0 a1 s
  unfold execFirmwareCommitImmediate
  dsimp only
  exact
    KeepR.next (Keep.ho (onAdmin_keep _ _ _ _ (fun c x => (Keep.ite (Keep.refl _ _) (by split; exacts [(Keep.on
      (fetchAll_keep _) (Keep.on (completeCmd_keep _ _ _ _ _ _ _ _) (Keep.refl _ _) rfl) rfl), (by split; exacts
      [(Keep.on (adminFailSpecific_keep _ _ _) (Keep.fst (by assumption) (Keep.on (takeDownload_keep _ _ _) (Keep.refl
      _ _) rfl)) rfl), (by split; exacts [(Keep.on (adminFailSpecific_keep _ _ _) (Keep.on (authFail_keep _ _ _ _ _)
      (Keep.fst (by assumption) (Keep.on (takeDownload_keep _ _ _) (Keep.refl _ _) rfl)) rfl) rfl), (Keep.on
      (activate_keep _ _ _ _) (Keep.on (updateCmd_keep _ _ _ _) (Keep.fst (by assumption) (Keep.on (takeDownload_keep
      _ _ _) (Keep.refl _ _) rfl)) rfl) rfl)])])])))) (Keep.refl _ _))

theorem programCopies_keep : ∀ s, Keep 131200 s (programCopies s) := by
  intro s
  unfold programCopies
  dsimp only
  exact
    Keep.foldl _ _ _ (fun _ _ => (Keep.on (finishClose_keep _ _) (Keep.refl _ _) rfl)) (Keep.on (markProgrammed_keep
      _) (Keep.foldl _ _ _ (fun _ _ => (by split; exacts [(Keep.refl _ _), (Keep.foldl _ _ _ (fun _ _ => (Keep.on
      (rowDone_keep _ _ _) (Keep.refl _ _) rfl)) (Keep.refl _ _))])) (Keep.foldl _ _ _ (fun _ _ => (Keep.ite
      (Keep.refl _ _) (Keep.on (padSb_keep _ _) (Keep.refl _ _) rfl))) (Keep.refl _ _))) rfl)

theorem execSetArbitration_keep : ∀ a0 s, KeepR 134217984 s (execSetArbitration a0 s) := by
  intro a0 s
  unfold execSetArbitration
  dsimp only
  exact
    KeepR.next (Keep.ho (onFeature_keep _ _ _ _ (fun c x => (Keep.on (adminOk_keep _ _) (Keep.upd_256 rfl (Keep.refl _
      _)) rfl))) (Keep.refl _ _))

theorem execFence_keep : ∀ a0 a1 s, KeepR 134218112 s (execFence a0 a1 s) := by
  intro a0 a1 s
  unfold execFence
  exact
    KeepR.next (Keep.ho (onIo_keep _ _ _ _ _ (fun c x => (by split; exacts [(Keep.on (failWith_keep _ _ _) (Keep.refl
      _ _) rfl), (Keep.on (enqueueFence_keep _ _) (Keep.on (updateCmd_keep _ _ _ _) (Keep.refl _ _) rfl) rfl)])))
      (Keep.refl _ _))

theorem readWord_keep : ∀ a0 a1 s, Keep 27271168 s (readWord a0 a1 s).1 := by
  intro a0 a1 s
  unfold readWord
  exact
    (by split; exacts [(Keep.on (scratchRead_keep _ _) (Keep.refl _ _) rfl), (Keep.refl _ _)])

theorem endIo_keep : ∀ a0 a1 s, Keep 134742400 s (endIo a0 a1 s) := by
  intro a0 a1 s
  unfold endIo
  exact
    Keep.on (endIoWhere_keep _ _ _) (Keep.refl _ _) rfl

theorem resumeP0_keep : ∀ s, Keep 421002112 s (resumeP0 s) := by
  intro s
  unfold resumeP0
  dsimp only
  exact
    Keep.ite (Keep.on (abandonP4_keep _) (Keep.upd_16384 rfl (Keep.refl _ _)) rfl) (Keep.on (leaveState_keep _)
      (Keep.upd_16384 rfl (Keep.on (abandonP4_keep _) (Keep.upd_16384 rfl (Keep.refl _ _)) rfl)) rfl)

theorem execGetFeatures_keep : ∀ a0 s, KeepR 134217984 s (execGetFeatures a0 s) := by
  intro a0 s
  unfold execGetFeatures
  dsimp only
  exact
    KeepR.next (Keep.ho (onAdmin_keep _ _ _ _ (fun c x => (Keep.ite (Keep.refl _ _) (Keep.ite (Keep.on (adminFail_keep
      _ _ _) (Keep.refl _ _) rfl) (by split; exacts [(Keep.on (adminFail_keep _ _ _) (Keep.refl _ _) rfl), (Keep.on
      (adminDw_keep _ _ _) (Keep.ite (Keep.on (emit_keep _ _) (Keep.refl _ _) rfl) (Keep.refl _ _)) rfl)])))))
      (Keep.refl _ _))

theorem execDeleteIoSubmissionQueue_keep : ∀ a0 s, KeepR 134742400 s (execDeleteIoSubmissionQueue a0 s) := by
  intro a0 s
  unfold execDeleteIoSubmissionQueue
  dsimp only
  exact
    KeepR.next (Keep.ho (onAdmin_keep _ _ _ _ (fun c x => (Keep.ite (Keep.on (adminFailSpecific_keep _ _ _) (Keep.refl
      _ _) rfl) (Keep.on (fetchAll_keep _) (Keep.on (updateCmd_keep _ _ _ _) (Keep.foldl _ _ _ (fun _ _ => (Keep.on
      (abortCmd_keep _ _ _ _ _) (Keep.refl _ _) rfl)) (Keep.on (updateSq_keep _ _ _) (Keep.refl _ _) rfl)) rfl)
      rfl)))) (Keep.refl _ _))

theorem padWanted_keep : ∀ s, Keep 131072 s (padWanted s) := by
  intro s
  unfold padWanted
  exact
    Keep.on (padWhere_keep _ _) (Keep.refl _ _) rfl

theorem takeSample_keep : ∀ a0 s, Keep 432929554 s (takeSample a0 s) := by
  intro a0 s
  unfold takeSample
  dsimp only
  exact
    Keep.on (hostThermal_keep _ _) (Keep.ite (Keep.on (startHalt_keep _) (Keep.upd_65536 rfl (Keep.on
      (rateWarning_keep _) (Keep.on (measureSample_keep _ _) (Keep.on (sampleSensors_keep _ _) (Keep.refl _ _) rfl)
      rfl) rfl)) rfl) (Keep.on (sampleLevel_keep _) (Keep.upd_65536 rfl (Keep.on (rateWarning_keep _) (Keep.on
      (measureSample_keep _ _) (Keep.on (sampleSensors_keep _ _) (Keep.refl _ _) rfl) rfl) rfl)) rfl)) rfl

theorem beginSanitize_keep : ∀ a0 a1 s, Keep 172622208 s (beginSanitize a0 a1 s) := by
  intro a0 a1 s
  unfold beginSanitize
  dsimp only
  exact
    Keep.on (adminOk_keep _ _) (Keep.upd_256 rfl (Keep.ite (Keep.on (storeKeys_keep _) (Keep.on (replaceKeys_keep _ _
      _) (Keep.on (endAffected_keep _ _ _ _) (Keep.refl _ _) rfl) rfl) rfl) (Keep.foldl _ _ _ (fun _ _ => (Keep.on
      (newEpoch_keep _ _ _) (Keep.refl _ _) rfl)) (Keep.on (endAffected_keep _ _ _ _) (Keep.refl _ _) rfl)))) rfl

theorem execAsynchronousEventRequest_keep : ∀ a0 s, KeepR 134217984 s (execAsynchronousEventRequest a0 s) := by
  intro a0 s
  unfold execAsynchronousEventRequest
  dsimp only
  exact
    KeepR.next (Keep.ho (onAdmin_keep _ _ _ _ (fun c x => (Keep.ite (Keep.on (adminFailSpecific_keep _ _ _) (Keep.refl
      _ _) rfl) (Keep.on (updateCmd_keep _ _ _ _) (Keep.upd_256 rfl (Keep.refl _ _)) rfl)))) (Keep.refl _ _))

theorem fullAt_keep : ∀ a0 a1 s, Keep 16785632 s (fullAt a0 a1 s) := by
  intro a0 a1 s
  unfold fullAt
  exact
    Keep.on (discardFull_keep _ _) (Keep.on (enterStream_keep _ _ _) (Keep.on (logEvent_keep _ _ _ _) (Keep.refl _ _)
      rfl) rfl) rfl

theorem routeFrame_keep : ∀ a0 a1 s, Keep 16785632 s (routeFrame a0 a1 s) := by
  intro a0 a1 s
  unfold routeFrame
  dsimp only
  exact
    (by split; exacts [(Keep.on (discardFrame_keep _ _ _) (Keep.refl _ _) rfl), (by split; exacts [(Keep.on
      (discardFull_keep _ _) (Keep.refl _ _) rfl), (Keep.ite (Keep.on (discardFrame_keep _ _ _) (Keep.refl _ _) rfl)
      (Keep.ite (Keep.on (discardFrame_keep _ _ _) (Keep.refl _ _) rfl) (Keep.ite (Keep.on (fullAt_keep _ _ _)
      (Keep.refl _ _) rfl) (Keep.ite (Keep.on (takeFrame_keep _ _ _ _ _ _) (Keep.refl _ _) rfl) (by split; exacts
      [(Keep.on (fullAt_keep _ _ _) (Keep.refl _ _) rfl), (Keep.on (noteLowWater_keep _ _) (Keep.on (takeFrame_keep _
      _ _ _ _ _) (Keep.on (updateStream_keep _ _ _) (Keep.on (releaseHeld_keep _ _) (Keep.refl _ _) rfl) rfl) rfl)
      rfl)]))))), (Keep.on (discardFrame_keep _ _ _) (Keep.refl _ _) rfl)])])

theorem readmitUnit_keep : ∀ a0 s, Keep 298262656 s (readmitUnit a0 s) := by
  intro a0 s
  unfold readmitUnit
  dsimp only
  exact
    Keep.on (backInService_keep _ _) (Keep.on (diesBack_keep _ _) (Keep.on (storeConfig_keep _ _) (Keep.upd_8388608
      rfl (Keep.refl _ _)) rfl) rfl) rfl

theorem boundPower_keep : ∀ s, Keep 421002112 s (boundPower s) := by
  intro s
  unfold boundPower
  exact
    Keep.ite (Keep.on (resumeP0_keep _) (Keep.refl _ _) rfl) (Keep.refl _ _)

theorem beginRead_keep : ∀ a0 a1 a2 s, Keep 135004416 s (beginRead a0 a1 a2 s) := by
  intro a0 a1 a2 s
  unfold beginRead
  exact
    Keep.ho (onIo_keep _ _ _ _ _ (fun c x => (by split; exacts [(Keep.on (failWith_keep _ _ _) (Keep.refl _ _) rfl),
      (Keep.ite (Keep.refl _ _) (Keep.on (resolveRead_keep _ _) (Keep.refl _ _) rfl))]))) (Keep.refl _ _)

theorem takeWrite_keep : ∀ a0 a1 a2 a3 s, Keep 159392128 s (takeWrite a0 a1 a2 a3 s) := by
  intro a0 a1 a2 a3 s
  unfold takeWrite
  dsimp only
  exact
    Keep.ite (Keep.on (failWith_keep _ _ _) (Keep.refl _ _) rfl) (Keep.ite (Keep.refl _ _) (Keep.ite (Keep.on
      (failWith_keep _ _ _) (Keep.foldl _ _ _ (fun _ _ => (Keep.on (writeParity_keep _ _ _) (Keep.refl _ _) rfl))
      (Keep.refl _ _)) rfl) (by split; exacts [(Keep.on (failWith_keep _ _ _) (Keep.on (logPi_keep _ _ _ _ _)
      (Keep.foldl _ _ _ (fun _ _ => (Keep.on (writeParity_keep _ _ _) (Keep.refl _ _) rfl)) (Keep.refl _ _)) rfl)
      rfl), (Keep.on (receiveWrite_keep _ _ _ _ _ _) (Keep.upd_256 rfl (Keep.foldl _ _ _ (fun _ _ => (Keep.on
      (writeParity_keep _ _ _) (Keep.refl _ _) rfl)) (Keep.refl _ _))) rfl)])))

theorem failRead_keep : ∀ a0 a1 s, Keep 134742272 s (failRead a0 a1 s) := by
  intro a0 a1 s
  unfold failRead
  exact
    Keep.on (failWith_keep _ _ _) (Keep.on (logReadError_keep _ _ _ _ _) (Keep.on (dropReads_keep _ _ _) (Keep.refl _
      _) rfl) rfl) rfl

theorem execFwStageDone_keep : ∀ a0 a1 s, KeepR 188758784 s (execFwStageDone a0 a1 s) := by
  intro a0 a1 s
  unfold execFwStageDone
  dsimp only
  exact
    KeepR.next (by split; exacts [(Keep.ite (Keep.ite (Keep.on (stageGoesOn_keep _ _ _ _) (Keep.refl _ _) rfl)
      (Keep.ite (Keep.on (stageBoot_keep _ _ _) (Keep.upd_33554432 rfl (Keep.refl _ _)) rfl) (Keep.on (stageSlot_keep
      _ _ _ _) (Keep.upd_33554432 rfl (Keep.refl _ _)) rfl))) (Keep.refl _ _)), (Keep.refl _ _)])

theorem chooseSb_keep : ∀ a0 a1 s, Keep 131072 s (chooseSb a0 a1 s).1 := by
  intro mk l
  induction l with
  | nil => intro s; exact Keep.refl _ _
  | cons g gs ih =>
    intro s
    have next (x : State) (h : Keep 131072 s x) : Keep 131072 s (match activeOf x g with
        | some b => if b.usable && unitsFit b (mk x b.fill) then (x, some b.number) else chooseSb mk gs x
        | none => chooseSb mk gs x).1 := by
      split
      · split
        · exact h
        · exact Keep.ho (ih _) h
      · exact Keep.ho (ih _) h
    unfold chooseSb
    dsimp only
    refine next _ ?_
    split
    · exact Keep.ite (Keep.refl _ _) (Keep.on (closeSb_keep _ _) (Keep.refl _ _) rfl)
    · exact Keep.refl _ _

theorem streamRecordLost_keep : ∀ a0 a1 s, Keep 18882784 s (streamRecordLost a0 a1 s) := by
  intro a0 a1 s
  unfold streamRecordLost
  dsimp only
  exact
    Keep.on (putBlock_keep _ _) (Keep.on (updateStream_keep _ _ _) (by split; exacts [(Keep.ite (Keep.on
      (closeShort_keep _ _) (Keep.refl _ _) rfl) (Keep.refl _ _)), (Keep.refl _ _)]) rfl) rfl

theorem execShutdownComplete_keep : ∀ s, KeepR 131456 s (execShutdownComplete s) := by
  intro s
  unfold execShutdownComplete
  dsimp only
  exact
    KeepR.next (Keep.ite (Keep.upd_256 rfl (Keep.ite (Keep.on (ledgerFlush_keep _) (Keep.on (appendSlot_keep _ _)
      (Keep.refl _ _) rfl) rfl) (Keep.refl _ _))) (Keep.refl _ _))

theorem ccDisable_keep : ∀ a0 s, Keep 434109314 s (ccDisable a0 s) := by
  intro a0 s
  unfold ccDisable
  dsimp only
  exact
    Keep.ite (Keep.on (resumeP0_keep _) (Keep.upd_256 rfl (Keep.on (controllerReset_keep _) (Keep.refl _ _) rfl)) rfl)
      (Keep.refl _ _)

theorem giveKey_keep : ∀ a0 s, Keep 37748736 s (giveKey a0 s) := by
  intro a0 s
  unfold giveKey
  exact
    Keep.ite (Keep.refl _ _) (Keep.on (storeKeys_keep _) (Keep.on (drawKey_keep _ _) (Keep.refl _ _) rfl) rfl)

theorem finishRows_keep : ∀ a0 s, Keep 131200 s (finishRows a0 s) := by
  intro a0 s
  unfold finishRows
  dsimp only
  exact
    (by split; exacts [(Keep.refl _ _), (Keep.on (finishClose_keep _ _) (Keep.on (markProgrammed_keep _) (Keep.foldl _
      _ _ (fun _ _ => (Keep.on (rowDone_keep _ _ _) (Keep.refl _ _) rfl)) (Keep.refl _ _)) rfl) rfl)])

theorem execGetLogPage_keep : ∀ a0 s, KeepR 402653440 s (execGetLogPage a0 s) := by
  intro a0 s
  unfold execGetLogPage
  dsimp only
  exact
    KeepR.next (Keep.ho (onAdmin_keep _ _ _ _ (fun c x => (by split; exacts [(Keep.on (adminOk_keep _ _) (Keep.on
      (emit_keep _ _) (Keep.upd_268435456 rfl (Keep.refl _ _)) rfl) rfl), (Keep.on (adminFail_keep _ _ _) (Keep.refl _
      _) rfl)]))) (Keep.refl _ _))

theorem execCreateIoCompletionQueue_keep : ∀ a0 s, KeepR 134217984 s (execCreateIoCompletionQueue a0 s) := by
  intro a0 s
  unfold execCreateIoCompletionQueue
  dsimp only
  exact
    KeepR.next (Keep.ho (onAdmin_keep _ _ _ _ (fun c x => (Keep.ite (Keep.on (adminFailSpecific_keep _ _ _) (Keep.refl
      _ _) rfl) (Keep.ite (Keep.on (adminFailSpecific_keep _ _ _) (Keep.refl _ _) rfl) (Keep.ite (Keep.on
      (adminFail_keep _ _ _) (Keep.refl _ _) rfl) (Keep.ite (Keep.on (adminFailSpecific_keep _ _ _) (Keep.refl _ _)
      rfl) (Keep.on (adminOk_keep _ _) (Keep.upd_256 rfl (Keep.refl _ _)) rfl))))))) (Keep.refl _ _))

theorem execRead_keep : ∀ a0 a1 s, KeepR 135004416 s (execRead a0 a1 s) := by
  intro a0 a1 s
  unfold execRead
  exact
    KeepR.next (Keep.on (beginRead_keep _ _ _ _) (Keep.refl _ _) rfl)

theorem scratchWrite_keep : ∀ a0 a1 s, Keep 27271168 s (scratchWrite a0 a1 s) := by
  intro a0 a1 s
  unfold scratchWrite
  dsimp only
  exact
    Keep.ite (Keep.refl _ _) (Keep.on (partialWrite_keep _ _ _ _ _ _) (Keep.refl _ _) rfl)

theorem finishActivation_keep : ∀ a0 s, Keep 457456384 s (finishActivation a0 s) := by
  intro a0 s
  unfold finishActivation
  dsimp only
  exact
    (by split; exacts [(Keep.on (completeOk_keep _ _ _) (Keep.on (completeSome_keep _ _ _ _) (Keep.on (logEvent_keep _
      _ _ _) (Keep.on (burnLevel_keep _) (Keep.on (runSlot_keep _ _) (Keep.refl _ _) rfl) rfl) rfl) rfl) rfl),
      (Keep.on (completeSome_keep _ _ _ _) (Keep.on (logEvent_keep _ _ _ _) (Keep.on (burnLevel_keep _) (Keep.on
      (runSlot_keep _ _) (Keep.refl _ _) rfl) rfl) rfl) rfl)])

theorem execPowerSetState_keep : ∀ a0 s, KeepR 421002112 s (execPowerSetState a0 s) := by
  intro a0 s
  unfold execPowerSetState
  dsimp only
  exact
    KeepR.next (Keep.ho (serve_keep _ _ _ _ (fun x => (Keep.ite (Keep.on (respond_keep _ _ _ _) (Keep.refl _ _) rfl)
      (Keep.ho (accept_keep _ _ _ _ _ _ _ _ rfl (fun v x => (Keep.on (settlePowerSet_keep _) (Keep.on (boundPower_keep
      _) (Keep.on (requestPower_keep _ _ _ _) (Keep.refl _ _) rfl) rfl) rfl))) (Keep.refl _ _))))) (Keep.refl _ _))

theorem execSetPowerManagement_keep : ∀ a0 s, KeepR 134217984 s (execSetPowerManagement a0 s) := by
  intro a0 s
  unfold execSetPowerManagement
  dsimp only
  exact
    KeepR.next (Keep.ho (onFeature_keep _ _ _ _ (fun c x => (Keep.ite (Keep.on (adminFail_keep _ _ _) (Keep.refl _ _)
      rfl) (Keep.on (adminOk_keep _ _) (Keep.upd_256 rfl (Keep.refl _ _)) rfl)))) (Keep.refl _ _))

theorem runParser_keep : ∀ s, Keep 16785632 s (runParser s) := by
  intro s
  unfold runParser
  exact
    Keep.on (trimParser_keep _) (Keep.on (advance_keep _ _) (Keep.refl _ _) rfl) rfl

theorem execKeySetDone_keep : ∀ a0 s, KeepR 172104576 s (execKeySetDone a0 s) := by
  intro a0 s
  unfold execKeySetDone
  refine KeepR.next ?_
  split
  · exact Keep.refl _ _
  · refine Keep.ite ?_ (Keep.refl _ _)
    exact keyStep_keep _ _ _ _ _ _ rfl
      (fun x => Keep.on (drawKey_keep _ _) (Keep.on (newEpoch_keep _ _ _) (Keep.refl _ _) rfl) rfl)
      (fun x => Keep.on (completeHandle_keep _ _ _ _) (Keep.on (storeKeys_keep _) (Keep.refl _ _) rfl) rfl)

theorem writeMailbox_keep : ∀ a0 a1 a2 a3 s, Keep 134218496 s (writeMailbox a0 a1 a2 a3 s) := by
  intro a0 a1 a2 a3 s
  unfold writeMailbox
  exact
    Keep.ite (Keep.on (writeArea_keep _ _ _ _ _) (Keep.refl _ _) rfl) (Keep.ite (Keep.on (writeDoorbell_keep _ _ _ _)
      (Keep.refl _ _) rfl) (Keep.ite (Keep.on (clearOverrun_keep _ _ _) (Keep.refl _ _) rfl) (Keep.refl _ _)))

theorem execDatasetManagement_keep : ∀ a0 a1 s, KeepR 134218112 s (execDatasetManagement a0 a1 s) := by
  intro a0 a1 s
  unfold execDatasetManagement
  dsimp only
  exact
    KeepR.next (Keep.ho (onIo_keep _ _ _ _ _ (fun c x => (by split; exacts [(Keep.on (failWith_keep _ _ _) (Keep.refl
      _ _) rfl), (by split; exacts [(Keep.refl _ _), (Keep.ite (Keep.on (failWith_keep _ _ _) (Keep.refl _ _) rfl)
      (Keep.ite (Keep.refl _ _) (Keep.ite (Keep.on (failWith_keep _ _ _) (Keep.refl _ _) rfl) (Keep.ite (Keep.on
      (fetchAll_keep _) (Keep.on (completeOk_keep _ _ _) (Keep.refl _ _) rfl) rfl) (Keep.on (enqueueWrite_keep _ _)
      (Keep.on (updateCmd_keep _ _ _ _) (Keep.refl _ _) rfl) rfl)))))])]))) (Keep.refl _ _))

theorem execHotReset_keep : ∀ s, KeepR 434109314 s (execHotReset s) := by
  intro s
  unfold execHotReset
  exact
    KeepR.next (Keep.ite (Keep.on (boundPower_keep _) (Keep.on (pcieReset_keep _) (Keep.refl _ _) rfl) rfl) (Keep.refl
      _ _))

theorem removeNs_keep : ∀ a0 s, Keep 172622208 s (removeNs a0 s) := by
  intro a0 s
  unfold removeNs
  dsimp only
  exact
    Keep.on (storeKeys_keep _) (Keep.upd_33554688 rfl (Keep.foldl _ _ _ (fun _ _ => (Keep.on (newEpoch_keep _ _ _)
      (Keep.refl _ _) rfl)) (Keep.on (endIo_keep _ _ _) (Keep.refl _ _) rfl))) rfl

theorem finishRead_keep : ∀ a0 a1 a2 s, Keep 151527680 s (finishRead a0 a1 a2 s) := by
  intro a0 a1 a2 s
  unfold finishRead
  dsimp only
  exact
    (by split; exacts [(Keep.on (failWith_keep _ _ _) (Keep.on (logPi_keep _ _ _ _ _) (Keep.on (dropReads_keep _ _ _)
      (Keep.refl _ _) rfl) rfl) rfl), (Keep.on (fetchAll_keep _) (Keep.on (completeOk_keep _ _ _) (Keep.ite (Keep.on
      (emit_keep _ _) (Keep.upd_256 rfl (Keep.on (dropReads_keep _ _ _) (Keep.refl _ _) rfl)) rfl) (Keep.on
      (dropReads_keep _ _ _) (Keep.refl _ _) rfl)) rfl) rfl)])

theorem startKeys_keep : ∀ a0 s, Keep 37748736 s (startKeys a0 s) := by
  intro a0 s
  unfold startKeys
  dsimp only
  exact
    Keep.ite (Keep.refl _ _) (Keep.ite (Keep.on (loadKeys_keep _) (Keep.ite (Keep.upd_33554432 rfl (Keep.refl _ _))
      (Keep.refl _ _)) rfl) (Keep.ite (Keep.on (storeKeys_keep _) (Keep.foldl _ _ _ (fun _ _ => (Keep.on (drawKey_keep
      _ _) (Keep.refl _ _) rfl)) (Keep.on (drawSalt_keep _) (Keep.on (loadKeys_keep _) (Keep.ite (Keep.upd_33554432
      rfl (Keep.refl _ _)) (Keep.refl _ _)) rfl) rfl)) rfl) (Keep.ite (Keep.ite (Keep.on (loadKeys_keep _) (Keep.ite
      (Keep.upd_33554432 rfl (Keep.refl _ _)) (Keep.refl _ _)) rfl) (Keep.on (storeKeys_keep _) (Keep.on
      (drawSalt_keep _) (Keep.on (loadKeys_keep _) (Keep.ite (Keep.upd_33554432 rfl (Keep.refl _ _)) (Keep.refl _ _))
      rfl) rfl) rfl)) (Keep.on (eraseOlderStore_keep _) (Keep.on (storeKeys_keep _) (Keep.foldl _ _ _ (fun _ _ =>
      (Keep.on (drawKey_keep _ _) (Keep.on (zeroizeKey_keep _ _) (Keep.refl _ _) rfl) rfl)) (Keep.ite (Keep.on
      (loadKeys_keep _) (Keep.ite (Keep.upd_33554432 rfl (Keep.refl _ _)) (Keep.refl _ _)) rfl) (Keep.on
      (storeKeys_keep _) (Keep.on (drawSalt_keep _) (Keep.on (loadKeys_keep _) (Keep.ite (Keep.upd_33554432 rfl
      (Keep.refl _ _)) (Keep.refl _ _)) rfl) rfl) rfl))) rfl) rfl))))

theorem execIndexUnitTimeout_keep : ∀ a0 s, KeepR 192 s (execIndexUnitTimeout a0 s) := by
  intro a0 s
  unfold execIndexUnitTimeout
  exact
    KeepR.next (Keep.on (writeIndexUnits_keep _ _) (Keep.refl _ _) rfl)

theorem holdNext_keep : ∀ s, Keep 17047552 s (holdNext s) := by
  intro s
  unfold holdNext
  exact
    (by split; exacts [(Keep.refl _ _), (Keep.on (holdChannel_keep _ _) (Keep.refl _ _) rfl)])

theorem execSanitizeBlockErase_keep : ∀ a0 s, KeepR 172622208 s (execSanitizeBlockErase a0 s) := by
  intro a0 s
  unfold execSanitizeBlockErase
  exact
    KeepR.next (Keep.ho (onAdmin_keep _ _ _ _ (fun c x => (Keep.ite (Keep.refl _ _) (by split; exacts [(Keep.on
      (fetchAll_keep _) (Keep.on (completeCmd_keep _ _ _ _ _ _ _ _) (Keep.refl _ _) rfl) rfl), (Keep.ho
      (needNumbers_keep _ _ _ rfl (fun x => (Keep.on (beginSanitize_keep _ _ _) (Keep.refl _ _) rfl))) (Keep.refl _
      _))])))) (Keep.refl _ _))

theorem moveInto_keep : ∀ a0 a1 a2 a3 s, Keep 25305216 s (moveInto a0 a1 a2 a3 s) := by
  intro a0 a1 a2 a3 s
  unfold moveInto
  dsimp only
  exact
    Keep.on (freeIfEmpty_keep _ _) (by split; exacts [(Keep.ite (Keep.on (finishRows_keep _ _) (Keep.on (closeSb_keep
      _ _) (Keep.foldl _ _ _ (fun _ _ => (Keep.on (copyInto_keep _ _ _ _ _ _) (Keep.refl _ _) rfl)) (Keep.upd_131072
      rfl (Keep.on (ledgerFlush_keep _) (Keep.on (appendSlot_keep _ _) (Keep.on (updateSb_keep _ _ _) (Keep.on
      (blankCheck_keep _ _ _) (Keep.refl _ _) rfl) rfl) rfl) rfl))) rfl) rfl) (Keep.on (logBadCopy_keep _ _ _)
      (Keep.on (finishRows_keep _ _) (Keep.on (closeSb_keep _ _) (Keep.foldl _ _ _ (fun _ _ => (Keep.on (copyInto_keep
      _ _ _ _ _ _) (Keep.refl _ _) rfl)) (Keep.upd_131072 rfl (Keep.on (ledgerFlush_keep _) (Keep.on (appendSlot_keep
      _ _) (Keep.on (updateSb_keep _ _ _) (Keep.on (blankCheck_keep _ _ _) (Keep.refl _ _) rfl) rfl) rfl) rfl))) rfl)
      rfl) rfl)), (Keep.on (finishRows_keep _ _) (Keep.on (closeSb_keep _ _) (Keep.foldl _ _ _ (fun _ _ => (Keep.on
      (copyInto_keep _ _ _ _ _ _) (Keep.refl _ _) rfl)) (Keep.upd_131072 rfl (Keep.on (ledgerFlush_keep _) (Keep.on
      (appendSlot_keep _ _) (Keep.on (updateSb_keep _ _ _) (Keep.on (blankCheck_keep _ _ _) (Keep.refl _ _) rfl) rfl)
      rfl) rfl))) rfl) rfl)]) rfl

theorem execCqHeadDoorbell_keep : ∀ a0 a1 s, KeepR 421002112 s (execCqHeadDoorbell a0 a1 s) := by
  intro a0 a1 s
  unfold execCqHeadDoorbell
  dsimp only
  exact
    KeepR.next (Keep.ite (by split; exacts [(Keep.on (resumeP0_keep _) (Keep.refl _ _) rfl), (Keep.ite (Keep.on
      (refillCq_keep _ _ _) (Keep.on (updateCq_keep _ _ _) (Keep.on (resumeP0_keep _) (Keep.refl _ _) rfl) rfl) rfl)
      (Keep.on (resumeP0_keep _) (Keep.refl _ _) rfl))]) (Keep.refl _ _))

theorem execHostReadComplete_keep : ∀ a0 a1 a2 a3 s, KeepR 159916288 s (execHostReadComplete a0 a1 a2 a3 s) := by
  intro a0 a1 a2 a3 s
  unfold execHostReadComplete
  dsimp only
  exact
    KeepR.next (Keep.ite (Keep.refl _ _) (by split; exacts [(Keep.refl _ _), (Keep.ite (Keep.refl _ _)
      (by split; exacts [(Keep.on (failRead_keep _ _ _) (Keep.refl _ _) rfl), (Keep.ite (Keep.refl _ _) (Keep.ite
      (Keep.on (failRead_keep _ _ _) (Keep.ite (Keep.refl _ _) (Keep.on (busParity_keep _ _ _ _ _ _ _ _) (Keep.refl _
      _) rfl)) rfl) (by split; exacts [(Keep.on (failWith_keep _ _ _) (Keep.on (dropReads_keep _ _ _) (Keep.ite
      (Keep.refl _ _) (Keep.on (busParity_keep _ _ _ _ _ _ _ _) (Keep.refl _ _) rfl)) rfl) rfl), (Keep.on
      (finishRead_keep _ _ _ _) (Keep.ite (Keep.refl _ _) (Keep.on (busParity_keep _ _ _ _ _ _ _ _) (Keep.refl _ _)
      rfl)) rfl)])))]))]))

theorem execCreateIoSubmissionQueue_keep : ∀ a0 s, KeepR 134217984 s (execCreateIoSubmissionQueue a0 s) := by
  intro a0 s
  unfold execCreateIoSubmissionQueue
  dsimp only
  exact
    KeepR.next (Keep.ho (onAdmin_keep _ _ _ _ (fun c x => (Keep.ite (Keep.on (adminFailSpecific_keep _ _ _) (Keep.refl
      _ _) rfl) (Keep.ite (Keep.on (adminFailSpecific_keep _ _ _) (Keep.refl _ _) rfl) (Keep.ite (Keep.on
      (adminFail_keep _ _ _) (Keep.refl _ _) rfl) (Keep.ite (Keep.on (adminFailSpecific_keep _ _ _) (Keep.refl _ _)
      rfl) (Keep.on (adminOk_keep _ _) (Keep.upd_256 rfl (Keep.refl _ _)) rfl))))))) (Keep.refl _ _))

theorem acceptItem_keep : ∀ a0 a1 s, Keep 167905664 s (acceptItem a0 a1 s) := by
  intro a0 a1 s
  unfold acceptItem
  dsimp only
  exact
    (by split; exacts [(Keep.on (padWanted_keep _) (Keep.on (numberCmd_keep _ _ _) (Keep.upd_128 rfl (Keep.refl _ _))
      rfl) rfl), (Keep.ite (Keep.on (padWanted_keep _) (Keep.on (takeAtW7_keep _ _) (Keep.upd_128 rfl (Keep.refl _ _))
      rfl) rfl) (Keep.on (takeAtW7_keep _ _) (Keep.refl _ _) rfl))])

theorem execDebugUnlockDone_keep : ∀ s, KeepR 188889984 s (execDebugUnlockDone s) := by
  intro s
  unfold execDebugUnlockDone
  exact
    KeepR.next (by split; exacts [(Keep.refl _ _), (Keep.ite (Keep.ite (Keep.ho (needNumbers_keep _ _ _ rfl (fun x =>
      (Keep.on (openPort_keep _ _) (Keep.refl _ _) rfl))) (Keep.on (passCancel_keep _ _) (Keep.refl _ _) rfl))
      (Keep.on (completeHandle_keep _ _ _ _) (Keep.on (authFail_keep _ _ _ _ _) (Keep.refl _ _) rfl) rfl)) (Keep.refl
      _ _))])

theorem execPatchChannelLoad_keep : ∀ a0 a1 s, KeepR 17049600 s (execPatchChannelLoad a0 a1 s) := by
  intro a0 a1 s
  unfold execPatchChannelLoad
  dsimp only
  exact
    KeepR.next (by split; exacts [(Keep.ite (Keep.on (holdNext_keep _) (Keep.upd_262144 rfl (Keep.on (logPatched_keep
      _ _ _) (Keep.on (bumpGolden_keep _) (Keep.on (freeChannel_keep _ _) (Keep.on (updateChan_keep _ _ _) (Keep.on
      (passCancel_keep _ _) (Keep.refl _ _) rfl) rfl) rfl) rfl) rfl)) rfl) (Keep.refl _ _)), (Keep.refl _ _)])

theorem padAll_keep : ∀ s, Keep 131072 s (padAll s) := by
  intro s
  unfold padAll
  exact
    Keep.on (padWhere_keep _ _) (Keep.refl _ _) rfl

end Sys2Proof.Laws
end

