-- ==== Sys2Proof/Laws/Keep4.lean ====
section
/-! SUPPORT. What each operation and each meaning may change, and that it keeps soundness: part 4 of 4, each after the
ones it uses. -/

namespace Sys2Proof.Laws

open Sys2Proof Sys2Proof.Machine Sys2Proof.Safety

theorem retryReads_keep : ∀ s, Keep 786688 s (retryReads s) := by
  intro s
  unfold retryReads
  exact
    Keep.foldl _ _ _ (fun _ _ => (Keep.on (resolveRead_keep _ _) (Keep.refl _ _) rfl)) (Keep.refl _ _)

theorem ccShutdown_keep : ∀ a0 s, Keep 421002112 s (ccShutdown a0 s) := by
  intro a0 s
  unfold ccShutdown
  dsimp only
  exact
    Keep.ite (Keep.on (padWanted_keep _) (Keep.on (resumeP0_keep _) (Keep.upd_256 rfl (Keep.refl _ _)) rfl) rfl)
      (Keep.refl _ _)

theorem execStaticWearLevel_keep : ∀ a0 a1 a2 s, KeepR 25305216 s (execStaticWearLevel a0 a1 a2 s) := by
  intro a0 a1 a2 s
  unfold execStaticWearLevel
  dsimp only
  exact
    KeepR.next (by split; exacts [(Keep.ite (Keep.upd_131072 rfl (Keep.on (moveInto_keep _ _ _ _ _) (Keep.refl _ _)
      rfl)) (Keep.refl _ _)), (Keep.refl _ _)])

theorem takeLinkDown_keep : ∀ s, Keep 151010288 s (takeLinkDown s) := by
  intro s
  unfold takeLinkDown
  dsimp only
  exact
    Keep.ite (Keep.refl _ _) (Keep.on (completeLinkUp_keep _ _) (Keep.on (enterDown_keep _) (Keep.on (closeShort_keep
      _ _) (Keep.on (sendStatus_keep _) (Keep.on (onLink_keep _ _) (Keep.refl _ _) rfl) rfl) rfl) rfl) rfl)

theorem takeSet_keep : ∀ a0 s, Keep 16785648 s (takeSet a0 s) := by
  intro a0 s
  unfold takeSet
  dsimp only
  exact
    Keep.ite (Keep.on (runParser_keep _) (Keep.on (bufferWords_keep _ _) (Keep.on (consume_keep _ _) (Keep.refl _ _)
      rfl) rfl) rfl) (Keep.on (joinRun_keep _ _ _ _) (Keep.on (runParser_keep _) (Keep.on (resyncParser_keep _)
      (Keep.on (runParser_keep _) (Keep.on (bufferWords_keep _ _) (Keep.on (consume_keep _ _) (Keep.refl _ _) rfl)
      rfl) rfl) rfl) rfl) rfl)

theorem execPowerStateEntry_keep : ∀ s, KeepR 421002114 s (execPowerStateEntry s) := by
  intro s
  unfold execPowerStateEntry
  dsimp only
  exact
    KeepR.next (Keep.ite (Keep.on (updateBackground_keep _) (Keep.on (leaveState_keep _) (Keep.on
      (updateBackground_keep _) (Keep.refl _ _) rfl) rfl) rfl) (Keep.ite (Keep.on (updateBackground_keep _) (Keep.refl
      _ _) rfl) (Keep.ite (Keep.on (enterState_keep _ _) (Keep.on (updateBackground_keep _) (Keep.refl _ _) rfl) rfl)
      (Keep.ite (Keep.on (beginP4_keep _) (Keep.on (updateBackground_keep _) (Keep.refl _ _) rfl) rfl) (Keep.ite
      (Keep.on (gateForP4_keep _) (Keep.on (updateBackground_keep _) (Keep.refl _ _) rfl) rfl) (Keep.on
      (updateBackground_keep _) (Keep.refl _ _) rfl))))))

theorem execFirmwareCommit_keep : ∀ a0 a1 s, KeepR 155197696 s (execFirmwareCommit a0 a1 s) := by
  intro a0 a1 s
  unfold execFirmwareCommit
  dsimp only
  exact
    KeepR.next (Keep.ho (onAdmin_keep _ _ _ _ (fun c x => (Keep.ite (Keep.refl _ _) (by split; exacts [(Keep.on
      (fetchAll_keep _) (Keep.on (completeCmd_keep _ _ _ _ _ _ _ _) (Keep.refl _ _) rfl) rfl), (Keep.ite
      (by split; exacts [(Keep.on (adminFailSpecific_keep _ _ _) (Keep.on (authFail_keep _ _ _ _ _) (Keep.refl _ _)
      rfl) rfl), (Keep.on (adminOk_keep _ _) (Keep.on (selectSlot_keep _ _) (Keep.refl _ _) rfl) rfl)]) (Keep.ite
      (Keep.on (adminFailSpecific_keep _ _ _) (Keep.refl _ _) rfl) (by split; exacts [(Keep.on (adminFailSpecific_keep
      _ _ _) (Keep.fst (by assumption) (Keep.on (writeSlot_keep _ _ _) (Keep.upd_256 rfl (Keep.refl _ _)) rfl)) rfl),
      (Keep.on (adminOk_keep _ _) (Keep.ite (Keep.on (selectSlot_keep _ _) (Keep.fst (by assumption) (Keep.on
      (writeSlot_keep _ _ _) (Keep.upd_256 rfl (Keep.refl _ _)) rfl)) rfl) (Keep.fst (by assumption) (Keep.on
      (writeSlot_keep _ _ _) (Keep.upd_256 rfl (Keep.refl _ _)) rfl))) rfl)])))])))) (Keep.refl _ _))

theorem execSqTailDoorbell_keep : ∀ a0 a1 a2 s, KeepR 421002112 s (execSqTailDoorbell a0 a1 a2 s) := by
  intro a0 a1 a2 s
  unfold execSqTailDoorbell
  dsimp only
  exact
    KeepR.next (Keep.ite (by split; exacts [(Keep.on (resumeP0_keep _) (Keep.refl _ _) rfl), (Keep.ite (Keep.on
      (fetchAll_keep _) (Keep.on (updateSq_keep _ _ _) (Keep.on (resumeP0_keep _) (Keep.refl _ _) rfl) rfl) rfl)
      (Keep.on (resumeP0_keep _) (Keep.refl _ _) rfl))]) (Keep.refl _ _))

theorem execFenceSatisfied_keep : ∀ a0 s, KeepR 135135616 s (execFenceSatisfied a0 s) := by
  intro a0 s
  unfold execFenceSatisfied
  dsimp only
  exact
    KeepR.next (by split; exacts [(Keep.refl _ _), (Keep.ite (Keep.on (retryReads_keep _) (Keep.on (settleMap_keep _)
      (by split; exacts [(Keep.on (fetchAll_keep _) (Keep.on (completeCmd_keep _ _ _ _ _ _ _ _) (Keep.upd_128 rfl
      (Keep.refl _ _)) rfl) rfl), (Keep.upd_128 rfl (Keep.refl _ _))]) rfl) rfl) (Keep.refl _ _))])

theorem startUp_keep : ∀ a0 a1 s, Keep 400027010 s (startUp a0 a1 s) := by
  intro a0 a1 s
  unfold startUp
  dsimp only
  exact
    Keep.ite (Keep.upd_2 rfl (Keep.on (startPlls_keep _ _) (Keep.refl _ _) rfl)) (Keep.ho (startStep_keep _ _ (fun x
      => (Keep.on (reachCaptureReady_keep _) (Keep.on (startGrants_keep _ _) (Keep.refl _ _) rfl) rfl))) (Keep.ho
      (startStep_keep _ _ (fun x => (Keep.on (startKeys_keep _ _) (Keep.refl _ _) rfl))) (Keep.ho (startStep_keep _ _
      (fun x => (Keep.on (readLedger_keep _ _) (Keep.refl _ _) rfl))) (Keep.ho (startStep_keep _ _ (fun x => (Keep.on
      (discover_keep _ _) (Keep.on (startChannels_keep _) (Keep.refl _ _) rfl) rfl))) (Keep.ho (startStep_keep _ _
      (fun x => (Keep.on (replacePatch_keep _) (Keep.on (loadFirmware_keep _) (Keep.on (logNoStore_keep _) (Keep.refl
      _ _) rfl) rfl) rfl))) (Keep.ho (startStep_keep _ _ (fun x => (Keep.on (trainUcie_keep _ _) (Keep.on
      (loadFenced_keep _) (Keep.refl _ _) rfl) rfl))) (Keep.ho (startStep_keep _ _ (fun x => (Keep.on (trainDram_keep
      _ _) (Keep.refl _ _) rfl))) (Keep.ho (startStep_keep _ _ (fun x => (Keep.on (bootStage_keep _) (Keep.refl _ _)
      rfl))) (Keep.ho (startStep_keep _ _ (fun x => (Keep.on (seedDrbg_keep _ _ _) (Keep.refl _ _) rfl))) (Keep.ho
      (startStep_keep _ _ (fun x => (Keep.on (readOtp_keep _ _) (Keep.on (installFactory_keep _ _) (Keep.refl _ _)
      rfl) rfl))) (Keep.on (startPlls_keep _ _) (Keep.refl _ _) rfl)))))))))))

theorem takeReadySet_keep : ∀ s, Keep 25174256 s (takeReadySet s) := by
  intro s
  unfold takeReadySet
  dsimp only
  exact
    Keep.ite (Keep.refl _ _) (Keep.ite (Keep.on (onLanes_keep _ _) (Keep.refl _ _) rfl) (Keep.ite (Keep.on
      (disagreeSet_keep _ _) (Keep.on (onLanes_keep _ _) (Keep.refl _ _) rfl) rfl) (Keep.on (takeSet_keep _ _)
      (Keep.on (onLanes_keep _ _) (Keep.refl _ _) rfl) rfl)))

theorem execFrameEnd_keep : ∀ s, KeepR 16785632 s (execFrameEnd s) := by
  intro s
  unfold execFrameEnd
  dsimp only
  exact
    KeepR.next (by split; exacts [(Keep.refl _ _), (Keep.ite (Keep.refl _ _) (by split; exacts [(Keep.ite (Keep.refl _
      _) (Keep.on (storeFrameUnit_keep _ _) (Keep.refl _ _) rfl)), (Keep.on (runParser_keep _) (Keep.on (endFrame_keep
      _ _ _) (Keep.ite (Keep.refl _ _) (Keep.on (storeFrameUnit_keep _ _) (Keep.refl _ _) rfl)) rfl) rfl)]))])

theorem beginWrite_keep : ∀ a0 a1 a2 a3 a4 s, Keep 159392128 s (beginWrite a0 a1 a2 a3 a4 s) := by
  intro a0 a1 a2 a3 a4 s
  unfold beginWrite
  exact
    Keep.ho (onIo_keep _ _ _ _ _ (fun c x => (by split; exacts [(Keep.on (failWith_keep _ _ _) (Keep.refl _ _) rfl),
      (Keep.ite (Keep.refl _ _) (by split; exacts [(Keep.refl _ _), (Keep.on (takeWrite_keep _ _ _ _ _) (Keep.refl _
      _) rfl)]))]))) (Keep.refl _ _)

theorem writeService_keep : ∀ a0 a1 a2 s, Keep 228621056 s (writeService a0 a1 a2 s) := by
  intro a0 a1 a2 s
  unfold writeService
  dsimp only
  exact
    Keep.ite (Keep.ite (Keep.on (writeMailbox_keep _ _ _ _ _) (Keep.refl _ _) rfl) (Keep.refl _ _)) (Keep.ite (Keep.on
      (writeRingRegister_keep _ _ _ _) (Keep.refl _ _) rfl) (Keep.ite (Keep.on (writeSubsys_keep _ _) (Keep.refl _ _)
      rfl) (Keep.ite (Keep.on (clearPllFail_keep _ _) (Keep.refl _ _) rfl) (Keep.ite (Keep.on (writeFlipBank_keep _ _)
      (Keep.refl _ _) rfl) (Keep.ite (Keep.on (writeFlipMask_keep _ _) (Keep.refl _ _) rfl) (Keep.ite (Keep.on
      (scratchWrite_keep _ _ _) (Keep.refl _ _) rfl) (Keep.refl _ _)))))))

theorem execRowProgramDone_keep : ∀ a0 a1 a2 s, KeepR 17768832 s (execRowProgramDone a0 a1 a2 s) := by
  intro a0 a1 a2 s
  unfold execRowProgramDone
  dsimp only
  exact
    KeepR.next (by split; exacts [(Keep.refl _ _), (Keep.ite (Keep.on (retryReads_keep _) (Keep.on
      (endOverlayEpisode_keep _) (Keep.on (finishClose_keep _ _) (Keep.on (markProgrammed_keep _) (Keep.on
      (rowDone_keep _ _ _) (Keep.on (readMemberTemps_keep _ _ _) (Keep.refl _ _) rfl) rfl) rfl) rfl) rfl) rfl)
      (Keep.refl _ _))])

theorem execMapReady_keep : ∀ a0 s, KeepR 51257602 s (execMapReady a0 s) := by
  intro a0 s
  unfold execMapReady
  dsimp only
  exact
    KeepR.next (Keep.ite (Keep.on (retryReads_keep _) (Keep.on (updateGc_keep _) (Keep.on (releaseReads_keep _)
      (Keep.on (logEvent_keep _ _ _ _) (Keep.upd_50331650 rfl (fun h => Sound.re h rfl rfl rfl rfl rfl rfl rfl rfl rfl
      rfl rfl) ((Keep.on (rebuildMap_keep _ _) (Keep.refl _ _) rfl))) rfl) rfl) rfl) rfl) (Keep.refl _ _))

theorem placeUnits_keep : ∀ a0 s, Keep 131072 s (placeUnits a0 s).1 := by
  intro a0 s
  unfold placeUnits
  dsimp only
  exact
    (by split; exacts [(Keep.fst (by assumption) (Keep.on (chooseSb_keep _ _ _) (Keep.refl _ _) rfl)),
      (by split; exacts [(Keep.fst (by assumption) (Keep.on (chooseSb_keep _ _ _) (Keep.refl _ _) rfl)),
      (Keep.upd_131072 rfl (Keep.on (updateSb_keep _ _ _) (Keep.fst (by assumption) (Keep.on (chooseSb_keep _ _ _)
      (Keep.refl _ _) rfl)) rfl))])])

theorem execSetVolatileWriteCache_keep : ∀ a0 s, KeepR 134349056 s (execSetVolatileWriteCache a0 s) := by
  intro a0 s
  unfold execSetVolatileWriteCache
  dsimp only
  exact
    KeepR.next (Keep.ho (onFeature_keep _ _ _ _ (fun c x => (Keep.on (adminOk_keep _ _) (Keep.on (padWanted_keep _)
      (Keep.upd_256 rfl (Keep.refl _ _)) rfl) rfl))) (Keep.refl _ _))

theorem execSanitizeCryptoErase_keep : ∀ a0 s, KeepR 172622208 s (execSanitizeCryptoErase a0 s) := by
  intro a0 s
  unfold execSanitizeCryptoErase
  exact
    KeepR.next (Keep.ho (onAdmin_keep _ _ _ _ (fun c x => (Keep.ite (Keep.refl _ _) (by split; exacts [(Keep.on
      (fetchAll_keep _) (Keep.on (completeCmd_keep _ _ _ _ _ _ _ _) (Keep.refl _ _) rfl) rfl), (Keep.ite (Keep.on
      (fetchAll_keep _) (Keep.on (completeCmd_keep _ _ _ _ _ _ _ _) (Keep.refl _ _) rfl) rfl) (Keep.ho
      (needNumbers_keep _ _ _ rfl (fun x => (Keep.on (beginSanitize_keep _ _ _) (Keep.refl _ _) rfl))) (Keep.refl _
      _)))])))) (Keep.refl _ _))

theorem execCaptureLinkDown_keep : ∀ a0 s, KeepR 151010288 s (execCaptureLinkDown a0 s) := by
  intro a0 s
  unfold execCaptureLinkDown
  exact
    KeepR.next (Keep.ho (serve_keep _ _ _ _ (fun x => (Keep.ite (Keep.on (respond_keep _ _ _ _) (Keep.refl _ _) rfl)
      (Keep.ite (Keep.on (respond_keep _ _ _ _) (Keep.refl _ _) rfl) (Keep.on (respond_keep _ _ _ _) (Keep.on
      (takeLinkDown_keep _) (Keep.refl _ _) rfl) rfl))))) (Keep.refl _ _))

theorem start_keep : ∀ a0 s, Keep 402653174 s (start a0 s) := by
  intro a0 s
  unfold start
  exact
    (by split; exacts [(Keep.refl _ _), (Keep.on (startUp_keep _ _ _) (Keep.on (resetBase_keep _ _) (Keep.refl _ _)
      rfl) rfl)])

theorem beginPatch_keep : ∀ a0 a1 a2 a3 s, Keep 151272192 s (beginPatch a0 a1 a2 a3 s) := by
  intro a0 a1 a2 a3 s
  unfold beginPatch
  dsimp only
  exact
    Keep.ite (Keep.on (completeHandle_keep _ _ _ _) (Keep.on (authFail_keep _ _ _ _ _) (Keep.refl _ _) rfl) rfl)
      (Keep.ite (Keep.on (completeHandle_keep _ _ _ _) (Keep.refl _ _) rfl) (Keep.ite (Keep.on (completeHandle_keep _
      _ _ _) (Keep.refl _ _) rfl) (Keep.ite (Keep.on (completeHandle_keep _ _ _ _) (Keep.refl _ _) rfl) (Keep.on
      (holdNext_keep _) (Keep.upd_262144 rfl (Keep.refl _ _)) rfl))))

theorem execFlush_keep : ∀ a0 a1 s, KeepR 134349056 s (execFlush a0 a1 s) := by
  intro a0 a1 s
  unfold execFlush
  exact
    KeepR.next (Keep.ho (onIo_keep _ _ _ _ _ (fun c x => (by split; exacts [(Keep.on (failWith_keep _ _ _) (Keep.refl
      _ _) rfl), (Keep.on (padWanted_keep _) (Keep.on (updateCmd_keep _ _ _ _) (Keep.refl _ _) rfl) rfl)])))
      (Keep.refl _ _))

theorem wakeByAccess_keep : ∀ s, Keep 421002112 s (wakeByAccess s) := by
  intro s
  unfold wakeByAccess
  exact
    Keep.ite (Keep.on (resumeP0_keep _) (Keep.refl _ _) rfl) (Keep.refl _ _)

theorem execTakeClose_keep : ∀ a0 s, KeepR 402660288 s (execTakeClose a0 s) := by
  intro a0 s
  unfold execTakeClose
  dsimp only
  exact
    KeepR.next (Keep.ho (serve_keep _ _ _ _ (fun x => (by split; exacts [(Keep.on (respond_keep _ _ _ _) (Keep.refl _
      _) rfl), (Keep.ite (Keep.on (respond_keep _ _ _ _) (Keep.refl _ _) rfl) (Keep.on (settleTake_keep _ _) (Keep.ho
      (accept_keep _ _ _ _ _ _ _ _ rfl (fun v x => (Keep.on (closeTakeMembers_keep _ _) (Keep.on (updateTake_keep _ _
      _) (Keep.refl _ _) rfl) rfl))) (Keep.refl _ _)) rfl))]))) (Keep.refl _ _))

theorem execPcieD3hotExit_keep : ∀ s, KeepR 421002112 s (execPcieD3hotExit s) := by
  intro s
  unfold execPcieD3hotExit
  dsimp only
  exact
    KeepR.next (Keep.ite (Keep.on (boundPower_keep _) (Keep.upd_16384 rfl (Keep.refl _ _)) rfl) (Keep.refl _ _))

theorem releaseHotReset_keep : ∀ s, Keep 402653174 s (releaseHotReset s) := by
  intro s
  unfold releaseHotReset
  exact
    Keep.ite (Keep.on (start_keep _ _) (Keep.refl _ _) rfl) (Keep.refl _ _)

theorem execCrgOverflowClear_keep : ∀ a0 s, KeepR 421002112 s (execCrgOverflowClear a0 s) := by
  intro a0 s
  unfold execCrgOverflowClear
  exact
    KeepR.next (Keep.ite (Keep.on (clearOverflow_keep _) (Keep.on (wakeByAccess_keep _) (Keep.refl _ _) rfl) rfl)
      (Keep.refl _ _))

theorem execPowerUp_keep : ∀ a0 s, KeepR 402653182 s (execPowerUp a0 s) := by
  intro a0 s
  unfold execPowerUp
  dsimp only
  exact
    KeepR.next (Keep.ite (Keep.ite (Keep.on (start_keep _ _) (Keep.upd_10 rfl (Keep.refl _ _)) rfl) (Keep.upd_10 rfl
      (Keep.refl _ _))) (Keep.refl _ _))

theorem ccEnable_keep : ∀ a0 s, Keep 421002112 s (ccEnable a0 s) := by
  intro a0 s
  unfold ccEnable
  dsimp only
  exact
    Keep.ite (Keep.upd_256 rfl (Keep.on (resumeP0_keep _) (Keep.on (adminQueues_keep _) (Keep.upd_256 rfl (Keep.refl _
      _)) rfl) rfl)) (Keep.refl _ _)

theorem restartAfterLoss_keep : ∀ s, Keep 402653174 s (restartAfterLoss s) := by
  intro s
  unfold restartAfterLoss
  exact
    Keep.ite (Keep.on (start_keep _ _) (Keep.refl _ _) rfl) (Keep.on (start_keep _ _) (Keep.refl _ _) rfl)

theorem execThermalSample_keep : ∀ a0 s, KeepR 536870902 s (execThermalSample a0 s) := by
  intro a0 s
  unfold execThermalSample
  exact
    KeepR.next (Keep.ite (Keep.on (releaseHotReset_keep _) (Keep.on (takeSample_keep _ _) (Keep.refl _ _) rfl) rfl)
      (Keep.refl _ _))

theorem placePart_keep : ∀ a0 a1 s, Keep 131200 s (placePart a0 a1 s) := by
  intro a0 a1 s
  unfold placePart
  dsimp only
  exact
    (by split; exacts [(Keep.fst (by assumption) (Keep.on (placeUnits_keep _ _) (Keep.refl _ _) rfl)), (Keep.on
      (updateWrite_keep _ _ _) (Keep.fst (by assumption) (Keep.on (placeUnits_keep _ _) (Keep.refl _ _) rfl)) rfl)])

theorem execCcDisable_keep : ∀ a0 s, KeepR 434109314 s (execCcDisable a0 s) := by
  intro a0 s
  unfold execCcDisable
  exact
    KeepR.next (Keep.on (ccDisable_keep _ _) (Keep.refl _ _) rfl)

theorem execPerstNAssert_keep : ∀ s, KeepR 434109314 s (execPerstNAssert s) := by
  intro s
  unfold execPerstNAssert
  dsimp only
  exact
    KeepR.next (Keep.ite (Keep.on (resumeP0_keep _) (Keep.on (pcieReset_keep _) (Keep.upd_2 rfl (Keep.refl _ _)) rfl)
      rfl) (Keep.ite (Keep.upd_16386 rfl (Keep.refl _ _)) (Keep.upd_2 rfl (Keep.refl _ _))))

theorem execCrgPcieEnable_keep : ∀ s, KeepR 421002112 s (execCrgPcieEnable s) := by
  intro s
  unfold execCrgPcieEnable
  exact
    KeepR.next (Keep.ite (Keep.on (notify_keep _) (Keep.on (refillRing_keep _) (Keep.on (setPcieEn_keep _ _) (Keep.on
      (wakeByAccess_keep _) (Keep.refl _ _) rfl) rfl) rfl) rfl) (Keep.refl _ _))

theorem execNamespaceCreate_keep : ∀ a0 a1 s, KeepR 172097920 s (execNamespaceCreate a0 a1 s) := by
  intro a0 a1 s
  unfold execNamespaceCreate
  dsimp only
  exact
    KeepR.next (Keep.ho (onAdmin_keep _ _ _ _ (fun c x => (Keep.ite (Keep.refl _ _) (Keep.ite (Keep.on (adminFail_keep
      _ _ _) (Keep.refl _ _) rfl) (Keep.ite (Keep.on (adminFailSpecific_keep _ _ _) (Keep.refl _ _) rfl)
      (by split; exacts [(Keep.on (adminFailSpecific_keep _ _ _) (Keep.refl _ _) rfl), (Keep.on
      (adminFailSpecific_keep _ _ _) (Keep.refl _ _) rfl), (Keep.ite (Keep.on (fetchAll_keep _) (Keep.on
      (completeCmd_keep _ _ _ _ _ _ _ _) (Keep.refl _ _) rfl) rfl) (Keep.ho (needNumbers_keep _ _ _ rfl (fun x =>
      (Keep.on (adminDw_keep _ _ _) (Keep.on (giveKey_keep _ _) (Keep.on (newEpoch_keep _ _ _) (Keep.upd_256 rfl
      (Keep.refl _ _)) rfl) rfl) rfl))) (Keep.refl _ _)))])))))) (Keep.refl _ _))

theorem execWriteAccept_keep : ∀ a0 s, KeepR 439224704 s (execWriteAccept a0 s) := by
  intro a0 s
  unfold execWriteAccept
  dsimp only
  exact
    KeepR.next (by split; exacts [(Keep.refl _ _), (Keep.ite (Keep.ite (Keep.on (reserveBlock_keep _) (Keep.refl _ _)
      rfl) (Keep.on (retryReads_keep _) (Keep.on (acceptItem_keep _ _ _) (Keep.on (directoryWritten_keep _)
      (Keep.upd_128 rfl (Keep.refl _ _)) rfl) rfl) rfl)) (Keep.refl _ _))])

theorem execCodewordDecodeDone_keep : ∀ a0 a1 a2 s, KeepR 294527232 s (execCodewordDecodeDone a0 a1 a2 s) := by
  intro a0 a1 a2 s
  unfold execCodewordDecodeDone
  exact
    KeepR.next (by split; exacts [(Keep.ite (Keep.on (retryReads_keep _) (Keep.on (decodeEnds_keep _ _ _ _) (Keep.refl
      _ _) rfl) rfl) (Keep.refl _ _)), (Keep.refl _ _)])

theorem execCrgI3cEnable_keep : ∀ s, KeepR 421002112 s (execCrgI3cEnable s) := by
  intro s
  unfold execCrgI3cEnable
  exact
    KeepR.next (Keep.ite (Keep.on (notify_keep _) (Keep.on (refillRing_keep _) (Keep.on (setI3cEn_keep _ _) (Keep.on
      (wakeByAccess_keep _) (Keep.refl _ _) rfl) rfl) rfl) rfl) (Keep.refl _ _))

theorem programWrites_keep : ∀ a0 s, Keep 131200 s (programWrites a0 s) := by
  intro a0 s
  unfold programWrites
  dsimp only
  exact
    Keep.foldl _ _ _ (fun _ _ => (Keep.on (finishClose_keep _ _) (Keep.refl _ _) rfl)) (Keep.on (markProgrammed_keep
      _) (Keep.foldl _ _ _ (fun _ _ => (Keep.foldl _ _ _ (fun _ _ => (Keep.on (rowDone_keep _ _ _) (Keep.refl _ _)
      rfl)) (Keep.refl _ _))) (Keep.on (padAll_keep _) (Keep.foldl _ _ _ (fun _ _ => (by split; exacts [(Keep.refl _
      _), (Keep.ite (Keep.foldl _ _ _ (fun _ _ => (Keep.ite (Keep.refl _ _) (Keep.on (placePart_keep _ _ _) (Keep.refl
      _ _) rfl))) (Keep.refl _ _)) (Keep.refl _ _))])) (Keep.refl _ _)) rfl)) rfl)

theorem closeHolders_keep : ∀ a0 s, Keep 131200 s (closeHolders a0 s) := by
  intro a0 s
  unfold closeHolders
  exact
    Keep.foldl _ _ _ (fun _ _ => (Keep.on (finishRows_keep _ _) (Keep.ite (Keep.refl _ _) (Keep.on (closeSb_keep _ _)
      (Keep.refl _ _) rfl)) rfl)) (Keep.refl _ _)

theorem execNamespaceDelete_keep : ∀ a0 s, KeepR 172622208 s (execNamespaceDelete a0 s) := by
  intro a0 s
  unfold execNamespaceDelete
  dsimp only
  exact
    KeepR.next (Keep.ho (onAdmin_keep _ _ _ _ (fun c x => (Keep.ite (Keep.refl _ _) (Keep.ite (Keep.on (adminFail_keep
      _ _ _) (Keep.refl _ _) rfl) (Keep.ite (Keep.on (adminFail_keep _ _ _) (Keep.refl _ _) rfl) (Keep.ho
      (needNumbers_keep _ _ _ rfl (fun x => (Keep.on (adminOk_keep _ _) (Keep.on (removeNs_keep _ _) (Keep.refl _ _)
      rfl) rfl))) (Keep.refl _ _))))))) (Keep.refl _ _))

theorem execStripeRebuildEnd_keep : ∀ a0 a1 a2 s, KeepR 26091776 s (execStripeRebuildEnd a0 a1 a2 s) := by
  intro a0 a1 a2 s
  unfold execStripeRebuildEnd
  exact
    KeepR.next (by split; exacts [(Keep.ite (Keep.on (retryReads_keep _) (Keep.on (rebuildEnds_keep _ _ _ _)
      (Keep.refl _ _) rfl) rfl) (Keep.refl _ _)), (Keep.refl _ _)])

theorem setLimit_keep : ∀ a0 a1 a2 a3 s, Keep 151167360 s (setLimit a0 a1 a2 a3 s) := by
  intro a0 a1 a2 a3 s
  unfold setLimit
  dsimp only
  exact
    Keep.on (padWanted_keep _) (Keep.on (logLimitCrossing_keep _ _) (Keep.ite (Keep.on (criticalBit_keep _ _ _)
      (Keep.on (logEvent_keep _ _ _ _) (Keep.on (placeLimit_keep _ _ _ _) (Keep.refl _ _) rfl) rfl) rfl) (Keep.ite
      (Keep.on (clearCritical_keep _ _) (Keep.on (placeLimit_keep _ _ _ _) (Keep.refl _ _) rfl) rfl) (Keep.on
      (placeLimit_keep _ _ _ _) (Keep.refl _ _) rfl))) rfl) rfl

theorem execVerify_keep : ∀ a0 a1 s, KeepR 135004416 s (execVerify a0 a1 s) := by
  intro a0 a1 s
  unfold execVerify
  exact
    KeepR.next (Keep.on (beginRead_keep _ _ _ _) (Keep.refl _ _) rfl)

theorem execOrderedWrite_keep : ∀ a0 a1 a2 s, KeepR 159392128 s (execOrderedWrite a0 a1 a2 s) := by
  intro a0 a1 a2 s
  unfold execOrderedWrite
  exact
    KeepR.next (Keep.on (beginWrite_keep _ _ _ _ _ _) (Keep.refl _ _) rfl)

theorem execCcShutdown_keep : ∀ a0 s, KeepR 421002112 s (execCcShutdown a0 s) := by
  intro a0 s
  unfold execCcShutdown
  exact
    KeepR.next (Keep.on (ccShutdown_keep _ _) (Keep.refl _ _) rfl)

theorem execWrite_keep : ∀ a0 a1 a2 s, KeepR 159392128 s (execWrite a0 a1 a2 s) := by
  intro a0 a1 a2 s
  unfold execWrite
  exact
    KeepR.next (Keep.on (beginWrite_keep _ _ _ _ _ _) (Keep.refl _ _) rfl)

theorem execCsPatchLoad_keep : ∀ a0 a1 s, KeepR 419707648 s (execCsPatchLoad a0 a1 s) := by
  intro a0 a1 s
  unfold execCsPatchLoad
  dsimp only
  exact
    KeepR.next (Keep.ho (serve_keep _ _ _ _ (fun x => (Keep.ho (accept_keep _ _ _ _ _ _ _ _ rfl (fun v x => (Keep.on
      (beginPatch_keep _ _ _ _ _) (Keep.refl _ _) rfl))) (Keep.refl _ _)))) (Keep.refl _ _))

theorem execLedgerPageDone_keep : ∀ a0 s, KeepR 21897602 s (execLedgerPageDone a0 s) := by
  intro a0 s
  unfold execLedgerPageDone
  dsimp only
  exact
    KeepR.next (Keep.ite (Keep.refl _ _) (Keep.ite (Keep.on (retryReads_keep _) (Keep.on (endOverlayEpisode_keep _)
      (Keep.foldl _ _ _ (fun _ _ => (Keep.on (rebuildCopy_keep _ _) (Keep.refl _ _) rfl)) (Keep.ite (Keep.on
      (ledgerFlush_keep _) (Keep.refl _ _) rfl) (Keep.on (onlyCopy_keep _ _) (Keep.refl _ _) rfl))) rfl) rfl) (Keep.on
      (reachCaptureReady_keep _) (Keep.on (retryReads_keep _) (Keep.on (endOverlayEpisode_keep _) (Keep.foldl _ _ _
      (fun _ _ => (Keep.on (rebuildCopy_keep _ _) (Keep.refl _ _) rfl)) (Keep.ite (Keep.on (ledgerFlush_keep _)
      (Keep.refl _ _) rfl) (Keep.on (onlyCopy_keep _ _) (Keep.refl _ _) rfl))) rfl) rfl) rfl)))

theorem execMbxRing_keep : ∀ a0 a1 a2 s, KeepR 421002112 s (execMbxRing a0 a1 a2 s) := by
  intro a0 a1 a2 s
  unfold execMbxRing
  exact
    KeepR.next (Keep.ite (Keep.on (ringBox_keep _ _ _ _) (Keep.on (wakeByAccess_keep _) (Keep.refl _ _) rfl) rfl)
      (Keep.refl _ _))

theorem execWritePlace_keep : ∀ a0 a1 s, KeepR 295837824 s (execWritePlace a0 a1 s) := by
  intro a0 a1 s
  unfold execWritePlace
  dsimp only
  exact
    KeepR.next (by split; exacts [(Keep.refl _ _), (Keep.ite (Keep.refl _ _) (by split; exacts [(Keep.on
      (padWanted_keep _) (Keep.on (parityWritten_keep _) (Keep.on (placePart_keep _ _ _) (Keep.on (placeParity_keep _
      _ _ _) (by split; exacts [(Keep.on (beginOverlayEpisode_keep _ _) (Keep.refl _ _) rfl), (Keep.refl _ _)]) rfl)
      rfl) rfl) rfl), (by split; exacts [(Keep.on (beginOverlayEpisode_keep _ _) (Keep.refl _ _) rfl), (Keep.refl _
      _)])]))])

theorem execKeyZeroizeDone_keep : ∀ a0 s, KeepR 172104576 s (execKeyZeroizeDone a0 s) := by
  intro a0 s
  unfold execKeyZeroizeDone
  refine KeepR.next ?_
  split
  · exact Keep.refl _ _
  · refine Keep.ite ?_ (Keep.refl _ _)
    exact keyStep_keep _ _ _ _ _ _ rfl
      (fun x => Keep.on (replaceKeys_keep _ _ _) (Keep.refl _ _) rfl)
      (fun x => Keep.on (completeHandle_keep _ _ _ _) (Keep.on (eraseOlderStore_keep _) (Keep.on (storeKeys_keep _)
        (Keep.refl _ _) rfl) rfl) rfl)

theorem execCrgHeadI3cWrite_keep : ∀ a0 s, KeepR 421002112 s (execCrgHeadI3cWrite a0 s) := by
  intro a0 s
  unfold execCrgHeadI3cWrite
  exact
    KeepR.next (Keep.ite (Keep.on (writeHeadI3c_keep _ _) (Keep.on (wakeByAccess_keep _) (Keep.refl _ _) rfl) rfl)
      (Keep.refl _ _))

theorem execNamespaceDetach_keep : ∀ a0 a1 s, KeepR 134873472 s (execNamespaceDetach a0 a1 s) := by
  intro a0 a1 s
  unfold execNamespaceDetach
  exact
    KeepR.next (Keep.ho (onAdmin_keep _ _ _ _ (fun c x => (Keep.ite (Keep.refl _ _) (by split; exacts [(Keep.on
      (adminFail_keep _ _ _) (Keep.refl _ _) rfl), (Keep.ite (Keep.on (adminFailSpecific_keep _ _ _) (Keep.refl _ _)
      rfl) (Keep.ite (Keep.on (adminFailSpecific_keep _ _ _) (Keep.refl _ _) rfl) (Keep.ite (Keep.on (adminFail_keep _
      _ _) (Keep.refl _ _) rfl) (Keep.on (adminOk_keep _ _) (Keep.on (attachNs_keep _ _ _) (Keep.on (endIo_keep _ _ _)
      (Keep.refl _ _) rfl) rfl) rfl))))])))) (Keep.refl _ _))

theorem execFunctionLevelReset_keep : ∀ s, KeepR 434109314 s (execFunctionLevelReset s) := by
  intro s
  unfold execFunctionLevelReset
  exact
    KeepR.next (Keep.ite (Keep.on (boundPower_keep _) (Keep.on (pcieReset_keep _) (Keep.refl _ _) rfl) rfl) (Keep.refl
      _ _))

theorem execMbxClaim_keep : ∀ a0 a1 s, KeepR 421002112 s (execMbxClaim a0 a1 s) := by
  intro a0 a1 s
  unfold execMbxClaim
  exact
    KeepR.next (Keep.ite (Keep.on (claimBox_keep _ _ _) (Keep.on (wakeByAccess_keep _) (Keep.refl _ _) rfl) rfl)
      (Keep.refl _ _))

theorem beginFormat_keep : ∀ a0 a1 a2 a3 s, Keep 172622208 s (beginFormat a0 a1 a2 a3 s) := by
  intro a0 a1 a2 a3 s
  unfold beginFormat
  dsimp only
  exact
    Keep.upd_256 rfl (Keep.ite (Keep.on (storeKeys_keep _) (Keep.on (replaceKeys_keep _ _ _) (Keep.foldl _ _ _ (fun _
      _ => (Keep.on (newEpoch_keep _ _ _) (Keep.on (updateNs_keep _ _ _) (Keep.refl _ _) rfl) rfl)) (Keep.on
      (endAffected_keep _ _ _ _) (Keep.refl _ _) rfl)) rfl) rfl) (Keep.foldl _ _ _ (fun _ _ => (Keep.on (newEpoch_keep
      _ _ _) (Keep.on (updateNs_keep _ _ _) (Keep.refl _ _) rfl) rfl)) (Keep.on (endAffected_keep _ _ _ _) (Keep.refl
      _ _) rfl)))

theorem writeCc_keep : ∀ a0 s, Keep 434109314 s (writeCc a0 s) := by
  intro a0 s
  unfold writeCc
  dsimp only
  exact
    Keep.ite (Keep.on (ccDisable_keep _ _) (Keep.on (ccEnable_keep _ _) (Keep.refl _ _) rfl) rfl) (Keep.ite (Keep.on
      (ccShutdown_keep _ _) (Keep.refl _ _) rfl) (Keep.upd_256 rfl (Keep.refl _ _)))

theorem wakeFromP4_keep : ∀ a0 s, Keep 402653174 s (wakeFromP4 a0 s) := by
  intro a0 s
  unfold wakeFromP4
  dsimp only
  exact
    Keep.on (flushDeferred_keep _) (Keep.upd_82944 rfl (Keep.on (start_keep _ _) (Keep.refl _ _) rfl)) rfl

theorem execTimerWake_keep : ∀ a0 s, KeepR 536870902 s (execTimerWake a0 s) := by
  intro a0 s
  unfold execTimerWake
  dsimp only
  exact
    KeepR.next (Keep.ite (Keep.refl _ _) (by split; exacts [(Keep.ite (Keep.on (resumeP0_keep _) (Keep.upd_16384 rfl
      (Keep.refl _ _)) rfl) (Keep.refl _ _)), (Keep.ite (Keep.on (wakeFromP4_keep _ _) (Keep.refl _ _) rfl) (Keep.refl
      _ _)), (Keep.refl _ _)]))

theorem writeController_keep : ∀ a0 a1 a2 s, Keep 434109314 s (writeController a0 a1 a2 s) := by
  intro a0 a1 a2 s
  unfold writeController
  dsimp only
  exact
    Keep.ite (Keep.upd_256 rfl (Keep.refl _ _)) (Keep.ite (Keep.upd_256 rfl (Keep.refl _ _)) (Keep.ite (Keep.refl _ _)
      (by split; exacts [(Keep.on (writeCc_keep _ _) (Keep.refl _ _) rfl), (Keep.upd_256 rfl (Keep.refl _ _)),
      (Keep.upd_256 rfl (Keep.refl _ _)), (Keep.upd_256 rfl (Keep.refl _ _)), (Keep.upd_256 rfl (Keep.refl _ _)),
      (Keep.upd_256 rfl (Keep.refl _ _)), (Keep.refl _ _)])))

theorem execSetdasa_keep : ∀ a0 a1 s, KeepR 536870902 s (execSetdasa a0 a1 s) := by
  intro a0 a1 s
  unfold execSetdasa
  dsimp only
  exact
    KeepR.next (Keep.ite (Keep.refl _ _) (Keep.ite (Keep.ite (Keep.on (wakeFromP4_keep _ _) (Keep.on (emit_keep _ _)
      (Keep.refl _ _) rfl) rfl) (Keep.on (emit_keep _ _) (Keep.refl _ _) rfl)) (Keep.ite (Keep.on (emit_keep _ _)
      (Keep.refl _ _) rfl) (Keep.ite (Keep.upd_1024 rfl (Keep.on (wakeByAccess_keep _) (Keep.refl _ _) rfl)) (Keep.on
      (wakeByAccess_keep _) (Keep.refl _ _) rfl)))))

theorem execPerstNDeassert_keep : ∀ s, KeepR 536870902 s (execPerstNDeassert s) := by
  intro s
  unfold execPerstNDeassert
  dsimp only
  exact
    KeepR.next (by split; exacts [(Keep.on (resumeP0_keep _) (Keep.upd_2 rfl (Keep.refl _ _)) rfl), (Keep.ite (Keep.on
      (wakeFromP4_keep _ _) (Keep.upd_2 rfl (Keep.refl _ _)) rfl) (Keep.upd_2 rfl (Keep.refl _ _))), (Keep.upd_2 rfl
      (Keep.refl _ _))])

theorem execWakeEvent_keep : ∀ a0 s, KeepR 536870902 s (execWakeEvent a0 s) := by
  intro a0 s
  unfold execWakeEvent
  dsimp only
  exact
    KeepR.next (by split; exacts [(Keep.on (resumeP0_keep _) (Keep.refl _ _) rfl), (by split; exacts [(Keep.ite
      (Keep.on (wakeFromP4_keep _ _) (Keep.refl _ _) rfl) (Keep.refl _ _)), (Keep.ite (Keep.on (wakeFromP4_keep _ _)
      (Keep.upd_2 rfl (Keep.refl _ _)) rfl) (Keep.refl _ _)), (Keep.refl _ _)]), (Keep.refl _ _)])

theorem execPldNDeassert_keep : ∀ s, KeepR 402653174 s (execPldNDeassert s) := by
  intro s
  unfold execPldNDeassert
  dsimp only
  exact
    KeepR.next (by split; exacts [(Keep.ite (Keep.on (start_keep _ _) (Keep.upd_2 rfl (Keep.refl _ _)) rfl)
      (Keep.upd_2 rfl (Keep.refl _ _))), (Keep.on (restartAfterLoss_keep _) (Keep.upd_2 rfl (Keep.refl _ _)) rfl),
      (Keep.ite (Keep.on (start_keep _ _) (Keep.upd_2 rfl (Keep.refl _ _)) rfl) (Keep.upd_2 rfl (Keep.refl _ _))),
      (Keep.upd_2 rfl (Keep.refl _ _))])

theorem resetNow_keep : ∀ s, Keep 402653174 s (resetNow s) := by
  intro s
  unfold resetNow
  dsimp only
  exact
    Keep.ite (Keep.upd_2 rfl (Keep.refl _ _)) (Keep.on (start_keep _ _) (Keep.refl _ _) rfl)

theorem execMbxOverrunClear_keep : ∀ a0 a1 s, KeepR 421002112 s (execMbxOverrunClear a0 a1 s) := by
  intro a0 a1 s
  unfold execMbxOverrunClear
  exact
    KeepR.next (Keep.ite (Keep.on (clearOverrun_keep _ _ _) (Keep.on (wakeByAccess_keep _) (Keep.refl _ _) rfl) rfl)
      (Keep.refl _ _))

theorem placeCopy_keep : ∀ a0 a1 a2 a3 s, Keep 131072 s (placeCopy a0 a1 a2 a3 s) := by
  intro a0 a1 a2 a3 s
  unfold placeCopy
  dsimp only
  exact
    (by split; exacts [(Keep.fst (by assumption) (Keep.on (placeUnits_keep _ _) (Keep.refl _ _) rfl)), (Keep.ite
      (Keep.on (remapCopy_keep _ _ _ _ _) (Keep.upd_131072 rfl (Keep.fst (by assumption) (Keep.on (placeUnits_keep _
      _) (Keep.refl _ _) rfl))) rfl) (Keep.on (addMove_keep _ _) (Keep.upd_131072 rfl (Keep.fst (by assumption)
      (Keep.on (placeUnits_keep _ _) (Keep.refl _ _) rfl))) rfl))])

theorem execCcEnable_keep : ∀ a0 s, KeepR 421002112 s (execCcEnable a0 s) := by
  intro a0 s
  unfold execCcEnable
  exact
    KeepR.next (Keep.on (ccEnable_keep _ _) (Keep.refl _ _) rfl)

theorem writeDrs_keep : ∀ a0 a1 a2 s, Keep 498596736 s (writeDrs a0 a1 a2 s) := by
  intro a0 a1 a2 s
  unfold writeDrs
  exact
    (by split; exacts [(Keep.on (writeService_keep _ _ _ _) (Keep.on (resumeP0_keep _) (Keep.refl _ _) rfl) rfl),
      (Keep.ite (Keep.on (writeMailbox_keep _ _ _ _ _) (Keep.refl _ _) rfl) (Keep.refl _ _)), (Keep.on
      (writeHalting_keep _ _ _ _) (Keep.refl _ _) rfl), (Keep.on (writeHalting_keep _ _ _ _) (Keep.refl _ _) rfl),
      (Keep.on (writeHalting_keep _ _ _ _) (Keep.refl _ _) rfl), (Keep.refl _ _)])

theorem foldNow_keep : ∀ a0 a1 s, ∀ t, foldNow a0 a1 s = some t → Keep 131200 s t := by
  intro n g s t h
  have k (mk : State → Nat → List FlashUnit) {p : State × Option (Nat × Nat)}
      (e : placeUnits mk { s with ord := { s.ord with next := s.ord.next + 1 } } = p) : Keep 131200 s p.1 := by
    rw [← e]
    exact Keep.on (placeUnits_keep _ _) (Keep.upd_128 rfl (Keep.refl _ _)) rfl
  unfold foldNow at h
  dsimp only at h
  split at h
  · cases h
  · rename_i e
    cases h
    exact Keep.on (mapSegment_keep _ _ _ _ _ _) (k _ e) rfl

theorem execFormatNvm_keep : ∀ a0 s, KeepR 172622208 s (execFormatNvm a0 s) := by
  intro a0 s
  unfold execFormatNvm
  dsimp only
  exact
    KeepR.next (Keep.ho (onAdmin_keep _ _ _ _ (fun c x => (Keep.ite (Keep.on (adminFail_keep _ _ _) (Keep.refl _ _)
      rfl) (Keep.ite (Keep.on (adminFail_keep _ _ _) (Keep.refl _ _) rfl) (Keep.ite (Keep.on (fetchAll_keep _)
      (Keep.on (completeCmd_keep _ _ _ _ _ _ _ _) (Keep.refl _ _) rfl) rfl) (Keep.ite (Keep.on (fetchAll_keep _)
      (Keep.on (completeCmd_keep _ _ _ _ _ _ _ _) (Keep.refl _ _) rfl) rfl) (Keep.ite (Keep.on (adminFail_keep _ _ _)
      (Keep.refl _ _) rfl) (Keep.ite (Keep.on (adminFailSpecific_keep _ _ _) (Keep.refl _ _) rfl) (Keep.ite (Keep.on
      (fetchAll_keep _) (Keep.on (completeCmd_keep _ _ _ _ _ _ _ _) (Keep.refl _ _) rfl) rfl) (Keep.ite (Keep.on
      (adminOk_keep _ _) (Keep.refl _ _) rfl) (Keep.ho (needNumbers_keep _ _ _ rfl (fun x => (Keep.on (updateCmd_keep
      _ _ _ _) (Keep.on (beginFormat_keep _ _ _ _ _) (Keep.refl _ _) rfl) rfl))) (Keep.refl _ _)))))))))))) (Keep.refl
      _ _))

theorem execMbxRelease_keep : ∀ a0 a1 s, KeepR 421002112 s (execMbxRelease a0 a1 s) := by
  intro a0 a1 s
  unfold execMbxRelease
  exact
    KeepR.next (Keep.ite (Keep.on (releaseBox_keep _ _ _) (Keep.on (wakeByAccess_keep _) (Keep.refl _ _) rfl) rfl)
      (Keep.refl _ _))

theorem endHoldup_keep : ∀ a0 a1 s, Keep 155368320 s (endHoldup a0 a1 s) := by
  intro a0 a1 s
  unfold endHoldup
  dsimp only
  exact
    Keep.on (completeSome_keep _ _ _ _) (Keep.on (setLimit_keep _ _ _ _ _) (Keep.on (storeConfig_keep _ _)
      (Keep.upd_32768 rfl (Keep.refl _ _)) rfl) rfl) rfl

theorem execIdSubsysWrite_keep : ∀ a0 s, KeepR 488110976 s (execIdSubsysWrite a0 s) := by
  intro a0 s
  unfold execIdSubsysWrite
  exact
    KeepR.next (Keep.ite (Keep.on (writeSubsys_keep _ _) (Keep.on (wakeByAccess_keep _) (Keep.refl _ _) rfl) rfl)
      (Keep.refl _ _))

theorem execCrgHeadPcieWrite_keep : ∀ a0 s, KeepR 421002112 s (execCrgHeadPcieWrite a0 s) := by
  intro a0 s
  unfold execCrgHeadPcieWrite
  exact
    KeepR.next (Keep.ite (Keep.on (writeHeadPcie_keep _ _) (Keep.on (wakeByAccess_keep _) (Keep.refl _ _) rfl) rfl)
      (Keep.refl _ _))

theorem execHoldupTestDone_keep : ∀ a0 s, KeepR 155368320 s (execHoldupTestDone a0 s) := by
  intro a0 s
  unfold execHoldupTestDone
  exact
    KeepR.next (by split; exacts [(Keep.ite (Keep.on (endHoldup_keep _ _ _) (Keep.refl _ _) rfl) (Keep.refl _ _)),
      (Keep.refl _ _)])

theorem execSrpFlipArm_keep : ∀ a0 s, KeepR 423099264 s (execSrpFlipArm a0 s) := by
  intro a0 s
  unfold execSrpFlipArm
  exact
    KeepR.next (Keep.ite (Keep.on (writeFlipMask_keep _ _) (Keep.on (wakeByAccess_keep _) (Keep.refl _ _) rfl) rfl)
      (Keep.refl _ _))

theorem execPwrPllFailClear_keep : ∀ a0 s, KeepR 421002112 s (execPwrPllFailClear a0 s) := by
  intro a0 s
  unfold execPwrPllFailClear
  exact
    KeepR.next (Keep.ite (Keep.on (clearPllFail_keep _ _) (Keep.on (wakeByAccess_keep _) (Keep.refl _ _) rfl) rfl)
      (Keep.refl _ _))

theorem execHoldupRecompute_keep : ∀ a0 s, KeepR 151167360 s (execHoldupRecompute a0 s) := by
  intro a0 s
  unfold execHoldupRecompute
  dsimp only
  exact
    KeepR.next (Keep.ite (Keep.refl _ _) (Keep.ite (Keep.upd_32768 rfl (Keep.refl _ _)) (Keep.on (setLimit_keep _ _ _
      _ _) (Keep.upd_32768 rfl (Keep.refl _ _)) rfl)))

theorem i3cAddressed_keep {m : Nat} (f : State → State) (s : State) (hm : 536870902 &&& m = 536870902)
    (hf : ∀ x, Keep m x (f x)) : Keep m s (i3cAddressed f s) := by
  have base (x : State) : Keep 536870902 s x → Keep m s x := fun h => Keep.on h (Keep.refl m s) hm
  have nack : Keep 536870902 s (emit .i3cNack s) := Keep.on (emit_keep _ _) (Keep.refl _ _) rfl
  unfold i3cAddressed
  refine Keep.ite (base _ nack) (Keep.ite ?_ (Keep.ite ?_ (base _ nack)))
  · exact base _ (Keep.ite (Keep.on (wakeFromP4_keep _ _) nack rfl) nack)
  · exact Keep.ho (hf _) (base _ (Keep.on (wakeByAccess_keep _) (Keep.refl _ _) rfl))

theorem readWords_keep : ∀ a0 a1 a2 s, Keep 27271168 s (readWords a0 a1 a2 s).1 := by
  intro p k
  induction k with
  | zero => intro o s; exact Keep.refl _ _
  | succ k ih =>
    intro o s
    exact Keep.on (ih _ _) (Keep.on (readWord_keep p o s) (Keep.refl _ _) rfl) rfl

theorem beginActivate_keep : ∀ a0 a1 a2 s, Keep 536870902 s (beginActivate a0 a1 a2 s) := by
  intro a0 a1 a2 s
  unfold beginActivate
  exact
    Keep.ite (Keep.on (activateRecord_keep _ _ _) (Keep.refl _ _) rfl) (Keep.ite (Keep.on (start_keep _ _) (Keep.on
      (storeConfig_keep _ _) (Keep.refl _ _) rfl) rfl) (Keep.on (activate_keep _ _ _ _) (Keep.refl _ _) rfl))

theorem execSetmwl_keep : ∀ a0 s, KeepR 536870902 s (execSetmwl a0 s) := by
  intro a0 s
  unfold execSetmwl
  dsimp only
  exact
    KeepR.next (Keep.ho (i3cAddressed_keep _ _ rfl (fun x => (Keep.upd_1024 rfl (Keep.refl _ _)))) (Keep.refl _ _))

theorem readAddressed_keep : ∀ a0 a1 a2 s, Keep 27271168 s (readAddressed a0 a1 a2 s).1 := by
  intro a0 a1 a2 s
  unfold readAddressed
  dsimp only
  exact
    Keep.on (readWords_keep _ _ _ _) (Keep.refl _ _) rfl

theorem execGetpid_keep : ∀ s, KeepR 536870902 s (execGetpid s) := by
  intro s
  unfold execGetpid
  exact
    KeepR.next (Keep.ho (i3cAddressed_keep _ _ rfl (fun x => (Keep.on (emit_keep _ _) (Keep.refl _ _) rfl)))
      (Keep.refl _ _))

theorem foldDiscard_keep : ∀ a0 s, ∀ t, foldDiscard a0 s = some t → Keep 131200 s t := by
  intro d s t h
  unfold foldDiscard at h
  rw [Option.map_eq_some_iff] at h
  obtain ⟨u, e, rfl⟩ := h
  refine Keep.on (programCopies_keep _) (keep_bindFold _ _ _ ?_ (Keep.refl _ _) e) rfl
  intro a y z e
  split at e
  · cases e
    exact Keep.refl _ _
  · exact Keep.on (foldNow_keep _ _ _ _ e) (Keep.refl _ _) rfl

theorem execCodewordReceive_keep : ∀ a0 a1 s, KeepR 293609712 s (execCodewordReceive a0 a1 s) := by
  intro a0 a1 s
  unfold execCodewordReceive
  dsimp only
  exact
    KeepR.next (Keep.ite (by split; exacts [(Keep.on (loseLock_keep _ _ _) (Keep.on (codewordParity_keep _ _)
      (Keep.ite (Keep.on (logFec_keep _ _ _ _) (Keep.on (updateLane_keep _ _ _) (Keep.refl _ _) rfl) rfl) (Keep.on
      (updateLane_keep _ _ _) (Keep.refl _ _) rfl)) rfl) rfl), (Keep.on (takeReadySet_keep _) (Keep.on
      (codewordParity_keep _ _) (Keep.ite (Keep.on (logFec_keep _ _ _ _) (Keep.on (updateLane_keep _ _ _) (Keep.refl _
      _) rfl) rfl) (Keep.on (updateLane_keep _ _ _) (Keep.refl _ _) rfl)) rfl) rfl)]) (Keep.refl _ _))

theorem readDrs_keep : ∀ a0 a1 a2 s, Keep 502276864 s (readDrs a0 a1 a2 s) := by
  intro a0 a1 a2 s
  unfold readDrs
  dsimp only
  exact
    Keep.ite (Keep.refl _ _) (Keep.ite (Keep.on (emit_keep _ _) (Keep.refl _ _) rfl) (Keep.ite (Keep.on
      (readEffects_keep _ _ _) (Keep.on (drawn_keep _) (Keep.on (emit_keep _ _) (Keep.on (readAddressed_keep _ _ _ _)
      (Keep.refl _ _) rfl) rfl) rfl) rfl) (Keep.on (drawn_keep _) (Keep.on (emit_keep _ _) (Keep.on
      (readAddressed_keep _ _ _ _) (Keep.refl _ _) rfl) rfl) rfl)))

theorem execSetmrl_keep : ∀ a0 s, KeepR 536870902 s (execSetmrl a0 s) := by
  intro a0 s
  unfold execSetmrl
  dsimp only
  exact
    KeepR.next (Keep.ho (i3cAddressed_keep _ _ rfl (fun x => (Keep.upd_1024 rfl (Keep.refl _ _)))) (Keep.refl _ _))

theorem execFwActivate_keep : ∀ a0 s, KeepR 536870902 s (execFwActivate a0 s) := by
  intro a0 s
  unfold execFwActivate
  dsimp only
  exact
    KeepR.next (Keep.ho (bootServe_keep _ _ _ _ (fun x => (by split; exacts [(Keep.on (respond_keep _ _ _ _) (Keep.on
      (authFail_keep _ _ _ _ _) (Keep.refl _ _) rfl) rfl), (by split; exacts [(Keep.on (respond_keep _ _ _ _) (Keep.on
      (authFail_keep _ _ _ _ _) (Keep.refl _ _) rfl) rfl), (Keep.ho (accept_keep _ _ _ _ _ _ _ _ rfl (fun v x =>
      (Keep.on (beginActivate_keep _ _ _ _) (Keep.refl _ _) rfl))) (Keep.refl _ _))])]))) (Keep.refl _ _))

theorem execGetstatus_keep : ∀ s, KeepR 536870902 s (execGetstatus s) := by
  intro s
  unfold execGetstatus
  exact
    KeepR.next (Keep.ho (i3cAddressed_keep _ _ rfl (fun x => (Keep.on (drawn_keep _) (Keep.on (emit_keep _ _)
      (Keep.refl _ _) rfl) rfl))) (Keep.refl _ _))

theorem execRcRegisterRead_keep : ∀ a0 a1 a2 a3 s, KeepR 502276864 s (execRcRegisterRead a0 a1 a2 a3 s) := by
  intro a0 a1 a2 a3 s
  unfold execRcRegisterRead
  exact
    KeepR.next (by split; exacts [(Keep.on (readDrs_keep _ _ _ _) (Keep.refl _ _) rfl), (Keep.on (readSpace_keep _ _ _
      _) (Keep.refl _ _) rfl), (Keep.refl _ _)])

theorem execGetmrl_keep : ∀ s, KeepR 536870902 s (execGetmrl s) := by
  intro s
  unfold execGetmrl
  exact
    KeepR.next (Keep.ho (i3cAddressed_keep _ _ rfl (fun x => (Keep.on (emit_keep _ _) (Keep.refl _ _) rfl)))
      (Keep.refl _ _))

theorem execI3cPrivateRead_keep : ∀ a0 s, KeepR 536870902 s (execI3cPrivateRead a0 s) := by
  intro a0 s
  unfold execI3cPrivateRead
  exact
    KeepR.next (Keep.ho (i3cAddressed_keep _ _ rfl (fun x => (Keep.on (readWindowI3c_keep _ _ _) (Keep.refl _ _)
      rfl))) (Keep.refl _ _))

theorem execGetbcr_keep : ∀ s, KeepR 536870902 s (execGetbcr s) := by
  intro s
  unfold execGetbcr
  exact
    KeepR.next (Keep.ho (i3cAddressed_keep _ _ rfl (fun x => (Keep.on (emit_keep _ _) (Keep.refl _ _) rfl)))
      (Keep.refl _ _))

theorem execGetdcr_keep : ∀ s, KeepR 536870902 s (execGetdcr s) := by
  intro s
  unfold execGetdcr
  exact
    KeepR.next (Keep.ho (i3cAddressed_keep _ _ rfl (fun x => (Keep.on (emit_keep _ _) (Keep.refl _ _) rfl)))
      (Keep.refl _ _))

theorem execResetNAssert_keep : ∀ a0 s, KeepR 536870902 s (execResetNAssert a0 s) := by
  intro a0 s
  unfold execResetNAssert
  dsimp only
  exact
    KeepR.next (Keep.ite (Keep.refl _ _) (by split; exacts [(Keep.on (startLoss_keep _ _) (Keep.refl _ _) rfl),
      (Keep.on (startLoss_keep _ _) (Keep.refl _ _) rfl), (Keep.on (startLoss_keep _ _) (Keep.refl _ _) rfl),
      (Keep.upd_2 rfl (Keep.refl _ _)), (Keep.on (resetNow_keep _) (Keep.refl _ _) rfl), (Keep.on (startLoss_keep _ _)
      (Keep.refl _ _) rfl), (Keep.ite (Keep.upd_2 rfl (Keep.refl _ _)) (Keep.on (resetNow_keep _) (Keep.refl _ _)
      rfl)), (Keep.on (resetNow_keep _) (Keep.refl _ _) rfl), (Keep.refl _ _)]))

theorem execRegisterWrite_keep : ∀ a0 a1 a2 a3 a4 s, KeepR 536870902 s (execRegisterWrite a0 a1 a2 a3 a4 s) := by
  intro a0 a1 a2 a3 a4 s
  unfold execRegisterWrite
  exact
    KeepR.next (by split; exacts [(Keep.ite (Keep.refl _ _) (by split; exacts [(Keep.on (writeDrs_keep _ _ _ _)
      (Keep.refl _ _) rfl), (Keep.ite (Keep.ho (i3cAddressed_keep _ _ rfl (fun x => (Keep.on (writeDrs_keep _ _ _ _)
      (Keep.refl _ _) rfl))) (Keep.refl _ _)) (Keep.refl _ _))])), (Keep.ite (Keep.on (writeController_keep _ _ _ _)
      (Keep.refl _ _) rfl) (Keep.refl _ _)), (Keep.ite (Keep.on (writeMsix_keep _ _ _ _) (Keep.refl _ _) rfl)
      (Keep.refl _ _)), (Keep.ite (Keep.on (writeConfig_keep _ _ _ _) (Keep.refl _ _) rfl) (Keep.refl _ _))])

theorem execMbxStatusRead_keep : ∀ a0 a1 a2 s, KeepR 536870902 s (execMbxStatusRead a0 a1 a2 s) := by
  intro a0 a1 a2 s
  unfold execMbxStatusRead
  exact
    KeepR.next (by split; exacts [(Keep.on (readDrs_keep _ _ _ _) (Keep.refl _ _) rfl), (Keep.ite (Keep.ho
      (i3cAddressed_keep _ _ rfl (fun x => (Keep.on (readWindowI3c_keep _ _ _) (Keep.refl _ _) rfl))) (Keep.refl _ _))
      (Keep.refl _ _))])

theorem execWideLoRead_keep : ∀ a0 a1 s, KeepR 502276864 s (execWideLoRead a0 a1 s) := by
  intro a0 a1 s
  unfold execWideLoRead
  exact
    KeepR.next (Keep.on (readDrs_keep _ _ _ _) (Keep.refl _ _) rfl)

theorem execGetmwl_keep : ∀ s, KeepR 536870902 s (execGetmwl s) := by
  intro s
  unfold execGetmwl
  exact
    KeepR.next (Keep.ho (i3cAddressed_keep _ _ rfl (fun x => (Keep.on (emit_keep _ _) (Keep.refl _ _) rfl)))
      (Keep.refl _ _))

theorem execWideHiRead_keep : ∀ a0 a1 s, KeepR 502276864 s (execWideHiRead a0 a1 s) := by
  intro a0 a1 s
  unfold execWideHiRead
  exact
    KeepR.next (Keep.on (readDrs_keep _ _ _ _) (Keep.refl _ _) rfl)

theorem flushRounds_keep : ∀ a0 a1 s, Keep 131200 s (flushRounds a0 a1 s) := by
  intro k
  induction k with
  | zero => intro a1 s; exact Keep.refl _ _
  | succ k ih =>
    intro a1 s
    exact Keep.on (ih _ _) (Keep.on (ledgerFlush_keep _) (Keep.on (programWrites_keep _ _) (Keep.on (satisfyReady_keep _)
      (Keep.refl _ _) rfl) rfl) rfl) rfl

theorem copyFrom_keep : ∀ a0 a1 s, Keep 131200 s (copyFrom a0 a1 s) := by
  intro a0 a1 s
  unfold copyFrom
  dsimp only
  exact
    (by split; exacts [(Keep.refl _ _), (Keep.on (programCopies_keep _) (Keep.foldl _ _ _ (fun _ _ => (Keep.on
      (placeCopy_keep _ _ _ _ _) (Keep.refl _ _) rfl)) (Keep.upd_131072 rfl (Keep.refl _ _))) rfl)])

theorem copyOut_keep : ∀ a0 a1 s, Keep 25305216 s (copyOut a0 a1 s) := by
  intro a0 a1 s
  unfold copyOut
  exact
    (by split; exacts [(Keep.refl _ _), (by split; exacts [(Keep.on (copyFrom_keep _ _ _) (Keep.refl _ _) rfl),
      (Keep.ite (Keep.on (copyFrom_keep _ _ _) (Keep.refl _ _) rfl) (Keep.on (logBadCopy_keep _ _ _) (Keep.on
      (copyFrom_keep _ _ _) (Keep.refl _ _) rfl) rfl))])])

theorem eraseCollected_keep : ∀ a0 a1 s, Keep 25305216 s (eraseCollected a0 a1 s) := by
  intro a0 a1 s
  unfold eraseCollected
  dsimp only
  exact
    (by split; exacts [(Keep.refl _ _), (Keep.ite (Keep.on (eraseSb_keep _ _) (Keep.refl _ _) rfl) (by split; exacts
      [(Keep.on (copyOut_keep _ _ _) (Keep.refl _ _) rfl), (Keep.ite (Keep.on (eraseReleased_keep _ _) (Keep.on
      (releaseSb_keep _ _) (Keep.on (copyOut_keep _ _ _) (Keep.refl _ _) rfl) rfl) rfl) (Keep.on (copyOut_keep _ _ _)
      (Keep.refl _ _) rfl))]))])

theorem flushWrites_keep : ∀ a0 s, Keep 131200 s (flushWrites a0 s) := by
  intro a0 s
  unfold flushWrites
  exact
    Keep.on (satisfyReady_keep _) (Keep.on (flushRounds_keep _ _ _) (Keep.refl _ _) rfl) rfl

theorem writeWindow_keep : ∀ a0 a1 s, Keep 498596736 s (writeWindow a0 a1 s) := by
  intro w l s
  induction w, l, s using writeWindow.induct with
  | case1 w a b c d rest s v x ih =>
    rw [writeWindow]
    refine Keep.ho ih ?_
    show Keep _ s (match windowOffset w with
      | some o => writeDrs .i3c o v s
      | none => s)
    split
    · exact Keep.on (writeDrs_keep _ _ _ _) (Keep.refl _ _) rfl
    · exact Keep.refl _ _
  | case2 w l s h =>
    rw [writeWindow]
    · exact Keep.refl _ _
    · exact h

theorem eraseSome_keep : ∀ a0 a1 a2 s, Keep 193084288 s (eraseSome a0 a1 a2 s) := by
  intro a0 a1 a2 s
  unfold eraseSome
  dsimp only
  exact
    Keep.ite (Keep.on (endDiscard_keep _ _ _) (Keep.foldl _ _ _ (fun _ _ => (Keep.on (eraseCollected_keep _ _ _)
      (Keep.refl _ _) rfl)) (Keep.refl _ _)) rfl) (Keep.ite (Keep.on (endDiscard_keep _ _ _) (Keep.foldl _ _ _ (fun _
      _ => (Keep.on (eraseCollected_keep _ _ _) (Keep.refl _ _) rfl)) (Keep.refl _ _)) rfl) (Keep.on
      (updateDiscard_keep _ _ _) (Keep.foldl _ _ _ (fun _ _ => (Keep.on (eraseCollected_keep _ _ _) (Keep.refl _ _)
      rfl)) (Keep.refl _ _)) rfl))

theorem lossFlush_keep : ∀ a0 a1 s, Keep 131200 s (lossFlush a0 a1 s) := by
  intro a0 a1 s
  unfold lossFlush
  dsimp only
  exact
    Keep.ite (Keep.on (ledgerFlush_keep _) (Keep.on (flushWrites_keep _ _) (Keep.refl _ _) rfl) rfl) (Keep.on
      (ledgerFlush_keep _) (Keep.on (flushWrites_keep _ _) (Keep.on (ledgerFlush_keep _) (Keep.on (flushWrites_keep _
      _) (Keep.refl _ _) rfl) rfl) rfl) rfl)

theorem runDiscard_keep : ∀ a0 a1 a2 s, Keep 193084288 s (runDiscard a0 a1 a2 s) := by
  intro d n g s
  have z : Keep 193084288 s (zeroBuffered d (closeHolders (discardedUnit d) s)) :=
    Keep.on (zeroBuffered_keep _ _) (Keep.on (closeHolders_keep _ _) (Keep.refl _ _) rfl) rfl
  unfold runDiscard
  dsimp only
  split
  · exact Keep.on (endDiscard_keep _ _ _) z rfl
  · rename_i x e
    refine Keep.on (eraseSome_keep _ _ _ _) ?_ rfl
    split at e
    · cases e
      exact z
    · exact Keep.on (foldDiscard_keep _ _ _ e) z rfl

theorem execPowerLossFlushEnd_keep : ∀ a0 a1 s, KeepR 402653174 s (execPowerLossFlushEnd a0 a1 s) := by
  intro a0 a1 s
  unfold execPowerLossFlushEnd
  dsimp only
  exact
    KeepR.next (Keep.ite (Keep.refl _ _) (Keep.ite (Keep.upd_2 rfl (Keep.on (writeLastWords_keep _) (Keep.on
      (lossFlush_keep _ _ _) (Keep.refl _ _) rfl) rfl)) (Keep.ite (Keep.upd_258 rfl (Keep.on (writeLastWords_keep _)
      (Keep.on (lossFlush_keep _ _ _) (Keep.refl _ _) rfl) rfl)) (Keep.ite (Keep.upd_2 rfl (Keep.on
      (writeLastWords_keep _) (Keep.on (lossFlush_keep _ _ _) (Keep.refl _ _) rfl) rfl)) (Keep.ite (Keep.on
      (restartAfterLoss_keep _) (Keep.upd_2 rfl (Keep.on (writeLastWords_keep _) (Keep.on (lossFlush_keep _ _ _)
      (Keep.refl _ _) rfl) rfl)) rfl) (Keep.upd_2 rfl (Keep.on (writeLastWords_keep _) (Keep.on (lossFlush_keep _ _ _)
      (Keep.refl _ _) rfl) rfl)))))))

theorem removeCopies_keep : ∀ a0 a1 s, Keep 25305216 s (removeCopies a0 a1 s) := by
  intro a0 a1 s
  unfold removeCopies
  dsimp only
  exact
    Keep.foldl _ _ _ (fun _ _ => (Keep.on (eraseCollected_keep _ _ _) (Keep.refl _ _) rfl)) (Keep.on
      (closeHolders_keep _ _) (Keep.refl _ _) rfl)

theorem execI3cPrivateWrite_keep : ∀ a0 s, KeepR 536870902 s (execI3cPrivateWrite a0 s) := by
  intro a0 s
  unfold execI3cPrivateWrite
  dsimp only
  exact
    KeepR.next (Keep.ho (i3cAddressed_keep _ _ rfl (fun x => (by split; exacts [(Keep.ite (Keep.refl _ _) (Keep.on
      (writeWindow_keep _ _ _) (Keep.upd_1024 rfl (Keep.refl _ _)) rfl)), (Keep.refl _ _)]))) (Keep.refl _ _))

theorem execSanitizeDone_keep : ∀ a0 s, KeepR 163717504 s (execSanitizeDone a0 s) := by
  intro a0 s
  unfold execSanitizeDone
  dsimp only
  exact
    KeepR.next (Keep.ite (by split; exacts [(Keep.refl _ _), (Keep.ite (Keep.ite (Keep.on (removeCopies_keep _ _ _)
      (Keep.refl _ _) rfl) (Keep.on (eraseOlderStore_keep _) (Keep.on (issueErases_keep _) (Keep.on (freeEmpty_keep _)
      (Keep.on (closeHolders_keep _ _) (Keep.refl _ _) rfl) rfl) rfl) rfl)) (Keep.on (fetchAll_keep _) (Keep.upd_256
      rfl (Keep.ite (Keep.on (removeCopies_keep _ _ _) (Keep.refl _ _) rfl) (Keep.on (eraseOlderStore_keep _) (Keep.on
      (issueErases_keep _) (Keep.on (freeEmpty_keep _) (Keep.on (closeHolders_keep _ _) (Keep.refl _ _) rfl) rfl) rfl)
      rfl))) rfl))]) (Keep.refl _ _))

theorem flushEverything_keep : ∀ s, Keep 131200 s (flushEverything s) := by
  intro s
  unfold flushEverything
  exact
    Keep.on (ledgerFlush_keep _) (Keep.on (flushWrites_keep _ _) (Keep.refl _ _) rfl) rfl

theorem execThermalHaltComplete_keep : ∀ a0 s, KeepR 16908674 s (execThermalHaltComplete a0 s) := by
  intro a0 s
  unfold execThermalHaltComplete
  dsimp only
  exact
    KeepR.next (Keep.ite (Keep.refl _ _) (Keep.upd_258 rfl (Keep.on (writeLastWords_keep _) (Keep.on (ledgerFlush_keep
      _) (Keep.on (flushWrites_keep _ _) (Keep.refl _ _) rfl) rfl) rfl)))

theorem execSecureDiscardDone_keep : ∀ a0 a1 s, KeepR 193084288 s (execSecureDiscardDone a0 a1 s) := by
  intro a0 a1 s
  unfold execSecureDiscardDone
  exact
    KeepR.next (by split; exacts [(Keep.refl _ _), (Keep.ite (Keep.ho (needNumbers_keep _ _ _ rfl (fun x => (Keep.on
      (runDiscard_keep _ _ _ _) (Keep.refl _ _) rfl))) (Keep.refl _ _)) (Keep.refl _ _))])

theorem execGcCopyDone_keep : ∀ a0 a1 s, KeepR 25305216 s (execGcCopyDone a0 a1 s) := by
  intro a0 a1 s
  unfold execGcCopyDone
  exact
    KeepR.next (by split; exacts [(Keep.refl _ _), (Keep.ite (Keep.on (issueErases_keep _) (Keep.on (updateGc_keep _)
      (Keep.on (endOverlayEpisode_keep _) (Keep.on (freeIfEmpty_keep _ _) (Keep.on (copyOut_keep _ _ _) (Keep.refl _
      _) rfl) rfl) rfl) rfl) rfl) (Keep.refl _ _))])

theorem hubReset_keep : ∀ a0 a1 s, Keep 536870902 s (hubReset a0 a1 s) := by
  intro a0 a1 s
  unfold hubReset
  dsimp only
  exact
    Keep.ite (Keep.on (enterRecovery_keep _ _ _) (Keep.on (resetBase_keep _ _) (Keep.on (writeLastWords_keep _)
      (Keep.on (countHubReset_keep _ _) (Keep.on (lastCause_keep _ _ _ _) (Keep.on (flushEverything_keep _) (Keep.on
      (haltAll_keep _ _ _) (Keep.refl _ _) rfl) rfl) rfl) rfl) rfl) rfl) rfl) (Keep.on (start_keep _ _) (Keep.on
      (writeLastWords_keep _) (Keep.on (countHubReset_keep _ _) (Keep.on (lastCause_keep _ _ _ _) (Keep.on
      (flushEverything_keep _) (Keep.on (haltAll_keep _ _ _) (Keep.refl _ _) rfl) rfl) rfl) rfl) rfl) rfl)

theorem stopInRecovery_keep : ∀ a0 a1 s, Keep 536870902 s (stopInRecovery a0 a1 s) := by
  intro a0 a1 s
  unfold stopInRecovery
  exact
    Keep.on (enterRecovery_keep _ _ _) (Keep.on (resetBase_keep _ _) (Keep.on (flushEverything_keep _) (Keep.on
      (haltAll_keep _ _ _) (Keep.refl _ _) rfl) rfl) rfl) rfl

theorem blockFault_keep : ∀ a0 a1 a2 s, Keep 536870902 s (blockFault a0 a1 a2 s) := by
  intro a0 a1 a2 s
  unfold blockFault
  dsimp only
  exact
    Keep.ite (Keep.ite (Keep.on (stopInRecovery_keep _ _ _) (Keep.on (logLasting_keep _ _ _ _ _ _) (Keep.on
      (fenceUnit_keep _ _) (Keep.refl _ _) rfl) rfl) rfl) (Keep.on (logLasting_keep _ _ _ _ _ _) (Keep.on
      (fenceUnit_keep _ _) (Keep.refl _ _) rfl) rfl)) (Keep.ite (Keep.on (hubReset_keep _ _ _) (Keep.on
      (logLasting_keep _ _ _ _ _ _) (Keep.refl _ _) rfl) rfl) (Keep.ite (Keep.on (stopInRecovery_keep _ _ _) (Keep.on
      (logLasting_keep _ _ _ _ _ _) (Keep.refl _ _) rfl) rfl) (Keep.on (hubReset_keep _ _ _) (Keep.on (logLasting_keep
      _ _ _ _ _ _) (Keep.upd_2 rfl (Keep.refl _ _)) rfl) rfl)))

theorem execFormatNvmDone_keep : ∀ a0 s, KeepR 163717504 s (execFormatNvmDone a0 s) := by
  intro a0 s
  unfold execFormatNvmDone
  dsimp only
  exact
    KeepR.next (Keep.ite (Keep.ite (Keep.ite (Keep.on (removeCopies_keep _ _ _) (Keep.refl _ _) rfl) (Keep.ite
      (Keep.on (eraseOlderStore_keep _) (Keep.refl _ _) rfl) (Keep.refl _ _))) (by split; exacts [(Keep.on
      (adminOk_keep _ _) (Keep.foldl _ _ _ (fun _ _ => (Keep.on (updateNs_keep _ _ _) (Keep.refl _ _) rfl)) (Keep.ite
      (Keep.on (removeCopies_keep _ _ _) (Keep.refl _ _) rfl) (Keep.ite (Keep.on (eraseOlderStore_keep _) (Keep.refl _
      _) rfl) (Keep.refl _ _)))) rfl), (Keep.on (fetchAll_keep _) (Keep.foldl _ _ _ (fun _ _ => (Keep.on
      (updateNs_keep _ _ _) (Keep.refl _ _) rfl)) (Keep.ite (Keep.on (removeCopies_keep _ _ _) (Keep.refl _ _) rfl)
      (Keep.ite (Keep.on (eraseOlderStore_keep _) (Keep.refl _ _) rfl) (Keep.refl _ _)))) rfl)])) (Keep.refl _ _))

theorem lastingFault_keep : ∀ a0 a1 a2 s, Keep 536870902 s (lastingFault a0 a1 a2 s) := by
  intro a0 a1 a2 s
  unfold lastingFault
  exact
    (by split; exacts [(Keep.on (blockFault_keep _ _ _ _) (Keep.refl _ _) rfl), (Keep.on (logLasting_keep _ _ _ _ _ _)
      (Keep.on (fenceMedia_keep _ _) (Keep.refl _ _) rfl) rfl), (Keep.on (logLasting_keep _ _ _ _ _ _) (Keep.on
      (fenceMedia_keep _ _) (Keep.refl _ _) rfl) rfl), (Keep.on (logLasting_keep _ _ _ _ _ _) (Keep.on
      (fenceMedia_keep _ _) (Keep.refl _ _) rfl) rfl), (Keep.on (logLasting_keep _ _ _ _ _ _) (Keep.refl _ _) rfl),
      (Keep.on (completeLinkUp_keep _ _) (Keep.on (fenceLasting_keep _ _ _ _) (Keep.refl _ _) rfl) rfl), (Keep.on
      (logLasting_keep _ _ _ _ _ _) (Keep.refl _ _) rfl), (Keep.on (fenceLasting_keep _ _ _ _) (Keep.on
      (fenceSensor_keep _ _) (Keep.refl _ _) rfl) rfl), (Keep.on (fenceLasting_keep _ _ _ _) (Keep.on (invalidate_keep
      _ _) (Keep.on (protect_keep _ _ _) (Keep.refl _ _) rfl) rfl) rfl), (Keep.refl _ _)])

theorem storeUncorrectable_keep : ∀ a0 a1 a2 a3 s, Keep 536870902 s (storeUncorrectable a0 a1 a2 a3 s) := by
  intro a0 a1 a2 a3 s
  unfold storeUncorrectable
  dsimp only
  exact
    Keep.ite (Keep.on (startTest_keep _ _ _) (Keep.on (bumpGolden_keep _) (Keep.on (updateChan_keep _ _ _) (Keep.foldl
      _ _ _ (fun _ _ => (Keep.on (endForStore_keep _ _) (Keep.refl _ _) rfl)) (Keep.on (logEvent_keep _ _ _ _)
      (Keep.refl _ _) rfl)) rfl) rfl) rfl) (Keep.on (lastingFault_keep _ _ _ _) (Keep.foldl _ _ _ (fun _ _ => (Keep.on
      (endForStore_keep _ _) (Keep.refl _ _) rfl)) (Keep.on (logEvent_keep _ _ _ _) (Keep.refl _ _) rfl)) rfl)

theorem execUcieRetrainDone_keep : ∀ a0 a1 s, KeepR 536870902 s (execUcieRetrainDone a0 a1 s) := by
  intro a0 a1 s
  unfold execUcieRetrainDone
  dsimp only
  exact
    KeepR.next (Keep.ite (Keep.ite (Keep.on (startTest_keep _ _ _) (Keep.on (updateLink_keep _ _ _) (Keep.refl _ _)
      rfl) rfl) (Keep.on (lastingFault_keep _ _ _ _) (Keep.on (updateLink_keep _ _ _) (Keep.refl _ _) rfl) rfl))
      (Keep.refl _ _))

theorem noteTransient_keep : ∀ a0 a1 a2 s, Keep 536870902 s (noteTransient a0 a1 a2 s) := by
  intro a0 a1 a2 s
  unfold noteTransient
  dsimp only
  exact
    Keep.ite (Keep.on (lastingFault_keep _ _ _ _) (Keep.upd_8388608 rfl (Keep.on (logEvent_keep _ _ _ _) (Keep.refl _
      _) rfl)) rfl) (Keep.upd_8388608 rfl (Keep.on (logEvent_keep _ _ _ _) (Keep.refl _ _) rfl))

theorem execRecentringSlice_keep : ∀ a0 a1 a2 a3 s, KeepR 536870902 s (execRecentringSlice a0 a1 a2 a3 s) := by
  intro a0 a1 a2 a3 s
  unfold execRecentringSlice
  dsimp only
  exact
    KeepR.next (Keep.ite (Keep.on (updateDram_keep _ _ _) (Keep.refl _ _) rfl) (Keep.ite (Keep.on (updateDram_keep _ _
      _) (Keep.on (updateDram_keep _ _ _) (Keep.refl _ _) rfl) rfl) (Keep.ite (Keep.on (logRetrain_keep _ _ _ _ _ _ _
      _) (Keep.on (updateDram_keep _ _ _) (Keep.on (updateDram_keep _ _ _) (Keep.on (updateDram_keep _ _ _) (Keep.refl
      _ _) rfl) rfl) rfl) rfl) (Keep.on (noteTransient_keep _ _ _ _) (Keep.on (logRetrain_keep _ _ _ _ _ _ _ _)
      (Keep.on (updateDram_keep _ _ _) (Keep.on (updateDram_keep _ _ _) (Keep.on (updateDram_keep _ _ _) (Keep.refl _
      _) rfl) rfl) rfl) rfl) rfl))))

theorem regionFailed_keep : ∀ a0 s, Keep 536870902 s (regionFailed a0 s) := by
  intro a0 s
  unfold regionFailed
  dsimp only
  exact
    Keep.ite (Keep.upd_2097152 rfl (Keep.refl _ _)) (Keep.on (bankFailed_keep _ _) (Keep.on (lastingFault_keep _ _ _
      _) (Keep.refl _ _) rfl) rfl)

theorem judgeTest_keep : ∀ a0 a1 a2 s, Keep 536870902 s (judgeTest a0 a1 a2 s) := by
  intro a0 a1 a2 s
  unfold judgeTest
  dsimp only
  exact
    Keep.ite (Keep.ite (Keep.on (completeSome_keep _ _ _ _) (Keep.on (readmitUnit_keep _ _) (Keep.ite (Keep.on
      (relock_keep _ _) (Keep.refl _ _) rfl) (Keep.refl _ _)) rfl) rfl) (Keep.on (completeSome_keep _ _ _ _) (Keep.on
      (logLasting_keep _ _ _ _ _ _) (Keep.ite (Keep.on (relock_keep _ _) (Keep.refl _ _) rfl) (Keep.refl _ _)) rfl)
      rfl)) (Keep.ite (Keep.ite (Keep.on (completeSome_keep _ _ _ _) (Keep.ite (Keep.on (relock_keep _ _) (Keep.refl _
      _) rfl) (Keep.refl _ _)) rfl) (Keep.on (lastingFault_keep _ _ _ _) (Keep.on (completeSome_keep _ _ _ _)
      (Keep.ite (Keep.on (relock_keep _ _) (Keep.refl _ _) rfl) (Keep.refl _ _)) rfl) rfl)) (Keep.ite (Keep.on
      (noteTransient_keep _ _ _ _) (Keep.ite (Keep.on (relock_keep _ _) (Keep.refl _ _) rfl) (Keep.refl _ _)) rfl)
      (Keep.on (lastingFault_keep _ _ _ _) (Keep.ite (Keep.on (relock_keep _ _) (Keep.refl _ _) rfl) (Keep.refl _ _))
      rfl)))

theorem execPllLockFailure_keep : ∀ a0 s, KeepR 536870902 s (execPllLockFailure a0 s) := by
  intro a0 s
  unfold execPllLockFailure
  dsimp only
  exact
    KeepR.next (Keep.ite (Keep.refl _ _) (Keep.ite (Keep.on (hubReset_keep _ _ _) (Keep.upd_16384 rfl (Keep.refl _ _))
      rfl) (Keep.on (startTest_keep _ _ _) (Keep.upd_16384 rfl (Keep.refl _ _)) rfl)))

theorem takeVerdicts_keep : ∀ s, Keep 536870902 s (takeVerdicts s) := by
  intro s
  unfold takeVerdicts
  exact
    Keep.foldl _ _ _ (fun _ _ => (by split; exacts [(Keep.on (judgeTest_keep _ _ _ _) (Keep.on (leaveTest_keep _ _)
      (Keep.refl _ _) rfl) rfl), (Keep.refl _ _)])) (Keep.refl _ _)

theorem execControlStoreSweep_keep : ∀ a0 a1 a2 s, KeepR 536870902 s (execControlStoreSweep a0 a1 a2 s) := by
  intro a0 a1 a2 s
  unfold execControlStoreSweep
  dsimp only
  exact
    KeepR.next (Keep.ite (Keep.refl _ _) (by split; exacts [(Keep.on (updateChan_keep _ _ _) (Keep.refl _ _) rfl),
      (Keep.on (storeCorrected_keep _ _ _ _) (Keep.on (updateChan_keep _ _ _) (Keep.on (updateChan_keep _ _ _)
      (Keep.refl _ _) rfl) rfl) rfl), (Keep.on (storeUncorrectable_keep _ _ _ _ _) (Keep.on (drawn_keep _) (Keep.on
      (updateChan_keep _ _ _) (Keep.refl _ _) rfl) rfl) rfl)]))

theorem execWarmRecoveryTimeout_keep : ∀ s, KeepR 536870902 s (execWarmRecoveryTimeout s) := by
  intro s
  unfold execWarmRecoveryTimeout
  exact
    KeepR.next (by split; exacts [(Keep.ite (Keep.on (hubReset_keep _ _ _) (Keep.refl _ _) rfl) (Keep.refl _ _)),
      (Keep.refl _ _)])

theorem issue_keep {m : Nat} (a0 a1 : Nat) (a2 a3 a4 : Option Nat) (a5 a6 : Bool)
    (k : Die → Context → State → Result) (s : State) (hm : 536870902 &&& m = 536870902)
    (hk : ∀ d c x, KeepR m x (k d c x)) : KeepR m s (issue a0 a1 a2 a3 a4 a5 a6 k s) := by
  have stay : KeepR m s (.next s) := KeepR.next (Keep.refl m s)
  have fetched (n p : Nat) : Keep m s (fetchCorrects n p s) :=
    Keep.on (fetchCorrects_keep _ _ _) (Keep.refl m s) (mask_sub hm rfl)
  have go (d : Die) (c : Context) (x : State) (h : Keep m s x) : KeepR m s (k d c x) :=
    fun t e => Keep.ho (hk _ _ _ t e) h
  unfold issue
  split
  · exact stay
  · split
    · exact stay
    · refine KeepR.ite stay ?_
      dsimp only
      have run (d : Die) (c : Context) (p : Prop) [Decidable p] (n i q : Nat) :
          KeepR m s (if p then .fault .microwordBeforeCommit
            else if a6 = false then k d c (fetchCorrects i q s)
            else if busFor s a0 then k d c (assertChip i n (fetchCorrects i q s)) else .next s) :=
        KeepR.ite KeepR.fault (KeepR.ite (go _ _ _ (fetched _ _)) (KeepR.ite
          (go _ _ _ (Keep.on (assertChip_keep _ _ _) (fetched _ _) (mask_sub hm rfl))) stay))
      split
      · exact run _ _ _ _ _ _
      · exact stay
      · refine KeepR.ite ?_ (KeepR.ite (run _ _ _ _ _ _) stay)
        exact KeepR.next (Keep.on (storeUncorrectable_keep _ _ _ _ _) (Keep.refl m s) (mask_sub hm rfl))

theorem loseSegment_keep : ∀ a0 a1 s, Keep 536870902 s (loseSegment a0 a1 s) := by
  intro a0 a1 s
  unfold loseSegment
  dsimp only
  exact
    Keep.ite (Keep.refl _ _) (Keep.ite (Keep.on (hubReset_keep _ _ _) (Keep.refl _ _) rfl) (Keep.upd_131072 rfl
      (Keep.refl _ _)))

theorem execCuCommit_keep : ∀ a0 s, KeepR 536870902 s (execCuCommit a0 s) := by
  intro a0 s
  unfold execCuCommit
  dsimp only
  exact
    issue_keep _ _ _ _ _ _ _ _ _ rfl (fun d c x => (KeepR.ite KeepR.fault (KeepR.next (Keep.on (updateContext_keep _ _
      _) (Keep.on (updateDie_keep _ _ _) (Keep.refl _ _) rfl) rfl))))

theorem execRegionTestDone_keep : ∀ a0 a1 a2 s, KeepR 536870902 s (execRegionTestDone a0 a1 a2 s) := by
  intro a0 a1 a2 s
  unfold execRegionTestDone
  dsimp only
  exact
    KeepR.next (Keep.ite (Keep.refl _ _) (Keep.ite (Keep.on (noteTransient_keep _ _ _ _) (Keep.on (leaveTest_keep _ _)
      (Keep.upd_2097152 rfl (Keep.refl _ _)) rfl) rfl) (Keep.on (regionFailed_keep _ _) (Keep.on (leaveTest_keep _ _)
      (Keep.upd_2097152 rfl (Keep.refl _ _)) rfl) rfl)))

theorem execCuWaitq_keep : ∀ a0 a1 s, KeepR 536870902 s (execCuWaitq a0 a1 s) := by
  intro a0 a1 s
  unfold execCuWaitq
  exact
    issue_keep _ _ _ _ _ _ _ _ _ rfl (fun d c x => (KeepR.next (Keep.on (updateContext_keep _ _ _) (Keep.refl _ _)
      rfl)))

theorem cloveFaultOn_keep : ∀ a0 s, Keep 536870902 s (cloveFaultOn a0 s) := by
  intro a0 s
  unfold cloveFaultOn
  dsimp only
  exact
    Keep.ite (Keep.refl _ _) (Keep.ite (Keep.on (hubReset_keep _ _ _) (Keep.refl _ _) rfl) (Keep.on (beginStop_keep _
      _) (Keep.on (startTest_keep _ _ _) (Keep.refl _ _) rfl) rfl))

theorem execCuRet_keep : ∀ a0 s, KeepR 536870902 s (execCuRet a0 s) := by
  intro a0 s
  unfold execCuRet
  exact
    issue_keep _ _ _ _ _ _ _ _ _ rfl (fun d c x => (by split; exacts [KeepR.fault, (KeepR.next (Keep.on
      (updateContext_keep _ _ _) (Keep.refl _ _) rfl))]))

theorem burstFailed_keep : ∀ a0 a1 s, Keep 536870902 s (burstFailed a0 a1 s) := by
  intro a0 a1 s
  unfold burstFailed
  exact
    (by split; exacts [(Keep.on (loseUnit_keep _ _ _) (Keep.refl _ _) rfl), (Keep.on (failBufferRead_keep _ _ _ _)
      (Keep.refl _ _) rfl), (Keep.on (loseSegment_keep _ _ _) (Keep.refl _ _) rfl), (Keep.refl _ _), (Keep.on
      (cloveFaultOn_keep _ _) (Keep.refl _ _) rfl), (Keep.on (cloveFaultOn_keep _ _) (Keep.refl _ _) rfl), (Keep.refl
      _ _), (Keep.refl _ _), (Keep.refl _ _), (Keep.refl _ _), (Keep.refl _ _), (Keep.refl _ _), (Keep.refl _ _)])

theorem execCuFailr_keep : ∀ a0 a1 s, KeepR 536870902 s (execCuFailr a0 a1 s) := by
  intro a0 a1 s
  unfold execCuFailr
  exact
    issue_keep _ _ _ _ _ _ _ _ _ rfl (fun d c x => (KeepR.next (Keep.on (routineFailed_keep _ _ _ _ _ _) (Keep.on
      (endRoutine_keep _ _ _ _ _) (Keep.refl _ _) rfl) rfl)))

theorem execCuWaitc_keep : ∀ a0 a1 s, KeepR 536870902 s (execCuWaitc a0 a1 s) := by
  intro a0 a1 s
  unfold execCuWaitc
  exact
    issue_keep _ _ _ _ _ _ _ _ _ rfl (fun d c x => (KeepR.next (Keep.on (updateContext_keep _ _ _) (Keep.refl _ _)
      rfl)))

theorem ownerActs_keep : ∀ a0 a1 s, Keep 536870902 s (ownerActs a0 a1 s) := by
  intro a0 a1 s
  unfold ownerActs
  exact
    Keep.ite (Keep.on (cloveFaultOn_keep _ _) (Keep.refl _ _) rfl) (Keep.ite (Keep.on (streamRecordLost_keep _ _ _)
      (Keep.refl _ _) rfl) (Keep.ite (Keep.on (hubReset_keep _ _ _) (Keep.refl _ _) rfl) (Keep.ite (Keep.on
      (putBlock_keep _ _) (Keep.refl _ _) rfl) (Keep.ite (Keep.on (bankFailed_keep _ _) (Keep.refl _ _) rfl)
      (Keep.refl _ _)))))

theorem execCuCall_keep : ∀ a0 a1 s, KeepR 536870902 s (execCuCall a0 a1 s) := by
  intro a0 a1 s
  unfold execCuCall
  exact
    issue_keep _ _ _ _ _ _ _ _ _ rfl (fun d c x => (KeepR.ite KeepR.fault (KeepR.next (Keep.on (updateContext_keep _ _
      _) (Keep.refl _ _) rfl))))

theorem execCuStatr_keep : ∀ a0 a1 s, KeepR 536870902 s (execCuStatr a0 a1 s) := by
  intro a0 a1 s
  unfold execCuStatr
  dsimp only
  exact
    issue_keep _ _ _ _ _ _ _ _ _ rfl (fun d c x => (KeepR.next (Keep.on (updateContext_keep _ _ _) (Keep.on (emit_keep
      _ _) (Keep.on (settleSuspend_keep _ _ _) (Keep.refl _ _) rfl) rfl) rfl)))

theorem bankRead_keep : ∀ a0 a1 a2 s, Keep 536870902 s (bankRead a0 a1 a2 s) := by
  intro a0 a1 a2 s
  unfold bankRead
  exact
    (by split; exacts [(Keep.fst (by assumption) (Keep.on (checkBlock_keep _ _ _ _ _ _) (Keep.refl _ _) rfl)),
      (Keep.on (ownerActs_keep _ _ _) (Keep.fst (by assumption) (Keep.on (checkBlock_keep _ _ _ _ _ _) (Keep.refl _ _)
      rfl)) rfl)])

theorem issueBus_keep {m : Nat} (a0 a1 : Nat) (a2 a3 a4 : Option Nat) (a5 : Bool)
    (f : Die → Context → State → State) (s : State) (hm : 536870902 &&& m = 536870902)
    (hf : ∀ d c x, Keep m x (f d c x)) : KeepR m s (issueBus a0 a1 a2 a3 a4 a5 f s) :=
  issue_keep _ _ _ _ _ _ _ _ _ hm fun _ _ _ =>
    KeepR.next (Keep.on (updateContext_keep _ _ _) (hf _ _ _) (mask_sub hm rfl))

theorem recordRing_keep : ∀ a0 s, Keep 536870902 s (recordRing a0 s) := by
  intro a0 s
  unfold recordRing
  dsimp only
  exact
    Keep.ite (Keep.ite (Keep.on (ownerActs_keep _ _ _) (Keep.on (recordLost_keep _ _) (Keep.ite (Keep.refl _ _)
      (Keep.ite (Keep.on (partialWrite_keep _ _ _ _ _ _) (Keep.refl _ _) rfl) (Keep.refl _ _))) rfl) rfl) (Keep.on
      (recordLost_keep _ _) (Keep.ite (Keep.refl _ _) (Keep.ite (Keep.on (partialWrite_keep _ _ _ _ _ _) (Keep.refl _
      _) rfl) (Keep.refl _ _))) rfl)) (Keep.upd_16777216 rfl (fun h => Sound.re h rfl rfl rfl rfl rfl rfl rfl rfl rfl
      rfl rfl) ((Keep.ite (Keep.refl _ _) (Keep.ite (Keep.on (partialWrite_keep _ _ _ _ _ _) (Keep.refl _ _) rfl)
      (Keep.refl _ _)))))

theorem execCuTemp_keep : ∀ a0 a1 a2 s, KeepR 536870902 s (execCuTemp a0 a1 a2 s) := by
  intro a0 a1 a2 s
  unfold execCuTemp
  dsimp only
  exact
    issue_keep _ _ _ _ _ _ _ _ _ rfl (fun d c x => (KeepR.next (Keep.on (updateContext_keep _ _ _) (Keep.on
      (takeDieTemp_keep _ _ _) (Keep.on (emit_keep _ _) (Keep.refl _ _) rfl) rfl) rfl)))

theorem execCuCe_keep : ∀ a0 a1 s, KeepR 536870902 s (execCuCe a0 a1 s) := by
  intro a0 a1 s
  unfold execCuCe
  exact
    issue_keep _ _ _ _ _ _ _ _ _ rfl (fun d c x => (KeepR.next (Keep.on (updateContext_keep _ _ _) (Keep.refl _ _)
      rfl)))

theorem execCuDone_keep : ∀ a0 a1 s, KeepR 536870902 s (execCuDone a0 a1 s) := by
  intro a0 a1 s
  unfold execCuDone
  exact
    issue_keep _ _ _ _ _ _ _ _ _ rfl (fun d c x => (KeepR.next (Keep.on (endRoutine_keep _ _ _ _ _) (Keep.refl _ _)
      rfl)))

theorem execCuDin_keep : ∀ a0 a1 a2 s, KeepR 536870902 s (execCuDin a0 a1 a2 s) := by
  intro a0 a1 a2 s
  unfold execCuDin
  exact
    issueBus_keep _ _ _ _ _ _ _ _ rfl (fun d c x => (Keep.on (updateChan_keep _ _ _) (Keep.on (emit_keep _ _)
      (Keep.refl _ _) rfl) rfl))

theorem execCuSusp_keep : ∀ a0 s, KeepR 536870902 s (execCuSusp a0 s) := by
  intro a0 s
  unfold execCuSusp
  dsimp only
  exact
    issueBus_keep _ _ _ _ _ _ _ _ rfl (fun d c x => (Keep.on (updateDie_keep _ _ _) (Keep.on (emit_keep _ _)
      (Keep.refl _ _) rfl) rfl))

theorem execCuHubinc_keep : ∀ a0 a1 s, KeepR 536870902 s (execCuHubinc a0 a1 s) := by
  intro a0 a1 s
  unfold execCuHubinc
  dsimp only
  exact
    issue_keep _ _ _ _ _ _ _ _ _ rfl (fun d c x => (KeepR.next (Keep.on (updateContext_keep _ _ _) (Keep.upd_262144
      rfl (Keep.refl _ _)) rfl)))

theorem execCloveFault_keep : ∀ a0 s, KeepR 536870902 s (execCloveFault a0 s) := by
  intro a0 s
  unfold execCloveFault
  exact
    KeepR.next (Keep.on (cloveFaultOn_keep _ _) (Keep.refl _ _) rfl)

theorem scrubBlock_keep : ∀ a0 a1 s, Keep 536870902 s (scrubBlock a0 a1 s) := by
  intro a0 a1 s
  unfold scrubBlock
  exact
    Keep.ite (Keep.refl _ _) (by split; exacts [(Keep.fst (by assumption) (Keep.on (checkBlock_keep _ _ _ _ _ _)
      (Keep.on (putBlock_keep _ _) (Keep.refl _ _) rfl) rfl)), (Keep.on (ownerActs_keep _ _ _) (Keep.fst (by
      assumption) (Keep.on (checkBlock_keep _ _ _ _ _ _) (Keep.on (putBlock_keep _ _) (Keep.refl _ _) rfl) rfl))
      rfl)])

theorem execCuWaitu_keep : ∀ a0 a1 s, KeepR 536870902 s (execCuWaitu a0 a1 s) := by
  intro a0 a1 s
  unfold execCuWaitu
  exact
    issue_keep _ _ _ _ _ _ _ _ _ rfl (fun d c x => (KeepR.next (Keep.on (releaseBus_keep _ _) (Keep.on
      (updateContext_keep _ _ _) (Keep.refl _ _) rfl) rfl)))

theorem execCuPark_keep : ∀ a0 s, KeepR 536870902 s (execCuPark a0 s) := by
  intro a0 s
  unfold execCuPark
  exact
    issue_keep _ _ _ _ _ _ _ _ _ rfl (fun d c x => (KeepR.next (Keep.on (releaseBus_keep _ _) (Keep.on (updateDie_keep
      _ _ _) (Keep.on (restContext_keep _ _) (Keep.refl _ _) rfl) rfl) rfl)))

theorem execCuDout_keep : ∀ a0 a1 a2 s, KeepR 536870902 s (execCuDout a0 a1 a2 s) := by
  intro a0 a1 a2 s
  unfold execCuDout
  dsimp only
  exact
    issue_keep _ _ _ _ _ _ _ _ _ rfl (fun d c x => (KeepR.ite (KeepR.next (Keep.on (updateContext_keep _ _ _) (Keep.on
      (updateContext_keep _ _ _) (Keep.on (emit_keep _ _) (Keep.upd_268435456 rfl (Keep.refl _ _)) rfl) rfl) rfl))
      (KeepR.next (Keep.on (burstParity_keep _ _) (Keep.on (updateContext_keep _ _ _) (Keep.on (emit_keep _ _)
      (Keep.upd_268435456 rfl (Keep.refl _ _)) rfl) rfl) rfl))))

theorem execCuGetf_keep : ∀ a0 a1 a2 a3 s, KeepR 536870902 s (execCuGetf a0 a1 a2 a3 s) := by
  intro a0 a1 a2 a3 s
  unfold execCuGetf
  dsimp only
  exact
    issue_keep _ _ _ _ _ _ _ _ _ rfl (fun d c x => (KeepR.next (Keep.on (updateContext_keep _ _ _) (Keep.on (emit_keep
      _ _) (Keep.refl _ _) rfl) rfl)))

theorem writeRecord_keep : ∀ a0 s, Keep 536870902 s (writeRecord a0 s) := by
  intro a0 s
  unfold writeRecord
  dsimp only
  exact
    Keep.ite (Keep.on (recordLast_keep _ _) (Keep.upd_16777218 rfl (fun h => Sound.re h rfl rfl rfl rfl rfl rfl rfl
      rfl rfl rfl rfl) ((Keep.refl _ _))) rfl) (Keep.on (recordRing_keep _ _) (Keep.upd_16777218 rfl (fun h =>
      Sound.re h rfl rfl rfl rfl rfl rfl rfl rfl rfl rfl rfl) ((Keep.refl _ _))) rfl)

theorem execDramRowTestDone_keep : ∀ a0 a1 a2 a3 a4 s, KeepR 536870902 s (execDramRowTestDone a0 a1 a2 a3 a4 s) := by
  intro a0 a1 a2 a3 a4 s
  unfold execDramRowTestDone
  dsimp only
  exact
    KeepR.next (Keep.ite (Keep.refl _ _) (Keep.ite (Keep.on (noteTransient_keep _ _ _ _) (Keep.on (leaveTest_keep _ _)
      (Keep.on (updateDram_keep _ _ _) (Keep.refl _ _) rfl) rfl) rfl) (Keep.ite (Keep.upd_1048576 rfl (Keep.on
      (updateDram_keep _ _ _) (Keep.on (leaveTest_keep _ _) (Keep.on (updateDram_keep _ _ _) (Keep.refl _ _) rfl) rfl)
      rfl)) (Keep.on (lastingFault_keep _ _ _ _) (Keep.on (leaveTest_keep _ _) (Keep.on (updateDram_keep _ _ _)
      (Keep.refl _ _) rfl) rfl) rfl))))

theorem execCuAddr_keep : ∀ a0 a1 a2 s, KeepR 536870902 s (execCuAddr a0 a1 a2 s) := by
  intro a0 a1 a2 s
  unfold execCuAddr
  exact
    KeepR.ite (issueBus_keep _ _ _ _ _ _ _ _ rfl (fun d c x => (Keep.on (sendBytes_keep _ _ _ _) (Keep.refl _ _)
      rfl))) (issue_keep _ _ _ _ _ _ _ _ _ rfl (fun d c x => KeepR.fault))

theorem execCuRsm_keep : ∀ a0 s, KeepR 536870902 s (execCuRsm a0 s) := by
  intro a0 s
  unfold execCuRsm
  dsimp only
  exact
    issueBus_keep _ _ _ _ _ _ _ _ rfl (fun d c x => (Keep.on (updateDie_keep _ _ _) (Keep.on (emit_keep _ _)
      (Keep.refl _ _) rfl) rfl))

theorem execRecoveryDone_keep : ∀ a0 s, KeepR 536870902 s (execRecoveryDone a0 s) := by
  intro a0 s
  unfold execRecoveryDone
  dsimp only
  exact
    KeepR.next (by split; exacts [(Keep.refl _ _), (Keep.ite (Keep.refl _ _) (Keep.on (updateGc_keep _) (Keep.on
      (retryReads_keep _) (Keep.on (fetchAll_keep _) (Keep.on (releaseCompletions_keep _) (Keep.on (serveLatched_keep
      _) (Keep.on (takeVerdicts_keep _) (Keep.ite (Keep.on (finishActivation_keep _ _) (Keep.foldl _ _ _ (fun _ _ =>
      (Keep.on (bankWritten_keep _ _ _) (Keep.refl _ _) rfl)) (Keep.on (rewriteBanks_keep _ _) (Keep.upd_4194306 rfl
      (Keep.on (logRecovery_keep _ _ _) (Keep.refl _ _) rfl)) rfl)) rfl) (Keep.foldl _ _ _ (fun _ _ => (Keep.on
      (bankWritten_keep _ _ _) (Keep.refl _ _) rfl)) (Keep.on (rewriteBanks_keep _ _) (Keep.upd_4194306 rfl (Keep.on
      (logRecovery_keep _ _ _) (Keep.refl _ _) rfl)) rfl))) rfl) rfl) rfl) rfl) rfl) rfl))])

theorem execSramScrubRead_keep : ∀ a0 a1 a2 s, KeepR 536870902 s (execSramScrubRead a0 a1 a2 s) := by
  intro a0 a1 a2 s
  unfold execSramScrubRead
  dsimp only
  exact
    KeepR.next (Keep.ite (Keep.refl _ _) (Keep.ite (Keep.on (maceWord_keep _ _ _ _) (Keep.refl _ _) rfl) (Keep.ite
      (by split; exacts [(Keep.on (scrubBlock_keep _ _ _) (Keep.on (sweepOn_keep _ _ _) (Keep.refl _ _) rfl) rfl),
      (Keep.ite (Keep.on (sweepOn_keep _ _ _) (Keep.refl _ _) rfl) (Keep.on (scrubBlock_keep _ _ _) (Keep.on
      (sweepOn_keep _ _ _) (Keep.refl _ _) rfl) rfl))]) (Keep.refl _ _))))

theorem issueLocal_keep {m : Nat} (a0 a1 : Nat) (a2 a3 a4 : Option Nat) (f : State → Die → Context → Context) (s : State)
    (hm : 536870902 &&& m = 536870902) : KeepR m s (issueLocal a0 a1 a2 a3 a4 f s) :=
  issue_keep _ _ _ _ _ _ _ _ _ hm fun _ _ _ =>
    KeepR.next (Keep.on (updateContext_keep _ _ _) (Keep.refl _ _) (mask_sub hm rfl))

theorem burstChecked_keep : ∀ a0 a1 a2 s, Keep 536870902 s (burstChecked a0 a1 a2 s) := by
  intro a0 a1 a2 s
  unfold burstChecked
  dsimp only
  exact
    Keep.ite (Keep.on (updateDram_keep _ _ _) (Keep.refl _ _) rfl) (by split; exacts [(Keep.refl _ _), (Keep.on
      (logEvent_keep _ _ _ _) (Keep.on (updateDram_keep _ _ _) (Keep.refl _ _) rfl) rfl), (Keep.on (burstFailed_keep _
      _ _) (Keep.on (startRowTest_keep _ _ _ _ _ _) (Keep.on (logEvent_keep _ _ _ _) (Keep.on (updateDram_keep _ _ _)
      (Keep.refl _ _) rfl) rfl) rfl) rfl), (Keep.ite (Keep.on (startRecentring_keep _ _ _ _) (Keep.on
      (startRowTest_keep _ _ _ _ _ _) (Keep.on (logEvent_keep _ _ _ _) (Keep.on (updateDram_keep _ _ _) (Keep.refl _
      _) rfl) rfl) rfl) rfl) (Keep.on (burstFailed_keep _ _ _) (Keep.on (startRecentring_keep _ _ _ _) (Keep.on
      (startRowTest_keep _ _ _ _ _ _) (Keep.on (logEvent_keep _ _ _ _) (Keep.on (updateDram_keep _ _ _) (Keep.refl _
      _) rfl) rfl) rfl) rfl) rfl))])

theorem execCuYield_keep : ∀ a0 a1 s, KeepR 536870902 s (execCuYield a0 a1 s) := by
  intro a0 a1 s
  unfold execCuYield
  dsimp only
  exact
    issue_keep _ _ _ _ _ _ _ _ _ rfl (fun d c x => (KeepR.next (Keep.on (releaseBus_keep _ _) (Keep.on
      (updateContext_keep _ _ _) (Keep.refl _ _) rfl) rfl)))

theorem execSelfTestEnd_keep : ∀ a0 a1 a2 s, KeepR 536870902 s (execSelfTestEnd a0 a1 a2 s) := by
  intro a0 a1 a2 s
  unfold execSelfTestEnd
  dsimp only
  exact
    KeepR.next (by split; exacts [(Keep.refl _ _), (Keep.ite (Keep.refl _ _) (Keep.ite (Keep.upd_8388608 rfl
      (Keep.refl _ _)) (Keep.on (judgeTest_keep _ _ _ _) (Keep.on (leaveTest_keep _ _) (Keep.refl _ _) rfl) rfl)))])

theorem immOp_keep : ∀ a0 a1 a2 a3 a4 s, KeepR 536870902 s (immOp a0 a1 a2 a3 a4 s) := by
  intro a0 a1 a2 a3 a4 s
  unfold immOp
  exact
    issueLocal_keep _ _ _ _ _ _ _ rfl

theorem execCuLdq_keep : ∀ a0 a1 a2 s, KeepR 536870902 s (execCuLdq a0 a1 a2 s) := by
  intro a0 a1 a2 s
  unfold execCuLdq
  exact
    issueLocal_keep _ _ _ _ _ _ _ rfl

theorem execCuDjnz_keep : ∀ a0 a1 a2 s, KeepR 536870902 s (execCuDjnz a0 a1 a2 s) := by
  intro a0 a1 a2 s
  unfold execCuDjnz
  dsimp only
  exact
    issueLocal_keep _ _ _ _ _ _ _ rfl

theorem execCuMovi_keep : ∀ a0 a1 a2 s, KeepR 536870902 s (execCuMovi a0 a1 a2 s) := by
  intro a0 a1 a2 s
  unfold execCuMovi
  exact
    KeepR.mono rfl (immOp_keep _ _ _ _ _ _)

theorem bitBranch_keep : ∀ a0 a1 a2 a3 a4 a5 s, KeepR 536870902 s (bitBranch a0 a1 a2 a3 a4 a5 s) := by
  intro a0 a1 a2 a3 a4 a5 s
  unfold bitBranch
  exact
    issueLocal_keep _ _ _ _ _ _ _ rfl

theorem regOp_keep : ∀ a0 a1 a2 a3 a4 s, KeepR 536870902 s (regOp a0 a1 a2 a3 a4 s) := by
  intro a0 a1 a2 a3 a4 s
  unfold regOp
  exact
    issueLocal_keep _ _ _ _ _ _ _ rfl

theorem execCuOr_keep : ∀ a0 a1 a2 s, KeepR 536870902 s (execCuOr a0 a1 a2 s) := by
  intro a0 a1 a2 s
  unfold execCuOr
  exact
    KeepR.mono rfl (regOp_keep _ _ _ _ _ _)

theorem execCuLrst_keep : ∀ a0 s, KeepR 536870902 s (execCuLrst a0 s) := by
  intro a0 s
  unfold execCuLrst
  exact
    issueBus_keep _ _ _ _ _ _ _ _ rfl (fun d c x => (Keep.on (lunReset_keep _ _) (Keep.on (emit_keep _ _) (Keep.refl _
      _) rfl) rfl))

theorem execCuAdd_keep : ∀ a0 a1 a2 s, KeepR 536870902 s (execCuAdd a0 a1 a2 s) := by
  intro a0 a1 a2 s
  unfold execCuAdd
  exact
    KeepR.mono rfl (regOp_keep _ _ _ _ _ _)

theorem execCuShri_keep : ∀ a0 a1 a2 s, KeepR 536870902 s (execCuShri a0 a1 a2 s) := by
  intro a0 a1 a2 s
  unfold execCuShri
  exact
    KeepR.mono rfl (immOp_keep _ _ _ _ _ _)

theorem execCuCmpi_keep : ∀ a0 a1 a2 s, KeepR 536870902 s (execCuCmpi a0 a1 a2 s) := by
  intro a0 a1 a2 s
  unfold execCuCmpi
  dsimp only
  exact
    issueLocal_keep _ _ _ _ _ _ _ rfl

theorem execCuCmd_keep : ∀ a0 a1 s, KeepR 536870902 s (execCuCmd a0 a1 s) := by
  intro a0 a1 s
  unfold execCuCmd
  exact
    issueBus_keep _ _ _ _ _ _ _ _ rfl (fun d c x => (Keep.on (sendCommand_keep _ _ _ _) (Keep.refl _ _) rfl))

theorem execEventFifoDrain_keep : ∀ s, KeepR 536870902 s (execEventFifoDrain s) := by
  intro s
  unfold execEventFifoDrain
  refine KeepR.next (Keep.ite (Keep.refl _ _) ?_)
  split
  · exact Keep.refl _ _
  · rename_i e rest he
    refine Keep.on (afterDrain_keep _) (Keep.on (writeRecord_keep _ _) (Keep.upd_16777216 rfl (fun h => ⟨h.handles, h.ring,
      h.mail, ⟨?_⟩⟩) (Keep.refl _ _)) rfl) rfl
    have f := h.recorder.fifo
    rw [he] at f
    simp at f ⊢
    omega

theorem execCuLdd_keep : ∀ a0 a1 a2 s, KeepR 536870902 s (execCuLdd a0 a1 a2 s) := by
  intro a0 a1 a2 s
  unfold execCuLdd
  exact
    issueLocal_keep _ _ _ _ _ _ _ rfl

theorem execCuAddi_keep : ∀ a0 a1 a2 s, KeepR 536870902 s (execCuAddi a0 a1 a2 s) := by
  intro a0 a1 a2 s
  unfold execCuAddi
  exact
    KeepR.mono rfl (immOp_keep _ _ _ _ _ _)

theorem execFrameHeader_keep : ∀ s, KeepR 536870902 s (execFrameHeader s) := by
  intro s
  unfold execFrameHeader
  dsimp only
  exact
    KeepR.next (by split; exacts [(Keep.on (runParser_keep _) (Keep.on (bankWritten_keep _ _ _) (Keep.on
      (routeFrame_keep _ _ _) (Keep.on (bankRead_keep _ _ _ _) (Keep.upd_32 rfl (Keep.ite (Keep.on (joinRun_keep _ _ _
      _) (Keep.ite (Keep.on (logEvent_keep _ _ _ _) (Keep.on (closeShort_keep _ _) (Keep.on (logFalse_keep _ _)
      (Keep.refl _ _) rfl) rfl) rfl) (Keep.on (closeShort_keep _ _) (Keep.on (logFalse_keep _ _) (Keep.refl _ _) rfl)
      rfl)) rfl) (Keep.ite (Keep.on (logEvent_keep _ _ _ _) (Keep.on (closeShort_keep _ _) (Keep.on (logFalse_keep _
      _) (Keep.refl _ _) rfl) rfl) rfl) (Keep.on (closeShort_keep _ _) (Keep.on (logFalse_keep _ _) (Keep.refl _ _)
      rfl) rfl)))) rfl) rfl) rfl) rfl), (Keep.refl _ _)])

theorem execCuCmdr_keep : ∀ a0 a1 s, KeepR 536870902 s (execCuCmdr a0 a1 s) := by
  intro a0 a1 s
  unfold execCuCmdr
  exact
    issueBus_keep _ _ _ _ _ _ _ _ rfl (fun d c x => (Keep.on (sendCommand_keep _ _ _ _) (Keep.refl _ _) rfl))

theorem execCuBbc_keep : ∀ a0 a1 a2 a3 s, KeepR 536870902 s (execCuBbc a0 a1 a2 a3 s) := by
  intro a0 a1 a2 a3 s
  unfold execCuBbc
  exact
    KeepR.mono rfl (bitBranch_keep _ _ _ _ _ _ _)

theorem execCuAnd_keep : ∀ a0 a1 a2 s, KeepR 536870902 s (execCuAnd a0 a1 a2 s) := by
  intro a0 a1 a2 s
  unfold execCuAnd
  exact
    KeepR.mono rfl (regOp_keep _ _ _ _ _ _)

theorem flagBranch_keep : ∀ a0 a1 a2 a3 s, KeepR 536870902 s (flagBranch a0 a1 a2 a3 s) := by
  intro a0 a1 a2 a3 s
  unfold flagBranch
  exact
    issueLocal_keep _ _ _ _ _ _ _ rfl

theorem execCuNop_keep : ∀ a0 s, KeepR 536870902 s (execCuNop a0 s) := by
  intro a0 s
  unfold execCuNop
  exact
    issueLocal_keep _ _ _ _ _ _ _ rfl

theorem execCuMov_keep : ∀ a0 a1 a2 s, KeepR 536870902 s (execCuMov a0 a1 a2 s) := by
  intro a0 a1 a2 s
  unfold execCuMov
  exact
    KeepR.mono rfl (regOp_keep _ _ _ _ _ _)

theorem execCuTrain_keep : ∀ a0 a1 s, KeepR 536870902 s (execCuTrain a0 a1 s) := by
  intro a0 a1 s
  unfold execCuTrain
  dsimp only
  exact
    issueBus_keep _ _ _ _ _ _ _ _ rfl (fun d c x => (Keep.foldl _ _ _ (fun _ _ => (Keep.on (markStale_keep _ _ _)
      (Keep.refl _ _) rfl)) (Keep.on (updateDie_keep _ _ _) (Keep.on (emit_keep _ _) (Keep.upd_268435456 rfl
      (Keep.refl _ _)) rfl) rfl)))

theorem execDramAccess_keep : ∀ a0 s, KeepR 536870902 s (execDramAccess a0 s) := by
  intro a0 s
  unfold execDramAccess
  dsimp only
  exact
    KeepR.next (Keep.ite (Keep.ite (Keep.on (updateDram_keep _ _ _) (Keep.refl _ _) rfl) (Keep.refl _ _))
      (by split; exacts [(Keep.on (updateDram_keep _ _ _) (Keep.upd_1048576 rfl (Keep.ite (Keep.on (updateDram_keep _
      _ _) (Keep.refl _ _) rfl) (Keep.refl _ _))) rfl), (Keep.on (burstChecked_keep _ _ _ _) (Keep.on (updateDram_keep
      _ _ _) (Keep.on (updateDram_keep _ _ _) (Keep.upd_1048576 rfl (Keep.ite (Keep.on (updateDram_keep _ _ _)
      (Keep.refl _ _) rfl) (Keep.refl _ _))) rfl) rfl) rfl)]))

theorem execCuSetf_keep : ∀ a0 a1 a2 s, KeepR 536870902 s (execCuSetf a0 a1 a2 s) := by
  intro a0 a1 a2 s
  unfold execCuSetf
  exact
    issueBus_keep _ _ _ _ _ _ _ _ rfl (fun d c x => (Keep.on (emit_keep _ _) (Keep.refl _ _) rfl))

theorem execCuBnz_keep : ∀ a0 a1 s, KeepR 536870902 s (execCuBnz a0 a1 s) := by
  intro a0 a1 s
  unfold execCuBnz
  exact
    KeepR.mono rfl (flagBranch_keep _ _ _ _ _)

theorem execCuJmp_keep : ∀ a0 a1 s, KeepR 536870902 s (execCuJmp a0 a1 s) := by
  intro a0 a1 s
  unfold execCuJmp
  exact
    KeepR.mono rfl (flagBranch_keep _ _ _ _ _)

theorem execCuBz_keep : ∀ a0 a1 s, KeepR 536870902 s (execCuBz a0 a1 s) := by
  intro a0 a1 s
  unfold execCuBz
  exact
    KeepR.mono rfl (flagBranch_keep _ _ _ _ _)

theorem execCuSub_keep : ∀ a0 a1 a2 s, KeepR 536870902 s (execCuSub a0 a1 a2 s) := by
  intro a0 a1 a2 s
  unfold execCuSub
  exact
    KeepR.mono rfl (regOp_keep _ _ _ _ _ _)

theorem execCuShli_keep : ∀ a0 a1 a2 s, KeepR 536870902 s (execCuShli a0 a1 a2 s) := by
  intro a0 a1 a2 s
  unfold execCuShli
  exact
    KeepR.mono rfl (immOp_keep _ _ _ _ _ _)

theorem execCuBbs_keep : ∀ a0 a1 a2 a3 s, KeepR 536870902 s (execCuBbs a0 a1 a2 a3 s) := by
  intro a0 a1 a2 a3 s
  unfold execCuBbs
  exact
    KeepR.mono rfl (bitBranch_keep _ _ _ _ _ _ _)

end Sys2Proof.Laws
end

