-- ==== Sys2Proof/Laws/State.lean ====
section
/-! SUPPORT. What each update of State does to each of its fields: proofs rewrite with these and unfold no record update. -/

namespace Sys2Proof.Laws

open Sys2Proof Sys2Proof.Machine

@[simp] theorem emit_pending (o : Out) (s : State) : (emit o s).pending = s.pending := rfl
@[simp] theorem emit_life (o : Out) (s : State) : (emit o s).life = s.life := rfl
@[simp] theorem emit_clk (o : Out) (s : State) : (emit o s).clk = s.clk := rfl
@[simp] theorem emit_board (o : Out) (s : State) : (emit o s).board = s.board := rfl
@[simp] theorem emit_link (o : Out) (s : State) : (emit o s).link = s.link := rfl
@[simp] theorem emit_parse (o : Out) (s : State) : (emit o s).parse = s.parse := rfl
@[simp] theorem emit_str (o : Out) (s : State) : (emit o s).str = s.str := rfl
@[simp] theorem emit_ord (o : Out) (s : State) : (emit o s).ord = s.ord := rfl
@[simp] theorem emit_nv (o : Out) (s : State) : (emit o s).nv = s.nv := rfl
@[simp] theorem emit_mbx (o : Out) (s : State) : (emit o s).mbx = s.mbx := rfl
@[simp] theorem emit_i3c (o : Out) (s : State) : (emit o s).i3c = s.i3c := rfl
@[simp] theorem emit_hnd (o : Out) (s : State) : (emit o s).hnd = s.hnd := rfl
@[simp] theorem emit_crg (o : Out) (s : State) : (emit o s).crg = s.crg := rfl
@[simp] theorem emit_pins (o : Out) (s : State) : (emit o s).pins = s.pins := rfl
@[simp] theorem emit_pwr (o : Out) (s : State) : (emit o s).pwr = s.pwr := rfl
@[simp] theorem emit_hup (o : Out) (s : State) : (emit o s).hup = s.hup := rfl
@[simp] theorem emit_thm (o : Out) (s : State) : (emit o s).thm = s.thm := rfl
@[simp] theorem emit_map (o : Out) (s : State) : (emit o s).map = s.map := rfl
@[simp] theorem emit_med (o : Out) (s : State) : (emit o s).med = s.med := rfl
@[simp] theorem emit_intg (o : Out) (s : State) : (emit o s).intg = s.intg := rfl
@[simp] theorem emit_dram (o : Out) (s : State) : (emit o s).dram = s.dram := rfl
@[simp] theorem emit_sram (o : Out) (s : State) : (emit o s).sram = s.sram := rfl
@[simp] theorem emit_nor (o : Out) (s : State) : (emit o s).nor = s.nor := rfl
@[simp] theorem emit_st (o : Out) (s : State) : (emit o s).st = s.st := rfl
@[simp] theorem emit_evr (o : Out) (s : State) : (emit o s).evr = s.evr := rfl
@[simp] theorem emit_sec (o : Out) (s : State) : (emit o s).sec = s.sec := rfl
@[simp] theorem emit_reg (o : Out) (s : State) : (emit o s).reg = s.reg := rfl
@[simp] theorem emit_out (o : Out) (s : State) : (emit o s).out = o :: s.out := rfl
@[simp] theorem emit_free (o : Out) (s : State) : (emit o s).free = s.free := rfl

@[simp] theorem drawn_pending (s : State) : (drawn s).pending = s.pending := rfl
@[simp] theorem drawn_life (s : State) : (drawn s).life = s.life := rfl
@[simp] theorem drawn_clk (s : State) : (drawn s).clk = s.clk := rfl
@[simp] theorem drawn_board (s : State) : (drawn s).board = s.board := rfl
@[simp] theorem drawn_link (s : State) : (drawn s).link = s.link := rfl
@[simp] theorem drawn_parse (s : State) : (drawn s).parse = s.parse := rfl
@[simp] theorem drawn_str (s : State) : (drawn s).str = s.str := rfl
@[simp] theorem drawn_ord (s : State) : (drawn s).ord = s.ord := rfl
@[simp] theorem drawn_nv (s : State) : (drawn s).nv = s.nv := rfl
@[simp] theorem drawn_mbx (s : State) : (drawn s).mbx = s.mbx := rfl
@[simp] theorem drawn_i3c (s : State) : (drawn s).i3c = s.i3c := rfl
@[simp] theorem drawn_hnd (s : State) : (drawn s).hnd = s.hnd := rfl
@[simp] theorem drawn_crg (s : State) : (drawn s).crg = s.crg := rfl
@[simp] theorem drawn_pins (s : State) : (drawn s).pins = s.pins := rfl
@[simp] theorem drawn_pwr (s : State) : (drawn s).pwr = s.pwr := rfl
@[simp] theorem drawn_hup (s : State) : (drawn s).hup = s.hup := rfl
@[simp] theorem drawn_thm (s : State) : (drawn s).thm = s.thm := rfl
@[simp] theorem drawn_map (s : State) : (drawn s).map = s.map := rfl
@[simp] theorem drawn_med (s : State) : (drawn s).med = s.med := rfl
@[simp] theorem drawn_intg (s : State) : (drawn s).intg = s.intg := rfl
@[simp] theorem drawn_dram (s : State) : (drawn s).dram = s.dram := rfl
@[simp] theorem drawn_sram (s : State) : (drawn s).sram = s.sram := rfl
@[simp] theorem drawn_nor (s : State) : (drawn s).nor = s.nor := rfl
@[simp] theorem drawn_st (s : State) : (drawn s).st = s.st := rfl
@[simp] theorem drawn_evr (s : State) : (drawn s).evr = s.evr := rfl
@[simp] theorem drawn_sec (s : State) : (drawn s).sec = s.sec := rfl
@[simp] theorem drawn_reg (s : State) : (drawn s).reg = s.reg := rfl
@[simp] theorem drawn_out (s : State) : (drawn s).out = s.out := rfl
@[simp] theorem drawn_free (s : State) : (drawn s).free = s.free + 1 := rfl

@[simp] theorem updateStream_pending (k : Nat) (f : Stream → Stream) (s : State) :
    (updateStream k f s).pending = s.pending := rfl
@[simp] theorem updateStream_life (k : Nat) (f : Stream → Stream) (s : State) :
    (updateStream k f s).life = s.life := rfl
@[simp] theorem updateStream_clk (k : Nat) (f : Stream → Stream) (s : State) : (updateStream k f s).clk = s.clk := rfl
@[simp] theorem updateStream_board (k : Nat) (f : Stream → Stream) (s : State) :
    (updateStream k f s).board = s.board := rfl
@[simp] theorem updateStream_link (k : Nat) (f : Stream → Stream) (s : State) :
    (updateStream k f s).link = s.link := rfl
@[simp] theorem updateStream_parse (k : Nat) (f : Stream → Stream) (s : State) :
    (updateStream k f s).parse = s.parse := rfl
@[simp] theorem updateStream_str (k : Nat) (f : Stream → Stream) (s : State) :
    (updateStream k f s).str = { s.str with list := changeWhere (fun x => x.sid == k) f s.str.list } := rfl
@[simp] theorem updateStream_ord (k : Nat) (f : Stream → Stream) (s : State) : (updateStream k f s).ord = s.ord := rfl
@[simp] theorem updateStream_nv (k : Nat) (f : Stream → Stream) (s : State) : (updateStream k f s).nv = s.nv := rfl
@[simp] theorem updateStream_mbx (k : Nat) (f : Stream → Stream) (s : State) : (updateStream k f s).mbx = s.mbx := rfl
@[simp] theorem updateStream_i3c (k : Nat) (f : Stream → Stream) (s : State) : (updateStream k f s).i3c = s.i3c := rfl
@[simp] theorem updateStream_hnd (k : Nat) (f : Stream → Stream) (s : State) : (updateStream k f s).hnd = s.hnd := rfl
@[simp] theorem updateStream_crg (k : Nat) (f : Stream → Stream) (s : State) : (updateStream k f s).crg = s.crg := rfl
@[simp] theorem updateStream_pins (k : Nat) (f : Stream → Stream) (s : State) :
    (updateStream k f s).pins = s.pins := rfl
@[simp] theorem updateStream_pwr (k : Nat) (f : Stream → Stream) (s : State) : (updateStream k f s).pwr = s.pwr := rfl
@[simp] theorem updateStream_hup (k : Nat) (f : Stream → Stream) (s : State) : (updateStream k f s).hup = s.hup := rfl
@[simp] theorem updateStream_thm (k : Nat) (f : Stream → Stream) (s : State) : (updateStream k f s).thm = s.thm := rfl
@[simp] theorem updateStream_map (k : Nat) (f : Stream → Stream) (s : State) : (updateStream k f s).map = s.map := rfl
@[simp] theorem updateStream_med (k : Nat) (f : Stream → Stream) (s : State) : (updateStream k f s).med = s.med := rfl
@[simp] theorem updateStream_intg (k : Nat) (f : Stream → Stream) (s : State) :
    (updateStream k f s).intg = s.intg := rfl
@[simp] theorem updateStream_dram (k : Nat) (f : Stream → Stream) (s : State) :
    (updateStream k f s).dram = s.dram := rfl
@[simp] theorem updateStream_sram (k : Nat) (f : Stream → Stream) (s : State) :
    (updateStream k f s).sram = s.sram := rfl
@[simp] theorem updateStream_nor (k : Nat) (f : Stream → Stream) (s : State) : (updateStream k f s).nor = s.nor := rfl
@[simp] theorem updateStream_st (k : Nat) (f : Stream → Stream) (s : State) : (updateStream k f s).st = s.st := rfl
@[simp] theorem updateStream_evr (k : Nat) (f : Stream → Stream) (s : State) : (updateStream k f s).evr = s.evr := rfl
@[simp] theorem updateStream_sec (k : Nat) (f : Stream → Stream) (s : State) : (updateStream k f s).sec = s.sec := rfl
@[simp] theorem updateStream_reg (k : Nat) (f : Stream → Stream) (s : State) : (updateStream k f s).reg = s.reg := rfl
@[simp] theorem updateStream_out (k : Nat) (f : Stream → Stream) (s : State) : (updateStream k f s).out = s.out := rfl
@[simp] theorem updateStream_free (k : Nat) (f : Stream → Stream) (s : State) :
    (updateStream k f s).free = s.free := rfl

@[simp] theorem updateSb_pending (k : Nat) (f : Superblock → Superblock) (s : State) :
    (updateSb k f s).pending = s.pending := rfl
@[simp] theorem updateSb_life (k : Nat) (f : Superblock → Superblock) (s : State) :
    (updateSb k f s).life = s.life := rfl
@[simp] theorem updateSb_clk (k : Nat) (f : Superblock → Superblock) (s : State) : (updateSb k f s).clk = s.clk := rfl
@[simp] theorem updateSb_board (k : Nat) (f : Superblock → Superblock) (s : State) :
    (updateSb k f s).board = s.board := rfl
@[simp] theorem updateSb_link (k : Nat) (f : Superblock → Superblock) (s : State) :
    (updateSb k f s).link = s.link := rfl
@[simp] theorem updateSb_parse (k : Nat) (f : Superblock → Superblock) (s : State) :
    (updateSb k f s).parse = s.parse := rfl
@[simp] theorem updateSb_str (k : Nat) (f : Superblock → Superblock) (s : State) : (updateSb k f s).str = s.str := rfl
@[simp] theorem updateSb_ord (k : Nat) (f : Superblock → Superblock) (s : State) : (updateSb k f s).ord = s.ord := rfl
@[simp] theorem updateSb_nv (k : Nat) (f : Superblock → Superblock) (s : State) : (updateSb k f s).nv = s.nv := rfl
@[simp] theorem updateSb_mbx (k : Nat) (f : Superblock → Superblock) (s : State) : (updateSb k f s).mbx = s.mbx := rfl
@[simp] theorem updateSb_i3c (k : Nat) (f : Superblock → Superblock) (s : State) : (updateSb k f s).i3c = s.i3c := rfl
@[simp] theorem updateSb_hnd (k : Nat) (f : Superblock → Superblock) (s : State) : (updateSb k f s).hnd = s.hnd := rfl
@[simp] theorem updateSb_crg (k : Nat) (f : Superblock → Superblock) (s : State) : (updateSb k f s).crg = s.crg := rfl
@[simp] theorem updateSb_pins (k : Nat) (f : Superblock → Superblock) (s : State) :
    (updateSb k f s).pins = s.pins := rfl
@[simp] theorem updateSb_pwr (k : Nat) (f : Superblock → Superblock) (s : State) : (updateSb k f s).pwr = s.pwr := rfl
@[simp] theorem updateSb_hup (k : Nat) (f : Superblock → Superblock) (s : State) : (updateSb k f s).hup = s.hup := rfl
@[simp] theorem updateSb_thm (k : Nat) (f : Superblock → Superblock) (s : State) : (updateSb k f s).thm = s.thm := rfl
@[simp] theorem updateSb_map (k : Nat) (f : Superblock → Superblock) (s : State) :
    (updateSb k f s).map = { s.map with sbs := changeWhere (fun b => b.number == k) f s.map.sbs } := rfl
@[simp] theorem updateSb_med (k : Nat) (f : Superblock → Superblock) (s : State) : (updateSb k f s).med = s.med := rfl
@[simp] theorem updateSb_intg (k : Nat) (f : Superblock → Superblock) (s : State) :
    (updateSb k f s).intg = s.intg := rfl
@[simp] theorem updateSb_dram (k : Nat) (f : Superblock → Superblock) (s : State) :
    (updateSb k f s).dram = s.dram := rfl
@[simp] theorem updateSb_sram (k : Nat) (f : Superblock → Superblock) (s : State) :
    (updateSb k f s).sram = s.sram := rfl
@[simp] theorem updateSb_nor (k : Nat) (f : Superblock → Superblock) (s : State) : (updateSb k f s).nor = s.nor := rfl
@[simp] theorem updateSb_st (k : Nat) (f : Superblock → Superblock) (s : State) : (updateSb k f s).st = s.st := rfl
@[simp] theorem updateSb_evr (k : Nat) (f : Superblock → Superblock) (s : State) : (updateSb k f s).evr = s.evr := rfl
@[simp] theorem updateSb_sec (k : Nat) (f : Superblock → Superblock) (s : State) : (updateSb k f s).sec = s.sec := rfl
@[simp] theorem updateSb_reg (k : Nat) (f : Superblock → Superblock) (s : State) : (updateSb k f s).reg = s.reg := rfl
@[simp] theorem updateSb_out (k : Nat) (f : Superblock → Superblock) (s : State) : (updateSb k f s).out = s.out := rfl
@[simp] theorem updateSb_free (k : Nat) (f : Superblock → Superblock) (s : State) :
    (updateSb k f s).free = s.free := rfl

@[simp] theorem updateDie_pending (k : Nat) (f : Die → Die) (s : State) : (updateDie k f s).pending = s.pending := rfl
@[simp] theorem updateDie_life (k : Nat) (f : Die → Die) (s : State) : (updateDie k f s).life = s.life := rfl
@[simp] theorem updateDie_clk (k : Nat) (f : Die → Die) (s : State) : (updateDie k f s).clk = s.clk := rfl
@[simp] theorem updateDie_board (k : Nat) (f : Die → Die) (s : State) : (updateDie k f s).board = s.board := rfl
@[simp] theorem updateDie_link (k : Nat) (f : Die → Die) (s : State) : (updateDie k f s).link = s.link := rfl
@[simp] theorem updateDie_parse (k : Nat) (f : Die → Die) (s : State) : (updateDie k f s).parse = s.parse := rfl
@[simp] theorem updateDie_str (k : Nat) (f : Die → Die) (s : State) : (updateDie k f s).str = s.str := rfl
@[simp] theorem updateDie_ord (k : Nat) (f : Die → Die) (s : State) : (updateDie k f s).ord = s.ord := rfl
@[simp] theorem updateDie_nv (k : Nat) (f : Die → Die) (s : State) : (updateDie k f s).nv = s.nv := rfl
@[simp] theorem updateDie_mbx (k : Nat) (f : Die → Die) (s : State) : (updateDie k f s).mbx = s.mbx := rfl
@[simp] theorem updateDie_i3c (k : Nat) (f : Die → Die) (s : State) : (updateDie k f s).i3c = s.i3c := rfl
@[simp] theorem updateDie_hnd (k : Nat) (f : Die → Die) (s : State) : (updateDie k f s).hnd = s.hnd := rfl
@[simp] theorem updateDie_crg (k : Nat) (f : Die → Die) (s : State) : (updateDie k f s).crg = s.crg := rfl
@[simp] theorem updateDie_pins (k : Nat) (f : Die → Die) (s : State) : (updateDie k f s).pins = s.pins := rfl
@[simp] theorem updateDie_pwr (k : Nat) (f : Die → Die) (s : State) : (updateDie k f s).pwr = s.pwr := rfl
@[simp] theorem updateDie_hup (k : Nat) (f : Die → Die) (s : State) : (updateDie k f s).hup = s.hup := rfl
@[simp] theorem updateDie_thm (k : Nat) (f : Die → Die) (s : State) : (updateDie k f s).thm = s.thm := rfl
@[simp] theorem updateDie_map (k : Nat) (f : Die → Die) (s : State) : (updateDie k f s).map = s.map := rfl
@[simp] theorem updateDie_med (k : Nat) (f : Die → Die) (s : State) :
    (updateDie k f s).med = { s.med with dies := changeWhere (fun x => x.index == k) f s.med.dies } := rfl
@[simp] theorem updateDie_intg (k : Nat) (f : Die → Die) (s : State) : (updateDie k f s).intg = s.intg := rfl
@[simp] theorem updateDie_dram (k : Nat) (f : Die → Die) (s : State) : (updateDie k f s).dram = s.dram := rfl
@[simp] theorem updateDie_sram (k : Nat) (f : Die → Die) (s : State) : (updateDie k f s).sram = s.sram := rfl
@[simp] theorem updateDie_nor (k : Nat) (f : Die → Die) (s : State) : (updateDie k f s).nor = s.nor := rfl
@[simp] theorem updateDie_st (k : Nat) (f : Die → Die) (s : State) : (updateDie k f s).st = s.st := rfl
@[simp] theorem updateDie_evr (k : Nat) (f : Die → Die) (s : State) : (updateDie k f s).evr = s.evr := rfl
@[simp] theorem updateDie_sec (k : Nat) (f : Die → Die) (s : State) : (updateDie k f s).sec = s.sec := rfl
@[simp] theorem updateDie_reg (k : Nat) (f : Die → Die) (s : State) : (updateDie k f s).reg = s.reg := rfl
@[simp] theorem updateDie_out (k : Nat) (f : Die → Die) (s : State) : (updateDie k f s).out = s.out := rfl
@[simp] theorem updateDie_free (k : Nat) (f : Die → Die) (s : State) : (updateDie k f s).free = s.free := rfl

@[simp] theorem updateChan_pending (k : Nat) (f : Channel → Channel) (s : State) :
    (updateChan k f s).pending = s.pending := rfl
@[simp] theorem updateChan_life (k : Nat) (f : Channel → Channel) (s : State) : (updateChan k f s).life = s.life := rfl
@[simp] theorem updateChan_clk (k : Nat) (f : Channel → Channel) (s : State) : (updateChan k f s).clk = s.clk := rfl
@[simp] theorem updateChan_board (k : Nat) (f : Channel → Channel) (s : State) :
    (updateChan k f s).board = s.board := rfl
@[simp] theorem updateChan_link (k : Nat) (f : Channel → Channel) (s : State) : (updateChan k f s).link = s.link := rfl
@[simp] theorem updateChan_parse (k : Nat) (f : Channel → Channel) (s : State) :
    (updateChan k f s).parse = s.parse := rfl
@[simp] theorem updateChan_str (k : Nat) (f : Channel → Channel) (s : State) : (updateChan k f s).str = s.str := rfl
@[simp] theorem updateChan_ord (k : Nat) (f : Channel → Channel) (s : State) : (updateChan k f s).ord = s.ord := rfl
@[simp] theorem updateChan_nv (k : Nat) (f : Channel → Channel) (s : State) : (updateChan k f s).nv = s.nv := rfl
@[simp] theorem updateChan_mbx (k : Nat) (f : Channel → Channel) (s : State) : (updateChan k f s).mbx = s.mbx := rfl
@[simp] theorem updateChan_i3c (k : Nat) (f : Channel → Channel) (s : State) : (updateChan k f s).i3c = s.i3c := rfl
@[simp] theorem updateChan_hnd (k : Nat) (f : Channel → Channel) (s : State) : (updateChan k f s).hnd = s.hnd := rfl
@[simp] theorem updateChan_crg (k : Nat) (f : Channel → Channel) (s : State) : (updateChan k f s).crg = s.crg := rfl
@[simp] theorem updateChan_pins (k : Nat) (f : Channel → Channel) (s : State) : (updateChan k f s).pins = s.pins := rfl
@[simp] theorem updateChan_pwr (k : Nat) (f : Channel → Channel) (s : State) : (updateChan k f s).pwr = s.pwr := rfl
@[simp] theorem updateChan_hup (k : Nat) (f : Channel → Channel) (s : State) : (updateChan k f s).hup = s.hup := rfl
@[simp] theorem updateChan_thm (k : Nat) (f : Channel → Channel) (s : State) : (updateChan k f s).thm = s.thm := rfl
@[simp] theorem updateChan_map (k : Nat) (f : Channel → Channel) (s : State) : (updateChan k f s).map = s.map := rfl
@[simp] theorem updateChan_med (k : Nat) (f : Channel → Channel) (s : State) :
    (updateChan k f s).med = { s.med with channels := s.med.channels.modify k f } := rfl
@[simp] theorem updateChan_intg (k : Nat) (f : Channel → Channel) (s : State) : (updateChan k f s).intg = s.intg := rfl
@[simp] theorem updateChan_dram (k : Nat) (f : Channel → Channel) (s : State) : (updateChan k f s).dram = s.dram := rfl
@[simp] theorem updateChan_sram (k : Nat) (f : Channel → Channel) (s : State) : (updateChan k f s).sram = s.sram := rfl
@[simp] theorem updateChan_nor (k : Nat) (f : Channel → Channel) (s : State) : (updateChan k f s).nor = s.nor := rfl
@[simp] theorem updateChan_st (k : Nat) (f : Channel → Channel) (s : State) : (updateChan k f s).st = s.st := rfl
@[simp] theorem updateChan_evr (k : Nat) (f : Channel → Channel) (s : State) : (updateChan k f s).evr = s.evr := rfl
@[simp] theorem updateChan_sec (k : Nat) (f : Channel → Channel) (s : State) : (updateChan k f s).sec = s.sec := rfl
@[simp] theorem updateChan_reg (k : Nat) (f : Channel → Channel) (s : State) : (updateChan k f s).reg = s.reg := rfl
@[simp] theorem updateChan_out (k : Nat) (f : Channel → Channel) (s : State) : (updateChan k f s).out = s.out := rfl
@[simp] theorem updateChan_free (k : Nat) (f : Channel → Channel) (s : State) : (updateChan k f s).free = s.free := rfl

@[simp] theorem updateDram_pending (k : Nat) (f : DramChannel → DramChannel) (s : State) :
    (updateDram k f s).pending = s.pending := rfl
@[simp] theorem updateDram_life (k : Nat) (f : DramChannel → DramChannel) (s : State) :
    (updateDram k f s).life = s.life := rfl
@[simp] theorem updateDram_clk (k : Nat) (f : DramChannel → DramChannel) (s : State) :
    (updateDram k f s).clk = s.clk := rfl
@[simp] theorem updateDram_board (k : Nat) (f : DramChannel → DramChannel) (s : State) :
    (updateDram k f s).board = s.board := rfl
@[simp] theorem updateDram_link (k : Nat) (f : DramChannel → DramChannel) (s : State) :
    (updateDram k f s).link = s.link := rfl
@[simp] theorem updateDram_parse (k : Nat) (f : DramChannel → DramChannel) (s : State) :
    (updateDram k f s).parse = s.parse := rfl
@[simp] theorem updateDram_str (k : Nat) (f : DramChannel → DramChannel) (s : State) :
    (updateDram k f s).str = s.str := rfl
@[simp] theorem updateDram_ord (k : Nat) (f : DramChannel → DramChannel) (s : State) :
    (updateDram k f s).ord = s.ord := rfl
@[simp] theorem updateDram_nv (k : Nat) (f : DramChannel → DramChannel) (s : State) :
    (updateDram k f s).nv = s.nv := rfl
@[simp] theorem updateDram_mbx (k : Nat) (f : DramChannel → DramChannel) (s : State) :
    (updateDram k f s).mbx = s.mbx := rfl
@[simp] theorem updateDram_i3c (k : Nat) (f : DramChannel → DramChannel) (s : State) :
    (updateDram k f s).i3c = s.i3c := rfl
@[simp] theorem updateDram_hnd (k : Nat) (f : DramChannel → DramChannel) (s : State) :
    (updateDram k f s).hnd = s.hnd := rfl
@[simp] theorem updateDram_crg (k : Nat) (f : DramChannel → DramChannel) (s : State) :
    (updateDram k f s).crg = s.crg := rfl
@[simp] theorem updateDram_pins (k : Nat) (f : DramChannel → DramChannel) (s : State) :
    (updateDram k f s).pins = s.pins := rfl
@[simp] theorem updateDram_pwr (k : Nat) (f : DramChannel → DramChannel) (s : State) :
    (updateDram k f s).pwr = s.pwr := rfl
@[simp] theorem updateDram_hup (k : Nat) (f : DramChannel → DramChannel) (s : State) :
    (updateDram k f s).hup = s.hup := rfl
@[simp] theorem updateDram_thm (k : Nat) (f : DramChannel → DramChannel) (s : State) :
    (updateDram k f s).thm = s.thm := rfl
@[simp] theorem updateDram_map (k : Nat) (f : DramChannel → DramChannel) (s : State) :
    (updateDram k f s).map = s.map := rfl
@[simp] theorem updateDram_med (k : Nat) (f : DramChannel → DramChannel) (s : State) :
    (updateDram k f s).med = s.med := rfl
@[simp] theorem updateDram_intg (k : Nat) (f : DramChannel → DramChannel) (s : State) :
    (updateDram k f s).intg = s.intg := rfl
@[simp] theorem updateDram_dram (k : Nat) (f : DramChannel → DramChannel) (s : State) :
    (updateDram k f s).dram = { s.dram with channels := s.dram.channels.modify k f } := rfl
@[simp] theorem updateDram_sram (k : Nat) (f : DramChannel → DramChannel) (s : State) :
    (updateDram k f s).sram = s.sram := rfl
@[simp] theorem updateDram_nor (k : Nat) (f : DramChannel → DramChannel) (s : State) :
    (updateDram k f s).nor = s.nor := rfl
@[simp] theorem updateDram_st (k : Nat) (f : DramChannel → DramChannel) (s : State) :
    (updateDram k f s).st = s.st := rfl
@[simp] theorem updateDram_evr (k : Nat) (f : DramChannel → DramChannel) (s : State) :
    (updateDram k f s).evr = s.evr := rfl
@[simp] theorem updateDram_sec (k : Nat) (f : DramChannel → DramChannel) (s : State) :
    (updateDram k f s).sec = s.sec := rfl
@[simp] theorem updateDram_reg (k : Nat) (f : DramChannel → DramChannel) (s : State) :
    (updateDram k f s).reg = s.reg := rfl
@[simp] theorem updateDram_out (k : Nat) (f : DramChannel → DramChannel) (s : State) :
    (updateDram k f s).out = s.out := rfl
@[simp] theorem updateDram_free (k : Nat) (f : DramChannel → DramChannel) (s : State) :
    (updateDram k f s).free = s.free := rfl

@[simp] theorem updateLane_pending (k : Nat) (f : Lane → Lane) (s : State) :
    (updateLane k f s).pending = s.pending := rfl
@[simp] theorem updateLane_life (k : Nat) (f : Lane → Lane) (s : State) : (updateLane k f s).life = s.life := rfl
@[simp] theorem updateLane_clk (k : Nat) (f : Lane → Lane) (s : State) : (updateLane k f s).clk = s.clk := rfl
@[simp] theorem updateLane_board (k : Nat) (f : Lane → Lane) (s : State) : (updateLane k f s).board = s.board := rfl
@[simp] theorem updateLane_link (k : Nat) (f : Lane → Lane) (s : State) :
    (updateLane k f s).link = { s.link with lanes := s.link.lanes.modify k f } := rfl
@[simp] theorem updateLane_parse (k : Nat) (f : Lane → Lane) (s : State) : (updateLane k f s).parse = s.parse := rfl
@[simp] theorem updateLane_str (k : Nat) (f : Lane → Lane) (s : State) : (updateLane k f s).str = s.str := rfl
@[simp] theorem updateLane_ord (k : Nat) (f : Lane → Lane) (s : State) : (updateLane k f s).ord = s.ord := rfl
@[simp] theorem updateLane_nv (k : Nat) (f : Lane → Lane) (s : State) : (updateLane k f s).nv = s.nv := rfl
@[simp] theorem updateLane_mbx (k : Nat) (f : Lane → Lane) (s : State) : (updateLane k f s).mbx = s.mbx := rfl
@[simp] theorem updateLane_i3c (k : Nat) (f : Lane → Lane) (s : State) : (updateLane k f s).i3c = s.i3c := rfl
@[simp] theorem updateLane_hnd (k : Nat) (f : Lane → Lane) (s : State) : (updateLane k f s).hnd = s.hnd := rfl
@[simp] theorem updateLane_crg (k : Nat) (f : Lane → Lane) (s : State) : (updateLane k f s).crg = s.crg := rfl
@[simp] theorem updateLane_pins (k : Nat) (f : Lane → Lane) (s : State) : (updateLane k f s).pins = s.pins := rfl
@[simp] theorem updateLane_pwr (k : Nat) (f : Lane → Lane) (s : State) : (updateLane k f s).pwr = s.pwr := rfl
@[simp] theorem updateLane_hup (k : Nat) (f : Lane → Lane) (s : State) : (updateLane k f s).hup = s.hup := rfl
@[simp] theorem updateLane_thm (k : Nat) (f : Lane → Lane) (s : State) : (updateLane k f s).thm = s.thm := rfl
@[simp] theorem updateLane_map (k : Nat) (f : Lane → Lane) (s : State) : (updateLane k f s).map = s.map := rfl
@[simp] theorem updateLane_med (k : Nat) (f : Lane → Lane) (s : State) : (updateLane k f s).med = s.med := rfl
@[simp] theorem updateLane_intg (k : Nat) (f : Lane → Lane) (s : State) : (updateLane k f s).intg = s.intg := rfl
@[simp] theorem updateLane_dram (k : Nat) (f : Lane → Lane) (s : State) : (updateLane k f s).dram = s.dram := rfl
@[simp] theorem updateLane_sram (k : Nat) (f : Lane → Lane) (s : State) : (updateLane k f s).sram = s.sram := rfl
@[simp] theorem updateLane_nor (k : Nat) (f : Lane → Lane) (s : State) : (updateLane k f s).nor = s.nor := rfl
@[simp] theorem updateLane_st (k : Nat) (f : Lane → Lane) (s : State) : (updateLane k f s).st = s.st := rfl
@[simp] theorem updateLane_evr (k : Nat) (f : Lane → Lane) (s : State) : (updateLane k f s).evr = s.evr := rfl
@[simp] theorem updateLane_sec (k : Nat) (f : Lane → Lane) (s : State) : (updateLane k f s).sec = s.sec := rfl
@[simp] theorem updateLane_reg (k : Nat) (f : Lane → Lane) (s : State) : (updateLane k f s).reg = s.reg := rfl
@[simp] theorem updateLane_out (k : Nat) (f : Lane → Lane) (s : State) : (updateLane k f s).out = s.out := rfl
@[simp] theorem updateLane_free (k : Nat) (f : Lane → Lane) (s : State) : (updateLane k f s).free = s.free := rfl

@[simp] theorem appendSlot_pending (x : Slot) (s : State) : (appendSlot x s).pending = s.pending := rfl
@[simp] theorem appendSlot_life (x : Slot) (s : State) : (appendSlot x s).life = s.life := rfl
@[simp] theorem appendSlot_clk (x : Slot) (s : State) : (appendSlot x s).clk = s.clk := rfl
@[simp] theorem appendSlot_board (x : Slot) (s : State) : (appendSlot x s).board = s.board := rfl
@[simp] theorem appendSlot_link (x : Slot) (s : State) : (appendSlot x s).link = s.link := rfl
@[simp] theorem appendSlot_parse (x : Slot) (s : State) : (appendSlot x s).parse = s.parse := rfl
@[simp] theorem appendSlot_str (x : Slot) (s : State) : (appendSlot x s).str = s.str := rfl
@[simp] theorem appendSlot_ord (x : Slot) (s : State) : (appendSlot x s).ord = s.ord := rfl
@[simp] theorem appendSlot_nv (x : Slot) (s : State) : (appendSlot x s).nv = s.nv := rfl
@[simp] theorem appendSlot_mbx (x : Slot) (s : State) : (appendSlot x s).mbx = s.mbx := rfl
@[simp] theorem appendSlot_i3c (x : Slot) (s : State) : (appendSlot x s).i3c = s.i3c := rfl
@[simp] theorem appendSlot_hnd (x : Slot) (s : State) : (appendSlot x s).hnd = s.hnd := rfl
@[simp] theorem appendSlot_crg (x : Slot) (s : State) : (appendSlot x s).crg = s.crg := rfl
@[simp] theorem appendSlot_pins (x : Slot) (s : State) : (appendSlot x s).pins = s.pins := rfl
@[simp] theorem appendSlot_pwr (x : Slot) (s : State) : (appendSlot x s).pwr = s.pwr := rfl
@[simp] theorem appendSlot_hup (x : Slot) (s : State) : (appendSlot x s).hup = s.hup := rfl
@[simp] theorem appendSlot_thm (x : Slot) (s : State) : (appendSlot x s).thm = s.thm := rfl
@[simp] theorem appendSlot_map (x : Slot) (s : State) :
    (appendSlot x s).map = { s.map with pendingSlots := s.map.pendingSlots ++ [x] } := rfl
@[simp] theorem appendSlot_med (x : Slot) (s : State) : (appendSlot x s).med = s.med := rfl
@[simp] theorem appendSlot_intg (x : Slot) (s : State) : (appendSlot x s).intg = s.intg := rfl
@[simp] theorem appendSlot_dram (x : Slot) (s : State) : (appendSlot x s).dram = s.dram := rfl
@[simp] theorem appendSlot_sram (x : Slot) (s : State) : (appendSlot x s).sram = s.sram := rfl
@[simp] theorem appendSlot_nor (x : Slot) (s : State) : (appendSlot x s).nor = s.nor := rfl
@[simp] theorem appendSlot_st (x : Slot) (s : State) : (appendSlot x s).st = s.st := rfl
@[simp] theorem appendSlot_evr (x : Slot) (s : State) : (appendSlot x s).evr = s.evr := rfl
@[simp] theorem appendSlot_sec (x : Slot) (s : State) : (appendSlot x s).sec = s.sec := rfl
@[simp] theorem appendSlot_reg (x : Slot) (s : State) : (appendSlot x s).reg = s.reg := rfl
@[simp] theorem appendSlot_out (x : Slot) (s : State) : (appendSlot x s).out = s.out := rfl
@[simp] theorem appendSlot_free (x : Slot) (s : State) : (appendSlot x s).free = s.free := rfl

@[simp] theorem updateHandle_pending (v : BitVec 32) (f : Handle → Handle) (s : State) :
    (updateHandle v f s).pending = s.pending := rfl
@[simp] theorem updateHandle_life (v : BitVec 32) (f : Handle → Handle) (s : State) :
    (updateHandle v f s).life = s.life := rfl
@[simp] theorem updateHandle_clk (v : BitVec 32) (f : Handle → Handle) (s : State) :
    (updateHandle v f s).clk = s.clk := rfl
@[simp] theorem updateHandle_board (v : BitVec 32) (f : Handle → Handle) (s : State) :
    (updateHandle v f s).board = s.board := rfl
@[simp] theorem updateHandle_link (v : BitVec 32) (f : Handle → Handle) (s : State) :
    (updateHandle v f s).link = s.link := rfl
@[simp] theorem updateHandle_parse (v : BitVec 32) (f : Handle → Handle) (s : State) :
    (updateHandle v f s).parse = s.parse := rfl
@[simp] theorem updateHandle_str (v : BitVec 32) (f : Handle → Handle) (s : State) :
    (updateHandle v f s).str = s.str := rfl
@[simp] theorem updateHandle_ord (v : BitVec 32) (f : Handle → Handle) (s : State) :
    (updateHandle v f s).ord = s.ord := rfl
@[simp] theorem updateHandle_nv (v : BitVec 32) (f : Handle → Handle) (s : State) :
    (updateHandle v f s).nv = s.nv := rfl
@[simp] theorem updateHandle_mbx (v : BitVec 32) (f : Handle → Handle) (s : State) :
    (updateHandle v f s).mbx = s.mbx := rfl
@[simp] theorem updateHandle_i3c (v : BitVec 32) (f : Handle → Handle) (s : State) :
    (updateHandle v f s).i3c = s.i3c := rfl
@[simp] theorem updateHandle_hnd (v : BitVec 32) (f : Handle → Handle) (s : State) :
    (updateHandle v f s).hnd = { s.hnd with live := changeWhere (fun h => h.value == v) f s.hnd.live } := rfl
@[simp] theorem updateHandle_crg (v : BitVec 32) (f : Handle → Handle) (s : State) :
    (updateHandle v f s).crg = s.crg := rfl
@[simp] theorem updateHandle_pins (v : BitVec 32) (f : Handle → Handle) (s : State) :
    (updateHandle v f s).pins = s.pins := rfl
@[simp] theorem updateHandle_pwr (v : BitVec 32) (f : Handle → Handle) (s : State) :
    (updateHandle v f s).pwr = s.pwr := rfl
@[simp] theorem updateHandle_hup (v : BitVec 32) (f : Handle → Handle) (s : State) :
    (updateHandle v f s).hup = s.hup := rfl
@[simp] theorem updateHandle_thm (v : BitVec 32) (f : Handle → Handle) (s : State) :
    (updateHandle v f s).thm = s.thm := rfl
@[simp] theorem updateHandle_map (v : BitVec 32) (f : Handle → Handle) (s : State) :
    (updateHandle v f s).map = s.map := rfl
@[simp] theorem updateHandle_med (v : BitVec 32) (f : Handle → Handle) (s : State) :
    (updateHandle v f s).med = s.med := rfl
@[simp] theorem updateHandle_intg (v : BitVec 32) (f : Handle → Handle) (s : State) :
    (updateHandle v f s).intg = s.intg := rfl
@[simp] theorem updateHandle_dram (v : BitVec 32) (f : Handle → Handle) (s : State) :
    (updateHandle v f s).dram = s.dram := rfl
@[simp] theorem updateHandle_sram (v : BitVec 32) (f : Handle → Handle) (s : State) :
    (updateHandle v f s).sram = s.sram := rfl
@[simp] theorem updateHandle_nor (v : BitVec 32) (f : Handle → Handle) (s : State) :
    (updateHandle v f s).nor = s.nor := rfl
@[simp] theorem updateHandle_st (v : BitVec 32) (f : Handle → Handle) (s : State) :
    (updateHandle v f s).st = s.st := rfl
@[simp] theorem updateHandle_evr (v : BitVec 32) (f : Handle → Handle) (s : State) :
    (updateHandle v f s).evr = s.evr := rfl
@[simp] theorem updateHandle_sec (v : BitVec 32) (f : Handle → Handle) (s : State) :
    (updateHandle v f s).sec = s.sec := rfl
@[simp] theorem updateHandle_reg (v : BitVec 32) (f : Handle → Handle) (s : State) :
    (updateHandle v f s).reg = s.reg := rfl
@[simp] theorem updateHandle_out (v : BitVec 32) (f : Handle → Handle) (s : State) :
    (updateHandle v f s).out = s.out := rfl
@[simp] theorem updateHandle_free (v : BitVec 32) (f : Handle → Handle) (s : State) :
    (updateHandle v f s).free = s.free := rfl

@[simp] theorem updateBox_pending (k : Nat) (f : Mbx → Mbx) (s : State) : (updateBox k f s).pending = s.pending := rfl
@[simp] theorem updateBox_life (k : Nat) (f : Mbx → Mbx) (s : State) : (updateBox k f s).life = s.life := rfl
@[simp] theorem updateBox_clk (k : Nat) (f : Mbx → Mbx) (s : State) : (updateBox k f s).clk = s.clk := rfl
@[simp] theorem updateBox_board (k : Nat) (f : Mbx → Mbx) (s : State) : (updateBox k f s).board = s.board := rfl
@[simp] theorem updateBox_link (k : Nat) (f : Mbx → Mbx) (s : State) : (updateBox k f s).link = s.link := rfl
@[simp] theorem updateBox_parse (k : Nat) (f : Mbx → Mbx) (s : State) : (updateBox k f s).parse = s.parse := rfl
@[simp] theorem updateBox_str (k : Nat) (f : Mbx → Mbx) (s : State) : (updateBox k f s).str = s.str := rfl
@[simp] theorem updateBox_ord (k : Nat) (f : Mbx → Mbx) (s : State) : (updateBox k f s).ord = s.ord := rfl
@[simp] theorem updateBox_nv (k : Nat) (f : Mbx → Mbx) (s : State) : (updateBox k f s).nv = s.nv := rfl
@[simp] theorem updateBox_mbx (k : Nat) (f : Mbx → Mbx) (s : State) :
    (updateBox k f s).mbx = { s.mbx with box := s.mbx.box.modify k f } := rfl
@[simp] theorem updateBox_i3c (k : Nat) (f : Mbx → Mbx) (s : State) : (updateBox k f s).i3c = s.i3c := rfl
@[simp] theorem updateBox_hnd (k : Nat) (f : Mbx → Mbx) (s : State) : (updateBox k f s).hnd = s.hnd := rfl
@[simp] theorem updateBox_crg (k : Nat) (f : Mbx → Mbx) (s : State) : (updateBox k f s).crg = s.crg := rfl
@[simp] theorem updateBox_pins (k : Nat) (f : Mbx → Mbx) (s : State) : (updateBox k f s).pins = s.pins := rfl
@[simp] theorem updateBox_pwr (k : Nat) (f : Mbx → Mbx) (s : State) : (updateBox k f s).pwr = s.pwr := rfl
@[simp] theorem updateBox_hup (k : Nat) (f : Mbx → Mbx) (s : State) : (updateBox k f s).hup = s.hup := rfl
@[simp] theorem updateBox_thm (k : Nat) (f : Mbx → Mbx) (s : State) : (updateBox k f s).thm = s.thm := rfl
@[simp] theorem updateBox_map (k : Nat) (f : Mbx → Mbx) (s : State) : (updateBox k f s).map = s.map := rfl
@[simp] theorem updateBox_med (k : Nat) (f : Mbx → Mbx) (s : State) : (updateBox k f s).med = s.med := rfl
@[simp] theorem updateBox_intg (k : Nat) (f : Mbx → Mbx) (s : State) : (updateBox k f s).intg = s.intg := rfl
@[simp] theorem updateBox_dram (k : Nat) (f : Mbx → Mbx) (s : State) : (updateBox k f s).dram = s.dram := rfl
@[simp] theorem updateBox_sram (k : Nat) (f : Mbx → Mbx) (s : State) : (updateBox k f s).sram = s.sram := rfl
@[simp] theorem updateBox_nor (k : Nat) (f : Mbx → Mbx) (s : State) : (updateBox k f s).nor = s.nor := rfl
@[simp] theorem updateBox_st (k : Nat) (f : Mbx → Mbx) (s : State) : (updateBox k f s).st = s.st := rfl
@[simp] theorem updateBox_evr (k : Nat) (f : Mbx → Mbx) (s : State) : (updateBox k f s).evr = s.evr := rfl
@[simp] theorem updateBox_sec (k : Nat) (f : Mbx → Mbx) (s : State) : (updateBox k f s).sec = s.sec := rfl
@[simp] theorem updateBox_reg (k : Nat) (f : Mbx → Mbx) (s : State) : (updateBox k f s).reg = s.reg := rfl
@[simp] theorem updateBox_out (k : Nat) (f : Mbx → Mbx) (s : State) : (updateBox k f s).out = s.out := rfl
@[simp] theorem updateBox_free (k : Nat) (f : Mbx → Mbx) (s : State) : (updateBox k f s).free = s.free := rfl

@[simp] theorem updateContext_pending (k : Nat) (f : Context → Context) (s : State) :
    (updateContext k f s).pending = s.pending := rfl
@[simp] theorem updateContext_life (k : Nat) (f : Context → Context) (s : State) :
    (updateContext k f s).life = s.life := rfl
@[simp] theorem updateContext_clk (k : Nat) (f : Context → Context) (s : State) :
    (updateContext k f s).clk = s.clk := rfl
@[simp] theorem updateContext_board (k : Nat) (f : Context → Context) (s : State) :
    (updateContext k f s).board = s.board := rfl
@[simp] theorem updateContext_link (k : Nat) (f : Context → Context) (s : State) :
    (updateContext k f s).link = s.link := rfl
@[simp] theorem updateContext_parse (k : Nat) (f : Context → Context) (s : State) :
    (updateContext k f s).parse = s.parse := rfl
@[simp] theorem updateContext_str (k : Nat) (f : Context → Context) (s : State) :
    (updateContext k f s).str = s.str := rfl
@[simp] theorem updateContext_ord (k : Nat) (f : Context → Context) (s : State) :
    (updateContext k f s).ord = s.ord := rfl
@[simp] theorem updateContext_nv (k : Nat) (f : Context → Context) (s : State) : (updateContext k f s).nv = s.nv := rfl
@[simp] theorem updateContext_mbx (k : Nat) (f : Context → Context) (s : State) :
    (updateContext k f s).mbx = s.mbx := rfl
@[simp] theorem updateContext_i3c (k : Nat) (f : Context → Context) (s : State) :
    (updateContext k f s).i3c = s.i3c := rfl
@[simp] theorem updateContext_hnd (k : Nat) (f : Context → Context) (s : State) :
    (updateContext k f s).hnd = s.hnd := rfl
@[simp] theorem updateContext_crg (k : Nat) (f : Context → Context) (s : State) :
    (updateContext k f s).crg = s.crg := rfl
@[simp] theorem updateContext_pins (k : Nat) (f : Context → Context) (s : State) :
    (updateContext k f s).pins = s.pins := rfl
@[simp] theorem updateContext_pwr (k : Nat) (f : Context → Context) (s : State) :
    (updateContext k f s).pwr = s.pwr := rfl
@[simp] theorem updateContext_hup (k : Nat) (f : Context → Context) (s : State) :
    (updateContext k f s).hup = s.hup := rfl
@[simp] theorem updateContext_thm (k : Nat) (f : Context → Context) (s : State) :
    (updateContext k f s).thm = s.thm := rfl
@[simp] theorem updateContext_map (k : Nat) (f : Context → Context) (s : State) :
    (updateContext k f s).map = s.map := rfl
@[simp] theorem updateContext_med (k : Nat) (f : Context → Context) (s : State) :
    (updateContext k f s).med = { s.med with
      dies := changeWhere (fun x => x.index == k) (fun d => { d with running := d.running.map f }) s.med.dies } := rfl
@[simp] theorem updateContext_intg (k : Nat) (f : Context → Context) (s : State) :
    (updateContext k f s).intg = s.intg := rfl
@[simp] theorem updateContext_dram (k : Nat) (f : Context → Context) (s : State) :
    (updateContext k f s).dram = s.dram := rfl
@[simp] theorem updateContext_sram (k : Nat) (f : Context → Context) (s : State) :
    (updateContext k f s).sram = s.sram := rfl
@[simp] theorem updateContext_nor (k : Nat) (f : Context → Context) (s : State) :
    (updateContext k f s).nor = s.nor := rfl
@[simp] theorem updateContext_st (k : Nat) (f : Context → Context) (s : State) : (updateContext k f s).st = s.st := rfl
@[simp] theorem updateContext_evr (k : Nat) (f : Context → Context) (s : State) :
    (updateContext k f s).evr = s.evr := rfl
@[simp] theorem updateContext_sec (k : Nat) (f : Context → Context) (s : State) :
    (updateContext k f s).sec = s.sec := rfl
@[simp] theorem updateContext_reg (k : Nat) (f : Context → Context) (s : State) :
    (updateContext k f s).reg = s.reg := rfl
@[simp] theorem updateContext_out (k : Nat) (f : Context → Context) (s : State) :
    (updateContext k f s).out = s.out := rfl
@[simp] theorem updateContext_free (k : Nat) (f : Context → Context) (s : State) :
    (updateContext k f s).free = s.free := rfl

end Sys2Proof.Laws
end

