-- ==== Sys2Proof/Laws/Ops.lean ====
section
/-! SUPPORT. What the shared operations do: finding a record after a change of one, bytes after a write, answers,
acceptance of a long command, the issue of a microword. -/

namespace Sys2Proof.Laws

open Sys2Proof Sys2Proof.Machine Sys2Proof.Safety

/-! ## Records by key -/

/-- Finding by key after the records of one key have changed, if the change keeps the key. -/
theorem find_changeWhere {α : Type} (key : α → Nat) (k j : Nat) (f : α → α) (hf : ∀ x, key (f x) = key x) (l : List α) :
    (changeWhere (fun x => key x == k) f l).find? (fun x => key x == j) =
      if j = k then (l.find? fun x => key x == j).map f else l.find? fun x => key x == j := by
  induction l with
  | nil => simp [changeWhere]
  | cons a l ih =>
    simp only [changeWhere, List.map_cons] at ih ⊢
    by_cases ha : key a = k
    · by_cases hj : j = k
      · subst hj
        simp [ha, hf]
      · have : ¬ k = j := fun e => hj e.symm
        simp only [ha, beq_self_eq_true, if_true, List.find?_cons, hf] at ih ⊢
        simp only [if_neg hj] at ih ⊢
        have e : (k == j) = false := by simpa using this
        simp only [e]
        exact ih
    · have e : (key a == k) = false := by simpa using ha
      simp only [e, Bool.false_eq_true, if_false, List.find?_cons]
      by_cases hb : key a = j
      · have : (key a == j) = true := by simpa using hb
        have hjk : ¬ j = k := fun e => ha (hb.trans e)
        simp [this, hjk]
      · have : (key a == j) = false := by simpa using hb
        simp only [this]
        exact ih

theorem findDie_updateDie (k j : Nat) (f : Die → Die) (hf : ∀ d, (f d).index = d.index) (s : State) :
    findDie (updateDie k f s) j = if j = k then (findDie s j).map f else findDie s j :=
  find_changeWhere Die.index k j f hf s.med.dies

theorem findDie_updateContext (k j : Nat) (f : Context → Context) (s : State) :
    findDie (updateContext k f s) j =
      if j = k then (findDie s j).map (fun d => { d with running := d.running.map f }) else findDie s j :=
  findDie_updateDie k j (fun d => { d with running := d.running.map f }) (fun _ => rfl) s

theorem findDie_updateChan (k j : Nat) (f : Channel → Channel) (s : State) : findDie (updateChan k f s) j = findDie s j :=
  rfl

theorem findStream_updateStream (k j : Nat) (f : Stream → Stream) (hf : ∀ d, (f d).sid = d.sid) (s : State) :
    findStream (updateStream k f s) j = if j = k then (findStream s j).map f else findStream s j :=
  find_changeWhere Stream.sid k j f hf s.str.list

theorem findSb_updateSb (k j : Nat) (f : Superblock → Superblock) (hf : ∀ d, (f d).number = d.number) (s : State) :
    findSb (updateSb k f s) j = if j = k then (findSb s j).map f else findSb s j :=
  find_changeWhere Superblock.number k j f hf s.map.sbs

theorem getD_modify {α : Type} (l : List α) (k j : Nat) (f : α → α) (d : α) :
    (l.modify k f).getD j d = if j = k ∧ k < l.length then f (l.getD j d) else l.getD j d := by
  simp only [List.getD_eq_getElem?_getD, List.getElem?_modify]
  by_cases h : k = j
  · subst h
    by_cases hl : k < l.length
    · simp [hl]
    · simp [hl]
  · have : ¬ j = k := fun e => h e.symm
    simp [h, this]

theorem chanOf_updateChan (k j : Nat) (f : Channel → Channel) (s : State) :
    chanOf (updateChan k f s) j = if j = k ∧ k < s.med.channels.length then f (chanOf s j) else chanOf s j :=
  getD_modify s.med.channels k j f Channel.reset

theorem chanOf_updateDie (k j : Nat) (f : Die → Die) (s : State) : chanOf (updateDie k f s) j = chanOf s j := rfl

theorem boxOf_updateBox (k j : Nat) (f : Mbx → Mbx) (s : State) :
    boxOf (updateBox k f s) j = if j = k ∧ k < s.mbx.box.length then f (boxOf s j) else boxOf s j :=
  getD_modify s.mbx.box k j f Mbx.reset

theorem laneOf_updateLane (k j : Nat) (f : Lane → Lane) (s : State) :
    laneOf (updateLane k f s) j = if j = k ∧ k < s.link.lanes.length then f (laneOf s j) else laneOf s j :=
  getD_modify s.link.lanes k j f Lane.reset

/-! ## Bytes -/

theorem memRead_append (m n : List Host.Cell) (a : Nat) (h : ∀ c ∈ m, c.1 ≠ a) : memRead (m ++ n) a = memRead n a := by
  have : m.find? (fun c => c.1 == a) = none := by
    rw [List.find?_eq_none]
    intro c hc
    simpa using h c hc
  simp [memRead, List.find?_append, this]

theorem memRead_append_left (m n : List Host.Cell) (a : Nat) (h : ∀ c ∈ n, c.1 ≠ a) : memRead (m ++ n) a = memRead m a := by
  have : n.find? (fun c => c.1 == a) = none := by
    rw [List.find?_eq_none]
    intro c hc
    simpa using h c hc
  simp [memRead, List.find?_append, this]

theorem memRead_filter (m : List Host.Cell) (p : Host.Cell → Bool) (a : Nat) (h : ∀ c, c.1 = a → p c = true) :
    memRead (m.filter p) a = memRead m a := by
  induction m with
  | nil => rfl
  | cons c m ih =>
    by_cases hc : c.1 = a
    · simp [memRead, h c hc, hc]
    · have e : (c.1 == a) = false := by simpa using hc
      rw [List.filter_cons]
      split
      · simp only [memRead, List.find?_cons, e] at ih ⊢
        exact ih
      · simp only [memRead, List.find?_cons, e] at ih ⊢
        exact ih

theorem memRead_cells (a : Nat) (bs : List Byte) (k : Nat) : memRead (memCells a bs) (a + k) = bs.getD k 0 := by
  induction bs generalizing a k with
  | nil => simp [memCells, memRead]
  | cons b bs ih =>
    have low : ∀ c ∈ memCells (a + 1) bs, c.1 ≠ a := fun c hc => by
      have := (memCells_low (a + 1) bs c hc).1
      omega
    cases k with
    | zero =>
      unfold memCells
      split
      · rename_i hb
        have : memRead (memCells (a + 1) bs) a = 0 := by
          have e : (memCells (a + 1) bs).find? (fun c => c.1 == a) = none := by
            rw [List.find?_eq_none]
            intro c hc
            simpa using low c hc
          simp [memRead, e]
        simp [this, hb]
      · simp [memRead]
    | succ k =>
      have e : a + (k + 1) = a + 1 + k := by omega
      have ne : (a == a + 1 + k) = false := by
        simp
        omega
      unfold memCells
      rw [e]
      split
      · rw [ih]
        simp
      · simp only [memRead, List.find?_cons, ne]
        have := ih (a + 1) k
        simp only [memRead] at this
        rw [this]
        simp

/-- A byte read outside a written range is the one read before. -/
theorem memRead_splice_out (m : List Host.Cell) (a : Nat) (bs : List Byte) (p : Nat) (h : p < a ∨ a + bs.length ≤ p) :
    memRead (memSplice m a bs) p = memRead m p := by
  unfold memSplice
  have mid : ∀ c ∈ memCells a bs, c.1 ≠ p := fun c hc => by
    have := memCells_low a bs c hc
    omega
  rcases h with h | h
  · have hi : ∀ c ∈ m.filter (fun c => decide (a + bs.length ≤ c.1)), c.1 ≠ p := fun c hc => by
      have := (List.mem_filter.mp hc).2
      simp only [decide_eq_true_eq] at this
      omega
    rw [memRead_append_left _ _ _ hi, memRead_append_left _ _ _ mid]
    exact memRead_filter _ _ _ fun c hc => by simp only [hc, decide_eq_true_eq]; exact h
  · have lo : ∀ c ∈ m.filter (fun c => decide (c.1 < a)), c.1 ≠ p := fun c hc => by
      have := (List.mem_filter.mp hc).2
      simp only [decide_eq_true_eq] at this
      omega
    rw [List.append_assoc, memRead_append _ _ _ lo, memRead_append _ _ _ mid]
    exact memRead_filter _ _ _ fun c hc => by simp only [hc, decide_eq_true_eq]; exact h

/-- A byte read inside a written range is the one written. -/
theorem memRead_splice_in (m : List Host.Cell) (a : Nat) (bs : List Byte) (k : Nat) (h : k < bs.length) :
    memRead (memSplice m a bs) (a + k) = bs.getD k 0 := by
  unfold memSplice
  have lo : ∀ c ∈ m.filter (fun c => decide (c.1 < a)), c.1 ≠ a + k := fun c hc => by
    have := (List.mem_filter.mp hc).2
    simp only [decide_eq_true_eq] at this
    omega
  have hi : ∀ c ∈ m.filter (fun c => decide (a + bs.length ≤ c.1)), c.1 ≠ a + k := fun c hc => by
    have := (List.mem_filter.mp hc).2
    simp only [decide_eq_true_eq] at this
    omega
  rw [memRead_append_left _ _ _ hi, memRead_append _ _ _ lo, memRead_cells]

/-! ## Notices and answers -/

/-- An interrupt changes the pending-bit array and what was sent, nothing else. -/
theorem interrupt_frame (v : Nat) (s : State) :
    interrupt v s = { s with nv := { s.nv with pba := (interrupt v s).nv.pba }, out := (interrupt v s).out } := by
  unfold interrupt
  repeat' split
  all_goals rfl

/-- Notification changes the two armed flags, the pending-bit array and what was sent, nothing else. -/
theorem notify_frame (s : State) :
    notify s = { s with
      mbx := { s.mbx with msixArmed := (notify s).mbx.msixArmed, ibiArmed := (notify s).mbx.ibiArmed }
      nv := { s.nv with pba := (notify s).nv.pba }
      out := (notify s).out } := by
  have h1 (s : State) : msixNotify s = { s with
      mbx := { s.mbx with msixArmed := (msixNotify s).mbx.msixArmed }
      nv := { s.nv with pba := (msixNotify s).nv.pba }, out := (msixNotify s).out } := by
    unfold msixNotify
    split
    · rw [interrupt_frame]
    · rfl
  have h2 (s : State) : ibiNotify s = { s with
      mbx := { s.mbx with ibiArmed := (ibiNotify s).mbx.ibiArmed }, out := (ibiNotify s).out } := by
    unfold ibiNotify
    split <;> rfl
  unfold notify
  rw [h2 (msixNotify s), h1 s]

theorem leBytes_length (k n : Nat) : (leBytes k n).length = k := by
  induction k generalizing n with
  | zero => rfl
  | succ k ih => simp [leBytes, ih]

theorem padTo_length (n : Nat) (bs : List Byte) : (padTo n bs).length = n := by
  simp only [padTo, List.length_append, List.length_take, List.length_replicate]
  omega

/-- Results travel with OK and ACCEPTED only (R121). -/
def resultsOf (status : BitVec 16) (results : List Byte) : List Byte :=
  if status = stOk ∨ status = stAccepted then results else []

/-- An answer changes the mailbox's answer, the armed flags, the pending-bit array and what was sent. -/
theorem respond_frame (m : Nat) (st : BitVec 16) (r : List Byte) (s : State) :
    respond m st r s = { s with
      mbx := (respond m st r s).mbx, nv := { s.nv with pba := (respond m st r s).nv.pba }
      out := (respond m st r s).out } := by
  unfold respond
  dsimp only
  rw [notify_frame]
  rfl

/-- An answer is the answer of R121. -/
theorem respond_answered (m : Nat) (hm : m < 16) (st : BitVec 16) (r : List Byte) (s : State) (hb : s.mbx.box.length = 16) :
    Answered m st (resultsOf st r) s.mbx (respond m st r s).mbx := by
  have hbox : ∀ k, (respond m st r s).mbx.box.getD k Mbx.reset =
      if k = m then { (s.mbx.box.getD m Mbx.reset) with
        state := .done, code := st, unreadDone := (s.mbx.box.getD m Mbx.reset).irq, latched := false }
      else s.mbx.box.getD k Mbx.reset := by
    intro k
    unfold respond
    dsimp only
    rw [notify_frame]
    simp only [updateBox, getD_modify, hb, hm, and_true]
    by_cases h : k = m
    · subst h
      simp
    · simp [h]
  have hmem : (respond m st r s).mbx.mem = memSplice s.mbx.mem (mbxBase m + 0x100) (responseBytes m st (resultsOf st r) s.mbx) := by
    unfold respond
    dsimp only
    rw [notify_frame]
    simp only [updateBox, responseBytes, resultsOf, packBytes, List.append_assoc, List.nil_append]
  have hl : (responseBytes m st (resultsOf st r) s.mbx).length = 256 := padTo_length _ _
  refine ⟨?_, ?_, ?_, ?_, ?_⟩
  · rw [hbox]; simp
  · rw [hbox]; simp
  · intro k hk
    rw [hmem]
    exact memRead_splice_in _ _ _ _ (by omega)
  · intro p hp
    rw [hmem]
    exact memRead_splice_out _ _ _ _ (by omega)
  · intro k hk
    rw [hbox]
    simp [hk]

/-- A free slot gives a handle (R129). -/
theorem newHandle_some (s : State) (h : freeSlots s ≠ []) :
    ∃ v k, newHandle s = some v ∧ k ∈ freeSlots s ∧ v = BitVec.ofNat 32 (s.hnd.generation * 256 + k) := by
  unfold newHandle
  have hl : 0 < (freeSlots s).length := List.length_pos_iff.mpr h
  have hk : Config.choice s.free % (freeSlots s).length < (freeSlots s).length := Nat.mod_lt _ hl
  rw [List.getElem?_eq_getElem hk]
  exact ⟨_, _, rfl, List.getElem_mem hk, rfl⟩

/-- Acceptance: a handle is issued, what the command starts runs, ACCEPTED is answered with the handle (R126, R129). -/
theorem accept_some (m : Nat) (op : BitVec 16) (subject aux : Nat) (past : Bool) (k : BitVec 32 → State → State) (s : State)
    (h : freeSlots s ≠ []) :
    ∃ v, ∃ s1 : State, accept m op false subject aux past k s = respond m stAccepted (leBytes 4 v.toNat) (k v s1) ∧
      Issued v ⟨v, op, m, (boxOf s m).ringPath, s.clk.us, past, subject, aux⟩ s.hnd s1.hnd ∧
      s1 = { s with hnd := s1.hnd, free := s.free + 1 } := by
  obtain ⟨v, j, hv, hj, rfl⟩ := newHandle_some s h
  simp only [freeSlots, List.mem_filter, List.mem_range, Bool.not_eq_true', List.any_eq_false, beq_iff_eq] at hj
  refine ⟨BitVec.ofNat 32 (s.hnd.generation * 256 + j), drawn { s with hnd := { s.hnd with
      live := s.hnd.live ++ [⟨BitVec.ofNat 32 (s.hnd.generation * 256 + j), op, m, (boxOf s m).ringPath, s.clk.us, past,
        subject, aux⟩]
      generation := nextGeneration s.hnd.generation } }, ?_, ⟨rfl, ?_, ?_, rfl⟩, rfl⟩
  · unfold accept
    rw [hv]
    rfl
  · intro x hx
    have e : (BitVec.ofNat 32 (s.hnd.generation * 256 + j)).toNat % 256 = j := by
      rw [BitVec.toNat_ofNat]
      omega
    rw [e]
    exact hj.2 x hx
  · intro hg
    rw [BitVec.toNat_ofNat]
    omega

/-- A request that is asked for is served. -/
theorem serve_asked {m : Nat} {op : BitVec 16} {s : State} (h : Asked m op s) (body : State → State) :
    serve m op body s = body s := by
  unfold serve
  rw [h.serves, h.waits]
  rfl

/-- An answer with results. -/
theorem respond_replied (m : Nat) (hm : m < 16) (st : BitVec 16) (r : List Byte) (s : State) (hb : s.mbx.box.length = 16)
    (hs : st = stOk ∨ st = stAccepted) : Replied m st r s (respond m st r s) := by
  have h := respond_answered m hm st r s hb
  unfold resultsOf at h
  rw [if_pos hs] at h
  exact ⟨h, respond_frame m st r s⟩

/-- An answer without results. -/
theorem respond_refused (m : Nat) (hm : m < 16) (st : BitVec 16) (s : State) (hb : s.mbx.box.length = 16) :
    Replied m st [] s (respond m st [] s) := by
  have h := respond_answered m hm st [] s hb
  unfold resultsOf at h
  rw [ite_self] at h
  exact ⟨h, respond_frame m st [] s⟩

/-- Acceptance as a whole, when what the command starts leaves handles and mailboxes alone. -/
theorem accept_accepted (m : Nat) (hm : m < 16) (op : BitVec 16) (subject aux : Nat) (past : Bool)
    (k : BitVec 32 → State → State) (s : State) (h : freeSlots s ≠ []) (hb : s.mbx.box.length = 16)
    (hk : ∀ v u, (k v u).hnd = u.hnd ∧ (k v u).mbx = u.mbx) :
    ∃ v u, Accepted m op past subject aux v s u (accept m op false subject aux past k s) ∧
      ∃ w : State, u = k v w ∧ w = { s with hnd := w.hnd, free := s.free + 1 } := by
  obtain ⟨v, w, e, i, hw⟩ := accept_some m op subject aux past k s h
  refine ⟨v, k v w, ⟨?_, ?_⟩, w, rfl, hw⟩
  · rw [(hk v w).1]
    exact i
  · rw [e]
    refine respond_replied m hm _ _ _ ?_ (Or.inr rfl)
    rw [(hk v w).2, hw]
    exact hb

/-! ## Microwords -/

/-- A local microword that is fetched runs, where the fetch leaves the machine. -/
theorem issue_local {s : State} {die op : Nat} {dst src imm : Option Nat} {d : Die} {c : Context} (h : Routine s die d c)
    (hf : Fetches s die c op dst src imm) (k : Die → Context → State → Result) :
    issue die op dst src imm false false k s = k d c (fetchCorrects (chanIdx die) c.pc s) := by
  unfold issue
  rw [h.found]
  dsimp only
  rw [h.running]
  dsimp only
  rw [h.clocks]
  rcases hf with hf | ⟨w, hf, hr, hs⟩
  · simp [hf]
  · simp [hf, hr, hs]

/-- A local microword reserved for committed paths runs on one. -/
theorem issue_committed {s : State} {die op : Nat} {dst src imm : Option Nat} {d : Die} {c : Context} (h : Routine s die d c)
    (hf : Fetches s die c op dst src imm) (hc : c.committed = true) (k : Die → Context → State → Result) :
    issue die op dst src imm true false k s = k d c (fetchCorrects (chanIdx die) c.pc s) := by
  unfold issue
  rw [h.found]
  dsimp only
  rw [h.running]
  dsimp only
  rw [h.clocks]
  rcases hf with hf | ⟨w, hf, hr, hs⟩
  · simp [hf, hc]
  · simp [hf, hr, hs, hc]

/-- A bus microword that is fetched runs on the bus its context holds, with its chip enable asserted. -/
theorem issue_bus {s : State} {die op : Nat} {dst src imm : Option Nat} {d : Die} {c : Context} (h : Routine s die d c)
    (hf : Fetches s die c op dst src imm) (ac : Bool) (hc : ac = true → c.committed = true) (hb : busFor s die = true)
    (k : Die → Context → State → Result) :
    issue die op dst src imm ac true k s =
      k d c (assertChip (chanIdx die) (chipFor s d c op src) (fetchCorrects (chanIdx die) c.pc s)) := by
  unfold issue
  rw [h.found]
  dsimp only
  rw [h.running]
  dsimp only
  rw [h.clocks]
  have e : (ac && !c.committed) = false := by
    cases ac
    · rfl
    · simp [hc rfl]
  rcases hf with hf | ⟨w, hf, hr, hs⟩
  · simp [hf, hb, e]
  · simp [hf, hr, hs, hb, e]

end Sys2Proof.Laws
end

