-- ==== Sys2Proof/Laws/PerInstr.lean ====
section
/-! SUPPORT. Statements made once per command, as syntax. -/

namespace Sys2Proof.Laws.MicroOpcodes

/-- The microword that stands for a command, if one does, has an opcode of R223: 0x00 to 0x2B. -/
def Statement (i : Instr) : Prop := ∀ f, microOf i = some f → f.op.toNat < 0x2C

/-- A command no microword stands for. -/
theorem no_word {i : Instr} (h : microOf i = none) : Statement i := fun f e => by simp [h] at e

/-- A command a microword stands for. -/
theorem word {i : Instr} {k d r m : Nat} (h : microOf i = some (microFields k d r m)) (hk : k < 0x2C) : Statement i := by
  intro f e
  obtain rfl : microFields k d r m = f := by rw [h] at e; exact Option.some.inj e
  simp only [microFields, BitVec.toNat_ofNat]
  omega

theorem powerUp (board : Board) : Statement (.powerUp board) := no_word rfl
theorem mapReady (badSummaries : List Nat) : Statement (.mapReady badSummaries) := no_word rfl
theorem resetNAssert (ns : Nat) : Statement (.resetNAssert ns) := no_word rfl
theorem trstN : Statement (.trstN) := no_word rfl
theorem pldNAssert (ns : Nat) : Statement (.pldNAssert ns) := no_word rfl
theorem powerLossFlushEnd (suppliesFailed : Bool) (extra : Nat) : Statement (.powerLossFlushEnd suppliesFailed extra) :=
    no_word rfl
theorem cloveFault (core : Fin 4) : Statement (.cloveFault core) := no_word rfl
theorem recoveryDone (ms : Nat) : Statement (.recoveryDone ms) := no_word rfl
theorem warmRecoveryTimeout : Statement (.warmRecoveryTimeout) := no_word rfl
theorem ucieFlitReceive (port : Fin 4) (toMace : Bool) (flit : Flit) (crcOk parityOk : Bool)
    : Statement (.ucieFlitReceive port toMace flit crcOk parityOk) :=
    no_word rfl
theorem ucieReplayTimeout (port : Fin 4) : Statement (.ucieReplayTimeout port) := no_word rfl
theorem ucieRetrainDone (port : Fin 4) (ok : Bool) : Statement (.ucieRetrainDone port ok) := no_word rfl
theorem captureLinkUp (m : Fin 16) : Statement (.captureLinkUp m) := no_word rfl
theorem captureLinkDown (m : Fin 16) : Statement (.captureLinkDown m) := no_word rfl
theorem captureLinkStatus (m : Fin 16) : Statement (.captureLinkStatus m) := no_word rfl
theorem captureLinkUpTimeout : Statement (.captureLinkUpTimeout) := no_word rfl
theorem statusSend : Statement (.statusSend) := no_word rfl
theorem laneSignalDetect (balls : BitVec 8) : Statement (.laneSignalDetect balls) := no_word rfl
theorem preambleDetect : Statement (.preambleDetect) := no_word rfl
theorem acquisitionDone (inverted : BitVec 8) : Statement (.acquisitionDone inverted) := no_word rfl
theorem acquireTimeout : Statement (.acquireTimeout) := no_word rfl
theorem startDelimiter : Statement (.startDelimiter) := no_word rfl
theorem trackTimeout : Statement (.trackTimeout) := no_word rfl
theorem firstAlignmentCodeword (cws : List (List (BitVec 10))) : Statement (.firstAlignmentCodeword cws) :=
    no_word rfl
theorem trainSend (ball : Fin 8) (command : Fin 4) (taps fom : BitVec 8)
    : Statement (.trainSend ball command taps fom) :=
    no_word rfl
theorem tuneTimeout : Statement (.tuneTimeout) := no_word rfl
theorem deskewDone (skewNs : Nat) : Statement (.deskewDone skewNs) := no_word rfl
theorem laneSignalLoss (ball : Fin 8) : Statement (.laneSignalLoss ball) := no_word rfl
theorem codewordReceive (ball : Fin 8) (cw : Codeword) : Statement (.codewordReceive ball cw) := no_word rfl
theorem frameHeader : Statement (.frameHeader) := no_word rfl
theorem frameEnd : Statement (.frameEnd) := no_word rfl
theorem frameStallNotice : Statement (.frameStallNotice) := no_word rfl
theorem stallTimerExpire : Statement (.stallTimerExpire) := no_word rfl
theorem grantRaise : Statement (.grantRaise) := no_word rfl
theorem backpressureEpisode : Statement (.backpressureEpisode) := no_word rfl
theorem commitAck (sid : Fin 4096) : Statement (.commitAck sid) := no_word rfl
theorem commitEchoRepeat (sid : Fin 4096) (frame : BitVec 40) : Statement (.commitEchoRepeat sid frame) := no_word rfl
theorem streamOpen (m : Fin 16) : Statement (.streamOpen m) := no_word rfl
theorem streamClose (m : Fin 16) : Statement (.streamClose m) := no_word rfl
theorem streamStatus (m : Fin 16) : Statement (.streamStatus m) := no_word rfl
theorem streamExtendWindow (m : Fin 16) : Statement (.streamExtendWindow m) := no_word rfl
theorem bufferPartition (m : Fin 16) : Statement (.bufferPartition m) := no_word rfl
theorem takeOpen (m : Fin 16) : Statement (.takeOpen m) := no_word rfl
theorem takeClose (m : Fin 16) : Statement (.takeClose m) := no_word rfl
theorem frameIndexRead (m : Fin 16) : Statement (.frameIndexRead m) := no_word rfl
theorem streamDrainDone (sid : Fin 4096) : Statement (.streamDrainDone sid) := no_word rfl
theorem heldUnitTimeout (sid : Fin 4096) : Statement (.heldUnitTimeout sid) := no_word rfl
theorem indexEntryPlace (sid : Fin 4096) : Statement (.indexEntryPlace sid) := no_word rfl
theorem indexUnitTimeout (sid : Fin 4096) : Statement (.indexUnitTimeout sid) := no_word rfl
theorem sqTailDoorbell (qid : Nat) (tail : BitVec 16) (entries : List Sqe)
    : Statement (.sqTailDoorbell qid tail entries) :=
    no_word rfl
theorem cqHeadDoorbell (qid : Nat) (head : BitVec 16) : Statement (.cqHeadDoorbell qid head) := no_word rfl
theorem interruptCoalescingTimeout (vector : Fin 2048) : Statement (.interruptCoalescingTimeout vector) := no_word rfl
theorem flush (sq : Nat) (cid : BitVec 16) : Statement (.flush sq cid) := no_word rfl
theorem write (sq : Nat) (cid : BitVec 16) (data : List HostUnit) : Statement (.write sq cid data) := no_word rfl
theorem read (sq : Nat) (cid : BitVec 16) : Statement (.read sq cid) := no_word rfl
theorem writeZeroes (sq : Nat) (cid : BitVec 16) : Statement (.writeZeroes sq cid) := no_word rfl
theorem datasetManagement (sq : Nat) (cid : BitVec 16) : Statement (.datasetManagement sq cid) := no_word rfl
theorem verify (sq : Nat) (cid : BitVec 16) : Statement (.verify sq cid) := no_word rfl
theorem orderedWrite (sq : Nat) (cid : BitVec 16) (data : List HostUnit) : Statement (.orderedWrite sq cid data) :=
    no_word rfl
theorem fence (sq : Nat) (cid : BitVec 16) : Statement (.fence sq cid) := no_word rfl
theorem fenceSatisfied (seq : Nat) : Statement (.fenceSatisfied seq) := no_word rfl
theorem writeCompletionPost (sq : Nat) (cid : BitVec 16) : Statement (.writeCompletionPost sq cid) := no_word rfl
theorem flushComplete (sq : Nat) (cid : BitVec 16) : Statement (.flushComplete sq cid) := no_word rfl
theorem hostReadComplete (sq : Nat) (cid : BitVec 16) (parityStage parityFails : Nat)
    : Statement (.hostReadComplete sq cid parityStage parityFails) :=
    no_word rfl
theorem identify (cid : BitVec 16) : Statement (.identify cid) := no_word rfl
theorem createIoSubmissionQueue (cid : BitVec 16) : Statement (.createIoSubmissionQueue cid) := no_word rfl
theorem createIoCompletionQueue (cid : BitVec 16) : Statement (.createIoCompletionQueue cid) := no_word rfl
theorem deleteIoSubmissionQueue (cid : BitVec 16) : Statement (.deleteIoSubmissionQueue cid) := no_word rfl
theorem deleteIoCompletionQueue (cid : BitVec 16) : Statement (.deleteIoCompletionQueue cid) := no_word rfl
theorem getLogPage (cid : BitVec 16) : Statement (.getLogPage cid) := no_word rfl
theorem setArbitration (cid : BitVec 16) : Statement (.setArbitration cid) := no_word rfl
theorem setPowerManagement (cid : BitVec 16) : Statement (.setPowerManagement cid) := no_word rfl
theorem setTemperatureThreshold (cid : BitVec 16) : Statement (.setTemperatureThreshold cid) := no_word rfl
theorem setVolatileWriteCache (cid : BitVec 16) : Statement (.setVolatileWriteCache cid) := no_word rfl
theorem setNumberOfQueues (cid : BitVec 16) : Statement (.setNumberOfQueues cid) := no_word rfl
theorem setInterruptCoalescing (cid : BitVec 16) : Statement (.setInterruptCoalescing cid) := no_word rfl
theorem setAutonomousPowerState (cid : BitVec 16) (table : List (BitVec 64))
    : Statement (.setAutonomousPowerState cid table) :=
    no_word rfl
theorem getFeatures (cid : BitVec 16) : Statement (.getFeatures cid) := no_word rfl
theorem getVolatileWriteCache (cid : BitVec 16) : Statement (.getVolatileWriteCache cid) := no_word rfl
theorem abort (cid : BitVec 16) : Statement (.abort cid) := no_word rfl
theorem asynchronousEventRequest (cid : BitVec 16) : Statement (.asynchronousEventRequest cid) := no_word rfl
theorem namespaceCreate (cid : BitVec 16) (req : NsCreate) : Statement (.namespaceCreate cid req) := no_word rfl
theorem namespaceDelete (cid : BitVec 16) : Statement (.namespaceDelete cid) := no_word rfl
theorem namespaceAttach (cid : BitVec 16) (controllers : List (BitVec 16))
    : Statement (.namespaceAttach cid controllers) :=
    no_word rfl
theorem namespaceDetach (cid : BitVec 16) (controllers : List (BitVec 16))
    : Statement (.namespaceDetach cid controllers) :=
    no_word rfl
theorem formatNvm (cid : BitVec 16) : Statement (.formatNvm cid) := no_word rfl
theorem formatNvmDone (readBackOk : Bool) : Statement (.formatNvmDone readBackOk) := no_word rfl
theorem sanitizeBlockErase (cid : BitVec 16) : Statement (.sanitizeBlockErase cid) := no_word rfl
theorem sanitizeCryptoErase (cid : BitVec 16) : Statement (.sanitizeCryptoErase cid) := no_word rfl
theorem sanitizeDone (readBackOk : Bool) : Statement (.sanitizeDone readBackOk) := no_word rfl
theorem firmwareImageDownload (cid : BitVec 16) : Statement (.firmwareImageDownload cid) := no_word rfl
theorem firmwareCommit (cid : BitVec 16) (image : FwImage) : Statement (.firmwareCommit cid image) := no_word rfl
theorem firmwareCommitImmediate (cid : BitVec 16) (image : FwImage) : Statement (.firmwareCommitImmediate cid image) :=
    no_word rfl
theorem ccEnable (value : BitVec 32) : Statement (.ccEnable value) := no_word rfl
theorem ccDisable (value : BitVec 32) : Statement (.ccDisable value) := no_word rfl
theorem ccShutdown (value : BitVec 32) : Statement (.ccShutdown value) := no_word rfl
theorem shutdownComplete : Statement (.shutdownComplete) := no_word rfl
theorem functionLevelReset : Statement (.functionLevelReset) := no_word rfl
theorem hotReset : Statement (.hotReset) := no_word rfl
theorem perstNAssert : Statement (.perstNAssert) := no_word rfl
theorem perstNDeassert : Statement (.perstNDeassert) := no_word rfl
theorem pcieL1Entry (d3hot : Bool) : Statement (.pcieL1Entry d3hot) := no_word rfl
theorem mbxClaim (path : Path) (m : Fin 16) : Statement (.mbxClaim path m) := no_word rfl
theorem mbxRing (path : Path) (m : Fin 16) (irq : Bool) : Statement (.mbxRing path m irq) := no_word rfl
theorem mbxRelease (path : Path) (m : Fin 16) : Statement (.mbxRelease path m) := no_word rfl
theorem mbxOverrunClear (path : Path) (m : Fin 16) : Statement (.mbxOverrunClear path m) := no_word rfl
theorem mbxStatusRead (path : Path) (m : Fin 16) (width : Nat) : Statement (.mbxStatusRead path m width) :=
    no_word rfl
theorem mbxOwnershipTimeout (m : Fin 16) : Statement (.mbxOwnershipTimeout m) := no_word rfl
theorem i3cPrivateWrite (bytes : List (BitVec 8)) : Statement (.i3cPrivateWrite bytes) := no_word rfl
theorem i3cPrivateRead (count : Nat) : Statement (.i3cPrivateRead count) := no_word rfl
theorem entdaa (addr : BitVec 7) : Statement (.entdaa addr) := no_word rfl
theorem setdasa (static addr : BitVec 7) : Statement (.setdasa static addr) := no_word rfl
theorem rstdaa : Statement (.rstdaa) := no_word rfl
theorem enec : Statement (.enec) := no_word rfl
theorem disec : Statement (.disec) := no_word rfl
theorem setmwl (len : BitVec 16) : Statement (.setmwl len) := no_word rfl
theorem setmrl (len : BitVec 16) : Statement (.setmrl len) := no_word rfl
theorem getmwl : Statement (.getmwl) := no_word rfl
theorem getmrl : Statement (.getmrl) := no_word rfl
theorem getpid : Statement (.getpid) := no_word rfl
theorem getbcr : Statement (.getbcr) := no_word rfl
theorem getdcr : Statement (.getdcr) := no_word rfl
theorem getstatus : Statement (.getstatus) := no_word rfl
theorem rstact (action : BitVec 8) : Statement (.rstact action) := no_word rfl
theorem crgHeadPcieWrite (value : BitVec 32) : Statement (.crgHeadPcieWrite value) := no_word rfl
theorem crgHeadI3cWrite (value : BitVec 32) : Statement (.crgHeadI3cWrite value) := no_word rfl
theorem crgPcieEnable : Statement (.crgPcieEnable) := no_word rfl
theorem crgI3cEnable : Statement (.crgI3cEnable) := no_word rfl
theorem crgOverflowClear (path : Path) : Statement (.crgOverflowClear path) := no_word rfl
theorem getDeviceInfo (m : Fin 16) : Statement (.getDeviceInfo m) := no_word rfl
theorem getInventory (m : Fin 16) : Statement (.getInventory m) := no_word rfl
theorem getInventoryDone : Statement (.getInventoryDone) := no_word rfl
theorem setTime (m : Fin 16) : Statement (.setTime m) := no_word rfl
theorem setPinFunction (m : Fin 16) : Statement (.setPinFunction m) := no_word rfl
theorem getPinFunction (m : Fin 16) : Statement (.getPinFunction m) := no_word rfl
theorem faultPinAssert (asserted : Bool) : Statement (.faultPinAssert asserted) := no_word rfl
theorem commitPulseEnd (pin : Fin 16) : Statement (.commitPulseEnd pin) := no_word rfl
theorem powerSetState (m : Fin 16) : Statement (.powerSetState m) := no_word rfl
theorem powerStateEntry : Statement (.powerStateEntry) := no_word rfl
theorem powerSetStateTimeout : Statement (.powerSetStateTimeout) := no_word rfl
theorem wakeEvent (src : WakeSource) : Statement (.wakeEvent src) := no_word rfl
theorem timerWake (slotBusy : Bool) : Statement (.timerWake slotBusy) := no_word rfl
theorem wakeNRelease : Statement (.wakeNRelease) := no_word rfl
theorem pllLockFailure (pll : Fin 8) : Statement (.pllLockFailure pll) := no_word rfl
theorem crystalFailure : Statement (.crystalFailure) := no_word rfl
theorem holdupTest (m : Fin 16) : Statement (.holdupTest m) := no_word rfl
theorem holdupStatus (m : Fin 16) : Statement (.holdupStatus m) := no_word rfl
theorem holdupTestDue (kind : HoldupDue) : Statement (.holdupTestDue kind) := no_word rfl
theorem holdupLoadApply (restUv : Nat) : Statement (.holdupLoadApply restUv) := no_word rfl
theorem holdupLoadRelease (loadedUv : Nat) : Statement (.holdupLoadRelease loadedUv) := no_word rfl
theorem holdupTestDone (afterUv : Nat) : Statement (.holdupTestDone afterUv) := no_word rfl
theorem holdupRecompute (storeUv : Nat) : Statement (.holdupRecompute storeUv) := no_word rfl
theorem thermalGet (m : Fin 16) : Statement (.thermalGet m) := no_word rfl
theorem thermalSetLimits (m : Fin 16) : Statement (.thermalSetLimits m) := no_word rfl
theorem thermalSample (readings : List (Option Int)) : Statement (.thermalSample readings) := no_word rfl
theorem throttleStepRise : Statement (.throttleStepRise) := no_word rfl
theorem throttleStepFall : Statement (.throttleStepFall) := no_word rfl
theorem thermalHaltComplete (stoppedAt : Option Nat) : Statement (.thermalHaltComplete stoppedAt) := no_word rfl
theorem writeAccept (src : Source) : Statement (.writeAccept src) := no_word rfl
theorem writePlace (seq : Nat) (parity : Option PlaceParity) : Statement (.writePlace seq parity) := no_word rfl
theorem superblockAgeTimeout (sb : Nat) : Statement (.superblockAgeTimeout sb) := no_word rfl
theorem rowProgramDone (sb row : Nat) (temps : List Int) : Statement (.rowProgramDone sb row temps) := no_word rfl
theorem superblockGrant (group : Fin 32) (halfErased : List BlankFound)
    : Statement (.superblockGrant group halfErased) :=
    no_word rfl
theorem ledgerPageDone (copies : List (Fin 3)) : Statement (.ledgerPageDone copies) := no_word rfl
theorem gcCopyDone (src : Nat) (readBackOk : Bool) : Statement (.gcCopyDone src readBackOk) := no_word rfl
theorem foldStart (segment : Nat) : Statement (.foldStart segment) := no_word rfl
theorem staticWearLevel (group : Fin 32) (halfErased : List BlankFound) (readBackOk : Bool)
    : Statement (.staticWearLevel group halfErased readBackOk) :=
    no_word rfl
theorem jobEnqueue (die : Fin 1024) (job : Job) : Statement (.jobEnqueue die job) := no_word rfl
theorem jobStart (die : Fin 1024) (restoreOk : Bool) : Statement (.jobStart die restoreOk) := no_word rfl
theorem busGrant (ch : Fin 32) (waiting : List (Fin 32)) : Statement (.busGrant ch waiting) := no_word rfl
theorem suspendRequest (die : Fin 1024) : Statement (.suspendRequest die) := no_word rfl
theorem suspendResume (die : Fin 1024) (cause : ResumeCause) : Statement (.suspendResume die cause) := no_word rfl
theorem routineAbandon (die : Fin 1024) (cause : AbandonCause) : Statement (.routineAbandon die cause) := no_word rfl
theorem dieTempRead (die : Fin 1024) (celsius : Int) : Statement (.dieTempRead die celsius) := no_word rfl
theorem controlStoreSweep (ch : Fin 32) (word : Fin 16384) (flipped : List (Fin 39))
    : Statement (.controlStoreSweep ch word flipped) :=
    no_word rfl
theorem csPatchLoad (m : Fin 16) (image : PatchImage) : Statement (.csPatchLoad m image) := no_word rfl
theorem patchChannelLoad (ch : Fin 32) (readBackOk : Bool) : Statement (.patchChannelLoad ch readBackOk) :=
    no_word rfl
theorem csPatchLoadDone : Statement (.csPatchLoadDone) := no_word rfl
theorem cuNop (die : Fin 1024) : Statement (.cuNop die) := word rfl (by decide)
theorem cuMovi (die : Fin 1024) (dst : Fin 16) (imm : BitVec 18) : Statement (.cuMovi die dst imm) :=
    word rfl (by decide)
theorem cuMov (die : Fin 1024) (dst src : Fin 16) : Statement (.cuMov die dst src) := word rfl (by decide)
theorem cuAdd (die : Fin 1024) (dst src : Fin 16) : Statement (.cuAdd die dst src) := word rfl (by decide)
theorem cuAddi (die : Fin 1024) (dst : Fin 16) (imm : BitVec 18) : Statement (.cuAddi die dst imm) :=
    word rfl (by decide)
theorem cuSub (die : Fin 1024) (dst src : Fin 16) : Statement (.cuSub die dst src) := word rfl (by decide)
theorem cuAnd (die : Fin 1024) (dst src : Fin 16) : Statement (.cuAnd die dst src) := word rfl (by decide)
theorem cuOr (die : Fin 1024) (dst src : Fin 16) : Statement (.cuOr die dst src) := word rfl (by decide)
theorem cuShli (die : Fin 1024) (dst : Fin 16) (imm : BitVec 18) : Statement (.cuShli die dst imm) :=
    word rfl (by decide)
theorem cuShri (die : Fin 1024) (dst : Fin 16) (imm : BitVec 18) : Statement (.cuShri die dst imm) :=
    word rfl (by decide)
theorem cuCmpi (die : Fin 1024) (dst : Fin 16) (imm : BitVec 18) : Statement (.cuCmpi die dst imm) :=
    word rfl (by decide)
theorem cuLdd (die : Fin 1024) (dst : Fin 16) (imm : BitVec 18) : Statement (.cuLdd die dst imm) :=
    word rfl (by decide)
theorem cuLdq (die : Fin 1024) (dst : Fin 16) (imm : BitVec 18) : Statement (.cuLdq die dst imm) :=
    word rfl (by decide)
theorem cuJmp (die : Fin 1024) (imm : BitVec 18) : Statement (.cuJmp die imm) := word rfl (by decide)
theorem cuBz (die : Fin 1024) (imm : BitVec 18) : Statement (.cuBz die imm) := word rfl (by decide)
theorem cuBnz (die : Fin 1024) (imm : BitVec 18) : Statement (.cuBnz die imm) := word rfl (by decide)
theorem cuBbs (die : Fin 1024) (bit src : Fin 16) (imm : BitVec 18) : Statement (.cuBbs die bit src imm) :=
    word rfl (by decide)
theorem cuBbc (die : Fin 1024) (bit src : Fin 16) (imm : BitVec 18) : Statement (.cuBbc die bit src imm) :=
    word rfl (by decide)
theorem cuDjnz (die : Fin 1024) (dst : Fin 16) (imm : BitVec 18) : Statement (.cuDjnz die dst imm) :=
    word rfl (by decide)
theorem cuCall (die : Fin 1024) (imm : BitVec 18) : Statement (.cuCall die imm) := word rfl (by decide)
theorem cuRet (die : Fin 1024) : Statement (.cuRet die) := word rfl (by decide)
theorem cuCe (die : Fin 1024) (src : Fin 16) : Statement (.cuCe die src) := word rfl (by decide)
theorem cuCmd (die : Fin 1024) (imm : BitVec 18) : Statement (.cuCmd die imm) := word rfl (by decide)
theorem cuCmdr (die : Fin 1024) (src : Fin 16) : Statement (.cuCmdr die src) := word rfl (by decide)
theorem cuAddr (die : Fin 1024) (count src : Fin 16) : Statement (.cuAddr die count src) := word rfl (by decide)
theorem cuDout (die : Fin 1024) (imm : BitVec 18) (parityOk : Bool) : Statement (.cuDout die imm parityOk) :=
    word rfl (by decide)
theorem cuDin (die : Fin 1024) (imm : BitVec 18) (bytes : List (BitVec 8)) : Statement (.cuDin die imm bytes) :=
    word rfl (by decide)
theorem cuWaitc (die : Fin 1024) (imm : BitVec 18) : Statement (.cuWaitc die imm) := word rfl (by decide)
theorem cuWaitu (die : Fin 1024) (imm : BitVec 18) : Statement (.cuWaitu die imm) := word rfl (by decide)
theorem cuWaitq (die : Fin 1024) (imm : BitVec 18) : Statement (.cuWaitq die imm) := word rfl (by decide)
theorem cuStatr (die : Fin 1024) (status : BitVec 8) : Statement (.cuStatr die status) := word rfl (by decide)
theorem cuSetf (die : Fin 1024) (src : Fin 16) (imm : BitVec 18) : Statement (.cuSetf die src imm) :=
    word rfl (by decide)
theorem cuGetf (die : Fin 1024) (dst : Fin 16) (imm : BitVec 18) (value : BitVec 32)
    : Statement (.cuGetf die dst imm value) :=
    word rfl (by decide)
theorem cuTemp (die : Fin 1024) (dst : Fin 16) (celsius : Int) : Statement (.cuTemp die dst celsius) :=
    word rfl (by decide)
theorem cuCommit (die : Fin 1024) : Statement (.cuCommit die) := word rfl (by decide)
theorem cuYield (die : Fin 1024) (imm : BitVec 18) : Statement (.cuYield die imm) := word rfl (by decide)
theorem cuPark (die : Fin 1024) : Statement (.cuPark die) := word rfl (by decide)
theorem cuSusp (die : Fin 1024) : Statement (.cuSusp die) := word rfl (by decide)
theorem cuRsm (die : Fin 1024) : Statement (.cuRsm die) := word rfl (by decide)
theorem cuLrst (die : Fin 1024) : Statement (.cuLrst die) := word rfl (by decide)
theorem cuHubinc (die : Fin 1024) (imm : BitVec 18) : Statement (.cuHubinc die imm) := word rfl (by decide)
theorem cuDone (die : Fin 1024) (src : Fin 16) : Statement (.cuDone die src) := word rfl (by decide)
theorem cuFailr (die : Fin 1024) (imm : BitVec 18) : Statement (.cuFailr die imm) := word rfl (by decide)
theorem cuTrain (die : Fin 1024) (imm : BitVec 18) : Statement (.cuTrain die imm) := word rfl (by decide)
theorem codewordDecodeDone (sb off : Nat) (result : Decode) : Statement (.codewordDecodeDone sb off result) :=
    no_word rfl
theorem stripeRebuildEnd (sb off : Nat) (result : Rebuild) : Statement (.stripeRebuildEnd sb off result) :=
    no_word rfl
theorem scrubPatrol : Statement (.scrubPatrol) := no_word rfl
theorem dramAccess (acc : DramAccess) : Statement (.dramAccess acc) := no_word rfl
theorem dramRowTestDone (ch : Fin 16) (rank : Fin 2) (bank : Fin 16) (row : Nat) (pass : Bool)
    : Statement (.dramRowTestDone ch rank bank row pass) :=
    no_word rfl
theorem refreshDue (ch : Fin 16) (rank : Fin 2) (ns : Nat) (hot : Bool) : Statement (.refreshDue ch rank ns hot) :=
    no_word rfl
theorem refreshCatchUp (ch : Fin 16) (rank : Fin 2) (ns : Nat) : Statement (.refreshCatchUp ch rank ns) := no_word rfl
theorem selfRefreshEntry (ch : Fin 16) : Statement (.selfRefreshEntry ch) := no_word rfl
theorem dramDriftCheck (ch : Fin 16) (rank : Fin 2) (driftTaps : Int) (celsius : Int)
    : Statement (.dramDriftCheck ch rank driftTaps celsius) :=
    no_word rfl
theorem recentringSlice (ch : Fin 16) (rank : Fin 2) (ns : Nat) (sweeps : List LaneSweep)
    : Statement (.recentringSlice ch rank ns sweeps) :=
    no_word rfl
theorem sramScrubRead (bank block : Nat) (flipped : List (Fin 585)) : Statement (.sramScrubRead bank block flipped) :=
    no_word rfl
theorem regionTestDone (bank region : Nat) (pass : Bool) : Statement (.regionTestDone bank region pass) := no_word rfl
theorem srpFlipArm (value : BitVec 32) : Statement (.srpFlipArm value) := no_word rfl
theorem norAutoSuspend (bankB : Bool) (stallUs requester : Nat) : Statement (.norAutoSuspend bankB stallUs requester) :=
    no_word rfl
theorem norIdleResume (bankB : Bool) : Statement (.norIdleResume bankB) := no_word rfl
theorem norForcedResume (bankB : Bool) : Statement (.norForcedResume bankB) := no_word rfl
theorem norContinuousReadTimeout : Statement (.norContinuousReadTimeout) := no_word rfl
theorem norOperationDone (bankB : Bool) (statusOk : Bool) : Statement (.norOperationDone bankB statusOk) :=
    no_word rfl
theorem selfTestEnd (unit : BitVec 16) (pass : Bool) (durationUs : Nat)
    : Statement (.selfTestEnd unit pass durationUs) :=
    no_word rfl
theorem selfTest (m : Fin 16) : Statement (.selfTest m) := no_word rfl
theorem unitStatus (m : Fin 16) : Statement (.unitStatus m) := no_word rfl
theorem unitReadmit (m : Fin 16) : Statement (.unitReadmit m) := no_word rfl
theorem eventFifoDrain : Statement (.eventFifoDrain) := no_word rfl
theorem eventTokenRefill (code : BitVec 16) : Statement (.eventTokenRefill code) := no_word rfl
theorem eventLogCopy : Statement (.eventLogCopy) := no_word rfl
theorem eventHistoryPage : Statement (.eventHistoryPage) := no_word rfl
theorem eventRead (m : Fin 16) : Statement (.eventRead m) := no_word rfl
theorem eventRateSet (m : Fin 16) : Statement (.eventRateSet m) := no_word rfl
theorem statsRead (m : Fin 16) : Statement (.statsRead m) := no_word rfl
theorem cancel (m : Fin 16) : Statement (.cancel m) := no_word rfl
theorem handleQuery (m : Fin 16) : Statement (.handleQuery m) := no_word rfl
theorem keySet (m : Fin 16) : Statement (.keySet m) := no_word rfl
theorem keySetDone (step : KeyStep) : Statement (.keySetDone step) := no_word rfl
theorem keyZeroize (m : Fin 16) : Statement (.keyZeroize m) := no_word rfl
theorem keyZeroizeDone (step : KeyStep) : Statement (.keyZeroizeDone step) := no_word rfl
theorem secureDiscard (m : Fin 16) : Statement (.secureDiscard m) := no_word rfl
theorem secureDiscardDone (erases : Nat) (readBackOk : Bool) : Statement (.secureDiscardDone erases readBackOk) :=
    no_word rfl
theorem fwStage (m : Fin 16) : Statement (.fwStage m) := no_word rfl
theorem fwStageDone (image : FwImage) (written : Nat) : Statement (.fwStageDone image written) := no_word rfl
theorem fwActivate (m : Fin 16) : Statement (.fwActivate m) := no_word rfl
theorem debugChallenge (m : Fin 16) : Statement (.debugChallenge m) := no_word rfl
theorem debugUnlock (m : Fin 16) : Statement (.debugUnlock m) := no_word rfl
theorem debugUnlockDone : Statement (.debugUnlockDone) := no_word rfl
theorem drbgReseed : Statement (.drbgReseed) := no_word rfl
theorem drbgHealthFail : Statement (.drbgHealthFail) := no_word rfl
theorem rcRegisterRead (space : Space) (port : ReadPort) (offset width : Nat)
    : Statement (.rcRegisterRead space port offset width) :=
    no_word rfl
theorem wideLoRead (port : ReadPort) (utc : Bool) : Statement (.wideLoRead port utc) := no_word rfl
theorem wideHiRead (port : ReadPort) (utc : Bool) : Statement (.wideHiRead port utc) := no_word rfl
theorem idSubsysWrite (value : BitVec 32) : Statement (.idSubsysWrite value) := no_word rfl
theorem pwrPllFailClear (value : BitVec 32) : Statement (.pwrPllFailClear value) := no_word rfl
theorem registerWrite (space : Space) (path : Path) (offset width : Nat) (value : BitVec 64)
    : Statement (.registerWrite space path offset width value) :=
    no_word rfl
theorem pldNDeassert : Statement (.pldNDeassert) := no_word rfl
theorem powerOff : Statement (.powerOff) := no_word rfl
theorem pcieD3hotExit : Statement (.pcieD3hotExit) := no_word rfl

end Sys2Proof.Laws.MicroOpcodes
end

