-- ==== Sys2Proof/Machine/Balls.lean ====
section
/-! DEFINITION. The ball map and the state of the pins outside service (R11, R425 to R429, R434, R436). -/

namespace Sys2Proof.Machine

/-! ## The ball map (R425 to R429) -/

/-- What a ball carries: ground, a supply, a signal that may belong to a bus or to a numbered instance, or a signal of
a NAND channel, or of a DRAM channel. -/
inductive Ball where
  | vss
  | supply (name : String)
  | signal (name : String) (index : Option Nat)
  | nand (channel : Nat) (name : String) (bit : Option Nat)
  | dram (channel : Nat) (name : String) (bit : Option Nat)
deriving DecidableEq, Repr

/-- The letters of a row name's alphabet, in order (R11). -/
def rowLetters : List Char :=
  ['A', 'B', 'C', 'D', 'E', 'F', 'G', 'H', 'J', 'K', 'L', 'M', 'N', 'P', 'T', 'U', 'V', 'W', 'Y']

/-- The row names in the order of R11: A to Y, AA to AY, BA to BY, CA to CC. -/
def rowNames : List String :=
  let plain := rowLetters.map fun c => c.toString
  plain ++ (["A", "B"].flatMap fun p => plain.map fun c => p ++ c) ++ ["CA", "CB", "CC"]

/-- Row index of a row name, from 1 (R425). -/
def rowIndex (name : String) : Nat := rowNames.findIdx (· == name) + 1

/-- A differential pair at two neighbouring columns. -/
def pairBall (name : String) (n first col : Nat) : Option Ball :=
  if col = first then some (.signal (name ++ "_P") (some n))
  else if col = first + 1 then some (.signal (name ++ "_N") (some n))
  else none

/-- Row A (R426). -/
def ballA (col : Nat) : Ball :=
  if 13 ≤ col ∧ col ≤ 48 then
    ((List.range 12).findSome? fun n => pairBall "PE_TX" n (13 + 3 * n) col).getD .vss
  else match col with
    | 49 => .signal "REFCLK_P" none
    | 50 => .signal "REFCLK_N" none
    | 52 => .signal "XTAL32K_IN" none
    | 53 => .signal "XTAL32K_OUT" none
    | _ => if 55 ≤ col ∧ col ≤ 58 then .supply "VDD_AON" else .vss

/-- Row B (R426). -/
def ballB (col : Nat) : Ball :=
  if col ≤ 12 then ((List.range 4).findSome? fun n => pairBall "ING_RX" n (3 * n + 1) col).getD .vss
  else match col with
    | 49 => .signal "RESET_N" none
    | 50 => .signal "PLD_N" none
    | 51 => .signal "THERM_N" none
    | 52 => .signal "HU_SENSE" none
    | 53 => .signal "HU_TEST_N" none
    | 55 => .signal "I3C_SCL" none
    | 56 => .signal "I3C_SDA" none
    | 58 => .signal "TEST_MODE" none
    | 59 => .signal "TRST_N" none
    | _ => .vss

/-- Row C (R426). -/
def ballC (col : Nat) : Ball :=
  if 13 ≤ col ∧ col ≤ 24 then
    ((List.range 4).findSome? fun k => pairBall "PE_TX" (12 + k) (13 + 3 * k) col).getD .vss
  else if 25 ≤ col ∧ col ≤ 48 then
    ((List.range 8).findSome? fun n => pairBall "PE_RX" n (25 + 3 * n) col).getD .vss
  else match col with
    | 49 => .signal "TCK" none
    | 50 => .signal "TMS" none
    | 51 => .signal "TDI" none
    | 52 => .signal "TDO" none
    | _ => if 53 ≤ col then .signal "MFP" (some (col - 53)) else .vss

/-- Row D (R426). -/
def ballD (col : Nat) : Ball :=
  if col ≤ 12 then ((List.range 4).findSome? fun k => pairBall "ING_RX" (4 + k) (3 * k + 1) col).getD .vss
  else if 49 ≤ col ∧ col ≤ 56 then .signal "MFP" (some (col - 41))
  else .vss

/-- Row E (R426). -/
def ballE (col : Nat) : Ball :=
  if 13 ≤ col ∧ col ≤ 36 then
    ((List.range 8).findSome? fun k => pairBall "PE_RX" (8 + k) (13 + 3 * k) col).getD .vss
  else if 7 ≤ col ∧ col ≤ 10 ∨ 43 ≤ col ∧ col ≤ 48 then .supply "VDD_SERH"
  else if 49 ≤ col then .supply "VDD_IO"
  else match col with
    | 1 => .signal "ING_TX_P" none
    | 2 => .signal "ING_TX_N" none
    | 4 => .signal "ING_REFCLK_P" none
    | 5 => .signal "ING_REFCLK_N" none
    | 37 => .signal "PE_REFCLK_P" none
    | 38 => .signal "PE_REFCLK_N" none
    | 40 => .signal "PERST_N" none
    | 41 => .signal "CLKREQ_N" none
    | 42 => .signal "WAKE_N" none
    | _ => .vss

/-- Row F (R426). -/
def ballF (col : Nat) : Ball :=
  if col ≤ 8 ∨ 13 ≤ col ∧ col ≤ 48 then .supply "VDD_SER"
  else if 49 ≤ col ∧ col ≤ 52 then .supply "VDD_IO"
  else .vss

/-- A NAND channel's block: rows 7 + 2i and 8 + 2i, positions 1 to 14 from the west or the east edge (R427). -/
def nandBall (row col : Nat) : Ball :=
  if 39 ≤ row then .vss
  else
    let west := decide (col ≤ 14)
    let c := (row - 7) / 2 + (if west then 0 else 16)
    let k := if west then col else 61 - col
    let upper := (row - 7) % 2 == 0
    if k ≤ 8 then .nand c (if upper then "DQ" else "CE_N") (some (k - 1))
    else if upper then
      match k with
      | 9 => .nand c "DQS_T" none
      | 10 => .nand c "DQS_C" none
      | 11 => .nand c "RE_T" none
      | 12 => .nand c "RE_C" none
      | 13 => .nand c "WE_N" none
      | _ => .supply "VDD_NIO"
    else
      match k with
      | 9 => .nand c "CLE" none
      | 10 => .nand c "ALE" none
      | 11 => .nand c "WP_N" none
      | 12 => .nand c "RB_N" none
      | _ => .supply "VDD_NIO"

/-- Rows 1 and 2 of a DRAM channel's block: byte lane `l` (R428). -/
def dramLaneBall (d l pos : Nat) : Ball :=
  let dq (i : Nat) : Ball := .dram d "DQ" (some (8 * l + i))
  match pos with
  | 1 => dq 0
  | 2 => dq 1
  | 4 => dq 2
  | 5 => dq 3
  | 7 => .dram d "RDQS_T" (some l)
  | 8 => .dram d "RDQS_C" (some l)
  | 10 => dq 4
  | 11 => dq 5
  | 13 => dq 6
  | 14 => dq 7
  | 15 => .dram d "DMI" (some l)
  | _ => .vss

/-- Row 3 of a DRAM channel's block (R428). -/
def dramClockBall (d pos : Nat) : Ball :=
  match pos with
  | 1 => .dram d "WCK_T" none
  | 2 => .dram d "WCK_C" none
  | 4 => .dram d "CK_T" none
  | 5 => .dram d "CK_C" none
  | 7 => .dram d "CS" (some 0)
  | 8 => .dram d "CS" (some 1)
  | _ => if 10 ≤ pos ∧ pos ≤ 13 then .supply "VDD_DQ" else .vss

/-- Row 4 of a DRAM channel's block (R428). -/
def dramCommandBall (d pos : Nat) : Ball :=
  if pos ≤ 7 then .dram d "CA" (some (pos - 1))
  else if 9 ≤ pos ∧ pos ≤ 13 then .supply "VDD_DPHY"
  else .vss

/-- The DRAM region: channel 4q + k in rows 44 + 4k to 47 + 4k, columns 15q + 1 to 15q + 15, and row CC (R428). -/
def dramBall (row col : Nat) : Ball :=
  let q := (col - 1) / 15
  let pos := (col - 1) % 15 + 1
  if row = 60 then
    if pos = 1 then .signal "ZQ" (some q) else if col = 2 then .signal "DRAM_RESET_N" none else .vss
  else
    let d := 4 * q + (row - 44) / 4
    match (row - 44) % 4 with
    | 0 => dramLaneBall d 0 pos
    | 1 => dramLaneBall d 1 pos
    | 2 => dramClockBall d pos
    | _ => dramCommandBall d pos

/-- The ball at a row index and a column, both from 1 to 60 (R425 to R429). -/
def ballAt (row col : Nat) : Ball :=
  match row with
  | 1 => ballA col
  | 2 => ballB col
  | 3 => ballC col
  | 4 => ballD col
  | 5 => ballE col
  | 6 => ballF col
  | _ =>
    if 44 ≤ row then dramBall row col
    else if col ≤ 14 ∨ 47 ≤ col then nandBall row col
    else if row % 2 = 1 ∧ col % 2 = 0 then .supply "VDD_CORE"
    else .vss

/-! ## Pins outside service (R436) -/

/-- Pins of R436, by rows of its table. -/
inductive PinGroup where
  | mfp | thermN | huTestN | wakeN | clkreqN | tdo | nandSelect | nandControl | nandData | dramResetN | dramCommand | transmit
deriving DecidableEq, Repr

/-- How a pin is driven. -/
inductive PinDrive where
  | highZ | high | low | asserted | released | idle
  /-- by the Cardamom latches: as in service (R319) -/
  | latched
  /-- by the unit behind it -/
  | driven
deriving DecidableEq, Repr

/-- Columns of R436. -/
inductive OutOfService where
  | resetLow | beforeFirmware | p4
deriving DecidableEq, Repr

/-- The column of R436 the device is in, none in service. -/
def outOfService (s : State) : Option OutOfService :=
  match s.life.phase with
  | .off => some .resetLow
  | .inReset => some .resetLow
  | .manufacturing => some .beforeFirmware
  | .recovery => if s.life.fwStart then none else some .beforeFirmware
  | .p4 => some .p4
  | _ => none

/-- An open-drain pin by its state. -/
def openDrain (on : Bool) : PinDrive := if on then .asserted else .released

/-- What a pin of a group does outside service, none in service (R327, R364, R436). Before firmware start DRAM is out of
reset once it has been trained. -/
def pinDrive (s : State) (g : PinGroup) : Option PinDrive :=
  (outOfService s).map fun k =>
    match g with
    | .mfp => if k = .p4 then .latched else .highZ
    | .thermN => openDrain s.thm.thermN
    | .huTestN => .released
    | .wakeN => if k = .p4 then openDrain s.pwr.wakeN else .released
    | .clkreqN => if k = .p4 then .released else .asserted
    | .tdo => .highZ
    | .nandSelect => .high
    | .nandControl => .low
    | .nandData => .highZ
    | .dramResetN => if k = .beforeFirmware ∧ s.dram.rate < 2 then .released else .asserted
    | .dramCommand => if k = .beforeFirmware ∧ s.dram.rate < 2 then .driven else .low
    | .transmit => .idle

end Sys2Proof.Machine
end

