-- ==== Sys2Proof/WellFormed.lean ====
section
/-! DEFINITION. Which commands are well formed. A meaning is given for every command all the same; these checks say
which operands a party outside the device can present. -/

namespace Sys2Proof

/-- A flit's parts are in range (R20). -/
def Flit.wellFormed (f : Flit) : Bool := decide (f.number < 2 ^ 32)

/-- A lane codeword holds 80 words (R40). -/
def Codeword.wellFormed (c : Codeword) : Bool := decide (c.symbols.length = 544)

/-- A module as R2, R30, R260 and R269 allow it to be found. -/
def Board.wellFormed (b : Board) : Bool :=
  decide (b.groups ≤ 32) && decide (1 ≤ b.positions) && b.partialDies.all (fun d => decide (d < 1024)) &&
    decide (b.sweeps9600.length = 32) && decide (b.sweeps8533.length = 32)

/-- A job's descriptor has eight words (R223). -/
def Job.wellFormed (j : Job) : Bool :=
  decide (j.descriptor.length = 8) && decide (j.vector < 256) && decide (j.row < 2 ^ 16)

/-- A protection-information unit met at most two parity failures (R253). -/
def HostUnit.wellFormed (u : HostUnit) : Bool := decide (u.parityFails ≤ 2)

/-- A Dataset Management command names at most 256 ranges (R102). -/
def Sqe.wellFormed (e : Sqe) : Bool := decide (e.ranges.length ≤ 256)

/-- A part is read up to three times, on its way into W8, W9 or W10 (R253). -/
def PlaceParity.wellFormed (p : PlaceParity) : Bool :=
  decide (8 ≤ p.stage ∧ p.stage ≤ 10) && decide (1 ≤ p.fails ∧ p.fails ≤ 3)

/-- What the manual says of a command's operands: lengths and ranges no sender can exceed. -/
def Instr.wellFormed (i : Instr) : Bool :=
  match i with
  | .powerUp board => board.wellFormed
  | .mapReady _ => true
  | .resetNAssert ns => decide (1 ≤ ns)
  | .trstN => true
  | .pldNAssert ns => decide (1 ≤ ns)
  | .powerLossFlushEnd _ _ => true
  | .cloveFault _ => true
  | .recoveryDone _ => true
  | .warmRecoveryTimeout => true
  | .ucieFlitReceive _ _ flit _ _ => flit.wellFormed
  | .ucieReplayTimeout _ => true
  | .ucieRetrainDone _ _ => true
  | .captureLinkUp _ => true
  | .captureLinkDown _ => true
  | .captureLinkStatus _ => true
  | .captureLinkUpTimeout => true
  | .statusSend => true
  | .laneSignalDetect _ => true
  | .preambleDetect => true
  | .acquisitionDone _ => true
  | .acquireTimeout => true
  | .startDelimiter => true
  | .trackTimeout => true
  | .firstAlignmentCodeword cws => decide (cws.length = 8) && cws.all fun c => decide (c.length = 544)
  | .trainSend _ _ _ _ => true
  | .tuneTimeout => true
  | .deskewDone _ => true
  | .laneSignalLoss _ => true
  | .codewordReceive _ cw => cw.wellFormed
  | .frameHeader => true
  | .frameEnd => true
  | .frameStallNotice => true
  | .stallTimerExpire => true
  | .grantRaise => true
  | .backpressureEpisode => true
  | .commitAck _ => true
  | .commitEchoRepeat _ _ => true
  | .streamOpen _ => true
  | .streamClose _ => true
  | .streamStatus _ => true
  | .streamExtendWindow _ => true
  | .bufferPartition _ => true
  | .takeOpen _ => true
  | .takeClose _ => true
  | .frameIndexRead _ => true
  | .streamDrainDone _ => true
  | .heldUnitTimeout _ => true
  | .indexEntryPlace _ => true
  | .indexUnitTimeout _ => true
  | .sqTailDoorbell qid _ entries => decide (qid ≤ 2047) && entries.all Sqe.wellFormed
  | .cqHeadDoorbell qid _ => decide (qid ≤ 2047)
  | .interruptCoalescingTimeout _ => true
  | .flush sq _ => decide (1 ≤ sq ∧ sq ≤ 2047)
  | .write sq _ data => decide (1 ≤ sq ∧ sq ≤ 2047) && data.all HostUnit.wellFormed
  | .read sq _ => decide (1 ≤ sq ∧ sq ≤ 2047)
  | .writeZeroes sq _ => decide (1 ≤ sq ∧ sq ≤ 2047)
  | .datasetManagement sq _ => decide (1 ≤ sq ∧ sq ≤ 2047)
  | .verify sq _ => decide (1 ≤ sq ∧ sq ≤ 2047)
  | .orderedWrite sq _ data => decide (1 ≤ sq ∧ sq ≤ 2047) && data.all HostUnit.wellFormed
  | .fence sq _ => decide (1 ≤ sq ∧ sq ≤ 2047)
  | .fenceSatisfied _ => true
  | .writeCompletionPost _ _ => true
  | .flushComplete _ _ => true
  | .hostReadComplete _ _ _ _ => true
  | .identify _ => true
  | .createIoSubmissionQueue _ => true
  | .createIoCompletionQueue _ => true
  | .deleteIoSubmissionQueue _ => true
  | .deleteIoCompletionQueue _ => true
  | .getLogPage _ => true
  | .setArbitration _ => true
  | .setPowerManagement _ => true
  | .setTemperatureThreshold _ => true
  | .setVolatileWriteCache _ => true
  | .setNumberOfQueues _ => true
  | .setInterruptCoalescing _ => true
  | .setAutonomousPowerState _ table => decide (table.length = 32)
  | .getFeatures _ => true
  | .getVolatileWriteCache _ => true
  | .abort _ => true
  | .asynchronousEventRequest _ => true
  | .namespaceCreate _ _ => true
  | .namespaceDelete _ => true
  | .namespaceAttach _ _ => true
  | .namespaceDetach _ _ => true
  | .formatNvm _ => true
  | .formatNvmDone _ => true
  | .sanitizeBlockErase _ => true
  | .sanitizeCryptoErase _ => true
  | .sanitizeDone _ => true
  | .firmwareImageDownload _ => true
  | .firmwareCommit _ _ => true
  | .firmwareCommitImmediate _ _ => true
  | .ccEnable _ => true
  | .ccDisable _ => true
  | .ccShutdown _ => true
  | .shutdownComplete => true
  | .functionLevelReset => true
  | .hotReset => true
  | .perstNAssert => true
  | .perstNDeassert => true
  | .pcieL1Entry _ => true
  | .mbxClaim _ _ => true
  | .mbxRing _ _ _ => true
  | .mbxRelease _ _ => true
  | .mbxOverrunClear _ _ => true
  | .mbxStatusRead _ _ width => decide (width = 1 ∨ width = 2 ∨ width = 4 ∨ width = 8)
  | .mbxOwnershipTimeout _ => true
  | .i3cPrivateWrite bytes => decide (bytes.length ≤ 258)
  | .i3cPrivateRead count => decide (count ≤ 256)
  | .entdaa _ => true
  | .setdasa _ _ => true
  | .rstdaa => true
  | .enec => true
  | .disec => true
  | .setmwl _ => true
  | .setmrl _ => true
  | .getmwl => true
  | .getmrl => true
  | .getpid => true
  | .getbcr => true
  | .getdcr => true
  | .getstatus => true
  | .rstact _ => true
  | .crgHeadPcieWrite _ => true
  | .crgHeadI3cWrite _ => true
  | .crgPcieEnable => true
  | .crgI3cEnable => true
  | .crgOverflowClear _ => true
  | .getDeviceInfo _ => true
  | .getInventory _ => true
  | .getInventoryDone => true
  | .setTime _ => true
  | .setPinFunction _ => true
  | .getPinFunction _ => true
  | .faultPinAssert _ => true
  | .commitPulseEnd _ => true
  | .powerSetState _ => true
  | .powerStateEntry => true
  | .powerSetStateTimeout => true
  | .wakeEvent _ => true
  | .timerWake _ => true
  | .wakeNRelease => true
  | .pllLockFailure _ => true
  | .crystalFailure => true
  | .holdupTest _ => true
  | .holdupStatus _ => true
  | .holdupTestDue _ => true
  | .holdupLoadApply _ => true
  | .holdupLoadRelease _ => true
  | .holdupTestDone _ => true
  | .holdupRecompute _ => true
  | .thermalGet _ => true
  | .thermalSetLimits _ => true
  | .thermalSample readings => decide (readings.length = 24)
  | .throttleStepRise => true
  | .throttleStepFall => true
  | .thermalHaltComplete _ => true
  | .writeAccept _ => true
  | .writePlace _ parity => parity.all PlaceParity.wellFormed
  | .superblockAgeTimeout _ => true
  | .rowProgramDone _ _ temps => decide (temps.length = 32)
  | .superblockGrant _ _ => true
  | .ledgerPageDone copies => copies.Nodup
  | .gcCopyDone _ _ => true
  | .foldStart _ => true
  | .staticWearLevel _ _ _ => true
  | .jobEnqueue _ job => job.wellFormed
  | .jobStart _ _ => true
  | .busGrant _ waiting => waiting.Nodup
  | .suspendRequest _ => true
  | .suspendResume _ _ => true
  | .routineAbandon _ _ => true
  | .dieTempRead _ _ => true
  | .controlStoreSweep _ _ flipped => flipped.Nodup
  | .csPatchLoad _ _ => true
  | .patchChannelLoad _ _ => true
  | .csPatchLoadDone => true
  | .cuNop _ => true
  | .cuMovi _ _ _ => true
  | .cuMov _ _ _ => true
  | .cuAdd _ _ _ => true
  | .cuAddi _ _ _ => true
  | .cuSub _ _ _ => true
  | .cuAnd _ _ _ => true
  | .cuOr _ _ _ => true
  | .cuShli _ _ _ => true
  | .cuShri _ _ _ => true
  | .cuCmpi _ _ _ => true
  | .cuLdd _ _ _ => true
  | .cuLdq _ _ _ => true
  | .cuJmp _ _ => true
  | .cuBz _ _ => true
  | .cuBnz _ _ => true
  | .cuBbs _ _ _ _ => true
  | .cuBbc _ _ _ _ => true
  | .cuDjnz _ _ _ => true
  | .cuCall _ _ => true
  | .cuRet _ => true
  | .cuCe _ _ => true
  | .cuCmd _ _ => true
  | .cuCmdr _ _ => true
  | .cuAddr _ count _ => decide (1 ≤ count.val ∧ count.val ≤ 5)
  | .cuDout _ _ _ => true
  | .cuDin _ imm bytes => decide (bytes.length = imm.toNat)
  | .cuWaitc _ _ => true
  | .cuWaitu _ _ => true
  | .cuWaitq _ _ => true
  | .cuStatr _ _ => true
  | .cuSetf _ _ _ => true
  | .cuGetf _ _ _ _ => true
  | .cuTemp _ _ _ => true
  | .cuCommit _ => true
  | .cuYield _ _ => true
  | .cuPark _ => true
  | .cuSusp _ => true
  | .cuRsm _ => true
  | .cuLrst _ => true
  | .cuHubinc _ _ => true
  | .cuDone _ _ => true
  | .cuFailr _ _ => true
  | .cuTrain _ _ => true
  | .codewordDecodeDone _ _ _ => true
  | .stripeRebuildEnd _ _ _ => true
  | .scrubPatrol => true
  | .dramAccess _ => true
  | .dramRowTestDone _ _ _ _ _ => true
  | .refreshDue _ _ _ _ => true
  | .refreshCatchUp _ _ _ => true
  | .selfRefreshEntry _ => true
  | .dramDriftCheck _ _ _ _ => true
  | .recentringSlice _ _ _ _ => true
  | .sramScrubRead _ _ flipped => flipped.Nodup
  | .regionTestDone _ _ _ => true
  | .srpFlipArm _ => true
  | .norAutoSuspend _ _ _ => true
  | .norIdleResume _ => true
  | .norForcedResume _ => true
  | .norContinuousReadTimeout => true
  | .norOperationDone _ _ => true
  | .selfTestEnd _ _ _ => true
  | .selfTest _ => true
  | .unitStatus _ => true
  | .unitReadmit _ => true
  | .eventFifoDrain => true
  | .eventTokenRefill _ => true
  | .eventLogCopy => true
  | .eventHistoryPage => true
  | .eventRead _ => true
  | .eventRateSet _ => true
  | .statsRead _ => true
  | .cancel _ => true
  | .handleQuery _ => true
  | .keySet _ => true
  | .keySetDone _ => true
  | .keyZeroize _ => true
  | .keyZeroizeDone _ => true
  | .secureDiscard _ => true
  | .secureDiscardDone _ _ => true
  | .fwStage _ => true
  | .fwStageDone _ _ => true
  | .fwActivate _ => true
  | .debugChallenge _ => true
  | .debugUnlock _ => true
  | .debugUnlockDone => true
  | .drbgReseed => true
  | .drbgHealthFail => true
  | .rcRegisterRead _ _ _ width => decide (width = 1 ∨ width = 2 ∨ width = 4 ∨ width = 8)
  | .wideLoRead _ _ => true
  | .wideHiRead _ _ => true
  | .idSubsysWrite _ => true
  | .pwrPllFailClear _ => true
  | .registerWrite _ _ _ width _ => decide (width = 1 ∨ width = 2 ∨ width = 4 ∨ width = 8)
  | .pldNDeassert => true
  | .powerOff => true
  | .pcieD3hotExit => true

end Sys2Proof
end

