-- ==== Sys2Proof/Tests/Slice0.lean ====
section
/-! SUPPORT. The author's own tests: ill-formed terms are refused, microwords spell the words of the manual, and the
hypotheses of every claim are met somewhere. -/

namespace Sys2Proof.Tests

open Sys2Proof Sys2Proof.Machine Sys2Proof.Safety

-- one theorem after the other: each waits for the kernel, and every waiting one would hold a thread
set_option Elab.async false

/-! ## Ill-formed commands are refused (their lengths and ranges) -/

/-- A pair of delay sweeps in which `n` taps pass. -/
def sweep (n : Nat) : LaneSweep := ⟨BitVec.ofNat 128 (2 ^ n - 1), BitVec.ofNat 128 (2 ^ n - 1)⟩

/-- A module with all groups fitted. -/
def module_ : Board where
  testMode := false
  groups := 32
  positions := 1
  factoryBad := []
  partialDies := []
  dramGib := 32
  dramMatched := true
  sweeps9600 := List.replicate 32 (sweep 40)
  sweeps8533 := List.replicate 32 (sweep 45)
  ucieFail := []
  channelFail := []
  otpBad := false
  entropyOk := true
  pllFail := []
  ledgerReadable := []
  newModule := true
  halfErased := []
  factory := { boot := none, slotA := none, uid := 1, seed := 0, hash0 := 0, hash1 := 0, i3cPid := 0 }

/-- A submission queue entry of zeros. -/
def blankSqe : Sqe where
  opcode := 0
  fuse := 0
  reserved0 := 0
  psdt := 0
  cid := 0
  nsid := 0
  dw2 := 0
  dw3 := 0
  mptr := 0
  dptr := 0
  cdw10 := 0
  cdw11 := 0
  cdw12 := 0
  cdw13 := 0
  cdw14 := 0
  cdw15 := 0
  sgl := []
  ranges := []

/-- A host unit of zeros. -/
def hostUnit : HostUnit := ⟨0, 0, 0, 0⟩
/-- A host read job. -/
def readJob : Job := ⟨1, .hostRead, .read, 0, 0, 0, false, List.replicate 8 0, []⟩

theorem test_board_ok : (Instr.powerUp module_).wellFormed = true := by decide +kernel
theorem test_board_groups : (Instr.powerUp { module_ with groups := 33 }).wellFormed = false := by decide +kernel
theorem test_board_positions : (Instr.powerUp { module_ with positions := 0 }).wellFormed = false := by decide +kernel
theorem test_board_dies : (Instr.powerUp { module_ with partialDies := [1024] }).wellFormed = false := by decide +kernel
theorem test_board_windows : (Instr.powerUp { module_ with sweeps9600 := [sweep 40] }).wellFormed = false :=
    by decide +kernel
theorem test_board_windows_slow : (Instr.powerUp { module_ with sweeps8533 := [] }).wellFormed = false :=
    by decide +kernel
theorem test_reset_n : (Instr.resetNAssert 0).wellFormed = false := by decide +kernel
theorem test_pld_n : (Instr.pldNAssert 0).wellFormed = false := by decide +kernel
theorem test_flit : (Instr.ucieFlitReceive 0 true ⟨2 ^ 32, 0⟩ true true).wellFormed = false := by decide +kernel
theorem test_first_codewords : (Instr.firstAlignmentCodeword []).wellFormed = false := by decide +kernel
theorem test_codeword : (Instr.codewordReceive 0 ⟨[], 0, 0⟩).wellFormed = false := by decide +kernel
theorem test_sq_doorbell : (Instr.sqTailDoorbell 2048 0 []).wellFormed = false := by decide +kernel
theorem test_cq_doorbell : (Instr.cqHeadDoorbell 2048 0).wellFormed = false := by decide +kernel
theorem test_io_queue : (Instr.flush 0 1).wellFormed = false ∧ (Instr.read 2048 1).wellFormed = false ∧
    (Instr.writeZeroes 0 1).wellFormed = false ∧ (Instr.verify 0 1).wellFormed = false ∧
    (Instr.fence 2048 1).wellFormed = false := by decide +kernel
theorem test_write_data : (Instr.write 1 1 [{ hostUnit with parityFails := 3 }]).wellFormed = false ∧
    (Instr.write 0 1 []).wellFormed = false := by decide +kernel
theorem test_ordered_data : (Instr.orderedWrite 1 1 [{ hostUnit with parityFails := 3 }]).wellFormed = false ∧
    (Instr.orderedWrite 0 1 []).wellFormed = false := by decide +kernel
theorem test_dsm : (Instr.datasetManagement 0 1).wellFormed = false := by decide +kernel
theorem test_ranges : (Instr.sqTailDoorbell 1 1 [{ blankSqe with ranges := List.replicate 257 ⟨0, 1⟩ }]).wellFormed = false := by
  decide +kernel
theorem test_place_parity : (Instr.writePlace 1 (some ⟨0, 7, 0, 1⟩)).wellFormed = false ∧
    (Instr.writePlace 1 (some ⟨0, 8, 0, 4⟩)).wellFormed = false := by decide +kernel
theorem test_row_temps : (Instr.rowProgramDone 0 0 []).wellFormed = false := by decide +kernel
theorem test_autonomous : (Instr.setAutonomousPowerState 1 [0]).wellFormed = false := by decide +kernel
theorem test_status_width : (Instr.mbxStatusRead .pcie 0 3).wellFormed = false := by decide +kernel
theorem test_i3c_write : (Instr.i3cPrivateWrite (List.replicate 259 0)).wellFormed = false := by decide +kernel
theorem test_i3c_read : (Instr.i3cPrivateRead 257).wellFormed = false := by decide +kernel
theorem test_samples : (Instr.thermalSample [none]).wellFormed = false := by decide +kernel
theorem test_ledger_copies : (Instr.ledgerPageDone [0, 0]).wellFormed = false := by decide +kernel
theorem test_job : (Instr.jobEnqueue 0 { readJob with descriptor := [] }).wellFormed = false ∧
    (Instr.jobEnqueue 0 { readJob with vector := 256 }).wellFormed = false ∧
    (Instr.jobEnqueue 0 { readJob with row := 2 ^ 16 }).wellFormed = false := by decide +kernel
theorem test_bus_grant : (Instr.busGrant 0 [1, 1]).wellFormed = false := by decide +kernel
theorem test_store_sweep : (Instr.controlStoreSweep 0 0 [5, 5]).wellFormed = false := by decide +kernel
theorem test_addr : (Instr.cuAddr 0 0 7).wellFormed = false ∧
    (Instr.cuAddr 0 6 7).wellFormed = false := by decide +kernel
theorem test_din : (Instr.cuDin 0 2 [1]).wellFormed = false := by decide +kernel
theorem test_scrub_read : (Instr.sramScrubRead 0x70 0 [1, 1]).wellFormed = false := by decide +kernel
theorem test_register_width : (Instr.rcRegisterRead .drs .pcie 0 3).wellFormed = false ∧
    (Instr.registerWrite .drs .pcie 0 5 0).wellFormed = false := by decide +kernel

/-! ## Words of the manual -/

/-- R228: the example routine's words. -/
theorem test_addr_word : (microOf (.cuAddr 5 3 7)).map encodeMicro = some 0x60DC0000#32 := by decide +kernel
theorem test_dout_word : (microOf (.cuDout 5 18432 true)).map encodeMicro = some 0x64004800#32 := by decide +kernel
theorem test_commit_word : (microOf (.cuCommit 5)).map encodeMicro = some 0x88000000#32 := by decide +kernel
theorem test_bbs_word : (microOf (.cuBbs 5 6 10 0x423)).map encodeMicro = some 0x41A80423#32 := by decide +kernel
/-- R222: a word of patch RAM is matched by the command it spells and by no other opcode. -/
theorem test_spelt : spells 0x41A80423#32 0x10 (some 6) (some 10) (some 0x423) = true ∧
    spells 0x41A80423#32 0x11 (some 6) (some 10) (some 0x423) = false := by decide +kernel
/-- R59: the check value of CRC-32C over "123456789". -/
theorem test_crc : crc32c [0x31, 0x32, 0x33, 0x34, 0x35, 0x36, 0x37, 0x38, 0x39] = 0xE3069283 := by decide +kernel

/-! ## Small states -/

/-- In service, every milestone reached. -/
def up : State := { State.reset with
  life := { Life.reset with
    phase := .service, fwStart := true, captureReady := true, mapReady := true, resetN := true, perstN := true } }

/-- In service, with a request of an opcode and the bytes of its parameters in mailbox 3, BUSY for PCIe. -/
def asking (op : Nat) (bytes : List Byte) : State := { up with mbx := { Mailboxes.reset with
  box := (List.replicate 16 Mbx.reset).set 3 { Mbx.reset with state := .busy, owner := some .pcie }
  mem := memCells (mbxBase 3) (leBytes 2 op ++ leBytes 2 bytes.length ++ leBytes 4 7 ++ bytes) } }

/-- A state that firmware serves, with the request waiting. -/
theorem asked_of {op : BitVec 16} {s : State}
    (h : (serving s && waitsFor s 3 op && s.mbx.box.length == 16) = true) : Asked 3 op s := by
  simp only [Bool.and_eq_true, beq_iff_eq] at h
  exact ⟨h.1.1, h.1.2, h.2⟩

/-- Soundness read off a state's parts. -/
theorem sound_of {s : State} (h : (decide (s.hnd.live.map fun x => x.value.toNat % 256).Nodup &&
    decide (1 ≤ s.hnd.generation ∧ s.hnd.generation ≤ 0xFFFFFF ∧ s.hnd.retired.length ≤ 256) &&
    decide (s.crg.tail < 1024 ∧ s.crg.headPcie < 1024 ∧ s.crg.headI3c < 1024 ∧ s.crg.unreadPcie ≤ 1024 ∧
      s.crg.unreadI3c ≤ 1024) &&
    decide (s.mbx.box.length = 16 ∧ memWf s.mbx.mem = true) && decide (s.evr.fifo.length ≤ 64)) = true) : Sound s := by
  simp only [Bool.and_eq_true, decide_eq_true_eq] at h
  obtain ⟨⟨⟨⟨a, b, c, d⟩, e, f, g, i, j⟩, k, l⟩, m⟩ := h
  exact ⟨⟨a, b, c, d⟩, ⟨e, f, g, i, j⟩, ⟨k, l⟩, ⟨m⟩⟩

/-- A handle of slot 5, generation 1. -/
def handle (op : BitVec 16) (past : Bool) : Handle := ⟨0x105, op, 3, .pcie, 0, past, 0, 0⟩
/-- A state with one live handle. -/
def withHandle (h : Handle) (s : State) : State := { s with hnd := { s.hnd with live := [h] } }

/-! ## The hypotheses of the claims are met -/

/-- O1, O2, O5: a state with a command in front, one with none, a sound one. -/
theorem met_step : ({ up with pending := [.enec] } : State).pending = [.enec] ∧ up.pending = [] ∧
    (up.clk.rtcFrac < 1000000) ∧ up.life.stop = none := by decide +kernel
theorem met_sound : Sound up ∧ ∃ t, step up = .next t := ⟨sound_of (by decide +kernel), tick up, rfl⟩
theorem met_command : microOf .enec = none ∧ (∃ t, exec .enec up = .next t) ∧ ∀ b, Instr.enec ≠ .powerUp b :=
  ⟨rfl, ⟨_, rfl⟩, fun _ h => nomatch h⟩

/-- MailboxOwnership. -/
theorem met_mailbox : mailboxLive up .pcie 15 = true ∧ up.life.phase = .service := by decide +kernel
theorem met_mailbox_i3c :
    let s : State := { up with i3c := { up.i3c with addr := some 9 } }
    mailboxLive s .i3c 1 = true ∧ s.i3c.addr ≠ none ∧ s.life.fwStart = true := by decide +kernel

/-- MailboxRings: unowned, another's, BUSY, stopped, losing power; the checks of a request. -/
def ringing (op : Nat) (len : Nat) (x : Mbx) : State := { up with mbx := { Mailboxes.reset with
  box := (List.replicate 16 Mbx.reset).set 3 x, mem := memCells (mbxBase 3) (leBytes 2 op ++ leBytes 2 len) } }
/-- What RequestChecks asks for, `a` the state with the mailbox BUSY. -/
theorem met_ring : Sound (ringing 0x0001 8 Mbx.reset) ∧
    doorbellLive (ringing 0x0001 8 Mbx.reset) .pcie 3 = true ∧ reaches (ringing 0x0001 8 Mbx.reset) .pcie 3 = true ∧
    serving (ringing 0x0001 8 Mbx.reset) = true := ⟨sound_of (by decide +kernel), by decide +kernel⟩
theorem met_ring_owned : (boxOf (wakeByAccess (ringing 1 8 { Mbx.reset with owner := some .i3c })) 3).owner ≠ some .pcie ∧
    (boxOf (wakeByAccess (ringing 1 8 { Mbx.reset with state := .busy })) 3).state = .busy := by decide +kernel
theorem met_ring_stopped :
    let s : State := { ringing 1 8 Mbx.reset with life := { up.life with stop := some ⟨false, 0, 0, 1, 1, none, none⟩ } }
    doorbellLive s .pcie 3 = true ∧ reaches s .pcie 3 = true ∧ s.life.phase = .service ∧ serving s = false := by
  decide +kernel
theorem met_ring_loss :
    let s : State := { ringing 1 8 Mbx.reset with life := { up.life with phase := .lossFlush } }
    doorbellLive s .pcie 3 = true ∧ reaches s .pcie 3 = true ∧ (boxOf (wakeByAccess s) 3).state ≠ .busy := by
  decide +kernel
theorem met_checks : lorardRow 0xFFFF = none ∧ lorardRow 0x0002 = some ⟨2, 16, true, 1⟩ ∧
    up.sec.port ≠ .opened ∧ requestFault (ringing 0x0002 16 Mbx.reset) .i3c 3 = some 0x0051 ∧
    requestFault (ringing 0x0001 9 Mbx.reset) .pcie 3 = some 0x0012 ∧
    requestFault (ringing 0x0003 8 Mbx.reset) .pcie 3 = some 0x0011 ∧
    requestFault (ringing 0x00C0 4 Mbx.reset) .pcie 3 = none := by decide +kernel

/-- RingConsumers and Completions: an empty backlog with room and without, a handle before and after its cancel point. -/
theorem met_ring_write : up.life.phase = .service ∧ (wakeByAccess up).crg.backlog = [] ∧ slotFree up.crg = true ∧
    ({ up with i3c := { up.i3c with addr := some 9 } } : State).i3c.addr ≠ none := by decide +kernel
theorem met_completion : findHandle (withHandle (handle 0x0021 false) up) 0x105 = some (handle 0x0021 false) ∧
    completing (withHandle (handle 0x0021 false) up) 0x105 = false ∧
    slotFree { up.crg with pcieEn := true, unreadPcie := 1024 } = false ∧ up.crg.tail < 1024 := by decide +kernel

/-- Cancels: queries and cancels of a live handle on either side of its cancel point, of one retired and of one unknown. -/
def cancelling (op : Nat) (h : Handle) : State := withHandle h (asking op (leBytes 4 0x105))
theorem met_cancel : Asked 3 0x00F0 (cancelling 0x00F0 (handle 0x0021 false)) ∧
    Asked 3 0x00F1 (cancelling 0x00F1 (handle 0x0021 false)) :=
  ⟨asked_of (by decide +kernel), asked_of (by decide +kernel)⟩
theorem met_cancel_sound : Sound (cancelling 0x00F0 (handle 0x0021 true)) := sound_of (by decide +kernel)
theorem met_cancel_handles :
    findHandle (cancelling 0x00F0 (handle 0x0021 false)) (BitVec.ofNat 32
      (reqField (cancelling 0x00F0 (handle 0x0021 false)) 3 8 4)) = some (handle 0x0021 false) ∧
    findHandle up 0x105 = none ∧ (handle 0x0072 false).opcode = 0x0072 ∧ (handle 0x0021 true).past = true := by
  decide +kernel
theorem met_cancel_late : completing { withHandle (handle 0x0021 false) up with
    crg := { up.crg with backlog := [⟨1, false, 0, 0x105, 0x0021, 3, 0⟩] } } 0x105 = true := by decide +kernel
theorem met_undo : (handle 0x0040 false).opcode = 0x0040 ∧ (∃ s : State, ∃ b, s.link.before = some b ∧
      b.counts.length = s.link.lanes.length) ∧
    (∃ s : State, s.hup.run = some ⟨true, some 0x105, 0, 0, false⟩) ∧ (∃ s : State, 3 ∈ s.med.toLoad) :=
  ⟨rfl, ⟨{ up with link := { up.link with before := some ⟨up.link.window, false, 0, 0, 0, up.link.entered, 0, false, up.link.skew,
      up.link.retrains, up.link.lanes.map fun x => (x.uncorr, x.corr, x.fom)⟩ } }, _, rfl, by simp⟩,
    ⟨{ up with hup := { up.hup with run := some ⟨true, some 0x105, 0, 0, false⟩ } }, rfl⟩,
    ⟨{ up with med := { up.med with toLoad := [3] } }, by simp⟩⟩
theorem met_query_retired :
    let s : State := { asking 0x00F1 (leBytes 4 0x105) with hnd := { Handles.reset with retired := [⟨0x105, 0x21, 0, 4⟩] } }
    Asked 3 0x00F1 s ∧ findHandle s 0x105 = none ∧
      (s.hnd.retired.find? fun x => x.value == 0x105) = some ⟨0x105, 0x21, 0, 4⟩ :=
  ⟨asked_of (by decide +kernel), by decide +kernel⟩

/-- I3cTransfers: awake, served, with an address; a word of the request area of mailbox 1 that I3C owns. -/
def onI3c : State := { up with
  i3c := { up.i3c with addr := some 9, mwl := 258, offset := 0x400 }
  mbx := { up.mbx with box := up.mbx.box.set 1 { Mbx.reset with owner := some .i3c } } }
theorem met_i3c : Awake up ∧ Awake onI3c ∧ i3cServed onI3c = true ∧ onI3c.i3c.addr ≠ none ∧ i3cServed up = true ∧
    6 + ([1, 2, 3] : List Byte).length ≤ onI3c.i3c.mwl.toNat ∧ (0x4FC % 4 = 0 ∧ 0x4FC = 1 * 0x400 + 0xFC) ∧
    ¬(onI3c.i3c.offset < 0x800 ∧ onI3c.i3c.offset % 0x400 = 0x204) ∧ up.i3c.addr = none :=
  ⟨⟨rfl, rfl, rfl⟩, ⟨rfl, rfl, rfl⟩, by decide +kernel⟩

/-- RegisterWrites, RegisterReads: in service, awake, the controller reachable, the debug port in MANUFACTURE. -/
theorem met_registers : up.life.phase = .service ∧ nvmeReachable up = true ∧ (0xFFC % 4 = 0 ∧ 0xFFC < 0x1000) ∧
    (0x240200 + 4 * 15) % 4 = 0 ∧ (0x7FFC % 4 = 0 ∧ 0x7FFC < 0x8000) := by decide +kernel
theorem met_function_read : functionReadable up = true ∧
    functionReadable { up with life := { up.life with phase := .off } } = false ∧
    ¬(0x231000 ≤ 0x240200 + 4 * 15 ∧ 0x240200 + 4 * 15 < 0x232000) := by decide +kernel
theorem met_unmasked : ∃ s : State, s.nv.msixEnabled = true ∧ s.nv.msixMasked = false ∧ vectorMasked s 2047 = true ∧
    2047 ∈ s.nv.pba :=
  ⟨{ up with nv := { up.nv with msixEnabled := true, msixMasked := false, pba := [2047] } }, by decide +kernel⟩
theorem met_debug_read : diagnostic { up with sec := { up.sec with port := .manufacture } } = true := by decide +kernel

/-- DeviceCommands. -/
theorem met_device : Asked 3 0x0001 (asking 0x0001 []) ∧ Asked 3 0x0011 (asking 0x0011 [2]) ∧
    Asked 3 0x0003 (asking 0x0003 (leBytes 8 5)) ∧ Asked 3 0x0002 (asking 0x0002 (leBytes 8 0x1000 ++ leBytes 4 8191)) ∧
    Asked 3 0x0002 (asking 0x0002 (leBytes 8 0x1000 ++ leBytes 4 8192)) :=
  ⟨asked_of (by decide +kernel), asked_of (by decide +kernel), asked_of (by decide +kernel),
    asked_of (by decide +kernel), asked_of (by decide +kernel)⟩
theorem met_inventory : reqField (asking 0x0002 (leBytes 8 0x1000 ++ leBytes 4 8191)) 3 16 4 < 8192 ∧
    8192 ≤ reqField (asking 0x0002 (leBytes 8 0x1000 ++ leBytes 4 8192)) 3 16 4 ∧
    freeSlots (asking 0x0002 []) ≠ [] ∧
    liveOp (withHandle (handle 0x0002 false) up) 0x0002 = some (handle 0x0002 false) := by decide +kernel
/-- Dies of the inventory: one in service, one absent. -/
theorem met_dies : let s : State := { up with
      board := some module_, med := { up.med with dies := [{ Die.absent 0 with state := .inService }] } }
    findDie s 0 = some { Die.absent 0 with state := .inService } ∧ dieOut s 0 = false ∧
        findDie s 1023 = none := by decide +kernel
/-- A pin that is free, one that holds another function. -/
def pinAsk (f : Nat) (p : Pin) : State :=
  let s := asking 0x0010 ([15, BitVec.ofNat 8 f, 3, 0] ++ leBytes 4 1)
  { s with pins := s.pins.set 15 p }
theorem met_pins : Asked 3 0x0010 (pinAsk 2 Pin.reset) ∧ Asked 3 0x0010 (pinAsk 2 { Pin.reset with function := 4 }) :=
  ⟨asked_of (by decide +kernel), asked_of (by decide +kernel)⟩
theorem met_pin_fields :
    let s := pinAsk 2 Pin.reset
    s.pins.length = 16 ∧ reqField s 3 8 1 = 15 ∧ reqField s 3 9 1 = 2 ∧ reqField s 3 12 4 = 1 ∧
      functionTaken s 15 2 1 = false ∧ reqField s 3 10 1 / 2 % 2 = 1 := by decide +kernel

/-- PowerUps: off with PLD_N high and low, a board without fault, with a dead PLL0, under TEST_MODE. -/
def offState (pld : Bool) : State := { State.reset with life := { Life.reset with phase := .off, pldN := pld } }
/-- A public key, and images it has signed: a header, the key, zeros, the signature. -/
def imageKey : List Byte := beBytes 96
  85908466202595156958754563802350301984984947958180071505942403494453700722536508572832316287410400430553053630127263127886735227199710026573251160693700961480549231780374245080623812903569836779215278343079566992200043743239254792
def signedImage (type signature : Nat) : FwImage :=
  ⟨packBytes [(4, 0x56584657), (2, 384), (1, type), (1, 0), (4, 1), (4, 4096), (40, 0)] ++ imageKey ++
    List.replicate 3752 0 ++ beBytes 96 signature ++ List.replicate 96 0⟩
def bootImage1 : FwImage := signedImage 1
  747654951007883882977855060645048347626674276404077267180008408869898372680035199159650737786629731109420289522303258510713088751412799023436388326505877182324668667374101921999358277912780448553289974990544240739708396167220336822
def slotImage1 : FwImage := signedImage 0
  117041888362942297629308448683367262639977071052974167086110716114881117827859534057331557750313913437093894950963513259489754345331815635045455479227922573262352272849896176166925707729136207000989252018834906866954423261531897691
/-- A part made before, with a verified boot stage and image. -/
def made : State := { offState true with nor := { Nor.reset with
  made := true, boot0 := some bootImage1, slotA := some slotImage1
  otp := { Nor.reset.otp with
    hash0 := 36621261262683136221352911566419374920251292361055216193718224403939321949179457602395259606913281253999660069191210 } } }
theorem met_power_up : (offState true).life.phase = .off ∧ (offState false).life.pldN = false ∧
    (∃ p ∈ ({ module_ with pllFail := [5] } : Board).pllFail, p.val = 0 ∨ p.val = 1 ∨ p.val = 5) ∧
    module_.pllFail = [] ∧ module_.dramMatched = true ∧ module_.otpBad = false ∧ module_.ucieFail = [] ∧
    (∀ w ∈ module_.sweeps9600, 26 ≤ laneWindow 128 w) ∧ made.nor.made = true ∧ made.nor.flags = [] := by decide +kernel
theorem met_boot_image : bootFault made 0 = none := by decide +kernel
theorem met_slot_image : slotFault made (if (config made).activeSlot = 2 then 2 else 1) = none := by decide +kernel
theorem met_map_ready : let s : State := { up with life := { up.life with mapReady := false } }
    s.life.phase = .service ∧ s.life.captureReady = true ∧ s.life.mapReady = false ∧
        s.life.stop = none := by decide +kernel

/-- PowerLosses: pulses at the filter limits, in service and in the flush; off, and a reset held by PLD_N. -/
theorem met_power_loss : up.mbx.box.length = 16 ∧ 200 ≤ 200 ∧ ¬200 ≤ 199 ∧ up.life.phase = .service ∧
    ({ up with life := { up.life with phase := .lossFlush } } : State).life.phase = .lossFlush := by decide +kernel
theorem met_held_reset :
    let s : State := { offState false with
      board := some { module_ with testMode := true }, life := { Life.reset with resetN := true, pldN := false } }
    s.life.phase = .inReset ∧ s.life.resetN = true ∧ s.life.lossByReset = false ∧
      s.board = some { module_ with testMode := true } ∧ ({ module_ with testMode := true } : Board).pllFail = [] := by
  decide +kernel

/-- CloveStops: before and after map-ready, stopped with nothing latched; a board to start again. -/
def stopped : State := { up with life := { up.life with stop := some ⟨false, 2, 0, 1, 1, none, none⟩ } }
theorem met_clove : up.life.phase = .service ∧ up.life.fwStart = true ∧ up.life.mapReady = true ∧ up.life.stop = none ∧
    ({ up with life := { up.life with mapReady := false } } : State).life.mapReady = false ∧
    stopped.life.stop = some ⟨false, 2, 0, 1, 1, none, none⟩ ∧ (∀ x ∈ stopped.st.running, x.verdict = none) ∧
    (∀ m, m < 16 → (boxOf stopped m).latched = false) ∧ stopped.nv.held = [] := by decide +kernel
theorem met_hub_reset :
    let s : State := { up with
      board := some module_, life := { up.life with mapReady := false }, evr := { up.evr with lwdHubResets := 2 } }
    s.board ≠ none ∧ s.life.mapReady = false ∧ 2 ≤ s.evr.lwdHubResets := by decide +kernel

/-- PowerStates: the request with the link up and down; entries into P1, P3 and P4; the time-out. -/
def sleepAsk (depth : Nat) (link : Bundle) : State :=
  let s := asking 0x0020 ([BitVec.ofNat 8 depth, 0, 0, 0] ++ leBytes 4 0)
  { s with link := { s.link with state := link } }
theorem met_power_set : Asked 3 0x0020 (sleepAsk 2 .up) ∧ Asked 3 0x0020 (sleepAsk 1 .down) :=
  ⟨asked_of (by decide +kernel), asked_of (by decide +kernel)⟩
theorem met_power_fields : 2 ≤ reqField (sleepAsk 2 .up) 3 8 1 ∧ (sleepAsk 2 .up).link.state ≠ .down ∧
    (let s := sleepAsk 4 .down
     freeSlots s ≠ [] ∧ opLive s 0x0020 = false ∧ reqField s 3 8 1 ≤ 4 ∧ s.pwr.state < reqField s 3 8 1 ∧
      s.pwr.state ≤ nvmeDepth s) := by decide +kernel
/-- Idle at a depth, with the capture link in a state and PCIe in L1. -/
def resting (lorard : Nat) (link : Bundle) : State := { up with
  link := { up.link with state := link }, pwr := { up.pwr with depthLorard := lorard, l1 := true } }
theorem met_entries : targetState (updateBackground (resting 1 .up)) = 1 ∧
    targetState (updateBackground (resting 3 .down)) = 3 ∧ targetState (updateBackground (resting 4 .down)) = 4 ∧
    backgroundDue (resting 3 .down) = false ∧ (resting 4 .down).pwr.state = 0 ∧ (resting 4 .down).pwr.entering = false ∧
    liveOp (resting 4 .down) 0x0020 = none ∧
    (let s : State := { resting 4 .down with
       pwr := { (resting 4 .down).pwr with entering := true }, map := { up.map with slots := [.clean 0] } }
     targetState (updateBackground s) = 4 ∧ s.pwr.entering = true ∧ ledgerClean s = true) := by decide +kernel
theorem met_leaves_p1 :
    let s : State := { resting 1 .up with
      pwr := { (resting 1 .up).pwr with state := 1 }, map := { up.map with gcGroups := [0] } }
    s.pwr.state = 1 ∧ worksFirst s = true ∧ targetState (updateBackground s) = 0 := by decide +kernel
theorem met_timeout : liveOp (withHandle (handle 0x0020 false) up) 0x0020 = some (handle 0x0020 false) :=
    by decide +kernel

/-- WakesAndClocks. -/
theorem met_wakes : up.pwr.entering = false ∧
    ({ up with pwr := { up.pwr with state := 3, timerWake := 9 } } : State).pwr.timerWake ≠ 0 ∧ up.pwr.state = 0 ∧
    (let s : State := { up with pwr := { up.pwr with state := 3 }, hup := { up.hup with due := some .startUp } }
     s.pwr.state = 3 ∧ s.hup.due = some .startUp ∧ mayTest .startUp s = true) := by
  decide +kernel

/-- UcieLinks: a live link, a flit in its turn, before and after it, a link that fails, one that retrains. -/
theorem met_flits : linkLive up 3 = true ∧ up.med.links.length = 4 ∧ (linkOf up 3).parityFails < 3 ∧
    (⟨0, 5⟩ : Flit).number = (linkOf up 3).deliveredDown ∧ (linkOf up 3).deliveredDown < (⟨2 ^ 32 - 1,
        5⟩ : Flit).number ∧
    (linkOf up 3).failing = false := by decide +kernel
theorem met_flit_old :
    let s : State := { up with med := { up.med with links := up.med.links.set 3 { linkOf up 3 with
      deliveredDown := 7, failing := true, retraining := true } } }
    (⟨6, 5⟩ : Flit).number < (linkOf s 3).deliveredDown ∧ (linkOf s 3).failing = true ∧ (linkOf s 3).retraining = true ∧
      s.med.links.length = 4 := by decide +kernel

/-- HoldupTests: the requests, the scheduled tests, a test with its load off and on. -/
def run_ (loaded : Bool) : HoldupRun := ⟨false, none, 12000000, 11000000, loaded⟩
theorem met_holdup : Asked 3 0x0021 (asking 0x0021 []) ∧ Asked 3 0x0022 (asking 0x0022 []) :=
  ⟨asked_of (by decide +kernel), asked_of (by decide +kernel)⟩
theorem met_holdup_due : freeSlots (asking 0x0021 []) ≠ [] ∧ opLive (asking 0x0021 []) 0x0021 = false ∧
    up.hup.run = none ∧ up.pwr.state ≤ 2 ∧ up.hup.startDone = false ∧ serving up = true ∧
    (∀ x ∈ up.str.list, x.state ≠ .open_) := by decide +kernel
theorem met_holdup_run :
    let s (l low : Bool) : State := { up with hup := { up.hup with run := some (run_ l), testLow := low } }
    (s false false).hup.run = some (run_ false) ∧ (run_ false).loaded = false ∧ (s true true).hup.testLow = true ∧
      (s true false).hup.run = some (run_ true) ∧ (run_ true).loaded = true ∧ (run_ true).handle = none ∧
      serving (s true false) = true := by decide +kernel
theorem met_recompute : ({ up with hup := { up.hup with verdict := 1 } } : State).hup.verdict = 1 ∧
    up.life.fwStart = true := by
  decide +kernel

/-- Thermals: a sample with a fault and readings at the limits; steps up and down; limits and readings asked for. -/
theorem met_sample : up.thm.level ≠ .halted ∧ up.life.phase = .service ∧ up.mbx.box.length = 16 ∧
    (up.thm.sensors[23]?).isSome = true ∧ ([none, some (-551),
        some 1501] : List (Option Int))[1]? = some (some (-551)) := by
  decide +kernel
def throttled (step : Nat) (temp : Int) (x : Sensor) : State := { up with thm := { up.thm with
  level := .throttle, step := step, temp := temp, rate := 0, sensors := [x] } }
theorem met_steps : (∃ x ∈ (throttled 3 1050 { Sensor.reset with valid := true, reading := some 1050 }).thm.sensors,
      x.valid = true ∧ x.reading = some 1050) ∧ (throttled 3 1050 Sensor.reset).thm.step < 4 ∧
    (throttled 1 1019 Sensor.reset).thm.temp < 1020 ∧ (throttled 1 1019 Sensor.reset).thm.rate < 30 := by decide +kernel
theorem met_thermal_asks : Asked 3 0x0031 (asking 0x0031 [0, 80, 0, 0]) ∧ Asked 3 0x0030 (asking 0x0030 []) :=
  ⟨asked_of (by decide +kernel), asked_of (by decide +kernel)⟩
theorem met_halt : ({ up with life := { up.life with phase := .haltFlush } } : State).life.phase = .haltFlush := rfl

/-- LinkCommands. -/
def linkAsk (op : Nat) (bytes : List Byte) (b : Bundle) : State :=
  let s := asking op bytes
  { s with link := { s.link with state := b } }
theorem met_link : Asked 3 0x0040 (linkAsk 0x0040 [0, 0, 0, 0] .down) ∧
    Asked 3 0x0040 (linkAsk 0x0040 [0, 0, 0, 0] .up) ∧
    Asked 3 0x0041 (linkAsk 0x0041 [1, 0, 0, 0] .up) ∧ Asked 3 0x0041 (linkAsk 0x0041 [0, 0, 0, 0] .halted) ∧
    Asked 3 0x0042 (linkAsk 0x0042 [] .down) :=
  ⟨asked_of (by decide +kernel), asked_of (by decide +kernel), asked_of (by decide +kernel),
      asked_of (by decide +kernel),
    asked_of (by decide +kernel)⟩
theorem met_link_cases : freeSlots (linkAsk 0x0040 [] .down) ≠ [] ∧ (linkAsk 0x0040 [] .down).pwr.state < 2 ∧
    (reqField (linkAsk 0x0041 [1, 0, 0, 0] .up) 3 8 1).testBit 0 = true ∧ (linkAsk 0x0041 [1] .up).parse.frame = none ∧
    liveOp (linkAsk 0x0041 [1] .up) 0x0040 = none ∧
    liveOp (withHandle (handle 0x0040 false) (linkAsk 0 [] .await)) 0x0040 = some (handle 0x0040 false) :=
        by decide +kernel

/-! Codewords of few symbols that are not zero. -/

theorem gfMulBits_zero : ∀ n b, gfMulBits n 0 b = 0
  | 0, _ => rfl
  | n + 1, b => by simp [gfMulBits, gfDouble, gfMulBits_zero n]

theorem gfEval_replicate (x k : Nat) : gfEval (List.replicate k 0) x = 0 := by
  unfold gfEval
  induction k with
  | zero => rfl
  | succ k ih => simpa [List.replicate_succ, gfMul, gfMulBits_zero] using ih

/-- What stands before counts for nothing where its own value is zero. -/
theorem gfEval_append (x : Nat) (a b : List Nat) (h : gfEval a x = 0) : gfEval (a ++ b) x = gfEval b x := by
  unfold gfEval at h ⊢
  rw [List.foldl_append, h]

theorem messageBits_replicate : ∀ k, messageBits (List.replicate k 0) = 0
  | 0 => rfl
  | k + 1 => by simp [List.replicate_succ, messageBits, messageBits_replicate k]

theorem messageBits_zeros (k : Nat) : ∀ a : List Nat, messageBits (a ++ List.replicate k 0) = messageBits a
  | [] => by simpa [messageBits] using messageBits_replicate k
  | x :: a => by simp [messageBits, messageBits_zeros k a]

/-- A codeword of some symbols and then zeros. -/
def sparse (a : List (BitVec 10)) : List (BitVec 10) := a ++ List.replicate (544 - a.length) 0

/-- A codeword of few symbols without errors decodes to what they say. -/
theorem decode_sparse (a : List (BitVec 10)) (short : a.length ≤ 514)
    (roots : ((List.range 30).all fun j => gfEval (a.map (·.toNat)) (gfAlpha j) == 0) = true) :
    decodeCodeword (sparse a) = ⟨BitVec.ofNat 20 (messageBits (a.map (·.toNat))),
      (List.range 80).map fun k => BitVec.ofNat 64 (messageBits (a.map (·.toNat)) >>> (20 + 64 * k)), 0, false⟩ := by
  have symbols : (sparse a).map (·.toNat) = a.map (·.toNat) ++ List.replicate (544 - a.length) 0 := by
    simp [sparse, List.map_replicate]
  have zero : (rsSyndromes ((sparse a).map (·.toNat))).all (· == 0) = true := by
    rw [symbols]
    simp only [rsSyndromes, List.all_map, List.all_eq_true, Function.comp] at roots ⊢
    intro j hj
    rw [gfEval_append _ _ _ (by simpa using roots j hj), gfEval_replicate]
    rfl
  have clean : rsDecode ((sparse a).map (·.toNat)) = some ((sparse a).map (·.toNat), 0) := by
    simp only [rsDecode, zero, if_true]
  have bits : messageBits (((sparse a).map (·.toNat)).take 514) = messageBits (a.map (·.toNat)) := by
    rw [symbols, List.take_append, List.take_of_length_le (by simpa using short), List.take_replicate]
    exact messageBits_zeros _ _
  simp only [decodeCodeword, clean, messageWords, bits]

/-- The first symbols of a good first codeword of lane `n`: tag, marker and 30 symbols that complete it. -/
def firstSymbols (n : Nat) : List (BitVec 10) :=
  match n with
  | 0 =>
    [0, 64, 0, 0, 0, 0, 30, 173, 13, 1022, 369, 879, 606, 424, 830, 810, 898, 918, 242, 501, 388, 444, 19, 570,
    517, 329, 749, 627, 234, 252, 507, 120, 206, 440, 36, 868, 944, 230, 729]
  | 1 =>
    [0, 192, 0, 0, 0, 128, 30, 173, 13, 621, 523, 880, 960, 165, 805, 940, 506, 45, 78, 652, 897, 70, 203, 969,
    491, 314, 407, 944, 273, 964, 418, 457, 739, 325, 689, 202, 772, 412, 217]
  | 2 =>
    [0, 320, 0, 0, 0, 256, 30, 173, 13, 216, 908, 849, 354, 946, 776, 550, 891, 233, 394, 782, 391, 584, 419, 476,
    464, 431, 16, 501, 796, 645, 329, 794, 157, 66, 263, 49, 728, 530, 720]
  | 3 =>
    [0, 448, 0, 0, 0, 384, 30, 173, 13, 331, 246, 846, 252, 703, 787, 672, 259, 850, 310, 119, 898, 946, 379, 47,
    574, 476, 874, 54, 743, 445, 272, 683, 688, 191, 914, 927, 620, 872, 208]
  | 4 =>
    [0, 576, 0, 0, 0, 512, 30, 173, 13, 443, 130, 787, 47, 405, 850, 306, 624, 353, 514, 10, 386, 605, 883, 511,
    422, 133, 798, 374, 783, 7, 159, 693, 104, 588, 610, 455, 352, 263, 715]
  | 5 =>
    [0, 704, 0, 0, 0, 640, 30, 173, 13, 40, 1016, 780, 433, 152, 841, 436, 8, 730, 702, 883, 903, 935, 939, 12,
    584, 246, 100, 181, 756, 831, 198, 772, 581, 689, 247, 617, 468, 125, 203]
  | 6 =>
    [0, 832, 0, 0, 0, 768, 30, 173, 13, 669, 639, 813, 787, 911, 868, 62, 649, 542, 890, 753, 385, 425, 707, 537,
    627, 99, 483, 752, 249, 638, 45, 471, 59, 950, 833, 658, 8, 1011, 706]
  | _ =>
    [0, 960, 0, 0, 0, 896, 30, 173, 13, 782, 261, 818, 653, 642, 895, 184, 241, 421, 966, 392, 900, 83, 539, 1002,
    413, 16, 665, 819, 258, 326, 116, 102, 534, 843, 468, 316, 188, 649, 194]
theorem first_roots : ((List.range 8).all fun n => (List.range 30).all fun j =>
    gfEval ((firstSymbols n).map (·.toNat)) (gfAlpha j) == 0) = true := by decide +kernel
/-- The first codewords of eight lanes. -/
def firstWords : List (List (BitVec 10)) := (List.range 8).map fun n => sparse (firstSymbols n)
/-- Tag and first word of a first codeword. -/
def firstTag (n : Nat) : Nat := messageBits ((firstSymbols n).map (·.toNat)) % 2 ^ 20
def firstMarker (n : Nat) : Word64 := BitVec.ofNat 64 (messageBits ((firstSymbols n).map (·.toNat)) >>> 20)
theorem firstWords_decoded : firstWords.map decodeCodeword = (List.range 8).map fun n =>
    ⟨BitVec.ofNat 20 (messageBits ((firstSymbols n).map (·.toNat))), (List.range 80).map fun k =>
      BitVec.ofNat 64 (messageBits ((firstSymbols n).map (·.toNat)) >>> (20 + 64 * k)), 0, false⟩ := by
  rw [firstWords, List.map_map]
  refine List.map_congr_left fun n hn => decode_sparse _ ?_ ?_
  · exact (by decide +kernel : ∀ n ∈ List.range 8, (firstSymbols n).length ≤ 514) n hn
  · exact List.all_eq_true.mp first_roots n hn

/-- LinkBringUp: good first codewords of eight lanes, a skew at the limit, lanes not fenced, a ball in range. -/
theorem met_first_words :
    let ds := firstWords.map decodeCodeword
    ds.length = 8 ∧ (ds.map fun d => d.tag.toNat / 2 ^ 17).Nodup ∧
      ∀ d ∈ ds, d.uncorrectable = false ∧ d.tag.toNat / 2 ^ 16 % 2 = 1 ∧ d.tag.toNat % 2 ^ 14 = 0 ∧
        (d.words.headD 0).toNat / 2 ^ 40 = 0xD2B41E ∧ (d.words.headD 0).toNat / 2 ^ 37 % 8 = d.tag.toNat / 2 ^ 17 ∧
        (d.words.headD 0).toNat % 2 ^ 32 = 0 := by
  rw [firstWords_decoded]
  decide +kernel
theorem met_bring_up : (decodeCodeword (sparse [])).tag.toNat / 2 ^ 16 % 2 ≠ 1 ∧
    (let x := laneOf up 7
     x.position = 0 ∧ x.cwIndex = 0 ∧ x.amCount = 0 ∧ x.badLcw = 0 ∧ x.lcwDue = 0) ∧
    ¬(100 < 100 ∨ laneFenced up = true) ∧ (100 < 101) ∧ (laneOf up 7).tuneDone = false ∧ 7 < up.link.lanes.length ∧
    up.link.lanes[7]? ≠ none ∧ liveOp up 0x0040 = none := by
  rw [decode_sparse [] (by decide) (by decide +kernel)]
  decide +kernel

/-- LinkReceive: a set that is still short of another lane, the eighth bad codeword, an idle codeword. -/
def receiving (x : Lane) : State := { up with link := { up.link with
  state := .up, lanes := (up.link.lanes.mapIdx fun k y => { y with logical := some k }).set 2 x } }
def goodLane : Lane := { Lane.reset with logical := some 2, lock := true, cwIndex := 5, position := 0 }
/-- The first symbols of a codeword marked idle; 30 symbols with one syndrome that is not zero. -/
def idleSymbols : List (BitVec 10) :=
  [0, 32, 889, 409, 845, 255, 409, 32, 411, 569, 776, 799, 674, 164, 978, 678, 407, 76, 309, 663, 675, 371, 600,
  203, 22, 364, 1019, 781, 996, 36, 138, 496]
def badSymbols : List (BitVec 10) :=
  [1, 287, 513, 656, 197, 885, 815, 1011, 141, 211, 282, 451, 394, 740, 375, 387, 301, 883, 11, 812, 927, 370, 437,
  2, 961, 563, 614, 564, 941, 464]
def badWord : List (BitVec 10) := List.replicate 514 0 ++ badSymbols
theorem idle_decoded : decodeCodeword (sparse idleSymbols) =
    ⟨BitVec.ofNat 20 (messageBits (idleSymbols.map (·.toNat))), (List.range 80).map fun k =>
      BitVec.ofNat 64 (messageBits (idleSymbols.map (·.toNat)) >>> (20 + 64 * k)), 0, false⟩ :=
  decode_sparse _ (by decide) (by decide +kernel)
theorem plain_decoded : decodeCodeword (sparse []) = ⟨0, List.replicate 80 0, 0, false⟩ := by
  rw [decode_sparse [] (by decide) (by decide +kernel)]
  decide +kernel
theorem bad_symbols : badWord.map (·.toNat) = List.replicate 514 0 ++ badSymbols.map (·.toNat) := by
  rw [badWord, List.map_append, List.map_replicate]
  rfl
theorem bad_uncorrectable : rsDecode (badWord.map (·.toNat)) = none := by
  have syndromes : rsSyndromes (badWord.map (·.toNat)) = rsSyndromes (badSymbols.map (·.toNat)) := by
    rw [bad_symbols]
    exact List.map_congr_left fun j _ => gfEval_append _ _ _ (gfEval_replicate _ _)
  have bad : ((rsSyndromes (badSymbols.map (·.toNat))).all (· == 0)) = false ∧
      decide ((masseyRun (rsSyndromes (badSymbols.map (·.toNat))) [] ⟨[1], [1], 1, 1, 0⟩).length ≤ 15) = false := by
    decide +kernel
  simp only [rsDecode, syndromes, bad.1, bad.2, Bool.false_and, Bool.false_eq_true, if_false]
theorem take_replicate_self (n : Nat) (b : List Nat) : (List.replicate n 0 ++ b).take n = List.replicate n 0 := by
  simp
theorem empty_bits : messageBits (([] : List Nat).take 514) = 0 := by simp [messageBits]
theorem bad_bits : messageBits ((badWord.map (·.toNat)).take 514) = 0 := by
  rw [bad_symbols, take_replicate_self, messageBits_replicate]
theorem words_zero : messageWords [] = (0, List.replicate 80 0) := by decide +kernel
theorem messageWords_of (a b : List Nat) (h : messageBits (a.take 514) = messageBits (b.take 514)) :
    messageWords a = messageWords b := by rw [messageWords, messageWords, h]
theorem decode_none (a : List (BitVec 10)) (h : rsDecode (a.map (·.toNat)) = none) (z : messageBits ((a.map (·.toNat)).take 514) = 0) :
    decodeCodeword a = ⟨0, List.replicate 80 0, 0, true⟩ := by
  simp only [decodeCodeword, h, messageWords_of _ [] (z.trans empty_bits.symm), words_zero]
theorem bad_decoded : decodeCodeword badWord = ⟨0, List.replicate 80 0, 0, true⟩ :=
    decode_none badWord bad_uncorrectable bad_bits
theorem met_receive : (receiving goodLane).link.state = .up ∧ laneOf (receiving goodLane) 2 = goodLane ∧
    2 < (receiving goodLane).link.lanes.length ∧ goodLane.cwIndex % 16384 ≠ 0 ∧ { goodLane with badCw := 7 }.badCw = 7 ∧
    goodLane.fifo = [] ∧ (∀ y ∈ (receiving goodLane).link.lanes, y.fifo = []) := by decide +kernel
/-- The LCW of these codewords is word 59, on whose check and count nothing is wrong. -/
theorem met_words : (decodeCodeword (sparse [])).uncorrectable = false ∧ (decodeCodeword badWord).uncorrectable = true ∧
    (decodeCodeword (sparse idleSymbols)).uncorrectable = false ∧
    (decodeCodeword (sparse idleSymbols)).tag.getLsbD 15 = true ∧
    (∀ d ∈ [decodeCodeword (sparse []), decodeCodeword badWord, decodeCodeword (sparse idleSymbols)],
      ∀ i < 80, (goodLane.position + i) % 60 = 59 → lcwGood (d.words.getD i 1)
        (goodLane.lcwDue + BitVec.ofNat 32 ((goodLane.position + i) / 60 - goodLane.position / 60)) = true) := by
  rw [idle_decoded, plain_decoded, bad_decoded]
  decide +kernel
theorem met_receive_waits : ∃ n < 8, ∀ k y, (receiving goodLane).link.lanes[k]? = some y → y.logical = some n →
    k ≠ 2 ∧ y.fifo = [] :=
  ⟨3, by decide, fun k y h e => by
    have all : ∀ j < 8, ∀ y, (receiving goodLane).link.lanes[j]? = some y → y.logical = some 3 → j ≠ 2 ∧
        y.fifo = [] := by
      decide +kernel
    have short : (receiving goodLane).link.lanes.length = 8 := by decide +kernel
    exact all k (by have := (List.getElem?_eq_some_iff.mp h).1; omega) y h e⟩
theorem met_receive_outside : ({ up with link := { up.link with state := .halted, haltedUp := false } } : State).link.haltedUp =
    false ∧ ({ up with link := { up.link with state := .deskew } } : State).link.state = .deskew := by decide +kernel

/-- A stream with one data window, four index units, nothing taken. -/
def stream (state : StreamState) : Stream where
  sid := 5
  state := state
  ns := 1
  align1M := false
  stallMs := 20
  base := 0
  take := 0xFFFF
  dataWindows := [⟨0, 512⟩]
  dataCur := 0
  indexWindows := [⟨1024, 4⟩]
  writePoint := 0
  last := -1
  frames := 0
  shorts := 0
  discards := 0
  lowLogged := true
  held := []
  sent := []
  entries := []
  commits := []
  indexWrites := 0
  rebuilding := false
  lastTakenUs := 0
/-- A state with a stream. -/
def streaming (x : Stream) (s : State) : State := { s with str := { s.str with list := [x] } }
/-- Bytes of a header part of stream 5, frame 1, 4,096 bytes, without its CRC. -/
def headerBytes : List Byte :=
    leBytes 8 primaryMark ++ leBytes 2 0x1005 ++ leBytes 5 1 ++ leBytes 1 0 ++ leBytes 4 4096 ++
  leBytes 8 0
/-- A parser whose next 64 bytes are that header. -/
def headed (x : Stream) : State :=
  let s := streaming x up
  { s with parse := { s.parse with bits := leNat (headerBytes ++ leBytes 4 (crc32c headerBytes)), len := 512, pos := 0 } }

/-- FrameEvents: a header of an open stream with index slots, without, of a stream not open. -/
theorem met_header :
    let s := headed (stream .open_)
    let h := partHeader s.parse.bits s.parse.pos false
    s.parse.searching = false ∧ s.parse.frame = none ∧ s.parse.skipWords = 0 ∧ s.parse.run = none ∧ s.parse.gaps = [] ∧
      findBlock s 0x10 (2 * h.stream) = none ∧ armed s 0x10 = false ∧
      s.parse.len = s.parse.pos + 512 ∧ markMatches primaryMark (field s.parse.bits s.parse.pos 64) = true ∧
      partFault s.parse.bits s.parse.pos false = none ∧ findStream s h.stream = some (stream .open_) ∧
      (stream .open_).last < h.frame ∧ 0 < freeIndexSlots (stream .open_) ∧ h.flags.getLsbD 1 = false ∧
      h.flags.getLsbD 2 = false ∧ 0 + (h.length + 4095) / 4096 ≤ 512 ∧
      freeIndexSlots { stream .open_ with indexWindows := [] } = 0 ∧
      (h.frame : Int) ≤ ({ stream .open_ with last := 1 } : Stream).last := by decide +kernel
theorem met_header_shut : (stream .draining).state ≠ .open_ ∧ (stream .draining).state ≠ .full ∧
    ({ stream .open_ with rebuilding := true } : Stream).rebuilding = true := by decide +kernel
/-- An open frame with a part of a unit and none. -/
def openFrame (left part : Nat) : OpenFrame :=
  ⟨⟨5, 1, 0, 100, none⟩, 100, left, 0, part, 0, 0, 0, false, false, false, false⟩
def framed (f : OpenFrame) : State :=
  let s := streaming (stream .open_) up
  { s with parse := { s.parse with frame := some f } }
theorem met_frame_end : (framed (openFrame 0 100)).parse.frame = some (openFrame 0 100) ∧
    findStream (framed (openFrame 0 100)) 5 = some (stream .open_) ∧ (stream .open_).lowLogged = true ∧
    (openFrame 0 100).cut = false ∧ (openFrame 0 100).wordsLeft = 0 ∧ (framed (openFrame 0 100)).parse.gaps = [] ∧
    (framed (openFrame 0 100)).parse.len = (framed (openFrame 0 100)).parse.pos ∧ 0 < (openFrame 3 0).wordsLeft ∧
    (openFrame 3 0).stallLogged = false ∧ { openFrame 3 0 with stallLogged := true }.stallLogged = true :=
        by decide +kernel

/-- CaptureCredit: an open bundle with room to grant, an exhausted one, a durable commit frame, an echo to repeat. -/
def granting (window : Nat) : State := { up with
  link := { up.link with state := .up, window := window, ibOn := true }, str := { up.str with fc := 64, fn := 64 }
  reg := { up.reg with dramGib := 32 } }
def grantOf (s : State) : Word32 :=
  BitVec.ofNat 32 ((s.link.consumed.toNat + min (s.link.window * 65536) (captureSpace s)) / 65536)
theorem met_credit : (granting 512).link.frozen = false ∧ (granting 512).link.state = .up ∧
    0 < (grantOf (granting 512) - (granting 512).link.granted).toNat ∧
    (grantOf (granting 512) - (granting 512).link.granted).toNat < 2 ^ 31 ∧
    (granting 0).str.backpressure = false ∧
    (BitVec.ofNat 48 ((granting 0).link.granted.toNat * 65536) - (granting 0).link.consumed : BitVec 48).toNat < 5056 ∧
    (grantOf (granting 0) - (granting 0).link.granted).toNat = 0 ∧
    2 ^ 47 ≤ (BitVec.ofNat 48 ((granting 0).link.granted.toNat * 65536) - 1 : BitVec 48).toNat := by decide +kernel
/-- A frame of one unit whose entry is placed and written. -/
def entry : IndexEntry := ⟨1, 1, 1, 0, 5, 100, 0, 1, true, 1, true⟩
theorem met_commit :
    let x := { stream .open_ with commits := [0], entries := [entry] }
    let s := streaming x up
    findStream s 5 = some x ∧ x.entries[0]? = some entry ∧ framesDurable s x 0 = true ∧ s.crg.backlog = [] ∧
      s.crg.dropped = 0 ∧ slotFree s.crg = true := by decide +kernel
theorem met_echo : ((5, 1) ∈ ({ up.str with repeats := [(5, 1)] } : Streams).repeats) ∧ (5, 1) ∉ up.str.repeats := by
  decide +kernel

/-- A namespace of four segments. -/
def nspace : Namespace := ⟨1, 0, 8, 0, 0, 0, true, false⟩
def spaced (s : State) : State := { s with nv := { s.nv with namespaces := [nspace] } }
/-- StreamCommands: each request and what its cases ask for. -/
def openAsk (take : Nat) : State := spaced (asking 0x0050
  (leBytes 2 5 ++ [1, 0] ++ leBytes 8 0 ++ leBytes 8 512 ++ leBytes 8 1024 ++ leBytes 8 4 ++ leBytes 8 0 ++ leBytes 4 0 ++
    leBytes 2 take ++ leBytes 2 0))
theorem met_stream_asks : Asked 3 0x0050 (openAsk 0xFFFF) ∧ Asked 3 0x0051 (asking 0x0051 (leBytes 2 5)) ∧
    Asked 3 0x0052 (asking 0x0052 (leBytes 2 5)) ∧ Asked 3 0x0053 (asking 0x0053 (leBytes 2 5)) ∧
    Asked 3 0x0054 (asking 0x0054 (leBytes 4 0xFFFFFFFF ++ leBytes 4 0xFFFFFFFF)) ∧
    Asked 3 0x0055 (asking 0x0055 [1]) ∧ Asked 3 0x0056 (asking 0x0056 [1]) ∧
        Asked 3 0x0060 (asking 0x0060 (leBytes 2 5)) :=
  ⟨asked_of (by decide +kernel), asked_of (by decide +kernel), asked_of (by decide +kernel),
      asked_of (by decide +kernel),
    asked_of (by decide +kernel), asked_of (by decide +kernel), asked_of (by decide +kernel),
        asked_of (by decide +kernel)⟩
theorem met_stream_open : findStream (openAsk 0xFFFF) 5 = none ∧ findNs (openAsk 0xFFFF) 1 = some nspace ∧
    reqField (openAsk 0xFFFF) 3 12 8 % 256 = 0 ∧ reqField (openAsk 0xFFFF) 3 20 8 = 512 ∧
    reqField (openAsk 0xFFFF) 3 28 8 + reqField (openAsk 0xFFFF) 3 36 8 ≤ nspace.size * 256 ∧
    findTake (openAsk 0xFFFF) 0xFFFF = none ∧ (openAsk 0xFFFF).link.state ≠ .halted ∧
    reqField (openAsk 7) 3 56 2 = 7 := by decide +kernel
def take_ (ids : List Nat) : Take := ⟨7, 2, ids, false, false, 0, 0⟩
theorem met_take : findTake { up with str := { up.str with takes := [take_ []] } } 7 = some (take_ []) ∧
    (take_ []).live = false ∧ (take_ []).closing = false ∧ findTake up 7 = none ∧
    findTake { up with str := { up.str with takes := [take_ [5]] } } 7 = some (take_ [5]) ∧ (take_ [5]).ids ≠ [] := by
  decide +kernel
theorem met_stream_cases : findStream (streaming (stream .full) up) 5 = some (stream .full) ∧
    (stream .full).take = 0xFFFF ∧ queuedData (stream .full) < 4 ∧ findStream up 5 = none ∧
    ¬(bufferMib (granting 0) < 64 + 64) := by decide +kernel

/-- StreamEvents: a drained stream, one not, entries to place with and without their data. -/
theorem met_drain : findStream (streaming (stream .draining) up) 5 = some (stream .draining) ∧
    framesDurable (streaming (stream .draining) up) (stream .draining) 0 = true ∧ up.parse.frame = none ∧
    findTake up 0xFFFF = none ∧ (stream .open_).state ≠ .draining := by decide +kernel
theorem met_place :
    let e := { entry with written := 0, placed := false }
    let x := { stream .open_ with entries := [e] }
    x.entries[0]? = some e ∧ entryDataDurable (streaming x up) x e = true ∧ e.written = 0 ∧
      entryDataDurable (streaming x up) x { e with ended := false } = false := by decide +kernel

/-- A submission queue entry of zeros but for these fields. -/
def sqe (op : BitVec 8) (cid : BitVec 16) (nsid d10 d11 d12 : Word32) : Sqe :=
  { blankSqe with opcode := op, cid := cid, nsid := nsid, cdw10 := d10, cdw11 := d11, cdw12 := d12 }
/-- A command fetched from queue `sq`. -/
def fetched (sq : Nat) (e : Sqe) : Cmd := ⟨sq, e, .fetched, 0, 0, false, [], [], none⟩
/-- In service with a namespace, an admin and an I/O queue pair and these commands. -/
def serving_ (cmds : List Cmd) : State := { up with nv := { up.nv with
  rdy := true, cmds := cmds, namespaces := [nspace], grantedSq := 4, grantedCq := 4
  sqs := [⟨0, 32, 0, 0, 0, 0, []⟩, ⟨1, 32, 1, 0, 0, 0, []⟩]
  cqs := [⟨0, 32, 0, true, 0, 0, true, [], [], 0⟩, ⟨1, 4, 1, true, 0, 3, true, [], [], 0⟩] } }
/-- The state in which command 9 of queue `sq` has just been fetched. -/
def begun (sq : Nat) (e : Sqe) : State := serving_ [fetched sq e]
theorem begins_of {s : State} {sq : Nat} {cid : BitVec 16} {op : Nat} {c : Cmd}
    (h : (serving s && (findCmd s sq cid == some c) && (c.stage == .fetched) && (c.sqe.opcode.toNat == op)) = true) :
    Begins s sq cid op c := by
  simp only [Bool.and_eq_true, beq_iff_eq] at h
  exact ⟨h.1.1.1, h.1.1.2, h.1.2, h.2⟩

/-- NvmeQueues: a command to complete, a queue with room and a full one, in and outside a stop. -/
theorem met_completes : let s := begun 1 (sqe 0x02 9 1 0 0 0)
    findCmd s 1 9 = some (fetched 1 (sqe 0x02 9 1 0 0 0)) ∧ findSq s 1 = some ⟨1, 32, 1, 0, 0, 0, []⟩ ∧
    findCq s 1 = some ⟨1, 4, 1, true, 0, 3, true, [], [], 0⟩ ∧ s.life.phase = .service ∧ s.life.stop = none ∧
    ({ s with life := { s.life with stop := some ⟨false, 0, 0, 1, 1, none, none⟩ } } : State).life.stop ≠ none ∧
    (∀ x ∈ s.nv.cqs, x.vector = 1 → x.ien = true → x.id = 1) ∧ s.nv.cqs.countP (fun x => x.id == 1) = 1 ∧
    { s.nv with coalesceTime := 3 }.coalesceTime ≠ 0 ∧ s.nv.coalesceTime = 0 := by decide +kernel
/-- A completion queue with an entry to free and one that waits. -/
def fullCq (s : State) : State := { s with nv := { s.nv with cqs := [⟨1, 2, 1, true, 0, 1, true,
  [⟨0, 0, 0, 1, 8, true, 0, 0, false, false⟩], [⟨0, 0, 0, 1, 9, false, 0, 0, false, false⟩], 1⟩] } }
theorem met_cq_doorbell : let s := resumeP0 (fullCq (serving_ []))
    s.life.phase = .service ∧ s.life.perstN = true ∧ findCq s 2 = none ∧
    (findCq s 1).map (fun q => decide (1 < q.size ∧ (1 + q.size - q.head) % q.size ≤ q.entries.length ∧
        q.overflow ≠ []))
      = some true ∧ (∃ q ∈ s.nv.cqs, q.id ≠ 0 ∧ q.vector = 1 ∧ q.ien = true ∧ 0 < q.aggregated) := by decide +kernel
/-- Both queues have published an entry. -/
def published : State := let s := serving_ []
  { s with nv := { s.nv with sqs :=
    [⟨0, 32, 0, 0, 0, 1, [sqe 0x0C 1 0 0 0 0]⟩, ⟨1, 32, 1, 1, 31, 0, [sqe 0x02 2 1 0 0 0]⟩] } }
theorem met_fetch : resumeP0 (serving_ []) = serving_ [] ∧ findSq (serving_ []) 1 = some ⟨1, 32, 1, 0, 0, 0, []⟩ ∧
    (serving_ []).nv.rdy = true ∧ findSq (serving_ []) 5 = none ∧ published.nv.shst = 0 ∧
        published.life.phase = .service ∧
    (∀ c ∈ published.nv.cmds, c.sq = 0 → c.sqe.opcode = 0 → c.stage ≠ .running) ∧
    published.life.stop = none ∧
    (∀ c ∈ published.nv.cmds, c.stage = .fetched → unsupported c.sq c.sqe = none) ∧
    (published.nv.sqs.map (·.id)).Nodup ∧ (∀ q ∈ published.nv.sqs, q.prio < 4 ∧
        ∀ e ∈ q.entries, unsupported q.id e = none) ∧
    (published.nv.cmds.filter fun c => c.sq != 0).length +
      ((published.nv.sqs.filter fun q => q.id != 0).map (·.entries.length)).sum ≤ 65536 ∧ up.nv.rdy = false := by
  decide +kernel

/-- ControllerResets: awake, with the controller disabled and enabled, one slot selected, shutdown begun. -/
def enabled (n : Nvme) : State := { up with nv := { n with cc := 1 } }
/-- An accepted write that is not durable. -/
def accepted (cmd : Option (Nat × BitVec 16)) (programmed : Bool) : Write :=
  ⟨7, .write, .queue 1, 1, 0, 1, [], [⟨0, 0, 0, false⟩], false, false, cmd, [], programmed, false, 0, false, false⟩
theorem met_resets : Awake up ∧ Awake (enabled up.nv) ∧ up.life.perstN = true ∧ serving (enabled up.nv) = true ∧
    (1 : BitVec 32).getLsbD 0 = true ∧ up.nv.cc.getLsbD 0 = false ∧ (enabled up.nv).nv.cc.getLsbD 0 = true ∧
    (enabled { up.nv with nextSlot := some 2 }).nv.nextSlot = some 2 ∧ up.nv.nextSlot = none ∧ up.crg.backlog = [] ∧
    (BitVec.ofNat 32 (2 ^ 14 + 1)).toNat / 2 ^ 14 % 4 ≠ 0 ∧ bufferWritten up = true ∧
    up.map.pages + (up.map.pendingSlots.length + 255) / 255 < 1536 ∧ targetState up ≠ 1 := by
  refine ⟨⟨rfl, rfl, rfl⟩, ⟨rfl, rfl, rfl⟩, ?_⟩
  decide +kernel
theorem met_shutdown : let s : State := { up with ord := { up.ord with accepted := [accepted none false] } }
    (∃ w ∈ s.ord.accepted, durable s w = false) ∧ bufferWritten s = false ∧
    ({ s with nv := { s.nv with shst := 1 } } : State).nv.shst = 1 := by decide +kernel
theorem met_perst : let s : State := { State.reset with
      life := { State.reset.life with phase := .p4 }, pwr := { State.reset.pwr with perstSeen := true } }
    s.life.phase = .p4 ∧ s.pwr.perstSeen = true ∧
    ({ s with pwr := { s.pwr with wakeSources := 1 } } : State).pwr.wakeSources.getLsbD 0 = true ∧
    State.reset.life.phase ≠ .service ∧ State.reset.life.phase ≠ .recovery := by decide +kernel
theorem met_l1 : let s := enabled { up.nv with powerState := 1 }
    let s : State := { s with link := { s.link with state := .up }, pwr := { s.pwr with depthLorard := 1, l1 := true } }
    targetState s = 1 := by decide +kernel

/-- NvmeReads and NvmeWrites, the checks of an I/O command: each of its cases. -/
theorem met_io_begins : Begins (begun 1 (sqe 0x01 9 1 0 0 0)) 1 9 0x01 (fetched 1 (sqe 0x01 9 1 0 0 0)) ∧
    Begins (begun 1 (sqe 0x81 9 1 0 0 0)) 1 9 0x81 (fetched 1 (sqe 0x81 9 1 0 0 0)) ∧
    Begins (begun 1 (sqe 0x08 9 1 0 0 0)) 1 9 0x08 (fetched 1 (sqe 0x08 9 1 0 0 0)) ∧
    Begins (begun 1 (sqe 0x02 9 1 0 0 0)) 1 9 0x02 (fetched 1 (sqe 0x02 9 1 0 0 0)) ∧
    Begins (begun 1 (sqe 0x0C 9 1 0 0 0)) 1 9 0x0C (fetched 1 (sqe 0x0C 9 1 0 0 0)) ∧
    Begins (begun 1 (sqe 0x09 9 1 0 4 0)) 1 9 0x09 (fetched 1 (sqe 0x09 9 1 0 4 0)) ∧
    Begins (begun 1 (sqe 0x00 9 1 0 0 0)) 1 9 0x00 (fetched 1 (sqe 0x00 9 1 0 0 0)) ∧
    Begins (begun 1 (sqe 0x84 9 1 1 0 0)) 1 9 0x84 (fetched 1 (sqe 0x84 9 1 1 0 0)) :=
  ⟨begins_of (by decide +kernel), begins_of (by decide +kernel), begins_of (by decide +kernel),
      begins_of (by decide +kernel),
    begins_of (by decide +kernel), begins_of (by decide +kernel), begins_of (by decide +kernel),
        begins_of (by decide +kernel)⟩
theorem met_io_checks : let e := sqe 0x02 9 1 0 0 0
    let s := begun 1 e
    findNs s 1 = some nspace ∧ findNs s 2 = none ∧ nspace.attached = true ∧ nspace.formatting = false ∧
    s.sec.port ≠ .opened ∧ s.nv.sanitize = .none ∧ ¬(nspace.size * 256 < 2047 + 1) ∧ nspace.size * 256 < 2048 + 1 ∧
    2097152 < ((sqe 0x02 9 1 0 0 512).cdw12.toNat % 65536 + 1) * 4096 ∧
    2097152 < ((sqe 0x02 9 1 0 0 511).cdw12.toNat % 65536 + 1) * 4104 ∧ e.psdt = 0 ∧
    ({ e with psdt := 1, sgl := [4] } : Sqe).psdt ≠ 0 ∧
    overlapBlocked s (fetched 1 e) = false ∧
    overlapBlocked (serving_ [fetched 1 (sqe 0x01 8 1 0 0 0), fetched 1 e]) (fetched 1 e) = true := by decide +kernel

/-- NvmeWrites: nothing stops the write; a unit whose protection information matches, one that does not. -/
theorem met_write : let e := sqe 0x01 9 1 0 0 0
    let b := begun 1 e
    let s : State := { b with reg := { b.reg with dramGib := 32 }, ord := { b.ord with accepted := [accepted none false] } }
    Begins s 1 9 0x01 (fetched 1 e) ∧ ioFault s e 2097152 = none ∧ overlapBlocked s (fetched 1 e) = false ∧
    overCapacity s 1 0 1 = false ∧ overCapacity b 1 0 1 = true ∧ nvmeRoom s 4096 = true ∧ nvmeRoom b 4096 = false ∧
    hostUnit.parityFails = 0 ∧ 2 ≤ { hostUnit with parityFails := 2 }.parityFails := by
  refine ⟨begins_of (by decide +kernel), ?_⟩
  decide +kernel
theorem met_pi : let n : Namespace := { nspace with fmt := 1, pi := 1 }
    let e := sqe 0x01 9 1 0 0 0x04000000
    ¬(n.fmt = 0 ∨ n.pi = 0 ∨ e.cdw12.getLsbD 29 = true ∨ hostUnit.pi.toNat / 2 ^ 16 % 2 ^ 16 = 0xFFFF) ∧
    e.cdw12.getLsbD 28 = false ∧ e.cdw12.getLsbD 27 = false ∧ e.cdw12.getLsbD 26 = true ∧
    ({ hostUnit with pi := 2 ^ 32 } : HostUnit).pi.toNat / 2 ^ 32 % 2 ^ 32 ≠ 0 % 2 ^ 32 := by decide +kernel
theorem met_zeroes : let e := sqe 0x08 9 1 0 0 0
    ioFault (begun 1 e) e (65536 * 4104) = none ∧ overlapBlocked (begun 1 e) (fetched 1 e) = false := by decide +kernel
/-- A Dataset Management command with one range. -/
def dsm (r : DsmRange) : Sqe := { sqe 0x09 9 1 0 4 0 with ranges := [r] }
theorem met_dsm : let e := dsm ⟨2047, 1⟩
    nsFault (begun 1 e) 1 = none ∧ e.ranges.length = e.cdw10.toNat % 256 + 1 ∧ e.cdw11.getLsbD 2 = true ∧
    sqeSglBad e = false ∧ overlapBlocked (begun 1 e) (fetched 1 e) = false ∧ e.ranges = ⟨2047, 1⟩ :: [] ∧
    (∀ r ∈ e.ranges, r.slba + r.nlb ≤ nspace.size * 256) ∧ sqeSglBad { e with psdt := 1, sgl := [1] } = true ∧
    (∃ r ∈ (dsm ⟨2048, 1⟩).ranges, nspace.size * 256 < r.slba + r.nlb) ∧
    overlapBlocked (serving_ [fetched 1 (sqe 0x01 8 1 2047 0 0), fetched 1 e]) (fetched 1 e) = true := by decide +kernel
/-- A write that its command waits for. -/
def awaited (w : Write) : State :=
  let s := serving_ [{ fetched 1 (sqe 0x01 9 1 0 0 0) with stage := .running, seq := 7 }]
  { s with ord := { s.ord with next := 8, top := 100, accepted := [w] } }
theorem met_post : let s := awaited (accepted (some (1, 9)) true)
    serving s = true ∧ (s.ord.accepted.find? fun w => w.seq == 7) = some (accepted (some (1, 9)) true) ∧
    s.ord.fences = [] ∧ s.hup.protectedMode = false ∧ s.nv.wce = true ∧
    ({ accepted (some (1, 9)) true with fua := true } : Write).programmed = true := by decide +kernel

/-- NvmeReads: each place a unit may come from. -/
theorem met_find : let s := awaited (accepted none false)
    coversUnit (accepted none false) 1 0 = true ∧ readable s (accepted none false) = true ∧
    (accepted none false).units[0 - (accepted none false).lba]? = some ⟨0, 0, 0, false⟩ ∧
    findUnit s 1 1 0 = .hit ⟨0, 0, 0, false⟩ ∧
    (∀ w ∈ s.ord.accepted, coversUnit w 1 1 = false) ∧ resolveMap s 1 1 = .zeros ∧ s.life.mapReady = true := by
  decide +kernel
theorem met_find_lost :
    findUnit (awaited { accepted none false with units := [⟨0, 0, 0, true⟩] }) 1 1 0 = .lost := by decide +kernel
theorem met_find_wait : let s := awaited (accepted none false)
    let f : State := { s with ord := { s.ord with fences := [⟨6, 0, .queue 1, 1, none⟩] } }
    (∃ w ∈ f.ord.accepted, w.src = .queue 1 ∧ coversUnit w 1 0 = true) ∧
    findUnit { s with life := { s.life with mapReady := false } } 1 1 1 = .wait := by decide +kernel
theorem met_read_done : let z : Unit4k := ⟨0, 0, 0, false⟩
    let c : Cmd := { fetched 1 (sqe 0x02 9 1 0 0 0) with stage := .running, got := [some z] }
    let s := serving_ [c]
    serving s = true ∧ findCmd s 1 9 = some c ∧ c.waits = false ∧ c.failed = none ∧ c.got = [z].map some ∧
        ({ c with hits := [0] } : Cmd).hits ≠ [] ∧
    ({ c with failed := some 3 } : Cmd).failed = some 3 ∧ ({ c with got := [none] } : Cmd).got ≠ [] := by decide +kernel

/-- NvmeOrdering: a Flush to end, a Fence with good and bad fields, a waiting write and fence, blocks left and used up. -/
theorem met_flush : let c : Cmd := { fetched 1 (sqe 0x00 9 1 0 0 0) with stage := .running, flushUpTo := 7 }
    let s := serving_ [c]
    serving s = true ∧ findCmd s 1 9 = some c ∧ s.ord.accepted = [] ∧
    durable (awaited (accepted none false)) (accepted none false) = false := by decide +kernel
/-- A format of its namespace, or of any, stops a Fence or a Flush; a frame's fence waits for an earlier frame's write. -/
theorem met_fence_blocked : let s := serving_ []
    (∃ n ∈ ({ s.nv with namespaces := [{ nspace with formatting := true }] } : Nvme).namespaces, n.formatting = true) ∧
    ({ s.nv with sanitize := .blockErase } : Nvme).sanitize ≠ .none ∧
    (let f : FenceRec := ⟨0, 1, .stream 5, 1, none⟩
     let w : Write := { accepted none false with src := .stream 6 }
     f.scope = 1 ∧ f.src = .stream 5 ∧ w.ns = f.ns ∧ w.src = .stream 6 ∧
     waitingSource (.fence f) = .stream 5 ∧ waitingSource (.write w) ≠ .stream 5) := by decide +kernel
/-- A fence and a write of the same queue that wait for W7. -/
def waiting (next top : Nat) (x : Waiting) : State :=
  { up with ord := { up.ord with next := next, top := top, waiting := [x] } }
theorem met_accept : let s := waiting 5 100 (.write (accepted none false))
    waitingSource (.write (accepted none false)) = .queue 1 ∧ s.life.phase = .service ∧ s.life.captureReady = true ∧
    s.ord.accepted.length < 262144 ∧ s.ord.next + 1 ≤ s.ord.top ∧ (∀ d ∈ s.nv.cmds, d.waits = false) ∧
    s.sram.flipMask.getLsbD 31 = false ∧
    (waiting 101 100 (.write (accepted none false))).ord.top < 101 ∧
    (∀ y ∈ s.map.pendingSlots, ∀ k, y ≠ .seqBlock k) ∧
    waitingSource (.fence ⟨0, 0, .queue 1, 1, none⟩) = .queue 1 := by
  refine ⟨?_, ?_, ?_, ?_, ?_, ?_, ?_, ?_, ?_, ?_⟩ <;> first | decide +kernel | (intro y h; cases h)
theorem met_fence_record : let s : State :=
    { up with ord := { up.ord with fences := [⟨6, 0, .queue 1, 1, some (1, 9)⟩] } }
    (s.ord.fences.find? fun g => g.seq == 6) = some ⟨6, 0, .queue 1, 1, some (1, 9)⟩ ∧ s.ord.accepted = [] ∧
    (let t := awaited (accepted none false); ∃ w ∈ t.ord.accepted, w.seq < 8 ∧
      covers ⟨8, 0, .queue 1, 1, none⟩ w = true ∧ durable t w = false) := by decide +kernel
/-- An admin command just fetched, its parameters given. -/
def admin (op : BitVec 8) (nsid d10 d11 : Word32) : State := begun 0 (sqe op 9 nsid d10 d11 0)
theorem admin_begins {op : BitVec 8} {nsid d10 d11 : Word32}
    (h : (serving (admin op nsid d10 d11) && (findCmd (admin op nsid d10 d11) 0 9 == some (fetched 0 (sqe op 9 nsid d10 d11 0)))) =
      true) : Begins (admin op nsid d10 d11) 0 9 op.toNat (fetched 0 (sqe op 9 nsid d10 d11 0)) := by
  simp only [Bool.and_eq_true, beq_iff_eq] at h
  exact ⟨h.1, h.2, rfl, rfl⟩

/-- NvmeQueueAdmin, and every family below: commands that begin. -/
theorem met_admin : Begins (admin 0x01 0 0x000F0002 0x00010001) 0 9 0x01 (fetched 0 (sqe 0x01 9 0 0x000F0002 0x00010001 0)) ∧
    Begins (admin 0x05 0 0x000F0002 0x00010001) 0 9 0x05 (fetched 0 (sqe 0x05 9 0 0x000F0002 0x00010001 0)) ∧
    Begins (admin 0x00 0 1 0) 0 9 0x00 (fetched 0 (sqe 0x00 9 0 1 0 0)) ∧
    Begins (admin 0x04 0 1 0) 0 9 0x04 (fetched 0 (sqe 0x04 9 0 1 0 0)) ∧
    Begins (admin 0x08 0 0x00080001 0) 0 9 0x08 (fetched 0 (sqe 0x08 9 0 0x00080001 0 0)) ∧
    Begins (admin 0x0C 0 0 0) 0 9 0x0C (fetched 0 (sqe 0x0C 9 0 0 0 0)) ∧
    Begins (admin 0x09 0 6 1) 0 9 0x09 (fetched 0 (sqe 0x09 9 0 6 1 0)) ∧
    Begins (admin 0x0A 0 6 0) 0 9 0x0A (fetched 0 (sqe 0x0A 9 0 6 0 0)) ∧
    Begins (admin 0x0D 0 0 0) 0 9 0x0D (fetched 0 (sqe 0x0D 9 0 0 0 0)) ∧
    Begins (admin 0x15 1 0 0) 0 9 0x15 (fetched 0 (sqe 0x15 9 1 0 0 0)) ∧
    Begins (admin 0x80 1 0 0) 0 9 0x80 (fetched 0 (sqe 0x80 9 1 0 0 0)) ∧
    Begins (admin 0x84 0 2 0) 0 9 0x84 (fetched 0 (sqe 0x84 9 0 2 0 0)) ∧
    Begins (admin 0x06 0 2 0) 0 9 0x06 (fetched 0 (sqe 0x06 9 0 2 0 0)) ∧
    Begins (admin 0x02 0 2 0) 0 9 0x02 (fetched 0 (sqe 0x02 9 0 2 0 0)) ∧
    Begins (admin 0x11 0 1023 0) 0 9 0x11 (fetched 0 (sqe 0x11 9 0 1023 0 0)) ∧
    Begins (admin 0x10 0 2 0) 0 9 0x10 (fetched 0 (sqe 0x10 9 0 2 0 0)) :=
  ⟨admin_begins (by decide +kernel), admin_begins (by decide +kernel), admin_begins (by decide +kernel),
    admin_begins (by decide +kernel), admin_begins (by decide +kernel), admin_begins (by decide +kernel),
    admin_begins (by decide +kernel), admin_begins (by decide +kernel), admin_begins (by decide +kernel),
    admin_begins (by decide +kernel), admin_begins (by decide +kernel), admin_begins (by decide +kernel),
    admin_begins (by decide +kernel), admin_begins (by decide +kernel), admin_begins (by decide +kernel),
    admin_begins (by decide +kernel)⟩
/-- Queue 2 to create beside a completion queue that exists; queue 1 to delete, which a submission queue uses. -/
theorem met_queues : let s := admin 0x01 0 0 0
    findSq s 2 = none ∧ findCq s 2 = none ∧ 2 ≤ s.nv.grantedSq ∧ findSq s 1 ≠ none ∧ findCq s 1 ≠ none ∧
        s.nv.grantedSq < 5 ∧
    (∃ x ∈ s.nv.sqs, x.cq = 1) ∧ (∀ x ∈ ({ s with nv := { s.nv with sqs := [] } } : State).nv.sqs, x.cq ≠ 1) := by
  decide +kernel
/-- Abort: a target that is past its point of no return, one that is not, none; 32 aborts ahead. -/
def aborting (t : List Cmd) : State := serving_ (t ++ [fetched 0 (sqe 0x08 9 0 0x00080001 0 0)])
theorem met_abort : findCmd (aborting []) 1 8 = none ∧
    (findCmd (aborting [fetched 1 (sqe 0x02 8 1 0 0 0)]) 1 8).map (·.seq) = some 0 ∧
    (findCmd (aborting [{ fetched 1 (sqe 0x01 8 1 0 0 0) with seq := 4 }]) 1 8).map (·.seq) = some 4 ∧
    32 ≤ (((aborting (List.replicate 32 (fetched 0 (sqe 0x08 7 0 0 0 0)))).nv.cmds.takeWhile fun d =>
      !(d.sq == 0 && d.sqe.cid == 9)).filter fun d => d.sq == 0 && d.sqe.opcode == 0x08).length := by decide +kernel
/-- Completions of queue 1 that are not posted. -/
def unsent (early : Bool) : State :=
  let s := aborting []
  { s with nv := { s.nv with held := [(1, ⟨0, 0, 0, 1, 8, false, 0, 0, false, early⟩)] } }
theorem met_unposted : findCmd (unsent true) 1 8 = none ∧
    (unposted (unsent true) 1 8).map (·.early) = some true ∧ (unposted (unsent false) 1 8).map (·.early) = some false ∧
    unposted (aborting []) 1 8 = none := by decide +kernel
theorem met_aer : (admin 0x0C 0 0 0).nv.aers.length < 4 ∧ 4 ≤ { up.nv with aers := [1, 2, 3, 4] }.aers.length := by
  decide +kernel

/-- NvmeFeatures: the features, and boundary values of theirs. -/
theorem met_features : (0x00150001 : Word32).toNat / 65536 % 16 = 5 ∧ (0x00150001 : Word32).toNat / 2 ^ 20 % 4 = 1 ∧
    5 < (0x00060000 : Word32).toNat / 65536 % 16 ∧ (2 : Word32).toNat % 32 ≤ 2 ∧ 2 < (3 : Word32).toNat % 32 ∧
    (0xFFFE0000 : Word32).toNat / 65536 ≠ 65535 ∧ up.nv.tempOver[5]? = some 373 ∧ up.nv.tempUnder[5]? = some 0 ∧
    (0x104 : Word32).toNat / 256 % 8 = 1 := by decide +kernel

/-- NvmeNamespaces: space and a key for a namespace, no space, a bound stream, a namespace attached and not. -/
def roomy (s : State) : State := { s with
  sec := { s.sec with drbgOn := true }, ord := { s.ord with next := 3, top := 100 }
  reg := { s.reg with populated := 1 } }
def create : NsCreate := ⟨256, 256, 1, 3⟩
theorem met_create : let s := roomy (admin 0x0D 0 0 0)
    (create.nsze = create.ncap ∧ create.nsze ≠ 0 ∧ create.nsze % 256 = 0) ∧ create.lbaFormat ≤ 1 ∧
    findNs s 2 = none ∧ findNs s 1 ≠ none ∧ s.sec.port ≠ .opened ∧ s.ord.next ≤ s.ord.top ∧
    8 + 1 ≤ totalSegments s ∧ (∀ n ∈ s.nv.namespaces, n.base + n.size ≤ 8) := by decide +kernel
theorem met_delete : let s := roomy (admin 0x0D 1 1 0)
    findNs s 1 = some nspace ∧ ¬(∃ x ∈ s.str.list, x.state ≠ .closed ∧ x.ns ∈ [1]) ∧ s.ord.next + 1 ≤ s.ord.top + 1 ∧
    (∃ x ∈ (streaming (stream .open_) s).str.list, x.state ≠ .closed ∧ x.ns ∈ [1]) ∧
    ({ nspace with attached := false } : Namespace).attached = false ∧
    (∀ d ∈ s.nv.cmds, d.sq ≠ 0 → d.stage = .running → d.sqe.nsid.toNat = 1 → d.seq ≠ 0) := by decide +kernel

/-- NvmeErasing: what a Format and a Sanitize meet, and their ends. -/
theorem met_format : let s := roomy (admin 0x80 1 0x71 0)
    ((0x71 : Word32).toNat % 16 = 1 ∧ (0x71 : Word32).toNat / 32 % 8 = 3 ∧ (0x71 : Word32).toNat.testBit 4 = true ∧
      (0x71 : Word32).toNat.testBit 8 = false) ∧ s.nv.sanitize = .none ∧
    ¬(∃ n ∈ s.nv.namespaces, n.formatting = true) ∧ s.ord.next + 2 ≤ s.ord.top + 1 ∧
    (0x400 : Word32).toNat / 512 % 8 = 2 ∧ 2 < (0x600 : Word32).toNat / 512 % 8 := by decide +kernel
theorem met_format_done : let c : Cmd := { fetched 0 (sqe 0x80 9 1 0 0 0) with stage := .running }
    let s := serving_ [c]
    let t : State := { s with nv := { s.nv with namespaces := [{ nspace with formatting := true }] } }
    serving t = true ∧ (∃ n ∈ t.nv.namespaces, n.formatting = true) ∧ t.nv.formatSes = 0 ∧
    (t.nv.cmds.find? fun c => c.sq == 0 && c.sqe.opcode == 0x80 && c.stage == .running) = some c ∧
    ({ t with nv := { t.nv with sanitize := .cryptoErase } } : State).nv.sanitize ≠ .none := by decide +kernel

/-- NvmeFirmware: a page of a log, a download, a commit to the other slot. -/
theorem met_firmware : let s := admin 0x10 0 2 0
    ({ s with nor := { s.nor with slot := 1 } } : State).nor.slot = 1 ∧ s.sec.staging = none ∧ s.nv.download = [] ∧
        { s.nv with download := [(0, 4096)] }.download ≠ [] ∧
    (slotFault s 2).isSome = true ∧ (4 * ((1023 : Word32).toNat + 1)) % 4096 = 0 ∧
    (match identifyData s (sqe 0x06 9 0 2 0 0) with
      | .inl _ => true
      | .inr _ => false) = true ∧ (logPage s 2).isSome = true := by decide +kernel
/-- What of a state the verification of an image reads. -/
theorem imageFault_of {s t : State} (i : FwImage) (h : s.nor.otp = t.nor.otp) : imageFault s i = imageFault t i := by
  have key : nebocyHash s i.signer = nebocyHash t i.signer := by simp only [nebocyHash, h]
  have needed : integratorNeeded s = integratorNeeded t := by simp only [integratorNeeded, h]
  have count : rollbackCount s = rollbackCount t := by simp only [rollbackCount, h]
  unfold imageFault
  rw [key, needed, count, h]
theorem slot_type : slotImage1.type = 0 := by decide +kernel
theorem slotFault_of {s : State} {k : Nat} (h : slotImage s k = some slotImage1) : slotFault s k = imageFault s slotImage1 := by
  simp only [slotFault, h, slot_type, if_true]
/-- Slot 2 holds a signed image, slot 1 runs, and a piece may have been downloaded. -/
def committing (download : List (Nat × Nat)) (d10 : Word32) : State :=
  let s := admin 0x10 0 d10 0
  { s with nor := { made.nor with slotB := some slotImage1, slot := 1 }, nv := { s.nv with download := download } }
theorem met_commit_image : (0x1A : Word32).toNat / 8 % 8 = 3 ∧ (0x1A : Word32).toNat % 8 = 2 ∧
    (committing [] 0x1A).sec.staging ≠ some 2 ∧ (committing [] 0x1A).nor.slot = 1 ∧
        slotFault (committing [] 0x1A) 2 = none := by
  have sound : imageFault made slotImage1 = none := (slotFault_of rfl).symm.trans met_slot_image
  refine ⟨by decide, by decide, by decide +kernel, rfl, ?_⟩
  exact (slotFault_of rfl).trans ((imageFault_of slotImage1 rfl).trans sound)
theorem met_commit_download : (committing [(0, 4096)] 0x02).nv.download ≠ [] ∧
    2 ≠ (committing [(0, 4096)] 0x02).nor.slot ∧
    (0x02 : Word32).toNat / 8 % 8 = 0 ∧ (0x0A : Word32).toNat / 8 % 8 = 1 := by decide +kernel
/-- A superblock with four channels in service, empty. -/
def block (n : Nat) (state : SbState) : Superblock where
  number := n
  state := state
  noSummary := false
  blankPending := false
  overlay := false
  active := true
  usable := true
  eraseCount := 1
  memberErases := []
  retireDie := none
  grantUtc := 0
  closeStamp := 0
  summaryStart := 0
  summaryLength := 0
  leftOut := []
  fill := 0
  units := []
  rowsSent := []
  rowsDone := []
  openedUs := 0
  firstUs := none
  firstUtc := none
  firstTemps := []
  lastTemps := []
  relocate := false
  reads := []
/-- In service with a namespace and these superblocks. -/
def placed (w : List Write) (sbs : List Superblock) : State :=
  let s := serving_ []
  { s with
    ord := { s.ord with next := 8, top := 100, accepted := w }
    map := { s.map with sbs := sbs } }
/-- A write of one whole segment. -/
def segmentWrite : Write := { accepted none false with len := 256, units := [] }

/-- Placement: a write that may be placed and one behind a fence; room in the active superblock; one overlay cause. -/
theorem met_place_write : let w := segmentWrite
    let s := placed [w] [block 0 .granted]
    (s.ord.accepted.find? fun x => x.seq == 7) = some w ∧ s.life.phase = .service ∧ mayPlace s w = true ∧
        w.kind = .write ∧
    w.places = [] ∧ w.lba / 512 = (w.lba + w.len - 1) / 512 ∧ overlayWait s w (0, w.len) = none ∧ s.map.nextGroup < 32 ∧
    activeOf s s.map.nextGroup = some (block 0 .granted) ∧ findSb s 0 = some (block 0 .granted) ∧
    placeTurn s w = true ∧ (block 0 .granted).usable = true ∧ s.sram.flipMask.getLsbD 31 = false ∧ 0 < w.len ∧
    mayPlace { s with ord := { s.ord with fences := [⟨6, 0, .queue 1, 1, none⟩] } } w = false := by decide +kernel
theorem met_units_fit : unitsFit (block 0 .granted) ((List.range 256).map fun k =>
    ⟨k, 7, k, 1, 0, 0, 256, .write, 0, zeroUnit⟩) = true := by decide +kernel
/-- A write that R160 puts ahead goes first. -/
theorem met_place_turn : let w : Write := { segmentWrite with lba := 256, seq := 8 }
    let s := placed [segmentWrite, w] [block 0 .granted]
    placeTurn { s with hup := { s.hup with flushAhead := 7 } } w = false := by decide +kernel
/-- Byte parity fails at W10 for a unit of a write. -/
theorem met_place_parity : let w : Write := accepted none false
    let s := placed [w] []
    overlayWait s w (0, w.len) = none ∧ placeTurn s w = true ∧ mayPlace s w = true ∧
    (⟨0, 10, 3, 3⟩ : PlaceParity).unit < w.len ∧ (⟨0, 10, 3, 3⟩ : PlaceParity).unit < w.units.length ∧
    w.programmed = false ∧ 3 ≤ (⟨0, 10, 3, 3⟩ : PlaceParity).fails := by decide +kernel
theorem met_overlay_wait : let w := accepted none false
    let s := placed [w] []
    let t : State := { s with map := { s.map with overlay := (List.range 64).map fun d =>
      ⟨9, d, (overlayHash 0 0 % 2 ^ 28 + d) % 2 ^ 28, 0x1FFFF, 0, false, 3⟩ } }
    overlayWait t w (0, w.len) = some 1 ∧ t.map.overlayFull = false ∧ w.lba / 512 = (w.lba + w.len - 1) / 512 ∧
    ({ t with map := { t.map with overlayFull := true } } : State).map.overlayFull = true := by decide +kernel
/-- A superblock that takes writes, one whose only row closes it. -/
def filling (closing : Bool) : Superblock := { block 0 .granted with
  fill := 300, rowsSent := [0], summaryLength := if closing then 1 else 0, summaryStart := 299, closeStamp := 7 }
theorem met_age : let s := placed [] [filling false]
    findSb s 0 = some (filling false) ∧ (filling false).active = true ∧ (filling false).summaryLength = 0 ∧
    (filling false).noSummary = false ∧ 0 < (filling false).fill ∧ 0 < rowUnits (filling false) := by decide +kernel
theorem met_row : let w := { segmentWrite with places := [⟨0, 0, 0, 256⟩] }
    let s := placed [w] [filling true]
    findSb s 0 = some (filling true) ∧ 0 ∈ (filling true).rowsSent ∧ 0 ∉ (filling true).rowsDone ∧
    (filling true).summaryLength ≠ 0 ∧ s.ord.accepted = [w] ∧ w.lba % 256 = 0 ∧ w.programmed = false ∧
        w.applied = false ∧
    findNs s w.ns = some nspace ∧ nspace.epoch ≤ w.seq ∧ rowOf (filling true) 255 = 0 ∧
    rowTurn s (filling true) 0 = true ∧ rowTurn s { filling true with rowsSent := [0, 1] } 1 = false ∧
    (∀ v ∈ s.ord.accepted, v.kind ≠ .deallocate ∧ v.kind ≠ .secureDiscard) := by decide +kernel

/-- Superblocks: erased ones to grant, two granted ones, slots for a ledger page, a victim with nothing valid. -/
theorem met_grant : let s := placed [] [block 0 .erased, { block 32 .granted with active := true }]
    serving s = true ∧ backgroundOpen { s with thm := { s.thm with step := 2 } } = false ∧
    (∀ x ∈ s.map.sbs, x.state ≠ .dirty) ∧ (membersOut s 0).length < 9 ∧ (∀ b ∈ s.map.sbs, b.blankPending = false) ∧
    (∃ b ∈ s.map.sbs, b.number % 32 = 0 ∧ b.state = .erased) ∧ (s.map.sbs.map (·.number)).Nodup ∧
    (s.map.sbs.filter fun b => groupOf b.number == 0 && b.state == .granted && !closing b).length < 2 :=
        by decide +kernel
theorem met_grant_full : let s := placed [] [block 0 .granted, block 32 .granted]
    2 ≤ (s.map.sbs.filter fun b => groupOf b.number == 0 && b.state == .granted && !closing b).length ∧
    (∀ b ∈ s.map.sbs, b.number % 32 = 0 → b.state ≠ .erased) := by decide +kernel
theorem met_ledger : let s := placed [] []
    let t : State := { s with map := { s.map with pendingSlots := [.grant 7 0 false 0, .seqBlock 200] } }
    (∀ c ∈ t.nv.cmds, c.waits = false) ∧ t.life.captureReady = true ∧ t.map.pendingSlots ≠ [] ∧
    t.map.pages + (t.map.pendingSlots.length + 254) / 255 < 1536 ∧ ([0, 2] : List (Fin 3)).dedup.length = 2 ∧
    ([1, 1] : List (Fin 3)).dedup.length < 2 := by decide +kernel
def victim : Superblock := { block 0 .closed with noSummary := true }
/-- A unit of a closed superblock that the map still points to. -/
def oldUnit : FlashUnit := ⟨5, 3, 0, 1, 0, 0, 1, .write, 0, ⟨0, 0, 0, false⟩⟩
theorem met_gc : let s := placed [] [victim]
    findSb s 0 = some victim ∧ backgroundOpen s = true ∧ gcDue s victim = true ∧ validUnits s victim = [] ∧
    s.ord.accepted = [] ∧ (∀ x ∈ s.map.sbs, x.state ≠ .granted) ∧ gcDue s (block 0 .closed) = false := by decide +kernel
theorem met_gc_copy : let b := { victim with units := [oldUnit] }
    let s := placed [] [b]
    let t : State := { s with map := { s.map with
      segments := [⟨0, 0, 0, false, true, false, 1, 3⟩], overlay := [⟨1, 0, 0, 0, 5, false, 3⟩] } }
    copyUnits t b = [oldUnit] := by decide +kernel
theorem met_fold : let s := placed [] []
    let e : SegEntry := ⟨0, 0, 0, false, true, false, 1, 3⟩
    let t : State := { s with map := { s.map with
      segments := [e], overlay := [⟨1, 0, 0, 0x1FFFF, 5, false, 3⟩], overlayFull := true } }
    namespaceOf t 0 = some nspace ∧ segEntry t 0 = e ∧ foldable t e = true ∧ foldsFirst t e = true ∧
    t.ord.next ≤ t.ord.top ∧ t.life.mapReady = true ∧ t.life.stop = none ∧
        s.map.overlayFull = false := by decide +kernel
theorem met_move : let s := placed [] ({ block 0 .closed with eraseCount := 0 } ::
      (List.range 8).map fun k => { block (32 * (k + 1)) .erased with eraseCount := 400 + k })
    mayMove s 0 = true ∧ (coldest s 0).map (·.number) = some 0 ∧ (mostWorn s 0).map (·.number) = some 256 ∧
    (mostWorn s 0).map (·.blankPending) = some false ∧
    s.ord.accepted = [] ∧ (s.map.sbs.map (·.number)).Nodup ∧ mayMove s 1 = false := by decide +kernel

/-- A die in service, its channel running; a job; a routine of it. -/
def die0 : Die := foundDie 1 0 0
def working (d : Die) : State := { up with
  clk := { up.clk with us := 1000 }
  med := { up.med with dies := [d], channels := up.med.channels.set 0 { Channel.reset with state := .running } } }
def eraseJob : Job := ⟨2, .gc, .erase, 0x15, 3, 0, true, List.replicate 8 0, []⟩
def programJob : Job := ⟨3, .program, .program, 0x11, 3, 0, false, List.replicate 8 0, []⟩
def routine (j : Job) (committed : Bool) : Context := ⟨j, 0x100, List.replicate 16 0, [], false, false, 0, committed,
    0, 0, [], 0, 0⟩
/-- MediaJobs: a die that takes a job and one that is full, a job to start, a stale die. -/
theorem met_jobs : let s := working { die0 with queue := [readJob] }
    findDie s 0 = some { die0 with queue := [readJob] } ∧ dieOut s 0 = false ∧ die0.state = .inService ∧
    (List.replicate 64 readJob).length = 64 ∧ testFree s 0 = true ∧ channelTakes s 0 = true ∧
    startable s { die0 with queue := [readJob] } readJob = true ∧
    startable s { die0 with queue := [readJob], parked := some (routine eraseJob true), readsServed := 8 } readJob = false ∧
    startable s { die0 with queue := [readJob], parked := some (routine eraseJob true), parkedUs := 850 } readJob = false ∧
    startable s { die0 with queue := [readJob], parked := some (routine eraseJob true), parkedUs := 851 } readJob = true ∧
    { die0 with state := .stale }.state = .stale ∧ s.med.channels.length = 32 := by decide +kernel
theorem met_suspend : let c := routine eraseJob true
    let d := { die0 with queue := [readJob], running := some c, runFromUs := 500 }
    let s := working d
    findDie s 0 = some d ∧ (∃ j ∈ d.queue, j.cls = .hostRead) ∧ c.job.kind ≠ .read ∧ c.committed = true ∧
    d.runFromUs + 500 ≤ s.clk.us ∧ ¬({ d with runFromUs := 501 }.runFromUs + 500 ≤ s.clk.us) ∧ d.suspends < 8 ∧
    c.request = 0 ∧ d.suspended = .none := by decide +kernel
theorem met_abandon : let c := routine eraseJob false
    let d := { die0 with queue := [readJob], arrivals := [(1, 992)], running := some c }
    let s := working d
    let t : State := { s with med := { s.med with
      channels := s.med.channels.set 0 { Channel.reset with state := .loading, bus := some 0 } } }
    c.committed = false ∧ c.job.cls ≠ .hostRead ∧ (chanOf t 0).bus = some 0 ∧ readWaits t 0 = true ∧
        c.job.id ∉ d.abandoned ∧
    (chanOf t 0).state = .loading ∧ c.job.flushNeeds = true ∧ c.job.cls ≠ .program ∧ readJob.flushNeeds = false ∧
    ({ s with life := { s.life with phase := .lossFlush } } : State).life.phase = .lossFlush := by decide +kernel
theorem met_resume : let d := { die0 with parked := some (routine eraseJob true), parkedUs := 850, readsServed := 8 }
    d.parked = some (routine eraseJob true) ∧ d.running = none ∧ (∀ j ∈ d.queue, j.cls ≠ .hostRead) ∧
        8 ≤ d.readsServed ∧
    d.parkedUs + 150 ≤ (working d).clk.us := by decide +kernel
theorem met_temp : let s := working { die0 with queue := [readJob] }
    sequencerRuns s 0 = true ∧ dieOut s 0 = false ∧ 0 ∉ s.thm.hotDies ∧ sequencerRuns up 0 = false := by decide +kernel
/-- Routines of class 0 and 2 wait for a free bus; garbage collection has been passed over 15 times. -/
theorem met_bus_grant : let g := { foundDie 1 0 32 with index := 0, running := some (routine eraseJob false) }
    let r := { foundDie 1 0 1 with running := some (routine readJob false) }
    let s : State := { working g with med := { (working g).med with dies := [g, r] } }
    let t : State := { s with med := { s.med with
      channels := s.med.channels.set 0 { Channel.reset with state := .running, gcPassed := 15 } } }
    (([0, 1, 2] : List (Fin 32)).map (·.val)).filter (fun p => decide (rankAt s 0 p < 4)) = [0, 1] ∧ rankAt s 0 0 = 2 ∧
    rankAt s 0 1 = 0 ∧ (chanOf s 0).bus = none ∧ sequencerRuns s 0 = true ∧
        15 ≤ (chanOf t 0).gcPassed := by decide +kernel

/-- ControlStore: images good and bad, a channel to load, none left. -/
def patchImage : PatchImage :=
  ⟨packBytes [(4, 0x4D554350), (2, 64), (2, 3), (1, 1), (1, 1), (2, 1), (4, 0), (48, 0)] ++
    packBytes [(1, 5), (1, 0), (2, 12288), (4, 0xA4000000)] ++ beBytes 96
    986423884060622581444224397906578203558621642597486041061310591817652099533633625443962126562610239596706484637830973924714842798621567966753999989071082967353030020388250375944201557579568258238675682796894033750028985788313191081⟩
def loading (toLoad : List Nat) (d : Die) : State :=
  let s := withHandle (handle 0x00A2 false) (working d)
  { s with med := { s.med with load := some patchImage, toLoad := toLoad } }
theorem met_sweep : sequencerRuns (working die0) 0 = true ∧ (∀ x ∈ (working die0).med.dies, x.running = none) ∧
    (working die0).med.channels.length = 32 := by decide +kernel
def patchAsk : State :=
  let s := asking 0x00A2 (leBytes 4 1 ++ leBytes 8 0 ++ leBytes 4 168)
  { s with nor := made.nor, sec := { s.sec with image := some slotImage1 } }
theorem met_patch : Asked 3 0x00A2 patchAsk := asked_of (by decide +kernel)
theorem met_patch_image : reqField patchAsk 3 20 4 = 168 ∧ patchFormOk patchImage 168 = true ∧
    patchFormOk { patchImage with bytes := patchImage.bytes.set 71 0xFC } 168 = false ∧ patchImage.version = 3 ∧
    ¬(patchImage.version < minPatch patchAsk) ∧ minPatch { patchAsk with sec := { patchAsk.sec with
      image := some ⟨slotImage1.bytes.set 18 4⟩ } } = 4 ∧
    imageLive patchAsk = false ∧ imageLive (loading [] die0) = true ∧ freeSlots patchAsk ≠ [] ∧
    ¬(patchImage.romVersion ≠ 1 ∨ patchAsk.sec.version < patchImage.minFirmware) ∧
    ({ patchImage with bytes := patchImage.bytes.set 8 2 }.romVersion ≠ 1) := by decide +kernel
theorem met_patch_signed : patchSigned patchAsk patchImage = true ∧
    patchSigned up patchImage = false := by decide +kernel
theorem met_patch_load : let s := loading [0] die0
    s.med.load = some patchImage ∧ liveOp s 0x00A2 = some (handle 0x00A2 false) ∧ serving s = true ∧
        s.med.toLoad = [0] ∧
    channelQuiet s 0 = true ∧
        channelQuiet (loading [0] { die0 with running := some (routine readJob false) }) 0 = false ∧
    (loading [] die0).med.toLoad = [] := by decide +kernel
/-- A routine that runs on die 0, its next microword at `pc`. -/
def running (c : Context) (patch : List Word32) (bus : Option Nat := some 0) : State :=
  let s := working { die0 with running := some c }
  { s with med := { s.med with
    channels := s.med.channels.set 0 { Channel.reset with state := .running, patch := patch, bus := bus } } }
/-- Micro…: a routine whose next microword lies in ROM, in patch RAM, before and after COMMIT, the call stack empty and full. -/
theorem met_routine : let c := routine readJob true
    Routine (running c []) 0 { die0 with running := some c } c ∧ Fetches (running c []) 0 c 0x13 none none (some 5) ∧
    busFor (running c []) 0 = true ∧ 0 / 32 < (running c []).med.channels.length ∧ c.regs.length = 16 ∧
        c.stack.length < 4 ∧
    busFor (running c [] none) 0 = false ∧ c.stack = [] ∧
        ({ c with stack := [1, 2, 3, 4] } : Context).stack.length = 4 :=
  ⟨⟨by decide +kernel, rfl, by decide +kernel⟩, .inl (by decide +kernel), by decide +kernel, by decide +kernel,
    by decide +kernel, by decide +kernel, by decide +kernel, by decide +kernel, by decide +kernel⟩
theorem met_patched : let c := { routine eraseJob false with pc := 12288 }
    Fetches (running c [0x41A80423]) 0 c 0x10 (some 6) (some 10) (some 0x423) ∧ c.committed = false ∧ c.request = 0 ∧
    needsCommit 0xFF = true ∧ needsCommit 0x70 = false ∧ c.job.kind = .erase := by
  refine ⟨.inr ⟨0x41A80423, ?_, ?_, ?_⟩, ?_⟩ <;> decide +kernel
theorem met_micro_cases : let c := { routine programJob false with stack := [7] }
    let d := { die0 with running := some c }
    c.stack = 7 :: [] ∧ d.parked = none ∧ d.state = .inService ∧ c.job.kind = .program ∧ startsOperation 0xD0 = true ∧
    resetsDie 0xD0 = false ∧ resetsDie 0xFF = true ∧ 0 ∉ up.thm.hotDies := by decide +kernel

/-- ReadIntegrity: a read on the ladder and one to rebuild, the unit it reads sound, lost, and missing. -/
def unitRead (step : Nat) (reader : Reader) : UnitRead := ⟨reader, 1, 0, 0, 5, step, 0, 0, [], false⟩
def reading (r : UnitRead) (u : List FlashUnit) : State :=
  let s := placed [] [{ block 0 .closed with units := u }]
  { s with intg := { s.intg with reads := [r] } }
theorem met_ladder : let r := unitRead 0 (.host 1 9)
    let s := reading r [oldUnit]
    findSb s r.sb = some { block 0 .closed with units := [oldUnit] } ∧ s.life.phase = .service ∧
    (∀ c ∈ s.nv.cmds, c.waits = false) ∧ ladderRead s r.sb r.off = some r ∧
    unitAt { block 0 .closed with units := [oldUnit] } 5 = some oldUnit ∧ unitAt (block 0 .closed) 5 = none ∧
    f6Expected s r oldUnit = true ∧ f9Expected s oldUnit = true ∧
    f9Expected s { oldUnit with content := { oldUnit.content with lost := true } } = false ∧
    f6Expected s r { oldUnit with lba := 1 } = false ∧
    ladderRead (reading (unitRead 4 .scrub) [oldUnit]) 0 5 = some (unitRead 4 .scrub) := by decide +kernel
theorem met_held : heldUnit { block 0 .closed with units := [oldUnit] } 5 = some oldUnit ∧
    heldUnit (block 0 .closed) 5 = none ∧
        heldUnit { block 0 .closed with rowsDone := [0] } (dataSpace (block 0 .closed)) ≠ none ∧
    ((block 0 .granted).state = .granted ∧ readRow (block 0 .granted) 5 ∉ (block 0 .granted).rowsDone) :=
        by decide +kernel
/-- No shift set is left after three. -/
theorem met_shift : (setOrder die0)[3]? = none := by simp [setOrder]
theorem met_rebuild : rebuildRead (reading (unitRead 5 (.host 1 9)) [oldUnit]) 0 5 = some (unitRead 5 (.host 1 9)) ∧
    rebuildRead (reading (unitRead 5 .scrub) [oldUnit]) 0 5 = some (unitRead 5 .scrub) ∧
    { block 0 .closed with relocate := true }.relocate = true := by decide +kernel
theorem met_scrub : let s := placed [] [block 0 .closed, { block 32 .closed with closeStamp := 4 }]
    serving s = true ∧ s.life.mapReady = true ∧ s.thm.step < 2 ∧ (s.map.sbs.map (·.number)).Nodup ∧
    (∃ x ∈ s.map.sbs, x.number ∉ s.intg.patrolled) ∧
    (∃ n ∈ ({ s.intg with visit := [32] } : Integrity).visit, ∃ x ∈ s.map.sbs, x.number = n) ∧
    memberOut s (block 0 .closed) = false ∧
    memberOut { s with st := { s.st with fenced := [(dieUnit 0, 0)] } } (block 0 .closed) = true := by decide +kernel
/-- A DRAM channel in use. -/
def dramCh : DramChannel := { DramChannel.reset with state := .active }
def draming (c : DramChannel) (s : State) : State :=
  { s with dram := { s.dram with channels := (List.replicate 16 dramCh).set 3 c } }
/-- DramChannels: a channel active, in self-refresh in P2, under re-centring; a write to lose, a row under test. -/
theorem met_dram : let s := draming dramCh (placed [accepted none false] [])
    s.dram.channels.length = 16 ∧ dramOf s 3 = dramCh ∧ (dramOf s 3).state = .active ∧ s.pwr.state ≠ 2 ∧
    (s.ord.accepted.find? fun w => w.seq == 7 && !w.programmed && decide (0 < w.units.length)) = some (accepted none false) ∧
    5 ∉ s.map.mapLost ∧ s.map.mapLost.length < 4096 ∧ underTest s (dramUnit 3) = false := by decide +kernel
theorem met_dram_asleep :
    let s := draming { dramCh with state := .selfRefresh } { up with pwr := { up.pwr with state := 2 } }
    s.pwr.state = 2 ∧ (dramOf s 3).state = .selfRefresh ∧ (dramOf s 4).state = .active ∧
    ¬((dramOf s 3).state = .active ∨ (dramOf s 3).state = .recentring) := by decide +kernel
def dramTest (joined : Bool) : UnitTest := ⟨dramUnit 3, 0x0702, false, none, false, joined, none⟩
theorem met_row_test : let c := { dramCh with testing := [(1, 2, 9)] }
    let s := draming c { up with st := { up.st with running := [dramTest false] } }
    (1, 2, 9) ∈ (dramOf s 3).testing ∧ (∀ x ∈ s.st.waiting, x.unit ≠ dramUnit 3) ∧ (0, 2, 9) ∉ (dramOf s 3).testing ∧
    ¬(∃ x ∈ s.st.running, x.unit = dramUnit 3 ∧ x.joined = true) ∧
    recentTransients { s with st := { s.st with running := [] } } (dramUnit 3) < 2 ∧ c.remaps.length < 64 ∧
    64 ≤ ({ c with remaps := List.replicate 64 (0, 0, 0, 0) } : DramChannel).remaps.length ∧
    (∃ x ∈ [dramTest true], x.unit = dramUnit 3 ∧ x.joined = true) := by decide +kernel
theorem met_drift : (8 : Int).natAbs = 8 ∧ (7 : Int).natAbs < 8 ∧ 20 ≤ ((60 : Int) - 40).natAbs ∧
    ((59 : Int) - 40).natAbs < 20 ∧ 3 ≤ (-3 : Int).natAbs ∧ (2 : Int).natAbs < 3 ∧
    ({ dramCh with state := .recentring, slices := 62 } : DramChannel).slices < 63 ∧
    63 ≤ ({ dramCh with state := .recentring, slices := 63 } : DramChannel).slices ∧ 29 ≤ min 29 40 ∧
        min 25 40 < 26 := by
  decide +kernel

/-- DramScheduling, and the slots of DramChannels: a queued read that may go, one behind a refresh, none. -/
def hubRead : DramRequest := ⟨1, 2, 9, 4, .bufferRead 7 0⟩
def queued (ns : Nat) : DramChannel := { dramCh with queues := dramCh.queues.set (bankTurn 1 2) [⟨hubRead, ns⟩] }
theorem met_slot : (queued 5000).queues.length = 32 ∧ (queued 5000).rows.length = 32 ∧
    (pickRequest (queued 5000) false).map (fun x => (x.1, x.2.1)) = some (bankTurn 1 2, 0) ∧
        pickRequest dramCh false = none ∧
    pickRequest { queued 0 with rank1 := { dramCh.rank1 with blocked := 1 } } false = none ∧
    ((queued 0).queues.getD (bankTurn 1 2) [])[0]? = some ⟨hubRead, 0⟩ ∧ writesWhole hubRead.requester = false ∧
    requestClass .captureWriter = 0 := by decide +kernel
theorem met_open_row : let c := { queued 0 with rows := dramCh.rows.set (bankTurn 1 2) (some (9, 31)) }
    c.rows[bankTurn 1 2]? = some (some (hubRead.row, 31)) ∧
    (pickRequest { c with rank1 := { c.rank1 with activates := [0, 0, 0, 0] } } false).isSome = true :=
        by decide +kernel
theorem met_refresh : (rankOf dramCh 0).pending = 0 ∧ rankQueued (queued 0) 1 true = false ∧
    rankQueued (queued 0) 1 false = true ∧
        0 < (rankOf { dramCh with rank1 := { dramCh.rank1 with blocked := 1 } } (1 - 0)).blocked ∧
    ({ dramCh.rank0 with pending := 8 } : DramRank).pending = 8 ∧
        ({ up.dram with fifo := 131073 } : Dram).fifo > 131072 := by
  decide +kernel
/-- A pass window of 29 taps at 8,533 MT/s is wide enough, one of 25 at 9,600 MT/s is not. -/
theorem met_slices : laneWindow 33 (sweep 29) = 29 ∧ laneWindow 33 (sweep 25) < 26 := by decide +kernel

/-- SramProtection: blocks of the scratch bank, of a bank held elsewhere and of a Mace table; a region under test. -/
def scratchBlock : SramBlock := encodeBlock 0x70 3 5
theorem met_sram : let s : State := { up with sram := { up.sram with blocks := [scratchBlock] } }
    (s.life.phase = .service ∧ s.life.fwStart = true ∧ s.pwr.state ≤ 2) ∧ 3 < bankBytes 0x70 / 64 ∧
        0 < bankBytes 0x01 / 64 ∧
    findBlock s 0x70 3 = some scratchBlock ∧ findBlock s 0x70 4 = none ∧ gridCheck scratchBlock = .intact ∧
    gridCheck (flipAt 520 scratchBlock) = .corrected 520 ∧
    gridCheck (flipAt 1 (flipAt 0 scratchBlock)) = .uncorrectable 0 2 ∧
    ((scratchBlock.bank = 0x70 ∧ scratchBlock.block = 3) ∧ scratchBlock.poison = false) ∧ bankBytes 0x70 / 64 ≤ 64 := by
  decide +kernel
theorem met_region : let s : State := { up with sram := { up.sram with tests := [⟨0x70, 1⟩] } }
    ⟨0x70, 1⟩ ∈ s.sram.tests ∧ (⟨0x70, 2⟩ : RegionTest) ∉ s.sram.tests ∧ (∀ x ∈ s.st.waiting, x.unit ≠ bankUnit 0x70) ∧
    bankSparesUsed s 0x70 < 1 ∧
    bankSparesUsed { s with sram := { s.sram with spares := [(0x70, 1)] } } 0x70 = 1 ∧
        recentTransients s (bankUnit 0x70) < 2 := by
  decide +kernel
theorem met_flip_arm : ((584 + 1024 : Nat) % 1024 ≤ 584) ∧ (BitVec.ofNat 32 (584 + 1024)).getLsbD 10 = true ∧
    ¬((585 : Nat) % 1024 ≤ 584) ∧ diagnostic (wakeByAccess up) = false := by decide +kernel

/-- FlashOperations: an operation that runs, suspended, and the last pair of a flag row; a sector to erase again. -/
def norOp (suspended : Bool) : NorOp := ⟨.erase, 40, suspended, 0, 0⟩
def norBusy (o : Option NorOp) : State := { up with nor := { up.nor with opA := o } }
theorem met_nor : bankOp (norBusy (some (norOp false))) false = some (norOp false) ∧
    bankOp (norBusy (some (norOp true))) false = some (norOp true) ∧ bankOp (norBusy none) false = none ∧
    (norBusy none).life.phase = .service ∧ (norBusy none).life.captureReady = true ∧
    ({ norOp false with suspends := 63 } : NorOp).suspends ≠ 0 ∧
    ([40, 41].filter (· != 40)).find? (fun n => inBankB n == false || (bankOp (norBusy (some (norOp false))) (inBankB n)).isNone)
      = some 41 := by decide +kernel
theorem met_flags : let f := (programStart (flagsOf up 40)).1
    let s : State := putFlags f up
    currentRow (flagsOf s 40) = some 0 ∧ (rowOfFlags (flagsOf s 40) 0).length = 18 ∧
    lastPair (rowOfFlags (flagsOf s 40) 0) = some 0 := by decide +kernel

/-- UnitTests: what SELF_TEST, UNIT_READMIT and UNIT_STATUS find, and each way a test may end. -/
def unitAsk (op : Nat) (u : UnitId) : State := asking op (leBytes 2 u.toNat ++ [0, 0])
theorem met_unit_tests : Asked 3 0x0090 (unitAsk 0x0090 (dieUnit 0)) ∧ Asked 3 0x0092 (unitAsk 0x0092 (dieUnit 0)) ∧
    Asked 3 0x0091 (unitAsk 0x0091 (dieUnit 0)) :=
  ⟨asked_of (by decide +kernel), asked_of (by decide +kernel), asked_of (by decide +kernel)⟩
theorem met_unit_cases : let s := unitAsk 0x0090 (dieUnit 0)
    BitVec.ofNat 16 (reqField s 3 8 2) = dieUnit 0 ∧ freeSlots s ≠ [] ∧ unitClass (dieUnit 0) = 3 ∧
    (let t := withHandle { handle 0x0090 true with subject := (dieUnit 0).toNat } s
      ∃ h ∈ t.hnd.live, (h.opcode = 0x0090 ∨ h.opcode = 0x0092) ∧ h.subject = (dieUnit 0).toNat ∧
          completing t h.value = false) ∧
    unitClass (sectorUnit 1) = 9 ∧
        executeOnly { up with nor := { up.nor with boot0Valid := true }, reg := { up.reg with bootCopy := 0 } } 1 = true ∧ executeOnly up 16 = false ∧
    (let t : State := { s with st := { s.st with fenced := [(dieUnit 0, 4)] } }; ∃ f ∈ t.st.fenced, f.1 = dieUnit 0) ∧
    findDie (working die0) (unitIndex (dieUnit 0)) = some die0 ∧ unitClass (channelUnit 3) = 2 := by decide +kernel
def unitTest (demanded readmit : Bool) (h : Option (BitVec 32)) : UnitTest :=
    ⟨dieUnit 0, 0x0502, demanded, h, readmit, false, none⟩
def testing (t : UnitTest) : State := { working die0 with st := { up.st with running := [t] } }
theorem met_test_end : (∀ x ∈ [unitTest false false none, unitTest true false (some 0x105),
    unitTest true true (some 0x105)],
      ((testing x).st.running.find? fun y => y.unit == dieUnit 0) = some x) ∧ up.st.running = [] ∧
    (testing (unitTest false false none)).life.stop = none ∧ (∀ y ∈ up.st.waiting, y.unit ≠ dieUnit 0) ∧
    recentTransients (testing (unitTest false false none)) (dieUnit 0) < 2 ∧ unitClass (dramUnit 3) = 4 ∧
        unitClass (bankUnit 3) = 7 := by decide +kernel
/-- An event, its record, a FIFO that holds some. -/
def event : Event := ⟨0x0801, 2, 0, 0, 0, false, 0⟩
def recording (n : Nat) : State := { up with evr := { up.evr with fifo := List.replicate n event } }
/-- EventRecorder: an event with a token and without, a FIFO with room, full, and to drain; a poisoned slot. -/
theorem met_events : (bucketOf up.evr 0x0801).tokens = 64 ∧ severityOf 0x0801 < 5 ∧
    (bucketOf { up.evr with buckets := [⟨0x0801, 0, 16, 64, 0⟩] } 0x0801).tokens = 0 ∧
        (recording 64).evr.fifo.length = 64 ∧
    (recording 1).evr.fifo = [event] ∧ (recording 1).evr.mode ≠ .lastWords ∧ (recording 1).evr.overflowDue = none ∧
    armed (recording 1) 0x60 = false ∧ findBlock (recording 1) 0x60 0 = none ∧ (recording 1).life.phase = .service ∧
    State.reset.life.phase = .inReset := by decide +kernel
theorem met_poisoned : let s := recording 1
    let t : State := { s with sram := { s.sram with blocks := [{ encodeBlock 0x60 0 0 with poison := true }] } }
    slotPoisoned t 0x60 0 = true ∧ poisonedIn t 0x60 ≤ 64 ∧ t.evr.overflowDue = none := by decide +kernel
def kept : Record := ⟨0, event, 0, false, false⟩
theorem met_copies : let s : State := { up with evr := { up.evr with ring := [kept], next := 1 } }
    serving s = true ∧ serving State.reset = false ∧ tier0 s = [kept] ∧ s.evr.log.length + (tier0 s).length ≤ 131072 ∧
    atOrAfter kept.seq s.evr.copied = true ∧ 2 ≤ kept.event.severity ∧ s.life.captureReady = true ∧
    (((tier0 s).reverse.filter fun x => atOrAfter x.seq s.evr.paged && decide (1 ≤ x.event.severity)).take 512).getLast? =
      some kept := by decide +kernel
/-- … requests for records, rates and counters. -/
theorem met_event_reads : Asked 3 0x0081 (asking 0x0081 (leBytes 2 0xFFFF ++ leBytes 2 1 ++ leBytes 2 1 ++ [0, 0])) ∧
    Asked 3 0x00C0 (asking 0x00C0 []) ∧
    waitsFor (asking 0x0080 (leBytes 4 0 ++ [7, 1, 0, 0])) 3 0x0080 = true ∧
    serving (asking 0x0080 (leBytes 4 0 ++ [7, 1, 0, 0])) = true :=
  ⟨asked_of (by decide +kernel), asked_of (by decide +kernel), by decide +kernel, by decide +kernel⟩

/-- MediaKeys: a namespace that holds data and one that does not, numbers left and used up, handles to complete. -/
def keyed (op : Nat) (bytes : List Byte) (next : Nat) : State :=
  let s := spaced (asking op bytes)
  { s with sec := { s.sec with drbgOn := true }, ord := { s.ord with next := next, top := 100 } }
theorem met_keys : Asked 3 0x0070 (keyed 0x0070 [1, 0, 0, 0] 5) ∧ Asked 3 0x0071 (keyed 0x0071 [1, 0, 0, 0] 5) :=
  ⟨asked_of (by decide +kernel), asked_of (by decide +kernel)⟩
theorem met_key_cases : let s := keyed 0x0070 [1, 0, 0, 0] 5
    findNs s (reqField s 3 8 1) = some nspace ∧ findNs s 2 = none ∧ s.sec.drbgOn = true ∧ s.ord.next ≤ s.ord.top ∧
    (keyed 0x0070 [1, 0, 0, 0] 101).ord.top < 101 ∧ freeSlots s ≠ [] ∧ liveOp s 0x0070 = none ∧
    (∀ e ∈ s.map.segments, e.mapped = false) ∧ s.ord.accepted = [] ∧ s.str.list = [] ∧
    (let t : State := { s with map := { s.map with segments := [⟨0, 0, 0, true, false, false, 0, 3⟩] } };
      (∃ e ∈ t.map.segments, e.seg < 8 ∧ e.mapped = true) ∧ reqField t 3 9 1 % 2 = 0) := by decide +kernel
/-- A key command that is live, before and after its cancel point, with numbers left and used up. -/
def keying (op : BitVec 16) (past : Bool) (next : Nat) : State :=
  withHandle { handle op past with subject := 1, aux := 1 } (keyed 0x0001 [] next)
theorem met_key_steps : let h (op : BitVec 16) (past : Bool) : Handle := { handle op past with subject := 1, aux := 1 }
    liveOp (keying 0x0070 false 5) 0x0070 = some (h 0x0070 false) ∧
        liveOp (keying 0x0071 true 5) 0x0071 = some (h 0x0071 true) ∧
    serving (keying 0x0070 false 5) = true ∧ (keying 0x0070 false 5).sec.drbgOn = true ∧
    (keying 0x0070 false 100).ord.next ≤ (keying 0x0070 false 100).ord.top ∧ (keying 0x0070 false 101).ord.top < 101 ∧
    findNs (keying 0x0070 false 5) 1 = some nspace ∧ ((keying 0x0071 false 5).nv.namespaces.map (·.id)).Nodup ∧
    (keying 0x0071 false 101).ord.top + 1 < 101 + 1 ∧ (keying 0x0071 false 100).ord.next + 1 ≤ 101 ∧
    (∃ x, Slot.seqBlock x ∈ ({ up.map with pendingSlots := [.seqBlock 9] } : Translation).pendingSlots) ∧
        up.map.pendingSlots = [] :=
  by refine ⟨?_, ?_, ?_, ?_, ?_, ?_, ?_, ?_, ?_, ?_, ⟨9, List.mem_singleton.mpr rfl⟩, rfl⟩ <;> decide +kernel
theorem met_keys_done : liveOp (withHandle (handle 0x0070 true) up) 0x0070 = some (handle 0x0070 true) ∧
    liveOp (withHandle (handle 0x0071 true) up) 0x0071 = some (handle 0x0071 true) ∧
    serving (withHandle (handle 0x0070 true) up) = true ∧ liveOp up 0x0070 = none := by decide +kernel

/-- SecureDiscards: a range that fits, one that meets a window; a discard whose record is in the map. -/
theorem met_discard : Asked 3 0x0072 (spaced (asking 0x0072 ([1, 0, 0, 0] ++ leBytes 8 2047 ++ leBytes 8 1))) :=
  asked_of (by decide +kernel)
theorem met_discard_cases : let s := spaced (asking 0x0072 ([1, 0, 0, 0] ++ leBytes 8 2047 ++ leBytes 8 1))
    findNs s (reqField s 3 8 1) = some nspace ∧ reqField s 3 12 8 + reqField s 3 20 8 ≤ nspace.size * 256 ∧
    ¬(2047 + 2 ≤ nspace.size * 256) ∧ freeSlots s ≠ [] ∧ liveOp s 0x0072 = none ∧
    (∃ x ∈ (streaming (stream .open_) s).str.list, x.state ≠ .closed ∧ x.ns = 1 ∧
      ∃ w ∈ x.dataWindows ++ x.indexWindows, 511 < w.start + w.length ∧ w.start < 511 + 1) := by decide +kernel
/-- A discard whose copies may still lie in a superblock, folded and not. -/
def discarding (folded : Bool) (sbs : List Superblock) : State :=
  let s := placed [] sbs
  { s with sec := { s.sec with discards := [⟨9, 1, 0, 8, 0x105, folded, 0, 0⟩] } }
theorem met_discarding : let d : Discard := ⟨9, 1, 0, 8, 0x105, true, 0, 0⟩
    let b := { block 0 .closed with units := [oldUnit] }
    let s := discarding true [b]
    s.sec.discards = d :: [] ∧ serving s = true ∧ s.life.mapReady = true ∧ s.ord.accepted = [] ∧
        s.ord.next ≤ s.ord.top + 1 ∧
    s.map.sbs = [b] ∧ b.retireDie = none ∧
    (∃ x ∈ b.units, x.kind ≠ .pad ∧ x.kind ≠ .summary ∧ x.ns = d.ns ∧ d.lba ≤ x.lba ∧ x.lba < d.lba + d.len ∧
        x.seq < d.seq) ∧
    validUnits s b = [] ∧
    (let u : State := { s with map := { s.map with
      segments := [⟨0, 0, 0, false, true, false, 1, 3⟩], overlay := [⟨1, 0, 0, 0, 5, false, 3⟩] } };
          validUnits u b ≠ []) ∧
    (let u : State := { s with ord := { s.ord with accepted := [{ accepted none false with seq := 9, kind := .secureDiscard }] } };
      ∃ w ∈ u.ord.accepted, w.seq = d.seq ∧ w.applied = false) := by decide +kernel
theorem met_discard_fold : let d : Discard := ⟨9, 1, 0, 8, 0x105, false, 0, 0⟩
    let s := discarding false []
    let t : State := { s with map := { s.map with segments := [⟨0, 7, 0, true, false, false, 0, 3⟩] } }
    s.sec.discards = d :: [] ∧ d.folded = false ∧ discardClear t d = true ∧ (discardSegments t d).length = 1 ∧
    t.ord.next + (discardSegments t d).length ≤ t.ord.top + 1 ∧ (foldDiscard d s).isSome = true ∧
        foldDiscard d t = none ∧
    discardClear { t with ord := { t.ord with accepted := [accepted none false] } } d = false := by decide +kernel

/-- FirmwareImages: each slot to stage, an image that passes and one that does not, a slot to activate. -/
def provisioning (action signature : Nat) : FwImage :=
  ⟨packBytes [(4, 0x56584657), (2, 384), (1, 2), (1, 0), (4, 1), (4, 4096), (40, 0)] ++ imageKey ++
    List.replicate 192 0 ++ [BitVec.ofNat 8 action] ++ List.replicate 3559 0 ++ beBytes 96 signature ++ List.replicate 96 0⟩
def grantRecord : FwImage := provisioning 1
  393441151568284337147830360431643968811716206609063941905155706821813317796952205189526897172233865093496488612981413663881924344496974966240514753792813204621781155152502451270417057996787782521319986835132943275584781135173057574
def revokeRecord : FwImage := provisioning 2
  1073096522834289315557882541184602622613858935531084257344438232223507968413769301163603430469195492703915245168495527030330676703628338156593274006030846029441843976315952496348242379548662776519401137714731714264377607710466715848
def stageAsk (op slot : Nat) : State :=
  let s := asking op (leBytes 1 slot ++ [0, 0, 0] ++ leBytes 8 0 ++ leBytes 4 4096)
  { s with nor := { made.nor with slot := 1, slotA := none, slotB := some slotImage1 } }
theorem met_stage : let s := stageAsk 0x00A0 2
    waitsFor s 3 0x00A0 = true ∧ serving s = true ∧ s.mbx.box.length = 16 ∧ reqField s 3 8 1 = 2 ∧ s.nor.slot = 1 ∧
    freeSlots s ≠ [] ∧ imageLive s = false ∧ bankOp s true = none ∧ isFenced s (sectorUnit 512) = false ∧
    reqField (stageAsk 0x00A0 3) 3 8 1 = 3 ∧ reqField (stageAsk 0x00A0 1) 3 8 1 = 1 ∧
    imageLive (withHandle (handle 0x00A1 true) s) = true := by decide +kernel
/-- An image that passes, one whose key was changed, one of another type. -/
theorem met_image_sound : imageFault (stageAsk 0x00A0 2) slotImage1 = none :=
  (imageFault_of (t := made) slotImage1 rfl).trans ((slotFault_of (s := made) (k := 1) rfl).symm.trans met_slot_image)
theorem met_image_bad : imageFault (stageAsk 0x00A0 2) ⟨slotImage1.bytes.set 56 1⟩ = some 2 := by decide +kernel
theorem boot_type : bootImage1.type = 1 := by decide +kernel
theorem bootFault_of : bootFault made 0 = imageFault made bootImage1 := by
  rw [bootFault, show bootImage made 0 = some bootImage1 from rfl]
  simp only [boot_type, if_true]
theorem met_boot_sound : imageFault (stageAsk 0x00A0 2) bootImage1 = none :=
  (imageFault_of (t := made) bootImage1 rfl).trans (bootFault_of.symm.trans met_boot_image)
theorem met_stage_done : let s := withHandle (handle 0x00A0 false) (stageAsk 0x00A0 2)
    let t : State := { s with sec := { s.sec with staging := some 2 } }
    t.sec.staging = some 2 ∧ liveOp t 0x00A0 = some (handle 0x00A0 false) ∧ bootImage1.type = 1 ∧
    bootImage1.length ≤ 524288 ∧ slotImage1.type = 0 ∧ slotImage1.length = 4096 := by decide +kernel
theorem met_activate : let s := stageAsk 0x00A1 2
    waitsFor s 3 0x00A1 = true ∧ slotImage s 1 = none ∧ s.nor.otp.integrator = false ∧
    liveOp s 0x0021 = none ∧ liveOp s 0x0090 = none ∧ s.life.phase = .service ∧ grantRecord.type = 2 ∧
    grantRecord.provision = 1 ∧ revokeRecord.type = 2 ∧ revokeRecord.provision = 2 := by decide +kernel
theorem met_activate_image : slotImage (stageAsk 0x00A1 2) 2 = some slotImage1 := rfl
theorem met_provisioning : imageFault (stageAsk 0x00A1 2) grantRecord = none ∧
    imageFault (stageAsk 0x00A1 2) revokeRecord = none := by decide +kernel

/-- DebugPortAccess: a token that answers the challenge, one that does not, a port that is locked. -/
def tokenBytes : List Byte := leBytes 4 0x444B544E ++ leBytes 2 1 ++ [0,
    0] ++ leBytes 16 0 ++ [0] ++ List.replicate 23 0
def tokenSignature : List Byte := beBytes 96
  1462142932723766920065873708275769197966886076711526602416555510529820190733172737665094272875291866455713227888084352409350249101296712580931719465277473826347776432577310258501310090397475469183353825750228091330865636029736370618
def unlockAsk : State :=
  let s := asking 0x00B1 (leBytes 4 0 ++ tokenBytes ++ tokenSignature)
  { s with
    nor := { made.nor with otp := { made.nor.otp with uid := 0 } }
    sec := { s.sec with drbgOn := true, image := some slotImage1, port := .field, challenge := some (5, 0) } }
theorem met_debug : Asked 3 0x00B0 (asking 0x00B0 []) ∧ Asked 3 0x00B1 unlockAsk :=
  ⟨asked_of (by decide +kernel), asked_of (by decide +kernel)⟩
theorem met_debug_token : let t (o n : Nat) : Nat := reqField unlockAsk 3 (12 + o) n
    t 0 4 = 0x444B544E ∧ t 4 2 = 1 ∧ t 6 1 ≤ 1 ∧ t 7 1 = 0 ∧ t 8 16 = unlockAsk.nor.otp.uid.toNat ∧
    t 24 1 = unlockAsk.nor.otp.debugOpen ∧ t 25 23 = 0 ∧ unlockAsk.sec.challenge = some (5, 0) ∧
    unlockAsk.clk.us ≤ 0 + 60000000 ∧ unlockAsk.sec.port = .field ∧ unlockAsk.str.list = [] ∧
        unlockAsk.nv.sanitize = .none ∧
    unlockAsk.nv.namespaces = [] ∧ freeSlots unlockAsk ≠ [] ∧ up.sec.drbgOn = false := by decide +kernel
theorem met_token_signed : runningKey unlockAsk 0 = some imageKey ∧ signatureVerifies imageKey
    (leBytes 48 (reqField unlockAsk 3 12 48) ++ leBytes 32 5) (leBytes 96 (reqField unlockAsk 3 60 96)) = true := by
  decide +kernel
theorem met_debug_done : let h := { handle 0x00B1 false with aux := 1 }
    let s := withHandle h (keyed 0x0001 [] 5)
    liveOp s 0x00B1 = some h ∧ serving s = true ∧ s.ord.next + s.nv.namespaces.length ≤ s.ord.top + 1 ∧
    (keyed 0x0001 [] 101).ord.top + 1 < 101 + (keyed 0x0001 [] 101).nv.namespaces.length ∧
    32 ≤ ({ up.nor.otp with debugOpen := 32 } : Otp).debugOpen ∧
        2 ^ 20 ≤ { s.sec with drbgRequests := 1048576 }.drbgRequests := by
  decide +kernel
/-- GridCode: blocks of each kind, none poisoned. -/
theorem met_grid : let s : State := { up with sram := { up.sram with blocks := [flipAt 584 scratchBlock] } }
    findBlock s 0x70 3 = some (flipAt 584 scratchBlock) ∧ scratchBlock.poison = false ∧
    gridCheck (flipAt 584 scratchBlock) = .corrected 584 ∧
    gridCheck (flipAt 583 (flipAt 584 scratchBlock)) = .uncorrectable 0 2 := by decide +kernel

/-! ## Worked examples of the manual, and published vectors -/

/-- A mapped unit of a read that lies in flash (NvmeReads). -/
theorem met_find_flash : let s := awaited (accepted none false)
    let t : State := { s with map := { s.map with
      sbs := [block 5 .closed], segments := [⟨segIndex nspace 256, 5, 0, true, false, false, 0, 3⟩] } }
    findUnit t 1 1 257 = .flash 5 1 ∧ findSb t 5 = some (block 5 .closed) := by decide +kernel

/-- The unit ID of superblock 70,000 (example of R13). -/
theorem test_unit_id : unitId 0xA 70000 = 0xA170 := by decide
/-- Superblock 70,000 and its unit offset 500,000 (example of R171). -/
theorem test_superblock : let b := block 70000 .closed
    positionOf 70000 = 2187 ∧ groupOf 70000 = 16 ∧ parityChannel b = 27 ∧ rowOf b 500000 = 336 ∧
    pageOf b 500000 = 2 ∧ planeOf b 500000 = 0 ∧ codewordOf b 500000 = 0 ∧ channelOf b 500000 = 28 := by decide +kernel
/-- The hash of unit 0 of overlay segment 0x1234 (example of R174). -/
theorem test_overlay_hash : overlayHash 0x1234 0 = 0xD329F400 := by decide +kernel
/-- 40 days, 52 °C and 31 °C, half the endurance (example of R238). -/
theorem test_table_index :
    tableIndex (ageBin (40 * 86400)) (tempBin 52) (tempBin 31) (wearBin 1500 3000) = 2180 := by decide +kernel
/-- A row of each kind of ball, with the counts of ground and core balls (R425 to R429). -/
theorem test_balls : rowIndex "AK" = 29 ∧ ballAt (rowIndex "AK") 3 = .nand 11 "DQ" (some 2) ∧
    ballAt (rowIndex "AK") 58 = .nand 27 "DQ" (some 2) ∧ ballAt (rowIndex "BK") 20 = .dram 5 "DQ" (some 3) ∧
    ballAt (rowIndex "BC") 47 = .vss := by decide +kernel

/-- SHA-384 of "abc" (FIPS 180-4, the example of its publisher). -/
theorem test_sha384 : beNat (sha384 [0x61, 0x62, 0x63]) =
    0xcb00753f45a35e8bb5a03d699ac65007272c32ab0eded1631a8b605a43ff5bed8086072ba1e7cc2358baeca134c825a7 :=
        by decide +kernel
/-- The AES-256 example of FIPS 197, appendix C.3. -/
theorem test_aes : aesEncrypt 0x000102030405060708090a0b0c0d0e0f101112131415161718191a1b1c1d1e1f
    0x00112233445566778899aabbccddeeff = 0x8ea2b7ca516745bfeafc49904b496089 := by decide +kernel
end Sys2Proof.Tests
end

section
/-! Proofs about the mailboxes' ownership and status reads (O8) and what register reads return and clear (O15). -/

namespace Sys2Proof.Proofs

open Sys2Proof Sys2Proof.Machine Sys2Proof.Safety Sys2Proof.Laws

/-! ## Bytes and bit fields -/

theorem leNat_append (xs ys : List Byte) : leNat (xs ++ ys) = leNat xs + 256 ^ xs.length * leNat ys := by
  induction xs with
  | nil => simp [leNat]
  | cons x xs ih =>
    simp only [List.cons_append, leNat, ih, List.length_cons, pow_succ]
    ring

theorem leNat_leBytes (k n : Nat) : leNat (leBytes k n) = n % 256 ^ k := by
  induction k generalizing n with
  | zero => simp [leBytes, leNat, Nat.mod_one]
  | succ k ih =>
    have h : n % 256 ^ (k + 1) = n % 256 + 256 * (n / 256 % 256 ^ k) := by rw [pow_succ', Nat.mod_mul]
    simp [leBytes, leNat, ih, h]

theorem packBits_lt (fs : List (Nat × Nat)) : packBits fs < 2 ^ (fs.map (·.1)).sum := by
  induction fs with
  | nil => simp [packBits]
  | cons f fs ih =>
    obtain ⟨w, v⟩ := f
    have hv : v % 2 ^ w < 2 ^ w := Nat.mod_lt _ (by positivity)
    simp only [packBits, List.map_cons, List.sum_cons, pow_add]
    calc v % 2 ^ w + 2 ^ w * packBits fs < 2 ^ w * (packBits fs + 1) := by rw [mul_add]; omega
      _ ≤ 2 ^ w * 2 ^ (fs.map (·.1)).sum := Nat.mul_le_mul_left _ ih

theorem mbxStatus_lt (b : Mbx) : mbxStatus b < 2 ^ 32 := packBits_lt _

/-- The bytes at an aligned offset of a space of 32-bit words are those of its word there (R8). -/
theorem map_range_word (f : Nat → Nat) (o : Nat) (h : o % 4 = 0) :
    ((List.range 4).map fun i => BitVec.ofNat 8 (f ((o + i) / 4 * 4) / 2 ^ (8 * ((o + i) % 4)))) = leBytes 4 (f o) := by
  have hw (i : Nat) (hi : i < 4) : (o + i) / 4 * 4 = o ∧ (o + i) % 4 = i := by omega
  simp only [List.range_succ, List.range_zero, List.nil_append, List.map_cons, List.map_nil,
    List.cons_append, hw, leBytes, Nat.reduceLT]
  simp [Nat.div_div_eq_div_mul]

/-! ## Mailboxes -/

/-- Mailbox `m`'s registers replaced. -/
def withBox (m : Nat) (x : Mbx) (s : State) : State := { s with mbx := { s.mbx with box := s.mbx.box.set m x } }

theorem updateBox_eq_withBox (m : Nat) (f : Mbx → Mbx) (s : State) : updateBox m f s = withBox m (f (boxOf s m)) s := by
  have h : s.mbx.box.modify m f = s.mbx.box.set m (f (boxOf s m)) := by
    ext1 i
    rw [List.getElem?_modify, List.getElem?_set]
    by_cases e : m = i
    · subst e
      by_cases hl : m < s.mbx.box.length <;> simp [hl, boxOf]
    · simp [e]
  rw [updateBox, h, withBox]

/-- A mailbox after path `q` has read its DONE, which counts for the owner alone. -/
def doneRead (x : Mbx) (q : Path) : Mbx := { x with unreadDone := x.unreadDone && x.owner != some q }

theorem wakeByAccess_phase (s : State) : (wakeByAccess s).life.phase = s.life.phase := by
  rw [(wakeByAccess_keep s).life rfl]

/-! ## Notices (R135) -/

/-- `more` holds vector `v`'s message as `s` sends it, or the vector is pending in `t` where it is masked (R91). -/
def VectorSent (v : Nat) (s t : State) (more : List Out) : Prop :=
  (s.nv.msiEnabled = true → .msi s.nv.msiAddress s.nv.msiData ∈ more) ∧
  (s.nv.msiEnabled = false → s.nv.msixEnabled = true →
    if s.nv.msixMasked = true ∨ vectorMasked s v = true then v ∈ t.nv.pba else .msix v ∈ more)

theorem interrupt_sent (v : Nat) (s : State) :
    ∃ more, (interrupt v s).out = more ++ s.out ∧ VectorSent v s (interrupt v s) more := by
  unfold interrupt
  split
  next hmsi => exact ⟨[.msi s.nv.msiAddress s.nv.msiData], rfl, by simp [VectorSent, hmsi]⟩
  next hmsi =>
    split
    next hoff => exact ⟨[], rfl, by simp [VectorSent, hmsi, hoff]⟩
    next hon =>
      split
      next hmask =>
        have hm : s.nv.msixMasked = true ∨ vectorMasked s v = true := by simpa using hmask
        split
        next hp => exact ⟨[], rfl, by simp [hmsi], fun _ _ => by simpa [hm] using hp⟩
        next hp => exact ⟨[], rfl, by simp [hmsi], fun _ _ => by simp [hm]⟩
      next hmask =>
        have hm : ¬ (s.nv.msixMasked = true ∨ vectorMasked s v = true) := by simpa using hmask
        exact ⟨[.msix v], rfl, by simp [hmsi], fun _ _ => by simp [hm]⟩

/-- With MSI-X armed, one message goes out or is left pending if something is unread. -/
theorem msixNotify_sent (s : State) (h : s.mbx.msixArmed = true) :
    ∃ more, (msixNotify s).out = more ++ s.out ∧ (msixNotify s).mbx.msixArmed = !pcieUnread s ∧
      (pcieUnread s = true → VectorSent s.crg.vector s (msixNotify s) more) := by
  cases hu : pcieUnread s with
  | false =>
    have hquiet : msixNotify s = s := by simp [msixNotify, hu]
    rw [hquiet]
    exact ⟨[], rfl, h, nofun⟩
  | true =>
    have hdue : msixNotify s = interrupt s.crg.vector { s with mbx := { s.mbx with msixArmed := false } } := by
      simp [msixNotify, h, hu]
    obtain ⟨more, ho, hs⟩ := interrupt_sent s.crg.vector { s with mbx := { s.mbx with msixArmed := false } }
    rw [hdue]
    exact ⟨more, ho, by rw [interrupt_frame]; rfl, fun _ => hs⟩

theorem msixNotify_out (s : State) : ∃ more, (msixNotify s).out = more ++ s.out := by
  unfold msixNotify
  split
  · obtain ⟨more, ho, -⟩ := interrupt_sent s.crg.vector { s with mbx := { s.mbx with msixArmed := false } }
    exact ⟨more, ho⟩
  · exact ⟨[], rfl⟩

theorem ibiNotify_out (s : State) : ∃ more, (ibiNotify s).out = more ++ s.out := by
  unfold ibiNotify
  split
  · exact ⟨[.ibi (ibiByte s)], rfl⟩
  · exact ⟨[], rfl⟩

theorem ibiNotify_nv (s : State) : (ibiNotify s).nv = s.nv := by
  unfold ibiNotify
  split <;> rfl

theorem ibiNotify_msixArmed (s : State) : (ibiNotify s).mbx.msixArmed = s.mbx.msixArmed := by
  unfold ibiNotify
  split <;> rfl

theorem notify_out (s : State) : ∃ more, (notify s).out = more ++ s.out := by
  obtain ⟨a, ha⟩ := msixNotify_out s
  obtain ⟨b, hb⟩ := ibiNotify_out (msixNotify s)
  exact ⟨b ++ a, by rw [notify, hb, ha, List.append_assoc]⟩

theorem VectorSent.append {v : Nat} {s t u : State} {more : List Out} (h : VectorSent v s t more)
    (hu : u.nv = t.nv) (extra : List Out) : VectorSent v s u (extra ++ more) := by
  obtain ⟨hmsi, hmsix⟩ := h
  refine ⟨fun a => List.mem_append_right _ (hmsi a), fun a b => ?_⟩
  have hv := hmsix a b
  by_cases hm : s.nv.msixMasked = true ∨ vectorMasked s v = true
  · rw [if_pos hm] at hv ⊢
    rwa [hu]
  · rw [if_neg hm] at hv ⊢
    exact List.mem_append_right _ hv

/-- With MSI-X armed, both paths' notices leave it armed unless something is unread, and then the message is sent. -/
theorem notify_sent (s : State) (h : s.mbx.msixArmed = true) :
    ∃ more, (notify s).out = more ++ s.out ∧ (notify s).mbx.msixArmed = !pcieUnread s ∧
      (pcieUnread s = true → VectorSent s.crg.vector s (notify s) more) := by
  obtain ⟨a, ho, harm, hs⟩ := msixNotify_sent s h
  obtain ⟨b, hb⟩ := ibiNotify_out (msixNotify s)
  exact ⟨b ++ a, by rw [notify, hb, ho, List.append_assoc], by rw [notify, ibiNotify_msixArmed, harm],
    fun hu => (hs hu).append (ibiNotify_nv _) b⟩

theorem pcieUnread_notify (s : State) : pcieUnread (notify s) = pcieUnread s := by
  rw [notify_frame]
  rfl

/-! ## The read of a DONE (R135) -/

theorem readDone_idle (p : Path) (m : Nat) (s : State) (h : (boxOf s m).state ≠ .done) : readDone p m s = s := by
  simp [readDone, h]

/-- Mailbox `m`'s DONE noted as read and the path's interrupt armed, before the notices go out. -/
def rearmed (p : Path) (m : Nat) (s : State) : State :=
  let t := withBox m (doneRead (boxOf s m) p) s
  match p with
  | .pcie => { t with mbx := { t.mbx with msixArmed := true } }
  | .i3c => { t with mbx := { t.mbx with ibiArmed := true } }

theorem rearmed_box (p : Path) (m : Nat) (s : State) :
    (rearmed p m s).mbx.box = s.mbx.box.set m (doneRead (boxOf s m) p) := by
  cases p <;> rfl

theorem rearmed_out (p : Path) (m : Nat) (s : State) : (rearmed p m s).out = s.out := by
  cases p <;> rfl

theorem readDone_done (p : Path) (m : Nat) (s : State) (h : (boxOf s m).state = .done) :
    readDone p m s = notify (rearmed p m s) := by
  have hr : (if (boxOf s m).owner == some p then { boxOf s m with unreadDone := false } else boxOf s m) =
      doneRead (boxOf s m) p := by
    by_cases ho : (boxOf s m).owner = some p
    · simp [doneRead, ho]
    · have hne : ((boxOf s m).owner != some p) = true := by simpa using ho
      simp [doneRead, ho, hne]
  rw [readDone, if_pos h, updateBox_eq_withBox, hr]
  cases p <;> rfl

theorem readDone_out (p : Path) (m : Nat) (s : State) : ∃ more, (readDone p m s).out = more ++ s.out := by
  by_cases h : (boxOf s m).state = .done
  · rw [readDone_done p m s h, ← rearmed_out p m s]
    exact notify_out _
  · exact ⟨[], by rw [readDone_idle p m s h]; rfl⟩

theorem readDone_box (p : Path) (m : Nat) (s : State) : (readDone p m s).mbx.box =
    if (boxOf s m).state = .done then s.mbx.box.set m (doneRead (boxOf s m) p) else s.mbx.box := by
  by_cases h : (boxOf s m).state = .done
  · rw [readDone_done p m s h, notify_frame, if_pos h]
    exact rearmed_box p m s
  · rw [readDone_idle p m s h, if_neg h]

theorem readDone_frame (p : Path) (m : Nat) (s : State) : readDone p m s = { s with
    mbx := { s.mbx with
      box := (readDone p m s).mbx.box, msixArmed := (readDone p m s).mbx.msixArmed, ibiArmed := (readDone p m s).mbx.ibiArmed }
    nv := { s.nv with pba := (readDone p m s).nv.pba }, out := (readDone p m s).out } := by
  by_cases h : (boxOf s m).state = .done
  · rw [readDone_done p m s h, notify_frame]
    cases p <;> rfl
  · rw [readDone_idle p m s h]

/-- Over PCIe the message goes out again, or is left pending, if something is still unread. -/
theorem readDone_sent (m : Nat) (s : State) (h : (boxOf s m).state = .done) :
    ∃ more, (readDone .pcie m s).out = more ++ s.out ∧
      (readDone .pcie m s).mbx.msixArmed = !pcieUnread (readDone .pcie m s) ∧
      ((readDone .pcie m s).mbx.msixArmed = false → VectorSent s.crg.vector s (readDone .pcie m s) more) := by
  rw [readDone_done _ m s h, pcieUnread_notify]
  obtain ⟨more, ho, harm, hs⟩ := notify_sent (rearmed .pcie m s) rfl
  exact ⟨more, ho, harm, fun ha => hs (by simpa [ha] using harm.symm)⟩

/-! ## Reads of the device register space (R8, R412) -/

theorem drsRead_service (p : ReadPort) (s : State) (o : Nat) (h : s.life.phase = .service) :
    drsRead p s o = some (drsWord p s o) := by
  simp [drsRead, h]

theorem readWord_plain (p : ReadPort) (o : Nat) (s : State) (h : ¬ (0x231000 ≤ o ∧ o < 0x232000)) :
    readWord p o s = (s, (drsRead p s o).getD 0) := by
  have : ¬ (0x231000 ≤ o ∧ o < 0x232000 ∧ s.life.phase = .service) := fun ⟨a, b, _⟩ => h ⟨a, b⟩
  rw [readWord, if_neg this]

/-- The state in which the register at `o` has been answered with `value`. -/
def answeredRead (o : Nat) (value : Word64) (s : State) : State := drawn (emit (.regRead o value) s)

/-- An aligned 32-bit read in service: the word, then the read's effects. -/
theorem readDrs_word (p : ReadPort) (o : Nat) (s : State) (hs : s.life.phase = .service) (hp : portReaches p s = true)
    (h4 : o % 4 = 0) (hw : ¬ (0x231000 ≤ o ∧ o < 0x232000)) :
    readDrs p o 4 s = readEffects p o (answeredRead o (BitVec.ofNat 64 (drsWord p s o % 2 ^ 32)) s) := by
  have ho : o / 4 * 4 = o := by omega
  have hv : readAddressed p o 4 s = (s, leBytes 4 (drsWord p s o)) := by
    simp [readAddressed, h4, ho, readWords, readWord_plain p o s hw, drsRead_service p s o hs,
      List.take_of_length_le (leBytes_length 4 _).le]
  simp [readDrs, hp, ho, h4, hv, drsRead_service p s o hs, leNat_leBytes, answeredRead]

/-- A 64-bit read below the scratch window answers a value and has no effect. -/
theorem readDrs_double (p : ReadPort) (o : Nat) (s : State) (hs : s.life.phase = .service) (hp : portReaches p s = true)
    (h4 : o % 4 = 0) (hw : o + 4 < 0x231000) : ∃ value, readDrs p o 8 s = answeredRead o value s := by
  have ho : o / 4 * 4 = o := by omega
  have h0 := readWord_plain p o s (by omega)
  have h1 := readWord_plain p (o + 4) s (by omega)
  refine ⟨BitVec.ofNat 64 (leNat (readAddressed p o 8 s).2), ?_⟩
  have ht : (readAddressed p o 8 s).1 = s := by simp [readAddressed, h4, ho, readWords, h0, h1]
  simp [readDrs, hp, ho, drsRead_service p s o hs, ht, answeredRead]

/-! ## MBX_STATUS (R123, R135) -/

theorem mbxStatus_offset (m : Fin 16) :
    (mbxBase m + 0x204) % 4 = 0 ∧ 0x1000 ≤ mbxBase m + 0x204 ∧ mbxBase m + 0x204 < 0x5000 ∧
      (mbxBase m + 0x204) % 0x400 = 0x204 ∧ (mbxBase m + 0x204 - 0x1000) / 0x400 = m := by
  have := m.isLt
  unfold mbxBase
  omega

theorem drsWord_mbxStatus (p : ReadPort) (s : State) (m : Fin 16) :
    drsWord p s (mbxBase m + 0x204) = mbxStatus (boxOf s m) := by
  obtain ⟨-, hlo, hhi, hmod, hdiv⟩ := mbxStatus_offset m
  have h0 : ¬ mbxBase m + 0x204 < 0x38 := by omega
  have h1 : ¬ mbxBase m + 0x204 < 0x48 := by omega
  have h2 : ¬ (0x200 ≤ mbxBase m + 0x204 ∧ mbxBase m + 0x204 < 0x20C) := by omega
  rw [drsWord, if_neg h0, if_neg h1, if_neg h2, if_pos ⟨hlo, hhi⟩, hmod, hdiv]
  rfl

theorem readEffects_mbxStatus (s : State) (m : Fin 16) (hs : s.life.phase = .service) :
    readEffects .pcie (mbxBase m + 0x204) s = readDone .pcie m s := by
  obtain ⟨-, hlo, hhi, hmod, hdiv⟩ := mbxStatus_offset m
  have h0 : ¬ mbxBase m + 0x204 = 0x38 := by omega
  have h1 : ¬ mbxBase m + 0x204 = 0x40 := by omega
  have hshown : ¬ shown s (mbxBase m + 0x204) = false := by simp [shown, hs]
  have hstatus : 0x1000 ≤ mbxBase m + 0x204 ∧ mbxBase m + 0x204 < 0x5000 ∧ (mbxBase m + 0x204) % 0x400 = 0x204 :=
    ⟨hlo, hhi, hmod⟩
  simp only [readEffects, if_neg hshown, if_neg h0, if_neg h1, if_pos hstatus, hdiv]

theorem exec_mbxStatusRead_pcie (s : State) (m : Fin 16) (hs : s.life.phase = .service) :
    exec (.mbxStatusRead .pcie m 4) s = .next (readDone .pcie m
      (answeredRead (mbxBase m + 0x204) (BitVec.ofNat 64 (mbxStatus (boxOf s m))) s)) := by
  obtain ⟨h4, -, hhi, -, -⟩ := mbxStatus_offset m
  have hw : ¬ (0x231000 ≤ mbxBase m + 0x204 ∧ mbxBase m + 0x204 < 0x232000) := by omega
  have hread := readDrs_word .pcie _ s hs rfl h4 hw
  rw [drsWord_mbxStatus, Nat.mod_eq_of_lt (mbxStatus_lt _), readEffects_mbxStatus (answeredRead _ _ s) m hs] at hread
  exact congrArg Host.Outcome.next hread

/-- The bytes of MBX_STATUS lie in the I3C window at the mailbox's own offset (R128). -/
theorem windowByte_mbxStatus (s : State) (m : Fin 16) (hm : m.val < 2) (hs : s.life.phase = .service) :
    ((List.range 4).map fun i => windowByte s (m.val * 0x400 + 0x204 + i)) = leBytes 4 (mbxStatus (boxOf s m)) := by
  have hbase : mbxBase m + 0x204 = 0x1000 + (m.val * 0x400 + 0x204) := by unfold mbxBase; omega
  have hword : drsRead .pcie s (mbxBase m + 0x204) = some (mbxStatus (boxOf s m)) := by
    rw [drsRead_service _ _ _ hs, drsWord_mbxStatus]
  have hbytes := map_range_word (fun o => (drsRead .pcie s o).getD 0) _ (mbxStatus_offset m).1
  rw [hword, Option.getD_some] at hbytes
  rw [← hbytes]
  refine List.map_congr_left fun i hi => ?_
  have hw : m.val * 0x400 + 0x204 + i < 0x800 := by have := List.mem_range.mp hi; omega
  rw [windowByte, windowOffset, if_pos hw, hbase, ← Nat.add_assoc 0x1000]

theorem i3cAddressed_service (body : State → State) (s : State) (hs : s.life.phase = .service)
    (hf : s.life.fwStart = true) (ha : s.i3c.addr ≠ none) : i3cAddressed body s = body (wakeByAccess s) := by
  have hserved : i3cServed s = true := by simp [i3cServed, hs, hf]
  simp [i3cAddressed, ha, hs, hserved]

theorem exec_mbxStatusRead_i3c (s : State) (m : Fin 16) (hm : m.val < 2) (hs : s.life.phase = .service)
    (hf : s.life.fwStart = true) (ha : s.i3c.addr ≠ none) :
    exec (.mbxStatusRead .i3c m 4) s = .next (readDone .i3c m
      (emit (.i3cData (leBytes 4 (mbxStatus (boxOf (wakeByAccess s) m)))) (wakeByAccess s))) := by
  have hu : (wakeByAccess s).life.phase = .service := (wakeByAccess_phase s).trans hs
  have hoff : 4 = 4 ∧ m.val * 0x400 + 0x204 < 0x800 ∧ (m.val * 0x400 + 0x204) % 0x400 = 0x204 := by omega
  have hdiv : (m.val * 0x400 + 0x204) / 0x400 = m := by omega
  show Host.Outcome.next (if m.val < 2 then i3cAddressed (readWindowI3c (m.val * 0x400 + 0x204) 4) s else s) = _
  rw [if_pos hm, i3cAddressed_service _ s hs hf ha, readWindowI3c, windowByte_mbxStatus _ m hm hu, if_pos hoff, hdiv]

/-! ## Ownership (R122 to R124) -/

theorem exec_mbxClaim (s : State) (p : Path) (m : Fin 16) (h : mailboxLive s p m = true) :
    let b := boxOf (wakeByAccess s) m
    exec (.mbxClaim p m) s = .next (withBox m
      (if b.owner = none ∧ b.state ≠ .busy then { b with owner := some p } else b) (wakeByAccess s)) := by
  show Host.Outcome.next (if mailboxLive s p m then _ else _) = _
  rw [if_pos h, claimBox, updateBox_eq_withBox]
  simp

theorem exec_mbxRelease (s : State) (p : Path) (m : Fin 16) (h : mailboxLive s p m = true) :
    let b := boxOf (wakeByAccess s) m
    exec (.mbxRelease p m) s = .next (withBox m
      (if b.owner = some p ∧ b.state ≠ .busy then { b with owner := none } else b) (wakeByAccess s)) := by
  show Host.Outcome.next (if mailboxLive s p m then _ else _) = _
  rw [if_pos h, releaseBox, updateBox_eq_withBox]
  simp

theorem exec_mbxOverrunClear (s : State) (p : Path) (m : Fin 16) (h : mailboxLive s p m = true) :
    let b := boxOf (wakeByAccess s) m
    exec (.mbxOverrunClear p m) s = .next (withBox m
      (if b.owner = some p then { b with overrun := false } else b) (wakeByAccess s)) := by
  show Host.Outcome.next (if mailboxLive s p m then _ else _) = _
  rw [if_pos h, clearOverrun, updateBox_eq_withBox]
  simp

theorem exec_mbxOwnershipTimeout (s : State) (m : Fin 16) :
    exec (.mbxOwnershipTimeout m) s = .next (withBox m
      (if (boxOf s m).state = .done then { boxOf s m with owner := none } else boxOf s m) s) := by
  show Host.Outcome.next (updateBox _ _ _) = _
  rw [updateBox_eq_withBox]
  simp

/-- Settles O8: each doorbell action sets its mailbox's register (`withBox`), and a 4-byte status read is the answer
followed by `readDone`. -/
theorem mailboxOwnership : Obligations.MailboxOwnership := by
  unfold Obligations.MailboxOwnership
  refine ⟨fun s p m => ⟨fun hlive => ⟨?_, ?_, ?_⟩, ?_⟩, fun s m hs => ⟨?_, ?_, fun hm ha hf => ?_⟩⟩
  · exact exec_mbxClaim s p m hlive
  · exact exec_mbxRelease s p m hlive
  · exact exec_mbxOverrunClear s p m hlive
  · exact exec_mbxOwnershipTimeout s m
  · have hexec := exec_mbxStatusRead_pcie s m hs
    let r := answeredRead (mbxBase m + 0x204) (BitVec.ofNat 64 (mbxStatus (boxOf s m))) s
    have hbox := readDone_box .pcie m r
    have hframe := readDone_frame .pcie m r
    by_cases hd : (boxOf s m).state = .done
    · obtain ⟨more, hout, harm, hsent⟩ := readDone_sent m r hd
      exact ⟨_, more, hexec, hout, hbox, fun _ => ⟨harm, hsent⟩, fun h => absurd hd h, hframe⟩
    · have hidle := readDone_idle .pcie m r hd
      refine ⟨_, [], hexec, ?_, hbox, fun h => absurd h hd, fun _ => ⟨?_, ?_, rfl⟩, hframe⟩ <;> rw [hidle] <;> rfl
  · obtain ⟨h4, -, hhi, -, -⟩ := mbxStatus_offset m
    obtain ⟨value, hv⟩ := readDrs_double .pcie (mbxBase m + 0x204) s hs rfl h4 (by omega)
    exact ⟨value, congrArg Host.Outcome.next hv⟩
  · let r := emit (.i3cData (leBytes 4 (mbxStatus (boxOf (wakeByAccess s) m)))) (wakeByAccess s)
    obtain ⟨more, hout⟩ := readDone_out .i3c m r
    exact ⟨_, more, exec_mbxStatusRead_i3c s m hm hs hf ha, hout, readDone_box .i3c m r, readDone_frame .i3c m r⟩

/-! ## Effects of a register read (R414, R416) -/

theorem latchHigh_out (p : ReadPort) (utc : Bool) (s : State) : (latchHigh p utc s).out = s.out :=
  (latchHigh_keep p utc s).out rfl

theorem clearRead_out (o : Nat) (s : State) : (clearRead o s).out = s.out :=
  (clearRead_keep o s).out rfl

theorem readEffects_out (p : ReadPort) (o : Nat) (s : State) : ∃ more, (readEffects p o s).out = more ++ s.out := by
  unfold readEffects
  split
  · exact ⟨[], rfl⟩
  split
  · exact ⟨[], latchHigh_out _ _ _⟩
  split
  · exact ⟨[], latchHigh_out _ _ _⟩
  cases p with
  | debug => exact ⟨[], rfl⟩
  | pcie =>
    dsimp only
    split
    · exact readDone_out _ _ _
    · exact ⟨[], clearRead_out _ _⟩

/-- A read over PCIe outside the LO registers and the mailboxes clears the register's RC fields (R414). -/
theorem readEffects_clears (o : Nat) (s : State) (hs : s.life.phase = .service)
    (h : (0x40 < o ∧ o < 0x1000) ∨ 0x5000 ≤ o) : readEffects .pcie o s = clearRead o s := by
  have hshown : ¬ shown s o = false := by simp [shown, hs]
  have hup : ¬ o = 0x38 := by omega
  have hutc : ¬ o = 0x40 := by omega
  have hstatus : ¬ (0x1000 ≤ o ∧ o < 0x5000 ∧ o % 0x400 = 0x204) := by omega
  simp only [readEffects, if_neg hshown, if_neg hup, if_neg hutc, if_neg hstatus]

theorem clearRead_dram (k : Nat) (s : State) (h : k < 16) : clearRead (0x240200 + 4 * k) s =
    updateDram k (fun c => { c with corrected := 0, uncorr := 0, cmdErr := 0 }) s := by
  have h0 : ¬ 0x240200 + 4 * k = 0x204 := by omega
  have h1 : ¬ 0x240200 + 4 * k = 0x208 := by omega
  have h2 : ¬ 0x240200 + 4 * k = 0x230004 := by omega
  have h3 : ¬ 0x240200 + 4 * k = 0x230008 := by omega
  have h4 : 0x240200 ≤ 0x240200 + 4 * k ∧ 0x240200 + 4 * k < 0x240240 := by omega
  have hk : (0x240200 + 4 * k - 0x240200) / 4 = k := by omega
  rw [clearRead, if_neg h0, if_neg h1, if_neg h2, if_neg h3, if_pos h4, hk]

/-! ## The wide pairs (R416) -/

/-- Offset of a pair's LO register. -/
def wideLo (utc : Bool) : Nat := if utc then 0x40 else 0x38

theorem drsWord_wideLo (p : ReadPort) (s : State) (utc : Bool) :
    drsWord p s (wideLo utc) = wideValue utc s % 2 ^ 32 := by
  cases utc <;> simp [drsWord, wideLo, wideRegister, wideValue]

theorem drsWord_wideHi (p : ReadPort) (s : State) (utc : Bool) : drsWord p s (wideLo utc + 4) =
    match holding p utc s with
    | some x => x.toNat
    | none => wideValue utc s / 2 ^ 32 % 2 ^ 32 := by
  cases utc <;> simp [drsWord, wideLo, wideRegister] <;> rfl

theorem drsWord_wideHi_lt (p : ReadPort) (s : State) (utc : Bool) : drsWord p s (wideLo utc + 4) < 2 ^ 32 := by
  rw [drsWord_wideHi]
  cases holding p utc s with
  | some x => exact x.isLt
  | none => exact Nat.mod_lt _ (by norm_num)

theorem readEffects_wideLo (p : ReadPort) (s : State) (utc : Bool) (hs : s.life.phase = .service) :
    readEffects p (wideLo utc) s = latchHigh p utc s := by
  cases utc <;> simp [readEffects, shown, hs, wideLo]

theorem readEffects_wideHi (p : ReadPort) (s : State) (utc : Bool) (hs : s.life.phase = .service) :
    readEffects p (wideLo utc + 4) s = s := by
  cases p <;> cases utc <;> simp [readEffects, shown, hs, wideLo, clearRead]

theorem exec_wideLoRead (p : ReadPort) (utc : Bool) (s : State) (hs : s.life.phase = .service)
    (hp : portReaches p s = true) : exec (.wideLoRead p utc) s = .next (latchHigh p utc
      (answeredRead (wideLo utc) (BitVec.ofNat 64 (wideValue utc s % 2 ^ 32)) s)) := by
  have h4 : wideLo utc % 4 = 0 := by cases utc <;> rfl
  have hw : ¬ (0x231000 ≤ wideLo utc ∧ wideLo utc < 0x232000) := by cases utc <;> decide
  have hread := readDrs_word p _ s hs hp h4 hw
  rw [drsWord_wideLo, Nat.mod_mod, readEffects_wideLo p (answeredRead _ _ s) utc hs] at hread
  exact congrArg Host.Outcome.next hread

theorem exec_wideHiRead (p : ReadPort) (utc : Bool) (s : State) (hs : s.life.phase = .service)
    (hp : portReaches p s = true) : exec (.wideHiRead p utc) s = .next
      (answeredRead (wideLo utc + 4) (BitVec.ofNat 64 (drsWord p s (wideLo utc + 4))) s) := by
  have h4 : (wideLo utc + 4) % 4 = 0 := by cases utc <;> rfl
  have hw : ¬ (0x231000 ≤ wideLo utc + 4 ∧ wideLo utc + 4 < 0x232000) := by cases utc <;> decide
  have ho : (if utc then 0x44 else 0x3C) = wideLo utc + 4 := by cases utc <;> rfl
  have hread := readDrs_word p _ s hs hp h4 hw
  rw [Nat.mod_eq_of_lt (drsWord_wideHi_lt p s utc), readEffects_wideHi p (answeredRead _ _ s) utc hs] at hread
  show Host.Outcome.next (readDrs p (if utc then 0x44 else 0x3C) 4 s) = _
  rw [ho, hread]

/-! ## NVMe registers and configuration space (R90, R92, R93) -/

/-- The 64-bit value of the NVMe registers at `o` and `o + 4`. -/
def nvmePair (s : State) (o : Nat) : Nat := nvmeWord s o % 2 ^ 32 + 2 ^ 32 * (nvmeWord s (o + 4) % 2 ^ 32)

theorem spaceByte_nvme_pair (s : State) (o : Nat) (h : o % 4 = 0) :
    leNat ((List.range 8).map fun i => spaceByte .nvme s (o + i)) = nvmePair s o := by
  have hlow := map_range_word (nvmeWord s) o h
  have hhigh := map_range_word (nvmeWord s) (o + 4) (by omega)
  have hsplit : List.range 8 = List.range 4 ++ (List.range 4).map (4 + ·) := rfl
  have hbytes : ((List.range 8).map fun i => spaceByte .nvme s (o + i)) =
      leBytes 4 (nvmeWord s o) ++ leBytes 4 (nvmeWord s (o + 4)) := by
    rw [← hlow, ← hhigh, hsplit, List.map_append, List.map_map]
    simp only [spaceByte, Function.comp_def, Nat.add_assoc]
  rw [hbytes, leNat_append, leNat_leBytes, leNat_leBytes, leBytes_length]
  rfl

theorem exec_rcRegisterRead_nvme (s : State) (o : Nat) (h : o % 4 = 0) (hr : functionReadable s = true) :
    exec (.rcRegisterRead .nvme .pcie o 8) s = .next (answeredRead o (BitVec.ofNat 64 (nvmePair s o)) s) := by
  show Host.Outcome.next (readSpace .nvme o 8 s) = _
  rw [readSpace, if_pos hr, spaceByte_nvme_pair s o h]
  rfl

theorem exec_rcRegisterRead_config (s : State) (o : Nat) (h : o % 4 = 0) (hr : functionReadable s = true) :
    exec (.rcRegisterRead .config .pcie o 4) s =
      .next (answeredRead o (BitVec.ofNat 64 (configWord s o % 2 ^ 32)) s) := by
  have hbytes : ((List.range 4).map fun i => spaceByte .config s (o + i)) = leBytes 4 (configWord s o) :=
    map_range_word (configWord s) o h
  show Host.Outcome.next (readSpace .config o 4 s) = _
  rw [readSpace, if_pos hr, hbytes, leNat_leBytes]
  rfl

theorem extractLsb'_nvmePair_low (s : State) (o : Nat) :
    (BitVec.ofNat 64 (nvmePair s o)).extractLsb' 0 32 = BitVec.ofNat 32 (nvmeWord s o) := by
  apply BitVec.eq_of_toNat_eq
  simp only [nvmePair, BitVec.extractLsb'_toNat, BitVec.toNat_ofNat, Nat.shiftRight_zero]
  omega

theorem ofNat_halves (v : Word64) :
    BitVec.ofNat 64 (v.toNat % 2 ^ 32 % 2 ^ 32 + 2 ^ 32 * (v.toNat / 2 ^ 32 % 2 ^ 32)) = v := by
  have h : v.toNat % 2 ^ 32 % 2 ^ 32 + 2 ^ 32 * (v.toNat / 2 ^ 32 % 2 ^ 32) = v.toNat := by omega
  rw [h, BitVec.ofNat_toNat, BitVec.setWidth_eq]

theorem capabilities_eq : capabilities = 0x0840002014030FFF := by decide

theorem nvmeWord_cap (s : State) : nvmeWord s 0x00 = 0x14030FFF ∧ nvmeWord s (0x00 + 4) = 0x08400020 := by
  unfold nvmeWord
  rw [capabilities_eq]
  exact ⟨rfl, rfl⟩

theorem nvmeWord_asq (s : State) :
    nvmeWord s 0x28 = s.nv.asq.toNat % 2 ^ 32 ∧ nvmeWord s (0x28 + 4) = s.nv.asq.toNat / 2 ^ 32 := ⟨rfl, rfl⟩

theorem nvmeWord_acq (s : State) :
    nvmeWord s 0x30 = s.nv.acq.toNat % 2 ^ 32 ∧ nvmeWord s (0x30 + 4) = s.nv.acq.toNat / 2 ^ 32 := ⟨rfl, rfl⟩

theorem nvmeWord_vs (s : State) : nvmeWord s 0x08 = 0x00020000 := rfl

theorem nvmeWord_nssr (s : State) : nvmeWord s 0x20 = 0 := rfl

theorem nvmeWord_cmbloc (s : State) : nvmeWord s 0x38 = 0 := rfl

theorem nvmePair_asq (s : State) : BitVec.ofNat 64 (nvmePair s 0x28) = s.nv.asq := by
  rw [nvmePair, (nvmeWord_asq s).1, (nvmeWord_asq s).2, ofNat_halves]

theorem nvmePair_acq (s : State) : BitVec.ofNat 64 (nvmePair s 0x30) = s.nv.acq := by
  rw [nvmePair, (nvmeWord_acq s).1, (nvmeWord_acq s).2, ofNat_halves]

/-- CAP's MQES, CQR and TO (R93). -/
theorem nvmePair_cap (s : State) :
    (BitVec.ofNat 64 (nvmePair s 0x00)).extractLsb' 0 16 = 0x0FFF#16 ∧
    (BitVec.ofNat 64 (nvmePair s 0x00)).extractLsb' 16 1 = 1#1 ∧
    (BitVec.ofNat 64 (nvmePair s 0x00)).extractLsb' 24 8 = 0x14#8 := by
  rw [nvmePair, (nvmeWord_cap s).1, (nvmeWord_cap s).2]
  decide

theorem exec_rcRegisterRead_drs (s : State) (o : Nat) (hs : s.life.phase = .service) (h4 : o % 4 = 0)
    (hw : ¬ (0x231000 ≤ o ∧ o < 0x232000)) : exec (.rcRegisterRead .drs .pcie o 4) s = .next
      (readEffects .pcie o (answeredRead o (BitVec.ofNat 64 (drsWord .pcie s o % 2 ^ 32)) s)) :=
  congrArg Host.Outcome.next (readDrs_word .pcie o s hs rfl h4 hw)

/-- Settles O15: a DRS read is the answer and then the read's effects (`readDrs_word`), which are a latched high half or
cleared RC fields; the other spaces answer their words. -/
theorem registerReads : Obligations.RegisterReads := by
  unfold Obligations.RegisterReads
  intro s utc o hs h4 hw
  refine ⟨?_, fun hd => ?_, fun p hp => ?_, ?_, fun k hr hk => ?_, fun hr => ?_, fun hr => ?_⟩
  · have := exec_wideLoRead .pcie utc s hs rfl
    cases utc <;> exact this
  · have := exec_wideLoRead .debug utc s hs hd
    cases utc <;> exact this
  · have hport : portReaches p s = true := by
      cases p with
      | pcie => rfl
      | debug => exact hp.resolve_left nofun
    have h := exec_wideHiRead p utc s hs hport
    rw [drsWord_wideHi] at h
    cases p <;> cases utc <;> exact h
  · let r := answeredRead o (BitVec.ofNat 64 (drsWord .pcie s o % 2 ^ 32)) s
    have hclear := readEffects_clears o r hs
    refine ⟨_, exec_rcRegisterRead_drs s o hs h4 hw, readEffects_out _ _ _, ?_, ?_, ?_, ?_, ?_, fun k hk => ?_⟩
    on_goal 6 =>
      rintro rfl
      rw [hclear (by omega), clearRead_dram k r hk]
      rfl
    all_goals
      rintro rfl
      rw [hclear (by decide)]
      rfl
  · refine ⟨_, _, exec_rcRegisterRead_nvme s (8 * k) (by omega) hr, rfl, ?_, ?_, ?_, ?_, ?_⟩
    · rintro rfl
      exact nvmePair_cap s
    · rintro rfl
      rw [extractLsb'_nvmePair_low, nvmeWord_vs]
    · rintro rfl
      exact nvmePair_asq s
    · rintro rfl
      exact nvmePair_acq s
    · rintro (rfl | rfl)
      · rw [extractLsb'_nvmePair_low, nvmeWord_nssr]
      · rw [extractLsb'_nvmePair_low, nvmeWord_cmbloc]
  · refine ⟨_, exec_rcRegisterRead_config s 0x08 rfl hr, ?_⟩
    show (BitVec.ofNat 64 (packBits [(8, 0x11), (24, 0x010802)] % 2 ^ 32)).extractLsb' 8 24 = _
    decide
  · show Host.Outcome.next (readSpace .nvme 0 8 s) = _
    simp [readSpace, hr, emit]

end Sys2Proof.Proofs
end

section
/-! Proofs that every command runs (O4). -/

namespace Sys2Proof.Proofs

open Sys2Proof Sys2Proof.Machine Sys2Proof.Safety Sys2Proof.Laws

/-- Every command but a power-up leaves the queue and the board alone: one `Keep` law for each command. -/
theorem exec_keep (c : Instr) (s : State) (hc : ∀ b, c ≠ .powerUp b) : KeepR 0x1FFFFFF6 s (exec c s) := by
  have widen {m : Nat} {r : Result} (h : KeepR m s r) (hm : m &&& 0x1FFFFFF6 = m := by rfl) :
      KeepR 0x1FFFFFF6 s r := h.mono hm
  cases c
  case rstact action => exact widen (execRstact_keep action s)
  exacts [
    absurd rfl (hc _), widen (execResetNAssert_keep _ _), widen (execPldNAssert_keep _ _),
    widen (execPowerLossFlushEnd_keep _ _ _), widen (execCloveFault_keep _ _), widen (execRecoveryDone_keep _ _),
    widen (execUcieFlitReceive_keep _ _ _ _ _ _), widen (execUcieReplayTimeout_keep _ _),
    widen (execUcieRetrainDone_keep _ _ _), widen (execCaptureLinkUp_keep _ _), widen (execCaptureLinkDown_keep _ _),
    widen (execCaptureLinkStatus_keep _ _), widen (execLaneSignalDetect_keep _ _),
    widen (execAcquisitionDone_keep _ _), widen (execFirstAlignmentCodeword_keep _ _),
    widen (execTrainSend_keep _ _ _ _ _), widen (execDeskewDone_keep _ _), widen (execLaneSignalLoss_keep _ _),
    widen (execCodewordReceive_keep _ _ _), widen (execCommitAck_keep _ _), widen (execCommitEchoRepeat_keep _ _ _),
    widen (execStreamOpen_keep _ _), widen (execStreamClose_keep _ _), widen (execStreamStatus_keep _ _),
    widen (execStreamExtendWindow_keep _ _), widen (execBufferPartition_keep _ _), widen (execTakeOpen_keep _ _),
    widen (execTakeClose_keep _ _), widen (execFrameIndexRead_keep _ _), widen (execStreamDrainDone_keep _ _),
    widen (execHeldUnitTimeout_keep _ _), widen (execIndexEntryPlace_keep _ _), widen (execIndexUnitTimeout_keep _ _),
    widen (execSqTailDoorbell_keep _ _ _ _), widen (execCqHeadDoorbell_keep _ _ _),
    widen (execInterruptCoalescingTimeout_keep _ _), widen (execFlush_keep _ _ _), widen (execWrite_keep _ _ _ _),
    widen (execRead_keep _ _ _), widen (execWriteZeroes_keep _ _ _), widen (execDatasetManagement_keep _ _ _),
    widen (execVerify_keep _ _ _), widen (execOrderedWrite_keep _ _ _ _), widen (execFence_keep _ _ _),
    widen (execFenceSatisfied_keep _ _), widen (execWriteCompletionPost_keep _ _ _),
    widen (execFlushComplete_keep _ _ _), widen (execHostReadComplete_keep _ _ _ _ _), widen (execIdentify_keep _ _),
    widen (execCreateIoSubmissionQueue_keep _ _), widen (execCreateIoCompletionQueue_keep _ _),
    widen (execDeleteIoSubmissionQueue_keep _ _), widen (execDeleteIoCompletionQueue_keep _ _),
    widen (execGetLogPage_keep _ _), widen (execSetArbitration_keep _ _), widen (execSetPowerManagement_keep _ _),
    widen (execSetTemperatureThreshold_keep _ _), widen (execSetVolatileWriteCache_keep _ _),
    widen (execSetNumberOfQueues_keep _ _), widen (execSetInterruptCoalescing_keep _ _),
    widen (execSetAutonomousPowerState_keep _ _ _), widen (execGetFeatures_keep _ _),
    widen (execGetVolatileWriteCache_keep _ _), widen (execAbort_keep _ _),
    widen (execAsynchronousEventRequest_keep _ _), widen (execNamespaceCreate_keep _ _ _),
    widen (execNamespaceDelete_keep _ _), widen (execNamespaceAttach_keep _ _ _),
    widen (execNamespaceDetach_keep _ _ _), widen (execFormatNvm_keep _ _), widen (execSanitizeBlockErase_keep _ _),
    widen (execSanitizeCryptoErase_keep _ _), widen (execFirmwareImageDownload_keep _ _),
    widen (execFirmwareCommit_keep _ _ _), widen (execFirmwareCommitImmediate_keep _ _ _),
    widen (execCcEnable_keep _ _), widen (execCcDisable_keep _ _), widen (execCcShutdown_keep _ _),
    widen (execPcieL1Entry_keep _ _), widen (execMbxClaim_keep _ _ _), widen (execMbxRing_keep _ _ _ _),
    widen (execMbxRelease_keep _ _ _), widen (execMbxOverrunClear_keep _ _ _), widen (execMbxStatusRead_keep _ _ _ _),
    widen (execMbxOwnershipTimeout_keep _ _), widen (execI3cPrivateWrite_keep _ _),
    widen (execI3cPrivateRead_keep _ _), widen (execEntdaa_keep _ _), widen (execSetdasa_keep _ _ _),
    widen (execSetmwl_keep _ _), widen (execSetmrl_keep _ _), widen (execCrgHeadPcieWrite_keep _ _),
    widen (execCrgHeadI3cWrite_keep _ _), widen (execCrgOverflowClear_keep _ _), widen (execGetDeviceInfo_keep _ _),
    widen (execGetInventory_keep _ _), widen (execSetTime_keep _ _), widen (execSetPinFunction_keep _ _),
    widen (execGetPinFunction_keep _ _), widen (execCommitPulseEnd_keep _ _), widen (execPowerSetState_keep _ _),
    widen (execWakeEvent_keep _ _), widen (execTimerWake_keep _ _), widen (execPllLockFailure_keep _ _),
    widen (execHoldupTest_keep _ _), widen (execHoldupStatus_keep _ _), widen (execHoldupTestDue_keep _ _),
    widen (execHoldupLoadApply_keep _ _), widen (execHoldupLoadRelease_keep _ _), widen (execHoldupTestDone_keep _ _),
    widen (execHoldupRecompute_keep _ _), widen (execThermalGet_keep _ _), widen (execThermalSetLimits_keep _ _),
    widen (execThermalSample_keep _ _), widen (execThermalHaltComplete_keep _ _), widen (execWriteAccept_keep _ _),
    widen (execWritePlace_keep _ _ _), widen (execSuperblockAgeTimeout_keep _ _),
    widen (execRowProgramDone_keep _ _ _ _), widen (execSuperblockGrant_keep _ _ _),
    widen (execLedgerPageDone_keep _ _), widen (execGcCopyDone_keep _ _ _), widen (execFoldStart_keep _ _),
    widen (execStaticWearLevel_keep _ _ _ _), widen (execJobEnqueue_keep _ _ _), widen (execJobStart_keep _ _ _),
    widen (execBusGrant_keep _ _ _), widen (execSuspendRequest_keep _ _), widen (execSuspendResume_keep _ _ _),
    widen (execRoutineAbandon_keep _ _ _), widen (execDieTempRead_keep _ _ _),
    widen (execControlStoreSweep_keep _ _ _ _), widen (execCsPatchLoad_keep _ _ _),
    widen (execPatchChannelLoad_keep _ _ _), widen (execCuNop_keep _ _), widen (execCuMovi_keep _ _ _ _),
    widen (execCuMov_keep _ _ _ _), widen (execCuAdd_keep _ _ _ _), widen (execCuAddi_keep _ _ _ _),
    widen (execCuSub_keep _ _ _ _), widen (execCuAnd_keep _ _ _ _), widen (execCuOr_keep _ _ _ _),
    widen (execCuShli_keep _ _ _ _), widen (execCuShri_keep _ _ _ _), widen (execCuCmpi_keep _ _ _ _),
    widen (execCuLdd_keep _ _ _ _), widen (execCuLdq_keep _ _ _ _), widen (execCuJmp_keep _ _ _),
    widen (execCuBz_keep _ _ _), widen (execCuBnz_keep _ _ _), widen (execCuBbs_keep _ _ _ _ _),
    widen (execCuBbc_keep _ _ _ _ _), widen (execCuDjnz_keep _ _ _ _), widen (execCuCall_keep _ _ _),
    widen (execCuRet_keep _ _), widen (execCuCe_keep _ _ _), widen (execCuCmd_keep _ _ _),
    widen (execCuCmdr_keep _ _ _), widen (execCuAddr_keep _ _ _ _), widen (execCuDout_keep _ _ _ _),
    widen (execCuDin_keep _ _ _ _), widen (execCuWaitc_keep _ _ _), widen (execCuWaitu_keep _ _ _),
    widen (execCuWaitq_keep _ _ _), widen (execCuStatr_keep _ _ _), widen (execCuSetf_keep _ _ _ _),
    widen (execCuGetf_keep _ _ _ _ _), widen (execCuTemp_keep _ _ _ _), widen (execCuCommit_keep _ _),
    widen (execCuYield_keep _ _ _), widen (execCuPark_keep _ _), widen (execCuSusp_keep _ _),
    widen (execCuRsm_keep _ _), widen (execCuLrst_keep _ _), widen (execCuHubinc_keep _ _ _),
    widen (execCuDone_keep _ _ _), widen (execCuFailr_keep _ _ _), widen (execCuTrain_keep _ _ _),
    widen (execCodewordDecodeDone_keep _ _ _ _), widen (execStripeRebuildEnd_keep _ _ _ _),
    widen (execDramAccess_keep _ _), widen (execDramRowTestDone_keep _ _ _ _ _ _),
    widen (execRefreshDue_keep _ _ _ _ _), widen (execRefreshCatchUp_keep _ _ _ _),
    widen (execSelfRefreshEntry_keep _ _), widen (execDramDriftCheck_keep _ _ _ _ _),
    widen (execRecentringSlice_keep _ _ _ _ _), widen (execSramScrubRead_keep _ _ _ _),
    widen (execRegionTestDone_keep _ _ _ _), widen (execSrpFlipArm_keep _ _), widen (execNorAutoSuspend_keep _ _ _ _),
    widen (execNorIdleResume_keep _ _), widen (execNorForcedResume_keep _ _), widen (execNorOperationDone_keep _ _ _),
    widen (execSelfTestEnd_keep _ _ _ _), widen (execSelfTest_keep _ _), widen (execUnitStatus_keep _ _),
    widen (execUnitReadmit_keep _ _), widen (execEventTokenRefill_keep _ _), widen (execEventRead_keep _ _),
    widen (execEventRateSet_keep _ _), widen (execStatsRead_keep _ _), widen (execCancel_keep _ _),
    widen (execHandleQuery_keep _ _), widen (execKeySet_keep _ _), widen (execKeyZeroize_keep _ _),
    widen (execSecureDiscard_keep _ _), widen (execFwStage_keep _ _), widen (execFwStageDone_keep _ _ _),
    widen (execFwActivate_keep _ _), widen (execDebugChallenge_keep _ _), widen (execDebugUnlock_keep _ _),
    widen (execRcRegisterRead_keep _ _ _ _ _), widen (execWideLoRead_keep _ _ _), widen (execWideHiRead_keep _ _ _),
    widen (execIdSubsysWrite_keep _ _), widen (execPwrPllFailClear_keep _ _),
    widen (execRegisterWrite_keep _ _ _ _ _ _), widen (execKeySetDone_keep _ _), widen (execKeyZeroizeDone_keep _ _),
    widen (execFaultPinAssert_keep _ _), widen (execSecureDiscardDone_keep _ _ _), widen (execFormatNvmDone_keep _ _),
    widen (execSanitizeDone_keep _ _), widen (execMapReady_keep _ _), widen (execDebugUnlockDone_keep _),
    widen (execTrstN_keep _), widen (execWarmRecoveryTimeout_keep _), widen (execCaptureLinkUpTimeout_keep _),
    widen (execStatusSend_keep _), widen (execPreambleDetect_keep _), widen (execAcquireTimeout_keep _),
    widen (execStartDelimiter_keep _), widen (execTrackTimeout_keep _), widen (execTuneTimeout_keep _),
    widen (execFrameHeader_keep _), widen (execFrameEnd_keep _), widen (execFrameStallNotice_keep _),
    widen (execStallTimerExpire_keep _), widen (execGrantRaise_keep _), widen (execBackpressureEpisode_keep _),
    widen (execShutdownComplete_keep _), widen (execFunctionLevelReset_keep _), widen (execHotReset_keep _),
    widen (execPerstNAssert_keep _), widen (execPerstNDeassert_keep _), widen (execRstdaa_keep _),
    widen (execEnec_keep _), widen (execDisec_keep _), widen (execGetmwl_keep _), widen (execGetmrl_keep _),
    widen (execGetpid_keep _), widen (execGetbcr_keep _), widen (execGetdcr_keep _), widen (execGetstatus_keep _),
    widen (execCrgPcieEnable_keep _), widen (execCrgI3cEnable_keep _), widen (execGetInventoryDone_keep _),
    widen (execPowerStateEntry_keep _), widen (execPowerSetStateTimeout_keep _), widen (execWakeNRelease_keep _),
    widen (execCrystalFailure_keep _), widen (execThrottleStepRise_keep _), widen (execThrottleStepFall_keep _),
    widen (execCsPatchLoadDone_keep _), widen (execScrubPatrol_keep _), widen (execNorContinuousReadTimeout_keep _),
    widen (execEventFifoDrain_keep _), widen (execEventLogCopy_keep _), widen (execEventHistoryPage_keep _),
    widen (execDrbgReseed_keep _), widen (execDrbgHealthFail_keep _), widen (execPldNDeassert_keep _),
    widen (execPowerOff_keep _), widen (execPcieD3hotExit_keep _)]

theorem exec_pending (c : Instr) {s t : State} (h : exec c s = .next t) : t.pending = s.pending := by
  by_cases hc : ∃ b, c = .powerUp b
  · obtain ⟨b, rfl⟩ := hc
    exact (execPowerUp_keep b s t h).pending rfl
  · exact (exec_keep c s (not_exists.mp hc) t h).pending rfl

/-- Only a microword can end in anything but a next state. -/
theorem exec_next (c : Instr) (s : State) (h : microOf c = none) : ∃ t, exec c s = .next t := by
  cases c <;> cases h <;> exact ⟨_, rfl⟩

/-- What is done once a microword is fetched decides alone whether it is refused. -/
theorem issue_refused {die op : Nat} {dst src imm : Option Nat} {afterCommit bus : Bool}
    {k : Die → Context → State → Result} {s : State} {r : Refusal}
    (h : issue die op dst src imm afterCommit bus k s = .refused r) : ∃ d c t, k d c t = .refused r := by
  simp only [issue] at h
  repeat' split at h
  all_goals first | cases h | exact ⟨_, _, _, h⟩

theorem exec_micro_ne_refused (c : Instr) (s : State) (r : Refusal) (f : MicroFields) (h : microOf c = some f) :
    exec c s ≠ .refused r := by
  intro hr
  cases c <;> cases h
  all_goals simp only [exec, issueLocal, issueBus, regOp, immOp, bitBranch, flagBranch,
    execCuAdd, execCuAddi, execCuAddr, execCuAnd, execCuBbc, execCuBbs, execCuBnz, execCuBz, execCuCall,
    execCuCe, execCuCmd, execCuCmdr, execCuCmpi, execCuCommit, execCuDin, execCuDjnz, execCuDone, execCuDout,
    execCuFailr, execCuGetf, execCuHubinc, execCuJmp, execCuLdd, execCuLdq, execCuLrst, execCuMov, execCuMovi,
    execCuNop, execCuOr, execCuPark, execCuRet, execCuRsm, execCuSetf, execCuShli, execCuShri, execCuStatr,
    execCuSub, execCuSusp, execCuTemp, execCuTrain, execCuWaitc, execCuWaitq, execCuWaitu, execCuYield] at hr
  case cuAddr => split at hr <;> obtain ⟨d, c, t, hk⟩ := issue_refused hr <;> cases hk
  all_goals
    obtain ⟨d, c, t, hk⟩ := issue_refused hr
    repeat' split at hk
    all_goals cases hk

/-- Settles O4: each command is `.next` or an `issue`, and each keeps the queue and the board. -/
theorem commandsRun : Obligations.CommandsRun := by
  unfold Obligations.CommandsRun
  refine fun c s => ⟨fun r hr => ?_, exec_next c s, fun t ht => ⟨exec_pending c ht, fun hc => ?_⟩⟩
  · cases hm : microOf c with
    | none =>
      obtain ⟨t, ht⟩ := exec_next c s hm
      rw [ht] at hr
      cases hr
    | some f => exact exec_micro_ne_refused c s r f hm hr
  · exact (exec_keep c s hc t ht).board rfl

end Sys2Proof.Proofs
end

section
/-! Proofs about what a RING does and the order of the request checks (O9). -/

namespace Sys2Proof.Proofs

open Sys2Proof Sys2Proof.Machine Sys2Proof.Safety Sys2Proof.Laws

/-! ## A RING (R123, R124) -/

theorem wakeByAccess_life (s : State) : (wakeByAccess s).life = s.life := (wakeByAccess_keep s).life rfl

theorem exec_mbxRing {s : State} {p : Path} {m : Fin 16} (irq : Bool) (hd : doorbellLive s p m = true)
    (hr : reaches s p m = true) : exec (.mbxRing p m irq) s = .next (ringBox p m irq (wakeByAccess s)) := by
  show Host.Outcome.next (if (doorbellLive s p m && reaches s p m) = true then _ else _) = _
  rw [hd, hr]
  rfl

/-- The mailbox that a RING leaves to whoever serves. -/
def submitted (x : Mbx) (p : Path) (irq : Bool) : Mbx :=
  { x with owner := some p, state := .busy, irq := irq, ringPath := p, unreadDone := false }

theorem ringBox_other {p : Path} {m : Nat} (irq : Bool) {s : State} (hn : (boxOf s m).owner ≠ none)
    (hp : (boxOf s m).owner ≠ some p) : ringBox p m irq s = s := by
  simp [ringBox, hn, hp]

theorem ringBox_busy {p : Path} {m : Nat} (irq : Bool) {s : State}
    (ho : (boxOf s m).owner = none ∨ (boxOf s m).owner = some p) (hb : (boxOf s m).state = .busy) :
    ringBox p m irq s = withBox m { boxOf s m with overrun := true } s := by
  rw [ringBox, if_pos ho.symm, if_pos hb, updateBox_eq_withBox]

theorem ringBox_submits {p : Path} {m : Nat} (irq : Bool) {s : State}
    (ho : (boxOf s m).owner = none ∨ (boxOf s m).owner = some p) (hb : (boxOf s m).state ≠ .busy) :
    ringBox p m irq s = routeRing m (withBox m (submitted (boxOf s m) p irq) s) := by
  rw [ringBox, if_pos ho.symm, if_neg hb, updateBox_eq_withBox]
  rfl

theorem boxOf_withBox {m : Nat} (x : Mbx) {s : State} (h : m < s.mbx.box.length) : boxOf (withBox m x s) m = x := by
  simp [boxOf, withBox, h]

theorem withBox_withBox (m : Nat) (x y : Mbx) (s : State) : withBox m y (withBox m x s) = withBox m y s := by
  simp [withBox]

theorem routeRing_serving {m : Nat} {s : State} (h : serving s = true) : routeRing m s = checkRing m s := by
  simp only [serving, Bool.and_eq_true, beq_iff_eq] at h
  obtain ⟨⟨hphase, hstart⟩, hstop⟩ := h
  simp [routeRing, hphase, hstart, hstop]

theorem routeRing_latches {m : Nat} {s : State} (hp : s.life.phase = .service) (h : serving s = false) :
    routeRing m s = updateBox m (fun b => { b with latched := true }) s := by
  have hidle : (s.life.stop.isNone && s.life.fwStart) = false := by
    simpa [serving, hp, Bool.and_comm] using h
  simp [routeRing, hp, hidle]

theorem routeRing_lossFlush {m : Nat} {s : State} (h : s.life.phase = .lossFlush) :
    routeRing m s = respond m stPowerLoss [] s := by
  simp [routeRing, h]

/-! ## The request checks (R126) -/

theorem requestFault_unlisted {s : State} {m : Nat} (p : Path) (h : lorardRow (reqOpcode s m) = none) :
    requestFault s p m = some 0x0010 := by
  simp [requestFault, h, stBadOpcode]

/-- With the debug port not opened: the path, the length, the parameters and the milestone, in this order. -/
theorem requestFault_listed {s : State} {m : Nat} (p : Path) {r : LorardRow} (h : lorardRow (reqOpcode s m) = some r)
    (hport : s.sec.port ≠ .opened) : requestFault s p m =
      if r.pcieOnly = true ∧ p = .i3c then some 0x0051
      else if reqField s m 2 2 ≠ r.length then some 0x0012
      else if paramsOk s (reqField s m) r.opcode = false then some 0x0011
      else if milestoneOk s r.milestone = false then some 0x0040 else none := by
  have hlocked : ¬ (s.sec.port = .opened ∧ [0x0050, 0x0070, 0x0071, 0x0072].contains r.opcode = true) :=
    fun hl => hport hl.1
  simp only [requestFault, h, if_neg hlocked, Bool.and_eq_true, beq_iff_eq, stLocked, stBadLength, stBadParam, stNotReady]

/-- Settles O9: a RING is `ringBox` after the resume, which leaves the submitted mailbox to `routeRing`; R126's checks
are the branches of `requestFault`. -/
theorem mailboxRings : Obligations.MailboxRings := by
  unfold Obligations.MailboxRings
  refine ⟨fun s p m irq hsound hd hr => ?_, fun s p m => ⟨requestFault_unlisted p, fun r hrow hport => ?_⟩⟩
  · rw [exec_mbxRing irq hd hr]
    have hboxes : (wakeByAccess s).mbx.box.length = 16 := ((wakeByAccess_keep s).sound hsound).mail.boxes
    have hm : (m : Nat) < (wakeByAccess s).mbx.box.length := by rw [hboxes]; exact m.isLt
    intro u b put busy
    have hput : put busy = withBox m (submitted (boxOf u m) p irq) u := rfl
    have hlife : (put busy).life = s.life := wakeByAccess_life s
    have hserv : serving (put busy) = serving s := by rw [serving, hlife, serving]
    have hpath : (boxOf (put busy) m).ringPath = p := by rw [hput, boxOf_withBox _ hm]; rfl
    have hlen : (put busy).mbx.box.length = 16 := by simpa [put] using hboxes
    refine ⟨fun hn hp => by rw [ringBox_other irq hn hp], fun ho => ⟨fun hb => by rw [ringBox_busy irq ho hb]; rfl, ?_⟩⟩
    refine ⟨fun hb hs hf => ?_, fun hb hs st hf => ⟨_, rfl, ?_⟩, fun hb hphase hs => ?_, fun hb hphase => ⟨_, rfl, ?_⟩⟩ <;>
      rw [ringBox_submits irq ho hb, ← hput]
    · rw [routeRing_serving (hserv.trans hs), checkRing, hpath, hf]
    · rw [routeRing_serving (hserv.trans hs), checkRing, hpath, hf]
      exact respond_refused m m.isLt st _ hlen
    · rw [routeRing_latches (by rw [hlife, hphase]) (hserv.trans hs), updateBox_eq_withBox, hput, boxOf_withBox _ hm,
        withBox_withBox]
      rfl
    · rw [routeRing_lossFlush (by rw [hlife, hphase])]
      exact respond_refused m m.isLt _ _ hlen
  · rw [requestFault_listed p hrow hport]
    refine ⟨fun hi hp => if_pos ⟨hi, hp⟩, fun hpath => ?_⟩
    have hopen : ¬ (r.pcieOnly = true ∧ p = .i3c) := by
      rintro ⟨hi, rfl⟩
      simp [hi] at hpath
    rw [if_neg hopen]
    refine ⟨fun hl => if_pos hl, fun hl => ?_⟩
    rw [if_neg (not_not.mpr hl)]
    refine ⟨fun hok => if_pos hok, fun hok => ?_⟩
    cases hmile : milestoneOk s r.milestone <;> simp [hok]

end Sys2Proof.Proofs
end

section
/-! Proofs about the flits, replays and retrains of the die-to-die links (O21). -/

namespace Sys2Proof.Proofs

open Sys2Proof Sys2Proof.Machine Sys2Proof.Safety Sys2Proof.Laws

/-! ## Events and self-tests -/

theorem startTest_frame (u : UnitId) (code : BitVec 16) (s : State) :
    startTest u code s = { s with st := (startTest u code s).st } := by
  unfold startTest
  dsimp only
  split <;> rfl

theorem mem_changeWhere {α : Type} {p : α → Bool} {f : α → α} {l : List α} {x : α} (h : x ∈ l) (hx : p x = true) :
    f x ∈ changeWhere p f l := by
  simp only [changeWhere, List.mem_map]
  exact ⟨x, h, by rw [if_pos hx]⟩

/-- After an error of a unit its test runs. -/
theorem startTest_running (u : UnitId) (code : BitVec 16) (s : State) :
    ∃ x ∈ (startTest u code s).st.running, x.unit = u := by
  unfold startTest
  dsimp only
  split
  next h =>
    obtain ⟨x, hx, hu⟩ := List.any_eq_true.mp h
    exact ⟨_, mem_changeWhere hx hu, by simpa using hu⟩
  next => exact ⟨_, List.mem_append_right _ (List.mem_singleton_self _), rfl⟩

/-! ## The links -/

/-- Link `p`'s record replaced. -/
def withLink (p : Nat) (x : UcieLink) (s : State) : State :=
  { s with med := { s.med with links := s.med.links.set p x } }

theorem updateLink_eq_withLink {p : Nat} {s : State} (h : p < s.med.links.length) (f : UcieLink → UcieLink) :
    updateLink p f s = withLink p (f (linkOf s p)) s := by
  have hset : s.med.links.modify p f = s.med.links.set p (f (linkOf s p)) := by
    rw [List.modify_eq_set_getElem?]
    simp [linkOf, h]
  rw [updateLink, hset, withLink]

/-- The flits a link keeps once flit `f` is kept: each number once. -/
def keptFlits (toMace : Bool) (f : Flit) (l : UcieLink) : List Flit :=
  if ((replayBuffer toMace l).any fun x => x.number == f.number) = true then replayBuffer toMace l
  else replayBuffer toMace l ++ [f]

theorem setReplay_self (toMace : Bool) (l : UcieLink) : setReplay toMace (replayBuffer toMace l) l = l := by
  cases toMace <;> rfl

theorem keepFlit_eq (toMace : Bool) (f : Flit) (l : UcieLink) :
    keepFlit toMace f l = setReplay toMace (keptFlits toMace f l) l := by
  unfold keepFlit keptFlits
  split
  · rw [setReplay_self]
  · rfl

theorem takeFlit_next {toMace : Bool} {f : Flit} {l : UcieLink} (h : f.number = delivered toMace l) :
    takeFlit toMace f l = { countDelivery toMace (ackFlit toMace f.number l) with failing := false, parityFails := 0 } :=
  if_pos h

theorem takeFlit_again {toMace : Bool} {f : Flit} {l : UcieLink} (h : f.number < delivered toMace l) :
    takeFlit toMace f l = ackFlit toMace f.number l := by
  rw [takeFlit, if_neg h.ne, if_pos h]

theorem takeFlit_ahead {toMace : Bool} {f : Flit} {l : UcieLink} (h : delivered toMace l < f.number) :
    takeFlit toMace f l = keepFlit toMace f l := by
  rw [takeFlit, if_neg h.ne', if_neg h.not_gt]

section Receive

variable {s : State} {port : Fin 4} {toMace : Bool} {f : Flit}

/-- Fewer than three parity failures in a row hold back nothing. -/
theorem exec_ucieFlitReceive (crcOk parityOk : Bool) (hlive : linkLive s port = true)
    (hfew : toMace = false ∨ (linkOf s port).parityFails < 3) :
    exec (.ucieFlitReceive port toMace f crcOk parityOk) s = .next (
      if crcOk = false then updateLink port (fun l => { keepFlit toMace f l with failing := true }) s
      else if parityOk || f.number != delivered toMace (linkOf s port) then updateLink port (takeFlit toMace f) s
      else flitParity port toMace f s) := by
  have hwaits : (toMace && decide (3 ≤ (linkOf s port).parityFails) && underTest s (maceUnit port)) = false := by
    rcases hfew with rfl | h
    · rfl
    · simp [Nat.not_le.mpr h]
  show Host.Outcome.next (if linkLive s port = false ∨ _ = true then s else _) = _
  rw [hwaits, hlive]
  simp

theorem exec_ucieFlitReceive_good (hlive : linkLive s port = true)
    (hfew : toMace = false ∨ (linkOf s port).parityFails < 3) (hl : port < s.med.links.length) :
    exec (.ucieFlitReceive port toMace f true true) s = .next (withLink port (takeFlit toMace f (linkOf s port)) s) := by
  rw [exec_ucieFlitReceive _ _ hlive hfew, if_neg (by decide), Bool.true_or, if_pos rfl, updateLink_eq_withLink hl]

theorem exec_ucieFlitReceive_bad (hlive : linkLive s port = true)
    (hfew : toMace = false ∨ (linkOf s port).parityFails < 3) (hl : port < s.med.links.length) :
    exec (.ucieFlitReceive port toMace f false true) s =
      .next (withLink port { keepFlit toMace f (linkOf s port) with failing := true } s) := by
  rw [exec_ucieFlitReceive _ _ hlive hfew, if_pos rfl, updateLink_eq_withLink hl]

theorem exec_ucieReplayTimeout (hlive : linkLive s port = true) (hl : port < s.med.links.length) :
    exec (.ucieReplayTimeout port) s = .next (if (linkOf s port).failing = true then
      withLink port { linkOf s port with retraining := true } s else s) := by
  show Host.Outcome.next (if (linkLive s port && (linkOf s port).failing) = true then _ else _) = _
  rw [hlive, Bool.true_and, updateLink_eq_withLink hl]

/-- A parity failure toward the Mace keeps the flit, counts, is logged and has the Mace tested (R253). -/
theorem flitParity_toMace (hl : port < s.med.links.length) : ∃ data, flitParity port true f s =
    startTest (maceUnit port) 0x0605 (logEvent 0x0605 (maceUnit port) data
      { withLink port { keepFlit true f (linkOf s port) with parityFails := (linkOf s port).parityFails + 1 } s with
        free := s.free + 2 }) := by
  have hk : (keepFlit true f (linkOf s port)).parityFails = (linkOf s port).parityFails := by
    rw [keepFlit_eq]
    rfl
  have hu := updateLink_eq_withLink (s := { s with free := s.free + 2 }) hl
    fun l => { keepFlit true f l with parityFails := l.parityFails + 1 }
  exact ⟨_, congrArg (busParity _ _ _ _ _ _ _) hu⟩

end Receive

/-- Settles O21: a received flit is `takeFlit`, `keepFlit` or `flitParity` on its link's record. -/
theorem ucieLinks : Obligations.UcieLinks := by
  unfold Obligations.UcieLinks
  refine ⟨fun s port toMace f hlive h4 => ?_, fun s port h4 hre => ?_⟩ <;>
    have hl : (port : Nat) < s.med.links.length := by omega
  · intro l buffer turn put keep drop with_
    have hput (x : UcieLink) : put x = withLink port x s := rfl
    have hturn : turn = delivered toMace l := rfl
    have hkeep : with_ keep l = keepFlit toMace f l := by rw [keepFlit_eq]; rfl
    refine ⟨fun hfew => ⟨?_, fun hn => ?_, fun hn => ?_, fun hn => ?_, fun hm hn => ?_⟩, fun hf => ?_, fun hf => ?_⟩
    · rw [exec_ucieFlitReceive_bad hlive hfew hl, hput, keepFlit_eq]
      cases toMace <;> rfl
    · rw [exec_ucieFlitReceive_good hlive hfew hl, takeFlit_next (hn.trans hturn), hput]
      cases toMace <;> rfl
    · rw [exec_ucieFlitReceive_good hlive hfew hl, takeFlit_again (hturn ▸ hn), hput]
      rfl
    · rw [exec_ucieFlitReceive_good hlive hfew hl, takeFlit_ahead (hturn ▸ hn), hput, hkeep]
    · subst hm
      have hdue : (false || f.number != delivered true (linkOf s port)) = false := by
        have hnext : f.number = delivered true (linkOf s port) := hn.trans hturn
        simp [hnext]
      obtain ⟨data, hdata⟩ := flitParity_toMace (f := f) hl
      have hexec := exec_ucieFlitReceive (toMace := true) (f := f) true false hlive hfew
      rw [if_neg (by decide), hdue, hdata] at hexec
      refine ⟨_, data, hexec, ?_, ?_, startTest_running _ _ _, ?_⟩ <;> rw [startTest_frame]
      · rw [hput]
        show (withLink _ _ s).med = _
        rw [keepFlit_eq]
        rfl
      · exact ⟨rfl, rfl⟩
      · rfl
    · rw [exec_ucieReplayTimeout hlive hl, if_pos hf, hput, ← hf]
    · rw [exec_ucieReplayTimeout hlive hl, if_neg (by rw [hf]; decide)]
  · have hexec (ok : Bool) : exec (.ucieRetrainDone port ok) s =
        let u := withLink port { linkOf s port with retraining := false, failing := false } s
        .next (if ok = true then startTest (maceUnit port) 0 u else lastingFault (maceUnit port) 0 4 u) := by
      show Host.Outcome.next (if (linkOf s port).retraining = true then _ else _) = _
      rw [if_pos hre, updateLink_eq_withLink hl]
    refine ⟨⟨_, hexec true, startTest_running _ _ _, startTest_frame _ _ _⟩, hexec false⟩

end Sys2Proof.Proofs
end

section
/-! Proofs about Clove stops, warm recovery and hub resets (O19). -/

namespace Sys2Proof.Proofs

open Sys2Proof Sys2Proof.Machine Sys2Proof.Safety Sys2Proof.Laws

/-! ## Completions leave the controller alone but for pending interrupts (R91, R133) -/

/-- The controller but for its pending-bit array. -/
def sansPba (n : Nvme) : Nvme := { n with pba := [] }

theorem eq_of_sansPba {a b : Nvme} (h : sansPba a = sansPba b) : a = { b with pba := a.pba } := by
  have hb : { b with pba := a.pba } = { sansPba b with pba := a.pba } := rfl
  rw [hb, ← h]
  rfl

theorem notify_sansPba (s : State) : sansPba (notify s).nv = sansPba s.nv := by
  rw [notify_frame]
  rfl

theorem postEntry_sansPba (b : RingBody) (s : State) : sansPba (postEntry b s).nv = sansPba s.nv := by
  unfold postEntry
  split
  next h =>
    have hfree : slotFree s.crg = true := (Bool.and_eq_true _ _ ▸ h).2
    rw [notify_sansPba, (putEntry_keep b s hfree).nv rfl]
  next => rfl

theorem completeHandle_sansPba (v : BitVec 32) (st : BitVec 16) (r : BitVec 128) (s : State) :
    sansPba (completeHandle v st r s).nv = sansPba s.nv := by
  unfold completeHandle
  split
  · rfl
  · split
    · rfl
    · exact postEntry_sansPba _ _

theorem completeOp_sansPba (op st : BitVec 16) (s : State) : sansPba (completeOp op st s).nv = sansPba s.nv := by
  have hfold (l : List Handle) (u : State) :
      sansPba (l.foldl (fun s h => completeHandle h.value st 0 s) u).nv = sansPba u.nv := by
    induction l generalizing u with
    | nil => rfl
    | cons h l ih => rw [List.foldl_cons, ih, completeHandle_sansPba]
  exact hfold _ s

/-! ## A stop begins (R165) -/

/-- The state of a stop once the commands that firmware alone carries have been answered. -/
def stopAnswered (c : CloveStop) (s : State) : State :=
  completeOp 0x00A2 stBusyRetry (completeOp 0x0090 stBusyRetry (completeOp 0x0021 stBusyRetry
    { s with life := { s.life with stop := some c } }))

theorem stopAnswered_frame (c : CloveStop) (s : State) : stopAnswered c s = { s with
    life := { s.life with stop := some c }, nv := { s.nv with pba := (stopAnswered c s).nv.pba }
    mbx := (stopAnswered c s).mbx, hnd := (stopAnswered c s).hnd, crg := (stopAnswered c s).crg
    out := (stopAnswered c s).out } := by
  have hnv : sansPba (stopAnswered c s).nv = sansPba s.nv := by simp only [stopAnswered, completeOp_sansPba]
  rw [← eq_of_sansPba hnv]
  exact (Keep.ho (completeOp_keep _ _ _) (Keep.ho (completeOp_keep _ _ _) (completeOp_keep _ _ _))).same

/-- Tests, the hold-up test and a patch load end with a stop, and the execute-only regions are in force (R165). -/
def workEnded (s : State) : State :=
  { s with
    hup := { s.hup with run := none }, nor := { s.nor with xo := true }
    st := { s.st with
      running := changeWhere (fun t => !t.readmit) (fun t => { t with handle := none }) s.st.running
      waiting := s.st.waiting.filter (·.readmit) }
    med := { s.med with
      load := none, toLoad := []
      channels := changeWhere (fun c => c.state == .loading) (fun c => { c with state := .running }) s.med.channels } }

/-- What a stop changes, group by group. -/
theorem beginStop_eq (c : CloveStop) (s : State) : beginStop c s =
    let z := stopAnswered c s
    let w := workEnded s
    { s with
      life := { s.life with stop := some c }, nv := { s.nv with pba := z.nv.pba }
      mbx := z.mbx, hnd := z.hnd, crg := z.crg, out := z.out, hup := w.hup, nor := w.nor, st := w.st, med := w.med } := by
  have hframe := stopAnswered_frame c s
  change workEnded (stopAnswered c s) = _
  generalize stopAnswered c s = z at hframe
  conv_lhs => rw [hframe]
  rfl

theorem exists_mem_changeWhere {α : Type} {p : α → Bool} {f : α → α} {q : α → Prop} {l : List α}
    (h : ∃ x ∈ l, q x) (hf : ∀ x, q x → q (f x)) : ∃ x ∈ changeWhere p f l, q x := by
  obtain ⟨x, hx, hq⟩ := h
  refine ⟨_, List.mem_map_of_mem hx, ?_⟩
  split
  · exact hf x hq
  · exact hq

theorem startTest_waiting (u : UnitId) (code : BitVec 16) (s : State) :
    (startTest u code s).st.waiting = s.st.waiting := by
  unfold startTest
  dsimp only
  split <;> rfl

theorem mem_waiting_readmit {l : List UnitTest} {x : UnitTest} (h : x ∈ l.filter (·.readmit)) :
    x.readmit = true ∧ x ∈ l :=
  (List.mem_filter.mp h).symm

theorem not_loading_of_released {l : List Channel} {c : Channel}
    (h : c ∈ changeWhere (fun c => c.state == .loading) (fun c => { c with state := .running }) l) :
    c.state ≠ .loading := by
  simp only [changeWhere, List.mem_map] at h
  obtain ⟨x, -, rfl⟩ := h
  by_cases hx : x.state = .loading <;> simp [hx]

theorem exec_cloveFault {s : State} (core : Fin 4) (hp : s.life.phase = .service) (hf : s.life.fwStart = true) :
    exec (.cloveFault core) s = .next (if s.life.mapReady = false ∨ s.life.stop.isSome
      then hubReset 0x0E03 (blockUnit (0x20 + core)) s
      else beginStop ⟨false, core, s.clk.us, s.sec.version, s.nor.slot, none, none⟩
        (startTest (blockUnit (0x20 + core)) 0 s)) := by
  have hlive : ¬ (s.life.phase ≠ .service ∨ s.life.fwStart = false) := by simp [hp, hf]
  show Host.Outcome.next (cloveFaultOn core.val s) = _
  rw [cloveFaultOn, if_neg hlive]

/-! ## Recovery is done (R165) -/

theorem foldl_id_of_forall {α β : Type} {f : α → β → α} {a : α} {l : List β} (h : ∀ x ∈ l, f a x = a) :
    l.foldl f a = a := by
  induction l with
  | nil => rfl
  | cons x l ih =>
    rw [List.foldl_cons, h x List.mem_cons_self]
    exact ih fun y hy => h y (List.mem_cons_of_mem x hy)

theorem takeVerdicts_none {s : State} (h : ∀ x ∈ s.st.running, x.verdict = none) : takeVerdicts s = s :=
  foldl_id_of_forall fun x hx => by rw [h x hx]

theorem serveLatched_none {s : State} (h : ∀ m < 16, (boxOf s m).latched = false) : serveLatched s = s :=
  foldl_id_of_forall fun m hm => by rw [h m (List.mem_range.mp hm)]; rfl

theorem releaseCompletions_none {s : State} (h : s.nv.held = []) : releaseCompletions s = s := by
  have hnv : { s.nv with held := [] } = s.nv := by rw [← h]
  rw [releaseCompletions, h, hnv]
  rfl

/-- The cores run again: the stop is over, and the instruction memory is written anew. -/
def coresBack (c : CloveStop) (ms : Nat) (s : State) : State :=
  let t := logRecovery c ms s
  (List.range 8).foldl (fun s b => bankWritten b 0 s)
    (rewriteBanks (· < 8) { t with life := { t.life with stop := none }, nor := { t.nor with xo := false } })

theorem coresBack_keep (c : CloveStop) (ms : Nat) (s : State) : Keep 2097152
    { logRecovery c ms s with life := { s.life with stop := none }, nor := { s.nor with xo := false } }
    (coresBack c ms s) :=
  Keep.foldl _ _ _ (fun y b => bankWritten_keep b 0 y) (rewriteBanks_keep _ _)

theorem exec_recoveryDone {s : State} {c : CloveStop} (ms : Nat) (hp : s.life.phase = .service)
    (hs : s.life.stop = some c) (ha : c.activation = false) : exec (.recoveryDone ms) s = .next (updateGc (retryReads
      (fetchAll (releaseCompletions (serveLatched (takeVerdicts (coresBack c ms s))))))) := by
  show Host.Outcome.next (match s.life.stop with | none => s | some c => _) = _
  rw [hs]
  dsimp only
  rw [if_neg (not_not.mpr hp), ha]
  rfl

/-! ## The hub reset (R166, R346) -/

/-- What a hub reset leaves before its start: everything flushed and halted, the cause in the last-words registers. -/
def hubHalted (code : BitVec 16) (unit : UnitId) (s : State) : State :=
  writeLastWords (countHubReset (if s.life.mapReady then 0 else s.evr.lwdHubResets + 1)
    (lastCause code unit false (flushEverything (haltAll false stPowerLoss s))))

theorem hubReset_eq (code : BitVec 16) (unit : UnitId) (s : State) : hubReset code unit s =
    if 3 ≤ (if s.life.mapReady then 0 else s.evr.lwdHubResets + 1)
    then enterRecovery code unit (resetBase .hub (hubHalted code unit s)) else start .hub (hubHalted code unit s) := rfl

theorem hubHalted_keep (code : BitVec 16) (unit : UnitId) (s : State) : Keep 164559762 s (hubHalted code unit s) :=
  .on (writeLastWords_keep _) (.on (countHubReset_keep _ _) (.on (lastCause_keep _ _ _ _)
    (.on (flushEverything_keep _) (.on (haltAll_keep _ _ _) (.refl _ _) rfl) rfl) rfl) rfl) rfl

theorem start_board {k : StartKind} {s : State} {b : Board} (h : s.board = some b) : start k s =
    startUp k { b with newModule := b.newModule && s.map.sbs.isEmpty } (resetBase k s) := by
  rw [start, h]

/-- From `s` to `t` a hub reset has passed over the groups that no start-up step touches (R166, R344). -/
def HubResets (s t : State) : Prop :=
  t.str = State.reset.str ∧ t.parse = State.reset.parse ∧ t.pending = s.pending ∧ t.board = s.board ∧ t.clk = s.clk ∧
    t.mbx = State.reset.mbx ∧ t.crg = State.reset.crg ∧ t.intg = State.reset.intg ∧ t.sram = State.reset.sram

theorem resetBase_hub (s : State) : HubResets s (resetBase .hub s) := by
  have k := keepFlash_keep s
  exact ⟨rfl, rfl, k.pending rfl, k.board rfl, k.clk rfl, rfl, rfl, rfl, rfl⟩

/-- A start-up changes none of these groups. -/
theorem HubResets.startUp {s t u : State} (h : HubResets s t) (k : Keep 400027010 t u) : HubResets s u := by
  rwa [HubResets, k.str rfl, k.parse rfl, k.pending rfl, k.board rfl, k.clk rfl, k.mbx rfl, k.crg rfl, k.intg rfl,
    k.sram rfl]

theorem HubResets.after {r s t : State} (h : HubResets s t) (hp : s.pending = r.pending) (hb : s.board = r.board)
    (hc : s.clk = r.clk) : HubResets r t := by
  rwa [HubResets, hp, hb, hc] at h

theorem hubReset_resets (code : BitVec 16) (unit : UnitId) {s : State} (hb : s.board ≠ none) :
    HubResets s (hubReset code unit s) := by
  have khalt := hubHalted_keep code unit s
  have hboard : (hubHalted code unit s).board = s.board := khalt.board rfl
  have hreset := (resetBase_hub (hubHalted code unit s)).after (khalt.pending rfl) hboard (khalt.clk rfl)
  rw [hubReset_eq]
  generalize hubHalted code unit s = x at *
  generalize (if s.life.mapReady = true then 0 else s.evr.lwdHubResets + 1) = n
  by_cases hn : 3 ≤ n
  · rw [if_pos hn]
    exact hreset.startUp (.on (enterRecovery_keep code unit _) (.refl _ _) rfl)
  · rw [if_neg hn]
    obtain ⟨b, hx⟩ := Option.ne_none_iff_exists'.mp (hboard ▸ hb)
    rw [start_board hx]
    exact hreset.startUp (startUp_keep _ _ _)

/-- Settles O19: a stop is `stopAnswered` with the tests and the load ended, its end `coresBack`, and a hub reset
`hubHalted` before a start or the recovery state. -/
theorem cloveStops : Obligations.CloveStops := by
  unfold Obligations.CloveStops
  refine ⟨fun s core ms hp => ⟨fun hf hm hs => ?_, fun hf hm => ?_, fun c hs => ?_, fun c hs ha hv hl hh => ?_⟩,
    fun s code unit hb => ?_⟩
  · have hexec := exec_cloveFault core hp hf
    rw [if_neg (by simp [hm, hs])] at hexec
    rw [beginStop_eq, startTest_frame] at hexec
    refine ⟨_, hexec, rfl, rfl, rfl, ?_, ?_, rfl, rfl, fun c hc => not_loading_of_released hc, rfl, rfl⟩
    · exact exists_mem_changeWhere (startTest_running _ _ _) fun x hx => hx
    · intro x hx
      rw [← startTest_waiting (blockUnit (0x20 + core)) 0 s]
      exact mem_waiting_readmit hx
  · rw [exec_cloveFault core hp hf, if_pos]
    simpa [Option.isSome_iff_ne_none] using hm
  · show Host.Outcome.next (match s.life.stop with | some c => _ | none => s) = _
    rw [hs]
    exact congrArg Host.Outcome.next (if_pos hp)
  · have hexec := exec_recoveryDone ms hp hs ha
    have kback := coresBack_keep c ms s
    have hmbx : (coresBack c ms s).mbx = s.mbx := kback.mbx rfl
    have hst : (coresBack c ms s).st = s.st := kback.st rfl
    have hnv : (coresBack c ms s).nv = s.nv := kback.nv rfl
    rw [takeVerdicts_none (by rw [hst]; exact hv), serveLatched_none (by unfold boxOf; rw [hmbx]; exact hl),
      releaseCompletions_none (by rw [hnv]; exact hh)] at hexec
    have k : Keep 137232640 _ _ := .on (updateGc_keep _) (.on (retryReads_keep _) (.on (fetchAll_keep _)
      (.on kback (.refl _ _) rfl) rfl) rfl) rfl
    refine ⟨_, hexec, k.life rfl, k.nor rfl, k.mbx rfl, (k.evr rfl).trans ?_, (k.pins rfl).trans ?_⟩
    · simp only [logRecovery, stopUnit, ha]
      rfl
    · simp only [logRecovery, stopUnit, ha]
      rfl
  · obtain ⟨hstr, hparse, hpending, hboard, hclk, hmbx, hcrg, hintg, hsram⟩ := hubReset_resets code unit hb
    refine ⟨hstr, hparse, hpending, hboard, hclk, hmbx, hcrg, hintg, hsram, fun hm hn => ?_⟩
    have hthird : 3 ≤ if s.life.mapReady = true then 0 else s.evr.lwdHubResets + 1 := by
      rw [hm]
      exact Nat.succ_le_succ hn
    rw [hubReset_eq, if_pos hthird]
    exact ⟨rfl, rfl, rfl, rfl, rfl, rfl, rfl, rfl⟩

end Sys2Proof.Proofs
end

section
/-! Proofs about power-ups and the end of the map rebuild (O17). -/

namespace Sys2Proof.Proofs

open Sys2Proof Sys2Proof.Machine Sys2Proof.Safety Sys2Proof.Laws

/-! ## What a power-up resets (R343, R344) -/

/-- From `s` to `t` a power-up has passed over the groups that no start-up step touches. -/
def PowerUpResets (s t : State) : Prop :=
  t.clk = Clock.reset ∧ t.board = s.board ∧ t.link = State.reset.link ∧ t.parse = State.reset.parse ∧
    t.str = State.reset.str ∧ t.mbx = State.reset.mbx ∧ t.crg = State.reset.crg ∧ t.intg = State.reset.intg ∧
    t.sram = State.reset.sram ∧ t.out = s.out ∧ t.pending = s.pending

theorem start_fresh_resets {s : State} {b : Board} (h : s.board = some b) : PowerUpResets s (start .fresh s) := by
  have kb := keepFlash_keep s
  have k := startUp_keep .fresh { b with newModule := b.newModule && s.map.sbs.isEmpty } (resetBase .fresh s)
  rw [start_board h]
  exact ⟨k.clk rfl, (k.board rfl).trans (kb.board rfl), k.link rfl, k.parse rfl, k.str rfl, k.mbx rfl, k.crg rfl,
    k.intg rfl, k.sram rfl, (k.out rfl).trans (kb.out rfl), (k.pending rfl).trans (kb.pending rfl)⟩

/-! ## Start-up steps -/

theorem startStep_stopped {f : State → State} {s : State} (h : s.life.phase ≠ .service) : startStep f s = s :=
  if_neg h

theorem startStep_runs {f : State → State} {s : State} (h : s.life.phase = .service) : startStep f s = f s :=
  if_pos h

/-- With PLL0, PLL1 and PLL5 locked the first step notes the others alone (R322). -/
theorem startPlls_locked {b : Board} {s : State} (h : b.pllFail = []) :
    startPlls b s = { s with pwr := { s.pwr with pllBad := 0, pllFail := 0 } } := by
  simp [startPlls, h]

theorem startPlls_core {b : Board} {s : State} (h : ∃ p ∈ b.pllFail, p.val = 0 ∨ p.val = 1 ∨ p.val = 5) :
    ∃ u : State, u.life = s.life ∧ startPlls b s = enterRecovery 0 (blockUnit 0x26) u := by
  have hcore : (b.pllFail.any fun p => corePll p.val) = true := by
    obtain ⟨p, hp, hv⟩ := h
    exact List.any_eq_true.mpr ⟨p, hp, by simpa [corePll, or_assoc] using hv⟩
  refine ⟨_, ?_, (if_pos hcore : startPlls b s = _)⟩
  rfl

/-- Out of the service phase no later step runs. -/
theorem startUp_stopped {k : StartKind} {b : Board} {s : State} (h : (startPlls b s).life.phase ≠ .service) : startUp k b s = startPlls b s := by
  have hmode : ¬ (b.testMode = true ∧ (startPlls b s).life.phase = .service) := fun hm => h hm.2
  simp only [startUp, if_neg hmode, startStep_stopped h]

theorem startUp_test {k : StartKind} {b : Board} {s : State} (h : b.pllFail = []) (hs : s.life.phase = .service)
    (ht : b.testMode = true) : startUp k b s =
      { startPlls b s with life := { s.life with phase := .manufacturing } } := by
  have hp : (startPlls b s).life = s.life := by rw [startPlls_locked h]
  have hmode : b.testMode = true ∧ (startPlls b s).life.phase = .service := ⟨ht, by rw [hp]; exact hs⟩
  unfold startUp
  dsimp only
  rw [if_pos hmode, hp]

/-! ## Nutmeg at a start (R298, R307) -/

/-- Verification reads what outlives a reset alone. -/
theorem bootFault_keptNor {s t : State} (h : keptNor t.nor = keptNor s.nor) (k : Nat) : bootFault t k = bootFault s k := by
  have hs : bootFault s k = bootFault { s with nor := keptNor s.nor } k := rfl
  rw [hs, ← h]
  rfl

theorem slotFault_keptNor {s t : State} (h : keptNor t.nor = keptNor s.nor) (k : Nat) : slotFault t k = slotFault s k := by
  have hs : slotFault s k = slotFault { s with nor := keptNor s.nor } k := rfl
  rw [hs, ← h]
  rfl

theorem config_keptNor {s t : State} (h : keptNor t.nor = keptNor s.nor) : config t = config s := by
  have hs : config s = config { s with nor := keptNor s.nor } := rfl
  rw [hs, ← h]
  rfl

theorem installFactory_made {f : Factory} {s : State} (h : s.nor.made = true) : installFactory f s = s := if_pos h

theorem scanFlags_none {s : State} (h : s.nor.flags = []) : scanFlags s = s := by rw [scanFlags, h]; rfl

theorem bootStage_good {s : State} (h : bootFault s 0 = none) : bootStage s =
    { s with nor := { s.nor with boot0Valid := true }, reg := { s.reg with bootCopy := 0 } } := by
  rw [bootStage, h]

theorem trainDram_good {b : Board} {s : State} (hm : b.dramMatched = true) (hg : b.dramGib = 32 ∨ b.dramGib = 64)
    (hw : ∀ w ∈ b.sweeps9600, 26 ≤ laneWindow 128 w) : trainDram b s = dramRuns 0 b.dramGib b.sweeps9600 s := by
  have hfit : ¬ (b.dramMatched = false ∨ (b.dramGib ≠ 32 ∧ b.dramGib ≠ 64)) := by
    rw [hm]
    rcases hg with h | h <;> simp [h]
  have hwide : narrowLane (b.sweeps9600.map (laneWindow 128)) 26 = none := by
    simp only [narrowLane, Option.map_eq_none_iff, List.find?_eq_none, decide_eq_true_eq, not_lt]
    intro x hx
    obtain ⟨w, hmem, hval⟩ := List.mem_map.mp (List.fst_mem_of_mem_zipIdx hx)
    rw [← hval]
    exact hw w hmem
  rw [trainDram, if_neg hfit, hwide]

theorem loadFirmware_active {s : State} {k : Nat} (hk : k = if (config s).activeSlot = 2 then 2 else 1)
    (h : slotFault s k = none) : loadFirmware s = firmwareStart k s := by
  subst hk
  rw [loadFirmware, h]

/-! ## The steps before firmware -/

/-- Steps 2 to 5 of R347 where nothing fails, up to the state that loads firmware. -/
def beforeFirmware (k : StartKind) (b : Board) (s : State) : State :=
  logNoStore (loadFenced (dramRuns 0 b.dramGib b.sweeps9600 (bootStage (seedDrbg k b (readOtp b (startPlls b s))))))

/-- Steps 8 to 12 of R347. -/
def afterFirmware (k : StartKind) (b : Board) (s : State) : State :=
  startStep (fun s => reachCaptureReady (startGrants b s)) (startStep (startKeys k) (startStep (readLedger b)
    (startStep (fun s => discover b (startChannels s)) s)))

/-- A board and a state from which the start-up sequence reaches firmware: the hypotheses of O17. -/
structure CleanStart (b : Board) (s : State) : Prop where
  plls : b.pllFail = []
  mode : b.testMode = false
  otp : b.otpBad = false
  ucie : b.ucieFail = []
  matched : b.dramMatched = true
  gib : b.dramGib = 32 ∨ b.dramGib = 64
  windows : ∀ w ∈ b.sweeps9600, 26 ≤ laneWindow 128 w
  made : s.nor.made = true
  flags : s.nor.flags = []
  boot : bootFault s 0 = none

section Clean

variable {k : StartKind} {b : Board} {s : State} (h : CleanStart b s)
include h

theorem readOtp_clean : let t := readOtp b (startPlls b s)
    t.life = s.life ∧ t.nor = s.nor ∧ t.reg = { s.reg with uid := s.nor.otp.uid } := by
  simp only [startPlls_locked h.plls, readOtp, h.otp, Bool.false_eq_true, if_false, scanFlags_none, h.flags, and_self]

theorem seedDrbg_clean : let t := seedDrbg k b (readOtp b (startPlls b s))
    t.life = s.life ∧ t.nor = s.nor ∧ t.reg = { s.reg with uid := s.nor.otp.uid } := by
  have hk := seedDrbg_keep k b (readOtp b (startPlls b s))
  obtain ⟨hlife, hnor, hreg⟩ := readOtp_clean h
  exact ⟨(hk.life rfl).trans hlife, (hk.nor rfl).trans hnor, (hk.reg rfl).trans hreg⟩

theorem bootStage_clean : let t := bootStage (seedDrbg k b (readOtp b (startPlls b s)))
    t.life = s.life ∧ t.nor = { s.nor with boot0Valid := true } ∧
      t.reg = { s.reg with uid := s.nor.otp.uid, bootCopy := 0 } := by
  obtain ⟨hlife, hnor, hreg⟩ := seedDrbg_clean (k := k) h
  have hboot : bootFault (seedDrbg k b (readOtp b (startPlls b s))) 0 = none :=
    (bootFault_keptNor (by rw [hnor]) 0).trans h.boot
  rw [bootStage_good hboot]
  exact ⟨hlife, by rw [hnor], by rw [hreg]⟩

theorem dramRuns_clean : let t := dramRuns 0 b.dramGib b.sweeps9600 (bootStage (seedDrbg k b (readOtp b (startPlls b s))))
    t.life = s.life ∧ keptNor t.nor = keptNor s.nor ∧ t.dram.rate = 0 ∧
      t.reg = { s.reg with uid := s.nor.otp.uid, bootCopy := 0, dramGib := b.dramGib } := by
  obtain ⟨hlife, hnor, hreg⟩ := bootStage_clean (k := k) h
  exact ⟨hlife, (congrArg keptNor hnor :), rfl, congrArg (fun r : Regs => { r with dramGib := b.dramGib }) hreg⟩

theorem beforeFirmware_clean : let t := beforeFirmware k b s
    t.life = s.life ∧ keptNor t.nor = keptNor s.nor ∧ t.dram.rate = 0 ∧
      t.reg = { s.reg with uid := s.nor.otp.uid, bootCopy := 0, dramGib := b.dramGib } := by
  have hk : Keep 25174016 (dramRuns 0 b.dramGib b.sweeps9600 (bootStage (seedDrbg k b (readOtp b (startPlls b s)))))
      (beforeFirmware k b s) := .on (logNoStore_keep _) (.on (loadFenced_keep _) (.refl _ _) rfl) rfl
  intro t
  rw [hk.life rfl, hk.nor rfl, hk.dram rfl, hk.reg rfl]
  exact dramRuns_clean h

/-- Where nothing fails, start-up runs to firmware. -/
theorem startUp_clean (hs : s.life.phase = .service) : startUp k b s =
    afterFirmware k b (replacePatch (loadFirmware (beforeFirmware k b s))) := by
  have hplls : (startPlls b s).life = s.life := by rw [startPlls_locked h.plls]
  have hmode : ¬ (b.testMode = true ∧ (startPlls b s).life.phase = .service) := by simp [h.mode]
  have hmade : (startPlls b s).nor.made = true := by rw [startPlls_locked h.plls]; exact h.made
  obtain ⟨hotp, -, -⟩ := readOtp_clean h
  obtain ⟨hseed, -, -⟩ := seedDrbg_clean (k := k) h
  obtain ⟨hboot, -, -⟩ := bootStage_clean (k := k) h
  obtain ⟨hbefore, -, -, -⟩ := beforeFirmware_clean (k := k) h
  have hrun {t : State} (f : State → State) (ht : t.life = s.life) : startStep f t = f t :=
    startStep_runs (by rw [ht]; exact hs)
  unfold startUp
  dsimp only
  rw [if_neg hmode, hrun _ hplls, installFactory_made hmade, hrun _ hotp, hrun _ hseed, hrun _ hboot,
    trainDram_good h.matched h.gib h.windows, hrun (t := dramRuns _ _ _ _) _ hboot, trainUcie, h.ucie, List.foldl_nil,
    hrun (t := loadFenced (dramRuns _ _ _ _)) _ hboot]
  rfl

end Clean

/-! ## Firmware and what follows (R347 steps 7 to 12) -/

theorem firmwareStart_runs (k : Nat) (s : State) : let t := firmwareStart k s
    t.life = { s.life with fwStart := true } ∧ t.dram = s.dram ∧
      t.reg = { s.reg with lock := true, subVendor := (config s).subVendor, subSystem := (config s).subSystem } := by
  unfold firmwareStart putSlot
  split <;> exact ⟨rfl, rfl, rfl⟩

/-- From `s` to `t` the device stays in its phase with firmware as it was. -/
def SameRun (s t : State) : Prop := t.life.phase = s.life.phase ∧ t.life.fwStart = s.life.fwStart

theorem SameRun.of_life {s t : State} (h : t.life = s.life) : SameRun s t := by rw [SameRun, h]; exact ⟨rfl, rfl⟩

theorem SameRun.trans {s t u : State} (h : SameRun s t) (h' : SameRun t u) : SameRun s u :=
  ⟨h'.1.trans h.1, h'.2.trans h.2⟩

theorem readLedger_sameRun (b : Board) (s : State) : SameRun s (readLedger b s) := by
  unfold readLedger
  split
  · have hk : Keep 268566656 _ (firstLedger b s) := Keep.foldl _ _ _ (fun _ _ => replacePosition_keep _ _ _) (.refl _ _)
    have hlife := hk.life rfl
    exact ⟨by rw [hlife], by rw [hlife]⟩
  · have hread : (moveCopies (readCopies b s)).life = s.life :=
      ((moveCopies_keep _).life rfl).trans ((readCopies_keep b s).life rfl)
    dsimp only
    generalize moveCopies (readCopies b s) = t at hread
    have hsame {u : State} (h : SameRun t u) : SameRun s u := .trans (.of_life hread) h
    have hunclean (u : State) : SameRun u (uncleanLedger u) := by
      have hk : Keep 131072 _ (uncleanLedger u) := Keep.foldl _ _ _ (fun _ _ => appendSlot_keep _ _) (.refl _ _)
      have hlife := hk.life rfl
      exact ⟨by rw [hlife], by rw [hlife]⟩
    split
    · exact hsame ⟨rfl, rfl⟩
    · exact hsame ⟨(hunclean _).1, (hunclean _).2⟩

theorem reachCaptureReady_sameRun (s : State) : SameRun s (reachCaptureReady s) := by
  unfold reachCaptureReady
  split
  · exact .of_life rfl
  · dsimp only
    generalize hready : ({ s with life := _, nv := _ } : State) = t
    have hrun : SameRun s t := by rw [← hready]; exact ⟨rfl, rfl⟩
    have hk : Keep 4194304 t (eraseUnfinished (settleBoot (burnLevel t))) :=
      .on (eraseUnfinished_keep _) (.on (settleBoot_keep _) (burnLevel_keep _) rfl) rfl
    split
    · exact hrun.trans (.trans (.of_life (hk.life rfl)) (.of_life ((updateGc_keep _).life rfl)))
    · exact hrun.trans (.of_life (hk.life rfl))

theorem discover_reg (b : Board) (s : State) : (discover b s).reg = { s.reg with populated := min b.groups 32 } := by
  have hk : Keep 29696000 _ (discover b s) :=
    Keep.foldl _ _ _ (fun _ _ => .on (fenceGroup_keep _ _) (.refl _ _) rfl)
      (Keep.foldl _ _ _ (fun _ _ => .ite (.refl _ _) (fenceLasting_keep _ _ _ _))
        (Keep.foldl _ _ _ (fun _ _ => .ite (.refl _ _) (fenceLasting_keep _ _ _ _)) (.refl _ _)))
  exact hk.reg rfl

theorem afterFirmware_runs (k : StartKind) (b : Board) {s : State} (h : s.life.phase = .service) :
    let t := afterFirmware k b s
    t.life.phase = .service ∧ t.life.fwStart = s.life.fwStart ∧ t.dram = s.dram ∧
      t.reg = { s.reg with populated := min b.groups 32 } := by
  have kdies : Keep 365240320 s (discover b (startChannels s)) :=
    .on (discover_keep b _) (.on (startChannels_keep s) (.refl _ _) rfl) rfl
  have hreg : (discover b (startChannels s)).reg = { s.reg with populated := min b.groups 32 } := by
    rw [discover_reg, (startChannels_keep s).reg rfl]
  have hdies : SameRun s (discover b (startChannels s)) := .of_life (kdies.life rfl)
  unfold afterFirmware
  rw [startStep_runs h]
  generalize discover b (startChannels s) = d at *
  have hledger := hdies.trans (readLedger_sameRun b d)
  have kledger := readLedger_keep b d
  rw [startStep_runs (hdies.1.trans h)]
  generalize readLedger b d = l at *
  have hkeys : SameRun s (startKeys k l) := hledger.trans (.of_life ((startKeys_keep k l).life rfl))
  have kkeys := startKeys_keep k l
  rw [startStep_runs (hledger.1.trans h)]
  generalize startKeys k l = x at *
  rw [startStep_runs (hkeys.1.trans h)]
  have kgrants := startGrants_keep b x
  have hready := hkeys.trans ((SameRun.of_life (kgrants.life rfl)).trans (reachCaptureReady_sameRun _))
  have kready := reachCaptureReady_keep (startGrants b x)
  intro t
  refine ⟨hready.1.trans h, hready.2, ?_, ?_⟩
  · rw [kready.dram rfl, kgrants.dram rfl, kkeys.dram rfl, kledger.dram rfl, kdies.dram rfl]
  · rw [kready.reg rfl, kgrants.reg rfl, kkeys.reg rfl, kledger.reg rfl, hreg]

/-- What a start that meets no fault leaves. -/
theorem startUp_service {k : StartKind} {b : Board} {s : State} {n : Nat} (h : CleanStart b s)
    (hs : s.life.phase = .service) (hn : n = if (config s).activeSlot = 2 then 2 else 1) (hslot : slotFault s n = none) :
    let t := startUp k b s
    t.life.phase = .service ∧ t.life.fwStart = true ∧ t.reg.lock = true ∧ t.reg.bootCopy = 0 ∧
      t.reg.subVendor = (config s).subVendor ∧ t.reg.subSystem = (config s).subSystem ∧ t.reg.uid = s.nor.otp.uid ∧
      t.reg.populated = min b.groups 32 ∧ t.reg.dramGib = b.dramGib ∧ t.dram.rate = 0 := by
  obtain ⟨hlife, hnor, hrate, hreg⟩ := beforeFirmware_clean (k := k) h
  have hconfig := config_keptNor hnor
  rw [startUp_clean h hs, loadFirmware_active (hconfig ▸ hn) ((slotFault_keptNor hnor n).trans hslot)]
  generalize beforeFirmware k b s = x at *
  obtain ⟨hfw, hdram, hfwreg⟩ := firmwareStart_runs n x
  have kpatch := replacePatch_keep (firmwareStart n x)
  have hphase : (replacePatch (firmwareStart n x)).life.phase = .service := by rw [kpatch.life rfl, hfw, hlife]; exact hs
  obtain ⟨hp, hf, hd, hr⟩ := afterFirmware_runs k b hphase
  rw [kpatch.life rfl, hfw] at hf
  rw [kpatch.dram rfl, hdram] at hd
  rw [kpatch.reg rfl, hfwreg, hreg, hconfig] at hr
  intro t
  rw [show t.reg = _ from hr, show t.dram = _ from hd]
  exact ⟨hp, hf, rfl, rfl, rfl, rfl, rfl, rfl, rfl, hrate⟩

/-! ## The power-up (R343) -/

/-- A state whose supplies have risen with module `b`. -/
def poweredWith (b : Board) (s : State) : State :=
  { s with board := some b, life := { s.life with phase := .inReset, resetN := true, lossByReset := false } }

theorem exec_powerUp {s : State} (b : Board) (h : s.life.phase = .off ∨ s.life.phase = .inReset) :
    exec (.powerUp b) s =
      .next (if s.life.pldN = true then start .fresh (poweredWith b s) else poweredWith b s) :=
  congrArg Host.Outcome.next (if_pos h)

theorem resetBase_fresh_nor (b : Board) (s : State) : (resetBase .fresh (poweredWith b s)).nor = keptNor s.nor :=
  congrArg keptNor ((keepFlash_keep (poweredWith b s)).nor rfl)

/-! ## MAP_READY (R346) -/

theorem intake_lwdHubResets (r : Recorder) (e : Event) (n : Nat) :
    intake { r with lwdHubResets := n } e = { intake r e with lwdHubResets := n } := by
  unfold intake pushFifo
  dsimp only [bucketOf, setBucket]
  repeat' split
  all_goals rfl

/-- The state once the map is rebuilt: the milestone, the run of hub resets and the discards (R346, R407). -/
def mapKnown (bad : List Nat) (s : State) : State :=
  let t := rebuildMap bad s
  { t with
    life := { t.life with mapReady := true, runBlockFaults := [] }
    evr := { t.evr with lwdHubResets := 0 }
    sec := { t.sec with discards := keptDiscards t } }

theorem mapKnown_eq (bad : List Nat) (s : State) : let t := mapKnown bad s
    t.life = { s.life with mapReady := true, runBlockFaults := [] } ∧ t.evr = { s.evr with lwdHubResets := 0 } ∧
      t.sec = { s.sec with discards := keptDiscards (rebuildMap bad s) } ∧ t.clk = s.clk ∧ t.pins = s.pins := by
  have hk := rebuildMap_keep bad s
  unfold mapKnown
  dsimp only
  rw [hk.life rfl, hk.evr rfl, hk.sec rfl, hk.clk rfl, hk.pins rfl]
  exact ⟨rfl, rfl, rfl, rfl, rfl⟩

theorem keptDiscards_subset (s : State) : ∀ d ∈ keptDiscards s, d ∈ s.sec.discards :=
  fun _ hd => (List.mem_filter.mp hd).1

/-- The data of MAP_REBUILD_DONE (R388). -/
def mapReadyData (t : State) : BitVec 64 :=
  evData [(4, t.clk.us / 1000), (2, sat 16 t.map.scanned), (2, sat 16 t.map.partsDropped)]

theorem exec_mapReady {s : State} (bad : List Nat) (hp : s.life.phase = .service) (hc : s.life.captureReady = true)
    (hm : s.life.mapReady = false) (hs : s.life.stop = none) : exec (.mapReady bad) s = .next (retryReads (updateGc
      (releaseReads (logEvent 0x0401 (blockUnit 8) (mapReadyData (mapKnown bad s)) (mapKnown bad s))))) := by
  show Host.Outcome.next (if (_ && _ && _ && _) = true then _ else s) = _
  rw [hp, hc, hm, hs, if_pos (by rfl)]
  rfl

/-- Settles O17: a power-up is `start` over the reset base, whose steps `startUp_service` follows to firmware. -/
theorem powerUps : Obligations.PowerUps := by
  unfold Obligations.PowerUps
  refine ⟨fun s b hs => ⟨fun hpld => ?_, fun hpld => ?_⟩, fun s bad => ⟨rfl, fun hp hc hm hstop => ?_⟩⟩
  · rw [exec_powerUp b hs, if_neg (by rw [hpld]; decide)]
    rfl
  · have hexec := exec_powerUp b hs
    rw [if_pos hpld] at hexec
    have hboard : (poweredWith b s).board = some b := rfl
    obtain ⟨hclk, hbrd, hlink, hparse, hstr, hmbx, hcrg, hintg, hsram, hout, hpending⟩ := start_fresh_resets hboard
    refine ⟨_, hexec, hclk, hbrd, hlink, hparse, hstr, hmbx, hcrg, hintg, hsram, hout, hpending,
      fun hcore hmode => ?_, fun hplls hmode => ?_,
      fun k hplls hmode hotp hucie hmatch hgib hwide hmade hflags hboot hk hslot => ?_⟩ <;>
      rw [start_board hboard]
    · obtain ⟨u, hlife, hstop⟩ := startPlls_core
        (b := { b with newModule := b.newModule && (poweredWith b s).map.sbs.isEmpty })
        (s := resetBase .fresh (poweredWith b s)) hcore
      rw [startUp_stopped (by rw [hstop]; nofun), hstop]
      exact ⟨rfl, rfl, rfl, rfl, (congrArg Life.fwStart hlife :)⟩
    · rw [startUp_test (by exact hplls) rfl (by exact hmode)]
      exact ⟨rfl, rfl⟩
    · have hnor : keptNor (resetBase .fresh (poweredWith b s)).nor = keptNor s.nor := by
        rw [resetBase_fresh_nor]
        rfl
      have hclean : CleanStart { b with newModule := b.newModule && (poweredWith b s).map.sbs.isEmpty }
          (resetBase .fresh (poweredWith b s)) :=
        ⟨hplls, hmode, hotp, hucie, hmatch, hgib, hwide, by rw [resetBase_fresh_nor]; exact hmade,
          by rw [resetBase_fresh_nor]; exact hflags, (bootFault_keptNor hnor 0).trans hboot⟩
      have hconfig := config_keptNor hnor
      have := startUp_service (k := .fresh) hclean rfl (hconfig ▸ hk) ((slotFault_keptNor hnor k).trans hslot)
      rw [hconfig, resetBase_fresh_nor] at this
      exact this
  · have hexec := exec_mapReady bad hp hc hm hstop
    have k : Keep 917760 _ _ := .on (retryReads_keep _) (.on (updateGc_keep _) (.on (releaseReads_keep _)
      (.refl _ (logEvent 0x0401 (blockUnit 8) (mapReadyData (mapKnown bad s)) (mapKnown bad s))) rfl) rfl) rfl
    obtain ⟨hlife, hevr, hsec, hclk, hpins⟩ := mapKnown_eq bad s
    have hsec' := (k.sec rfl).trans hsec
    have hlog : (logEvent 0x0401 (blockUnit 8) (mapReadyData (mapKnown bad s)) (mapKnown bad s)).evr =
        { (logEvent 0x0401 (blockUnit 8) (mapReadyData (mapKnown bad s)) s).evr with lwdHubResets := 0 } := by
      show intake _ ⟨_, _, _, _, (mapKnown bad s).clk.us, _, _⟩ = _
      rw [hevr, hclk, intake_lwdHubResets]
      rfl
    refine ⟨_, hexec, (k.life rfl).trans hlife, ?_, ?_, ?_, ⟨_, _, ⟨rfl, rfl⟩, (k.evr rfl).trans hlog, ?_⟩,
      (execMapReady_keep bad s _ hexec).same⟩
    · rw [k.evr rfl, hlog]
    · rw [hsec']
    · rw [hsec', ← (rebuildMap_keep bad s).sec rfl]
      exact keptDiscards_subset _
    · exact (k.pins rfl).trans (congrArg (faultPins _) hpins)

end Sys2Proof.Proofs
end

section
/-! The doorbell of a completion queue whose waiting entry has not passed its point of no return (O31). -/

namespace Sys2Proof.Proofs

open Sys2Proof Sys2Proof.Machine Sys2Proof.Safety Sys2Proof.Laws

/-- The completion of a Flush that waits for a free slot: a Flush passes its point of no return with the posting (R111). -/
def waitingFlush : Cqe := ⟨0, 0, 0, 1, 0, false, 0, 0, false, true⟩

/-- An I/O completion queue of four slots, all free, in which that entry still waits. -/
def flushQueue : Cq where
  id := 1
  size := 4
  vector := 1
  ien := false
  head := 0
  tail := 0
  phase := true
  entries := []
  overflow := [waitingFlush]
  aggregated := 0

/-- The queue once the entry is posted: it is past its point of no return. -/
def flushPosted : Cq :=
  { flushQueue with
    entries := [{ waitingFlush with phase := true, early := false }], overflow := [], tail := 1, aggregated := 1 }

/-- The controller in service with that queue alone. -/
def flushWaits : State :=
  { State.reset with
    life := { State.reset.life with phase := .service, perstN := true, fwStart := true }
    nv := { State.reset.nv with cqs := [flushQueue] } }

theorem flushWaits_resumed : resumeP0 flushWaits = flushWaits := rfl

theorem exec_cqHeadDoorbell_flushWaits : exec (.cqHeadDoorbell 1 0) flushWaits =
    .next { flushWaits with nv := { flushWaits.nv with cqs := [flushPosted] } } :=
  rfl

/-- Refutes O31: a waiting entry that is `early` is posted with `early` false, so the posted entries are not the waiting
ones up to their phase. -/
theorem not_nvmeQueues : ¬ Obligations.NvmeQueues := by
  unfold Obligations.NvmeQueues
  rintro ⟨⟨-, hhead, -⟩, -⟩
  obtain ⟨-, hfound⟩ := hhead flushWaits 1 0 flushQueue rfl rfl
  rw [flushWaits_resumed] at hfound
  obtain ⟨-, hfrees⟩ := hfound rfl
  obtain ⟨t, r, k, new, hexec, hr, -, hk, hover, hentries, hnew, -, -, -⟩ := hfrees (by decide) (by decide)
  rw [exec_cqHeadDoorbell_flushWaits] at hexec
  cases hexec
  obtain rfl : flushPosted = r := Option.some.inj hr
  obtain rfl : new = flushPosted.entries := hentries.symm
  match k, hk with
  | 0, _ => exact absurd hover (by decide)
  | 1, _ => exact absurd hnew (by decide)

end Sys2Proof.Proofs
end

section
/-! Proofs about placing writes, programming rows and closing superblocks (O41). -/

namespace Sys2Proof.Proofs

open Sys2Proof Sys2Proof.Machine Sys2Proof.Safety Sys2Proof.Laws

/-! ## What placing leaves unchanged -/

/-- A state without its superblocks: what an operation on superblocks alone leaves unchanged. -/
def sansSbs (s : State) : State := { s with map := { s.map with sbs := [] } }

theorem eq_of_sansSbs {s t : State} (h : sansSbs t = sansSbs s) : t = { s with map := { s.map with sbs := t.map.sbs } } := by
  have e : { sansSbs t with map := { (sansSbs t).map with sbs := t.map.sbs } } = t := rfl
  rw [← e, h]
  rfl

theorem sansSbs_foldl {α : Type} {f : State → α → State} (hf : ∀ s x, sansSbs (f s x) = sansSbs s) (l : List α) (s : State) :
    sansSbs (l.foldl f s) = sansSbs s := by
  induction l generalizing s with
  | nil => rfl
  | cons x l ih => exact (ih (f s x)).trans (hf s x)

@[simp] theorem sansSbs_promote (g : Nat) (s : State) : sansSbs (promote g s) = sansSbs s := by
  unfold promote
  split <;> rfl

@[simp] theorem sansSbs_closeSb (n : Nat) (s : State) : sansSbs (closeSb n s) = sansSbs s := sansSbs_promote _ _

@[simp] theorem sansSbs_padSb (n : Nat) (s : State) : sansSbs (padSb n s) = sansSbs s := by
  unfold padSb
  split
  · rfl
  · split
    · rfl
    · exact sansSbs_closeSb n s

@[simp] theorem sansSbs_padWanted (s : State) : sansSbs (padWanted s) = sansSbs s :=
  sansSbs_foldl (fun s n => sansSbs_padSb n s) _ s

@[simp] theorem sansSbs_rowDone (n row : Nat) (s : State) : sansSbs (rowDone n row s) = sansSbs s := rfl

theorem findSb_updateSb_other {s : State} {n m : Nat} (h : m ≠ n) {f : Superblock → Superblock}
    (hf : ∀ b, (f b).number = b.number) : findSb (updateSb n f s) m = findSb s m :=
  (findSb_updateSb n m f hf s).trans (if_neg h)

theorem findSb_updateSb_self {s : State} {n : Nat} {b : Superblock} (hb : findSb s n = some b) {f : Superblock → Superblock}
    (hf : ∀ b, (f b).number = b.number) : findSb (updateSb n f s) n = some (f b) := by
  rw [findSb_updateSb n n f hf, if_pos rfl, hb]
  rfl

/-! ## Superblocks only grow while parts are placed -/

/-- Every superblock keeps its units, and more may follow them. -/
def UnitsGrow (s t : State) : Prop := ∀ n b, findSb s n = some b → ∃ y, findSb t n = some y ∧ b.units <+: y.units

theorem UnitsGrow.refl (s : State) : UnitsGrow s s := fun _ b hb => ⟨b, hb, List.prefix_refl _⟩

theorem UnitsGrow.trans {s t u : State} (h : UnitsGrow s t) (h' : UnitsGrow t u) : UnitsGrow s u := by
  intro n b hb
  obtain ⟨y, hy, hp⟩ := h n b hb
  obtain ⟨z, hz, hq⟩ := h' n y hy
  exact ⟨z, hz, hp.trans hq⟩

theorem UnitsGrow.updateSb (n : Nat) {f : Superblock → Superblock} (hn : ∀ b, (f b).number = b.number)
    (hf : ∀ b, b.units <+: (f b).units) (s : State) : UnitsGrow s (updateSb n f s) := by
  intro m b hb
  rw [findSb_updateSb n m f hn, hb]
  split
  · exact ⟨f b, rfl, hf b⟩
  · exact ⟨b, rfl, List.prefix_refl _⟩

theorem UnitsGrow.promote (g : Nat) (s : State) : UnitsGrow s (promote g s) := by
  unfold Machine.promote
  split
  · refine .updateSb _ ?_ ?_ s
    · exact fun _ => rfl
    · exact fun _ => List.prefix_refl _
  · exact .refl s

/-- A superblock as its close leaves it: the summary after its last unit, then the row padded (R178). -/
def closedSb (stamp : Nat) (b : Superblock) : Superblock :=
  let len := summaryUnits (runsOf b).length
  let b := { b with active := false, closeStamp := stamp, summaryStart := b.fill, summaryLength := len }
  let bytes := summaryBytesOf b
  padRow (appendUnits ((List.range len).map fun i =>
    let data : UnitData := BitVec.ofNat 32768 (leNat ((bytes.drop (i * 4096)).take 4096))
    { padUnit (b.fill + i) with part := len, kind := .summary, content := ⟨data, guardOf data, 0, false⟩ }) b)

theorem closeSb_eq (n : Nat) (s : State) : closeSb n s = promote (groupOf n) (updateSb n (closedSb (lastIssued s)) s) := rfl

theorem closedSb_units (stamp : Nat) (b : Superblock) : b.units <+: (closedSb stamp b).units :=
  (List.prefix_append _ _).trans (List.prefix_append _ _)

theorem UnitsGrow.closeSb (n : Nat) (s : State) : UnitsGrow s (closeSb n s) :=
  .trans (.updateSb n (f := closedSb (lastIssued s)) (fun _ => rfl) (closedSb_units _) s) (.promote _ _)

theorem UnitsGrow.padSb (n : Nat) (s : State) : UnitsGrow s (padSb n s) := by
  unfold Machine.padSb
  split
  · exact .refl s
  · split
    · exact .updateSb n (f := padRow) (fun _ => rfl) (fun _ => List.prefix_append _ _) s
    · exact .closeSb n s

theorem UnitsGrow.foldl {α : Type} {f : State → α → State} (hf : ∀ s x, UnitsGrow s (f s x)) (l : List α) (s : State) :
    UnitsGrow s (l.foldl f s) := by
  induction l generalizing s with
  | nil => exact .refl s
  | cons x l ih => exact (hf s x).trans (ih (f s x))

theorem UnitsGrow.padWanted (s : State) : UnitsGrow s (padWanted s) := .foldl (fun s n => .padSb n s) _ s

theorem unitAt_of_prefix {b y : Superblock} (h : b.units <+: y.units) {off : Nat} {u : FlashUnit}
    (hu : unitAt b off = some u) : unitAt y off = some u := List.IsPrefix.find?_eq_some h hu

/-! ## A write of one part (R156, R177, R205) -/

/-- A write within one 2 MiB unit has one part. -/
theorem writeParts_within {w : Write} (hk : w.kind = .write) (hl : 0 < w.len)
    (h : w.lba / 512 = (w.lba + w.len - 1) / 512) : writeParts w = [(0, w.len)] := by
  have hlo : max w.lba (w.lba / 512 * 512) = w.lba := by omega
  have hhi : min (w.lba + w.len) ((w.lba / 512 + 1) * 512) = w.lba + w.len := by omega
  simp [writeParts, hk, ← h, hlo, hhi, hl]

section OnePart

variable {s : State} {seq : Nat} {w : Write} (parity : Option PlaceParity)
  (hw : (s.ord.accepted.find? fun w => w.seq == seq) = some w)

include hw

theorem exec_writePlace_held (h : s.life.phase ≠ .service ∨ mayPlace s w = false ∨ placeTurn s w = false) :
    exec (.writePlace seq parity) s = .next s := by
  change execWritePlace seq parity s = _
  simp only [execWritePlace, hw, if_pos h]

variable (hp : s.life.phase = .service) (hm : mayPlace s w = true) (ht : placeTurn s w = true)
  (hparts : writeParts w = [(0, w.len)]) (hplaces : w.places = [])

include hp hm ht hparts hplaces

/-- The only part waits for overlay room: MAP_OVERLAY_FULL, once an episode. -/
theorem exec_writePlace_waits {cause : Nat} (h : overlayWait s w (0, w.len) = some cause) :
    exec (.writePlace seq parity) s = .next (beginOverlayEpisode cause s) := by
  have hwait : waitingPart s w = some cause := by simp [waitingPart, hparts, hplaces, h]
  have hov : overlayWait (beginOverlayEpisode cause s) w (0, w.len) = some cause := by
    unfold beginOverlayEpisode
    split <;> exact h
  have hnone : placeablePart (beginOverlayEpisode cause s) w = none := by simp [placeablePart, hparts, hov]
  change execWritePlace seq parity s = _
  simp only [execWritePlace, hw, hp, hm, ht, hwait, hnone]
  simp

/-- The only part is placed. -/
theorem exec_writePlace_places (h : overlayWait s w (0, w.len) = none) :
    let t := placeParity w (0, w.len) parity s
    exec (.writePlace seq parity) s = .next
      (padWanted (parityWritten (placePart ((t.ord.accepted.find? fun x => x.seq == seq).getD w) (0, w.len) t))) := by
  have hwait : waitingPart s w = none := by simp [waitingPart, hparts, hplaces, h]
  have hpart : placeablePart s w = some (0, w.len) := by simp [placeablePart, hparts, hplaces, h]
  change execWritePlace seq parity s = _
  simp only [execWritePlace, hw, hp, hm, ht, hwait, hpart]
  simp

end OnePart

/-! ## Where a part goes (R176 to R179) -/

/-- A superblock that takes units, noting the time of its first. -/
def filledSb (us : List FlashUnit) (now : Nat) (b : Superblock) : Superblock :=
  sendRows (appendUnits us { b with openedUs := if b.fill = 0 then now else b.openedUs })

/-- The active superblock of the next stripe group takes what fits. -/
theorem placeUnits_active {mk : State → Nat → List FlashUnit} {s : State} {b : Superblock} (hg : s.map.nextGroup < 32)
    (ha : activeOf s s.map.nextGroup = some b) (hb : findSb s b.number = some b) (hu : b.usable = true)
    (hf : unitsFit b (mk s b.fill) = true) :
    placeUnits mk s =
      ({ s with map := { s.map with
          sbs := (updateSb b.number (filledSb (mk s b.fill) s.clk.us) s).map.sbs
          nextGroup := (s.map.nextGroup + 1) % 32 } }, some (b.number, b.fill)) := by
  have hgroup : groupOf b.number = s.map.nextGroup := by
    have h := List.find?_some ha
    simp only [Bool.and_eq_true, beq_iff_eq] at h
    exact h.1.1.1
  have hhead : (List.range 32).map (fun i => (s.map.nextGroup + i) % 32) =
      s.map.nextGroup :: ((List.range 31).map Nat.succ).map fun i => (s.map.nextGroup + i) % 32 := by
    rw [List.range_succ_eq_map, List.map_cons, Nat.add_zero, Nat.mod_eq_of_lt hg]
  have hchoose (gs : List Nat) : chooseSb mk (s.map.nextGroup :: gs) s = (s, some b.number) := by
    simp only [chooseSb, ha, hf, if_true, hu, Bool.and_self]
  simp only [placeUnits, hhead, hchoose, hb, hgroup]
  rfl

/-- Units of consecutive offsets are found by their offset. -/
theorem find_off_range {g : Nat → FlashUnit} {c n k : Nat} (hg : ∀ i, (g i).off = c + i) (hk : k < n) :
    ((List.range n).map g).find? (fun u => u.off == c + k) = some (g k) := by
  have hfind : (List.range n).find? ((fun u => u.off == c + k) ∘ g) = some k := by
    rw [List.find?_range_eq_some]
    refine ⟨by simp [hg], List.mem_range.mpr hk, fun j hj => ?_⟩
    simp only [Function.comp, hg, Bool.not_eq_true', beq_eq_false_iff_ne]
    omega
  rw [List.find?_map, hfind]
  rfl

theorem unitAt_filledSb {b : Superblock} {g : Nat → FlashUnit} {n k : Nat} (now : Nat) (hg : ∀ i, (g i).off = b.fill + i)
    (hb : ∀ u ∈ b.units, u.off < b.fill) (hk : k < n) :
    unitAt (filledSb ((List.range n).map g) now b) (b.fill + k) = some (g k) := by
  have hold : b.units.find? (fun u => u.off == b.fill + k) = none := by
    rw [List.find?_eq_none]
    intro u hu
    have := hb u hu
    simp only [beq_iff_eq]
    omega
  change (b.units ++ (List.range n).map g).find? (fun u => u.off == b.fill + k) = _
  rw [List.find?_append, hold, find_off_range hg hk]
  rfl

theorem parityWritten_unarmed {s : State} (h : s.sram.flipMask.getLsbD 31 = false) : parityWritten s = s := by
  unfold parityWritten
  rw [h]
  rfl

/-- The write of sequence number `seq` as found after its kind of change. -/
theorem find_updateWrite {s : State} {seq : Nat} {w : Write} {f : Write → Write} (hf : ∀ v, (f v).seq = v.seq)
    (hw : (s.ord.accepted.find? fun w => w.seq == seq) = some w) :
    ((updateWrite seq f s).ord.accepted.find? fun w => w.seq == seq) = some (f w) := by
  have h := find_changeWhere Write.seq seq seq f hf s.ord.accepted
  rw [if_pos rfl, hw] at h
  exact h

section NormalPart

variable {s : State} {seq : Nat} {w : Write}
  (hw : (s.ord.accepted.find? fun w => w.seq == seq) = some w) (hkind : w.kind = .write)

/-- Unit `k` of a write that is placed whole in a superblock. -/
def wholeUnit (s : State) (w : Write) (b : Superblock) (k : Nat) : FlashUnit :=
  ⟨b.fill + k, w.seq, w.lba + k, w.ns, sourceField w, 0, w.len, .write, keyGenOf s w.ns, (w.units[k]?).getD zeroUnit⟩

include hw hkind

theorem placePart_active {b : Superblock} (hg : s.map.nextGroup < 32)
    (ha : activeOf s s.map.nextGroup = some b) (hb : findSb s b.number = some b) (hu : b.usable = true)
    (hf : unitsFit b ((List.range w.len).map (wholeUnit s w b)) = true) :
    placePart w (0, w.len) s = { s with
      ord := (updateWrite seq (fun v => { v with places := v.places ++ [⟨b.number, b.fill, 0, w.len⟩] }) s).ord
      map := { s.map with
        sbs := (updateSb b.number (filledSb ((List.range w.len).map (wholeUnit s w b)) s.clk.us) s).map.sbs
        nextGroup := (s.map.nextGroup + 1) % 32 } } := by
  have hseq : w.seq = seq := by simpa using List.find?_some hw
  have hmk : ((List.range w.len).map fun i => writeUnit s w w.len (b.fill + i) (0 + i)) =
      (List.range w.len).map (wholeUnit s w b) := by
    simp [writeUnit, wholeUnit, hkind]
  have hplace := placeUnits_active (mk := fun s off => (List.range w.len).map fun i => writeUnit s w w.len (off + i) (0 + i))
    hg ha hb hu (by rw [hmk]; exact hf)
  simp only [placePart, hplace, hmk, hseq]
  rfl

end NormalPart

/-! ## Byte parity on the way to placement (R28, R253, R254) -/

theorem find_and {α : Type} {l : List α} {p q : α → Bool} {a : α} (h : l.find? p = some a) (hq : q a = true) :
    l.find? (fun x => p x && q x) = some a := by
  rw [List.find?_eq_some_iff_append] at h ⊢
  obtain ⟨hp, as, bs, hl, has⟩ := h
  exact ⟨by simp [hp, hq], as, bs, hl, fun x hx => by have := has x hx; simp_all⟩

section Parity

/-- The unit that a place parity failure of a stage is recorded at. -/
def stageUnit (stage : Nat) : UnitId := blockUnit (if stage = 8 then 8 else if stage = 9 then 0xA else 0xB)

/-- A failed parity check of unit `x.unit` of a write, logged with its retries. -/
def parityLogged (w : Write) (x : PlaceParity) (s : State) : State :=
  busParity x.stage (stageUnit x.stage) (stageUnit x.stage) x.lane (min x.fails 2) (if 3 ≤ x.fails then 1 else 0)
    ((w.lba + x.unit) % 2 ^ 32) s

variable {s : State} {seq : Nat} {w : Write} {x : PlaceParity}
  (hw : (s.ord.accepted.find? fun w => w.seq == seq) = some w)
  (hlen : x.unit < w.len) (hunits : x.unit < w.units.length)

theorem parityLogged_frame : parityLogged w x s = { s with
    st := (parityLogged w x s).st
    evr := (logEvent 0x0605 (stageUnit x.stage) (evData [(1, x.stage), (1, x.lane), (1, min x.fails 2),
      (1, if 3 ≤ x.fails then 1 else 0), (4, (w.lba + x.unit) % 2 ^ 32)]) s).evr
    pins := (logEvent 0x0605 (stageUnit x.stage) (evData [(1, x.stage), (1, x.lane), (1, min x.fails 2),
      (1, if 3 ≤ x.fails then 1 else 0), (4, (w.lba + x.unit) % 2 ^ 32)]) s).pins } :=
  startTest_frame _ _ _

include hlen hunits in
theorem placeParity_inside : placeParity w (0, w.len) (some x) s =
    if 3 ≤ x.fails then loseUnit w.seq x.unit (parityLogged w x s) else parityLogged w x s := by
  have hin : 0 ≤ x.unit ∧ x.unit < 0 + w.len ∧ x.unit < w.units.length := ⟨Nat.zero_le _, by omega, hunits⟩
  exact if_pos hin

include hw hunits in
/-- A unit of a write not yet programmed is lost, logged, and its block tested. -/
theorem loseUnit_eq (hprog : w.programmed = false) : loseUnit seq x.unit s =
    startTest (blockUnit 0xA) 0x0604 (guardMismatch (blockUnit 0xA) (w.lba + x.unit) w.ns 0 1
      (updateWrite seq (fun w => { w with units := w.units.modify x.unit lostUnit }) s)) := by
  have hfind : (s.ord.accepted.find? fun w => w.seq == seq && !w.programmed && decide (x.unit < w.units.length)) = some w :=
    find_and (find_and hw (by simp [hprog])) (decide_eq_true hunits)
  simp only [loseUnit, hfind]

theorem parityLogged_ord : (parityLogged w x s).ord = s.ord := by rw [parityLogged_frame]

include hw hlen hunits in
theorem placeParity_logged (hprog : w.programmed = false) :
    Logged ((0x0605, blockUnit (if x.stage = 8 then 8 else if x.stage = 9 then 0xA else 0xB), evData [(1, x.stage),
      (1, x.lane), (1, min x.fails 2), (1, if 3 ≤ x.fails then 1 else 0), (4, (w.lba + x.unit) % 2 ^ 32)]) ::
      if 3 ≤ x.fails then [(0x0604, blockUnit 0xA, evData [(5, w.lba + x.unit), (1, w.ns), (1, 0), (1, 1)])] else [])
      s (placeParity w (0, w.len) (some x) s) := by
  have hseq : w.seq = seq := by simpa using List.find?_some hw
  rw [placeParity_inside hlen hunits]
  by_cases h : 3 ≤ x.fails
  · rw [if_pos h, hseq, loseUnit_eq (by rw [parityLogged_ord]; exact hw) hunits hprog, startTest_frame, parityLogged_frame]
    simp only [if_pos h]
    exact ⟨rfl, rfl⟩
  · rw [if_neg h, parityLogged_frame]
    simp only [if_neg h]
    exact ⟨rfl, rfl⟩

include hw hlen hunits in
theorem placeParity_write (hprog : w.programmed = false) :
    ∃ u, ((placeParity w (0, w.len) (some x) s).ord.accepted.find? fun w => w.seq == seq) = some u ∧
      (3 ≤ x.fails → ∃ d, u.units[x.unit]? = some d ∧ d.lost = true) ∧ (x.fails < 3 → u.units = w.units) := by
  have hseq : w.seq = seq := by simpa using List.find?_some hw
  have hlogged : ((parityLogged w x s).ord.accepted.find? fun w => w.seq == seq) = some w := by
    rw [parityLogged_ord]
    exact hw
  rw [placeParity_inside hlen hunits]
  by_cases h : 3 ≤ x.fails
  · rw [if_pos h, hseq, loseUnit_eq hlogged hunits hprog, startTest_frame]
    refine ⟨_, find_updateWrite (fun _ => rfl) hlogged, fun _ => ⟨lostUnit w.units[x.unit], ?_, rfl⟩, fun h' => by omega⟩
    simp [hunits]
  · rw [if_neg h]
    exact ⟨w, hlogged, fun h' => absurd h' h, fun _ => rfl⟩

end Parity

/-- The units of a write stay while a part of it is placed. -/
theorem placePart_find {s : State} {seq : Nat} {w v : Write} (p : Nat × Nat)
    (hw : (s.ord.accepted.find? fun w => w.seq == seq) = some w) :
    ∃ u, ((placePart v p s).ord.accepted.find? fun w => w.seq == seq) = some u ∧ u.units = w.units := by
  have hk (mk : State → Nat → List FlashUnit) : (placeUnits mk s).1.ord = s.ord := (placeUnits_keep mk s).ord rfl
  unfold placePart
  dsimp only
  split
  next t heq =>
    have hord : t.ord = s.ord := by
      rw [← hk, heq]
    exact ⟨w, by rw [hord]; exact hw, rfl⟩
  next t n off heq =>
    have hord : t.ord = s.ord := by
      rw [← hk, heq]
    have hfind := find_changeWhere Write.seq v.seq seq
      (fun w => { w with places := w.places ++ [⟨n, off, p.1, p.2⟩] }) (fun _ => rfl) t.ord.accepted
    rw [hord, hw] at hfind
    simp only [updateWrite, hord, hfind]
    split
    · exact ⟨_, rfl, rfl⟩
    · exact ⟨_, rfl, rfl⟩

/-! ## Closing a superblock (R178, R179, R183) -/

theorem padRow_fill_mod {b : Superblock} (h : 0 < rowUnits b) : (padRow b).fill % rowUnits b = 0 := by
  have hfill : (padRow b).fill = b.fill + (rowUnits b - b.fill % rowUnits b) % rowUnits b := by
    simp [padRow, sendRows, appendUnits, padUnits]
  have hlt := Nat.mod_lt b.fill h
  rw [hfill, Nat.add_mod, Nat.mod_mod]
  by_cases hz : b.fill % rowUnits b = 0
  · simp [hz]
  · rw [Nat.mod_eq_of_lt (a := rowUnits b - b.fill % rowUnits b) (by omega)]
    rw [show b.fill % rowUnits b + (rowUnits b - b.fill % rowUnits b) = rowUnits b by omega, Nat.mod_self]

theorem mem_rowsSent_sendRows {b : Superblock} {r : Nat} (h : r < b.fill / rowUnits b) : r ∈ (sendRows b).rowsSent := by
  by_cases hr : r ∈ b.rowsSent
  · exact List.mem_append_left _ hr
  · exact List.mem_append_right _ (List.mem_filter.mpr ⟨List.mem_range.mpr h, by simpa using hr⟩)

theorem closedSb_fill_le (stamp : Nat) (b : Superblock) :
    b.fill + summaryUnits (runsOf b).length ≤ (closedSb stamp b).fill := by
  simp [closedSb, padRow, sendRows, appendUnits]

theorem closing_closedSb (stamp : Nat) (b : Superblock) : closing (closedSb stamp b) = true := by
  have hlen : (closedSb stamp b).summaryLength = (320 + 16 * (runsOf b).length + 4095) / 4096 := rfl
  have hpos : (320 + 16 * (runsOf b).length + 4095) / 4096 ≠ 0 := by omega
  simp [closing, hlen, hpos]

/-- The standby that becomes active is no superblock whose summary is placed. -/
theorem findSb_promote {g n : Nat} {s : State} (h : ∀ b ∈ s.map.sbs, b.number = n → closing b = true) :
    findSb (promote g s) n = findSb s n := by
  unfold promote
  split
  next b hb =>
    have hopen := List.find?_some hb
    have hne : n ≠ b.number := fun e => by
      have := h b (List.mem_of_find?_eq_some hb) e.symm
      simp [this] at hopen
    rw [findSb_updateSb_other hne]
    exact fun _ => rfl
  next => rfl

theorem findSb_closeSb {s : State} {n : Nat} {b : Superblock} (hb : findSb s n = some b) :
    findSb (closeSb n s) n = some (closedSb (lastIssued s) b) := by
  rw [closeSb_eq, findSb_promote, findSb_updateSb_self hb (f := closedSb (lastIssued s)) (fun _ => rfl)]
  · intro x hx hn
    obtain ⟨y, hy, rfl⟩ := List.mem_map.mp hx
    by_cases hyn : (y.number == n) = true
    · simp only [if_pos hyn]
      exact closing_closedSb _ _
    · simp only [if_neg hyn] at hn
      simp [hn] at hyn

theorem exec_superblockAgeTimeout {s : State} {sb : Nat} {b : Superblock} (hb : findSb s sb = some b) :
    exec (.superblockAgeTimeout sb) s = .next
      (if s.life.phase = .service ∧ b.state = .granted ∧ b.active = true ∧ closing b = false ∧ 0 < b.fill then closeSb sb s
        else s) := by
  change execSuperblockAgeTimeout sb s = _
  simp only [execSuperblockAgeTimeout, hb, Bool.and_eq_true, beq_iff_eq, Bool.not_eq_true', decide_eq_true_eq, and_assoc]

theorem closing_iff (b : Superblock) : closing b = true ↔ b.summaryLength ≠ 0 ∨ b.noSummary = true := by
  simp [closing]

end Sys2Proof.Proofs
end

section
/-! The map's tables and the settling of writes into the map, as O41 and O42 use them. -/

namespace Sys2Proof.Proofs

open Sys2Proof Sys2Proof.Machine Sys2Proof.Safety Sys2Proof.Laws

/-! ## What an update of the map leaves unchanged (R173, R174, R180) -/

/-- A state without the tables of the map and the accepted writes: what an update of the map leaves unchanged. -/
def sansTables (s : State) : State :=
  { s with ord := { s.ord with accepted := [] }, map := { s.map with segments := [], overlay := [], mapLost := [] } }

theorem eq_of_sansTables {s t : State} (h : sansTables t = sansTables s) : t = { s with
    ord := { s.ord with accepted := t.ord.accepted }
    map := { s.map with segments := t.map.segments, overlay := t.map.overlay, mapLost := t.map.mapLost } } := by
  have e : { sansTables t with
      ord := { (sansTables t).ord with accepted := t.ord.accepted }
      map := { (sansTables t).map with
        segments := t.map.segments, overlay := t.map.overlay, mapLost := t.map.mapLost } } = t := rfl
  rw [← e, h]
  rfl

theorem sansTables_foldl {α : Type} {f : State → α → State} (hf : ∀ s x, sansTables (f s x) = sansTables s) (l : List α)
    (s : State) : sansTables (l.foldl f s) = sansTables s := by
  induction l generalizing s with
  | nil => rfl
  | cons x l ih => exact (ih (f s x)).trans (hf s x)

/-- An update that may have to wait for overlay room changes tables alone. -/
def TablesOnly (f : State → Option State) : Prop := ∀ s t, f s = some t → sansTables t = sansTables s

theorem TablesOnly.foldl {α : Type} {f : α → State → Option State} (hf : ∀ x, TablesOnly (f x)) (l : List α) :
    ∀ o : Option State, ∀ t, l.foldl (fun o x => o.bind fun s => f x s) o = some t →
      ∃ s, o = some s ∧ sansTables t = sansTables s := by
  induction l with
  | nil => exact fun o t h => ⟨t, h, rfl⟩
  | cons x l ih =>
    intro o t h
    obtain ⟨u, hu, htu⟩ := ih _ t h
    obtain ⟨s, rfl, hs⟩ := Option.bind_eq_some_iff.mp hu
    exact ⟨s, rfl, htu.trans (hf x s u hs)⟩

@[simp] theorem sansTables_putSeg (e : SegEntry) (s : State) : sansTables (putSeg e s) = sansTables s := rfl

theorem putOverlay_tables (seg i sb off seq : Nat) : TablesOnly (putOverlay seg i sb off seq) := by
  intro s t h
  unfold putOverlay at h
  dsimp only at h
  split at h
  · cases h
  · cases h
    rfl

@[simp] theorem sansTables_dropOverlay (seg : Nat) (p : OvlEntry → Bool) (s : State) :
    sansTables (dropOverlay seg p s) = sansTables s := by
  unfold dropOverlay
  dsimp only
  split
  · rfl
  · split <;> rfl

@[simp] theorem sansTables_mapSegment (seg sb off seq : Nat) (p : OvlEntry → Bool) (s : State) :
    sansTables (mapSegment seg sb off seq p s) = sansTables s := sansTables_dropOverlay seg p s

@[simp] theorem sansTables_unmapSegment (seg seq : Nat) (s : State) :
    sansTables (unmapSegment seg seq s) = sansTables s := sansTables_dropOverlay seg _ s

theorem mapPart_tables (n : Namespace) (w : Write) (p : Place) : TablesOnly (mapPart n w p) := by
  intro s t h
  obtain ⟨u, hu, htu⟩ := TablesOnly.foldl (fun k => putOverlay_tables _ _ _ _ _) _ _ t h
  cases hu
  rw [htu]
  exact sansTables_foldl (fun s k => sansTables_mapSegment _ _ _ _ _ s) _ s

theorem mapWrite_tables (w : Write) : TablesOnly (mapWrite w) := by
  intro s t h
  unfold mapWrite at h
  split at h
  · cases h
    rfl
  · split at h
    · cases h
      rfl
    · split at h
      · cases h
        exact sansTables_foldl (fun s r => sansTables_foldl (fun s l => sansTables_unmapSegment _ _ s) _ s) _ s
      · obtain ⟨u, hu, htu⟩ := TablesOnly.foldl (fun k => putOverlay_tables _ _ _ _ _) _ _ t h
        cases hu
        exact htu
      · obtain ⟨u, hu, htu⟩ := TablesOnly.foldl (fun p => mapPart_tables _ w p) _ _ t h
        cases hu
        exact htu

theorem sansTables_settleFrom (l : List Write) (earlier : List Write) (s : State) :
    sansTables (settleFrom earlier l s) = sansTables s := by
  induction l generalizing earlier s with
  | nil => rfl
  | cons w l ih =>
    unfold settleFrom
    dsimp only
    split
    · split
      next u hu =>
        have hu := mapWrite_tables w s u hu
        split
        · exact (ih _ u).trans hu
        · exact (ih _ u).trans hu
      next => exact ih _ s
    · split
      · exact ih _ s
      · exact ih _ s

/-! ## What settling leaves of the accepted writes -/

/-- What stays of an accepted write is the write, its update made or not. -/
theorem mem_settleFrom (l : List Write) (earlier : List Write) (s : State) (v : Write)
    (h : v ∈ (settleFrom earlier l s).ord.accepted) : v ∈ earlier ∨ ∃ w ∈ l, v = w ∨ v = { w with applied := true } := by
  induction l generalizing earlier s with
  | nil => exact .inl h
  | cons w l ih =>
    have step {e : List Write} {u : State} (he : ∀ x ∈ e, x ∈ earlier ∨ x = w ∨ x = { w with applied := true })
        (h : v ∈ (settleFrom e l u).ord.accepted) :
        v ∈ earlier ∨ ∃ x ∈ w :: l, v = x ∨ v = { x with applied := true } := by
      rcases ih e u h with hv | ⟨x, hx, hv⟩
      · rcases he v hv with hv | hv
        · exact .inl hv
        · exact .inr ⟨w, List.mem_cons_self, hv⟩
      · exact .inr ⟨x, List.mem_cons_of_mem _ hx, hv⟩
    have same : ∀ x ∈ earlier, x ∈ earlier ∨ x = w ∨ x = { w with applied := true } := fun x hx => .inl hx
    have kept : ∀ x ∈ earlier ++ [w], x ∈ earlier ∨ x = w ∨ x = { w with applied := true } := by
      intro x hx
      rcases List.mem_append.mp hx with hx | hx
      · exact .inl hx
      · exact .inr (.inl (List.mem_singleton.mp hx))
    have marked : ∀ x ∈ earlier ++ [{ w with applied := true }], x ∈ earlier ∨ x = w ∨ x = { w with applied := true } := by
      intro x hx
      rcases List.mem_append.mp hx with hx | hx
      · exact .inl hx
      · exact .inr (.inr (List.mem_singleton.mp hx))
    unfold settleFrom at h
    dsimp only at h
    split at h
    · split at h
      · split at h
        · exact step same h
        · exact step marked h
      · exact step kept h
    · split at h
      · exact step same h
      · exact step kept h

/-- No write's record waits for the journal. -/
def NoRecords (ws : List Write) : Prop := ∀ w ∈ ws, w.kind ≠ .deallocate ∧ w.kind ≠ .secureDiscard

theorem recordAll_none {s : State} (h : NoRecords s.ord.accepted) : recordAll s = s := by
  refine foldl_id_of_forall fun w hw => if_neg ?_
  obtain ⟨hd, hs⟩ := h w hw
  simp [recordDue, hd, hs]

theorem settleMap_noRecords {s : State} (h : NoRecords s.ord.accepted) : settleMap s = settleFrom [] s.ord.accepted s := by
  simp only [settleMap, recordAll_none h]

theorem settleMap_nothing {s : State} (h : s.ord.accepted = []) : settleMap s = s := by
  rw [settleMap_noRecords (by rw [h]; exact fun _ hw => absurd hw List.not_mem_nil), h]
  change { s with ord := { s.ord with accepted := [] } } = s
  rw [← h]

/-! ## Resolving (R175) -/

/-- What resolving reads: the namespaces and the map's tables. -/
structure SameTables (s t : State) : Prop where
  namespaces : t.nv.namespaces = s.nv.namespaces
  segments : t.map.segments = s.map.segments
  overlay : t.map.overlay = s.map.overlay
  mapLost : t.map.mapLost = s.map.mapLost

theorem SameTables.segEntry {s t : State} (h : SameTables s t) (seg : Nat) : segEntry t seg = segEntry s seg := by
  simp only [Machine.segEntry, h.segments]

theorem SameTables.resolveMap {s t : State} (h : SameTables s t) (ns lba : Nat) :
    resolveMap t ns lba = resolveMap s ns lba := by
  simp only [Machine.resolveMap, findNs, h.namespaces, h.mapLost, h.segEntry, overlayEntry, h.overlay]

theorem segEntry_putSeg_self {e : SegEntry} {seg : Nat} (h : e.seg = seg) (s : State) : segEntry (putSeg e s) seg = e := by
  simp [segEntry, putSeg, h]

theorem segEntry_putSeg_other {e : SegEntry} {seg : Nat} (h : seg ≠ e.seg) (s : State) :
    segEntry (putSeg e s) seg = segEntry s seg := by
  have hne : (e.seg == seg) = false := by simpa using Ne.symm h
  have hfind : (s.map.segments.filter fun x => x.seg != e.seg).find? (fun x => x.seg == seg) =
      s.map.segments.find? fun x => x.seg == seg := by
    rw [List.find?_filter]
    congr 1
    funext x
    by_cases hx : x.seg = seg
    · simp [hx, h]
    · simp [hx]
  simp only [segEntry, putSeg, List.find?_cons, hne, hfind]

theorem segEntry_seg (s : State) (seg : Nat) : (segEntry s seg).seg = seg := by
  unfold segEntry
  split
  next e he => simpa using List.find?_some he
  next => rfl

/-- With all its overlay entries dropped a segment holds none. -/
theorem segEntry_dropOverlay_all (seg : Nat) (s : State) :
    segEntry (dropOverlay seg (fun _ => true) s) seg =
      if (segEntry s seg).overlaid = false then segEntry s seg
      else { segEntry s seg with overlaid := false, ovlNumber := 0 } := by
  unfold dropOverlay
  dsimp only
  split
  next => rfl
  next =>
    have hnone : ((s.map.overlay.filter fun x => !(x.ovlNumber == (segEntry s seg).ovlNumber && true)).any fun x =>
        x.ovlNumber == (segEntry s seg).ovlNumber) = false := by
      rw [List.any_eq_false]
      intro x hx
      have := (List.mem_filter.mp hx).2
      simpa using this
    rw [if_neg (by rw [hnone]; simp)]
    apply segEntry_putSeg_self
    exact segEntry_seg s seg

theorem segEntry_mapSegment (seg sb off seq : Nat) (s : State) :
    let e := segEntry (mapSegment seg sb off seq (fun _ => true) s) seg
    e.mapped = true ∧ e.overlaid = false ∧ e.sb = sb ∧ e.off = off := by
  have hclear : (segEntry (dropOverlay seg (fun _ => true) s) seg).overlaid = false := by
    rw [segEntry_dropOverlay_all]
    split
    next h => exact h
    next => rfl
  have hentry (e : SegEntry) (h : e.seg = seg) (t : State) (lost : List Nat) :
      segEntry { putSeg e t with map := { (putSeg e t).map with mapLost := lost } } seg = e := segEntry_putSeg_self h t
  intro e
  have he : e = { segEntry (dropOverlay seg (fun _ => true) s) seg with
      sb := sb, off := off, mapped := true, foldPending := false, seq := seq } := by
    apply hentry
    exact segEntry_seg _ seg
  rw [he]
  exact ⟨rfl, hclear, rfl, rfl⟩

/-- A segment mapped whole with its overlay entries dropped reads from its place. -/
theorem resolveMap_mapSegment {s : State} {ns lba : Nat} {n : Namespace} (hn : findNs s ns = some n) (sb off seq : Nat) :
    resolveMap (mapSegment (segIndex n lba) sb off seq (fun _ => true) s) ns lba = .flash sb (off + lba % 256) := by
  have hns : findNs (mapSegment (segIndex n lba) sb off seq (fun _ => true) s) ns = some n := by
    rw [eq_of_sansTables (sansTables_mapSegment (segIndex n lba) sb off seq (fun _ => true) s)]
    exact hn
  have hlost : (mapSegment (segIndex n lba) sb off seq (fun _ => true) s).map.mapLost.contains (segIndex n lba) = false := by
    simp [mapSegment]
  obtain ⟨hmapped, hclear, hsb, hoff⟩ := segEntry_mapSegment (segIndex n lba) sb off seq s
  simp only [resolveMap, hns, hlost, hmapped, hclear, hsb, hoff, Bool.false_eq_true, if_false, if_true]

end Sys2Proof.Proofs
end

section
/-! Proofs about programmed rows (O41). -/

namespace Sys2Proof.Proofs

open Sys2Proof Sys2Proof.Machine Sys2Proof.Safety Sys2Proof.Laws

/-! ## Die temperatures (R217) -/

/-- The last temperature reading of a die. -/
def tempOf (s : State) (die : Nat) : Option Int := (findDie s die).map (·.temp)

/-- A state without its dies, hot or not, and its events: what a temperature reading leaves unchanged. -/
def sansTemps (s : State) : State := { s with
  med := { s.med with dies := [] }
  thm := { s.thm with hotDies := [] }
  evr := State.reset.evr, pins := State.reset.pins }

@[simp] theorem sansTemps_takeDieTemp (die : Nat) (v : Int) (s : State) : sansTemps (takeDieTemp die v s) = sansTemps s := by
  unfold takeDieTemp
  dsimp only
  split
  · rfl
  · split <;> rfl

theorem tempOf_takeDieTemp (die j : Nat) (v : Int) (s : State) :
    tempOf (takeDieTemp die v s) j = if j = die then (tempOf s j).map (fun _ => v) else tempOf s j := by
  have hdies : findDie (takeDieTemp die v s) j =
      findDie (updateDie die (fun d => { d with temp := v, tempUs := s.clk.us }) s) j := by
    unfold takeDieTemp
    dsimp only
    split
    · rfl
    · split <;> rfl
  rw [tempOf, hdies, findDie_updateDie die j (fun d => { d with temp := v, tempUs := s.clk.us }) (fun _ => rfl) s]
  split
  · simp only [tempOf, Option.map_map]
    rfl
  · rfl

/-- The readings of the members on consecutive channels. -/
def readFrom (b : Superblock) (l : List Int) (k : Nat) (s : State) : State :=
  (l.zipIdx k).foldl (fun s x => if b.leftOut.contains x.2 then s else takeDieTemp (memberDie b x.2) x.1 s) s

theorem sansTemps_readFrom (b : Superblock) (l : List Int) (k : Nat) (s : State) : sansTemps (readFrom b l k s) = sansTemps s := by
  induction l generalizing k s with
  | nil => rfl
  | cons v l ih =>
    refine (ih (k + 1) _).trans ?_
    dsimp only
    split
    · rfl
    · exact sansTemps_takeDieTemp _ _ s

theorem memberDie_inj (b : Superblock) {c d : Nat} (h : memberDie b c = memberDie b d) : c = d := by
  simp only [memberDie] at h
  omega

/-- A reading on another channel leaves a member's reading. -/
theorem tempOf_step_other (b : Superblock) {c k : Nat} (h : c ≠ k) (v : Int) (s : State) :
    tempOf (if b.leftOut.contains k then s else takeDieTemp (memberDie b k) v s) (memberDie b c) = tempOf s (memberDie b c) := by
  split
  · rfl
  · rw [tempOf_takeDieTemp, if_neg fun e => h (memberDie_inj b e)]

theorem tempOf_readFrom_before (b : Superblock) {c : Nat} (l : List Int) (k : Nat) (s : State) (h : c < k) :
    tempOf (readFrom b l k s) (memberDie b c) = tempOf s (memberDie b c) := by
  induction l generalizing k s with
  | nil => rfl
  | cons v l ih => exact (ih (k + 1) _ (by omega)).trans (tempOf_step_other b (by omega) v s)

theorem tempOf_readFrom (b : Superblock) {c : Nat} (hc : c ∉ b.leftOut) {v : Int} (l : List Int) (k i : Nat) (s : State)
    (hk : c = k + i) (hv : l[i]? = some v) (hd : tempOf s (memberDie b c) ≠ none) :
    tempOf (readFrom b l k s) (memberDie b c) = some v := by
  induction l generalizing k i s with
  | nil => simp at hv
  | cons x l ih =>
    cases i with
    | zero =>
      cases hv
      have hck : c = k := hk
      obtain ⟨u, hu⟩ := Option.ne_none_iff_exists'.mp hd
      refine (tempOf_readFrom_before b l (k + 1) _ (by omega)).trans ?_
      subst hck
      dsimp only
      rw [if_neg (by simpa using hc), tempOf_takeDieTemp, if_pos rfl, hu]
      rfl
    | succ i =>
      refine ih (k + 1) i _ (by omega) (by simpa using hv) ?_
      dsimp only
      rw [tempOf_step_other b (by omega)]
      exact hd

theorem memberTemps_getElem (s : State) (g : Nat) {c : Nat} (hc : c < 32) {v : Int} (h : tempOf s (c * 32 + g) = some v) :
    (memberTemps s g)[c]? = some v := by
  obtain ⟨d, hd, hv⟩ := Option.map_eq_some_iff.mp h
  simp [memberTemps, hc, hd, hv]

/-! ## Waiting reads that go on (R115) -/

/-- A state without its commands, its unit reads and its dies: what resolving reads leaves unchanged. -/
def sansReads (s : State) : State := { s with
  nv := { s.nv with cmds := [] }, med := { s.med with dies := [] }, intg := State.reset.intg }

/-- Only commands, unit reads and dies change, and no die's temperature reading. -/
def ReadsOnly (s t : State) : Prop := sansReads t = sansReads s ∧ ∀ j, tempOf t j = tempOf s j

theorem ReadsOnly.foldl {α : Type} {f : State → α → State} (hf : ∀ s x, ReadsOnly s (f s x)) (l : List α) (s : State) :
    ReadsOnly s (l.foldl f s) := by
  induction l generalizing s with
  | nil => exact ⟨rfl, fun _ => rfl⟩
  | cons x l ih =>
    obtain ⟨hrest, htemps⟩ := ih (f s x)
    obtain ⟨hrest', htemps'⟩ := hf s x
    exact ⟨hrest.trans hrest', fun j => (htemps j).trans (htemps' j)⟩

theorem startUnitRead_readsOnly (r : Reader) (ns lba sb off : Nat) (s : State) :
    ReadsOnly s (startUnitRead r ns lba sb off s) := by
  unfold startUnitRead
  split
  · exact ⟨rfl, fun _ => rfl⟩
  · dsimp only
    refine ⟨rfl, fun j => ?_⟩
    rw [tempOf, findDie_updateDie _ _ (inForce _ _) (fun _ => rfl)]
    split
    · rw [Option.map_map]
      rfl
    · rfl

theorem resolveRead_readsOnly (c : Cmd) (s : State) : ReadsOnly s (resolveRead c s) := by
  unfold resolveRead
  dsimp only
  split
  · exact ⟨rfl, fun _ => rfl⟩
  · refine ReadsOnly.foldl (fun u x => ?_) _ _
    split
    · exact startUnitRead_readsOnly _ _ _ _ _ u
    · exact ⟨rfl, fun _ => rfl⟩

theorem retryReads_readsOnly (s : State) : ReadsOnly s (retryReads s) :=
  ReadsOnly.foldl (fun s c => resolveRead_readsOnly c s) _ s

/-! ## A row and its parity programmed (R147, R179, R183) -/

/-- A superblock once a row of it is programmed. -/
def doneSb (row : Nat) (temps : List Int) (now : Clock) (b : Superblock) : Superblock :=
  let first := b.rowsDone.isEmpty
  { b with
    rowsDone := b.rowsDone ++ [row]
    firstUs := if first then some now.us else b.firstUs
    firstUtc := if first then now.utc else b.firstUtc
    firstTemps := if first then temps else b.firstTemps
    lastTemps := temps
    reads := [] }

theorem rowDone_eq (n row : Nat) (s : State) :
    rowDone n row s = updateSb n (doneSb row (memberTemps s (groupOf n)) s.clk) s := rfl

theorem findSb_rowDone {s : State} {n : Nat} {b : Superblock} (row : Nat) (hb : findSb s n = some b) :
    findSb (rowDone n row s) n = some (doneSb row (memberTemps s (groupOf n)) s.clk b) :=
  findSb_updateSb_self hb (f := doneSb row (memberTemps s (groupOf n)) s.clk) (fun _ => rfl)

/-- A first program notes its time and the temperatures of its members. -/
theorem doneSb_first (row : Nat) (temps : List Int) (now : Clock) {b : Superblock} (h : b.rowsDone = []) :
    (doneSb row temps now b).firstUs = some now.us ∧ (doneSb row temps now b).firstUtc = now.utc ∧
      (doneSb row temps now b).firstTemps = (doneSb row temps now b).lastTemps := by
  simp [doneSb, h]

/-! ## Writes found programmed (R147, R180) -/

/-- The rows programmed and the layouts are the same. -/
def SameRows (s t : State) : Prop :=
  ∀ n, (findSb t n).map (fun b => (b.leftOut, b.rowsDone)) = (findSb s n).map fun b => (b.leftOut, b.rowsDone)

theorem SameRows.of_sbs {s t : State} (h : t.map.sbs = s.map.sbs) : SameRows s t := fun n => by simp only [findSb, h]

theorem SameRows.rowsProgrammed {s t : State} (h : SameRows s t) (p : Place) : rowsProgrammed t p = rowsProgrammed s p := by
  have hp := h p.sb
  unfold Machine.rowsProgrammed
  cases hs : findSb s p.sb with
  | none =>
    rw [hs, Option.map_none, Option.map_eq_none_iff] at hp
    rw [hp]
  | some b =>
    rw [hs, Option.map_some, Option.map_eq_some_iff] at hp
    obtain ⟨y, hy, he⟩ := hp
    simp only [Prod.mk.injEq] at he
    simp only [hy, rowOf, rowUnits, he.1, he.2]

theorem SameRows.isProgrammed {s t : State} (h : SameRows s t) (w : Write) : isProgrammed t w = isProgrammed s w := by
  have hrows : Machine.rowsProgrammed t = Machine.rowsProgrammed s := funext h.rowsProgrammed
  simp only [Machine.isProgrammed, hrows]

/-- A state with these writes accepted. -/
def withAccepted (ws : List Write) (s : State) : State := { s with ord := { s.ord with accepted := ws } }

/-- The accepted writes with those marked that are found programmed. -/
def markedWrites (s : State) : List Write :=
  s.ord.accepted.map fun w => if isProgrammed s w then { w with programmed := true } else w

theorem NoRecords.markedWrites {s : State} (h : NoRecords s.ord.accepted) : NoRecords (markedWrites s) := by
  intro v hv
  obtain ⟨w, hw, rfl⟩ := List.mem_map.mp hv
  split
  · exact h w hw
  · exact h w hw

theorem markProgrammed_eq {s : State} (h : NoRecords s.ord.accepted) : markProgrammed s =
    settleFrom [] (markedWrites s) (withAccepted (markedWrites s) s) :=
  settleMap_noRecords (s := withAccepted (markedWrites s) s) h.markedWrites

theorem sansTables_markProgrammed {s : State} (h : NoRecords s.ord.accepted) :
    sansTables (markProgrammed s) = sansTables s := by
  rw [markProgrammed_eq h]
  exact sansTables_settleFrom _ _ _

/-- What stays accepted and has all its rows programmed is marked so. -/
theorem programmed_of_markProgrammed {s : State} (h : NoRecords s.ord.accepted) {v : Write}
    (hv : v ∈ (markProgrammed s).ord.accepted) (hp : isProgrammed s v = true) : v.programmed = true := by
  rw [markProgrammed_eq h] at hv
  rcases mem_settleFrom _ _ _ v hv with hv | ⟨x, hx, hvx⟩
  · exact absurd hv List.not_mem_nil
  · obtain ⟨w, -, rfl⟩ := List.mem_map.mp hx
    by_cases hw : isProgrammed s w = true
    · rw [if_pos hw] at hvx
      rcases hvx with rfl | rfl <;> rfl
    · rw [if_neg hw] at hvx
      rcases hvx with rfl | rfl
      · exact absurd hp hw
      · exact absurd (show isProgrammed s w = true from hp) hw

section OnlyWrite

variable {s : State} {w : Write} {sb off : Nat} {n : Namespace} {b : Superblock}

theorem isProgrammed_segment (hk : w.kind = .write) (hplaces : w.places = [⟨sb, off, 0, 256⟩]) (hlen : w.len = 256)
    (hlba : w.lba % 256 = 0) (hb : findSb s sb = some b)
    (hrows : ∀ r, rowOf b off ≤ r → r ≤ rowOf b (off + 255) → r ∈ b.rowsDone) : isProgrammed s w = true := by
  have hparts : writeParts w = [(0, 256)] := by
    rw [writeParts_within hk (by omega) (by omega), hlen]
  have hdone : rowsProgrammed s ⟨sb, off, 0, 256⟩ = true := by
    simp only [rowsProgrammed, hb, List.all_eq_true, List.mem_range, List.contains_iff_mem]
    intro i hi
    have hle : off + 256 - 1 = off + 255 := rfl
    rw [hle] at hi
    exact hrows _ (Nat.le_add_right _ _) (by omega)
  simp [isProgrammed, nextPart, hparts, hplaces, hdone]

theorem wholeSegments_aligned {lba : Nat} (h : lba % 256 = 0) : wholeSegments lba 256 = [0] := by
  have hrest : ((List.range 255).map Nat.succ).filter (fun k => (lba + k) % 256 == 0 && decide (k + 256 ≤ 256)) = [] := by
    rw [List.filter_eq_nil_iff]
    intro k hk
    obtain ⟨i, -, rfl⟩ := List.mem_map.mp hk
    simp
  rw [wholeSegments, List.range_succ_eq_map, List.filter_cons_of_pos (by simp [h]), hrest]

theorem singleUnits_aligned {lba : Nat} (h : lba % 256 = 0) : singleUnits lba 256 = [] := by
  rw [singleUnits, List.filter_eq_nil_iff]
  intro k hk
  have hlt := List.mem_range.mp hk
  have hbase : (lba + k) / 256 * 256 = lba := by omega
  simp [segmentInside, hbase]

/-- The only write's update is made and the write leaves. -/
theorem settleFrom_sole {s t : State} {w : Write} (hdue : updateDue s w = true) (hmap : mapWrite w s = some t)
    (hp : w.programmed = true) : settleFrom [] [w] s = withAccepted [] t := by
  simp only [settleFrom, hdue, hmap, hp, List.any_nil, Bool.not_false, Bool.and_self, if_true]
  rfl

theorem mapWrite_segment (hk : w.kind = .write) (hplaces : w.places = [⟨sb, off, 0, 256⟩]) (hlba : w.lba % 256 = 0)
    (hns : findNs s w.ns = some n) (hepoch : n.epoch ≤ w.seq) :
    mapWrite w s = some (mapSegment (segIndex n w.lba) sb off w.seq (fun _ => true) s) := by
  simp [mapWrite, hns, Nat.not_lt.mpr hepoch, hk, hplaces, mapPart, wholeSegments_aligned hlba, singleUnits_aligned hlba]

/-- An accepted write of one segment, alone and with its rows programmed, is mapped whole and leaves. -/
theorem markProgrammed_segment (hacc : s.ord.accepted = [w]) (hk : w.kind = .write)
    (hplaces : w.places = [⟨sb, off, 0, 256⟩]) (hlba : w.lba % 256 = 0) (happ : w.applied = false)
    (hns : findNs s w.ns = some n) (hepoch : n.epoch ≤ w.seq) (hp : isProgrammed s w = true) :
    (markProgrammed s).ord.accepted = [] ∧
      ∀ k < 256, resolveMap (markProgrammed s) w.ns (w.lba + k) = .flash sb (off + k) := by
  have hno : NoRecords s.ord.accepted := by
    rw [hacc]
    intro v hv
    obtain rfl := List.mem_singleton.mp hv
    simp [hk]
  have hmarked : markedWrites s = [{ w with programmed := true }] := by simp [markedWrites, hacc, hp]
  have hmark : markProgrammed s = withAccepted [] (mapSegment (segIndex n w.lba) sb off w.seq (fun _ => true)
      (withAccepted (markedWrites s) s)) := by
    rw [markProgrammed_eq hno, hmarked]
    refine settleFrom_sole ?_ ?_ rfl
    · simp [updateDue, happ, hk]
    · exact mapWrite_segment (w := { w with programmed := true }) hk hplaces hlba hns hepoch
  rw [hmark]
  refine ⟨rfl, fun k hlt => ?_⟩
  have hseg : segIndex n (w.lba + k) = segIndex n w.lba := by
    simp only [segIndex]
    omega
  have hunit : (w.lba + k) % 256 = k := by omega
  have hres := resolveMap_mapSegment (s := withAccepted (markedWrites s) s) (lba := w.lba + k) hns sb off w.seq
  rw [hseg, hunit] at hres
  exact hres

end OnlyWrite

/-! ## Superblocks that close (R178, R186) -/

/-- A superblock CLOSED. -/
def toClosed (b : Superblock) : Superblock := { b with state := .closed }

theorem finishClose_eq {s : State} {n : Nat} {b : Superblock} (hb : findSb s n = some b) (hg : b.state = .granted) :
    finishClose n s = if closing b = true ∧ ∀ r ∈ b.rowsSent, r ∈ b.rowsDone then
      appendSlot (.close b.closeStamp n b.summaryStart b.summaryLength b.noSummary) (updateSb n toClosed s) else s := by
  simp only [finishClose, hb, hg, true_and, List.all_eq_true, List.contains_iff_mem]
  rfl

theorem finishClose_sameRows (n : Nat) (s : State) : SameRows s (finishClose n s) := by
  unfold finishClose
  split
  · exact .of_sbs rfl
  · split
    · intro m
      change (findSb (updateSb n toClosed s) m).map _ = _
      rw [findSb_updateSb n m toClosed (fun _ => rfl)]
      split
      · rw [Option.map_map]
        rfl
      · rfl
    · exact .of_sbs rfl

theorem endOverlayEpisode_eq (s : State) :
    endOverlayEpisode s = { s with map := { s.map with overlayFull := (endOverlayEpisode s).map.overlayFull } } := by
  unfold endOverlayEpisode
  split <;> rfl

end Sys2Proof.Proofs
end

section
/-! Placement of writes, rows and closes settled (O41). -/

namespace Sys2Proof.Proofs

open Sys2Proof Sys2Proof.Machine Sys2Proof.Safety Sys2Proof.Laws

/-! ## A programmed row, step by step -/

/-- A state with a row programmed and its writes durable, before the overlay episode and waiting reads are looked at. -/
def rowRecorded (sb row : Nat) (b : Superblock) (temps : List Int) (s : State) : State :=
  finishClose sb (markProgrammed (rowDone sb row (readMemberTemps b temps s)))

theorem exec_rowProgramDone {s : State} {sb : Nat} {b : Superblock} (row : Nat) (temps : List Int)
    (hb : findSb s sb = some b) : exec (.rowProgramDone sb row temps) s = .next
      (if (s.life.phase = .service ∨ s.life.phase = .lossFlush ∨ s.life.phase = .haltFlush) ∧ b.state = .granted ∧
          row ∈ b.rowsSent ∧ row ∉ b.rowsDone ∧ rowTurn s b row = true then
        retryReads (endOverlayEpisode (rowRecorded sb row b temps s)) else s) := by
  change execRowProgramDone sb row temps s = _
  simp only [execRowProgramDone, hb, Bool.and_eq_true, Bool.or_eq_true, beq_iff_eq, List.contains_iff_mem,
    Bool.not_eq_true', and_assoc, or_assoc, ← Bool.not_eq_true]
  rfl

theorem of_sansReads {s t : State} (h : sansReads t = sansReads s) :
    t.nv = { s.nv with cmds := t.nv.cmds } ∧ t.med = { s.med with dies := t.med.dies } := by
  have hnv : { t.nv with cmds := [] } = { s.nv with cmds := [] } := congrArg State.nv h
  have hmed : { t.med with dies := [] } = { s.med with dies := [] } := congrArg State.med h
  exact ⟨congrArg (fun n => { n with cmds := t.nv.cmds }) hnv, congrArg (fun m => { m with dies := t.med.dies }) hmed⟩

theorem of_sansTemps {s t : State} (h : sansTemps t = sansTemps s) :
    t.med = { s.med with dies := t.med.dies } ∧ t.thm = { s.thm with hotDies := t.thm.hotDies } := by
  have hmed : { t.med with dies := [] } = { s.med with dies := [] } := congrArg State.med h
  have hthm : { t.thm with hotDies := [] } = { s.thm with hotDies := [] } := congrArg State.thm h
  exact ⟨congrArg (fun m => { m with dies := t.med.dies }) hmed, congrArg (fun x => { x with hotDies := t.thm.hotDies }) hthm⟩

section Row

variable {s : State} {sb row : Nat} {b : Superblock} {temps : List Int}

/-- The superblock of a row just programmed. -/
def rowSb (sb row : Nat) (b : Superblock) (temps : List Int) (s : State) : Superblock :=
  doneSb row (memberTemps (readMemberTemps b temps s) (groupOf sb)) s.clk b

theorem readMemberTemps_keepsMap : (readMemberTemps b temps s).map = s.map ∧ (readMemberTemps b temps s).ord = s.ord ∧
    (readMemberTemps b temps s).clk = s.clk ∧ (readMemberTemps b temps s).nv = s.nv := by
  have k := readMemberTemps_keep b temps s
  exact ⟨k.map rfl, k.ord rfl, k.clk rfl, k.nv rfl⟩

theorem findSb_rowDone_read (hb : findSb s sb = some b) :
    findSb (rowDone sb row (readMemberTemps b temps s)) sb = some (rowSb sb row b temps s) := by
  obtain ⟨hmap, -, hclk, -⟩ := readMemberTemps_keepsMap (s := s) (b := b) (temps := temps)
  rw [findSb_rowDone row (b := b) (by rw [findSb, hmap]; exact hb), hclk]
  rfl

variable (hb : findSb s sb = some b) (hno : NoRecords s.ord.accepted)

include hno in
theorem noRecords_rowDone : NoRecords (rowDone sb row (readMemberTemps b temps s)).ord.accepted := by
  obtain ⟨-, hord, -, -⟩ := readMemberTemps_keepsMap (s := s) (b := b) (temps := temps)
  rw [rowDone_eq, updateSb_ord, hord]
  exact hno

include hno in
/-- The writes' updates change the tables and the accepted writes alone. -/
theorem markProgrammed_rowDone_map : let t := markProgrammed (rowDone sb row (readMemberTemps b temps s))
    t.map.sbs = (rowDone sb row (readMemberTemps b temps s)).map.sbs ∧ t.map.pendingSlots = s.map.pendingSlots := by
  obtain ⟨hmap, -, -, -⟩ := readMemberTemps_keepsMap (s := s) (b := b) (temps := temps)
  have hframe := eq_of_sansTables (sansTables_markProgrammed (noRecords_rowDone (sb := sb) (row := row) (b := b) (temps := temps) hno))
  constructor
  · rw [hframe]
  · rw [hframe, rowDone_eq, updateSb_map, hmap]

include hb hno in
/-- A closing superblock whose rows are all programmed is CLOSED, with its slot; any other stays GRANTED. -/
theorem rowRecorded_closes (hg : b.state = .granted) : ∃ st,
    findSb (rowRecorded sb row b temps s) sb = some { rowSb sb row b temps s with state := st } ∧
      (if closing b = true ∧ ∀ r ∈ b.rowsSent, r ∈ (rowSb sb row b temps s).rowsDone then
        st = .closed ∧ (rowRecorded sb row b temps s).map.pendingSlots = s.map.pendingSlots ++
          [.close b.closeStamp sb b.summaryStart b.summaryLength b.noSummary]
      else st = .granted ∧ (rowRecorded sb row b temps s).map.pendingSlots = s.map.pendingSlots) := by
  obtain ⟨hsbs, hslots⟩ := markProgrammed_rowDone_map (s := s) (sb := sb) (row := row) (b := b) (temps := temps) hno
  have hfind : findSb (markProgrammed (rowDone sb row (readMemberTemps b temps s))) sb = some (rowSb sb row b temps s) := by
    rw [findSb, hsbs]
    exact findSb_rowDone_read hb
  have hclose : rowRecorded sb row b temps s =
      if closing b = true ∧ ∀ r ∈ b.rowsSent, r ∈ (rowSb sb row b temps s).rowsDone then
        appendSlot (.close b.closeStamp sb b.summaryStart b.summaryLength b.noSummary)
          (updateSb sb toClosed (markProgrammed (rowDone sb row (readMemberTemps b temps s))))
      else markProgrammed (rowDone sb row (readMemberTemps b temps s)) := finishClose_eq hfind hg
  rw [hclose]
  split
  · refine ⟨_, findSb_updateSb_self hfind (f := toClosed) (fun _ => rfl), rfl, ?_⟩
    rw [appendSlot_map, updateSb_map, hslots]
  · exact ⟨_, hfind, hg, hslots⟩

/-- What follows a recorded row changes the tables of the map and what waiting reads go on with. -/
theorem rowRecorded_keep : Keep 131200 (readMemberTemps b temps s) (rowRecorded sb row b temps s) :=
  Keep.on (finishClose_keep _ _) (Keep.on (markProgrammed_keep _) (Keep.on (rowDone_keep _ _ _) (Keep.refl _ _) rfl) rfl) rfl

/-- The state after a row is programmed. -/
def rowProgrammed (sb row : Nat) (b : Superblock) (temps : List Int) (s : State) : State :=
  retryReads (endOverlayEpisode (rowRecorded sb row b temps s))

theorem rowProgrammed_ord : (rowProgrammed sb row b temps s).ord =
    (markProgrammed (rowDone sb row (readMemberTemps b temps s))).ord := by
  rw [rowProgrammed, (retryReads_keep _).ord rfl, (endOverlayEpisode_keep _).ord rfl, rowRecorded, (finishClose_keep _ _).ord rfl]

/-- An overlay episode's end aside, the map is as the row left it. -/
theorem rowProgrammed_map : (rowProgrammed sb row b temps s).map = { (rowRecorded sb row b temps s).map with
    overlayFull := (rowProgrammed sb row b temps s).map.overlayFull } := by
  have hmap : (rowProgrammed sb row b temps s).map = (endOverlayEpisode (rowRecorded sb row b temps s)).map :=
    (retryReads_keep _).map rfl
  rw [hmap, endOverlayEpisode_eq]

theorem tempOf_rowProgrammed (j : Nat) : tempOf (rowProgrammed sb row b temps s) j = tempOf (readMemberTemps b temps s) j := by
  have hmed : (endOverlayEpisode (rowRecorded sb row b temps s)).med = (readMemberTemps b temps s).med :=
    ((endOverlayEpisode_keep _).med rfl).trans (rowRecorded_keep.med rfl)
  rw [rowProgrammed, (retryReads_readsOnly _).2, tempOf, findDie, hmed]
  rfl

/-- Groups a row touches stay but for their commands, dies and hot dies. -/
theorem rowProgrammed_frame : let t := rowProgrammed sb row b temps s
    t.nv = { s.nv with cmds := t.nv.cmds } ∧ t.med = { s.med with dies := t.med.dies } ∧
      t.thm = { s.thm with hotDies := t.thm.hotDies } := by
  have htemps := of_sansTemps (sansTemps_readFrom b temps 0 s)
  have hreads := of_sansReads (retryReads_readsOnly (endOverlayEpisode (rowRecorded sb row b temps s))).1
  have hk : Keep 131200 (readMemberTemps b temps s) (endOverlayEpisode (rowRecorded sb row b temps s)) :=
    Keep.on (endOverlayEpisode_keep _) rowRecorded_keep rfl
  rw [hk.nv rfl, hk.med rfl, (readMemberTemps_keep b temps s).nv rfl] at hreads
  obtain ⟨hnv, hmed⟩ := hreads
  obtain ⟨hdies, hthm⟩ := htemps
  have hthm' : (rowProgrammed sb row b temps s).thm = (readMemberTemps b temps s).thm :=
    ((retryReads_keep _).thm rfl).trans (hk.thm rfl)
  refine ⟨hnv, hmed.trans ?_, hthm'.trans (hthm.trans ?_)⟩
  · rw [show readMemberTemps b temps s = readFrom b temps 0 s from rfl, hdies]
    rfl
  · rw [hthm']
    rfl

include hb in
/-- A member's reading before the row's programs is its last temperature. -/
theorem rowProgrammed_temps {c : Nat} (hc : c < 32) {v : Int} (hv : temps[c]? = some v) (hin : c ∉ b.leftOut)
    (hd : findDie s (memberDie b c) ≠ none) : (rowSb sb row b temps s).lastTemps[c]? = some v ∧
      ∃ d, findDie (rowProgrammed sb row b temps s) (memberDie b c) = some d ∧ d.temp = v := by
  have hnumber : b.number = sb := by simpa using List.find?_some hb
  have htemp : tempOf (readMemberTemps b temps s) (memberDie b c) = some v :=
    tempOf_readFrom b hin temps 0 c s (by omega) hv (by simpa [tempOf] using hd)
  constructor
  · refine memberTemps_getElem _ _ hc ?_
    rw [← hnumber]
    exact htemp
  · rw [← tempOf_rowProgrammed (sb := sb) (row := row)] at htemp
    exact Option.map_eq_some_iff.mp htemp

theorem rowProgrammed_noTemps : let t := rowProgrammed sb row b [] s
    t.thm = s.thm ∧ t.evr = s.evr ∧ t.pins = s.pins := by
  have k : Keep 917888 s (rowProgrammed sb row b [] s) :=
    Keep.on (retryReads_keep _) (Keep.on (endOverlayEpisode_keep _) (Keep.on (finishClose_keep _ _)
      (Keep.on (markProgrammed_keep _) (Keep.on (rowDone_keep _ _ _) (Keep.refl _ _) rfl) rfl) rfl) rfl) rfl
  exact ⟨k.thm rfl, k.evr rfl, k.pins rfl⟩

include hno in
/-- What stays accepted after a row and has all its rows programmed is marked so. -/
theorem rowProgrammed_marks {v : Write} (hv : v ∈ (rowProgrammed sb row b temps s).ord.accepted)
    (hp : isProgrammed (rowProgrammed sb row b temps s) v = true) : v.programmed = true := by
  obtain ⟨hsbs, -⟩ := markProgrammed_rowDone_map (s := s) (sb := sb) (row := row) (b := b) (temps := temps) hno
  have hmarked : SameRows (rowDone sb row (readMemberTemps b temps s))
      (markProgrammed (rowDone sb row (readMemberTemps b temps s))) := .of_sbs hsbs
  have hclosed : SameRows (rowDone sb row (readMemberTemps b temps s)) (rowProgrammed sb row b temps s) := by
    intro n
    have h := (finishClose_sameRows sb (markProgrammed (rowDone sb row (readMemberTemps b temps s))) n).trans (hmarked n)
    have hfinal : (rowProgrammed sb row b temps s).map.sbs = (rowRecorded sb row b temps s).map.sbs := by
      rw [rowProgrammed_map]
    simp only [findSb, hfinal]
    exact h
  rw [hclosed.isProgrammed] at hp
  rw [rowProgrammed_ord] at hv
  exact programmed_of_markProgrammed (noRecords_rowDone hno) hv hp

include hb in
/-- An accepted write of one segment, alone and with its last row programmed, is mapped whole and leaves. -/
theorem rowProgrammed_segment {w : Write} {off : Nat} {n : Namespace} (hacc : s.ord.accepted = [w]) (hk : w.kind = .write)
    (hplaces : w.places = [⟨sb, off, 0, 256⟩]) (hlen : w.len = 256) (hlba : w.lba % 256 = 0) (happ : w.applied = false)
    (hns : findNs s w.ns = some n) (hepoch : n.epoch ≤ w.seq)
    (hrows : ∀ r, rowOf b off ≤ r → r ≤ rowOf b (off + 255) → r ∈ (rowSb sb row b temps s).rowsDone) :
    (rowProgrammed sb row b temps s).ord.accepted = [] ∧
      ∀ k < 256, resolveMap (rowProgrammed sb row b temps s) w.ns (w.lba + k) = .flash sb (off + k) := by
  obtain ⟨-, hord, -, hnv⟩ := readMemberTemps_keepsMap (s := s) (b := b) (temps := temps)
  have hacc' : (rowDone sb row (readMemberTemps b temps s)).ord.accepted = [w] := by
    rw [rowDone_eq, updateSb_ord, hord, hacc]
  have hns' : findNs (rowDone sb row (readMemberTemps b temps s)) w.ns = some n := by
    rw [findNs, rowDone_eq, updateSb_nv, hnv]
    exact hns
  have hdone := isProgrammed_segment hk hplaces hlen hlba (findSb_rowDone_read (row := row) (temps := temps) hb) hrows
  obtain ⟨hleft, hmap⟩ := markProgrammed_segment hacc' hk hplaces hlba happ hns' hepoch hdone
  have htables : SameTables (markProgrammed (rowDone sb row (readMemberTemps b temps s))) (rowProgrammed sb row b temps s) := by
    have hfinish : (finishClose sb (markProgrammed (rowDone sb row (readMemberTemps b temps s)))).map.segments =
        (markProgrammed (rowDone sb row (readMemberTemps b temps s))).map.segments ∧
        (finishClose sb (markProgrammed (rowDone sb row (readMemberTemps b temps s)))).map.overlay =
        (markProgrammed (rowDone sb row (readMemberTemps b temps s))).map.overlay ∧
        (finishClose sb (markProgrammed (rowDone sb row (readMemberTemps b temps s)))).map.mapLost =
        (markProgrammed (rowDone sb row (readMemberTemps b temps s))).map.mapLost := by
      unfold finishClose
      split
      · exact ⟨rfl, rfl, rfl⟩
      · split <;> exact ⟨rfl, rfl, rfl⟩
    obtain ⟨hsegments, hoverlay, hlost⟩ := hfinish
    refine ⟨?_, ?_, ?_, ?_⟩
    · rw [rowProgrammed_frame.1, (markProgrammed_keep _).nv rfl, rowDone_eq, updateSb_nv, hnv]
    · rw [rowProgrammed_map]
      exact hsegments
    · rw [rowProgrammed_map]
      exact hoverlay
    · rw [rowProgrammed_map]
      exact hlost
  rw [rowProgrammed_ord]
  exact ⟨hleft, fun k hk => (htables.resolveMap _ _).trans (hmap k hk)⟩

end Row

/-! ## The obligation -/

section Place

variable {s : State} {seq : Nat} {w : Write} {parity : Option PlaceParity}

/-- A lost or repeated unit on the way to placement is logged, and its write keeps the mark. -/
theorem writePlace_parity {x : PlaceParity} (hw : (s.ord.accepted.find? fun w => w.seq == seq) = some w)
    (hlen : x.unit < w.len) (hunits : x.unit < w.units.length) (hprog : w.programmed = false) :
    let t := placeParity w (0, w.len) (some x) s
    let r := padWanted (parityWritten (placePart ((t.ord.accepted.find? fun x => x.seq == seq).getD w) (0, w.len) t))
    Logged ((0x0605, blockUnit (if x.stage = 8 then 8 else if x.stage = 9 then 0xA else 0xB), evData [(1, x.stage),
      (1, x.lane), (1, min x.fails 2), (1, if 3 ≤ x.fails then 1 else 0), (4, (w.lba + x.unit) % 2 ^ 32)]) ::
      if 3 ≤ x.fails then [(0x0604, blockUnit 0xA, evData [(5, w.lba + x.unit), (1, w.ns), (1, 0), (1, 1)])] else []) s r ∧
    ∃ u, (r.ord.accepted.find? fun w => w.seq == seq) = some u ∧
      (3 ≤ x.fails → ∃ d, u.units[x.unit]? = some d ∧ d.lost = true) ∧ (x.fails < 3 → u.units = w.units) := by
  intro t r
  obtain ⟨hevr, hpins⟩ := placeParity_logged hw hlen hunits hprog
  obtain ⟨u, hu, hlost, hkept⟩ := placeParity_write hw hlen hunits hprog
  have k : Keep 270663808 t r :=
    Keep.on (padWanted_keep _) (Keep.on (parityWritten_keep _) (Keep.on (placePart_keep _ _ _) (Keep.refl _ _) rfl) rfl) rfl
  obtain ⟨v, hv, hunits'⟩ := placePart_find (v := (t.ord.accepted.find? fun x => x.seq == seq).getD w) (0, w.len) hu
  refine ⟨⟨(k.evr rfl).trans hevr, (k.pins rfl).trans hpins⟩, v, ?_, ?_, ?_⟩
  · have hord : r.ord = (placePart ((t.ord.accepted.find? fun x => x.seq == seq).getD w) (0, w.len) t).ord :=
      ((padWanted_keep _).ord rfl).trans ((parityWritten_keep _).ord rfl)
    rw [hord]
    exact hv
  · rw [hunits']
    exact hlost
  · rw [hunits']
    exact hkept

/-- A part that fits the active superblock of the next stripe group goes there. -/
theorem writePlace_active (hw : (s.ord.accepted.find? fun w => w.seq == seq) = some w) (hkind : w.kind = .write)
    {b : Superblock} (hflip : s.sram.flipMask.getLsbD 31 = false) (hg : s.map.nextGroup < 32)
    (ha : activeOf s s.map.nextGroup = some b) (hb : findSb s b.number = some b) (hu : b.usable = true)
    (hf : unitsFit b ((List.range w.len).map (wholeUnit s w b)) = true) (hoff : ∀ u ∈ b.units, u.off < b.fill) :
    let t := padWanted (parityWritten (placePart w (0, w.len) s))
    ∃ y, findSb t b.number = some y ∧ (∀ k < w.len, unitAt y (b.fill + k) = some (wholeUnit s w b k)) ∧
      (∀ u ∈ b.units, u ∈ y.units) ∧ t.map.nextGroup = (s.map.nextGroup + 1) % 32 ∧
      t.ord = { s.ord with accepted := s.ord.accepted.map fun v =>
        if v.seq = seq then { v with places := v.places ++ [⟨b.number, b.fill, 0, w.len⟩] } else v } ∧
      t = { s with ord := t.ord, map := { s.map with sbs := t.map.sbs, nextGroup := t.map.nextGroup } } := by
  intro t
  have hplaced := placePart_active hw hkind hg ha hb hu hf
  have harmed : parityWritten (placePart w (0, w.len) s) = placePart w (0, w.len) s :=
    parityWritten_unarmed (by rw [hplaced]; exact hflip)
  have hframe : t = _ := eq_of_sansSbs (sansSbs_padWanted (parityWritten (placePart w (0, w.len) s)))
  rw [harmed, hplaced] at hframe
  have hfilled : findSb (placePart w (0, w.len) s) b.number =
      some (filledSb ((List.range w.len).map (wholeUnit s w b)) s.clk.us b) := by
    rw [hplaced]
    exact findSb_updateSb_self hb (f := filledSb ((List.range w.len).map (wholeUnit s w b)) s.clk.us) (fun _ => rfl)
  obtain ⟨y, hy, hpre⟩ := UnitsGrow.padWanted (placePart w (0, w.len) s) _ _ hfilled
  refine ⟨y, ?_, fun k hk => ?_, fun u hu => ?_, ?_, ?_, ?_⟩
  · change findSb (padWanted (parityWritten _)) _ = _
    rw [harmed]
    exact hy
  · exact unitAt_of_prefix hpre (unitAt_filledSb s.clk.us (fun _ => rfl) hoff hk)
  · exact hpre.subset (List.mem_append_left _ hu)
  · rw [hframe]
  · rw [hframe]
    simp only [updateWrite, changeWhere, beq_iff_eq]
  · rw [hframe]

end Place

/-- Settles O41: a part goes to the active superblock of the next stripe group or waits for overlay room, a parity
failure on its way is logged, a full or aged superblock gets its summary, and a programmed row makes its writes durable. -/
theorem placement : Obligations.Placement := by
  unfold Obligations.Placement
  refine fun s => ⟨fun seq w parity hw => ?_, fun sb b hb => ?_⟩
  · intro i
    refine ⟨exec_writePlace_held parity hw, fun hp hm ht hkind hplaces hlen hwithin => ?_⟩
    intro unit
    have hparts := writeParts_within hkind hlen hwithin
    refine ⟨fun cause hwait hfull => ?_, fun cause hwait hfull => ?_, fun x hx hroom hunit hdata hprog => ?_,
      fun b hx hroom hflip hg ha hb hu hf hoff => ?_⟩
    · rw [exec_writePlace_waits parity hw hp hm ht hparts hplaces hwait, beginOverlayEpisode, if_pos hfull]
    · refine ⟨_, exec_writePlace_waits parity hw hp hm ht hparts hplaces hwait, ?_⟩
      rw [beginOverlayEpisode, if_neg (by simp [hfull])]
      exact ⟨⟨rfl, rfl⟩, rfl⟩
    · subst hx
      obtain ⟨hlog, u, hu, hlost, hkept⟩ := writePlace_parity hw hunit hdata hprog
      exact ⟨_, u, exec_writePlace_places _ hw hp hm ht hparts hplaces hroom, hlog, hu, hlost, hkept⟩
    · subst hx
      have hexec := exec_writePlace_places none hw hp hm ht hparts hplaces hroom
      simp only [placeParity, hw, Option.getD_some] at hexec
      obtain ⟨y, hy, hplaced⟩ := writePlace_active hw hkind hflip hg ha hb hu hf hoff
      exact ⟨_, y, hexec, hy, hplaced⟩
  · intro closing'
    have hcl : closing b = true ↔ closing' := closing_iff b
    have hage := exec_superblockAgeTimeout hb
    refine ⟨fun h => ?_, fun hp hg hact hopen hfill hrow => ?_, fun row temps => ?_⟩
    · rw [hage, if_neg]
      rintro ⟨hp, hg, hact, hopen, hfill⟩
      rcases h with h | h | h | h | h
      · exact h hp
      · exact h hg
      · simp [h] at hact
      · simp [hcl.mpr h] at hopen
      · omega
    · have hopen' : closing b = false := by
        rw [← Bool.not_eq_true, hcl]
        exact hopen
      rw [if_pos ⟨hp, hg, hact, hopen', hfill⟩] at hage
      refine ⟨_, _, hage, findSb_closeSb hb, rfl, hg, rfl, rfl, rfl, padRow_fill_mod hrow, closedSb_fill_le _ b,
        fun r hr => ?_, fun u hu => (closedSb_units _ b).subset hu, eq_of_sansSbs (sansSbs_closeSb sb s)⟩
      exact mem_rowsSent_sendRows hr
    · have hexec := exec_rowProgramDone row temps hb
      refine ⟨fun h => ?_, fun hruns hg hsent hdone hturn hrec => ?_⟩
      · rw [hexec, if_neg]
        rintro ⟨hruns, hg, hsent, hdone, hturn⟩
        rcases h with h | h | h | h | h
        · exact h hruns
        · exact h hg
        · exact h hsent
        · exact hdone h
        · simp [h] at hturn
      · have hno : NoRecords s.ord.accepted := fun w hw => not_or.mp fun hk => hrec ⟨w, hw, hk⟩
        rw [if_pos ⟨hruns, hg, hsent, hdone, hturn⟩] at hexec
        obtain ⟨st, hy, hclose⟩ := rowRecorded_closes (row := row) (temps := temps) hb hno hg
        have hslots : (rowProgrammed sb row b temps s).map.pendingSlots =
            (rowRecorded sb row b temps s).map.pendingSlots := by rw [rowProgrammed_map]
        have hsbs : (rowProgrammed sb row b temps s).map.sbs = (rowRecorded sb row b temps s).map.sbs := by
          rw [rowProgrammed_map]
        have hfind : findSb (rowProgrammed sb row b temps s) sb = some { rowSb sb row b temps s with state := st } := by
          rw [findSb, hsbs]
          exact hy
        obtain ⟨hnv, hmed, hthm⟩ := rowProgrammed_frame (s := s) (sb := sb) (row := row) (b := b) (temps := temps)
        have hframe := (execRowProgramDone_keep sb row temps s _ hexec).same
        refine ⟨rowProgrammed sb row b temps s, _, hexec, hfind, rfl, rfl, ?_,
          doneSb_first row _ s.clk, fun c hc v hv hin hd => rowProgrammed_temps hb hc hv hin hd, ?_,
          fun v hv => rowProgrammed_marks hno hv, ?_, ?_⟩
        · rw [hslots]
          by_cases h : closing b = true ∧ ∀ r ∈ b.rowsSent, r ∈ (rowSb sb row b temps s).rowsDone
          · rw [if_pos h] at hclose
            rw [if_pos ⟨hcl.mp h.1, h.2⟩]
            exact hclose
          · rw [if_neg h] at hclose
            rw [if_neg fun h' => h ⟨hcl.mpr h'.1, h'.2⟩]
            exact hclose
        · rintro rfl
          exact rowProgrammed_noTemps
        · intro w off n hacc hk hplaces hlen hlba hprog happ hns hepoch hrows
          exact rowProgrammed_segment hb hacc hk hplaces hlen hlba happ hns hepoch hrows
        · rw [← hnv, ← hmed, ← hthm]
          exact hframe

end Sys2Proof.Proofs
end

section
/-! Proofs about garbage collection: what it counts, copies and frees (O42). -/

namespace Sys2Proof.Proofs

open Sys2Proof Sys2Proof.Machine Sys2Proof.Safety Sys2Proof.Laws

/-! ## What counts the work of collection and wear levelling -/

/-- The bytes copied so far and the times of the static moves. -/
def moveCounts (s : State) : Nat × List (Nat × Nat) := (s.map.gcBytes, s.map.staticMoves)

theorem moveCounts_of_sansSbs {s t : State} (h : sansSbs t = sansSbs s) : moveCounts t = moveCounts s :=
  show moveCounts (sansSbs t) = moveCounts (sansSbs s) from congrArg moveCounts h

theorem moveCounts_of_sansTables {s t : State} (h : sansTables t = sansTables s) : moveCounts t = moveCounts s :=
  show moveCounts (sansTables t) = moveCounts (sansTables s) from congrArg moveCounts h

theorem moveCounts_foldl {α : Type} {f : State → α → State} (hf : ∀ s x, moveCounts (f s x) = moveCounts s) (l : List α)
    (s : State) : moveCounts (l.foldl f s) = moveCounts s := by
  induction l generalizing s with
  | nil => rfl
  | cons x l ih => exact (ih (f s x)).trans (hf s x)

@[simp] theorem moveCounts_settleMap (s : State) : moveCounts (settleMap s) = moveCounts s := by
  refine (moveCounts_of_sansTables (sansTables_settleFrom _ _ _)).trans (moveCounts_foldl (fun s w => ?_) _ s)
  split
  · refine (moveCounts_foldl (fun u x => ?_) _ _).trans rfl
    rfl
  · rfl

@[simp] theorem moveCounts_markProgrammed (s : State) : moveCounts (markProgrammed s) = moveCounts s :=
  moveCounts_settleMap _

@[simp] theorem moveCounts_finishClose (n : Nat) (s : State) : moveCounts (finishClose n s) = moveCounts s := by
  unfold finishClose
  split
  · rfl
  · split <;> rfl

theorem moveCounts_rowDones (n : Nat) (rows : List Nat) (s : State) :
    moveCounts (rows.foldl (fun s r => rowDone n r s) s) = moveCounts s :=
  moveCounts_foldl (f := fun s r => rowDone n r s) (fun _ _ => rfl) rows s

@[simp] theorem moveCounts_programCopies (s : State) : moveCounts (programCopies s) = moveCounts s := by
  unfold programCopies
  dsimp only
  refine (moveCounts_foldl (fun s n => moveCounts_finishClose n s) _ _).trans
    ((moveCounts_markProgrammed _).trans ((moveCounts_foldl (fun s n => ?_) _ _).trans
      (moveCounts_foldl (fun s n => ?_) _ s)))
  · split
    · rfl
    · exact moveCounts_rowDones _ _ s
  · split
    · rfl
    · exact moveCounts_of_sansSbs (sansSbs_padSb n s)

/-- An active superblock without room is closed before its group is looked at. -/
def fullClosed (mk : State → Nat → List FlashUnit) (g : Nat) (s : State) : State :=
  match activeOf s g with
  | some b => if unitsFit b (mk s b.fill) then s else closeSb b.number s
  | none => s

theorem sansSbs_fullClosed (mk : State → Nat → List FlashUnit) (g : Nat) (s : State) :
    sansSbs (fullClosed mk g s) = sansSbs s := by
  unfold fullClosed
  split
  · split
    · rfl
    · exact sansSbs_closeSb _ s
  · rfl

theorem chooseSb_cons (mk : State → Nat → List FlashUnit) (g : Nat) (gs : List Nat) (s : State) :
    chooseSb mk (g :: gs) s = match activeOf (fullClosed mk g s) g with
      | some b => if b.usable && unitsFit b (mk (fullClosed mk g s) b.fill) then (fullClosed mk g s, some b.number)
        else chooseSb mk gs (fullClosed mk g s)
      | none => chooseSb mk gs (fullClosed mk g s) := rfl

@[simp] theorem sansSbs_chooseSb (mk : State → Nat → List FlashUnit) (gs : List Nat) (s : State) :
    sansSbs (chooseSb mk gs s).1 = sansSbs s := by
  induction gs generalizing s with
  | nil => rfl
  | cons g gs ih =>
    rw [chooseSb_cons]
    have hclosed := sansSbs_fullClosed mk g s
    split
    · split
      · exact hclosed
      · exact (ih _).trans hclosed
    · exact (ih _).trans hclosed

@[simp] theorem moveCounts_placeUnits (mk : State → Nat → List FlashUnit) (s : State) :
    moveCounts (placeUnits mk s).1 = moveCounts s := by
  have hchoose := moveCounts_of_sansSbs (sansSbs_chooseSb mk ((List.range 32).map fun i => (s.map.nextGroup + i) % 32) s)
  unfold placeUnits
  dsimp only
  split
  next u hu =>
    rw [hu] at hchoose
    exact hchoose
  next u n hu =>
    rw [hu] at hchoose
    split
    · exact hchoose
    · exact hchoose

theorem sansTables_remapUnit (src : Nat) (u : FlashUnit) (sb off : Nat) (s : State) :
    sansTables (remapUnit src u sb off s) = sansTables s := by
  unfold remapUnit
  split
  · split
    · rfl
    next n _ =>
      cases h : putOverlay (segIndex n u.lba) (u.lba % 256) sb off u.seq s with
      | none => rfl
      | some t => exact putOverlay_tables _ _ _ _ _ s t h
  · rfl

theorem sansTables_remapCopy (src : Nat) (us : List FlashUnit) (sb off : Nat) (s : State) :
    sansTables (remapCopy src us sb off s) = sansTables s := by
  unfold remapCopy
  split
  · rfl
  · split
    · rfl
    · dsimp only
      refine (sansTables_foldl (fun s x => ?_) _ _).trans (sansTables_foldl (fun s k => ?_) _ s)
      · exact sansTables_remapUnit src _ sb _ s
      · exact sansTables_putSeg _ s

/-! ## Copies (R195) -/

/-- A unit put to copies of the units before it. -/
def copyStep (gs : List (List FlashUnit)) (u : FlashUnit) : List (List FlashUnit) :=
  match gs with
  | [] => [[u]]
  | g :: rest => match g with
    | [] => [u] :: rest
    | v :: _ => if sameCopy v u && decide (g.length < 512) then (u :: g) :: rest else [u] :: g :: rest

/-- A further unit makes the copies one unit longer. -/
theorem copyStep_length (gs : List (List FlashUnit)) (u : FlashUnit) :
    ((copyStep gs u).map List.length).sum = (gs.map List.length).sum + 1 := by
  unfold copyStep
  split
  · rfl
  · split
    · simp [Nat.add_comm]
    · split <;> simp <;> omega

theorem copiesBack_length (us : List FlashUnit) : ((copiesBack us).map List.length).sum = us.length := by
  have steps (gs : List (List FlashUnit)) :
      ((us.foldl copyStep gs).map List.length).sum = (gs.map List.length).sum + us.length := by
    induction us generalizing gs with
    | nil => rfl
    | cons u us ih =>
      rw [List.foldl_cons, ih, copyStep_length, List.length_cons]
      omega
  exact (steps []).trans (Nat.zero_add _)

theorem copiesOf_length (us : List FlashUnit) : ((copiesOf us).map List.length).sum = us.length := by
  have hlen : List.length ∘ (List.reverse : List FlashUnit → List FlashUnit) = List.length := by
    funext x
    exact List.length_reverse
  rw [copiesOf, List.map_map, hlen, List.map_reverse, List.sum_reverse, copiesBack_length]

/-- A copy that is placed counts its units, and one that is not counts none. -/
theorem placeCopy_counts (good : Bool) (redone src : Nat) (us : List FlashUnit) (s : State) :
    ∃ k ≤ us.length, moveCounts (placeCopy good redone src us s) = (s.map.gcBytes + k * 4096, s.map.staticMoves) := by
  have hplace := moveCounts_placeUnits
    (fun _ off => us.zipIdx.map fun x => copiedUnit (BitVec.ofNat 8 (redone + 1)) us.length (off + x.2) x.1) s
  unfold placeCopy
  dsimp only
  split
  next t ht =>
    rw [ht] at hplace
    exact ⟨0, Nat.zero_le _, hplace.trans (by simp [moveCounts])⟩
  next t sb off ht =>
    rw [ht] at hplace
    obtain ⟨hbytes, hmoves⟩ := Prod.mk.inj hplace
    refine ⟨us.length, le_rfl, ?_⟩
    split
    · refine (moveCounts_of_sansTables (sansTables_remapCopy _ _ _ _ _)).trans ?_
      exact congrArg₂ (fun a b => (a + us.length * 4096, b)) hbytes hmoves
    · exact congrArg₂ (fun a b => (a + us.length * 4096, b)) hbytes hmoves

theorem placeCopies_counts (good : Bool) (redone src : Nat) (cs : List (List FlashUnit)) (s : State) :
    ∃ k ≤ (cs.map List.length).sum, moveCounts (cs.foldl (fun s us => placeCopy good redone src us s) s) =
      (s.map.gcBytes + k * 4096, s.map.staticMoves) := by
  induction cs generalizing s with
  | nil => exact ⟨0, le_rfl, by simp [moveCounts]⟩
  | cons us cs ih =>
    obtain ⟨j, hj, hus⟩ := placeCopy_counts good redone src us s
    obtain ⟨k, hk, hcs⟩ := ih (placeCopy good redone src us s)
    obtain ⟨hbytes, hmoves⟩ := Prod.mk.inj hus
    refine ⟨j + k, ?_, hcs.trans ?_⟩
    · rw [List.map_cons, List.sum_cons]
      omega
    · rw [hbytes, hmoves, Nat.add_mul, Nat.add_assoc]

/-! ## Superblocks with nothing valid (R186, R194) -/

/-- A superblock DIRTY. -/
def toDirty (b : Superblock) : Superblock := { b with state := .dirty }

/-- A superblock RETIRED. -/
def toRetired (b : Superblock) : Superblock := { b with state := .retired }

theorem releaseSb_dirty {n : Nat} {s : State} {b : Superblock} (hb : findSb s n = some b) (h : b.retireDie = none) :
    releaseSb n s = appendSlot (.dirty n) (updateSb n toDirty (clearMappings n s)) := by
  simp only [releaseSb, hb, Option.bind_some, h]
  rfl

theorem releaseSb_retired {n die : Nat} {s : State} {b : Superblock} (hb : findSb s n = some b)
    (h : b.retireDie = some die) : releaseSb n s = appendSlot (.retire n die) (updateSb n toRetired s) := by
  simp only [releaseSb, hb, Option.bind_some, h]
  rfl

@[simp] theorem moveCounts_freeIfEmpty (n : Nat) (s : State) : moveCounts (freeIfEmpty n s) = moveCounts s := by
  unfold freeIfEmpty
  split
  · rfl
  · split
    · unfold releaseSb
      split <;> rfl
    · rfl

theorem findSb_freeIfEmpty_other {m n : Nat} (h : m ≠ n) (s : State) : findSb (freeIfEmpty n s) m = findSb s m := by
  unfold freeIfEmpty
  split
  · rfl
  · split
    · unfold releaseSb
      split
      · exact findSb_updateSb_other h (f := toRetired) (fun _ => rfl)
      · exact findSb_updateSb_other (s := clearMappings n s) h (f := toDirty) (fun _ => rfl)
    · rfl

@[simp] theorem moveCounts_endOverlayEpisode (s : State) : moveCounts (endOverlayEpisode s) = moveCounts s := by
  rw [endOverlayEpisode_eq]
  rfl

/-- When collection runs is the groups' list alone. -/
theorem updateGc_eq (s : State) : updateGc s = { s with map := { s.map with gcGroups := (updateGc s).map.gcGroups } } := by
  unfold updateGc
  split <;> rfl

@[simp] theorem moveCounts_updateGc (s : State) : moveCounts (updateGc s) = moveCounts s := by
  rw [updateGc_eq]
  rfl

/-! ## Erases (R186, R198) -/

/-- The erases of one superblock, where they are due. -/
def eraseDue (s : State) (b : Superblock) : State :=
  if b.state == .dirty && !beingRead s b.number && !slotPending s (fun x => x == .dirty b.number) then eraseSb b.number s
  else s

theorem issueErases_none {s : State} (h : ∀ b ∈ s.map.sbs, b.state ≠ .dirty) : issueErases s = s := by
  refine foldl_id_of_forall fun b hb => if_neg ?_
  simp [h b hb]

@[simp] theorem moveCounts_issueErases (s : State) : moveCounts (issueErases s) = moveCounts s := by
  refine moveCounts_foldl (fun s b => ?_) _ s
  split
  · unfold eraseSb
    split <;> rfl
  · rfl

/-- Slots that wait go on waiting while erases are issued. -/
theorem mem_pending_eraseDue {s : State} {x : Slot} (b : Superblock) (h : x ∈ s.map.pendingSlots) :
    x ∈ (eraseDue s b).map.pendingSlots := by
  unfold eraseDue
  split
  · unfold eraseSb
    split
    · exact h
    · exact List.mem_append_left _ h
  · exact h

theorem findSb_eraseDue {s : State} {n : Nat} {b : Superblock}
    (h : b.number ≠ n ∨ b.state ≠ .dirty ∨ Slot.dirty n ∈ s.map.pendingSlots) : findSb (eraseDue s b) n = findSb s n := by
  unfold eraseDue
  split
  next hdue =>
    simp only [Bool.and_eq_true, beq_iff_eq, Bool.not_eq_true', slotPending, List.any_eq_false] at hdue
    obtain ⟨⟨hdirty, -⟩, hslots⟩ := hdue
    have hne : n ≠ b.number := by
      rintro rfl
      rcases h with h | h | h
      · exact h rfl
      · exact h hdirty
      · exact hslots _ h (by rfl)
    unfold eraseSb
    split
    · rfl
    · exact findSb_updateSb_other hne (f := erasedSb) (fun _ => rfl)
  next => rfl

/-- A superblock that is not DIRTY, or whose DIRTY slot waits, is not erased, and the slots that wait stay. -/
theorem issueErases_keeps {s : State} {n : Nat}
    (h : (∀ b ∈ s.map.sbs, b.number = n → b.state ≠ .dirty) ∨ Slot.dirty n ∈ s.map.pendingSlots) :
    findSb (issueErases s) n = findSb s n ∧ ∀ x ∈ s.map.pendingSlots, x ∈ (issueErases s).map.pendingSlots := by
  have run (l : List Superblock) (u : State)
      (hu : (∀ b ∈ l, b.number = n → b.state ≠ .dirty) ∨ Slot.dirty n ∈ u.map.pendingSlots) :
      findSb (l.foldl eraseDue u) n = findSb u n ∧ ∀ x ∈ u.map.pendingSlots, x ∈ (l.foldl eraseDue u).map.pendingSlots := by
    induction l generalizing u with
    | nil => exact ⟨rfl, fun _ hx => hx⟩
    | cons b l ih =>
      have hnext : (∀ x ∈ l, x.number = n → x.state ≠ .dirty) ∨ Slot.dirty n ∈ (eraseDue u b).map.pendingSlots :=
        hu.imp (fun h x hx => h x (List.mem_cons_of_mem _ hx)) (mem_pending_eraseDue b)
      have hhead : b.number ≠ n ∨ b.state ≠ .dirty ∨ Slot.dirty n ∈ u.map.pendingSlots := by
        rcases hu with hu | hu
        · by_cases hn : b.number = n
          · exact .inr (.inl (hu b List.mem_cons_self hn))
          · exact .inl hn
        · exact .inr (.inr hu)
      obtain ⟨hfind, hslots⟩ := ih (eraseDue u b) hnext
      exact ⟨hfind.trans (findSb_eraseDue hhead), fun x hx => hslots x (mem_pending_eraseDue b hx)⟩
  exact run _ s h

/-! ## A collection step -/

theorem markProgrammed_nothing {s : State} (h : s.ord.accepted = []) : markProgrammed s = s := by
  have hmarked : markedWrites s = [] := by
    rw [markedWrites, h]
    rfl
  rw [markProgrammed_eq (by rw [h]; exact fun _ hw => absurd hw List.not_mem_nil), hmarked]
  change withAccepted [] s = s
  rw [← h]
  rfl

/-- Copies of a superblock to be redone are forgotten when it is copied again (R200). -/
def forgetMoves (src : Nat) (s : State) : State :=
  { s with map := { s.map with moves := s.map.moves.filter fun m => m.src != src } }

section Collect

variable {s : State} {src : Nat} {b : Superblock} (hb : findSb s src = some b)

include hb

theorem exec_gcCopyDone (ok : Bool) : exec (.gcCopyDone src ok) s = .next
    (if backgroundOpen s = true ∧ gcDue s b = true then
      issueErases (updateGc (endOverlayEpisode (freeIfEmpty src (copyOut ok src s)))) else s) := by
  change execGcCopyDone src ok s = _
  simp only [execGcCopyDone, hb, Bool.and_eq_true]

theorem copyOut_good : copyOut true src s = copyFrom true src s := by
  simp only [copyOut, hb, if_true]
  split <;> rfl

theorem copyOut_bad {u : FlashUnit} {rest : List FlashUnit} (h : copyUnits s b = u :: rest) :
    copyOut false src s = logBadCopy b u (copyFrom false src s) := by
  simp [copyOut, hb, h]

theorem copyFrom_eq (good : Bool) : copyFrom good src s =
    programCopies ((copiesOf (copyUnits s b)).foldl
      (fun u us => placeCopy good (redoneOf s src) src us u) (forgetMoves src s)) := by
  simp only [copyFrom, hb]
  rfl

/-- Copying counts at most the units that are to be copied. -/
theorem copyFrom_counts (good : Bool) : ∃ k ≤ (copyUnits s b).length,
    moveCounts (copyFrom good src s) = (s.map.gcBytes + k * 4096, s.map.staticMoves) := by
  obtain ⟨k, hk, hcounts⟩ := placeCopies_counts good (redoneOf s src) src (copiesOf (copyUnits s b)) (forgetMoves src s)
  rw [copiesOf_length] at hk
  rw [copyFrom_eq hb, moveCounts_programCopies]
  exact ⟨k, hk, hcounts⟩

/-- With nothing valid, nothing accepted and no superblock GRANTED, collection forgets the copies to be redone. -/
theorem copyFrom_nothing (hunits : validUnits s b = []) (hacc : s.ord.accepted = [])
    (hgranted : ∀ x ∈ s.map.sbs, x.state ≠ .granted) : copyFrom true src s = forgetMoves src s := by
  have hnone : copyUnits s b = [] := by
    rw [copyUnits, hunits]
    rfl
  have htargets (p : Superblock → Bool) : (forgetMoves src s).map.sbs.filter (fun x => x.state == .granted && p x) = [] := by
    rw [List.filter_eq_nil_iff]
    intro x hx
    simp [hgranted x hx]
  rw [copyFrom_eq hb, hnone]
  unfold programCopies
  simp only [copiesOf, copiesBack, List.foldl_nil, List.reverse_nil, List.map_nil, htargets]
  exact markProgrammed_nothing hacc

/-- The state after a collection step. -/
def collected (ok : Bool) (src : Nat) (s : State) : State :=
  issueErases (updateGc (endOverlayEpisode (freeIfEmpty src (copyOut ok src s))))

omit hb in
theorem collected_keep (ok : Bool) : Keep 131072 (copyOut ok src s) (collected ok src s) :=
  Keep.on (issueErases_keep _) (Keep.on (updateGc_keep _) (Keep.on (endOverlayEpisode_keep _)
    (Keep.on (freeIfEmpty_keep _ _) (Keep.refl _ _) rfl) rfl) rfl) rfl

/-- Copies that read back well count what is copied, and log nothing. -/
theorem collected_good : (∃ k ≤ (copyUnits s b).length,
    (collected true src s).map.gcBytes = s.map.gcBytes + k * 4096) ∧
      collected true src s = { s with ord := (collected true src s).ord, map := (collected true src s).map } := by
  constructor
  · obtain ⟨k, hk, hcounts⟩ := copyFrom_counts hb true
    have hall : moveCounts (collected true src s) = (s.map.gcBytes + k * 4096, s.map.staticMoves) := by
      rw [collected, moveCounts_issueErases, moveCounts_updateGc, moveCounts_endOverlayEpisode, moveCounts_freeIfEmpty,
        copyOut_good hb]
      exact hcounts
    exact ⟨k, hk, congrArg Prod.fst hall⟩
  · have k : Keep 131200 s (collected true src s) := by
      refine Keep.on (issueErases_keep _) (Keep.on (updateGc_keep _) (Keep.on (endOverlayEpisode_keep _)
        (Keep.on (freeIfEmpty_keep _ _) ?_ rfl) rfl) rfl) rfl
      rw [copyOut_good hb]
      exact copyFrom_keep _ _ _
    exact k.same

omit hb in
/-- Erases aside, what follows a release changes neither superblocks nor slots. -/
theorem collected_of_release {u : State} {x : Slot} (hrel : freeIfEmpty src (copyOut true src s) = u)
    (hx : x ∈ u.map.pendingSlots)
    (h : (∀ b ∈ u.map.sbs, b.number = src → b.state ≠ .dirty) ∨ Slot.dirty src ∈ u.map.pendingSlots) :
    findSb (collected true src s) src = findSb u src ∧ x ∈ (collected true src s).map.pendingSlots := by
  have hmap : (updateGc (endOverlayEpisode u)).map.sbs = u.map.sbs ∧
      (updateGc (endOverlayEpisode u)).map.pendingSlots = u.map.pendingSlots := by
    rw [updateGc_eq, endOverlayEpisode_eq]
    exact ⟨rfl, rfl⟩
  obtain ⟨hsbs, hslots⟩ := hmap
  obtain ⟨hfind, hkept⟩ := issueErases_keeps (s := updateGc (endOverlayEpisode u)) (n := src) (by rw [hsbs, hslots]; exact h)
  rw [collected, hrel]
  exact ⟨hfind.trans (by rw [findSb, hsbs]; rfl), hkept x (by rw [hslots]; exact hx)⟩

/-- A CLOSED superblock with nothing valid is DIRTY, or RETIRED where a bad position of it has no spare. -/
theorem collected_nothing (hclosed : b.state = .closed) (hunits : validUnits s b = []) (hacc : s.ord.accepted = [])
    (hgranted : ∀ x ∈ s.map.sbs, x.state ≠ .granted) : match b.retireDie with
      | none => findSb (collected true src s) src = some { b with state := .dirty } ∧
        Slot.dirty src ∈ (collected true src s).map.pendingSlots
      | some die => findSb (collected true src s) src = some { b with state := .retired } ∧
        Slot.retire src die ∈ (collected true src s).map.pendingSlots := by
  have hb' : findSb (forgetMoves src s) src = some b := hb
  have hfree : freeIfEmpty src (copyOut true src s) = releaseSb src (forgetMoves src s) := by
    rw [copyOut_good hb, copyFrom_nothing hb hunits hacc hgranted]
    have hempty : (validUnits (forgetMoves src s) b).isEmpty = true := by
      change (validUnits s b).isEmpty = true
      rw [hunits]
      rfl
    simp only [freeIfEmpty, hb', hclosed, hempty, and_self, if_true]
  split
  next hdie =>
    rw [releaseSb_dirty hb' hdie] at hfree
    have hslot : Slot.dirty src ∈ (appendSlot (.dirty src)
        (updateSb src toDirty (clearMappings src (forgetMoves src s)))).map.pendingSlots :=
      List.mem_append_right _ (List.mem_singleton_self _)
    obtain ⟨hfind, hkept⟩ := collected_of_release hfree hslot (.inr hslot)
    refine ⟨hfind.trans ?_, hkept⟩
    exact findSb_updateSb_self (s := clearMappings src (forgetMoves src s)) hb (f := toDirty) (fun _ => rfl)
  next die hdie =>
    rw [releaseSb_retired hb' hdie] at hfree
    have hslot : Slot.retire src die ∈
        (appendSlot (.retire src die) (updateSb src toRetired (forgetMoves src s))).map.pendingSlots :=
      List.mem_append_right _ (List.mem_singleton_self _)
    have hretired : ∀ x ∈ (appendSlot (.retire src die) (updateSb src toRetired (forgetMoves src s))).map.sbs,
        x.number = src → x.state ≠ .dirty := by
      intro x hx hn
      obtain ⟨y, -, rfl⟩ := List.mem_map.mp hx
      split
      next => simp [toRetired]
      next hy =>
        simp only [hy] at hn
        exact absurd hn (by simpa using hy)
    obtain ⟨hfind, hkept⟩ := collected_of_release hfree hslot (.inl hretired)
    refine ⟨hfind.trans ?_, hkept⟩
    exact findSb_updateSb_self hb' (f := toRetired) (fun _ => rfl)

/-- A copy that reads back wrong is logged, and its Mace die tested. -/
theorem collected_bad {u : FlashUnit} {rest : List FlashUnit} (h : copyUnits s b = u :: rest) :
    let t := collected false src s
    Logged [(0x0604, blockUnit 5, evData [(5, u.lba), (1, u.ns), (1, 3), (1, 0)])] s t ∧
      (∃ x ∈ t.st.running, x.unit = maceUnit (maceOf (dieOf b u.off / 32))) ∧
      t = { s with ord := t.ord, map := t.map, st := t.st, evr := t.evr, pins := t.pins } := by
  intro t
  have k := collected_keep (s := s) (src := src) false
  rw [copyOut_bad hb h] at k
  have hcopy := (copyFrom_keep false src s).same
  have hlogged : (logBadCopy b u (copyFrom false src s)).evr =
      (logEvent 0x0604 (blockUnit 5) (evData [(5, u.lba), (1, u.ns), (1, 3), (1, 0)]) s).evr ∧
      (logBadCopy b u (copyFrom false src s)).pins =
      (logEvent 0x0604 (blockUnit 5) (evData [(5, u.lba), (1, u.ns), (1, 3), (1, 0)]) s).pins := by
    rw [hcopy, logBadCopy, startTest_frame]
    exact ⟨rfl, rfl⟩
  obtain ⟨hevr, hpins⟩ := hlogged
  refine ⟨⟨(k.evr rfl).trans hevr, (k.pins rfl).trans hpins⟩, ?_, ?_⟩
  · rw [k.st rfl]
    exact startTest_running _ _ _
  · have kall : Keep 25305216 s t := Keep.on (issueErases_keep _) (Keep.on (updateGc_keep _) (Keep.on
      (endOverlayEpisode_keep _) (Keep.on (freeIfEmpty_keep _ _) (copyOut_keep _ _ _) rfl) rfl) rfl) rfl
    exact kall.same

end Collect

end Sys2Proof.Proofs
end

section
/-! Proofs about grants of superblocks and folds of segments (O42). -/

namespace Sys2Proof.Proofs

open Sys2Proof Sys2Proof.Machine Sys2Proof.Safety Sys2Proof.Laws

/-! ## Picking one of a list -/

/-- Folding a choice between the pick so far and the next over a list picks one of it that measures least. -/
theorem foldl_pick {α : Type} {pick : Option α → α → Option α} (e : α → Nat)
    (hpick : ∀ o b, ∃ c, pick o b = some c ∧ (c = b ∨ o = some c) ∧ e c ≤ e b ∧ ∀ x, o = some x → e c ≤ e x)
    {l : List α} {o : Option α} (h : l ≠ [] ∨ o ≠ none) :
    ∃ c, l.foldl pick o = some c ∧ (c ∈ l ∨ o = some c) ∧ (∀ x ∈ l, e c ≤ e x) ∧ ∀ x, o = some x → e c ≤ e x := by
  induction l generalizing o with
  | nil =>
    obtain ⟨c, hc⟩ := Option.ne_none_iff_exists'.mp (h.resolve_left (fun hn => hn rfl))
    exact ⟨c, hc, .inr hc, by simp, fun x hx => by rw [hc] at hx; cases hx; exact le_rfl⟩
  | cons b l ih =>
    obtain ⟨c, hc, hfrom, hb, ho⟩ := hpick o b
    obtain ⟨d, hd, hfrom', hl, hc'⟩ := ih (o := pick o b) (.inr (by rw [hc]; simp))
    have hdc : e d ≤ e c := hc' c hc
    refine ⟨d, hd, ?_, ?_, fun x hx => hdc.trans (ho x hx)⟩
    · rcases hfrom' with hmem | hmem
      · exact .inl (List.mem_cons_of_mem _ hmem)
      · obtain rfl : c = d := Option.some.inj (hc.symm.trans hmem)
        rcases hfrom with rfl | hfrom
        · exact .inl List.mem_cons_self
        · exact .inr hfrom
    · intro x hx
      rcases List.mem_cons.mp hx with rfl | hx
      · exact hdc.trans hb
      · exact hl x hx

theorem findSb_of_mem {s : State} (hnd : (s.map.sbs.map (·.number)).Nodup) {b : Superblock} (hb : b ∈ s.map.sbs) :
    findSb s b.number = some b := by
  cases h : findSb s b.number with
  | none => exact absurd (List.find?_eq_none.mp h b hb) (by simp)
  | some x =>
    have hx := List.mem_of_find?_eq_some h
    have hn : x.number = b.number := by simpa using List.find?_some h
    rw [List.inj_on_of_nodup_map hnd hx hb hn]

/-- The least erased superblock of a group is granted next. -/
theorem nextErased_least {s : State} {g : Nat} (h : ∃ b ∈ s.map.sbs, groupOf b.number = g ∧ b.state = .erased) :
    ∃ b, nextErased s g = some b ∧ b ∈ s.map.sbs ∧ groupOf b.number = g ∧ b.state = .erased ∧
      ∀ x ∈ s.map.sbs, groupOf x.number = g → x.state = .erased → b.eraseCount ≤ x.eraseCount := by
  have hmem (x : Superblock) : x ∈ (s.map.sbs.filter fun b => groupOf b.number == g && b.state == .erased) ↔
      x ∈ s.map.sbs ∧ groupOf x.number = g ∧ x.state = .erased := by simp
  obtain ⟨y, hy, hyg, hye⟩ := h
  have hne : (s.map.sbs.filter fun b => groupOf b.number == g && b.state == .erased) ≠ [] :=
    List.ne_nil_of_mem ((hmem y).mpr ⟨hy, hyg, hye⟩)
  obtain ⟨b, hb, hfrom, hleast, -⟩ := foldl_pick (pick := fun o b => match o with
      | none => some b
      | some x => if b.eraseCount < x.eraseCount ∨ (b.eraseCount = x.eraseCount ∧ b.number < x.number) then some b
        else some x) (·.eraseCount) (fun o b => by
    cases o with
    | none => exact ⟨b, rfl, .inl rfl, le_rfl, by simp⟩
    | some x =>
      by_cases hlt : b.eraseCount < x.eraseCount ∨ (b.eraseCount = x.eraseCount ∧ b.number < x.number)
      · exact ⟨b, if_pos hlt, .inl rfl, le_rfl, fun z hz => by cases hz; omega⟩
      · exact ⟨x, if_neg hlt, .inr rfl, by omega, fun z hz => by cases hz; exact le_rfl⟩) (o := none) (.inl hne)
  obtain ⟨hbs, hbg, hbe⟩ := (hmem b).mp (hfrom.resolve_right (by simp))
  exact ⟨b, hb, hbs, hbg, hbe, fun x hx hxg hxe => hleast x ((hmem x).mpr ⟨hx, hxg, hxe⟩)⟩

theorem nextErased_none {s : State} {g : Nat} (h : ∀ b ∈ s.map.sbs, groupOf b.number = g → b.state ≠ .erased) :
    nextErased s g = none := by
  have hnil : (s.map.sbs.filter fun b => groupOf b.number == g && b.state == .erased) = [] := by
    rw [List.filter_eq_nil_iff]
    intro b hb
    simpa using h b hb
  rw [nextErased, hnil]
  rfl

/-! ## Grants (R32, R186, R198) -/

theorem blankCheck_known {s : State} {n : Nat} (half : List BlankFound) (h : (findSb s n).any (·.blankPending) = false) :
    blankCheck n half s = s := if_neg (by simp [h])

/-- A superblock granted, its slot not yet durable. -/
def grantedSb (active : Bool) (out : List Nat) (utc : Nat) (b : Superblock) : Superblock :=
  { b with state := .granted, active := active, usable := false, leftOut := out, grantUtc := utc }

theorem grantSb_eq {s : State} {g : Nat} {b : Superblock} (half : List BlankFound) (hopen : (openIn s g).length < 2)
    (hout : (membersOut s g).length < 9) (hb : nextErased s g = some b)
    (hblank : (findSb s b.number).any (·.blankPending) = false) :
    grantSb g half s = updateGc (appendSlot (.grant (s.ord.next - 1) b.number ((openIn s g).any (·.active)) (s.clk.utc.getD 0))
      (updateSb b.number (grantedSb (!(openIn s g).any (·.active)) (membersOut s g) (utcSeconds s.clk.utc)) s)) := by
  have hmay : ¬(2 ≤ (openIn s g).length ∨ 9 ≤ (membersOut s g).length) := by omega
  rw [grantSb, if_neg hmay]
  simp only [hb, blankCheck_known half hblank]
  rfl

theorem exec_superblockGrant {s : State} (group : Fin 32) (half : List BlankFound) (hs : serving s = true)
    (hbg : backgroundOpen s = false) : exec (.superblockGrant group half) s = .next (issueErases (grantSb group half s)) := by
  change execSuperblockGrant group half s = _
  simp [execSuperblockGrant, hs, hbg]

/-! ## Folds (R196, R205) -/

theorem exec_foldStart {s : State} {segment : Nat} {n : Namespace} (hn : namespaceOf s segment = some n) :
    exec (.foldStart segment) s = .next
      (if foldingRuns s = true ∧ foldable s (segEntry s segment) = true ∧ foldsFirst s (segEntry s segment) = true then
        needNumbers 1 (beginFold n (segEntry s segment)) s else s) := by
  change execFoldStart segment s = _
  simp only [execFoldStart, hn, Bool.and_eq_true, and_assoc]

theorem foldingRuns_iff (s : State) : foldingRuns s = true ↔ s.life.phase = .service ∧ s.life.mapReady = true ∧
    s.life.stop = none ∧ (16777216 < s.map.overlay.length ∨ s.map.overlayFull = true ∨ 7500000000 ≤ summaryBytes s) := by
  simp [foldingRuns, and_assoc, or_assoc]

/-- A fold begun takes the next number and marks the segment and its entries. -/
theorem beginFold_marks {s : State} {n : Namespace} (segment : Nat) :
    let e := segEntry s segment
    let t := beginFold n e s
    segEntry t segment = { e with foldPending := true } ∧ (∀ g, g ≠ segment → segEntry t g = segEntry s g) ∧
      t.map.overlay = s.map.overlay.map (fun o => if o.ovlNumber = e.ovlNumber then { o with foldMark := true } else o) := by
  intro e t
  have hseg : e.seg = segment := segEntry_seg s segment
  refine ⟨?_, fun g hg => ?_, ?_⟩
  · exact segEntry_putSeg_self (e := { e with foldPending := true }) hseg s
  · exact segEntry_putSeg_other (e := { e with foldPending := true }) (by rw [hseg]; exact hg) s
  · change changeWhere _ _ _ = _
    simp only [changeWhere, beq_iff_eq]
    rfl

end Sys2Proof.Proofs
end

section
/-! Proofs about the ledger's journal: slots that become durable (O42). -/

namespace Sys2Proof.Proofs

open Sys2Proof Sys2Proof.Machine Sys2Proof.Safety Sys2Proof.Laws

/-! ## One slot durable (R32, R145, R188, R202) -/

/-- What slots becoming durable change: no number is issued, no superblock changes but for its use, and no record enters
the accepted writes. -/
structure SlotsDurable (s t : State) : Prop where
  slots : t.map.slots = s.map.slots
  pendingSlots : t.map.pendingSlots = s.map.pendingSlots
  pages : t.map.pages = s.map.pages
  next : t.ord.next = s.ord.next
  top : s.ord.top ≤ t.ord.top
  states : ∀ n, (findSb t n).map (·.state) = (findSb s n).map (·.state)
  usable : ∀ n, (∀ b, findSb s n = some b → b.usable = true) → ∀ b, findSb t n = some b → b.usable = true
  noRecords : NoRecords s.ord.accepted → NoRecords t.ord.accepted
  nothing : s.ord.accepted = [] → t.ord.accepted = []
  tables : SameTables s t
  counts : moveCounts t = moveCounts s

theorem SlotsDurable.refl (s : State) : SlotsDurable s s where
  slots := rfl
  pendingSlots := rfl
  pages := rfl
  next := rfl
  top := le_rfl
  states _ := rfl
  usable _ h := h
  noRecords h := h
  nothing h := h
  tables := ⟨rfl, rfl, rfl, rfl⟩
  counts := rfl

theorem SlotsDurable.trans {s t u : State} (h : SlotsDurable s t) (h' : SlotsDurable t u) : SlotsDurable s u where
  slots := h'.slots.trans h.slots
  pendingSlots := h'.pendingSlots.trans h.pendingSlots
  pages := h'.pages.trans h.pages
  next := h'.next.trans h.next
  top := h.top.trans h'.top
  states n := (h'.states n).trans (h.states n)
  usable n hs := h'.usable n (h.usable n hs)
  noRecords hs := h'.noRecords (h.noRecords hs)
  nothing hs := h'.nothing (h.nothing hs)
  tables := ⟨h'.tables.namespaces.trans h.tables.namespaces, h'.tables.segments.trans h.tables.segments,
    h'.tables.overlay.trans h.tables.overlay, h'.tables.mapLost.trans h.tables.mapLost⟩
  counts := h'.counts.trans h.counts

/-- A superblock that the map engine may write. -/
def toUsable (b : Superblock) : Superblock := { b with usable := true }

/-- A write whose record is programmed. -/
def toProgrammed (w : Write) : Write := { w with programmed := true }

theorem slotsDurable_grant (n : Nat) (s : State) : SlotsDurable s (updateSb n toUsable s) where
  slots := rfl
  pendingSlots := rfl
  pages := rfl
  next := rfl
  top := le_rfl
  states m := by
    rw [findSb_updateSb n m toUsable (fun _ => rfl)]
    split
    · rw [Option.map_map]
      rfl
    · rfl
  usable m h b hb := by
    rw [findSb_updateSb n m toUsable (fun _ => rfl)] at hb
    split at hb
    · obtain ⟨x, -, rfl⟩ := Option.map_eq_some_iff.mp hb
      rfl
    · exact h b hb
  noRecords h := h
  nothing h := h
  tables := ⟨rfl, rfl, rfl, rfl⟩
  counts := rfl

theorem slotsDurable_write (q : Nat) (s : State) : SlotsDurable s (updateWrite q toProgrammed s) where
  slots := rfl
  pendingSlots := rfl
  pages := rfl
  next := rfl
  top := le_rfl
  states _ := rfl
  usable _ h := h
  noRecords h v hv := by
    obtain ⟨w, hw, rfl⟩ := List.mem_map.mp hv
    split
    · exact h w hw
    · exact h w hw
  nothing h := by
    change changeWhere _ _ s.ord.accepted = []
    rw [h]
    rfl
  tables := ⟨rfl, rfl, rfl, rfl⟩
  counts := rfl

theorem slotsDurable_slot (s : State) (x : Slot) : SlotsDurable s (slotDurable s x) := by
  cases x with
  | grant seq sb standby utc => exact slotsDurable_grant sb s
  | seqBlock top => exact { SlotsDurable.refl s with top := le_max_left _ _, tables := ⟨rfl, rfl, rfl, rfl⟩ }
  | deallocate q a b c => exact slotsDurable_write q s
  | secureDiscard q a b c d => exact slotsDurable_write q s
  | namespace_ q ns action base size fmt pi => exact { SlotsDurable.refl s with tables := ⟨rfl, rfl, rfl, rfl⟩ }
  | _ => exact .refl s

theorem slotsDurable_all (l : List Slot) (s : State) : SlotsDurable s (l.foldl slotDurable s) := by
  induction l generalizing s with
  | nil => exact .refl s
  | cons x l ih => exact (slotsDurable_slot s x).trans (ih _)

/-- What a durable grant names is usable. -/
theorem usable_of_grant {l : List Slot} {q n utc : Nat} {standby : Bool} (h : Slot.grant q n standby utc ∈ l) (s : State)
    (b : Superblock) (hb : findSb (l.foldl slotDurable s) n = some b) : b.usable = true := by
  obtain ⟨l₁, l₂, rfl⟩ := List.append_of_mem h
  rw [List.foldl_append, List.foldl_cons] at hb
  refine (slotsDurable_all l₂ _).usable n (fun x hx => ?_) b hb
  change findSb (updateSb n toUsable (l₁.foldl slotDurable s)) n = some x at hx
  rw [findSb_updateSb n n toUsable (fun _ => rfl), if_pos rfl] at hx
  obtain ⟨y, -, rfl⟩ := Option.map_eq_some_iff.mp hx
  rfl

/-- A durable block of numbers may be issued. -/
theorem top_of_seqBlock {l : List Slot} {top : Nat} (h : Slot.seqBlock top ∈ l) (s : State) :
    top ≤ (l.foldl slotDurable s).ord.top := by
  obtain ⟨l₁, l₂, rfl⟩ := List.append_of_mem h
  rw [List.foldl_append, List.foldl_cons]
  exact (le_max_right _ _).trans (slotsDurable_all l₂ (slotDurable (l₁.foldl slotDurable s) (.seqBlock top))).top

/-! ## All that wait (R188) -/

/-- The journal with every waiting slot in it. -/
def journaled (s : State) : State := { s with map := { s.map with
  pendingSlots := [], slots := s.map.pendingSlots.reverse ++ s.map.slots
  pages := s.map.pages + (s.map.pendingSlots.length + 254) / 255
  copies := s.map.copies.map fun c => { c with extra := [] } } }

theorem ledgerFlush_eq {s : State} (h : s.map.pendingSlots ≠ []) : ledgerFlush s =
    settleMap (if 1536 ≤ (s.map.pendingSlots.foldl slotDurable (journaled s)).map.pages then
      compact (s.map.pendingSlots.foldl slotDurable (journaled s))
    else s.map.pendingSlots.foldl slotDurable (journaled s)) := by
  have hne : ¬ s.map.pendingSlots.isEmpty = true := by simpa using h
  rw [ledgerFlush, if_neg hne]
  rfl

/-- Below the size of a compaction the slots enter the journal, and the map follows. -/
theorem ledgerFlush_small {s : State} (h : s.map.pendingSlots ≠ [])
    (hpages : s.map.pages + (s.map.pendingSlots.length + 254) / 255 < 1536) (hno : NoRecords s.ord.accepted) :
    sansTables (ledgerFlush s) = sansTables (s.map.pendingSlots.foldl slotDurable (journaled s)) := by
  have hdur := slotsDurable_all s.map.pendingSlots (journaled s)
  have hsmall : ¬ 1536 ≤ (s.map.pendingSlots.foldl slotDurable (journaled s)).map.pages := by
    rw [hdur.pages]
    exact Nat.not_le.mpr hpages
  rw [ledgerFlush_eq h, if_neg hsmall, settleMap_noRecords (hdur.noRecords hno)]
  exact sansTables_settleFrom _ _ _

/-- With nothing accepted the flush changes the ledger, and of superblocks their use alone. -/
theorem ledgerFlush_nothing {s : State} (hacc : s.ord.accepted = []) :
    (ledgerFlush s).ord.accepted = [] ∧ SameTables s (ledgerFlush s) ∧ moveCounts (ledgerFlush s) = moveCounts s ∧
      ∀ n, (findSb (ledgerFlush s) n).map (·.state) = (findSb s n).map (·.state) := by
  by_cases h : s.map.pendingSlots = []
  · have hid : ledgerFlush s = s := if_pos (by simp [h])
    rw [hid]
    exact ⟨hacc, ⟨rfl, rfl, rfl, rfl⟩, rfl, fun _ => rfl⟩
  · have hdur := slotsDurable_all s.map.pendingSlots (journaled s)
    have hnone := hdur.nothing hacc
    have htables : SameTables s (s.map.pendingSlots.foldl slotDurable (journaled s)) :=
      ⟨hdur.tables.namespaces, hdur.tables.segments, hdur.tables.overlay, hdur.tables.mapLost⟩
    rw [ledgerFlush_eq h]
    split
    · rw [settleMap_nothing (show (compact _).ord.accepted = [] from hnone)]
      exact ⟨hnone, ⟨htables.namespaces, htables.segments, htables.overlay, htables.mapLost⟩, hdur.counts, hdur.states⟩
    · rw [settleMap_nothing hnone]
      exact ⟨hnone, htables, hdur.counts, hdur.states⟩

/-! ## A page of the ledger (R31, R188) -/

/-- The copies a page was programmed on, in order. -/
def copiesDone (copies : List (Fin 3)) : List Nat := (List.range 3).filter fun i => copies.any fun c => c.val == i

theorem copiesDone_length (copies : List (Fin 3)) : (copiesDone copies).length = copies.dedup.length := by
  have hperm : (copiesDone copies).Perm (copies.dedup.map Fin.val) := by
    have hnd : (copiesDone copies).Nodup := List.nodup_range.filter _
    refine (List.perm_ext_iff_of_nodup hnd (copies.nodup_dedup.map Fin.val_injective)).mpr fun i => ?_
    simp only [copiesDone, List.mem_filter, List.mem_range, List.any_eq_true, beq_iff_eq, List.mem_map, List.mem_dedup]
    constructor
    · rintro ⟨-, c, hc, rfl⟩
      exact ⟨c, hc, rfl⟩
    · rintro ⟨c, hc, rfl⟩
      exact ⟨c.isLt, c, hc, rfl⟩
  rw [hperm.length_eq, List.length_map]

/-- The copies a page was not programmed on are rebuilt at other sites. -/
def rebuildRest (copies : List (Fin 3)) (s : State) : State :=
  ((List.range 3).filter fun i => !(copiesDone copies).contains i).foldl (fun s i => rebuildCopy i s) s

/-- The map without its ledger's copies. -/
def sansCopies (s : State) : Translation := { s.map with copies := [] }

theorem sansCopies_rebuildRest (copies : List (Fin 3)) (s : State) : sansCopies (rebuildRest copies s) = sansCopies s := by
  have run (l : List Nat) (u : State) : sansCopies (l.foldl (fun s i => rebuildCopy i s) u) = sansCopies u := by
    induction l generalizing u with
    | nil => rfl
    | cons i l ih =>
      refine (ih _).trans ?_
      dsimp only
      unfold rebuildCopy
      split <;> rfl
  exact run _ s

theorem rebuildRest_keep (copies : List (Fin 3)) (s : State) : Keep 16916480 s (rebuildRest copies s) :=
  Keep.foldl _ _ s (fun u i => rebuildCopy_keep i u) (Keep.refl _ s)

theorem retryReads_none {s : State} (h : ∀ c ∈ s.nv.cmds, c.waits = false) : retryReads s = s := by
  have hnil : s.nv.cmds.filter (fun c => c.waits) = [] := by
    rw [List.filter_eq_nil_iff]
    intro c hc
    simp [h c hc]
  rw [retryReads, hnil]
  rfl

section PageDone

variable {s : State} {copies : List (Fin 3)}

theorem exec_ledgerPageDone_nothing (h : s.life.phase ≠ .service ∨ s.life.fwStart = false ∨ s.map.pendingSlots = []) :
    exec (.ledgerPageDone copies) s = .next s := congrArg Host.Outcome.next (if_pos h)

/-- The state once a page is programmed on some copies. -/
def pageDone (copies : List (Fin 3)) (s : State) : State :=
  endOverlayEpisode (rebuildRest copies (if 2 ≤ copies.dedup.length then ledgerFlush s else onlyCopy (copiesDone copies) s))

theorem pageDone_keep : Keep 16916608 s (pageDone copies s) := by
  refine Keep.on (endOverlayEpisode_keep _) (Keep.on (rebuildRest_keep _ _) ?_ rfl) rfl
  split
  · exact Keep.on (ledgerFlush_keep s) (Keep.refl _ _) rfl
  · exact Keep.on (onlyCopy_keep _ s) (Keep.refl _ _) rfl

variable (hp : s.life.phase = .service) (hf : s.life.fwStart = true) (hc : s.life.captureReady = true)
  (hne : s.map.pendingSlots ≠ []) (hw : ∀ c ∈ s.nv.cmds, c.waits = false)

include hp hf hc hne hw in
theorem exec_ledgerPageDone : exec (.ledgerPageDone copies) s = .next (pageDone copies s) := by
  have hruns : ¬(s.life.phase ≠ .service ∨ s.life.fwStart = false ∨ s.map.pendingSlots = []) := by simp [hp, hf, hne]
  have k := pageDone_keep (s := s) (copies := copies)
  have hretry : retryReads (pageDone copies s) = pageDone copies s := retryReads_none (by rw [k.nv rfl]; exact hw)
  have hready : (pageDone copies s).life.captureReady = true := by rw [k.life rfl]; exact hc
  have hflush : (if 2 ≤ (copiesDone copies).length then ledgerFlush s else onlyCopy (copiesDone copies) s) =
      if 2 ≤ copies.dedup.length then ledgerFlush s else onlyCopy (copiesDone copies) s := by rw [copiesDone_length]
  have hexec : exec (.ledgerPageDone copies) s = .next (let t := retryReads (endOverlayEpisode (rebuildRest copies
      (if 2 ≤ (copiesDone copies).length then ledgerFlush s else onlyCopy (copiesDone copies) s)))
      if t.life.captureReady then t else reachCaptureReady t) := congrArg Host.Outcome.next (if_neg hruns)
  rw [hexec, hflush]
  change Host.Outcome.next (if (retryReads (pageDone copies s)).life.captureReady then retryReads (pageDone copies s)
    else reachCaptureReady (retryReads (pageDone copies s))) = _
  rw [hretry, if_pos hready]

/-- Beside the copies and the overlay episode the map is as the slots left it. -/
theorem pageDone_map {u : State}
    (h : (if 2 ≤ copies.dedup.length then ledgerFlush s else onlyCopy (copiesDone copies) s) = u) :
    let t := pageDone copies s
    t.map.sbs = u.map.sbs ∧ t.map.slots = u.map.slots ∧ t.map.pendingSlots = u.map.pendingSlots ∧ t.ord = u.ord := by
  have hcopies := sansCopies_rebuildRest copies u
  have hord : (rebuildRest copies u).ord = u.ord := (rebuildRest_keep copies u).ord rfl
  intro t
  have ht : t = endOverlayEpisode (rebuildRest copies u) := by rw [← h]; rfl
  rw [ht, endOverlayEpisode_eq]
  have hsbs : (rebuildRest copies u).map.sbs = u.map.sbs :=
    show (sansCopies (rebuildRest copies u)).sbs = (sansCopies u).sbs by rw [hcopies]
  have hslots : (rebuildRest copies u).map.slots = u.map.slots :=
    show (sansCopies (rebuildRest copies u)).slots = (sansCopies u).slots by rw [hcopies]
  have hpending : (rebuildRest copies u).map.pendingSlots = u.map.pendingSlots :=
    show (sansCopies (rebuildRest copies u)).pendingSlots = (sansCopies u).pendingSlots by rw [hcopies]
  exact ⟨hsbs, hslots, hpending, hord⟩

/-- A page on two copies makes its slots durable. -/
theorem pageDone_durable (h2 : 2 ≤ copies.dedup.length) (hne : s.map.pendingSlots ≠ [])
    (hpages : s.map.pages + (s.map.pendingSlots.length + 254) / 255 < 1536) (hno : NoRecords s.ord.accepted) :
    let t := pageDone copies s
    t.map.pendingSlots = [] ∧ t.map.slots = s.map.pendingSlots.reverse ++ s.map.slots ∧
      (∀ q sb standby utc, Slot.grant q sb standby utc ∈ s.map.pendingSlots → ∀ b, findSb t sb = some b → b.usable = true) ∧
      (∀ top, Slot.seqBlock top ∈ s.map.pendingSlots → top ≤ t.ord.top) ∧ s.ord.top ≤ t.ord.top ∧
      t.ord.next = s.ord.next := by
  obtain ⟨hsbs, hslots, hpending, hord⟩ := pageDone_map (s := s) (copies := copies) (if_pos h2)
  have hflush := eq_of_sansTables (ledgerFlush_small hne hpages hno)
  have hdur := slotsDurable_all s.map.pendingSlots (journaled s)
  intro t
  refine ⟨?_, ?_, fun q sb standby utc hgrant b hb => ?_, fun top htop => ?_, ?_, ?_⟩
  · rw [hpending, hflush]
    exact hdur.pendingSlots
  · rw [hslots, hflush]
    exact hdur.slots
  · rw [findSb, hsbs, hflush] at hb
    exact usable_of_grant hgrant (journaled s) b hb
  · rw [hord, hflush]
    exact top_of_seqBlock htop (journaled s)
  · rw [hord, hflush]
    exact hdur.top
  · rw [hord, hflush]
    exact hdur.next

end PageDone

end Sys2Proof.Proofs
end

section
/-! Static wear levelling, and the obligation on superblocks settled (O42). -/

namespace Sys2Proof.Proofs

open Sys2Proof Sys2Proof.Machine Sys2Proof.Safety Sys2Proof.Laws

/-! ## The two superblocks of a static move (R197) -/

theorem coldest_mem {s : State} {g : Nat} {src : Superblock} (h : coldest s g = some src) :
    src ∈ s.map.sbs ∧ src.state = .closed := by
  have hmem (x : Superblock) (hx : x ∈ s.map.sbs.filter fun b => groupOf b.number == g && b.state == .closed) :
      x ∈ s.map.sbs ∧ x.state = .closed := by
    simp only [List.mem_filter, Bool.and_eq_true, beq_iff_eq] at hx
    exact ⟨hx.1, hx.2.2⟩
  by_cases hnil : (s.map.sbs.filter fun b => groupOf b.number == g && b.state == .closed) = []
  · rw [coldest, hnil] at h
    cases h
  · obtain ⟨c, hc, hfrom, -⟩ := foldl_pick (pick := fun o b => match o with
        | none => some b
        | some x => if b.eraseCount < x.eraseCount ∨ (b.eraseCount = x.eraseCount ∧ b.closeStamp < x.closeStamp) then some b
          else some x) (fun _ => 0) (fun o b => by
      cases o with
      | none => exact ⟨b, rfl, .inl rfl, le_rfl, by simp⟩
      | some x =>
        dsimp only
        split
        · exact ⟨b, rfl, .inl rfl, le_rfl, by simp⟩
        · exact ⟨x, rfl, .inr rfl, le_rfl, by simp⟩) (o := none) (.inl hnil)
    obtain rfl : c = src := Option.some.inj (hc.symm.trans h)
    exact hmem c (hfrom.resolve_right (by simp))

theorem mostWorn_mem {s : State} {g : Nat} {dst : Superblock} (h : mostWorn s g = some dst) :
    dst ∈ s.map.sbs ∧ dst.state = .erased := by
  have hmem (x : Superblock) (hx : x ∈ s.map.sbs.filter fun b => groupOf b.number == g && b.state == .erased) :
      x ∈ s.map.sbs ∧ x.state = .erased := by
    simp only [List.mem_filter, Bool.and_eq_true, beq_iff_eq] at hx
    exact ⟨hx.1, hx.2.2⟩
  by_cases hnil : (s.map.sbs.filter fun b => groupOf b.number == g && b.state == .erased) = []
  · rw [mostWorn, hnil] at h
    cases h
  · obtain ⟨c, hc, hfrom, -⟩ := foldl_pick (pick := fun o b => match o with
        | none => some b
        | some x => if x.eraseCount < b.eraseCount then some b else some x) (fun _ => 0) (fun o b => by
      cases o with
      | none => exact ⟨b, rfl, .inl rfl, le_rfl, by simp⟩
      | some x =>
        dsimp only
        split
        · exact ⟨b, rfl, .inl rfl, le_rfl, by simp⟩
        · exact ⟨x, rfl, .inr rfl, le_rfl, by simp⟩) (o := none) (.inl hnil)
    obtain rfl : c = dst := Option.some.inj (hc.symm.trans h)
    exact hmem c (hfrom.resolve_right (by simp))

/-! ## The target granted (R198) -/

theorem updateSb_id (n : Nat) (s : State) : updateSb n id s = s := by
  have hid : changeWhere (fun b : Superblock => b.number == n) id s.map.sbs = s.map.sbs := by
    simp [changeWhere]
  rw [updateSb, hid]

/-- A blank check that finds no half-erased block changes the target's record alone. -/
theorem blankCheck_quiet {s : State} {n : Nat} {b : Superblock} {half : List BlankFound} (hb : findSb s n = some b)
    (h : half = [] ∨ b.blankPending = false) :
    ∃ f : Superblock → Superblock, (∀ x, (f x).number = x.number) ∧ blankCheck n half s = updateSb n f s := by
  cases hblank : b.blankPending with
  | false => exact ⟨id, fun _ => rfl, by rw [blankCheck_known half (by simp [hb, hblank]), updateSb_id]⟩
  | true =>
    obtain rfl : half = [] := h.resolve_right (by simp [hblank])
    refine ⟨fun x => { countErases (fun _ => false) x with blankPending := false }, fun _ => rfl, ?_⟩
    have hpending : (findSb s n).any (·.blankPending) = true := by simp [hb, hblank]
    rw [blankCheck, if_pos hpending]
    dsimp only [halfErasedOf, List.filter_nil, List.foldl_nil, List.any_nil, List.isEmpty_nil]
    split <;> rfl

/-- A superblock granted as the target of a static move. -/
def targetSb (out : List Nat) (utc now : Nat) (b : Superblock) : Superblock :=
  { b with state := .granted, usable := true, leftOut := out, grantUtc := utc, openedUs := now }

/-- The state with the target granted and the ledger flushed. -/
def targetGranted (half : List BlankFound) (n : Nat) (s : State) : State :=
  let s := blankCheck n half s
  let s := updateSb n (targetSb (membersOut s (groupOf n)) (utcSeconds s.clk.utc) s.clk.us) s
  ledgerFlush (appendSlot (.grant (lastIssued s) n true (s.clk.utc.getD 0)) s)

theorem targetGranted_spec {s : State} {n : Nat} {b : Superblock} {half : List BlankFound} (hb : findSb s n = some b)
    (h : half = [] ∨ b.blankPending = false) (hacc : s.ord.accepted = []) :
    let t := targetGranted half n s
    Keep 131200 s t ∧ t.ord.accepted = [] ∧ SameTables s t ∧ moveCounts t = moveCounts s ∧
      ∃ y, findSb t n = some y ∧ y.state = .granted := by
  intro t
  obtain ⟨f, hf, hblank⟩ := blankCheck_quiet hb h
  have ht : t = ledgerFlush (appendSlot (.grant (lastIssued s) n true (s.clk.utc.getD 0))
      (updateSb n (targetSb (membersOut (updateSb n f s) (groupOf n)) (utcSeconds s.clk.utc) s.clk.us) (updateSb n f s))) := by
    simp only [t, targetGranted, hblank]
    rfl
  obtain ⟨hnone, htables, hcounts, hstates⟩ := ledgerFlush_nothing
    (s := appendSlot (.grant (lastIssued s) n true (s.clk.utc.getD 0))
      (updateSb n (targetSb (membersOut (updateSb n f s) (groupOf n)) (utcSeconds s.clk.utc) s.clk.us) (updateSb n f s))) hacc
  rw [ht]
  refine ⟨?_, hnone, ⟨htables.namespaces, htables.segments, htables.overlay, htables.mapLost⟩, hcounts, ?_⟩
  · exact Keep.on (ledgerFlush_keep _) (Keep.on (appendSlot_keep _ _) (Keep.on (updateSb_keep _ _ _)
      (Keep.on (updateSb_keep _ _ _) (Keep.refl _ _) rfl) rfl) rfl) rfl
  · have hfirst : findSb (updateSb n f s) n = some (f b) := findSb_updateSb_self hb hf
    have hgranted := findSb_updateSb_self hfirst
      (f := targetSb (membersOut (updateSb n f s) (groupOf n)) (utcSeconds s.clk.utc) s.clk.us) (fun _ => rfl)
    exact Option.map_eq_some_iff.mp ((hstates n).trans (congrArg (Option.map (·.state)) hgranted))

/-! ## Copies into the target (R195, R197, R200) -/

/-- A superblock with copies of units placed in it. -/
def withCopies (redone off : Nat) (us : List FlashUnit) (b : Superblock) : Superblock :=
  sendRows (appendUnits (us.zipIdx.map fun x => copiedUnit (BitVec.ofNat 8 (redone + 1)) us.length (off + x.2) x.1) b)

/-- The state with copies placed and counted, before the map follows them. -/
def copiesCounted (redone n off : Nat) (us : List FlashUnit) (s : State) : State :=
  { updateSb n (withCopies redone off us) s with
    map := { (updateSb n (withCopies redone off us) s).map with gcBytes := s.map.gcBytes + us.length * 4096 } }

theorem copyInto_eq (good : Bool) (redone src : Nat) {n : Nat} (us : List FlashUnit) {s : State} {b : Superblock}
    (hb : findSb s n = some b) : copyInto good redone src n us s =
      if good then remapCopy src us n b.fill (copiesCounted redone n b.fill us s)
      else addMove ⟨src, n, redone + 1⟩ (copiesCounted redone n b.fill us s) := by
  simp only [copyInto, hb]
  rfl

theorem copyInto_spec (good : Bool) (redone src : Nat) {n : Nat} (us : List FlashUnit) {s : State} {b : Superblock}
    (hb : findSb s n = some b) :
    (∃ y, findSb (copyInto good redone src n us s) n = some y ∧ y.state = b.state) ∧
      moveCounts (copyInto good redone src n us s) = (s.map.gcBytes + us.length * 4096, s.map.staticMoves) := by
  have hplaced := findSb_updateSb_self hb (f := withCopies redone b.fill us) (fun _ => rfl)
  rw [copyInto_eq good redone src us hb]
  split
  · have hsame := eq_of_sansTables (sansTables_remapCopy src us n b.fill (copiesCounted redone n b.fill us s))
    rw [hsame]
    exact ⟨⟨_, hplaced, rfl⟩, rfl⟩
  · exact ⟨⟨_, hplaced, rfl⟩, rfl⟩

theorem copiesInto_spec (good : Bool) (redone src : Nat) {n : Nat} (cs : List (List FlashUnit)) {s : State} {b : Superblock}
    (hb : findSb s n = some b) :
    let t := cs.foldl (fun s us => copyInto good redone src n us s) s
    (∃ y, findSb t n = some y ∧ y.state = b.state) ∧
      moveCounts t = (s.map.gcBytes + (cs.map List.length).sum * 4096, s.map.staticMoves) := by
  induction cs generalizing s b with
  | nil => exact ⟨⟨b, hb, rfl⟩, by simp [moveCounts]⟩
  | cons us cs ih =>
    obtain ⟨⟨y, hy, hstate⟩, hcounts⟩ := copyInto_spec good redone src us hb
    obtain ⟨⟨z, hz, hstate'⟩, hcounts'⟩ := ih hy
    obtain ⟨hbytes, hmoves⟩ := Prod.mk.inj hcounts
    refine ⟨⟨z, hz, hstate'.trans hstate⟩, hcounts'.trans ?_⟩
    rw [hbytes, hmoves, List.map_cons, List.sum_cons, Nat.add_mul, Nat.add_assoc]

theorem copiesInto_keep (good : Bool) (redone src n : Nat) (cs : List (List FlashUnit)) (s : State) :
    Keep 131072 s (cs.foldl (fun s us => copyInto good redone src n us s) s) :=
  Keep.foldl _ _ s (fun u us => copyInto_keep good redone src n us u) (Keep.refl _ s)

/-! ## The target closed (R178, R186) -/

/-- Rows programmed one after another, whatever else of the superblock stays. -/
theorem findSb_rowDones {n : Nat} (rows : List Nat) {s : State} {b : Superblock} (hb : findSb s n = some b) :
    ∃ z, findSb (rows.foldl (fun s r => rowDone n r s) s) n = some z ∧ z.rowsSent = b.rowsSent ∧ z.state = b.state ∧
      z.active = b.active ∧ closing z = closing b ∧ (∀ r ∈ b.rowsDone, r ∈ z.rowsDone) ∧ ∀ r ∈ rows, r ∈ z.rowsDone := by
  induction rows generalizing s b with
  | nil => exact ⟨b, hb, rfl, rfl, rfl, rfl, fun _ hr => hr, by simp⟩
  | cons r rows ih =>
    obtain ⟨z, hz, hsent, hstate, hactive, hclosing, hdone, hrows⟩ := ih (findSb_rowDone r hb)
    refine ⟨z, hz, hsent, hstate, hactive, hclosing, fun q hq => hdone q (List.mem_append_left _ hq), fun q hq => ?_⟩
    rcases List.mem_cons.mp hq with rfl | hq
    · exact hdone q (List.mem_append_right _ (List.mem_singleton_self _))
    · exact hrows q hq

/-- With nothing accepted, a GRANTED superblock whose summary is placed is CLOSED once its rows are programmed. -/
theorem finishRows_closes {s : State} {n : Nat} {b : Superblock} (hb : findSb s n = some b) (hg : b.state = .granted)
    (hclosing : closing b = true) (hacc : s.ord.accepted = []) :
    (∃ y, findSb (finishRows n s) n = some y ∧ y.state = .closed ∧ y.active = b.active) ∧
      moveCounts (finishRows n s) = moveCounts s := by
  obtain ⟨z, hz, hsent, hstate, hactive, hcl, hdone, hrows⟩ :=
    findSb_rowDones (b.rowsSent.filter fun r => !b.rowsDone.contains r) hb
  have hsans := sansSbs_foldl (f := fun s r => rowDone n r s) (fun s r => sansSbs_rowDone n r s)
    (b.rowsSent.filter fun r => !b.rowsDone.contains r) s
  have hnone : ((b.rowsSent.filter fun r => !b.rowsDone.contains r).foldl (fun s r => rowDone n r s) s).ord.accepted = [] := by
    rw [eq_of_sansSbs hsans]
    exact hacc
  have hfinish : finishRows n s =
      finishClose n ((b.rowsSent.filter fun r => !b.rowsDone.contains r).foldl (fun s r => rowDone n r s) s) := by
    simp only [finishRows, hb, markProgrammed_nothing hnone]
  have hall : ∀ r ∈ z.rowsSent, r ∈ z.rowsDone := by
    intro r hr
    rw [hsent] at hr
    by_cases hin : r ∈ b.rowsDone
    · exact hdone r hin
    · exact hrows r (List.mem_filter.mpr ⟨hr, by simpa using hin⟩)
  have hclose := finishClose_eq hz (hstate.trans hg)
  rw [if_pos ⟨hcl.trans hclosing, hall⟩] at hclose
  constructor
  · rw [hfinish, hclose]
    exact ⟨_, findSb_updateSb_self hz (f := toClosed) (fun _ => rfl), rfl, hactive⟩
  · rw [hfinish, moveCounts_finishClose]
    exact moveCounts_of_sansSbs hsans

/-- Copies go into a GRANTED superblock, which is closed then. -/
theorem copiesClosed_spec (good : Bool) (redone src : Nat) {n : Nat} (cs : List (List FlashUnit)) {s : State}
    {b : Superblock} (hb : findSb s n = some b) (hg : b.state = .granted) (hacc : s.ord.accepted = []) :
    let t := finishRows n (closeSb n (cs.foldl (fun u us => copyInto good redone src n us u) s))
    Keep 131200 s t ∧ (∃ y, findSb t n = some y ∧ y.state = .closed ∧ y.active = false) ∧
      moveCounts t = (s.map.gcBytes + (cs.map List.length).sum * 4096, s.map.staticMoves) := by
  obtain ⟨⟨z, hz, hstate⟩, hcopied⟩ := copiesInto_spec good redone src cs hb
  have hcopies := copiesInto_keep good redone src n cs s
  have hnone := ((closeSb_keep n _).ord rfl).trans (hcopies.ord rfl)
  obtain ⟨hclosed, hfinished⟩ := finishRows_closes (findSb_closeSb hz) (hstate.trans hg) (closing_closedSb _ _)
    (by rw [hnone]; exact hacc)
  refine ⟨?_, hclosed, hfinished.trans ((moveCounts_of_sansSbs (sansSbs_closeSb _ _)).trans hcopied)⟩
  exact Keep.on (finishRows_keep _ _) (Keep.on (closeSb_keep _ _) (Keep.on hcopies (Keep.refl _ _) rfl) rfl) rfl

/-! ## The move as a whole (R197) -/

/-- What is to be copied reads the namespaces, the map's tables, the accepted writes and the dies withdrawn. -/
theorem copyUnits_same {s t : State} (h : SameTables s t) (hacc : t.ord.accepted = s.ord.accepted) (hst : t.st = s.st)
    (b : Superblock) : copyUnits t b = copyUnits s b := by
  have hresolve : resolveMap t = resolveMap s := funext fun ns => funext fun lba => h.resolveMap ns lba
  have hout : dieOut t = dieOut s := funext fun d => by simp only [dieOut, channelOut, isFenced, hst]
  have hvalid : unitValid t b = unitValid s b := funext fun u => by simp only [unitValid, hresolve, hacc]
  have hcopy : copyable t b = copyable s b := funext fun u => by simp only [copyable, hout]
  simp only [copyUnits, validUnits, hvalid, hcopy]

theorem forgetMoves_keep (src : Nat) (s : State) : Keep 131072 s (forgetMoves src s) :=
  Keep.upd_131072 rfl (Keep.refl _ s)

/-- The state with the source's units copied into the target and the target closed. -/
def movedInto (good : Bool) (half : List BlankFound) (src dst : Superblock) (s : State) : State :=
  let t := targetGranted half dst.number s
  finishRows dst.number (closeSb dst.number ((copiesOf (copyUnits t src)).foldl
    (fun u us => copyInto good (redoneOf t src.number) src.number dst.number us u) (forgetMoves src.number t)))

/-- A copy that reads back wrong is logged. -/
def checkedMove (good : Bool) (us : List FlashUnit) (src : Superblock) (s : State) : State :=
  match us.head? with
  | some u => if good then s else logBadCopy src u s
  | none => s

theorem moveInto_eq (good : Bool) (half : List BlankFound) (src dst : Superblock) (s : State) :
    moveInto good half src dst s = freeIfEmpty src.number
      (checkedMove good (copyUnits (targetGranted half dst.number s) src) src (movedInto good half src dst s)) := rfl

theorem checkedMove_map (good : Bool) (us : List FlashUnit) (src : Superblock) (s : State) :
    (checkedMove good us src s).map = s.map ∧ (good = true → checkedMove good us src s = s) := by
  unfold checkedMove
  split
  · split
    next h => exact ⟨rfl, fun _ => rfl⟩
    next h =>
      refine ⟨?_, fun h' => absurd h' h⟩
      rw [logBadCopy, startTest_frame]
      rfl
  · exact ⟨rfl, fun _ => rfl⟩

section Move

variable {s : State} {src dst : Superblock} {half : List BlankFound} (good : Bool)
  (hd : findSb s dst.number = some dst) (hblank : half = [] ∨ dst.blankPending = false) (hacc : s.ord.accepted = [])

include hd hblank hacc

theorem movedInto_spec :
    Keep 131200 s (movedInto good half src dst s) ∧
      (∃ y, findSb (movedInto good half src dst s) dst.number = some y ∧ y.state = .closed ∧ y.active = false) ∧
      moveCounts (movedInto good half src dst s) =
        (s.map.gcBytes + (copyUnits s src).length * 4096, s.map.staticMoves) := by
  unfold movedInto
  dsimp only
  obtain ⟨hkeep, hnone, htables, hcounts, y, hy, hgranted⟩ := targetGranted_spec hd hblank hacc
  generalize targetGranted half dst.number s = u at *
  have hunits := copyUnits_same htables (hnone.trans hacc.symm) (hkeep.st rfl) src
  obtain ⟨hbytes, hmoves⟩ := Prod.mk.inj hcounts
  obtain ⟨hk, hclosed, hcopied⟩ := copiesClosed_spec good (redoneOf u src.number) src.number (copiesOf (copyUnits u src))
    (s := forgetMoves src.number u) (b := y) hy hgranted hnone
  rw [copiesOf_length, hunits] at hcopied
  rw [hunits] at hk hclosed ⊢
  refine ⟨Keep.on hk (Keep.on (forgetMoves_keep _ _) hkeep rfl) rfl, hclosed, hcopied.trans ?_⟩
  exact congrArg₂ (fun a b => (a + (copyUnits s src).length * 4096, b)) hbytes hmoves

/-- A static move closes the target, counts its copies and logs nothing but a bad copy. -/
theorem moveInto_spec (hne : dst.number ≠ src.number) :
    (∃ y, findSb (moveInto good half src dst s) dst.number = some y ∧ y.state = .closed ∧ y.active = false) ∧
      moveCounts (moveInto good half src dst s) =
        (s.map.gcBytes + (copyUnits s src).length * 4096, s.map.staticMoves) ∧
      (good = true → Keep 131200 s (moveInto good half src dst s)) := by
  obtain ⟨hk, ⟨y, hy, hclosed, hidle⟩, hcounts⟩ := movedInto_spec good (src := src) hd hblank hacc
  obtain ⟨hmap, hgood⟩ := checkedMove_map good (copyUnits (targetGranted half dst.number s) src) src
    (movedInto good half src dst s)
  rw [moveInto_eq]
  refine ⟨⟨y, ?_, hclosed, hidle⟩, ?_, fun h => ?_⟩
  · rw [findSb_freeIfEmpty_other hne, findSb, hmap]
    exact hy
  · rw [moveCounts_freeIfEmpty, moveCounts, hmap]
    exact hcounts
  · rw [hgood h]
    exact Keep.on (freeIfEmpty_keep _ _) hk rfl

end Move

/-- The time of a group's last move. -/
def moveTimed (g : Nat) (s : State) : State :=
  { s with map := { s.map with staticMoves := (g, s.clk.us) :: s.map.staticMoves.filter fun m => m.1 != g } }

theorem exec_staticWearLevel {s : State} (group : Fin 32) (half : List BlankFound) (good : Bool) {src dst : Superblock}
    (hsrc : coldest s group = some src) (hdst : mostWorn s group = some dst) (hmay : mayMove s group = true) :
    exec (.staticWearLevel group half good) s = .next (moveTimed group (moveInto good half src dst s)) := by
  change execStaticWearLevel group half good s = _
  simp only [execStaticWearLevel, hsrc, hdst, hmay, if_true]
  rfl

theorem exec_staticWearLevel_none {s : State} (group : Fin 32) (half : List BlankFound) (good : Bool)
    (hmay : mayMove s group = false) : exec (.staticWearLevel group half good) s = .next s := by
  change execStaticWearLevel group half good s = _
  simp only [execStaticWearLevel, hmay, Bool.false_eq_true, if_false]
  split <;> rfl

/-! ## The obligation -/

/-- A grant of the least erased superblock of a group, waiting for its slot (R32, R186). -/
theorem superblockGrant_grants {s : State} {group : Fin 32} {half : List BlankFound} {b : Superblock}
    (hs : serving s = true) (hbg : backgroundOpen s = false) (hclean : ∀ x ∈ s.map.sbs, x.state ≠ .dirty)
    (hopen : (openIn s group).length < 2) (hout : (membersOut s group).length < 9)
    (hblank : ∀ b ∈ s.map.sbs, b.blankPending = false) (hnd : (s.map.sbs.map (·.number)).Nodup)
    (hnext : nextErased s group = some b) (hb : b ∈ s.map.sbs) : ∃ t, exec (.superblockGrant group half) s = .next t ∧
      findSb t b.number = some
        (grantedSb (!(openIn s group).any (·.active)) (membersOut s group) (utcSeconds s.clk.utc) b) ∧
      t.map.pendingSlots = s.map.pendingSlots ++
        [.grant (s.ord.next - 1) b.number ((openIn s group).any (·.active)) (s.clk.utc.getD 0)] ∧
      t = { s with map := { s.map with
        sbs := t.map.sbs, pendingSlots := t.map.pendingSlots, gcGroups := t.map.gcGroups } } := by
  have hfind := findSb_of_mem hnd hb
  have hgrant := grantSb_eq half hopen hout hnext (by simp [hfind, hblank b hb])
  have hgranted := findSb_updateSb_self hfind
    (f := grantedSb (!(openIn s group).any (·.active)) (membersOut s group) (utcSeconds s.clk.utc)) (fun _ => rfl)
  have hnone : issueErases (grantSb group half s) = grantSb group half s := by
    refine issueErases_none fun x hx => ?_
    rw [hgrant, updateGc_eq] at hx
    obtain ⟨y, hy, rfl⟩ := List.mem_map.mp hx
    split
    · simp [grantedSb]
    · exact hclean y hy
  refine ⟨_, exec_superblockGrant group half hs hbg, ?_⟩
  rw [hnone, hgrant, updateGc_eq]
  exact ⟨hgranted, rfl, rfl⟩

/-- Settles O42: grants, ledger pages, collection, folds and static moves do what their rules say. -/
theorem superblocks : Obligations.Superblocks := by
  unfold Obligations.Superblocks
  intro s
  refine ⟨fun group half hs hbg hclean => ?_, fun copies hw => ⟨exec_ledgerPageDone_nothing, fun hp hf hc hne => ?_⟩,
    fun src b hb => ?_, fun segment n hn => ?_, fun group half good => ?_⟩
  · intro inGroup opens
    have hexec := exec_superblockGrant group half hs hbg
    have hkept (h : grantSb group half s = s) : exec (.superblockGrant group half) s = .next s := by
      rw [hexec, h, issueErases_none hclean]
    refine ⟨fun hopen => hkept (if_pos (.inl hopen)), fun hnone => hkept ?_, fun hopen hout hblank hsome hnd => ?_⟩
    · have hnext : nextErased s group = none := nextErased_none hnone
      unfold grantSb
      simp only [hnext]
      split <;> rfl
    · obtain ⟨b, hnext, hb, hgroup, herased, hleast⟩ := nextErased_least hsome
      obtain ⟨t, ht, hgranted, hslot, hframe⟩ :=
        superblockGrant_grants (half := half) hs hbg hclean hopen hout hblank hnd hnext hb
      exact ⟨t, b, ht, hb, hgroup, herased, hleast, hgranted, hslot, hframe⟩
  · have hexec := exec_ledgerPageDone (copies := copies) hp hf hc hne hw
    refine ⟨fun hone => ⟨_, hexec, ?_⟩, fun htwo hpages hno => ⟨_, hexec, ?_⟩⟩
    · obtain ⟨hsbs, hslots, hpending, hord⟩ := pageDone_map (s := s) (copies := copies) (if_neg (by omega))
      exact ⟨hpending, hslots, hsbs, hord⟩
    · obtain ⟨hpending, hslots, husable, htop, hmono, hnext⟩ := pageDone_durable htwo hne hpages hno
      have k := pageDone_keep (s := s) (copies := copies)
      exact ⟨hpending, hslots, husable, htop, hmono, hnext, k.str rfl, k.clk rfl⟩
  · refine ⟨fun h ok => ?_, fun hbg hdue => ?_⟩
    · rw [exec_gcCopyDone hb, if_neg]
      rintro ⟨hbg, hdue⟩
      rcases h with h | h
      · simp [h] at hbg
      · simp [h] at hdue
    · have hexec (ok : Bool) : exec (.gcCopyDone src ok) s = .next (collected ok src s) := by
        rw [exec_gcCopyDone hb, if_pos ⟨hbg, hdue⟩]
        rfl
      have hclosed : b.state = .closed := by
        simp only [gcDue, Bool.and_eq_true, beq_iff_eq] at hdue
        exact hdue.1
      obtain ⟨⟨k, hk, hbytes⟩, hframe⟩ := collected_good hb
      refine ⟨⟨_, k, hk, hexec true, hbytes, hframe⟩, fun hunits hacc hgranted => ⟨_, hexec true, ?_⟩,
        fun u rest hu => ⟨_, hexec false, collected_bad hb hu⟩⟩
      exact collected_nothing hb hclosed hunits hacc hgranted
  · intro e runs
    have hexec := exec_foldStart hn
    have hruns : foldingRuns s = true ↔ runs := foldingRuns_iff s
    refine ⟨fun h => ?_, fun hr hfold hfirst htop => ?_⟩
    · rw [hexec, if_neg]
      rintro ⟨hr, hfold, hfirst⟩
      rcases h with h | h | h
      · exact h (hruns.mp hr)
      · exact absurd (hfold.symm.trans h) (by simp)
      · exact absurd (hfirst.symm.trans h) (by simp)
    · have hleft : numbersLeft s 1 = true := by
        simp only [numbersLeft, decide_eq_true_eq]
        omega
      rw [if_pos ⟨hruns.mpr hr, hfold, hfirst⟩, needNumbers, if_pos hleft] at hexec
      have hseg : (segEntry s segment).seg = segment := segEntry_seg s segment
      obtain ⟨hentry, hothers, hoverlay⟩ := beginFold_marks (s := s) (n := n) segment
      have hlba : (foldWrite s n (segEntry s segment).seg).lba = (segment - n.base) * 256 := by
        rw [hseg]
        rfl
      refine ⟨_, foldWrite s n (segEntry s segment).seg, hexec, rfl, rfl, rfl, rfl, rfl, hlba, rfl, ?_, rfl, rfl, hentry,
        hothers, hoverlay, rfl⟩
      simp [foldWrite]
  · intro i
    refine ⟨exec_staticWearLevel_none group half good, fun src dst hmay hsrc hdst hblank hacc hnd => ?_⟩
    obtain ⟨hsmem, hsclosed⟩ := coldest_mem hsrc
    obtain ⟨hdmem, hderased⟩ := mostWorn_mem hdst
    have hsfind := findSb_of_mem hnd hsmem
    have hdfind := findSb_of_mem hnd hdmem
    have hne : dst.number ≠ src.number := by
      intro h
      rw [h, hsfind] at hdfind
      cases hdfind
      rw [hsclosed] at hderased
      cases hderased
    obtain ⟨⟨y, hy, hclosed, hidle⟩, hcounts, hquiet⟩ := moveInto_spec good (src := src) hdfind hblank hacc hne
    obtain ⟨hbytes, hmoves⟩ := Prod.mk.inj hcounts
    have kall := moveInto_keep good half src dst s
    refine ⟨_, y, exec_staticWearLevel group half good hsrc hdst hmay, hy, hclosed, hidle, hbytes, ?_, fun hgood => ?_, ?_⟩
    · simp only [moveTimed, hmoves, kall.clk rfl]
    · exact (Keep.upd_131072 rfl (hquiet hgood) : Keep 131200 s (moveTimed group _)).same
    · exact (Keep.upd_131072 rfl kall : Keep 25305216 s (moveTimed group _)).same

end Sys2Proof.Proofs
end

section
/-! Proofs about the capture link's commands and what goes out on IB (O24). -/

namespace Sys2Proof.Proofs

open Sys2Proof Sys2Proof.Machine Sys2Proof.Safety Sys2Proof.Laws

/-! ## Messages on IB (R38, R50, R51) -/

/-- The link once message `m` has gone out, while IB runs. -/
def linkAfter (m : List Byte) (l : Link) : Link :=
  { l with
    seq := if l.ibOn then l.seq + 1 else l.seq
    ibScrambler := if l.ibOn then (ibBlocks m l.ibScrambler).2 else l.ibScrambler }

/-- What has been sent once message `m` has gone out, while IB runs. -/
def outAfter (m : List Byte) (l : Link) (out : List Out) : List Out :=
  if l.ibOn then .ib m (ibBlocks m l.ibScrambler).1 :: out else out

theorem linkAfter_on {l : Link} (m : List Byte) (h : l.ibOn = true) :
    linkAfter m l = { l with seq := l.seq + 1, ibScrambler := (ibBlocks m l.ibScrambler).2 } := by
  rw [linkAfter, if_pos h, if_pos h]

theorem linkAfter_off {l : Link} (m : List Byte) (h : ¬ l.ibOn = true) : linkAfter m l = l := by
  rw [linkAfter, if_neg h, if_neg h]

/-- The state once message `m` has gone out, while IB runs. -/
def sentIb (m : List Byte) (s : State) : State := { s with link := linkAfter m s.link, out := outAfter m s.link s.out }

theorem sentIb_on {s : State} (m : List Byte) (h : s.link.ibOn = true) : sentIb m s = { s with
    link := { s.link with seq := s.link.seq + 1, ibScrambler := (ibBlocks m s.link.ibScrambler).2 }
    out := .ib m (ibBlocks m s.link.ibScrambler).1 :: s.out } := by
  rw [sentIb, linkAfter_on m h, outAfter, if_pos h]

theorem sentIb_off {s : State} (m : List Byte) (h : ¬ s.link.ibOn = true) : sentIb m s = s := by
  rw [sentIb, linkAfter_off m h, outAfter, if_neg h]

theorem sendIb_eq (type : Nat) (body : List Byte) (s : State) :
    sendIb type body s = sentIb (ibMessage type s.link.seq body) s := by
  by_cases h : s.link.ibOn = true
  · rw [sendIb, if_pos h, sentIb_on _ h]
    rfl
  · rw [sendIb, if_neg h, sentIb_off _ h]

theorem lockBitmap_eq_sum (l : Link) : lockBitmap l =
    ((List.range 8).map fun n => if l.lanes.any (fun x => x.lock && x.logical == some n) then 2 ^ n else 0).sum := by
  rw [List.sum_eq_foldl, List.foldl_map]
  rfl

/-- STATUS with its flags (R51). -/
def statusMessage (down : Bool) (l : Link) : List Byte := ibMessage 1 l.seq (statusBody { l with goingDown := down })

theorem statusMessage_bytes (down : Bool) (l : Link) : statusMessage down l =
    let head := leBytes 1 1 ++ leBytes 1 l.seq.toNat ++ leBytes 1 (bundleCode l.state) ++ leBytes 1 (lockBitmap l) ++
      leBytes 1 l.epoch.toNat ++ leBytes 4 l.granted.toNat ++
      leBytes 1 ((if l.state = .retrain then 1 else 0) + (if down = true then 2 else 0)) ++ leBytes 1 l.attempt.toNat ++ [0]
    head ++ leBytes 4 (crc32c head) := by
  have hflags : flag (l.state == .retrain) + 2 * flag down =
      (if l.state = .retrain then 1 else 0) + (if down = true then 2 else 0) := by
    cases down <;> simp [flag]
  rw [← hflags]
  rfl

theorem sendStatus_eq (s : State) : sendStatus s = sentIb (statusMessage s.link.goingDown s.link) s :=
  sendIb_eq _ _ _

/-! ## Results of commands as numbers (R133) -/

/-- The ring result of CAPTURE_LINK_UP (R140). -/
theorem linkUpResult_eq (l : Link) : linkUpResult l = BitVec.ofNat 128
    (bundleCode l.state + 256 * (l.epoch.toNat + 256 * (l.skew % 65536 + 65536 * if l.lastFast then 1 else 0))) := by
  have hcode : bundleCode l.state < 256 := by cases l.state <;> decide
  have hepoch := l.epoch.isLt
  have hflag : flag l.lastFast < 256 := by cases l.lastFast <;> decide
  simp only [linkUpResult, ringData, packBytes, leNat_append, leNat_leBytes, leBytes_length, leNat]
  congr 1
  simp only [flag] at hflag ⊢
  omega

/-! ## The commands (R137) -/

section Commands

variable {s : State} {m : Fin 16}

theorem exec_captureLinkUp_refused (h : Asked m 0x0040 s) (hw : s.link.state ≠ .down ∨ 2 ≤ s.pwr.state) :
    exec (.captureLinkUp m) s = .next (respond m stWrongState [] s) := by
  show Host.Outcome.next (serve m 0x0040 _ s) = _
  rw [serve_asked h, if_pos hw]

/-- What CAPTURE_LINK_UP makes of the link (R46, R47, R54). -/
def startedLink (window : Nat) (full : Bool) (l : Link) : Link :=
  { l with
    state := .await, attempt := l.attempt + 1, ibOn := true, fastNow := false, before := some (linkBefore l)
    window := if window = 0 then 512 else window, forceFull := full
    epoch := 0, granted := 0, consumed := 0, entered := false, fastFails := 0, lastFast := false, skew := 0
    retrains := 0, frozen := false, goingDown := false, haltedUp := false
    lanes := l.lanes.map fun x =>
      { laneRestart x with uncorr := 0, corr := 0, fom := 0, trains := 0, tuneDone := false } }

theorem startLink_eq (window : Nat) (full : Bool) (s : State) :
    startLink window full s = { s with link := startedLink window full s.link } := by
  simp only [startLink, enterAwait, onLanes, onLink, List.map_map]
  rfl

theorem exec_captureLinkUp_accepted (h : Asked m 0x0040 s) (hd : s.link.state = .down) (hp : s.pwr.state < 2)
    (hf : freeSlots s ≠ []) : ∃ t v u, exec (.captureLinkUp m) s = .next t ∧ Accepted m 0x0040 false 0 0 v s u t ∧
      u = { s with hnd := u.hnd, free := s.free + 1,
                   link := startedLink (reqField s m 8 2) ((reqField s m 10 1).testBit 0) s.link } := by
  have hpass : ¬ (s.link.state ≠ .down ∨ 2 ≤ s.pwr.state) := by simp [hd, hp]
  obtain ⟨v, u, hacc, w, hu, hw⟩ := accept_accepted m m.isLt 0x0040 0 0 false
    (fun _ s => startLink (reqField s m 8 2) ((reqField s m 10 1).testBit 0) s) s hf h.boxes
    fun _ u => by rw [startLink_eq]; exact ⟨rfl, rfl⟩
  refine ⟨_, v, u, ?_, hacc, ?_⟩
  · show Host.Outcome.next (serve m 0x0040 _ s) = _
    rw [serve_asked h, if_neg hpass]
    rfl
  · rw [hu, startLink_eq, hw]
    rfl

theorem exec_captureLinkDown_refused (h : Asked m 0x0041 s)
    (hw : (streamsActive s = true ∧ (reqField s m 8 1).testBit 0 = false) ∨ s.link.state = .halted) :
    exec (.captureLinkDown m) s = .next (respond m stWrongState [] s) := by
  show Host.Outcome.next (serve m 0x0041 _ s) = _
  rw [serve_asked h]
  rcases hw with ⟨ha, hb⟩ | hh
  · rw [ha, hb]
    rfl
  · rw [if_pos hh, ite_self]

theorem exec_captureLinkDown_taken (h : Asked m 0x0041 s)
    (hw : streamsActive s = false ∨ (reqField s m 8 1).testBit 0 = true) (hh : s.link.state ≠ .halted) :
    exec (.captureLinkDown m) s = .next (respond m stOk [] (takeLinkDown s)) := by
  have hpass : ¬ (streamsActive s && !(reqField s m 8 1).testBit 0) = true := by
    rcases hw with h | h <;> simp [h]
  show Host.Outcome.next (serve m 0x0041 _ s) = _
  rw [serve_asked h, if_neg hpass, if_neg hh]

theorem completeLinkUp_none (status : BitVec 16) (h : liveOp s 0x0040 = none) : completeLinkUp status s = s := by
  rw [completeLinkUp, h]
  rfl

theorem completeLinkUp_some {x : Handle} (status : BitVec 16) (h : liveOp s 0x0040 = some x) :
    completeLinkUp status s = completeHandle x.value status (linkUpResult s.link) s := by
  rw [completeLinkUp, h]
  rfl

/-- With no frame open and no CAPTURE_LINK_UP live, a going-down STATUS is sent and the bundle is DOWN. -/
theorem takeLinkDown_eq (hd : s.link.state ≠ .down) (hf : s.parse.frame = none) (hl : liveOp s 0x0040 = none) :
    takeLinkDown s =
      let l := s.link
      let status := statusMessage true l
      { s with
        link := { linkAfter status l with
          state := .down, ibOn := false, goingDown := false, frozen := false
          lanes := l.lanes.map fun x => { laneRestart x with signal := false } }
        parse := { s.parse with
          bits := 0, len := 0, pos := 0, bad := [], modes := [], gaps := [], searching := false, skipWords := 0 }
        out := outAfter status l s.out } := by
  have hclose (t : State) (ht : t.parse = s.parse) : closeShort 3 t = t := by rw [closeShort, ht, hf]
  rw [takeLinkDown, if_neg hd, sendStatus_eq]
  dsimp only
  rw [hclose _ (by rfl), completeLinkUp_none]
  · simp only [enterDown, dropParser, onLanes, onLink, sentIb, hf]
    rfl
  · exact hl

theorem exec_captureLinkStatus (h : Asked m 0x0042 s) :
    exec (.captureLinkStatus m) s = .next (respond m stOk (linkStatusBytes s.link) s) := by
  show Host.Outcome.next (serve m 0x0042 _ s) = _
  rw [serve_asked h]

theorem exec_captureLinkUpTimeout_quiet (h : s.link.state = .up ∨ liveOp s 0x0040 = none) :
    exec .captureLinkUpTimeout s = .next s := by
  show Host.Outcome.next (if s.link.state = .up then s else completeLinkUp stNotReady s) = _
  rcases h with h | h
  · rw [if_pos h]
  · rw [completeLinkUp_none _ h, ite_self]

theorem exec_captureLinkUpTimeout_live {x : Handle} (h : s.link.state ≠ .up) (hl : liveOp s 0x0040 = some x) :
    exec .captureLinkUpTimeout s = .next (completeHandle x.value stNotReady (linkUpResult s.link) s) := by
  show Host.Outcome.next (if s.link.state = .up then s else completeLinkUp stNotReady s) = _
  rw [if_neg h, completeLinkUp_some _ hl]

end Commands

/-- Settles O24: each command is an answer, with `startedLink` under a handle or a STATUS and the bundle DOWN before
it; what goes out on IB is `sentIb`. -/
theorem linkCommands : Obligations.LinkCommands := by
  unfold Obligations.LinkCommands
  intro s m l restart bitmap code status sent after active
  have hcode (b : Bundle) : code b = bundleCode b := by cases b <;> rfl
  have hbitmap : bitmap = lockBitmap l := (lockBitmap_eq_sum l).symm
  have hstatus (down : Bool) : status down = statusMessage down l := by
    rw [statusMessage_bytes]
    simp only [status, hcode, hbitmap]
  refine ⟨fun h => ⟨fun hw => ?_, fun hd hp hf => ?_⟩, fun h => ⟨fun hw => ?_, fun ha hh => ⟨fun hd => ?_, fun hd hf hl => ?_⟩⟩,
    fun h => ?_, exec_captureLinkUpTimeout_quiet, fun x hu hl => ?_, ?_⟩
  · exact ⟨_, exec_captureLinkUp_refused h hw, respond_refused m m.isLt _ s h.boxes⟩
  · exact exec_captureLinkUp_accepted h hd hp hf
  · exact ⟨_, exec_captureLinkDown_refused h hw, respond_refused m m.isLt _ s h.boxes⟩
  · have htaken : takeLinkDown s = s := if_pos hd
    rw [exec_captureLinkDown_taken h ha hh, htaken]
    exact ⟨_, rfl, respond_refused m m.isLt _ s h.boxes⟩
  · rw [exec_captureLinkDown_taken h ha hh, takeLinkDown_eq hd hf hl, hstatus]
    exact ⟨_, rfl, respond_refused m m.isLt _ _ h.boxes⟩
  · rw [hcode, hbitmap]
    exact ⟨_, exec_captureLinkStatus h, respond_replied m m.isLt _ _ s h.boxes (.inl rfl)⟩
  · rw [exec_captureLinkUpTimeout_live hu hl, linkUpResult_eq, hcode]
  · rw [hstatus]
    show Host.Outcome.next (sendStatus s) = _
    rw [sendStatus_eq]
    by_cases hon : s.link.ibOn = true
    · rw [sentIb_on _ hon, if_pos hon]
    · rw [sentIb_off _ hon, if_neg hon]

end Sys2Proof.Proofs
end

section
/-! Proofs about the lane framing: what the words of a codeword make of a lane (O25, O26). -/

namespace Sys2Proof.Proofs

open Sys2Proof Sys2Proof.Machine Sys2Proof.Safety Sys2Proof.Laws

/-! ## One word (R41 to R43, R49) -/

/-- A word that is not the alignment marker. -/
def plainWord (bad : Bool) (f : Framing) (w : Word64) : Framing := laneWord 0 false bad f (0, w)

theorem plainWord_lcw {f : Framing} (bad : Bool) (w : Word64) (h : f.lane.position % 60 = 59) :
    plainWord bad f w =
      let n := if lcwGood w f.lane.lcwDue then 0 else f.lane.badLcw + 1
      { f with
        lane := { f.lane with
          position := f.lane.position + 1, badLcw := n, lcwDue := lcwNext w f.lane.lcwDue
          bitMode := f.lane.bitMode && (bad || !lcwChecks w) }
        lcwLost := f.lcwLost || decide (4 ≤ n) } := by
  rw [plainWord, laneWord]
  exact if_pos h

theorem plainWord_data {f : Framing} (bad : Bool) (w : Word64) (h : f.lane.position % 60 ≠ 59) :
    plainWord bad f w =
      let g := scramblerBits 64 f.lane.scrambler
      { f with
        lane := { f.lane with position := f.lane.position + 1, scrambler := g.2 }
        words := f.words ++ [w ^^^ BitVec.ofNat 64 g.1], modes := f.modes ++ [f.lane.bitMode] } := by
  rw [plainWord, laneWord]
  exact if_neg h

/-- Behind the marker, or in a codeword without one, every word is plain. -/
theorem foldl_laneWord_plain {am : Bool} {k : Nat} (h : am = false ∨ 0 < k) (logical : Nat) (bad : Bool)
    (ws : List Word64) (f : Framing) :
    ((ws.zipIdx k).map fun p => (p.2, p.1)).foldl (laneWord logical am bad) f = ws.foldl (plainWord bad) f := by
  induction ws generalizing k f with
  | nil => rfl
  | cons w ws ih =>
    have hplain : laneWord logical am bad f (k, w) = plainWord bad f w := by
      rcases h with rfl | hk
      · rfl
      · have : (am && k == 0) = false := by simp [hk.ne']
        simp [plainWord, laneWord, this]
    rw [List.zipIdx_cons, List.map_cons, List.foldl_cons, List.foldl_cons, hplain]
    exact ih (.inr k.succ_pos) _

/-! ## The words of a codeword -/

/-- From `f` to `g` a lane has passed `n` words, and all but the scrambler, the LCW's check and count and bit mode is
as it was. -/
def Passes (n : Nat) (f g : Framing) : Prop :=
  g.lane = { f.lane with
    position := f.lane.position + n, scrambler := g.lane.scrambler, badLcw := g.lane.badLcw, lcwDue := g.lane.lcwDue
    bitMode := g.lane.bitMode } ∧ g.markerWrong = f.markerWrong

theorem passes_plainWord (bad : Bool) (f : Framing) (w : Word64) : Passes 1 f (plainWord bad f w) := by
  by_cases h : f.lane.position % 60 = 59
  · rw [plainWord_lcw bad w h]
    exact ⟨rfl, rfl⟩
  · rw [plainWord_data bad w h]
    exact ⟨rfl, rfl⟩

theorem Passes.trans {m n : Nat} {f g h : Framing} (hfg : Passes m f g) (hgh : Passes n g h) : Passes (m + n) f h := by
  obtain ⟨hlane, hmark⟩ := hfg
  refine ⟨?_, hgh.2.trans hmark⟩
  rw [hgh.1, hlane, ← Nat.add_assoc]

theorem passes_foldl (bad : Bool) (ws : List Word64) (f : Framing) : Passes ws.length f (ws.foldl (plainWord bad) f) := by
  induction ws generalizing f with
  | nil => exact ⟨rfl, rfl⟩
  | cons w ws ih =>
    rw [List.length_cons, Nat.add_comm]
    exact (passes_plainWord bad f w).trans (ih _)

/-- Data words among `n` words from position `p` on (R42). -/
def dataCount (p n : Nat) : Nat := ((List.range n).filter fun i => (p + i) % 60 != 59).length

theorem dataCount_succ (p n : Nat) : dataCount p (n + 1) = (if p % 60 = 59 then 0 else 1) + dataCount (p + 1) n := by
  have hshift : ((List.range n).map Nat.succ).filter (fun i => (p + i) % 60 != 59) =
      ((List.range n).filter fun i => (p + 1 + i) % 60 != 59).map Nat.succ := by
    rw [List.filter_map]
    congr 2
    funext i
    simp only [Function.comp_apply, Nat.succ_eq_add_one]
    congr 2
    omega
  rw [dataCount, List.range_succ_eq_map, List.filter_cons, hshift]
  by_cases h : p % 60 = 59 <;> simp [h, dataCount, Nat.add_comm]

/-- Every data word is descrambled behind those before it, with the bit mode that held. -/
theorem foldl_plainWord_words (bad : Bool) (ws : List Word64) (f : Framing) :
    let g := ws.foldl (plainWord bad) f
    ∃ us ms, g.words = f.words ++ us ∧ us.length = dataCount f.lane.position ws.length ∧
      g.modes = f.modes ++ ms ∧ ms.length = dataCount f.lane.position ws.length := by
  induction ws generalizing f with
  | nil => exact ⟨[], [], (List.append_nil _).symm, rfl, (List.append_nil _).symm, rfl⟩
  | cons w ws ih =>
    obtain ⟨us, ms, hus, hul, hms, hml⟩ := ih (plainWord bad f w)
    rw [congrArg Lane.position (passes_plainWord bad f w).1] at hul hml
    rw [List.length_cons, dataCount_succ, List.foldl_cons]
    by_cases h : f.lane.position % 60 = 59
    · rw [plainWord_lcw bad w h] at hus hms ⊢
      exact ⟨us, ms, hus, by simpa [h] using hul, hms, by simpa [h] using hml⟩
    · rw [plainWord_data bad w h] at hus hms ⊢
      refine ⟨_ :: us, _ :: ms, by rw [hus, List.append_assoc]; rfl, ?_, by rw [hms, List.append_assoc]; rfl, ?_⟩
      · simpa [h, Nat.add_comm 1] using hul
      · simpa [h, Nat.add_comm 1] using hml

/-! ## LCWs (R42, R49) -/

/-- LCW positions among `n` words from position `p` on. -/
def lcwCount (p n : Nat) : Word32 := BitVec.ofNat 32 ((p + n) / 60 - p / 60)

theorem lcwCount_zero (p : Nat) : lcwCount p 0 = 0 := by simp [lcwCount]

theorem lcwCount_succ (p n : Nat) : lcwCount p (n + 1) = (if p % 60 = 59 then 1 else 0) + lcwCount (p + 1) n := by
  by_cases h : p % 60 = 59
  · have : (p + (n + 1)) / 60 - p / 60 = 1 + ((p + 1 + n) / 60 - (p + 1) / 60) := by omega
    rw [lcwCount, this, BitVec.ofNat_add, if_pos h]
    rfl
  · have : (p + (n + 1)) / 60 - p / 60 = (p + 1 + n) / 60 - (p + 1) / 60 := by omega
    rw [lcwCount, this, if_neg h, zero_add]
    rfl

/-- A good LCW carries the count that is due, so the next is one more. -/
theorem lcwNext_good {w : Word64} {due : Word32} (h : lcwGood w due = true) : lcwNext w due = due + 1 := by
  obtain ⟨hchecks, hcount⟩ := Bool.and_eq_true_iff.mp h
  rw [lcwNext, if_pos hchecks, beq_iff_eq.mp hcount, BitVec.ofNat_toNat, BitVec.setWidth_eq]

/-- Every LCW among the words is good when the count due starts from `due` at position `p`. -/
def LcwsGood (p : Nat) (due : Word32) (ws : List Word64) : Prop :=
  ∀ i w, ws[i]? = some w → (p + i) % 60 = 59 → lcwGood w (due + lcwCount p i) = true

theorem LcwsGood.tail {p : Nat} {due : Word32} {w : Word64} {ws : List Word64} (h : LcwsGood p due (w :: ws)) :
    LcwsGood (p + 1) (due + if p % 60 = 59 then 1 else 0) ws := by
  intro i v hv hp
  have := h (i + 1) v hv (by rwa [Nat.add_right_comm, ← Nat.add_assoc] at *)
  rwa [lcwCount_succ, ← BitVec.add_assoc] at this

/-- Good LCWs advance the count due, and none of them counts against the lock. -/
theorem foldl_plainWord_lcws (bad : Bool) (ws : List Word64) (f : Framing)
    (h : LcwsGood f.lane.position f.lane.lcwDue ws) :
    let g := ws.foldl (plainWord bad) f
    g.lane.lcwDue = f.lane.lcwDue + lcwCount f.lane.position ws.length ∧ g.lcwLost = f.lcwLost ∧
      (g.lane.badLcw = 0 ∨ g.lane.badLcw = f.lane.badLcw) := by
  induction ws generalizing f with
  | nil => exact ⟨by rw [List.length_nil, lcwCount_zero, add_zero]; rfl, rfl, .inr rfl⟩
  | cons w ws ih =>
    have htail := h.tail
    rw [List.length_cons, lcwCount_succ, ← BitVec.add_assoc, List.foldl_cons]
    by_cases hp : f.lane.position % 60 = 59
    · have hgood : lcwGood w f.lane.lcwDue = true := by
        have := h 0 w rfl hp
        rwa [lcwCount_zero, add_zero] at this
      rw [if_pos hp] at htail ⊢
      have hword := plainWord_lcw bad w hp
      simp only [hgood, if_true, lcwNext_good hgood] at hword
      obtain ⟨hdue, hlost, hbad⟩ := ih (plainWord bad f w) (by rw [hword]; exact htail)
      rw [hword] at hdue hlost hbad ⊢
      exact ⟨hdue, by simpa using hlost, .inl (by simpa using hbad)⟩
    · rw [if_neg hp, add_zero] at htail ⊢
      obtain ⟨hdue, hlost, hbad⟩ := ih (plainWord bad f w) (by rw [plainWord_data bad w hp]; exact htail)
      rw [plainWord_data bad w hp] at hdue hlost hbad ⊢
      exact ⟨hdue, hlost, hbad⟩

/-- Where no LCW stands its check and count stay. -/
theorem foldl_plainWord_data (bad : Bool) (ws : List Word64) (f : Framing)
    (h : ∀ i < ws.length, (f.lane.position + i) % 60 ≠ 59) :
    let g := ws.foldl (plainWord bad) f
    g.lane.lcwDue = f.lane.lcwDue ∧ g.lane.badLcw = f.lane.badLcw := by
  induction ws generalizing f with
  | nil => exact ⟨rfl, rfl⟩
  | cons w ws ih =>
    have hp : f.lane.position % 60 ≠ 59 := h 0 (Nat.succ_pos _)
    have := ih (plainWord bad f w) fun i hi => by
      rw [plainWord_data bad w hp, Nat.add_assoc, Nat.add_comm 1]
      exact h (i + 1) (Nat.succ_lt_succ hi)
    rw [plainWord_data bad w hp] at this
    rw [List.foldl_cons, plainWord_data bad w hp]
    exact this

/-- Around a single LCW its check and count alone decide. -/
theorem foldl_plainWord_oneLcw (bad : Bool) (before behind : List Word64) (lcw : Word64) (f : Framing)
    (hbefore : ∀ i < before.length, (f.lane.position + i) % 60 ≠ 59) (hlcw : (f.lane.position + before.length) % 60 = 59)
    (hbehind : ∀ i < behind.length, (f.lane.position + before.length + 1 + i) % 60 ≠ 59) :
    let g := (before ++ lcw :: behind).foldl (plainWord bad) f
    g.lane.lcwDue = lcwNext lcw f.lane.lcwDue ∧
      g.lane.badLcw = if lcwGood lcw f.lane.lcwDue then 0 else f.lane.badLcw + 1 := by
  obtain ⟨hdue, hbad⟩ := foldl_plainWord_data bad before f hbefore
  have hpos := congrArg Lane.position (passes_foldl bad before f).1
  dsimp only at hpos
  rw [List.foldl_append, List.foldl_cons]
  generalize before.foldl (plainWord bad) f = g at *
  have hword := plainWord_lcw bad lcw (by rw [hpos]; exact hlcw)
  have hrest := foldl_plainWord_data bad behind (plainWord bad g lcw) (by rw [hword, hpos]; exact hbehind)
  rw [← hdue, ← hbad]
  rw [hword] at hrest ⊢
  exact hrest

/-! ## A codeword (R40 to R43) -/

/-- The counts of a codeword are taken. -/
def codewordCounted (x : Lane) (d : Decoded) (f : Framing) : Framing :=
  { f with lane := { f.lane with
    cwIndex := (x.cwIndex + 1) % 16384
    badCw := if d.uncorrectable then x.badCw + 1 else 0
    uncorr := if d.uncorrectable then sat 32 (x.uncorr + 1) else x.uncorr
    corr := sat 32 (x.corr + d.corrected) } }

/-- Where a codeword's framing starts: bit mode begins with an uncorrectable or struck one (R62). -/
def codewordStart (x : Lane) (d : Decoded) (parity : Bool) : Framing :=
  ⟨{ x with bitMode := x.bitMode || d.uncorrectable || parity }, [], [], false, false⟩

theorem laneCodeword_plain {x : Lane} (d : Decoded) (parity : Bool) (h : x.cwIndex % 16384 ≠ 0) :
    laneCodeword x d parity =
      codewordCounted x d (d.words.foldl (plainWord d.uncorrectable) (codewordStart x d parity)) := by
  have ham : (x.cwIndex % 16384 == 0) = false := by simpa using h
  unfold laneCodeword
  simp only [ham]
  rw [foldl_laneWord_plain (.inl rfl)]
  rfl

/-- The framing behind an alignment codeword's first word, the marker: it starts the scrambler and is counted (R41,
R43). -/
def markedStart (x : Lane) (d : Decoded) (parity : Bool) (w : Word64) : Framing :=
  let f := codewordStart x d parity
  { f with
    lane := { f.lane with
      scrambler := scramblerLoad (x.logical.getD 0), position := x.position + 1, amCount := x.amCount + 1 }
    markerWrong := !markerGood w (x.logical.getD 0) x.amCount }

theorem laneCodeword_aligned {x : Lane} {d : Decoded} {w : Word64} {ws : List Word64} (parity : Bool)
    (h : x.cwIndex % 16384 = 0) (hw : d.words = w :: ws) : laneCodeword x d parity =
      codewordCounted x d (ws.foldl (plainWord d.uncorrectable) (markedStart x d parity w)) := by
  have ham : (x.cwIndex % 16384 == 0) = true := by simpa using h
  unfold laneCodeword
  simp only [ham, hw, List.zipIdx_cons, List.map_cons, List.foldl_cons]
  rw [foldl_laneWord_plain (.inr (Nat.succ_pos 0))]
  rfl

end Sys2Proof.Proofs
end

section
/-! Proofs about the steps of bundle bring-up (O25). -/

namespace Sys2Proof.Proofs

open Sys2Proof Sys2Proof.Machine Sys2Proof.Safety Sys2Proof.Laws

/-! ## Messages with a padded body (R51) -/

theorem ibMessage_eq {type : Nat} {seq : BitVec 8} {body padded : List Byte} (h : padTo 10 body = padded) :
    ibMessage type seq body =
      let head := leBytes 1 type ++ leBytes 1 seq.toNat ++ padded
      head ++ leBytes 4 (crc32c head) := by
  rw [← h]
  rfl

theorem padTo_creditBody (l : Link) :
    padTo 10 (creditBody l) = leBytes 1 l.epoch.toNat ++ leBytes 4 l.granted.toNat ++ leBytes 5 0 := rfl

theorem padTo_trainBody (lane command : Nat) (taps fom : BitVec 8) : padTo 10 (trainBody lane command taps fom) =
    leBytes 1 lane ++ (leBytes 1 command ++ leBytes 1 taps.toNat) ++ leBytes 1 fom.toNat ++ leBytes 6 0 := rfl

/-! ## Steps that move the bundle from their own state (R46) -/

/-- A step that moves the link where `c` holds, and else does nothing. -/
theorem moves_or_stays {c : Prop} [Decidable c] {r : Result} {s t : State} (h : r = .next (if c then t else s)) :
    (c → r = .next t) ∧ (¬ c → r = .next s) :=
  ⟨fun hc => h.trans (congrArg _ (if_pos hc)), fun hc => h.trans (congrArg _ (if_neg hc))⟩

/-- The link of a failed bring-up (R46, R47). -/
def failedLink (l : Link) : Link :=
  let fails := if l.fastNow then l.fastFails + 1 else l.fastFails
  { l with
    state := .await, attempt := l.attempt + 1, ibOn := true, lanes := l.lanes.map laneRestart
    fastFails := fails, fastNow := l.entered && !l.forceFull && decide (fails < 2) }

theorem failBringUp_eq (s : State) : failBringUp s = { s with link := failedLink s.link } := rfl

theorem exec_laneSignalDetect (balls : BitVec 8) (s : State) : exec (.laneSignalDetect balls) s = .next
    (if s.link.state = .await then { s with link := { s.link with
        state := if balls = 0xFF then .acquire else .await
        lanes := s.link.lanes.mapIdx fun i x => { x with signal := balls.getLsbD i } } } else s) := by
  show Host.Outcome.next (if s.link.state = .await then _ else s) = _
  by_cases h : s.link.state = .await
  · rw [if_pos h, if_pos h]
    by_cases hb : balls = 0xFF
    · rw [if_pos hb, if_pos hb]
      rfl
    · rw [if_neg hb, if_neg hb, ← h]
      rfl
  · rw [if_neg h, if_neg h]

theorem exec_preambleDetect (s : State) : exec .preambleDetect s = .next
    (if s.link.state = .retrain then { s with link := { s.link with
        state := .acquire, lanes := s.link.lanes.map fun x => { laneRestart x with signal := true } } } else s) := rfl

theorem exec_acquisitionDone (balls : BitVec 8) (s : State) : exec (.acquisitionDone balls) s = .next
    (if s.link.state = .acquire then { s with link := { s.link with
        state := .track, lanes := s.link.lanes.mapIdx fun i x => { x with inverted := balls.getLsbD i } } } else s) := rfl

theorem exec_acquireTimeout (s : State) : exec .acquireTimeout s = .next
    (if s.link.state = .acquire then { s with link := failedLink s.link } else s) := rfl

theorem exec_startDelimiter (s : State) : exec .startDelimiter s = .next
    (if s.link.state = .track then { s with link := { s.link with
        state := .cwlock, lanes := s.link.lanes.map laneRestart } } else s) := rfl

theorem exec_trackTimeout (s : State) : exec .trackTimeout s = .next
    (if s.link.state = .track then { s with link := failedLink s.link } else s) := rfl

theorem exec_tuneTimeout (s : State) : exec .tuneTimeout s = .next
    (if s.link.state = .tune then { s with link := failedLink s.link } else s) := rfl

/-! ## Lanes -/

/-- The lane at ball `b` replaced. -/
def withLane (b : Nat) (x : Lane) (s : State) : State :=
  { s with link := { s.link with lanes := s.link.lanes.set b x } }

theorem updateLane_eq_withLane {s : State} {b : Nat} (h : b < s.link.lanes.length) (f : Lane → Lane) :
    updateLane b f s = withLane b (f (laneOf s b)) s := by
  have hset : s.link.lanes.modify b f = s.link.lanes.set b (f (laneOf s b)) := by
    rw [List.modify_eq_set_getElem?]
    simp [laneOf, h]
  rw [updateLane, hset, withLane]

/-! ## Training (R55) -/

/-- The lane after a TRAIN command with figure of merit `fom`. -/
def trainedLane (fom : BitVec 8) (x : Lane) : Lane :=
  if decide (160 ≤ fom.toNat ∨ 32 ≤ x.trains) then { x with fom := fom.toNat, tuneDone := true }
  else { x with fom := fom.toNat, trains := x.trains + 1 }

/-- The body of the TRAIN command that answers it. -/
def trainedBody (n : Nat) (command : Fin 4) (taps fom : BitVec 8) (x : Lane) : List Byte :=
  if decide (160 ≤ fom.toNat ∨ 32 ≤ x.trains) then trainBody n 4 0 fom else trainBody n command taps fom

theorem trainMessage (n : Nat) (command : Fin 4) (taps fom : BitVec 8) (x : Lane) (seq : BitVec 8) :
    ibMessage 3 seq (trainedBody n command taps fom x) =
      let head := leBytes 1 3 ++ leBytes 1 seq.toNat ++ (leBytes 1 n ++
        (if decide (160 ≤ fom.toNat ∨ 32 ≤ x.trains) then [4, 0] else leBytes 1 (command : Nat) ++ leBytes 1 taps.toNat) ++
        leBytes 1 fom.toNat ++ leBytes 6 0)
      head ++ leBytes 4 (crc32c head) := by
  refine ibMessage_eq ?_
  unfold trainedBody
  split
  · exact padTo_trainBody _ _ _ _
  · exact padTo_trainBody _ _ _ _

theorem exec_trainSend_quiet {s : State} {ball : Fin 8} (command : Fin 4) (taps fom : BitVec 8)
    (h : s.link.state ≠ .tune) : exec (.trainSend ball command taps fom) s = .next s :=
  congrArg Host.Outcome.next (if_neg fun hc => h hc.1)

/-- The last lane done moves the bundle to DESKEW (R46). -/
def tuneSettled (s : State) : State :=
  { s with link := { s.link with state := if s.link.lanes.all (·.tuneDone) then .deskew else .tune } }

theorem tuneSettled_eq {s : State} (h : s.link.state = .tune) : tuneSettled s =
    if s.link.lanes.all (·.tuneDone) then onLink (fun l => { l with state := .deskew }) s else s := by
  unfold tuneSettled
  split
  · rfl
  · rw [← h]

theorem exec_trainSend {s : State} {ball : Fin 8} (command : Fin 4) (taps fom : BitVec 8)
    (h : s.link.state = .tune) (hx : (laneOf s ball).tuneDone = false) (hb : (ball : Nat) < s.link.lanes.length) :
    let x := laneOf s ball
    exec (.trainSend ball command taps fom) s = .next (tuneSettled
      (sendIb 3 (trainedBody (x.logical.getD ball) command taps fom x) (withLane ball (trainedLane fom x) s))) := by
  intro x
  show Host.Outcome.next (if s.link.state = .tune ∧ x.tuneDone = false then _ else s) = _
  rw [if_pos ⟨h, hx⟩, tuneSettled_eq (by rw [sendIb_eq]; exact h)]
  by_cases he : 160 ≤ fom.toNat ∨ 32 ≤ x.trains
  · rw [if_pos he, trainedLane, trainedBody, if_pos (decide_eq_true he), if_pos (decide_eq_true he),
      updateLane_eq_withLane hb]
  · have he' : ¬ decide (160 ≤ fom.toNat ∨ 32 ≤ x.trains) = true := by simpa using he
    rw [if_neg he, trainedLane, trainedBody, if_neg he', if_neg he', updateLane_eq_withLane hb, if_neg]
    intro hall
    rw [sendIb_eq] at hall
    have hdone := List.all_eq_true.mp hall _ (List.mem_set hb _)
    exact absurd (hx.symm.trans hdone) (by decide)

/-! ## The first codewords (R40 to R43, R46) -/

theorem decodeCodeword_length (r : List (BitVec 10)) : (decodeCodeword r).words.length = 80 := by
  unfold decodeCodeword
  dsimp only
  split <;> simp [messageWords]

/-- A lane's number as its codeword's tag gives it (R40). -/
theorem field_number (d : Decoded) : field d.tag.toNat 17 3 = d.tag.toNat / 2 ^ 17 := by
  have := d.tag.isLt
  rw [field, Nat.shiftRight_eq_div_pow]
  omega

theorem firstGood_iff (d : Decoded) : firstGood d = true ↔
    d.uncorrectable = false ∧ d.tag.toNat / 2 ^ 16 % 2 = 1 ∧ d.tag.toNat % 2 ^ 14 = 0 ∧
      (d.words.headD 0).toNat / 2 ^ 40 = 0xD2B41E ∧ (d.words.headD 0).toNat / 2 ^ 37 % 8 = d.tag.toNat / 2 ^ 17 ∧
      (d.words.headD 0).toNat % 2 ^ 32 = 0 := by
  have hw := (d.words.headD 0).isLt
  have ht := d.tag.isLt
  simp only [firstGood, markerGood, field, Nat.shiftRight_eq_div_pow, Bool.and_eq_true, beq_iff_eq, Bool.not_eq_true',
    and_assoc]
  exact and_congr_right fun _ => by omega

theorem logFirst_link (ds : List Decoded) (s : State) : (logFirst ds s).link =
    { s.link with lanes := (logFirst ds s).link.lanes } := by
  unfold logFirst
  generalize ds.zipIdx = l
  induction l generalizing s with
  | nil => rfl
  | cons d l ih =>
    rw [List.foldl_cons, ih]
    split
    · rw [logFec, startTest_frame]
      rfl
    · rfl

theorem logFirst_good {ds : List Decoded} (h : ∀ d ∈ ds, d.uncorrectable = false) (s : State) : logFirst ds s = s := by
  refine foldl_id_of_forall fun d hd => ?_
  rw [h d.1 (List.fst_mem_of_mem_zipIdx hd)]
  rfl

/-- A lane that bring-up has restarted (R46). -/
structure Restarted (x : Lane) : Prop where
  position : x.position = 0
  cwIndex : x.cwIndex = 0
  amCount : x.amCount = 0
  badLcw : x.badLcw = 0
  lcwDue : x.lcwDue = 0

/-- A restarted lane after its first codeword, whose 80 words are the marker, 78 words of data and one LCW. -/
theorem laneLocked_restarted {d : Decoded} {x : Lane} (hx : Restarted x) (hd : d.uncorrectable = false)
    (hw : d.words.length = 80) :
    let y := laneLocked d x
    let lcw := d.words.getD 59 0
    ∃ ws modes, ws.length = 78 ∧ modes.length = 78 ∧ y = { x with
      logical := some (d.tag.toNat / 2 ^ 17), lock := true, position := 80, cwIndex := 1, amCount := 1, badCw := 0
      badLcw := if lcwGood lcw 0 then 0 else 1, lcwDue := lcwNext lcw 0
      corr := sat 32 (x.corr + d.corrected), scrambler := y.scrambler, bitMode := y.bitMode
      fifo := [⟨0, d.tag.getLsbD 15, false, 0, ws, modes⟩] } := by
  obtain ⟨hpos, hidx, ham, hbad, hdue⟩ := hx
  have hidle : (field d.tag.toNat 15 1 == 1) = d.tag.getLsbD 15 := by
    rw [BitVec.getLsbD, Nat.testBit_eq_decide_div_mod_eq, field, Nat.shiftRight_eq_div_pow, pow_one, beq_eq_decide]
  obtain ⟨w, ws, hcons⟩ := List.exists_cons_of_length_eq_add_one hw
  have hlen : ws.length = 79 := by simpa [hcons] using hw
  have hsplit : ws = ws.take 58 ++ ws.getD 58 0 :: ws.drop 59 := by
    rw [List.getD_eq_getElem _ _ (by omega), ← List.drop_eq_getElem_cons, List.take_append_drop]
  have hlcw : d.words.getD 59 0 = ws.getD 58 0 := by rw [hcons]; rfl
  let x' : Lane := { x with logical := some (field d.tag.toNat 17 3), lock := true }
  have hcode := laneCodeword_aligned (x := x') false (by rw [hidx]) hcons
  let f := markedStart x' d false w
  have hfpos : f.lane.position = 1 := congrArg (· + 1) hpos
  have hfam : f.lane.amCount = 1 := congrArg (· + 1) ham
  obtain ⟨us, ms, hus, hul, hms, hml⟩ := foldl_plainWord_words d.uncorrectable ws f
  have hpass := (passes_foldl d.uncorrectable ws f).1
  have hone := foldl_plainWord_oneLcw d.uncorrectable (ws.take 58) (ws.drop 59) (ws.getD 58 0) f
    (by rw [hfpos, List.length_take]; omega) (by rw [hfpos, List.length_take]; omega)
    (by rw [hfpos, List.length_take, List.length_drop]; omega)
  rw [← hsplit, ← hlcw, show f.lane.lcwDue = 0 from hdue, show f.lane.badLcw = 0 from hbad] at hone
  rw [hfpos, hlen] at hul hml hpass
  refine ⟨us, ms, hul, hml, ?_⟩
  unfold laneLocked
  dsimp only
  rw [hcode, hidle]
  generalize ws.foldl _ _ = g at *
  obtain ⟨hdue', hbad'⟩ := hone
  obtain ⟨lane, words, modes, markerWrong, lcwLost⟩ := g
  dsimp only at hus hms hpass hdue' hbad'
  generalize lane.scrambler = scrambler, lane.bitMode = bitMode, lane.badLcw = badLcw, lane.lcwDue = lcwDue at hpass hdue' hbad'
  subst hus hms hpass hdue' hbad'
  rw [codewordCounted, hd, ← field_number]
  dsimp only
  rw [hidx, hfam]
  rfl

/-- The lanes after their first codewords. -/
def firstLanes (ds : List Decoded) (l : Link) : List Lane :=
  l.lanes.mapIdx fun i x => match ds[i]? with
    | some d => laneLocked d x
    | none => x

/-- The full path trains the lanes anew; the fast path keeps their training (R46, R47). -/
def forTuning (fast : Bool) (x : Lane) : Lane :=
  if fast then x else { x with fom := 0, trains := 0, tuneDone := false }

/-- The link once all eight first codewords are good: TUNE on the full path, DESKEW on the fast path (R46). -/
def lockedLink (ds : List Decoded) (l : Link) : Link :=
  { l with
    state := if l.fastNow then .deskew else .tune, lanes := (firstLanes ds l).map (forTuning l.fastNow) }

theorem lockedLink_fast (ds : List Decoded) {l : Link} (h : l.fastNow = true) :
    lockedLink ds l = { l with state := .deskew, lanes := firstLanes ds l } := by
  have hid : forTuning l.fastNow = id := by rw [h]; rfl
  rw [lockedLink, if_pos h, hid, List.map_id]

theorem lockedLink_full (ds : List Decoded) {l : Link} (h : ¬ l.fastNow = true) : lockedLink ds l = { l with
    state := .tune, lanes := (firstLanes ds l).map fun x => { x with fom := 0, trains := 0, tuneDone := false } } := by
  have htrain : forTuning l.fastNow = fun x => { x with fom := 0, trains := 0, tuneDone := false } :=
    funext fun _ => if_neg h
  rw [lockedLink, if_neg h, htrain]

theorem lockedLink_length (ds : List Decoded) (l : Link) : (lockedLink ds l).lanes.length = l.lanes.length := by
  simp [lockedLink, firstLanes]

theorem lockedLink_getElem? {ds : List Decoded} {l : Link} {i : Nat} {d : Decoded} {x : Lane} (hd : ds[i]? = some d)
    (hx : l.lanes[i]? = some x) : (lockedLink ds l).lanes[i]? = some (forTuning l.fastNow (laneLocked d x)) := by
  simp [lockedLink, firstLanes, hd, hx]

/-- Eight good first codewords of distinct lanes (R40, R41, R46). -/
def FirstSet (ds : List Decoded) : Prop :=
  ds.length = 8 ∧ (∀ d ∈ ds, firstGood d = true) ∧ (ds.map fun d => field d.tag.toNat 17 3).Nodup

theorem exec_firstAlignmentCodeword_quiet {s : State} (cws : List (List (BitVec 10))) (h : s.link.state ≠ .cwlock) :
    exec (.firstAlignmentCodeword cws) s = .next s :=
  congrArg Host.Outcome.next (if_neg h)

theorem exec_firstAlignmentCodeword {s : State} (cws : List (List (BitVec 10))) (h : s.link.state = .cwlock) :
    let ds := cws.map decodeCodeword
    (FirstSet ds → exec (.firstAlignmentCodeword cws) s = .next { s with link := lockedLink ds s.link }) ∧
      (¬ FirstSet ds → exec (.firstAlignmentCodeword cws) s = .next (failBringUp (logFirst ds s))) := by
  intro ds
  have hset : (ds.length == 8 && ds.all firstGood && decide (ds.map fun d => field d.tag.toNat 17 3).Nodup) = true ↔
      FirstSet ds := by
    simp [FirstSet, and_assoc]
  refine ⟨fun hg => ?_, fun hg => ?_⟩ <;>
    show Host.Outcome.next (if s.link.state = .cwlock then _ else s) = _
  · have hclean := logFirst_good (fun d hd => ((firstGood_iff d).mp (hg.2.1 d hd)).1) s
    rw [if_pos h]
    dsimp only
    rw [if_pos (hset.mpr hg), hclean]
    by_cases hf : s.link.fastNow = true
    · rw [if_pos (by exact hf), lockedLink_fast ds hf]
      rfl
    · rw [if_neg (by exact hf), lockedLink_full ds hf]
      rfl
  · rw [if_pos h]
    exact congrArg _ (if_neg fun hc => hg (hset.mp hc))

/-! ## Deskew and UP (R46, R54) -/

theorem exec_deskewDone_quiet {s : State} (skew : Nat) (h : s.link.state ≠ .deskew) :
    exec (.deskewDone skew) s = .next s :=
  congrArg Host.Outcome.next (if_neg h)

theorem exec_deskewDone_fails {s : State} {skew : Nat} (h : s.link.state = .deskew)
    (hf : 100 < skew ∨ laneFenced s = true) :
    exec (.deskewDone skew) s = .next { s with link := failedLink { s.link with skew := sat 16 skew } } := by
  show Host.Outcome.next (if s.link.state = .deskew then _ else s) = _
  rw [if_pos h]
  exact congrArg _ (if_pos hf)

/-- The link as it enters UP: the next credit epoch, nothing granted (R54). -/
def upLink (skew : Nat) (l : Link) : Link :=
  { l with
    state := .up, skew := skew, epoch := if l.entered then l.epoch + 1 else 0, entered := true
    granted := 0, consumed := 0, frozen := false, fastFails := 0, lastFast := l.fastNow
    lanes := l.lanes.map fun x => { x with bitMode := false } }

/-- The state as the bundle enters UP: the parser expects a header, CREDIT has gone out. -/
def risen (skew : Nat) (s : State) : State :=
  sentIb (ibMessage 2 s.link.seq (creditBody (upLink skew s.link))) { s with
    link := upLink skew s.link, parse := { s.parse with gaps := s.parse.gaps ++ [s.parse.len] } }

theorem exec_deskewDone_rises {s : State} {skew : Nat} (h : s.link.state = .deskew) (hk : skew ≤ 100)
    (hf : laneFenced s = false) : exec (.deskewDone skew) s = .next (completeLinkUp stOk (risen skew s)) := by
  have hpass : ¬ (100 < skew ∨ laneFenced s = true) := by simp [hf, hk]
  have hsat : sat 16 skew = skew := Nat.min_eq_left (by omega)
  show Host.Outcome.next (if s.link.state = .deskew then _ else s) = _
  rw [if_pos h]
  dsimp only
  rw [if_neg (by exact hpass), hsat, sendCredit, sendIb_eq]
  rfl

theorem linkUpResult_risen {skew : Nat} (hk : skew ≤ 100) (s : State) : linkUpResult (risen skew s).link =
    BitVec.ofNat 128 (7 + 256 * ((upLink skew s.link).epoch.toNat +
      256 * (skew + 65536 * if s.link.fastNow then 1 else 0))) := by
  have hmod : (risen skew s).link.skew % 65536 = skew := Nat.mod_eq_of_lt (Nat.lt_of_le_of_lt hk (by decide))
  rw [linkUpResult_eq, hmod]
  rfl

/-- Settles O25: a bring-up step moves the link from its own state only; a failed one leaves `failedLink`, good first
codewords `lockedLink`, a TRAIN command `tuneSettled`, and an aligned bundle `risen`. -/
theorem linkBringUp : Obligations.LinkBringUp := by
  unfold Obligations.LinkBringUp
  intro s balls cws ball command taps fom skew l restart message sent after fail goes number good ds goodSet fresh x n
  have hgood : goodSet ↔ FirstSet ds := by
    have hnumber : (ds.map fun d => field d.tag.toNat 17 3) = ds.map number := List.map_congr_left fun d _ => field_number d
    unfold FirstSet
    rw [hnumber]
    exact and_congr_right fun _ => and_congr_left fun _ => forall₂_congr fun d _ => (firstGood_iff d).symm
  refine ⟨?_, ?_, ?_, ?_, ?_, ?_, ?_⟩
  · obtain ⟨hgo, hstay⟩ := moves_or_stays (exec_laneSignalDetect balls s)
    split
    next h => exact hgo h
    next h => exact hstay h
  · obtain ⟨hgo, hstay⟩ := moves_or_stays (exec_preambleDetect s)
    split
    next h => exact hgo h
    next h => exact hstay h
  · obtain ⟨hgo, hstay⟩ := moves_or_stays (exec_acquisitionDone balls s)
    obtain ⟨hfail, hwait⟩ := moves_or_stays (exec_acquireTimeout s)
    split
    next h => exact ⟨hgo h, hfail h⟩
    next h => exact ⟨hstay h, hwait h⟩
  · obtain ⟨hgo, hstay⟩ := moves_or_stays (exec_startDelimiter s)
    obtain ⟨hfail, hwait⟩ := moves_or_stays (exec_trackTimeout s)
    split
    next h => exact ⟨hgo h, hfail h⟩
    next h => exact ⟨hstay h, hwait h⟩
  · split
    next h =>
      obtain ⟨hlock, hfail⟩ := exec_firstAlignmentCodeword cws h
      refine ⟨fun hbad hclean => ?_, fun hbad => ?_, fun hg => ?_⟩
      · have hexec := hfail (mt hgood.mpr hbad)
        rwa [logFirst_good hclean] at hexec
      · refine ⟨_, hfail (mt hgood.mpr hbad), ?_⟩
        rw [failBringUp_eq, logFirst_link]
        exact ⟨rfl, rfl, rfl⟩
      · refine ⟨(lockedLink ds l).lanes, hlock (hgood.mp hg), lockedLink_length ds l, ?_⟩
        rintro i d x y hd hx hy ⟨hpos, hidx, ham, hbad, hdue⟩ lcw
        obtain ⟨cw, -, rfl⟩ := List.mem_map.mp (List.mem_of_getElem? hd)
        obtain ⟨ws, modes, hws, hms, hlane⟩ := laneLocked_restarted ⟨hpos, hidx, ham, hbad, hdue⟩
          (hg.2.1 _ (List.mem_of_getElem? hd)).1 (decodeCodeword_length cw)
        obtain rfl := Option.some.inj (hy.symm.trans (lockedLink_getElem? hd hx))
        refine ⟨ws, modes, hws, hms, ?_⟩
        generalize l.fastNow = fast
        cases fast with
        | true => exact hlane
        | false => exact congrArg (forTuning false) hlane
    next h => exact exec_firstAlignmentCodeword_quiet cws h
  · obtain ⟨hfail, hwait⟩ := moves_or_stays (exec_tuneTimeout s)
    split
    next h =>
      refine ⟨hfail h, fun hx hb => ⟨_, exec_trainSend command taps fom h hx hb, ?_⟩⟩
      have hm := trainMessage n command taps fom x l.seq
      rw [sendIb_eq, show (withLane _ _ s).link.seq = l.seq from rfl, hm]
      exact ⟨rfl, rfl, rfl, rfl⟩
    next h => exact ⟨hwait h, exec_trainSend_quiet command taps fom h⟩
  · split
    next h =>
      refine ⟨exec_deskewDone_fails h, fun hk hf => ⟨fun hl => ?_, fun x hl => ?_⟩⟩
      · rw [exec_deskewDone_rises h hk hf]
        exact congrArg _ (completeLinkUp_none (s := risen skew s) _ hl)
      · rw [exec_deskewDone_rises h hk hf]
        exact congrArg _ ((completeLinkUp_some (s := risen skew s) _ hl).trans
          (congrArg (fun r => completeHandle x.value stOk r (risen skew s)) (linkUpResult_risen hk s)))
    next h => exact exec_deskewDone_quiet skew h

end Sys2Proof.Proofs
end

section
/-! The codeword of a bundle with a ninth lane, whose codeword completes the set (O26). -/

namespace Sys2Proof.Proofs

open Sys2Proof Sys2Proof.Machine Sys2Proof.Safety Sys2Proof.Laws

/-! ## Decoding (R39, R40) -/

/-- A codeword without an error is decoded as received. -/
theorem decodeCodeword_clean {r : List (BitVec 10)} (h : ∀ y ∈ rsSyndromes (r.map (·.toNat)), y = 0) :
    decodeCodeword r =
      ⟨(messageWords (r.map (·.toNat))).1, (messageWords (r.map (·.toNat))).2, 0, false⟩ := by
  have hall : (rsSyndromes (r.map (·.toNat))).all (· == 0) = true := by simpa using h
  have hdecode : rsDecode (r.map (·.toNat)) = some (r.map (·.toNat), 0) := if_pos hall
  rw [decodeCodeword, hdecode]

/-! ## Sets of codewords (R45) -/

/-- The codeword at the front of each logical lane, with its ball. -/
def setHeads (l : Link) : List (Nat × LaneCw) :=
  (lanesInOrder l).filterMap fun x => x.2.fifo.head?.map fun h => (x.1, h)

/-- While no data is received, a set whose eight codewords share one index is only taken off the lanes. -/
theorem takeReadySet_bringUp {s : State} (hr : receiving s = false) (hn : (setHeads s.link).length = 8)
    (hi : ((setHeads s.link).all fun h => some h.2.index == (setHeads s.link).head?.map (·.2.index)) = true) :
    takeReadySet s = onLanes (fun x => { x with fifo := x.fifo.drop 1 }) s := by
  unfold takeReadySet
  dsimp only
  rw [show (lanesInOrder s.link).filterMap _ = setHeads s.link from rfl, if_neg (by rw [hn, hi]; decide), hr]
  rfl

/-! ## A codeword is received (R39 to R45) -/

/-- A lane whose codeword has come through the framing and waits for its set. -/
def codewordLane (x : Lane) (d : Decoded) (f : Framing) : Lane :=
  { f.lane with
    fifo := f.lane.fifo ++ [⟨x.cwIndex, field d.tag.toNat 15 1 == 1, d.uncorrectable, 0, f.words, f.modes⟩] }

section Receive

variable {s : State} {ball : Fin 8} {cw : Codeword}

/-- The state with the codeword counted in its lane, and reported where it is uncorrectable. -/
def codewordTaken (ball : Nat) (d : Decoded) (s : State) : State :=
  let x := laneOf s ball
  let t := withLane ball (codewordLane x d (laneCodeword x d false)) s
  if d.uncorrectable then logFec ball x.cwIndex 0 t else t

theorem exec_codewordReceive (ht : takesCodewords s = true) (hb : (ball : Nat) < s.link.lanes.length)
    (hp : cw.parityStage = 0) :
    let d := decodeCodeword cw.symbols
    let f := laneCodeword (laneOf s ball) d false
    (lockFailure f = none → exec (.codewordReceive ball cw) s = .next (takeReadySet (codewordTaken ball d s))) ∧
      ∀ cause, lockFailure f = some cause →
        exec (.codewordReceive ball cw) s = .next (loseLock ball cause (codewordTaken ball d s)) := by
  intro d f
  have hexec : exec (.codewordReceive ball cw) s = .next (match lockFailure f with
      | some cause => loseLock ball cause (codewordTaken ball d s)
      | none => takeReadySet (codewordTaken ball d s)) := by
    show Host.Outcome.next (if takesCodewords s = true then _ else s) = _
    have hquiet (t : State) : codewordParity cw t = t := if_pos hp
    rw [if_pos ht]
    dsimp only
    rw [hquiet, hp, updateLane_eq_withLane hb]
    rfl
  refine ⟨fun h => ?_, fun cause h => ?_⟩ <;> rw [hexec, h]

/-- A codeword behind the alignment codeword whose LCWs are good costs no lock by itself (R49). -/
theorem laneCodeword_good {x : Lane} {d : Decoded} (h : x.cwIndex % 16384 ≠ 0)
    (hw : LcwsGood x.position x.lcwDue d.words) :
    let f := laneCodeword x d false
    f.lane = { x with
      cwIndex := (x.cwIndex + 1) % 16384, badCw := if d.uncorrectable then x.badCw + 1 else 0
      uncorr := if d.uncorrectable then sat 32 (x.uncorr + 1) else x.uncorr, corr := sat 32 (x.corr + d.corrected)
      position := x.position + d.words.length, lcwDue := x.lcwDue + lcwCount x.position d.words.length
      scrambler := f.lane.scrambler, badLcw := f.lane.badLcw, bitMode := f.lane.bitMode } ∧
      (f.lane.badLcw = 0 ∨ f.lane.badLcw = x.badLcw) ∧ f.markerWrong = false ∧ f.lcwLost = false ∧
      f.words.length = dataCount x.position d.words.length := by
  rw [laneCodeword_plain d false h]
  obtain ⟨hlane, hmark⟩ := passes_foldl d.uncorrectable d.words (codewordStart x d false)
  obtain ⟨hdue, hlost, hbad⟩ := foldl_plainWord_lcws d.uncorrectable d.words (codewordStart x d false) hw
  obtain ⟨us, -, hus, hul, -⟩ := foldl_plainWord_words d.uncorrectable d.words (codewordStart x d false)
  generalize d.words.foldl _ _ = g at *
  refine ⟨?_, hbad, hmark, hlost, (congrArg List.length hus).trans hul⟩
  obtain ⟨lane, words, modes, markerWrong, lcwLost⟩ := g
  dsimp only at hlane hdue
  generalize lane.scrambler = scrambler, lane.bitMode = bitMode, lane.badLcw = badLcw, lane.lcwDue = lcwDue at hlane hdue
  subst hlane hdue
  rfl

theorem lockFailure_correctable {x : Lane} {d : Decoded} (h : x.cwIndex % 16384 ≠ 0)
    (hw : LcwsGood x.position x.lcwDue d.words) (hd : d.uncorrectable = false) :
    lockFailure (laneCodeword x d false) = none := by
  obtain ⟨hlane, -, hmark, hlost, -⟩ := laneCodeword_good h hw
  have hbad : (laneCodeword x d false).lane.badCw = 0 := by rw [hlane, hd]; rfl
  simp [lockFailure, hmark, hlost, hbad]

theorem codewordTaken_correctable {ball : Nat} {d : Decoded} (hd : d.uncorrectable = false) (s : State) :
    codewordTaken ball d s =
      withLane ball (codewordLane (laneOf s ball) d (laneCodeword (laneOf s ball) d false)) s := by
  rw [codewordTaken, hd]
  rfl

theorem field_idle (d : Decoded) : (field d.tag.toNat 15 1 == 1) = d.tag.getLsbD 15 := by
  rw [BitVec.getLsbD, Nat.testBit_eq_decide_div_mod_eq, field, Nat.shiftRight_eq_div_pow, pow_one, beq_eq_decide]

/-- The lane of a correctable codeword, which waits for its set. -/
theorem codewordLane_good {x : Lane} {d : Decoded} (h : x.cwIndex % 16384 ≠ 0)
    (hw : LcwsGood x.position x.lcwDue d.words) (hd : d.uncorrectable = false) (hl : d.words.length = 80) :
    let f := laneCodeword x d false
    let y := codewordLane x d f
    y = { x with
      cwIndex := (x.cwIndex + 1) % 16384, badCw := 0, corr := sat 32 (x.corr + d.corrected)
      position := x.position + 80, lcwDue := x.lcwDue + lcwCount x.position 80
      scrambler := y.scrambler, badLcw := y.badLcw, bitMode := y.bitMode
      fifo := x.fifo ++ [⟨x.cwIndex, d.tag.getLsbD 15, false, 0, f.words, f.modes⟩] } := by
  obtain ⟨hlane, -⟩ := laneCodeword_good h hw
  rw [hd, hl] at hlane
  intro f y
  have hy : y = { f.lane with fifo := f.lane.fifo ++ [⟨x.cwIndex, d.tag.getLsbD 15, false, 0, f.words, f.modes⟩] } := by
    rw [← field_idle, ← hd]
    rfl
  rw [hy, hlane]
  rfl

end Receive

/-! ## Nine lanes -/

/-- A lane whose codeword of index 1 waits for its set. -/
def waitingLane (n : Nat) : Lane := { Lane.reset with logical := some n, fifo := [⟨1, true, false, 0, [], []⟩] }

/-- Lane number 1, whose codeword of index 1 is due. -/
def dueLane : Lane := { Lane.reset with logical := some 1, cwIndex := 1 }

/-- A bundle in TUNE whose lane number 0 stands at a ninth ball, behind the eight that codewords arrive at. -/
def nineLanes : State :=
  { State.reset with
    link := { State.reset.link with
      state := .tune
      lanes := [dueLane, waitingLane 2, waitingLane 3, waitingLane 4, waitingLane 5, waitingLane 6, waitingLane 7,
        Lane.reset, waitingLane 0] } }

/-- A codeword of zeros. -/
def zeroCodeword : Codeword := ⟨[], 0, 0⟩

theorem zeroCodeword_decoded : decodeCodeword zeroCodeword.symbols = ⟨0, List.replicate 80 0, 0, false⟩ := by
  rw [decodeCodeword_clean (by decide)]
  decide

/-- A word of zeros is the good LCW of count 0. -/
theorem lcwGood_zero : lcwGood 0 0 = true := by decide +kernel

/-- Eighty words of zeros hold one LCW, with the count that is due at the start. -/
theorem zeroWords_lcwsGood : LcwsGood 0 0 (List.replicate 80 0) := by
  intro i w hw hp
  obtain ⟨hi, rfl⟩ := List.getElem?_eq_some_iff.mp hw
  rw [List.length_replicate] at hi
  obtain rfl : i = 59 := by omega
  rw [List.getElem_replicate]
  exact lcwGood_zero

/-- No lane at a ball below 8 is number 0 in the bundle of nine lanes. -/
theorem nineLanes_noFirst :
    ∀ (k : Fin 8) (y : Lane), nineLanes.link.lanes[k]? = some y → y.logical ≠ some 0 := by
  decide

/-- The codeword completes the set of the nine lanes, which is taken off them. -/
theorem nineLanes_receive :
    ∃ t y, exec (.codewordReceive 0 zeroCodeword) nineLanes = .next t ∧ t.link.lanes[0]? = some y ∧ y.fifo = [] := by
  have hd := zeroCodeword_decoded
  have hlane := codewordLane_good (x := dueLane) (d := decodeCodeword zeroCodeword.symbols) (by decide)
    (by rw [hd]; exact zeroWords_lcwsGood) (by rw [hd]) (by rw [hd]; rfl)
  have hlock := lockFailure_correctable (x := dueLane) (d := decodeCodeword zeroCodeword.symbols) (by decide)
    (by rw [hd]; exact zeroWords_lcwsGood) (by rw [hd])
  have hexec := (exec_codewordReceive (s := nineLanes) (ball := 0) (cw := zeroCodeword) rfl (by decide) rfl).1 hlock
  rw [codewordTaken_correctable (by rw [hd])] at hexec
  dsimp only at hlane
  change exec _ _ = .next (takeReadySet (withLane 0 (codewordLane dueLane _ (laneCodeword dueLane _ false)) nineLanes)) at hexec
  rw [hlane] at hexec
  generalize (codewordLane dueLane _ _).scrambler = scrambler, (codewordLane dueLane _ _).badLcw = badLcw,
    (codewordLane dueLane _ _).bitMode = bitMode, (laneCodeword dueLane _ _).words = words,
    (laneCodeword dueLane _ _).modes = modes at hexec
  rw [hd] at hexec
  rw [takeReadySet_bringUp rfl rfl rfl] at hexec
  exact ⟨_, _, hexec, rfl, rfl⟩

/-- Refutes O26: of nine lanes the ninth completes the set, so the word of the first does not wait in its lane. -/
theorem not_linkReceive : ¬ Obligations.LinkReceive := by
  intro h
  obtain ⟨-, -, -, -, -, hreceive⟩ := h nineLanes 0 zeroCodeword
  obtain ⟨t, y, ws, modes, hexec, rfl, hy, -⟩ := (hreceive (.inl rfl) (by decide) (by decide) rfl
    (by
      show LcwsGood 0 0 (decodeCodeword zeroCodeword.symbols).words
      rw [zeroCodeword_decoded]
      exact zeroWords_lcwsGood)).1 (by rw [zeroCodeword_decoded])
    ⟨0, by decide, fun k y hk hn => absurd hn (nineLanes_noFirst k y hk)⟩
  obtain ⟨t, z, hexec', hz, hempty⟩ := nineLanes_receive
  rw [hexec] at hexec'
  obtain rfl := Host.Outcome.next.inj hexec'
  obtain rfl : y = z := Option.some.inj hz
  rw [hy] at hempty
  exact List.append_ne_nil_of_right_ne_nil _ (List.cons_ne_nil _ _) hempty

end Sys2Proof.Proofs
end

section
/-! Proofs about credit grants, backpressure and commit notices (O28). -/

namespace Sys2Proof.Proofs

open Sys2Proof Sys2Proof.Machine Sys2Proof.Safety Sys2Proof.Laws

/-! ## Grants (R56, R57) -/

theorem grantBelow_iff (g target : Word32) :
    grantBelow g target = true ↔ 0 < (target - g).toNat ∧ (target - g).toNat < 2 ^ 31 := by
  simp [grantBelow]

theorem exec_grantRaise_quiet {s : State}
    (h : s.link.state ≠ .up ∨ s.link.frozen = true ∨ grantBelow s.link.granted (grantTarget s) = false) :
    exec .grantRaise s = .next s := by
  refine congrArg Host.Outcome.next (if_neg ?_)
  rintro ⟨hup, hfree, hbelow⟩
  simp [hup, hfree, hbelow] at h

/-- CREDIT with the grant raised to `target`. -/
def creditMessage (target : Word32) (l : Link) : List Byte := ibMessage 2 l.seq (creditBody { l with granted := target })

theorem exec_grantRaise {s : State} (hup : s.link.state = .up) (hfree : s.link.frozen = false)
    (hbelow : grantBelow s.link.granted (grantTarget s) = true) :
    exec .grantRaise s = .next { s with
      link := linkAfter (creditMessage (grantTarget s) s.link) { s.link with granted := grantTarget s }
      out := outAfter (creditMessage (grantTarget s) s.link) s.link s.out
      str := { s.str with
        backpressure := s.str.backpressure && !grantFull { s.link with granted := grantTarget s } } } := by
  have hsent (s : State) : sendCredit s = sentIb (ibMessage 2 s.link.seq (creditBody s.link)) s := sendIb_eq _ _ _
  refine congrArg Host.Outcome.next ((if_pos ⟨hup, hfree, hbelow⟩).trans ?_)
  dsimp only
  rw [hsent]
  rw [show grantFull (sentIb _ _).link = grantFull { s.link with granted := grantTarget s } from rfl]
  cases hfull : grantFull { s.link with granted := grantTarget s } with
  | true =>
    rw [if_pos rfl, Bool.not_true, Bool.and_false]
    rfl
  | false =>
    rw [if_neg (by decide), Bool.not_false, Bool.and_true]
    rfl

/-! ## Backpressure (R84) -/

theorem recentStreams_eq (s : State) : recentStreams s =
    s.str.list.filter fun x => (s.parse.frame.any fun f => f.header.stream == x.sid) ||
      (decide (0 < x.frames) && decide (s.clk.us ≤ x.lastTakenUs + 10000)) := by
  unfold recentStreams
  cases s.parse.frame <;> rfl

theorem grantReached_of_up {s : State} (hup : s.link.state = .up)
    (h : let rest := (BitVec.ofNat 48 (s.link.granted.toNat * 65536) - s.link.consumed).toNat
      rest < 5056 ∨ 2 ^ 47 ≤ rest) : grantReached s = true := by
  have hopen : grantedOpen s = serialOpen s.link := if_pos (by rw [hup]; rfl)
  unfold grantReached
  rw [hopen, serialOpen, show creditBytes = 65536 from rfl]
  dsimp only at h ⊢
  split
  next hlow => exact decide_eq_true (h.resolve_right (Nat.not_le.mpr hlow))
  next => rfl

/-- The events `es` logged one after the other. -/
def logAll (es : List (BitVec 16 × UnitId × BitVec 64)) (s : State) : State :=
  es.foldl (fun s e => logEvent e.1 e.2.1 e.2.2 s) s

theorem logAll_frame (es : List (BitVec 16 × UnitId × BitVec 64)) (s : State) :
    logAll es s = { s with evr := (logAll es s).evr, pins := (logAll es s).pins } := by
  induction es generalizing s with
  | nil => rfl
  | cons e es ih => exact ih (logEvent e.1 e.2.1 e.2.2 s)

/-- Events are logged the same whatever the streams are. -/
theorem logAll_str (es : List (BitVec 16 × UnitId × BitVec 64)) (x : Streams) (s : State) :
    logAll es { s with str := x } = { logAll es s with str := x } := by
  induction es generalizing s with
  | nil => rfl
  | cons e es ih => exact ih (logEvent e.1 e.2.1 e.2.2 s)

/-- What an episode logs: STREAM_BACKPRESSURE of each stream in `l`. -/
def episodeEvents (s : State) (l : List Stream) : List (BitVec 16 × UnitId × BitVec 64) :=
  l.map fun x => (0x0203, streamUnit x.sid, evData [(4, captureSpace s / 1048576), (4, s.link.granted.toNat)])

theorem exec_backpressureEpisode {s : State} (hup : s.link.state = .up) (hno : s.str.backpressure = false)
    (hreached : grantReached s = true) (hbelow : grantBelow s.link.granted (grantTarget s) = false) :
    exec .backpressureEpisode s =
      .next { logAll (episodeEvents s (recentStreams s)) s with str := { s.str with backpressure := true } } := by
  refine congrArg Host.Outcome.next ((if_pos ⟨hup, hno, hreached, hbelow⟩).trans ?_)
  rw [← logAll_str, logAll, episodeEvents, List.foldl_map]
  rfl

/-! ## Commit notices (R64, R78, R133) -/

section Commit

variable {s : State} {sid : Fin 4096} {x : Stream} {slot : Nat} {rest : List Nat} {e : IndexEntry}

/-- COMMIT_ECHO of a frame, and its repeat. -/
def echoMessage (sid frame : Nat) (again : Bool) (l : Link) : List Byte := ibMessage 4 l.seq (echoBody sid frame again)

theorem padTo_echoBody (sid frame : Nat) (again : Bool) : padTo 10 (echoBody sid frame again) =
    leBytes 2 sid ++ leBytes 5 frame ++ leBytes 1 (flag again) ++ leBytes 2 0 := rfl

/-- The notice of a commit frame (R133). -/
def commitNotice (sid : Nat) (e : IndexEntry) : RingBody := ⟨2, false, 0, BitVec.ofNat 32 sid, 0, 0, noticeData e⟩

/-- With room in the ring and no notice dropped before it, a notice is written and notified. -/
theorem postNotice_written {s : State} (sid : Nat) (e : IndexEntry) (hb : s.crg.backlog = []) (hd : s.crg.dropped = 0)
    (hf : slotFree s.crg = true) : postNotice sid (noticeData e) s =
      notify { s with crg := ringWrite s.crg (commitNotice sid e) } := by
  have hplaces : ¬ noticePlaces s.crg < 1 := by
    simp [noticePlaces, hb]
  have hpost : postEntry (commitNotice sid e) s = notify { s with crg := ringWrite s.crg (commitNotice sid e) } := by
    refine if_pos ?_
    rw [hb, hf]
    rfl
  rw [← hpost]
  unfold postNotice
  rw [if_pos hd, if_neg hplaces, if_pos hd]
  rfl

/-- The oldest commit frame is acknowledged: its echo has gone out and its repeat is due. -/
def echoed (sid : Nat) (rest : List Nat) (e : IndexEntry) (s : State) : State :=
  let t := sentIb (echoMessage sid e.frame false s.link) (updateStream sid (fun y => { y with commits := rest }) s)
  { t with str := { t.str with repeats := t.str.repeats ++ [(sid, e.frame)] } }

theorem exec_commitAck (hx : findStream s sid = some x) (hc : x.commits = slot :: rest) (he : x.entries[slot]? = some e) :
    exec (.commitAck sid) s = .next (if framesDurable s x slot = true then
      commitPulse sid (postNotice sid (noticeData e) (echoed sid rest e s)) else s) := by
  show execCommitAck sid s = _
  unfold execCommitAck
  rw [hx]
  dsimp only
  rw [hc]
  dsimp only
  rw [he]
  dsimp only
  rw [sendIb_eq]
  rfl

theorem notify_changes (s : State) : ∃ mbx pba out more,
    notify s = { s with mbx := mbx, nv := { s.nv with pba := pba }, out := out } ∧ out = more ++ s.out := by
  obtain ⟨more, hmore⟩ := notify_out s
  exact ⟨_, _, _, more, notify_frame s, hmore⟩

/-- The acknowledgement once its notice is written, before the notification. -/
def noticed (sid : Nat) (rest : List Nat) (e : IndexEntry) (s : State) : State :=
  let t := echoed sid rest e s
  { t with crg := ringWrite t.crg (commitNotice sid e) }

theorem exec_commitAck_durable (hx : findStream s sid = some x) (hc : x.commits = slot :: rest)
    (he : x.entries[slot]? = some e) (hd : framesDurable s x slot = true) (hb : s.crg.backlog = [])
    (hdrop : s.crg.dropped = 0) (hf : slotFree s.crg = true) :
    exec (.commitAck sid) s = .next (commitPulse sid (notify (noticed sid rest e s))) := by
  rw [exec_commitAck hx hc he, if_pos hd, postNotice_written (s := echoed sid rest e s) _ _ hb hdrop hf]
  rfl

theorem findStream_noticed (hx : findStream s sid = some x) (k : Nat) : findStream (noticed sid rest e s) k =
    if k = sid then some { x with commits := rest } else findStream s k := by
  refine (findStream_updateStream sid k (fun y => { y with commits := rest }) (fun _ => rfl) s).trans ?_
  split
  next h => rw [h, hx]; rfl
  next => rfl

theorem find?_ringWrite (r : Ring) (b : RingBody) :
    (ringWrite r b).slots.find? (fun y => y.1 == r.tail) = some (r.tail, ⟨b, r.phase, r.number⟩) :=
  List.find?_cons_of_pos (beq_self_eq_true _)

end Commit

theorem exec_commitEchoRepeat (sid : Fin 4096) (frame : BitVec 40) (s : State) : exec (.commitEchoRepeat sid frame) s = .next
    (if ((sid : Nat), frame.toNat) ∈ s.str.repeats then
      sentIb (echoMessage sid frame.toNat true s.link)
        { s with str := { s.str with repeats := s.str.repeats.erase ((sid : Nat), frame.toNat) } }
      else s) := by
  show execCommitEchoRepeat sid frame s = _
  unfold execCommitEchoRepeat
  simp only [List.contains_iff_mem]
  rw [sendIb_eq]
  rfl

/-- Settles O28: what a raise sends, what an episode logs, and what the acknowledgement of a commit frame does. -/
theorem captureCredit : Obligations.CaptureCredit := by
  unfold Obligations.CaptureCredit
  intro s sid frame l target above rest full message credit echo next sent
  have hbelow : grantBelow l.granted (grantTarget s) = true ↔ above := grantBelow_iff _ _
  have hquiet (h : ¬ above) : grantBelow l.granted (grantTarget s) = false := Bool.eq_false_iff.mpr (mt hbelow.mp h)
  have hecho (n : Nat) (again : Bool) : echoMessage sid n again l = echo n (flag again) := ibMessage_eq (padTo_echoBody _ _ _)
  refine ⟨fun hup hfree hab => ?_, fun h => ?_, fun hup hno hreached hab => ?_, fun x slot rest e hx hc he => ⟨fun hd => ?_,
    fun hd hb hdrop hfree => ?_⟩, fun h => ?_, fun h => ?_⟩
  · have hcredit : creditMessage (grantTarget s) l = credit := ibMessage_eq (padTo_creditBody _)
    rw [exec_grantRaise hup hfree (hbelow.mpr hab), hcredit]
    rfl
  · exact exec_grantRaise_quiet (h.imp_right (Or.imp_right hquiet))
  · refine ⟨_, exec_backpressureEpisode hup hno (grantReached_of_up hup hreached) (hquiet hab), ?_, ?_⟩
    · rw [recentStreams_eq]
      exact ⟨rfl, rfl⟩
    · rw [logAll_frame]
  · rw [exec_commitAck hx hc he, if_neg (by rw [hd]; decide)]
  · refine ⟨_, exec_commitAck_durable hx hc he hd hb hdrop hfree, ?_⟩
    change let t := commitPulse sid (notify (noticed sid rest e s)); _
    obtain ⟨mbx, pba, out, more, hnotify, hmore⟩ := notify_changes (noticed sid rest e s)
    rw [hnotify]
    have hfirst : echoMessage sid e.frame false l = echo e.frame 0 := hecho _ false
    rw [← hfirst]
    refine ⟨(findStream_noticed hx sid).trans (if_pos rfl), fun k hk => (findStream_noticed hx k).trans (if_neg hk), rfl,
      fun o ho => ?_, rfl, rfl, find?_ringWrite _ _, rfl, rfl⟩
    exact hmore ▸ List.mem_append_right more ho
  · rw [exec_commitEchoRepeat, if_pos h]
    exact congrArg _ (by rw [hecho]; rfl)
  · rw [exec_commitEchoRepeat, if_neg h]

end Sys2Proof.Proofs
end

section
/-! Proofs about frames on the bundle: how they open, fill and end (O27). -/

namespace Sys2Proof.Proofs

open Sys2Proof Sys2Proof.Machine Sys2Proof.Safety Sys2Proof.Laws

/-! ## One stream's record changes (R66, R71) -/

/-- From `s` to `t` the record of stream `sid` has become `y`, the writes `w` wait for W7 besides, and nothing else has
changed but the parser. -/
structure OnStream (sid : Nat) (y : Stream) (w : List Waiting) (s t : State) : Prop where
  found : findStream t sid = some y
  others : ∀ k, k ≠ sid → findStream t k = findStream s k
  ord : t.ord = { s.ord with waiting := s.ord.waiting ++ w }
  same : t = { s with parse := t.parse, str := { s.str with list := t.str.list }, ord := t.ord }

namespace OnStream

variable {sid : Nat} {x y : Stream} {w : List Waiting} {s t : State}

theorem refl (h : findStream s sid = some x) : OnStream sid x [] s s :=
  ⟨h, fun _ _ => rfl, by rw [List.append_nil], rfl⟩

theorem update (h : OnStream sid y w s t) (f : Stream → Stream) (hf : ∀ d, (f d).sid = d.sid) :
    OnStream sid (f y) w s (updateStream sid f t) where
  found := by rw [findStream_updateStream sid sid f hf, if_pos rfl, h.found]; rfl
  others k hk := by rw [findStream_updateStream sid k f hf, if_neg hk, h.others k hk]
  ord := h.ord
  same := congrArg (updateStream sid f) h.same

theorem parse (h : OnStream sid y w s t) (p : Parser) : OnStream sid y w s { t with parse := p } :=
  ⟨h.found, h.others, h.ord, congrArg (fun t : State => { t with parse := p }) h.same⟩

/-- Where a frame opens or ends, nothing is released. -/
theorem ord_same (h : OnStream sid y [] s t) : t.ord = s.ord := h.ord.trans (by rw [List.append_nil])

end OnStream

/-! ## Releases (R71) -/

/-- A stream whose held units have gone to W7. -/
def letGo (x : Stream) : Stream := { x with held := [], sent := unitsSent x }

/-- The writes of a release. -/
def releasedWrites (sid : Nat) (x : Stream) : List Waiting :=
  (cutRuns (unitsToWrite x)).map fun r => .write (runWrite .captureData (.stream sid) x.ns r 0)

theorem releaseHeld_eq {sid : Nat} {x : Stream} {s : State} (h : findStream s sid = some x) : releaseHeld sid s =
    { updateStream sid letGo s with ord := { s.ord with waiting := s.ord.waiting ++ releasedWrites sid x } } := by
  unfold releaseHeld
  rw [h]
  dsimp only
  rw [List.map_map]
  rfl

theorem OnStream.release {sid : Nat} {y : Stream} {w : List Waiting} {s t : State} (h : OnStream sid y w s t) :
    OnStream sid (letGo y) (w ++ releasedWrites sid y) s (releaseHeld sid t) := by
  have hu := h.update letGo fun _ => rfl
  rw [releaseHeld_eq h.found]
  refine ⟨hu.found, hu.others, ?_, ?_⟩
  · show { t.ord with waiting := t.ord.waiting ++ releasedWrites sid y } = _
    rw [h.ord, List.append_assoc]
  · exact congrArg (fun u : State => { u with ord := { t.ord with waiting := t.ord.waiting ++ releasedWrites sid y } }) hu.same

theorem releaseHeld_parse (sid : Nat) (s : State) : (releaseHeld sid s).parse = s.parse := (releaseHeld_keep sid s).parse rfl

/-- With nothing held a release changes nothing. -/
theorem letGo_empty {sid : Nat} {x : Stream} (h : x.held = []) : letGo x = x ∧ releasedWrites sid x = [] := by
  have hsent : unitsSent x = x.sent := by rw [unitsSent, h]; rfl
  have hnone : unitsToWrite x = [] := by simp [unitsToWrite, h]
  constructor
  · rw [letGo, hsent, ← h]
  · rw [releasedWrites, hnone]
    rfl

/-! ## The parser with nothing left to read (R58) -/

/-- With every bit passed and no gap, the parser only drops what it has passed. -/
theorem runParser_done {s : State} (hg : s.parse.gaps = []) (hl : s.parse.len = s.parse.pos) :
    runParser s = trimParser s := by
  have havail : parseEnd s.parse - s.parse.pos = 0 := by simp [parseEnd, hg, hl]
  have hgap : atGap s.parse = false := by simp [atGap, hg]
  have hfront : findFront s = (.wait, []) := by
    unfold findFront
    dsimp only
    rw [havail, hg]
    rfl
  have hstays : advance 1 s = s := by
    unfold advance
    dsimp only
    rw [havail, hgap]
    cases s.parse.frame.filter (fun f => !f.cut) with
    | some f =>
      by_cases hw : f.wordsLeft = 0
      · exact if_pos hw
      · exact if_neg hw
    | none =>
      by_cases hk : 0 < s.parse.skipWords
      · exact if_pos hk
      · refine (if_neg hk).trans ?_
        rw [hfront]
        simp
  unfold runParser
  rw [hg, hl, Nat.sub_self]
  exact congrArg trimParser hstays

theorem OnStream.trim {sid : Nat} {y : Stream} {w : List Waiting} {s t : State} (h : OnStream sid y w s t) :
    OnStream sid y w s (trimParser t) :=
  h.parse _

/-! ## The end of a frame (R70, R71, R80) -/

/-- Where the next frame starts once a frame has ended (R70). -/
def pointAfter (f : OpenFrame) (aligned : Bool) : Nat :=
  if f.units = 0 then f.startLba else if aligned then alignSegment (f.startLba + f.units) else f.startLba + f.units

/-- The record of a stream whose frame has ended. -/
def endedStream (f : OpenFrame) (short aligned : Bool) (us : Nat) (x : Stream) : Stream :=
  { x with
    writePoint := pointAfter f aligned, lastTakenUs := us, shorts := if short then x.shorts + 1 else x.shorts
    entries := x.entries.modify f.slot fun e => { e with
      length := if short then f.units * 4096 else f.header.length, units := f.units
      indexFlags := e.indexFlags ||| ((if short then 2 else 0) ||| (if f.damaged then 4 else 0)), ended := true }
    commits := if isCommit f.header.flags then x.commits ++ [f.slot] else x.commits }

/-- Units are released at the end of a frame (R71). -/
def endReleases (f : OpenFrame) (short aligned : Bool) : Bool := releasesAtEnd f.header.flags || short || aligned

/-- The state once a frame has ended, before anything is logged. -/
def frameEnded (f : OpenFrame) (short aligned : Bool) (s : State) : State :=
  let t := updateStream f.header.stream (endedStream f short aligned s.clk.us) { s with parse := { s.parse with frame := none } }
  if endReleases f short aligned then releaseHeld f.header.stream t else t

theorem frameEnded_parse (f : OpenFrame) (short aligned : Bool) (s : State) :
    (frameEnded f short aligned s).parse = { s.parse with frame := none } := by
  unfold frameEnded
  split
  · exact releaseHeld_parse _ _
  · rfl

/-- The record of a stream whose frame has ended, and what it releases. -/
theorem OnStream.frameEnded {f : OpenFrame} {y : Stream} {w : List Waiting} {s t : State}
    (h : OnStream f.header.stream y w s t) (short aligned : Bool) :
    let z := endedStream f short aligned t.clk.us y
    let r := endReleases f short aligned
    OnStream f.header.stream (if r then letGo z else z) (if r then w ++ releasedWrites f.header.stream z else w) s
      (frameEnded f short aligned t) := by
  intro z r
  have hz := (h.parse { t.parse with frame := none }).update (endedStream f short aligned t.clk.us) fun _ => rfl
  unfold Proofs.frameEnded
  by_cases hr : endReleases f short aligned = true
  · rw [if_pos hr, if_pos hr, if_pos hr]
    exact hz.release
  · rw [if_neg hr, if_neg hr, if_neg hr]
    exact hz

theorem runParser_frameEnded {t : State} (hg : t.parse.gaps = []) (hl : t.parse.len = t.parse.pos) (f : OpenFrame)
    (short aligned : Bool) : runParser (frameEnded f short aligned t) = trimParser (frameEnded f short aligned t) := by
  refine runParser_done ?_ ?_ <;> rw [frameEnded_parse]
  · exact hg
  · exact hl

theorem noteLowWater_quiet {sid : Nat} {x : Stream} {s : State} (h : findStream s sid = some x) (hl : x.lowLogged = true) :
    noteLowWater sid s = s := by
  unfold noteLowWater
  rw [h]
  refine if_neg ?_
  rw [hl]
  simp

section EndFrame

variable {f : OpenFrame} {x : Stream} {s : State}

/-- A stream that has had its low water logged logs nothing at a frame's end. -/
theorem noteLowWater_frameEnded (h : findStream s f.header.stream = some x) (hl : x.lowLogged = true)
    (short aligned : Bool) :
    noteLowWater f.header.stream (frameEnded f short aligned s) = frameEnded f short aligned s := by
  have hz := (OnStream.refl h).frameEnded short aligned
  refine noteLowWater_quiet hz.found ?_
  split <;> exact hl

theorem endFrame_whole (h : findStream s f.header.stream = some x) (hl : x.lowLogged = true) :
    endFrame f none s = frameEnded f false x.align1M s := by
  rw [← noteLowWater_frameEnded h hl]
  unfold endFrame
  dsimp only
  rw [h]
  rfl

/-- STREAM_SHORT_FRAME (R80). -/
def logShort (f : OpenFrame) (cause : Nat) (s : State) : State :=
  logEvent 0x0201 (streamUnit f.header.stream) (evData [(4, f.header.frame % 2 ^ 32), (3, f.units), (1, cause)]) s

theorem endFrame_short (h : findStream s f.header.stream = some x) (hl : x.lowLogged = true) (cause : Nat) :
    endFrame f (some cause) s = logShort f cause (frameEnded f true x.align1M s) := by
  rw [← noteLowWater_frameEnded h hl]
  unfold endFrame
  dsimp only
  rw [h]
  rfl

end EndFrame

/-! ## The last unit of a frame (R70, R71, R73) -/

/-- The unfinished unit of a frame, as W5 guards it. -/
def lastUnit (s : State) (f : OpenFrame) (x : Stream) : Unit4k :=
  let lba := f.startLba + f.units
  guardUnit s x.ns (BitVec.ofNat 32768 f.partBits) f.header.stream
    (match findNs s x.ns with
      | some n => if n.pi = 3 then f.header.frame else lba
      | none => lba) f.badGuard

/-- A frame whose unfinished unit has been stored. -/
def unitDone (f : OpenFrame) : OpenFrame := { f with partBits := 0, partBytes := 0, units := f.units + 1, badGuard := false }

/-- The state with the unfinished unit held back. -/
def unitHeld (f : OpenFrame) (x : Stream) (s : State) : State :=
  updateStream f.header.stream (fun y => { y with held := y.held ++ [(f.startLba + f.units, lastUnit s f x)] })
    { s with parse := { s.parse with frame := some (unitDone f) } }

/-- A unit of an open stream is held back until its segment fills. -/
theorem storeUnit_open {sid : Nat} {x : Stream} {s : State} (h : findStream s sid = some x) (ho : x.state = .open_)
    (lba : Nat) (u : Unit4k) : storeUnit sid lba u s =
      let t := updateStream sid (fun y => { y with held := y.held ++ [(lba, u)] }) s
      if (lba + 1) % 256 == 0 then releaseHeld sid t else t := by
  have hfound := ((OnStream.refl h).update (fun y => { y with held := y.held ++ [(lba, u)] }) fun _ => rfl).found
  unfold storeUnit
  dsimp only
  rw [hfound]
  dsimp only
  rw [ho]
  rfl

theorem storeFrameUnit_open {f : OpenFrame} {x : Stream} {s : State} (h : findStream s f.header.stream = some x)
    (ho : x.state = .open_) : storeFrameUnit f s =
      if (f.startLba + f.units + 1) % 256 == 0 then releaseHeld f.header.stream (unitHeld f x s) else unitHeld f x s := by
  unfold storeFrameUnit
  dsimp only
  rw [h]
  exact storeUnit_open (s := { s with parse := { s.parse with frame := some (unitDone f) } }) h ho _ _

theorem storeFrameUnit_parse {f : OpenFrame} {x : Stream} {s : State} (h : findStream s f.header.stream = some x)
    (ho : x.state = .open_) : (storeFrameUnit f s).parse = { s.parse with frame := some (unitDone f) } := by
  rw [storeFrameUnit_open h ho]
  split
  · exact releaseHeld_parse _ _
  · rfl

theorem OnStream.storeFrameUnit {f : OpenFrame} {x : Stream} {s : State} (h : findStream s f.header.stream = some x)
    (ho : x.state = .open_) :
    let z : Stream := { x with held := x.held ++ [(f.startLba + f.units, lastUnit s f x)] }
    let fills := (f.startLba + f.units + 1) % 256 == 0
    OnStream f.header.stream (if fills then letGo z else z) (if fills then releasedWrites f.header.stream z else []) s
      (storeFrameUnit f s) := by
  intro z fills
  have hz := ((OnStream.refl h).parse { s.parse with frame := some (unitDone f) }).update
    (fun y => { y with held := y.held ++ [(f.startLba + f.units, lastUnit s f x)] }) fun _ => rfl
  rw [storeFrameUnit_open h ho]
  by_cases hf : fills = true
  · rw [if_pos hf, if_pos hf, if_pos hf]
    exact hz.release
  · rw [if_neg hf, if_neg hf, if_neg hf]
    exact hz

theorem exec_frameEnd_waits {s : State} {f : OpenFrame} (h : s.parse.frame = some f)
    (hw : f.cut = true ∨ 0 < f.wordsLeft) : exec .frameEnd s = .next s := by
  show execFrameEnd s = _
  unfold execFrameEnd
  rw [h]
  exact congrArg _ (if_pos hw)

theorem exec_frameEnd_whole {s : State} {f : OpenFrame} {x : Stream} (h : s.parse.frame = some f) (hc : f.cut = false)
    (hw : f.wordsLeft = 0) (hx : findStream s f.header.stream = some x) (hl : x.lowLogged = true) (hp : f.partBytes = 0) :
    exec .frameEnd s = .next (runParser (frameEnded f false x.align1M s)) := by
  have hgo : ¬ (f.cut = true ∨ 0 < f.wordsLeft) := by simp [hc, hw]
  rw [← endFrame_whole hx hl]
  show execFrameEnd s = _
  unfold execFrameEnd
  rw [h]
  refine congrArg _ ((if_neg hgo).trans ?_)
  rw [if_pos hp]
  dsimp only
  rw [h]

theorem exec_frameEnd_part {s : State} {f : OpenFrame} {x : Stream} (h : s.parse.frame = some f) (hc : f.cut = false)
    (hw : f.wordsLeft = 0) (hx : findStream s f.header.stream = some x) (ho : x.state = .open_) (hl : x.lowLogged = true)
    (hp : f.partBytes ≠ 0) :
    exec .frameEnd s = .next (runParser (frameEnded (unitDone f) false x.align1M (storeFrameUnit f s))) := by
  have hgo : ¬ (f.cut = true ∨ 0 < f.wordsLeft) := by simp [hc, hw]
  have hstored := OnStream.storeFrameUnit hx ho
  have hframe : (storeFrameUnit f s).parse.frame = some (unitDone f) := congrArg (·.frame) (storeFrameUnit_parse hx ho)
  show execFrameEnd s = _
  unfold execFrameEnd
  rw [h]
  refine congrArg _ ((if_neg hgo).trans ?_)
  rw [if_neg hp]
  dsimp only
  rw [hframe]
  dsimp only
  rw [endFrame_whole (f := unitDone f) hstored.found (by split <;> exact hl)]
  split <;> rfl

/-- The parser searches from now on where `mid` holds. -/
def searchOn (mid : Bool) (s : State) : State := { s with parse := { s.parse with searching := s.parse.searching || mid } }

theorem exec_stallTimerExpire {s : State} {f : OpenFrame} {x : Stream} (h : s.parse.frame = some f)
    (hx : findStream s f.header.stream = some x) (hl : x.lowLogged = true) : exec .stallTimerExpire s =
      .next (searchOn (!f.cut && decide (0 < f.wordsLeft)) (logShort f 0 (frameEnded f true x.align1M s))) := by
  have hclose : closeShort 0 s = logShort f 0 (frameEnded f true x.align1M s) := by
    unfold closeShort
    rw [h]
    exact endFrame_short hx hl 0
  show execStallTimerExpire s = _
  unfold execStallTimerExpire
  rw [h]
  dsimp only
  rw [hclose]
  rfl

theorem exec_frameStallNotice {s : State} {f : OpenFrame} (h : s.parse.frame = some f) : exec .frameStallNotice s = .next
    (if f.stallLogged then s
      else logEvent 0x0105 (blockUnit 3) (evData [(2, f.header.stream), (5, f.header.frame), (1, 0)])
        { s with parse := { s.parse with frame := some { f with stallLogged := true } } }) := by
  show execFrameStallNotice s = _
  unfold execFrameStallNotice
  rw [h]

/-! ## What a frame's end leaves of its stream (R70, R71) -/

/-- The record of a stream whose frame has ended with the units `z` holds, released or not. -/
def endedWith (f : OpenFrame) (short aligned release : Bool) (us : Nat) (z : Stream) : Stream :=
  endedStream f short aligned us (if release then letGo z else z)

theorem onStream_whole {f : OpenFrame} {x : Stream} {s : State} (h : findStream s f.header.stream = some x)
    (short aligned : Bool) :
    let r := endReleases f short aligned
    OnStream f.header.stream (endedWith f short aligned r s.clk.us x)
      (if r then releasedWrites f.header.stream x else []) s (frameEnded f short aligned s) := by
  have hend := (OnStream.refl h).frameEnded short aligned
  dsimp only at hend ⊢
  unfold endedWith
  cases hr : endReleases f short aligned <;> rw [hr] at hend <;> exact hend

theorem onStream_part {f : OpenFrame} {x : Stream} {s : State} (h : findStream s f.header.stream = some x)
    (ho : x.state = .open_) (aligned : Bool) :
    let z : Stream := { x with held := x.held ++ [(f.startLba + f.units, lastUnit s f x)] }
    let r := endReleases f false aligned || (f.startLba + f.units + 1) % 256 == 0
    OnStream f.header.stream (endedWith (unitDone f) false aligned r s.clk.us z)
      (if r then releasedWrites f.header.stream z else []) s (frameEnded (unitDone f) false aligned (storeFrameUnit f s)) := by
  intro z
  have hend := (OnStream.storeFrameUnit h ho).frameEnded (f := unitDone f) false aligned
  have hus : (storeFrameUnit f s).clk.us = s.clk.us := congrArg (·.clk.us) (OnStream.storeFrameUnit h ho).same
  have hgone (x : Stream) (hx : x.held = []) (t : State)
      (h : OnStream f.header.stream (letGo x) (releasedWrites f.header.stream z ++ releasedWrites f.header.stream x) s t) :
      OnStream f.header.stream x (releasedWrites f.header.stream z) s t := by
    obtain ⟨hsame, hnone⟩ := letGo_empty (sid := f.header.stream) hx
    rwa [hsame, hnone, List.append_nil] at h
  dsimp only at hend ⊢
  rw [hus, show endReleases (unitDone f) false aligned = endReleases f false aligned from rfl] at hend
  unfold endedWith
  generalize endReleases f false aligned = ends, ((f.startLba + f.units + 1) % 256 == 0) = fills at hend ⊢
  cases ends with
  | false => cases fills <;> exact hend
  | true =>
    cases fills with
    | false => exact hend
    | true => exact hgone _ rfl _ hend

/-! ## A header at the front (R61, R63, R70, R81) -/

/-- A valid header stands at the front, at the expected position and with nothing behind it; no frame is open. -/
structure HeaderAlone (s : State) : Prop where
  expected : s.parse.searching = false
  noFrame : s.parse.frame = none
  noSkip : s.parse.skipWords = 0
  noRun : s.parse.run = none
  noGap : s.parse.gaps = []
  last : s.parse.len = s.parse.pos + 512
  unlisted : findBlock s 0x10 (2 * (partHeader s.parse.bits s.parse.pos false).stream) = none
  unarmed : armed s 0x10 = false
  mark : markMatches primaryMark (field s.parse.bits s.parse.pos 64) = true
  good : partFault s.parse.bits s.parse.pos false = none

/-- The state with the parser behind a header, at its payload. -/
def headerPassed (payload : Nat) (s : State) : State := { s with parse := { s.parse with pos := payload, searching := false } }

/-- The state with the bits before a header at `start` in a discard run (R62). -/
def runUpTo (start : Nat) (s : State) : State :=
  if s.parse.pos < start then joinRun 0 0xFFFF (start - s.parse.pos) s else s

theorem findFront_alone {s : State} (h : HeaderAlone s) :
    findFront s = (.header (partHeader s.parse.bits s.parse.pos false) (s.parse.pos + 512) false, []) := by
  have havail : parseEnd s.parse - s.parse.pos = 512 := by simp [parseEnd, h.noGap, h.last]
  have hmark : (markMatches primaryMark (field s.parse.bits s.parse.pos 64) &&
      (partFault s.parse.bits s.parse.pos false).isNone) = true := by rw [h.mark, h.good]; rfl
  unfold findFront
  dsimp only
  rw [havail, h.expected, hmark]
  rfl

theorem bankRead_unlisted {bank block : Nat} {s : State} (requester : Nat) (h : findBlock s bank block = none) :
    bankRead bank block requester s = s := by
  have hcheck : checkBlock bank block false false requester s = (s, some 0) := by
    unfold checkBlock
    rw [h]
  unfold bankRead
  rw [hcheck]

theorem exec_frameHeader {s : State} (ha : HeaderAlone s) :
    let h := partHeader s.parse.bits s.parse.pos false
    exec .frameHeader s = .next (runParser (routeFrame h false (headerPassed (s.parse.pos + 512) s))) := by
  intro h
  have hread := bankRead_unlisted (s := headerPassed (s.parse.pos + 512) s) 6 ha.unlisted
  have hwritten (t : State) (ht : t.sram = s.sram) (block : Nat) : bankWritten 0x10 block t = t := by
    refine if_neg ?_
    rw [armed, ht]
    exact Bool.eq_false_iff.mp ha.unarmed
  have hclose : closeShort 1 (logFalse [] s) = s := by
    show closeShort 1 s = s
    unfold closeShort
    rw [ha.noFrame]
  have hexec : execFrameHeader s = .next (runParser (bankWritten 0x10 (2 * h.stream) (routeFrame h false
      (bankRead 0x10 (2 * h.stream) 6
        (headerPassed (s.parse.pos + 512) (runUpTo s.parse.pos (closeShort 1 (logFalse [] s)))))))) := by
    unfold execFrameHeader
    rw [findFront_alone ha, ha.noFrame, ha.noSkip]
    rfl
  rw [hclose, show runUpTo s.parse.pos s = s from if_neg (lt_irrefl _), hread,
    hwritten (routeFrame h false (headerPassed (s.parse.pos + 512) s)) ((routeFrame_keep _ _ _).sram rfl)] at hexec
  exact hexec

/-! ## Discarded frames (R81) -/

/-- A discarded frame counts against its stream. -/
def countDiscard (x : Stream) : Stream := { x with discards := x.discards + 1 }

theorem discardFrame_first {s : State} (h : Header) (cause : Nat) (hr : s.parse.run = none) : discardFrame h cause s =
    { updateStream h.stream countDiscard s with parse := { s.parse with
        run := some ⟨cause, h.stream, 512, s.clk.us⟩, skipWords := (h.length + 7) / 8, frame := none } } := by
  have hjoin : joinRun cause h.stream 512 (updateStream h.stream countDiscard s) =
      { updateStream h.stream countDiscard s with parse := { s.parse with run := some ⟨cause, h.stream, 512, s.clk.us⟩ } } := by
    unfold joinRun
    dsimp only
    rw [show (updateStream h.stream countDiscard s).parse.run = none from hr]
    rfl
  unfold discardFrame
  dsimp only
  rw [show (fun x : Stream => { x with discards := x.discards + 1 }) = countDiscard from rfl, hjoin]

section Route

variable {h : Header} {x : Stream} {s : State} {rebuilt : Bool}

theorem routeFrame_closed (hx : ∀ x, findStream s h.stream = some x → x.state ≠ .open_ ∧ x.state ≠ .full) :
    routeFrame h rebuilt s = discardFrame h 2 s := by
  unfold routeFrame
  cases hf : findStream s h.stream with
  | none => rfl
  | some x =>
    obtain ⟨hopen, hfull⟩ := hx x hf
    dsimp only
    split
    next h => exact absurd h hfull
    next h => exact absurd h hopen
    next => rfl

theorem routeFrame_rebuilding (hx : findStream s h.stream = some x) (ho : x.state = .open_) (hr : x.rebuilding = true) :
    routeFrame h rebuilt s = discardFrame h 4 s := by
  unfold routeFrame
  rw [hx]
  dsimp only
  rw [ho]
  exact if_pos hr

theorem routeFrame_repeated (hx : findStream s h.stream = some x) (ho : x.state = .open_) (hr : x.rebuilding = false)
    (hl : (h.frame : Int) ≤ x.last) : routeFrame h rebuilt s = discardFrame h 3 s := by
  unfold routeFrame
  rw [hx]
  dsimp only
  rw [ho, hr]
  exact if_pos hl

theorem routeFrame_noSlot (hx : findStream s h.stream = some x) (ho : x.state = .open_) (hr : x.rebuilding = false)
    (hl : x.last < h.frame) (hi : freeIndexSlots x = 0) : routeFrame h rebuilt s = fullAt h 2 s := by
  unfold routeFrame
  rw [hx]
  dsimp only
  rw [ho, hr]
  exact (if_neg (not_le.mpr hl)).trans (if_pos hi)

theorem routeFrame_taken (hx : findStream s h.stream = some x) (ho : x.state = .open_) (hr : x.rebuilding = false)
    (hl : x.last < h.frame) (hi : 0 < freeIndexSlots x)
    (hw : x.writePoint + (h.length + 4095) / 4096 ≤ (dataWindow x).start + (dataWindow x).length) :
    routeFrame h rebuilt s = takeFrame x h rebuilt false x.writePoint s := by
  unfold routeFrame
  rw [hx]
  dsimp only
  rw [ho, hr]
  exact (if_neg (not_le.mpr hl)).trans ((if_neg (Nat.pos_iff_ne_zero.mp hi)).trans (if_pos hw))

end Route

/-! ## A stream becomes FULL (R71, R72, R76) -/

/-- A stream of which index units have been written at most. -/
def IndexedFrom (x y : Stream) : Prop := y = { x with indexWrites := y.indexWrites, entries := y.entries }

/-- The placed entries of index unit `u` have gone out in write `n`. -/
def indexWritten (n u : Nat) (x : Stream) : Stream :=
  { x with
    indexWrites := n
    entries := x.entries.mapIdx fun i e =>
      if decide (i / slotsPerLba = u) && e.placed && e.written == 0 then { e with written := n } else e }

theorem writeIndexUnit_found {sid : Nat} {x y : Stream} {s : State} (h : findStream s sid = some y) (hy : IndexedFrom x y)
    (u : Nat) : ∃ z, findStream (writeIndexUnit sid u s) sid = some z ∧ IndexedFrom x z := by
  unfold writeIndexUnit
  rw [h]
  dsimp only
  split
  · exact ⟨y, h, hy⟩
  · refine ⟨_, ((OnStream.refl h).update (indexWritten (y.indexWrites + 1) u) fun _ => rfl).found, ?_⟩
    unfold IndexedFrom at hy ⊢
    rw [hy]
    rfl

theorem writeIndexUnits_found {sid : Nat} {x : Stream} {s : State} (h : findStream s sid = some x) :
    ∃ z, findStream (writeIndexUnits sid s) sid = some z ∧ IndexedFrom x z := by
  have hfold (us : List Nat) {s : State} {y : Stream} (h : findStream s sid = some y) (hy : IndexedFrom x y) :
      ∃ z, findStream (us.foldl (fun s u => writeIndexUnit sid u s) s) sid = some z ∧ IndexedFrom x z := by
    induction us generalizing s y with
    | nil => exact ⟨y, h, hy⟩
    | cons u us ih =>
      obtain ⟨z, hz, hxz⟩ := writeIndexUnit_found h hy u
      exact ih hz hxz
  unfold writeIndexUnits
  rw [h]
  exact hfold _ h rfl

theorem enterStream_found {sid : Nat} {x : Stream} {s : State} (h : findStream s sid = some x) (st : StreamState) :
    ∃ z, findStream (enterStream sid st s) sid = some z ∧ IndexedFrom (letGo { x with state := st }) z :=
  writeIndexUnits_found ((OnStream.refl h).update (fun x => { x with state := st }) fun _ => rfl).release.found

/-- STREAM_WINDOW_FULL of a stream that becomes FULL at a frame (R72). -/
def fullEvent (h : Header) (cause : Nat) : BitVec 16 × UnitId × BitVec 64 :=
  (0x0202, streamUnit h.stream, evData [(1, cause), (3, 0), (4, h.frame % 2 ^ 32)])

theorem fullAt_eq {h : Header} {s : State} (hr : s.parse.run = none) (cause : Nat) :
    let t := enterStream h.stream .full (logAll [fullEvent h cause] s)
    fullAt h cause s = { updateStream h.stream countDiscard t with
      parse := { s.parse with skipWords := (h.length + 7) / 8, frame := none } } := by
  intro t
  have hparse : t.parse = s.parse := (enterStream_keep _ _ _).parse rfl
  have hrun : endRun t = t := by
    unfold endRun
    rw [hparse, hr]
  rw [← hparse]
  show discardFull h t = _
  unfold discardFull
  rw [hrun]
  rfl

section Full

variable {h : Header} {x : Stream} {s : State}

theorem fullAt_parse (hr : s.parse.run = none) (cause : Nat) :
    (fullAt h cause s).parse = { s.parse with skipWords := (h.length + 7) / 8, frame := none } := by
  rw [fullAt_eq hr]

theorem fullAt_found (hr : s.parse.run = none) (hx : findStream s h.stream = some x) (cause : Nat) :
    ∃ z, findStream (fullAt h cause s) h.stream = some (countDiscard z) ∧ IndexedFrom (letGo { x with state := .full }) z := by
  obtain ⟨z, hz, hxz⟩ := enterStream_found (s := logAll [fullEvent h cause] s) hx .full
  refine ⟨z, ?_, hxz⟩
  rw [fullAt_eq hr]
  exact (findStream_updateStream h.stream h.stream countDiscard (fun _ => rfl) _).trans
    ((if_pos rfl).trans (congrArg (Option.map countDiscard) hz))

theorem fullAt_logged (hr : s.parse.run = none) (cause : Nat) : Logged [fullEvent h cause] s (fullAt h cause s) := by
  have hkeep := enterStream_keep h.stream .full (logAll [fullEvent h cause] s)
  rw [fullAt_eq hr]
  exact ⟨hkeep.evr rfl, hkeep.pins rfl⟩

end Full

/-! ## A frame is taken (R70, R74) -/

/-- The index entry of a frame taken at its stream's write point. -/
def openedEntry (h : Header) (x : Stream) : IndexEntry :=
  ⟨h.frame, h.flags &&& 0x1F, 1 + (if x.last + 1 < h.frame ∧ h.flags.getLsbD 4 = false then 16 else 0), x.writePoint, h.stream,
    h.length, h.timecode.getD 0, 0, false, 0, false⟩

/-- The record of a stream with a frame taken at point `point`. -/
def openedStream (h : Header) (e : IndexEntry) (point us : Nat) (x : Stream) : Stream :=
  { x with last := h.frame, frames := x.frames + 1, entries := x.entries ++ [e], writePoint := point, lastTakenUs := us }

theorem takeFrame_noFence {h : Header} {x : Stream} {s : State} (hr : s.parse.run = none) (h1 : h.flags.getLsbD 1 = false)
    (h2 : h.flags.getLsbD 2 = false) : takeFrame x h false false x.writePoint s =
      { updateStream h.stream (openedStream h (openedEntry h x) x.writePoint s.clk.us) s with parse := { s.parse with
          frame := some ⟨h, 0, (h.length + 7) / 8, 0, 0, x.writePoint, 0, x.entries.length, false, false, false, false⟩ } } := by
  have hrun : endRun s = s := by
    unfold endRun
    rw [hr]
  have hfence : frameFence h x.ns s = s := by
    unfold frameFence
    rw [h1, h2]
    rfl
  have hflags : BitVec.ofNat 16 (1 + 8 * flag false + 16 * flag (decide (x.last + 1 < h.frame) && !h.flags.getLsbD 4) +
      32 * flag false) = 1 + (if x.last + 1 < h.frame ∧ h.flags.getLsbD 4 = false then 16 else 0 : BitVec 16) := by
    by_cases hgap : x.last + 1 < h.frame <;> cases hcut : h.flags.getLsbD 4 <;> simp [hgap, flag]
  unfold takeFrame
  dsimp only
  rw [hrun, hfence, hflags]
  rfl

/-- Settles O27: where a header leads by its stream's state, and what the end of a frame leaves of the stream. -/
theorem frameEvents : Obligations.FrameEvents := by
  unfold Obligations.FrameEvents
  refine ⟨?_, ?_⟩
  · intro s p h words hsearch hframe hskip hrun hgap hlen hblock harmed hmark hfault discarded
    have hexec : exec .frameHeader s = .next (runParser (routeFrame h false (headerPassed (s.parse.pos + 512) s))) :=
      exec_frameHeader ⟨hsearch, hframe, hskip, hrun, hgap, hlen, hblock, harmed, hmark, hfault⟩
    have hdiscard (cause : Nat)
        (hr : routeFrame h false (headerPassed (s.parse.pos + 512) s) =
          discardFrame h cause (headerPassed (s.parse.pos + 512) s)) :
        ∃ t, exec .frameHeader s = .next t ∧ discarded cause t := by
      rw [discardFrame_first (s := headerPassed (s.parse.pos + 512) s) h cause hrun] at hr
      rw [hr, runParser_done (by exact hgap) (by exact hlen)] at hexec
      have hfind := fun k => findStream_updateStream h.stream k countDiscard (fun _ => rfl) s
      refine ⟨_, hexec, rfl, rfl, rfl, rfl, congrArg (· - _) hlen, fun x hx => ?_, fun k hk => ?_, rfl⟩
      · exact (hfind h.stream).trans ((if_pos rfl).trans (congrArg (Option.map countDiscard) hx))
      · exact (hfind k).trans (if_neg hk)
    refine ⟨fun hx => hdiscard 2 (routeFrame_closed hx), fun x hx ho => ⟨fun hr => hdiscard 4 (routeFrame_rebuilding hx ho hr),
      fun hr hl => hdiscard 3 (routeFrame_repeated hx ho hr hl), fun hr hl => ⟨fun hi => ?_, fun hi h1 h2 hw => ?_⟩⟩⟩
    · have hroute := routeFrame_noSlot (s := headerPassed (s.parse.pos + 512) s) (rebuilt := false) hx ho hr hl hi
      have hparse := fullAt_parse (h := h) (s := headerPassed (s.parse.pos + 512) s) hrun 2
      obtain ⟨z, hz, hxz⟩ := fullAt_found (s := headerPassed (s.parse.pos + 512) s) hrun hx 2
      obtain ⟨parse, str, ord, evr, pins, hsame⟩ : ∃ parse str ord evr pins,
          fullAt h 2 (headerPassed (s.parse.pos + 512) s) =
            { s with parse := parse, str := str, ord := ord, evr := evr, pins := pins } :=
        ⟨_, _, _, _, _, (fullAt_keep h 2 (headerPassed (s.parse.pos + 512) s)).same⟩
      rw [hroute, runParser_done (by rw [hparse]; exact hgap) (by rw [hparse]; exact hlen)] at hexec
      refine ⟨_, countDiscard z, hexec, congrArg (·.frame) hparse, (congrArg (·.run) hparse).trans hrun,
        congrArg (·.skipWords) hparse, hz, congrArg (·.state) hxz, congrArg (·.discards + 1) hxz, congrArg (·.held) hxz,
        congrArg (·.writePoint) hxz, congrArg (·.frames) hxz, fullAt_logged (s := headerPassed (s.parse.pos + 512) s) hrun 2, ?_⟩
      rw [hsame]
      rfl
    · have hroute := routeFrame_taken (s := headerPassed (s.parse.pos + 512) s) (rebuilt := false) hx ho hr hl hi hw
      rw [takeFrame_noFence (by exact hrun) h1 h2] at hroute
      rw [hroute, runParser_done (by exact hgap) (by exact hlen)] at hexec
      have hfind := fun k =>
        findStream_updateStream h.stream k (openedStream h (openedEntry h x) x.writePoint s.clk.us) (fun _ => rfl) s
      refine ⟨_, hexec, hskip, rfl, hrun, congrArg (· - _) hlen, rfl, fun k hk => ?_, ?_, rfl⟩
      · exact (hfind k).trans (if_neg hk)
      · exact (hfind h.stream).trans ((if_pos rfl).trans (congrArg (Option.map _) hx))
  · intro s f x hframe sid lba ref unit part flagged commit ends
    have hends (g : OpenFrame) (short : Bool) (held : List (Nat × Unit4k)) (release : Bool) (t : State)
        (hh : g.header = f.header) (hs : g.slot = f.slot) (hl : g.startLba = f.startLba) (hd : g.damaged = f.damaged)
        (ht : OnStream sid (endedWith g short x.align1M release s.clk.us { x with held := held })
          (if release then releasedWrites sid { x with held := held } else []) s t) (hp : t.parse.frame = none) :
        ends g.units (if short then 1 else 0) held release t := by
      refine ⟨hp, _, ht.found, ht.others, ?_, ?_, ?_⟩
      · cases release <;> cases short <;>
          simp [endedWith, endedStream, letGo, pointAfter, alignSegment, hh, hs, hl, hd, isCommit, commit]
      · rintro rfl
        exact ⟨rfl, ht.ord⟩
      · rintro rfl
        exact ⟨rfl, ht.ord_same⟩
    refine ⟨fun hlog => ?_, fun hlog => ?_, exec_frameEnd_waits hframe, fun hx ho hl => ⟨fun hc hw hg hlen => ?_, ?_⟩⟩
    · refine ⟨_, (exec_frameStallNotice hframe).trans (congrArg _ (if_neg (by rw [hlog]; decide))), ⟨rfl, rfl⟩, rfl⟩
    · exact (exec_frameStallNotice hframe).trans (congrArg _ (if_pos hlog))
    · have hdone (g : OpenFrame) (t : State) : (trimParser (frameEnded g false x.align1M t)).parse.frame = none := by
        show (frameEnded g false x.align1M t).parse.frame = none
        rw [frameEnded_parse]
      by_cases hp : part
      · have hparse := storeFrameUnit_parse hx ho
        have ht := (onStream_part hx ho x.align1M).trim
        have hrelease : (flagged || x.align1M || (decide part && (lba + 1) % 256 == 0)) =
            (endReleases f false x.align1M || (f.startLba + f.units + 1) % 256 == 0) := by
          rw [decide_eq_true hp, endReleases, Bool.or_false, Bool.true_and]
          rfl
        refine ⟨_, (exec_frameEnd_part hframe hc hw hx ho hl (Nat.pos_iff_ne_zero.mp hp)).trans
          (congrArg _ (runParser_frameEnded (by rw [hparse]; exact hg) (by rw [hparse]; exact hlen) _ _ _)), ?_, ht.same⟩
        rw [if_pos hp, if_pos hp, hrelease]
        exact hends (unitDone f) false _ _ _ rfl rfl rfl rfl ht (hdone _ _)
      · have ht := (onStream_whole hx false x.align1M).trim
        have hrelease : (flagged || x.align1M || (decide part && (lba + 1) % 256 == 0)) = endReleases f false x.align1M := by
          rw [decide_eq_false hp, endReleases, Bool.or_false, Bool.false_and, Bool.or_false]
          rfl
        refine ⟨_, (exec_frameEnd_whole hframe hc hw hx hl (Nat.eq_zero_of_not_pos hp)).trans
          (congrArg _ (runParser_frameEnded hg hlen _ _ _)), ?_, ht.same⟩
        rw [if_neg hp, if_neg hp, hrelease]
        exact hends f false _ _ _ rfl rfl rfl rfl ht (hdone _ _)
    · have ht := onStream_whole hx true x.align1M
      have hparse := frameEnded_parse f true x.align1M s
      have hrelease : endReleases f true x.align1M = true := by simp [endReleases]
      rw [hrelease] at ht
      have hended := hends f true x.held true _ rfl rfl rfl rfl ht (congrArg (·.frame) hparse)
      refine ⟨_, exec_stallTimerExpire hframe hx hl, ?_, ?_, ?_, ?_⟩
      · exact hended
      · exact congrArg (fun p : Parser => { p with searching := p.searching || (!f.cut && decide (0 < f.wordsLeft)) }) hparse
      · have hlog : logShort f 0 (frameEnded f true x.align1M s) = logShort f 0 _ := congrArg (logShort f 0) ht.same
        exact ⟨congrArg (·.evr) hlog, congrArg (·.pins) hlog⟩
      · obtain ⟨p, l, o, he⟩ : ∃ p l o, frameEnded f true x.align1M s =
            { s with parse := p, str := { s.str with list := l }, ord := o } := ⟨_, _, _, ht.same⟩
        rw [he]
        rfl

end Sys2Proof.Proofs
end

section
/-! Proofs about power states, wakes and clocks (O20). -/

namespace Sys2Proof.Proofs

open Sys2Proof Sys2Proof.Machine Sys2Proof.Safety Sys2Proof.Laws

/-! ## POWER_SET_STATE (R139, R326) -/

theorem boundPower_within {s : State} (h : s.pwr.state ≤ powerBound s) : boundPower s = s := if_neg (Nat.not_lt.mpr h)

/-- No POWER_SET_STATE completes while each asks for a deeper state than the present one. -/
theorem settlePowerSet_shallow {s : State} (h : ∀ x ∈ s.hnd.live, x.opcode = 0x0020 → s.pwr.state < x.subject) :
    settlePowerSet s = s := by
  unfold settlePowerSet
  cases hl : liveOp s 0x0020 with
  | none => rfl
  | some x =>
    have hop := List.find?_some hl
    rw [Bool.and_eq_true, beq_iff_eq] at hop
    exact if_neg (Nat.not_le.mpr (h x (List.mem_of_find?_eq_some hl) hop.1))

theorem settlePowerSet_none {s : State} (h : liveOp s 0x0020 = none) : settlePowerSet s = s := by
  rw [settlePowerSet, h]

theorem completePowerSet_none {s : State} (h : liveOp s 0x0020 = none) (status : BitVec 16) (k : Nat) :
    completePowerSet status k s = s := by
  rw [completePowerSet, h]

section Commands

variable {s : State} {m : Fin 16}

theorem exec_powerSetState_refused (h : Asked m 0x0020 s) (hk : 2 ≤ reqField s m 8 1) (hl : s.link.state ≠ .down) :
    exec (.powerSetState m) s = .next (respond m stWrongState [] s) :=
  congrArg Host.Outcome.next ((serve_asked h _).trans (if_pos ⟨hk, hl⟩))

/-- What POWER_SET_STATE sets at once. -/
def powerRequested (m : Nat) (s : State) : Power :=
  { s.pwr with
    depthLorard := reqField s m 8 1, wakeSources := BitVec.ofNat 8 (reqField s m 9 1), timerWake := reqField s m 12 4 }

theorem exec_powerSetState_accepted (h : Asked m 0x0020 s) (hl : s.link.state = .down) (hslots : freeSlots s ≠ [])
    (hop : opLive s 0x0020 = false) (hk : s.pwr.state < reqField s m 8 1) (hn : s.pwr.state ≤ nvmeDepth s) :
    ∃ v u, exec (.powerSetState m) s = .next (respond m stAccepted (leBytes 4 v.toNat) u) ∧
      Issued v ⟨v, 0x0020, m, (boxOf s m).ringPath, s.clk.us, false, reqField s m 8 1, powerBefore s⟩ s.hnd u.hnd ∧
      u = { s with pwr := powerRequested m s, hnd := u.hnd, free := u.free } := by
  obtain ⟨v, w, haccept, hissued, hw⟩ := accept_some m 0x0020 (reqField s m 8 1) (powerBefore s) false
    (fun _ s' => settlePowerSet (boundPower (requestPower (reqField s m 8 1) (reqField s m 9 1) (reqField s m 12 4) s'))) s hslots
  have hexec : exec (.powerSetState m) s = .next (respond m stAccepted (leBytes 4 v.toNat) (settlePowerSet (boundPower
      (requestPower (reqField s m 8 1) (reqField s m 9 1) (reqField s m 12 4) w)))) := by
    refine congrArg Host.Outcome.next ((serve_asked h _).trans ((if_neg fun hc => hc.2 hl).trans ?_))
    rw [hop]
    exact haccept
  have hu : requestPower (reqField s m 8 1) (reqField s m 9 1) (reqField s m 12 4) w =
      { s with pwr := powerRequested m s, hnd := w.hnd, free := s.free + 1 } := congrArg _ hw
  have hbound (u : State) (hu : u = { s with pwr := powerRequested m s, hnd := w.hnd, free := s.free + 1 }) :
      boundPower u = u := boundPower_within (by rw [hu]; exact le_min hk.le hn)
  have hsettle (u : State) (hu : u = { s with pwr := powerRequested m s, hnd := w.hnd, free := s.free + 1 }) :
      settlePowerSet u = u := by
    refine settlePowerSet_shallow fun x hx hxop => ?_
    rw [hu] at hx ⊢
    change x ∈ w.hnd.live at hx
    rw [hissued.table, List.mem_append, List.mem_singleton] at hx
    obtain hold | rfl := hx
    · have hlive : opLive s 0x0020 = true := List.any_eq_true.mpr ⟨x, hold, beq_iff_eq.mpr hxop⟩
      rw [hop] at hlive
      exact absurd hlive Bool.false_ne_true
    · exact hk
  rw [hbound _ hu, hsettle _ hu] at hexec
  exact ⟨v, _, hexec, by rw [hu]; exact hissued, by rw [hu]⟩

end Commands

/-! ## Entry (R323 to R325, R329, R351) -/

section Entry

variable {s : State}

/-- The state with P`k` entered, before any media are gated. -/
def powerAt (k : Nat) (s : State) : State := { s with pwr := { s.pwr with state := k, background := false } }

theorem exec_powerStateEntry (s : State) : exec .powerStateEntry s = .next (
    let u := updateBackground s
    let k := targetState u
    if k = 0 ∧ 0 < s.pwr.state ∧ s.pwr.state ≤ 2 ∧ worksFirst s = true then updateBackground (leaveState u)
    else if k ≤ s.pwr.state then u
    else if k < 4 then enterState k u
    else if s.pwr.entering = false then beginP4 u
    else if ledgerClean s then gateForP4 u
    else u) := rfl

/-- From P0 a deeper state whose conditions hold is entered, P4 in two steps. -/
theorem exec_powerStateEntry_deeper {k : Nat} (h0 : s.pwr.state = 0) (hk : targetState (updateBackground s) = k)
    (hpos : 0 < k) : exec .powerStateEntry s = .next (
      let u := updateBackground s
      if k < 4 then enterState k u
      else if s.pwr.entering = false then beginP4 u
      else if ledgerClean s then gateForP4 u
      else u) := by
  rw [exec_powerStateEntry, ← hk]
  refine congrArg Host.Outcome.next ((if_neg fun hc => ?_).trans (if_neg ?_))
  · rw [h0] at hc
    exact absurd hc.2.1 (lt_irrefl 0)
  · rw [h0, hk]
    exact Nat.not_le.mpr hpos

theorem enterState_one (h : liveOp s 0x0020 = none) : enterState 1 s = powerAt 1 s :=
  settlePowerSet_none (s := powerAt 1 s) h

/-- Every DRAM channel in self-refresh. -/
def selfRefreshed (s : State) : State := { s with dram := { s.dram with channels := s.dram.channels.map toSelfRefresh } }

theorem enterState_three (h : liveOp s 0x0020 = none) (hb : backgroundDue s = false) :
    enterState 3 s = selfRefreshed (gateMedia (powerAt 3 s)) := by
  have hgate : (if 2 ≤ 3 ∧ backgroundDue (powerAt 3 s) = false then gateMedia (powerAt 3 s) else powerAt 3 s) =
      gateMedia (powerAt 3 s) := if_pos ⟨by decide, hb⟩
  have henter : enterState 3 s = settlePowerSet (selfRefreshed
      (if 2 ≤ 3 ∧ backgroundDue (powerAt 3 s) = false then gateMedia (powerAt 3 s) else powerAt 3 s)) := rfl
  rw [henter, hgate]
  exact settlePowerSet_none (s := selfRefreshed (gateMedia (powerAt 3 s))) h

theorem beginP4_none (h : liveOp s 0x0020 = none) :
    beginP4 s = appendSlot (.clean (lastIssued s)) { s with pwr := { s.pwr with entering := true } } := by
  rw [beginP4, h]

theorem gateForP4_none (h : liveOp s 0x0020 = none) : gateForP4 s = { gateMedia s with
    life := { s.life with phase := .p4 }
    pwr := { s.pwr with state := 4, entering := false, background := false, perstSeen := !s.life.perstN }
    dram := { s.dram with channels := s.dram.channels.map fun c => { c with state := .off } } } := by
  rw [gateForP4, completePowerSet_none h]
  rfl

/-- P1 is left with no domain to wake. -/
theorem leaveState_one (h : s.pwr.state = 1) : leaveState s = { s with pwr := { s.pwr with state := 0 } } := by
  unfold leaveState
  rw [h]
  rfl

theorem toSelfRefresh_state (c : DramChannel) : (toSelfRefresh c).state = .selfRefresh ∨ (toSelfRefresh c).state = .off := by
  unfold toSelfRefresh
  split
  next h => exact .inr (beq_iff_eq.mp h)
  next => exact .inl rfl

theorem gateMedia_channels (s : State) : ∀ c ∈ (gateMedia s).med.channels, c.state ≠ .running := by
  intro c hc
  obtain ⟨x, -, rfl⟩ := List.mem_map.mp hc
  split
  next => exact SeqState.noConfusion
  next h => exact mt beq_iff_eq.mpr h

end Entry

/-! ## Wakes (R327, R330, R331, R358) -/

/-- A state left for P0, with the deferred events of P3 still held and no test begun. -/
def powerLeft (s : State) : State :=
  let t : State := { s with pwr := { s.pwr with state := 0 } }
  if 2 ≤ s.pwr.state then wakeDram (s.pwr.state == 3) (wakeMedia t) else t

theorem wakeDram_channels (from3 : Bool) (s : State) : ∀ c ∈ (wakeDram from3 s).dram.channels, c.state ≠ .selfRefresh := by
  intro c hc
  obtain ⟨x, -, rfl⟩ := List.mem_map.mp hc
  split
  next => cases from3 <;> exact DramState.noConfusion
  next h => exact mt beq_iff_eq.mpr h

theorem powerLeft_keep (s : State) : Keep 286662784 { s with pwr := { s.pwr with state := 0 } } (powerLeft s) :=
  Keep.ite (Keep.on (wakeDram_keep _ _) (Keep.on (wakeMedia_keep _) (Keep.refl _ _) rfl) rfl) (Keep.refl _ _)

theorem powerLeft_channels {s : State} (h : 2 ≤ s.pwr.state) :
    ∀ c ∈ (powerLeft s).dram.channels, c.state ≠ .selfRefresh := by
  rw [show powerLeft s = _ from if_pos h]
  exact wakeDram_channels _ _

theorem flushDeferred_deferred (s : State) : (flushDeferred s).thm.deferred = [] := by
  have hkeep : Keep 16785408 { s with thm := { s.thm with deferred := [] } } (flushDeferred s) :=
    Keep.foldl _ _ _ (fun _ _ => Keep.on (logDeferred_keep _ _ _ _ _) (Keep.refl _ _) rfl) (Keep.refl _ _)
  rw [hkeep.thm rfl]

theorem leaveState_of_ne {s : State} (h : s.pwr.state ≠ 3) : leaveState s = powerLeft s := if_neg h

theorem leaveState_of_three {s : State} (h : s.pwr.state = 3) :
    leaveState s = runDueTest (flushDeferred (powerLeft s)) := if_pos h

theorem leaveState_pwr (s : State) : (leaveState s).pwr = { s.pwr with state := 0 } := by
  by_cases h : s.pwr.state = 3
  · rw [leaveState_of_three h, (runDueTest_keep _).pwr rfl, (flushDeferred_keep _).pwr rfl, (powerLeft_keep s).pwr rfl]
  · rw [leaveState_of_ne h, (powerLeft_keep s).pwr rfl]

theorem leaveState_channels {s : State} (h : 2 ≤ s.pwr.state) :
    ∀ c ∈ (leaveState s).dram.channels, c.state ≠ .selfRefresh := by
  by_cases h3 : s.pwr.state = 3
  · rw [leaveState_of_three h3, (runDueTest_keep _).dram rfl, (flushDeferred_keep _).dram rfl]
    exact powerLeft_channels h
  · rw [leaveState_of_ne h3]
    exact powerLeft_channels h

theorem leaveState_deferred {s : State} (h : s.pwr.state = 3) : (leaveState s).thm.deferred = [] := by
  rw [leaveState_of_three h, (runDueTest_keep _).thm rfl, flushDeferred_deferred]

theorem runDueTest_none {s : State} (h : s.hup.due = none) : runDueTest s = s := by
  rw [runDueTest, h]

theorem runDueTest_some {s : State} {kind : HoldupDue} (h : s.hup.due = some kind) :
    runDueTest s = if mayTest kind s then startTestRun s else s := by
  rw [runDueTest, h]

theorem leaveState_hup_kept {s : State} (h : s.pwr.state ≠ 3 ∨ s.hup.due = none) : (leaveState s).hup = s.hup := by
  by_cases h3 : s.pwr.state = 3
  · have hhup : (flushDeferred (powerLeft s)).hup = s.hup :=
      ((flushDeferred_keep _).hup rfl).trans ((powerLeft_keep s).hup rfl)
    rw [leaveState_of_three h3, runDueTest_none (by rw [hhup]; exact h.resolve_left (not_not.mpr h3)), hhup]
  · rw [leaveState_of_ne h3, (powerLeft_keep s).hup rfl]

/-- Whether a test may begin rests on what a resume keeps. -/
theorem mayTest_congr {s t : State} (kind : HoldupDue) (hlife : t.life = s.life) (hstr : t.str = s.str) (hclk : t.clk = s.clk)
    (hhup : t.hup = s.hup) : mayTest kind t = mayTest kind s := by
  rw [mayTest, mayTest, serving, serving, hlife, hstr, hclk, hhup]

theorem leaveState_hup_due {s : State} {kind : HoldupDue} (h3 : s.pwr.state = 3) (h : s.hup.due = some kind) :
    (leaveState s).hup =
      if mayTest kind s = true then { s.hup with run := some ⟨true, none, 0, 0, false⟩, due := none } else s.hup := by
  have hkeep : Keep 286728320 { s with pwr := { s.pwr with state := 0 } } (flushDeferred (powerLeft s)) :=
    Keep.on (flushDeferred_keep _) (Keep.on (powerLeft_keep s) (Keep.refl _ _) rfl) rfl
  have hhup : (flushDeferred (powerLeft s)).hup = s.hup := hkeep.hup rfl
  have hmay : mayTest kind (flushDeferred (powerLeft s)) = mayTest kind s :=
    mayTest_congr kind (hkeep.life rfl) (hkeep.str rfl) (hkeep.clk rfl) (hkeep.hup rfl)
  rw [leaveState_of_three h3, runDueTest_some (by rw [hhup]; exact h), hmay, ← hhup]
  split <;> rfl

theorem abandonP4_none {s : State} (h : s.pwr.entering = false) : abandonP4 s = s :=
  if_neg (by rw [h]; exact Bool.false_ne_true)

/-- The power domain as a wake leaves it for `leaveState`. -/
def wakened (p : Power) (s : State) : State := { s with pwr := { p with l1 := false, depthLorard := 2 } }

theorem resumeP0_deep {s : State} (he : s.pwr.entering = false)
    (hk : s.pwr.state = 1 ∨ s.pwr.state = 2 ∨ s.pwr.state = 3) : resumeP0 s = leaveState (wakened s.pwr s) := by
  unfold resumeP0
  dsimp only
  rw [abandonP4_none (s := { s with pwr := { s.pwr with l1 := false } }) he]
  exact if_neg (by omega)

theorem resumeP0_zero {s : State} (he : s.pwr.entering = false) (hk : s.pwr.state = 0) :
    resumeP0 s = { s with pwr := { s.pwr with l1 := false } } := by
  unfold resumeP0
  dsimp only
  rw [abandonP4_none (s := { s with pwr := { s.pwr with l1 := false } }) he]
  exact if_pos (.inl hk)

theorem exec_wakeEvent {s : State} (h : s.life.phase = .service) (src : WakeSource) :
    exec (.wakeEvent src) s = .next (resumeP0 s) := by
  show execWakeEvent src s = _
  unfold execWakeEvent
  rw [h]

theorem exec_timerWake {s : State} (h : s.life.phase = .service) (hk : 2 ≤ s.pwr.state) (ht : s.pwr.timerWake ≠ 0) :
    exec (.timerWake false) s = .next (resumeP0 { s with pwr := { s.pwr with timerWake := 0 } }) := by
  have hgo : ¬ (false || s.pwr.timerWake == 0) = true := by simpa using ht
  have hdeep : (s.pwr.entering || decide (2 ≤ s.pwr.state)) = true := by simp [hk]
  show execTimerWake false s = _
  unfold execTimerWake
  rw [if_neg hgo, h]
  exact congrArg Host.Outcome.next (if_pos hdeep)

/-! ## Clocks (R320, R322) -/

theorem exec_crystalFailure {s : State} (h : s.life.phase = .service) :
    exec .crystalFailure s = .next { s with clk := { s.clk with xtalFail := true, utc := none } } :=
  congrArg Host.Outcome.next (if_neg (by rw [h]; exact Phase.noConfusion))

/-- The state with a PLL noted as failed. -/
def pllNoted (pll : Nat) (s : State) : State :=
  let bit := BitVec.ofNat 8 (2 ^ pll)
  { s with pwr := { s.pwr with pllBad := s.pwr.pllBad ||| bit, pllFail := s.pwr.pllFail ||| bit } }

theorem exec_pllLockFailure {s : State} (h : s.life.phase = .service) (pll : Fin 8) : exec (.pllLockFailure pll) s = .next
    (if corePll pll then hubReset 0 (blockUnit 0x26) (pllNoted pll s) else startTest (blockUnit 0x26) 0 (pllNoted pll s)) :=
  congrArg Host.Outcome.next (if_neg (not_not.mpr h))

theorem corePll_iff (p : Nat) : corePll p = true ↔ p = 0 ∨ p = 1 ∨ p = 5 := by
  simp [corePll, or_assoc]

/-- Settles O20: what POWER_SET_STATE sets, which state is entered or left, what a resume keeps, and what a failed clock
does. -/
theorem powerStates : Obligations.PowerStates := by
  unfold Obligations.PowerStates
  refine ⟨fun s m => ⟨fun h hk hl => ?_, fun h hl hslots hop _ hk hn => ?_, ?_, fun _ _ h1 hw hk => ?_, fun x hx => ?_⟩, ?_⟩
  · exact ⟨_, exec_powerSetState_refused h hk hl, respond_refused _ m.isLt _ _ h.boxes⟩
  · obtain ⟨v, u, hexec, hissued, hu⟩ := exec_powerSetState_accepted h hl hslots hop hk hn
    exact ⟨_, v, u, hexec, ⟨hissued, respond_replied _ m.isLt _ _ _ (by rw [hu]; exact h.boxes) (.inr rfl)⟩, hu⟩
  · intro _ _ h0 hlive k
    have hnone : liveOp (updateBackground s) 0x0020 = none := hlive
    refine ⟨fun hk => ?_, fun hk hb => ?_, fun hk he => ?_, fun hk he hc => ?_⟩
    · exact (exec_powerStateEntry_deeper h0 hk (by decide)).trans (congrArg _ (enterState_one hnone))
    · refine ⟨_, (exec_powerStateEntry_deeper h0 hk (by decide)).trans (congrArg _ (enterState_three hnone hb)), rfl,
        fun c hc => ?_, gateMedia_channels _, rfl⟩
      obtain ⟨x, -, rfl⟩ := List.mem_map.mp hc
      exact toSelfRefresh_state x
    · exact ⟨_, (exec_powerStateEntry_deeper h0 hk (by decide)).trans (congrArg _
        ((if_neg (lt_irrefl 4)).trans ((if_pos he).trans (beginP4_none hnone)))), rfl, h0, ⟨_, rfl⟩, rfl⟩
    · refine ⟨_, (exec_powerStateEntry_deeper h0 hk (by decide)).trans (congrArg _
        ((if_neg (lt_irrefl 4)).trans ((if_neg (by rw [he]; decide)).trans
          ((if_pos hc).trans (gateForP4_none hnone))))), rfl, rfl, rfl, fun c hc => ?_, rfl, rfl, rfl⟩
      obtain ⟨x, -, rfl⟩ := List.mem_map.mp hc
      rfl
  · have hexec := (exec_powerStateEntry s).trans
      (congrArg Host.Outcome.next (if_pos ⟨hk, by rw [h1]; decide, by rw [h1]; decide, hw⟩))
    rw [leaveState_one (s := updateBackground s) h1] at hexec
    exact ⟨_, hexec⟩
  · show Host.Outcome.next (completePowerSet _ _ s) = _
    rw [completePowerSet, hx]
    rfl
  · intro s src pll hphase he resumed
    have hdone (f : Power → Power) (i : Instr) (u : State) (hi : exec i s = .next (leaveState u))
        (hu : u = { s with pwr := u.pwr }) (hs : u.pwr.state = s.pwr.state)
        (hf : { u.pwr with state := 0 } = f { s.pwr with state := 0, depthLorard := 2, l1 := false }) : resumed f i := by
      have hkeep := leaveState_keep u
      have hhup : u.hup = s.hup := congrArg (·.hup) hu
      refine ⟨_, hi, (leaveState_pwr u).trans hf, fun h1 => ?_, fun h2 => ?_, fun h3 => ⟨?_, ?_⟩, ?_, ?_, ?_, ?_, ?_, fun h => ?_,
        fun kind h3 hd => ?_⟩
      · rw [leaveState_one (hs.trans h1)]
        exact congrArg (fun u : State => { u with pwr := { u.pwr with state := 0 } }) hu
      · exact leaveState_channels (by rw [hs, h2])
      · exact leaveState_channels (by rw [hs, h3]; decide)
      · exact leaveState_deferred (hs.trans h3)
      · exact (hkeep.life rfl).trans (congrArg (·.life) hu)
      · exact (hkeep.clk rfl).trans (congrArg (·.clk) hu)
      · exact (hkeep.link rfl).trans (congrArg (·.link) hu)
      · exact (hkeep.str rfl).trans (congrArg (·.str) hu)
      · exact (hkeep.nv rfl).trans (congrArg (·.nv) hu)
      · rw [leaveState_hup_kept (by rwa [hs, hhup]), hhup]
      · have hmay : mayTest kind u = mayTest kind s :=
          mayTest_congr kind (congrArg (·.life) hu) (congrArg (·.str) hu) (congrArg (·.clk) hu) hhup
        rw [leaveState_hup_due (hs.trans h3) (by rw [hhup]; exact hd), hmay, hhup]
    refine ⟨fun hk => ?_, fun hk ht => ?_, fun hk => ?_, rfl, rfl, exec_crystalFailure hphase, fun hcore => ?_, fun hcore => ?_⟩
    · exact hdone id _ (wakened s.pwr s) (by rw [exec_wakeEvent hphase, resumeP0_deep he hk]) rfl rfl rfl
    · refine hdone (fun p => { p with timerWake := 0 }) _ (wakened { s.pwr with timerWake := 0 } s) ?_ rfl rfl rfl
      rw [exec_timerWake hphase (by omega) ht]
      exact congrArg _ (resumeP0_deep (s := { s with pwr := { s.pwr with timerWake := 0 } }) he (.inr hk))
    · rw [exec_wakeEvent hphase, resumeP0_zero he hk]
    · rw [exec_pllLockFailure hphase, if_pos ((corePll_iff _).mpr hcore)]
      rfl
    · exact ⟨_, (exec_pllLockFailure hphase pll).trans (congrArg _ (if_neg (mt (corePll_iff _).mp hcore))),
        startTest_running _ _ _, startTest_frame _ _ _⟩

end Sys2Proof.Proofs
end

section
/-! The writes that a flush leaves accepted are among those that were (O18). -/

namespace Sys2Proof.Proofs

open Sys2Proof Sys2Proof.Machine Sys2Proof.Safety Sys2Proof.Laws

/-! ## Accepted writes by sequence number (R147) -/

/-- Every write of `ws` has its sequence number among `q`. -/
def NumbersIn (q : List Nat) (ws : List Write) : Prop := ∀ w ∈ ws, w.seq ∈ q

/-- Every accepted write has its sequence number among `q`. -/
def AcceptedIn (q : List Nat) (s : State) : Prop := NumbersIn q s.ord.accepted

section Accepted

variable {q : List Nat} {s t : State}

theorem AcceptedIn.of_ord (h : AcceptedIn q s) (ho : t.ord = s.ord) : AcceptedIn q t := by
  rwa [AcceptedIn, ho]

theorem NumbersIn.map {ws : List Write} (h : NumbersIn q ws) {f : Write → Write} (hf : ∀ w, (f w).seq = w.seq) :
    NumbersIn q (ws.map f) := by
  intro w hw
  obtain ⟨x, hx, rfl⟩ := List.mem_map.mp hw
  rw [hf]
  exact h x hx

theorem NumbersIn.append {ws vs : List Write} (h : NumbersIn q ws) (hv : NumbersIn q vs) : NumbersIn q (ws ++ vs) :=
  fun w hw => (List.mem_append.mp hw).elim (h w) (hv w)

theorem NumbersIn.single {w : Write} (h : w.seq ∈ q) : NumbersIn q [w] := fun v hv => by
  rwa [List.mem_singleton.mp hv]

theorem AcceptedIn.updateWrite (h : AcceptedIn q s) (k : Nat) {f : Write → Write} (hf : ∀ w, (f w).seq = w.seq) :
    AcceptedIn q (updateWrite k f s) :=
  NumbersIn.map h fun w => by split <;> simp [hf]

/-- Map updates take writes out of the Overlap Directory and put none in (R180). -/
theorem settleFrom_acceptedIn {earlier ws : List Write} (he : NumbersIn q earlier) (hw : NumbersIn q ws) (s : State) :
    AcceptedIn q (settleFrom earlier ws s) := by
  induction ws generalizing earlier s with
  | nil => exact he
  | cons w ws ih =>
    have hhead : w.seq ∈ q := hw w List.mem_cons_self
    have htail : NumbersIn q ws := fun v hv => hw v (List.mem_cons_of_mem w hv)
    have hkept := he.append (NumbersIn.single hhead)
    have hmade : NumbersIn q (earlier ++ [{ w with applied := true }]) := he.append (NumbersIn.single hhead)
    unfold settleFrom
    dsimp only
    split
    · split
      · split
        · exact ih he htail _
        · exact ih hmade htail _
      · exact ih hkept htail _
    · split
      · exact ih he htail _
      · exact ih hkept htail _

theorem AcceptedIn.recordAll (h : AcceptedIn q s) : AcceptedIn q (recordAll s) := by
  refine List.foldlRecOn _ _ h fun t ht w _ => ?_
  split
  · have hmarked := ht.updateWrite w.seq (f := fun x => { x with recorded := true, programmed := (recordSlots w).isEmpty })
      fun _ => rfl
    exact List.foldlRecOn _ _ hmarked fun u hu x _ => hu.of_ord ((appendSlot_keep x u).ord rfl)
  · exact ht

theorem AcceptedIn.settleMap (h : AcceptedIn q s) : AcceptedIn q (settleMap s) :=
  settleFrom_acceptedIn (fun _ hw => absurd hw List.not_mem_nil) h.recordAll _

theorem AcceptedIn.markProgrammed (h : AcceptedIn q s) : AcceptedIn q (markProgrammed s) :=
  AcceptedIn.settleMap (NumbersIn.map h fun w => by split <;> rfl)

theorem AcceptedIn.slotDurable (h : AcceptedIn q s) (x : Slot) : AcceptedIn q (slotDurable s x) := by
  unfold Machine.slotDurable
  split
  · exact h
  · exact h
  · exact h.updateWrite _ fun _ => rfl
  · exact h.updateWrite _ fun _ => rfl
  · exact h
  · exact h

theorem AcceptedIn.ledgerFlush (h : AcceptedIn q s) : AcceptedIn q (ledgerFlush s) := by
  unfold Machine.ledgerFlush
  split
  · exact h
  · have hdurable : AcceptedIn q (s.map.pendingSlots.foldl Machine.slotDurable { s with map := { s.map with
        pendingSlots := [], slots := s.map.pendingSlots.reverse ++ s.map.slots
        pages := s.map.pages + (s.map.pendingSlots.length + 254) / 255
        copies := s.map.copies.map fun c => { c with extra := [] } } }) :=
      List.foldlRecOn _ _ h fun u hu x _ => hu.slotDurable x
    refine AcceptedIn.settleMap ?_
    split
    · exact hdurable
    · exact hdurable

theorem AcceptedIn.placePart (h : AcceptedIn q s) (w : Write) (p : Nat × Nat) : AcceptedIn q (placePart w p s) := by
  have hplaced {mk : State → Nat → List FlashUnit} {t : State} {o : Option (Nat × Nat)} (heq : placeUnits mk s = (t, o)) :
      AcceptedIn q t :=
    h.of_ord ((congrArg (·.1.ord) heq).symm.trans ((placeUnits_keep mk s).ord rfl))
  unfold Machine.placePart
  dsimp only
  split
  next heq => exact hplaced heq
  next heq => exact (hplaced heq).updateWrite _ fun _ => rfl

theorem AcceptedIn.programWrites (h : AcceptedIn q s) (ws : List Nat) : AcceptedIn q (programWrites ws s) := by
  unfold Machine.programWrites
  dsimp only
  refine List.foldlRecOn _ _ (AcceptedIn.markProgrammed ?_) fun t ht b _ => ht.of_ord ((finishClose_keep _ _).ord rfl)
  refine List.foldlRecOn _ _ (AcceptedIn.of_ord ?_ ((padWhere_keep _ _).ord rfl)) fun t ht b _ =>
    List.foldlRecOn _ _ ht fun u hu r _ => hu.of_ord ((rowDone_keep _ _ _).ord rfl)
  refine List.foldlRecOn _ _ h fun t ht k _ => ?_
  split
  · exact ht
  · split
    · refine List.foldlRecOn _ _ ht fun u hu p _ => ?_
      split
      · exact hu
      · exact hu.placePart _ p
    · exact ht

theorem AcceptedIn.satisfyReady (h : AcceptedIn q s) : AcceptedIn q (satisfyReady s) := h

theorem AcceptedIn.flushRounds (h : AcceptedIn q s) (n : Nat) (ws : List Nat) : AcceptedIn q (flushRounds n ws s) := by
  induction n generalizing s with
  | zero => exact h
  | succ n ih => exact ih ((h.satisfyReady.programWrites ws).ledgerFlush)

theorem AcceptedIn.flushWrites (h : AcceptedIn q s) (ws : List Nat) : AcceptedIn q (flushWrites ws s) :=
  (h.flushRounds _ ws).satisfyReady

theorem AcceptedIn.lossFlush (h : AcceptedIn q s) (gone : Bool) (extra : Nat) : AcceptedIn q (lossFlush gone extra s) := by
  unfold Machine.lossFlush
  dsimp only
  split
  · exact (h.flushWrites _).ledgerFlush
  · exact (((h.flushWrites _).ledgerFlush).flushWrites _).ledgerFlush

end Accepted

end Sys2Proof.Proofs
end

section
/-! Proofs about how a power loss starts and ends (O18). -/

namespace Sys2Proof.Proofs

open Sys2Proof Sys2Proof.Machine Sys2Proof.Safety Sys2Proof.Laws

/-! ## Last words (R387) -/

/-- The two recorders hold the same causes, unit and time of the last words. -/
def SameCause (r q : Recorder) : Prop :=
  q.lwdCause = r.lwdCause ∧ q.lwdUnit = r.lwdUnit ∧ q.lwdCause2 = r.lwdCause2 ∧ q.lwdTime = r.lwdTime

theorem intake_sameCause (r : Recorder) (e : Event) : SameCause r (intake r e) := by
  unfold intake pushFifo setBucket
  dsimp only
  split
  · exact ⟨rfl, rfl, rfl, rfl⟩
  · split <;> exact ⟨rfl, rfl, rfl, rfl⟩

theorem SameCause.trans {r q p : Recorder} (h : SameCause r q) (k : SameCause q p) : SameCause r p := by
  obtain ⟨h1, h2, h3, h4⟩ := h
  obtain ⟨k1, k2, k3, k4⟩ := k
  exact ⟨k1.trans h1, k2.trans h2, k3.trans h3, k4.trans h4⟩

theorem logHaltRestarts_sameCause (s : State) : SameCause s.evr (logHaltRestarts s).evr := by
  refine List.foldlRecOn (motive := fun t : State => SameCause s.evr t.evr) _ _ ⟨rfl, rfl, rfl, rfl⟩ fun t ht d _ => ?_
  split
  · split
    · exact ht.trans (intake_sameCause _ _)
    · exact ht
  · exact ht

/-! ## Requests without an answer (R136) -/

theorem respond_sansPba (m : Nat) (status : BitVec 16) (r : List Byte) (s : State) :
    sansPba (respond m status r s).nv = sansPba s.nv :=
  notify_sansPba _

theorem answerBusy_sansPba (status : BitVec 16) (s : State) : sansPba (answerBusy status s).nv = sansPba s.nv := by
  refine List.foldlRecOn (motive := fun t : State => sansPba t.nv = sansPba s.nv) _ _ rfl fun t ht m _ => ?_
  split
  · exact (respond_sansPba m status [] t).trans ht
  · exact ht

theorem completeAll_sansPba (status : BitVec 16) (s : State) : sansPba (completeAll status s).nv = sansPba s.nv :=
  List.foldlRecOn (motive := fun t : State => sansPba t.nv = sansPba s.nv) _ _ rfl fun t ht h _ =>
    (completeHandle_sansPba h.value status 0 t).trans ht

theorem notify_box (s : State) : (notify s).mbx.box = s.mbx.box := congrArg (·.mbx.box) (notify_frame s)

theorem postEntry_box (b : RingBody) (s : State) : (postEntry b s).mbx.box = s.mbx.box := by
  unfold postEntry
  split
  next h =>
    have hfree : slotFree s.crg = true := (Bool.and_eq_true _ _ ▸ h).2
    rw [notify_box, (putEntry_keep b s hfree).mbx rfl]
  next => rfl

theorem completeHandle_box (v : BitVec 32) (status : BitVec 16) (r : BitVec 128) (s : State) :
    (completeHandle v status r s).mbx.box = s.mbx.box := by
  unfold completeHandle
  split
  · rfl
  · split
    · rfl
    · exact postEntry_box _ _

theorem completeAll_box (status : BitVec 16) (s : State) : (completeAll status s).mbx.box = s.mbx.box :=
  List.foldlRecOn (motive := fun t : State => t.mbx.box = s.mbx.box) _ _ rfl fun t ht h _ =>
    (completeHandle_box h.value status 0 t).trans ht

/-- A mailbox that has its answer. -/
def answeredBox (status : BitVec 16) (b : Mbx) : Mbx :=
  { b with state := .done, code := status, unreadDone := b.irq, latched := false }

theorem respond_box (m : Nat) (status : BitVec 16) (r : List Byte) (s : State) :
    (respond m status r s).mbx.box = s.mbx.box.modify m (answeredBox status) := notify_box _

/-- Once a busy mailbox is answered it is not busy, and no other becomes so. -/
theorem answerBusy_answers (status : BitVec 16) (ms : List Nat) {s : State} (m : Nat)
    (h : (boxOf s m).state ≠ .busy ∨ m ∈ ms ∧ m < s.mbx.box.length) :
    (boxOf (ms.foldl (fun s m => if (boxOf s m).state = .busy then respond m status [] s else s) s) m).state ≠ .busy := by
  induction ms generalizing s with
  | nil => simpa using h
  | cons k ms ih =>
    have hbox : ∀ j, boxOf (respond k status [] s) j =
        if j = k ∧ k < s.mbx.box.length then answeredBox status (boxOf s j) else boxOf s j := fun j => by
      rw [boxOf, respond_box]
      exact getD_modify s.mbx.box k j _ Mbx.reset
    rw [List.foldl_cons]
    refine ih ?_
    split
    next hbusy =>
      have hlen : (respond k status [] s).mbx.box.length = s.mbx.box.length := by rw [respond_box, List.length_modify]
      rw [hbox, hlen]
      split
      next => exact .inl MbxState.noConfusion
      next hne =>
        obtain hfree | ⟨hmem, hlt⟩ := h
        · exact .inl hfree
        · obtain rfl | hms := List.mem_cons.mp hmem
          · exact absurd ⟨rfl, hlt⟩ hne
          · exact .inr ⟨hms, hlt⟩
    next hbusy =>
      obtain hfree | ⟨hmem, hlt⟩ := h
      · exact .inl hfree
      · obtain rfl | hms := List.mem_cons.mp hmem
        · exact .inl hbusy
        · exact .inr ⟨hms, hlt⟩

theorem answerBusy_answered (status : BitVec 16) {s : State} (hb : s.mbx.box.length = 16) (m : Nat) :
    (boxOf (answerBusy status s) m).state ≠ .busy := by
  refine answerBusy_answers status (List.range 16) m ?_
  by_cases hm : m < 16
  · exact .inr ⟨List.mem_range.mpr hm, by rw [hb]; exact hm⟩
  · refine .inl ?_
    rw [boxOf, List.getD_eq_default _ _ (by omega)]
    exact MbxState.noConfusion

/-! ## Contexts of routines that stop (R220) -/

/-- From `s` to `t` only contexts of channels have changed. -/
structure ContextsOnly (s t : State) : Prop where
  same : t = { s with med := { s.med with channels := t.med.channels } }
  channels : ∀ (k : Nat) (c : Channel), s.med.channels[k]? = some c → ∃ x, t.med.channels[k]? = some { c with contexts := x }

theorem ContextsOnly.refl (s : State) : ContextsOnly s s := ⟨rfl, fun _ c h => ⟨c.contexts, h⟩⟩

theorem ContextsOnly.rest {s t : State} (h : ContextsOnly s t) (die : Nat) : ContextsOnly s (restContext die t) := by
  unfold restContext
  split
  next c _ =>
    refine ⟨congrArg (updateChan (die / 32) _) h.same, fun k x hx => ?_⟩
    obtain ⟨y, hy⟩ := h.channels k x hx
    rw [show (updateChan _ _ t).med.channels = t.med.channels.modify _ _ from rfl, List.getElem?_modify, hy]
    by_cases hk : die / 32 = k
    · exact ⟨_, congrArg some (if_pos hk)⟩
    · exact ⟨y, congrArg some (if_neg hk)⟩
  next => exact h

/-- Every running routine has left its registers in its context. -/
def contextsRested (s : State) : State := s.med.dies.foldl (fun s d => restContext d.index s) s

theorem contextsRested_only (s : State) : ContextsOnly s (contextsRested s) :=
  List.foldlRecOn _ _ (ContextsOnly.refl s) fun _ ht d _ => ht.rest d.index

/-! ## Everything stops (R136, R225, R226, R340) -/

/-- Every request and handle is answered, and what a halt restarts is logged. -/
def answeredAll (status : BitVec 16) (s : State) : State :=
  logHaltRestarts (completeAll status (answerBusy status (sendStatus (haltBundle s))))

theorem answeredAll_frame (status : BitVec 16) (s : State) : answeredAll status s = { s with
    link := (answeredAll status s).link, nv := { s.nv with pba := (answeredAll status s).nv.pba }
    mbx := (answeredAll status s).mbx, hnd := (answeredAll status s).hnd, crg := (answeredAll status s).crg
    pins := (answeredAll status s).pins, evr := (answeredAll status s).evr, out := (answeredAll status s).out } := by
  have hlog := logHaltRestarts_keep (completeAll status (answerBusy status (sendStatus (haltBundle s))))
  have hsent : Keep 134217744 s (sendStatus (haltBundle s)) := Keep.on (sendStatus_keep _) (Keep.on (haltBundle_keep s)
    (Keep.refl _ _) rfl) rfl
  have hnv : sansPba (answeredAll status s).nv = sansPba s.nv := by
    rw [answeredAll, hlog.nv rfl, completeAll_sansPba, answerBusy_sansPba, hsent.nv rfl]
  have hkeep : Keep 151010064 s (answeredAll status s) :=
    Keep.on hlog (Keep.on (completeAll_keep _ _) (Keep.on (answerBusy_keep _ _) (Keep.on hsent (Keep.refl _ _) rfl) rfl)
      rfl) rfl
  rw [← eq_of_sansPba hnv]
  exact hkeep.same

theorem answeredAll_sameCause (status : BitVec 16) (s : State) : SameCause s.evr (answeredAll status s).evr := by
  have hkeep : Keep 134225680 s (completeAll status (answerBusy status (sendStatus (haltBundle s)))) :=
    Keep.on (completeAll_keep _ _) (Keep.on (answerBusy_keep _ _) (Keep.on (sendStatus_keep _) (Keep.on (haltBundle_keep s)
      (Keep.refl _ _) rfl) rfl) rfl) rfl
  have hcause := logHaltRestarts_sameCause (completeAll status (answerBusy status (sendStatus (haltBundle s))))
  rwa [hkeep.evr rfl] at hcause

theorem answeredAll_notBusy (status : BitVec 16) {s : State} (hb : s.mbx.box.length = 16) (m : Nat) :
    (boxOf (answeredAll status s) m).state ≠ .busy := by
  have hsent : (sendStatus (haltBundle s)).mbx = s.mbx :=
    ((sendStatus_keep _).mbx rfl).trans ((haltBundle_keep s).mbx rfl)
  have hbox : (answeredAll status s).mbx.box = (answerBusy status (sendStatus (haltBundle s))).mbx.box := by
    rw [answeredAll, (logHaltRestarts_keep _).mbx rfl, completeAll_box]
  rw [boxOf, hbox]
  exact answerBusy_answered status (by rw [hsent]; exact hb) m

/-- What a halt leaves once everything is answered. -/
def haltedMedia (t : State) : State :=
  let dies := t.med.dies.map (haltDie t.clk.us)
  { t with
    med := { t.med with dies := dies, load := none, toLoad := [], channels := t.med.channels.mapIdx (haltChannel dies) }
    intg := { t.intg with reads := [] }
    nor := { t.nor with opA := t.nor.opA.map (haltNorOp false), opB := t.nor.opB.map (haltNorOp false) }
    st := { t.st with running := [], waiting := [] }
    hup := { t.hup with run := none, testLow := false }
    life := { t.life with stop := none }
    pwr := { t.pwr with entering := false, state := 0 } }

theorem haltAll_eq (status : BitVec 16) (s : State) :
    haltAll false status s = haltedMedia (contextsRested (answeredAll status s)) := by
  unfold haltAll haltedMedia contextsRested answeredAll
  rw [Bool.false_and, if_neg Bool.false_ne_true]

/-- The state with a power loss logged and its last words written, before anything is halted. -/
def lossNoted (cause : Nat) (s : State) : State :=
  lastCause 0x0A01 (blockUnit 0x26) false
    (logEvent 0x0A01 (blockUnit 0x26) (evData [(4, unwrittenMib s), (2, limitMib s), (1, cause), (1, 0)]) s)

/-- The flush of a power loss has begun (R340 step 4). -/
def lossBegun (cause : Nat) (s : State) : State :=
  { s with life := { s.life with phase := .lossFlush, lossByReset := cause == 1 } }

theorem startLoss_eq {s : State} (h : s.life.phase ≠ .haltFlush) (cause : Nat) : startLoss cause s =
    lossBegun cause (haltedMedia (contextsRested (answeredAll stPowerLoss (lossNoted cause s)))) := by
  have hjoin : (s.life.phase == .haltFlush) = false := beq_eq_false_iff_ne.mpr h
  rw [← haltAll_eq]
  unfold startLoss lossBegun lossNoted
  rw [hjoin]

/-- What the power-loss sequence has done to `s` when its flush begins, for the obligation's words. -/
structure LossStarted (cause : Bool) (s t : State) : Prop where
  life : t.life = { s.life with phase := .lossFlush, stop := none, lossByReset := cause }
  lwdCause : t.evr.lwdCause = 0x0A01
  lwdUnit : t.evr.lwdUnit = blockUnit 0x26
  lwdCause2 : t.evr.lwdCause2 = 0
  lwdTime : t.evr.lwdTime = BitVec.ofNat 32 s.clk.us
  notBusy : ∀ m, (boxOf t m).state ≠ .busy
  media :
    let dies := s.med.dies.map (haltDie s.clk.us)
    t.med = { s.med with dies := dies, load := none, toLoad := [], channels := t.med.channels } ∧
      ∀ (k : Nat) (c : Channel), s.med.channels[k]? = some c →
        ∃ x, t.med.channels[k]? = some { haltChannel dies k c with contexts := x }
  reads : t.intg.reads = []
  running : t.st.running = []
  waiting : t.st.waiting = []
  run : t.hup.run = none
  state : t.pwr.state = 0
  same : t = { s with
    life := t.life, link := t.link, nv := { s.nv with pba := t.nv.pba }, mbx := t.mbx, hnd := t.hnd, crg := t.crg
    pins := t.pins, pwr := t.pwr, hup := t.hup, med := t.med, intg := t.intg, nor := t.nor, st := t.st, evr := t.evr
    out := t.out }

theorem startLoss_started {s : State} (hb : s.mbx.box.length = 16) (h : s.life.phase ≠ .haltFlush) (cause : Nat) :
    LossStarted (cause == 1) s (startLoss cause s) := by
  have hframe := answeredAll_frame stPowerLoss (lossNoted cause s)
  have hcause := answeredAll_sameCause stPowerLoss (lossNoted cause s)
  have hbusy := answeredAll_notBusy stPowerLoss (s := lossNoted cause s) hb
  obtain ⟨hsame, hchannels⟩ := contextsRested_only (answeredAll stPowerLoss (lossNoted cause s))
  rw [startLoss_eq h]
  generalize answeredAll stPowerLoss (lossNoted cause s) = v at hframe hcause hbusy hsame hchannels
  obtain ⟨link, pba, mbx, hnd, crg, pins, evr, out, hv⟩ : ∃ link pba mbx hnd crg pins evr out, v = { s with
      link := link, nv := { s.nv with pba := pba }, mbx := mbx, hnd := hnd, crg := crg, pins := pins, evr := evr, out := out } :=
    ⟨_, _, _, _, _, _, _, _, hframe⟩
  clear hframe
  subst hv
  generalize contextsRested _ = r at hsame hchannels
  obtain ⟨channels, hr⟩ : ∃ channels, r = { s with
      link := link, nv := { s.nv with pba := pba }, mbx := mbx, hnd := hnd, crg := crg, pins := pins, evr := evr, out := out
      med := { s.med with channels := channels } } := ⟨_, hsame⟩
  clear hsame
  subst hr
  obtain ⟨h1, h2, h3, h4⟩ := hcause
  refine ⟨rfl, h1, h2, h3, h4, hbusy, ⟨rfl, fun k c hc => ?_⟩, rfl, rfl, rfl, rfl, rfl, rfl⟩
  obtain ⟨x, hx⟩ := hchannels k c hc
  refine ⟨x, ?_⟩
  exact (List.getElem?_mapIdx ..).trans (congrArg (Option.map _) hx)

/-! ## The pulses that start it (R340, R344, R437) -/

section Pulses

variable {s : State} {ns : Nat}

theorem exec_pldNAssert_loss (hn : 200 ≤ ns) (hp : s.life.phase = .service ∨ s.life.phase = .p4 ∨ s.life.phase = .recovery) :
    exec (.pldNAssert ns) s = .next (startLoss 0 { s with life := { s.life with pldN := false } }) := by
  refine congrArg Host.Outcome.next ((if_neg (Nat.not_lt.mpr hn)).trans ?_)
  dsimp only
  rcases hp with hp | hp | hp <;> rw [hp]

theorem exec_resetNAssert_loss (hn : 1000 ≤ ns) (hp : s.life.phase = .service ∨ s.life.phase = .p4 ∨ s.life.phase = .recovery) :
    exec (.resetNAssert ns) s = .next (startLoss 1 s) := by
  refine congrArg Host.Outcome.next ((if_neg (Nat.not_lt.mpr hn)).trans ?_)
  rcases hp with hp | hp | hp <;> rw [hp]

theorem exec_resetNAssert_lossFlush (hn : 1000 ≤ ns) (hp : s.life.phase = .lossFlush) :
    exec (.resetNAssert ns) s = .next { s with life := { s.life with lossByReset := true } } := by
  refine congrArg Host.Outcome.next ((if_neg (Nat.not_lt.mpr hn)).trans ?_)
  rw [hp]

end Pulses

/-! ## The end with the supplies gone (R333, R340, R387) -/

/-- The flush over, the last words written, the device in its end state. -/
def lossEnded (extra : Nat) (s : State) : State :=
  let t := writeLastWords (lossFlush true extra s)
  { t with life := { t.life with phase := .lossDone } }

theorem exec_powerLossFlushEnd_gone {s : State} (h : s.life.phase = .lossFlush) (extra : Nat) :
    exec (.powerLossFlushEnd true extra) s = .next (lossEnded extra s) :=
  congrArg Host.Outcome.next ((if_neg (not_not.mpr h)).trans (if_pos rfl))

/-! ## Supplies gone (R333) -/

theorem knownFirst_number (bySummary : Bool) (pick : Nat) (b : Superblock) :
    (knownFirst bySummary pick b).number = b.number := by
  unfold knownFirst
  split <;> rfl

theorem updateSb_numbers (n : Nat) {f : Superblock → Superblock} (hf : ∀ b, (f b).number = b.number) (s : State) :
    (updateSb n f s).map.sbs.map (·.number) = s.map.sbs.map (·.number) := by
  refine (List.map_map ..).trans (List.map_congr_left fun b _ => ?_)
  dsimp only [Function.comp]
  split
  · exact hf b
  · rfl

/-- A reset keeps the superblocks' numbers and the ledger's durable slots (R344). -/
theorem keepFlash_ledger (s : State) : (keepFlash s).map.sbs.map (·.number) = s.map.sbs.map (·.number) ∧
    (keepFlash s).map.slots = s.map.slots := by
  refine List.foldlRecOn
    (motive := fun t : State => t.map.sbs.map (·.number) = s.map.sbs.map (·.number) ∧ t.map.slots = s.map.slots)
    _ _ ⟨rfl, rfl⟩ fun t ⟨hnumbers, hslots⟩ b _ => ?_
  split
  · refine ⟨Eq.trans ?_ hnumbers, hslots⟩
    exact updateSb_numbers b.number (f := fun b =>
      knownFirst (b.state == .closed && !b.noSummary) t.free (foundRows b (Config.choice t.free)))
      (fun _ => knownFirst_number _ _ _) t
  · exact ⟨hnumbers, hslots⟩

/-- The state as supplies that go leave it: the last-words registers stay. -/
def suppliesGone (s : State) : State :=
  let t := resetBase .fresh s
  { t with
    evr := { t.evr with
      lwdCause := s.evr.lwdCause, lwdCause2 := s.evr.lwdCause2, lwdTime := s.evr.lwdTime
      lwdHubResets := s.evr.lwdHubResets, lwdMode := s.evr.lwdMode, lwdUnit := s.evr.lwdUnit
      lwdSeq := s.evr.lwdSeq, lwdRecords := s.evr.lwdRecords }
    life := { t.life with phase := .off, resetN := false, powerUps := s.life.powerUps } }

theorem exec_powerOff {s : State} (h : s.life.phase ≠ .off) : exec .powerOff s = .next (suppliesGone s) :=
  congrArg Host.Outcome.next (if_neg h)

/-! ## PLD_N rises (R340, R437) -/

/-- The state with PLD_N high. -/
def pldHigh (s : State) : State := { s with life := { s.life with pldN := true } }

theorem exec_pldNDeassert_service {s : State} (h : s.life.phase = .service) : exec .pldNDeassert s = .next (pldHigh s) := by
  show execPldNDeassert s = _
  unfold execPldNDeassert
  dsimp only
  split
  next hp => exact absurd (h.symm.trans hp) Phase.noConfusion
  next hp => exact absurd (h.symm.trans hp) Phase.noConfusion
  next hp => exact absurd (h.symm.trans hp) Phase.noConfusion
  next => rfl

theorem exec_pldNDeassert_held {s : State} {b : Board} (h : s.life.phase = .inReset) (hr : s.life.resetN = true)
    (hb : s.board = some b) (hl : s.life.lossByReset = false) : exec .pldNDeassert s = .next (start .fresh (pldHigh s)) := by
  have hkind : (if s.life.lossByReset then StartKind.resetN else StartKind.fresh) = .fresh := by rw [hl]; rfl
  show execPldNDeassert s = _
  unfold execPldNDeassert
  dsimp only
  split
  next =>
    rw [hkind]
    exact congrArg Host.Outcome.next (if_pos (by rw [hr, hb]; rfl))
  next hp => exact absurd (h.symm.trans hp) Phase.noConfusion
  next hp => exact absurd (h.symm.trans hp) Phase.noConfusion
  next hp _ _ => exact absurd h hp

/-- A start with the test mode chosen ends in manufacturing mode (R348). -/
theorem start_fresh_test {s : State} {b : Board} (hb : s.board = some b) (ht : b.testMode = true) (hp : b.pllFail = []) :
    start .fresh s = { resetBase .fresh s with
      pwr := { (resetBase .fresh s).pwr with pllBad := 0, pllFail := 0 }
      life := { (resetBase .fresh s).life with phase := .manufacturing } } := by
  have hlocked := startPlls_locked (b := { b with newModule := b.newModule && s.map.sbs.isEmpty })
    (s := resetBase .fresh s) hp
  have htest := startUp_test (k := .fresh) (b := { b with newModule := b.newModule && s.map.sbs.isEmpty })
    (s := resetBase .fresh s) hp rfl ht
  rw [start_board hb, htest, hlocked]

/-- Settles O18: what the sequence has done when its flush begins, and how it ends with the supplies gone and with PLD_N
high. -/
theorem powerLosses : Obligations.PowerLosses := by
  unfold Obligations.PowerLosses
  refine ⟨fun s ns hb => ?_, fun s extra => ⟨fun h => ?_, fun h => ?_, fun h => ?_, fun h hr b hboard hreset htest hpll => ?_⟩⟩
  · intro starts
    have hstarts {i : Instr} {p : Bool} {cause : Nat}
        (hi : exec i s = .next (startLoss cause { s with life := { s.life with pldN := p } }))
        (hp : s.life.phase ≠ .haltFlush) : starts i p (cause == 1) := by
      obtain ⟨h1, h2, h3, h4, h5, h6, h7, h8, h9, h10, h11, h12, h13⟩ :=
        startLoss_started (s := { s with life := { s.life with pldN := p } }) hb hp cause
      exact ⟨_, hi, h1, h2, h3, h4, h5, h6, h7, h8, h9, h10, h11, h12, h13⟩
    have hserves (hp : s.life.phase = .service ∨ s.life.phase = .p4 ∨ s.life.phase = .recovery) :
        s.life.phase ≠ .haltFlush := by
      rcases hp with hp | hp | hp <;> rw [hp] <;> exact Phase.noConfusion
    exact ⟨fun hn hp => hstarts (cause := 0) (exec_pldNAssert_loss hn hp) (hserves hp),
      fun hn hp => hstarts (cause := 1) (exec_resetNAssert_loss hn hp) (hserves hp),
      fun hn => congrArg Host.Outcome.next (if_pos hn), fun hn => congrArg Host.Outcome.next (if_pos hn),
      exec_resetNAssert_lossFlush⟩
  · have hkeep := lossFlush_keep true extra s
    refine ⟨_, exec_powerLossFlushEnd_gone h extra, ?_, ?_, ?_, ?_⟩
    · exact congrArg (fun l : Life => { l with phase := .lossDone }) (hkeep.life rfl)
    · intro w hw
      have hin : AcceptedIn (s.ord.accepted.map (·.seq)) (lossFlush true extra s) :=
        AcceptedIn.lossFlush (fun w hw => List.mem_map_of_mem hw) true extra
      exact List.mem_map.mp (hin w hw)
    · exact congrArg (fun r : Recorder => { r with
        lwdMode := (lossEnded extra s).evr.lwdMode, lwdSeq := (lossEnded extra s).evr.lwdSeq }) (hkeep.evr rfl)
    · obtain ⟨ord, map, hflush⟩ : ∃ ord map, lossFlush true extra s = { s with ord := ord, map := map } := ⟨_, _, hkeep.same⟩
      unfold lossEnded
      rw [hflush]
      rfl
  · have hkeep := keepFlash_keep s
    obtain ⟨hnumbers, hslots⟩ := keepFlash_ledger s
    have hnor : (suppliesGone s).nor = keptNor s.nor := congrArg keptNor (hkeep.nor rfl)
    have hevr := hkeep.evr rfl
    refine ⟨_, exec_powerOff h, rfl, rfl, rfl, rfl, rfl, rfl, rfl, rfl, rfl, rfl, rfl, rfl, rfl, rfl, hslots, hnumbers,
      congrArg (·.namespaces) (hkeep.nv rfl), ?_, ?_, ?_, ?_, ?_, ?_, congrArg (·.log) hevr, congrArg (·.history) hevr, rfl, rfl,
      hkeep.pending rfl, hkeep.out rfl⟩ <;> rw [hnor] <;> rfl
  · exact exec_pldNDeassert_service h
  · refine ⟨_, exec_pldNDeassert_held h hr hboard hreset, ?_⟩
    rw [start_fresh_test (s := pldHigh s) hboard htest hpll]
    exact ⟨rfl, congrArg (·.pldN) ((keepFlash_keep (pldHigh s)).life rfl), rfl, rfl, rfl⟩

end Sys2Proof.Proofs
end

section
/-! Proofs about hold-up tests, their verdicts and the protected limit (O22). -/

namespace Sys2Proof.Proofs

open Sys2Proof Sys2Proof.Machine Sys2Proof.Safety Sys2Proof.Laws

/-! ## Requests (R137, R139, R339) -/

section Requests

variable {s : State} {m : Fin 16}

/-- HOLDUP_TEST starts a run of its own. -/
theorem joinHoldup_none {s : State} (h : s.hup.run = none) (v : BitVec 32) :
    joinHoldup v s = { s with hup := { s.hup with run := some ⟨false, some v, 0, 0, false⟩ } } := by
  rw [joinHoldup, h]

/-- HOLDUP_TEST joins the run there is. -/
theorem joinHoldup_unloaded {s : State} {r : HoldupRun} (h : s.hup.run = some r) (hl : r.loaded = false) (v : BitVec 32) :
    joinHoldup v s = { s with hup := { s.hup with run := some { r with handle := some v } } } := by
  rw [joinHoldup, h]
  dsimp only
  rw [hl]
  rfl

theorem exec_holdupTest (h : Asked m 0x0021 s) (hslots : freeSlots s ≠ []) (hop : opLive s 0x0021 = false) :
    ∃ v w, exec (.holdupTest m) s = .next (respond m stAccepted (leBytes 4 v.toNat) (joinHoldup v w)) ∧
      Issued v ⟨v, 0x0021, m, (boxOf s m).ringPath, s.clk.us, false, 0, 0⟩ s.hnd w.hnd ∧
      w = { s with hnd := w.hnd, free := s.free + 1 } := by
  obtain ⟨v, w, haccept, hissued, hw⟩ := accept_some m 0x0021 0 0 false joinHoldup s hslots
  refine ⟨v, w, congrArg Host.Outcome.next ((serve_asked h _).trans ?_), hissued, hw⟩
  rw [hop]
  exact haccept

theorem exec_holdupStatus (h : Asked m 0x0022 s) : exec (.holdupStatus m) s = .next (respond m stOk
    (packBytes [(1, flag !s.hup.protectedMode), (1, s.hup.verdict), (2, 0), (4, limitMib s), (4, s.hup.energy),
      (8, s.hup.lastUtc), (4, nextTest s)]) { s with free := s.free + 1 }) :=
  congrArg Host.Outcome.next (serve_asked h _)

end Requests

/-! ## Scheduled tests (R331, R339) -/

/-- What a kind of scheduled test asks for before it falls due (R339). -/
def fallsDue (kind : HoldupDue) (s : State) : Bool :=
  match kind with
  | .startUp => !s.hup.startDone
  | .periodic => s.hup.startDone
  | .postDegraded => s.hup.verdict == 2

theorem exec_holdupTestDue {s : State} {kind : HoldupDue} (h : fallsDue kind s = true) :
    exec (.holdupTestDue kind) s = .next (
      if s.pwr.state = 3 then { s with hup := { s.hup with due := some kind } }
      else if mayTest kind s then startTestRun s else s) := by
  refine congrArg Host.Outcome.next (if_neg ?_)
  show ¬ fallsDue kind s = false
  rw [h]
  decide

/-- A periodic test waits while a stream is OPEN, 48 h at most (R339). -/
theorem mayTest_of {s : State} {kind : HoldupDue} (hs : serving s = true) (hr : s.hup.run = none)
    (hk : kind = .periodic → (∀ x ∈ s.str.list, x.state ≠ .open_) ∨ s.hup.lastUs + 172800000000 ≤ s.clk.us) :
    mayTest kind s = true := by
  have hwaits : (kind == .periodic && s.str.list.any (fun x => x.state == .open_) &&
      decide (s.clk.us < s.hup.lastUs + 172800000000)) = false := by
    by_cases hp : kind = .periodic
    · rcases hk hp with hnone | hlate
      · have hany : s.str.list.any (fun x => x.state == .open_) = false := by simpa using hnone
        rw [hany, Bool.and_false, Bool.false_and]
      · rw [decide_eq_false (Nat.not_lt.mpr hlate), Bool.and_false]
    · rw [beq_eq_false_iff_ne.mpr hp, Bool.false_and, Bool.false_and]
  rw [mayTest, hwaits, hs, hr]
  rfl

/-! ## The load (R335 steps 1 to 4) -/

theorem exec_holdupLoadApply {s : State} {r : HoldupRun} (h : s.hup.run = some r) (hl : r.loaded = false) (uv : Nat) :
    let t : State := { s with hup := { s.hup with run := some { r with restUv := uv, loaded := true }, testLow := true } }
    exec (.holdupLoadApply uv) s = .next (r.handle.elim t fun v => passCancel v t) := by
  show execHoldupLoadApply uv s = _
  unfold execHoldupLoadApply
  rw [h]
  dsimp only
  rw [hl]
  cases r.handle <;> rfl

/-- A handle whose cancel point is passed shows it. -/
theorem passCancel_past (v : BitVec 32) (s : State) : ∀ h ∈ (passCancel v s).hnd.live, h.value = v → h.past = true := by
  intro h hh hv
  obtain ⟨x, -, rfl⟩ := List.mem_map.mp hh
  dsimp only at hv ⊢
  split at hv
  next hx => rw [if_pos hx]
  next hx => exact absurd (beq_iff_eq.mpr hv) hx

/-! ## The configuration store (R309, R313) -/

/-- What is stored is what the store then holds, one generation on. -/
theorem config_storeConfig (f : ConfigStore → ConfigStore) (s : State) :
    config (storeConfig f s) = { f (config s) with valid := true, generation := (config s).generation + 1 } := by
  unfold storeConfig config newerIs1
  dsimp only
  cases h0 : s.nor.config0.valid with
  | false => cases h1 : s.nor.config1.valid <;> simp [h1]
  | true =>
    cases h1 : s.nor.config1.valid with
    | false => simp [h0]
    | true => by_cases hnewer : s.nor.config0.generation < s.nor.config1.generation <;> simp [h0, h1, hnewer]

theorem config_congr {s t : State} (h : t.nor = s.nor) : config t = config s := by
  rw [config, config, h]

/-! ## The limit and the mode (R146, R160, R338) -/

/-- From `s` to `t` a verdict and a limit have been set, and with them the mode; what was durable by a limit that falls
stays durable (R146, R337, R338). -/
structure LimitSet (verdict limit : Nat) (s t : State) : Prop where
  hup : t.hup = { s.hup with
    verdict := verdict, limit := limit, protectedMode := verdict == 1 && decide (0 < limit), flushAhead := t.hup.flushAhead }
  ord : if limitBytes t < limitBytes s then t.ord = (latchDurable s).ord else t.ord = s.ord
  clk : t.clk = s.clk
  str : t.str = s.str
  med : t.med = s.med
  nor : t.nor = s.nor

theorem limitBytes_congr {s t : State} (h : t.hup = s.hup) : limitBytes t = limitBytes s := by
  rw [limitBytes, limitBytes, h]

theorem placeLimit_set (verdict limit : Nat) (s : State) :
    LimitSet verdict limit s (placeLimit verdict limit (verdict == 1 && decide (0 < limit)) s) := by
  unfold placeLimit
  dsimp only
  split
  next h => exact ⟨rfl, (if_pos h).mpr rfl, rfl, rfl, rfl, rfl⟩
  next h => exact ⟨rfl, (if_neg h).mpr rfl, rfl, rfl, rfl, rfl⟩

/-- What a limit brings with it (R85, R110, R160) leaves the hold-up state and the ordering alone. -/
theorem setLimit_placed_keep (origin verdict limit energy : Nat) (s : State) : Keep 151134464
    (placeLimit verdict limit (verdict == 1 && decide (0 < limit)) s) (setLimit origin verdict limit energy s) :=
  Keep.on (padWanted_keep _) (Keep.on (logLimitCrossing_keep _ _) (Keep.ite
    (Keep.on (criticalBit_keep _ _ _) (Keep.on (logEvent_keep _ _ _ _) (Keep.refl _ _) rfl) rfl)
    (Keep.ite (Keep.on (clearCritical_keep _ _) (Keep.refl _ _) rfl) (Keep.refl _ _))) rfl) rfl

theorem setLimit_set (origin verdict limit energy : Nat) (s : State) :
    LimitSet verdict limit s (setLimit origin verdict limit energy s) := by
  have hkeep := setLimit_placed_keep origin verdict limit energy s
  obtain ⟨hhup, hord, hclk, hstr, hmed, hnor⟩ := placeLimit_set verdict limit s
  rw [← hkeep.hup rfl] at hhup
  rw [← hkeep.ord rfl, ← limitBytes_congr (hkeep.hup rfl)] at hord
  exact ⟨hhup, hord, (hkeep.clk rfl).trans hclk, (hkeep.str rfl).trans hstr, (hkeep.med rfl).trans hmed,
    (hkeep.nor rfl).trans hnor⟩

theorem protectedMode_iff (verdict limit : Nat) : (verdict == 1 && decide (0 < limit)) = true ↔ verdict = 1 ∧ 0 < limit := by
  rw [Bool.and_eq_true, beq_iff_eq, decide_eq_true_iff]

/-! ## The end of a test (R335 to R337, R339) -/

/-- The protected limit that a test's voltages give (R336). -/
def testedLimit (r : HoldupRun) (uv : Nat) (s : State) : Nat :=
  storeLimit (capacitance r.restUv uv) (flushPower s.reg.populated) (resistance uv r.loadedUv) r.restUv (healthyDies s)
    (bufferMib s)

/-- The energy that a test's voltages give (R336). -/
def testedEnergy (r : HoldupRun) (uv : Nat) (s : State) : Nat :=
  storeEnergy (capacitance r.restUv uv) (flushPower s.reg.populated) (resistance uv r.loadedUv) r.restUv

/-- The hold-up state with a test's values in force, its verdict and limit not yet set. -/
def measuredHup (r : HoldupRun) (uv : Nat) (s : State) : Holdup :=
  { s.hup with
    run := none, cap := capacitance r.restUv uv, esr := resistance uv r.loadedUv, energy := testedEnergy r uv s
    testLimit := testedLimit r uv s, restUv := r.restUv, lastUtc := s.clk.utc.getD 0, lastUs := s.clk.us, startDone := true }

/-- The state with a test's values in force and its time stored. -/
def measured (r : HoldupRun) (uv : Nat) (s : State) : State :=
  storeConfig (fun c => { c with holdupUtc := s.clk.utc.getD 0 }) { s with hup := measuredHup r uv s }

theorem measured_eq (r : HoldupRun) (uv : Nat) (s : State) :
    measured r uv s = { s with hup := measuredHup r uv s, nor := (measured r uv s).nor } :=
  (storeConfig_keep _ { s with hup := measuredHup r uv s }).same

theorem exec_holdupTestDone {s : State} {r : HoldupRun} (hs : serving s = true) (hr : s.hup.run = some r)
    (hl : r.loaded = true) (hlow : s.hup.testLow = false) (hh : r.handle = none) (uv : Nat) :
    exec (.holdupTestDone uv) s = .next (setLimit 0 (holdupVerdict r.restUv uv (testedLimit r uv s)) (testedLimit r uv s)
      (testedEnergy r uv s) (measured r uv s)) := by
  have hend : endHoldup r uv s = setLimit 0 (holdupVerdict r.restUv uv (testedLimit r uv s)) (testedLimit r uv s)
      (testedEnergy r uv s) (measured r uv s) := by
    unfold endHoldup
    rw [hh]
    rfl
  show execHoldupTestDone uv s = _
  unfold execHoldupTestDone
  rw [hr]
  dsimp only
  rw [hs, hl, hlow, hend]
  rfl

/-! ## The recomputation (R338) -/

/-- The state with the store's voltage sampled. -/
def sampled (uv : Nat) (s : State) : State := { s with hup := { s.hup with sense := min (uv / 4880) 4095 } }

/-- The limit that a sampled voltage gives with the C and ESR of the last test (R338). -/
def sampledLimit (uv : Nat) (s : State) : Nat :=
  storeLimit s.hup.cap (flushPower s.reg.populated) s.hup.esr (min uv s.hup.restUv) (healthyDies s) (bufferMib s)

/-- The energy that a sampled voltage gives. -/
def sampledEnergy (uv : Nat) (s : State) : Nat :=
  storeEnergy s.hup.cap (flushPower s.reg.populated) s.hup.esr (min uv s.hup.restUv)

theorem exec_holdupRecompute {s : State} (hp : s.life.phase = .service) (hf : s.life.fwStart = true) (hk : s.pwr.state ≤ 2)
    (uv : Nat) : exec (.holdupRecompute uv) s = .next (
      if s.hup.verdict ≠ 1 then sampled uv s
      else
        let r := recomputed s (sampledLimit uv s)
        setLimit 1 r.1 r.2 (sampledEnergy uv s) (sampled uv s)) :=
  congrArg Host.Outcome.next (if_neg (by simp [hp, hf, hk]))

/-- A recomputation degrades the verdict with a limit of 0 or leaves it, and no limit passes the last test's unless the
present one does. -/
theorem recomputed_bounds (s : State) (limit : Nat) :
    ((recomputed s limit).1 = s.hup.verdict ∨ recomputed s limit = (2, 0)) ∧
      (recomputed s limit).2 ≤ max s.hup.limit s.hup.testLimit := by
  have hbound : (if limit ≤ s.hup.limit then limit else min limit (max s.hup.limit s.hup.testLimit)) ≤
      max s.hup.limit s.hup.testLimit := by
    split
    next h => exact h.trans (le_max_left _ _)
    next => exact min_le_right _ _
  unfold recomputed
  dsimp only
  generalize (if limit ≤ s.hup.limit then limit else min limit (max s.hup.limit s.hup.testLimit)) = l at hbound
  split
  next => exact ⟨.inr rfl, Nat.zero_le _⟩
  next => exact ⟨.inl rfl, hbound⟩

/-- Settles O22: the requests, the scheduled tests, the load, and what a test and a recomputation set. -/
theorem holdupTests : Obligations.HoldupTests := by
  unfold Obligations.HoldupTests
  refine ⟨fun s m uv kind => ⟨fun h hslots hop => ?_, fun h => ?_, fun hs hr hk h1 h2 h3 => ?_, fun hk hd => ?_,
    fun r hr hl => ?_, fun r hr hlow => ?_⟩, fun s uv => ⟨fun r hs hr hl hlow hh => ?_, fun hp hf hk => ?_, fun w hw => ?_⟩⟩
  · obtain ⟨v, w, hexec, hissued, hw⟩ := exec_holdupTest h hslots hop
    have haccepted {u : Holdup} (hjoin : joinHoldup v w = { w with hup := u }) :
        Accepted m 0x0021 false 0 0 v s (joinHoldup v w) (respond m stAccepted (leBytes 4 v.toNat) (joinHoldup v w)) ∧
          joinHoldup v w =
            { s with hup := u, hnd := (joinHoldup v w).hnd, free := (joinHoldup v w).free } := by
      rw [hjoin]
      refine ⟨⟨hissued, respond_replied m m.isLt _ _ _ ?_ (.inr rfl)⟩, ?_⟩
      · rw [hw]
        exact h.boxes
      · rw [hw]
    have hhup : w.hup = s.hup := by rw [hw]
    refine ⟨_, v, joinHoldup v w, hexec, fun hr => ?_, fun r hr hl => ?_⟩
    · have hjoin := joinHoldup_none (s := w) (by rw [hhup, hr]) v
      rw [hhup] at hjoin
      exact haccepted hjoin
    · have hjoin := joinHoldup_unloaded (s := w) (by rw [hhup, hr]) hl v
      rw [hhup] at hjoin
      exact haccepted hjoin
  · refine ⟨_, nextTest s, exec_holdupStatus h, ?_, fun hd => if_pos hd⟩
    have hreply := respond_replied m m.isLt stOk (packBytes [(1, flag !s.hup.protectedMode), (1, s.hup.verdict), (2, 0),
      (4, limitMib s), (4, s.hup.energy), (8, s.hup.lastUtc), (4, nextTest s)]) { s with free := s.free + 1 } h.boxes (.inl rfl)
    have hmode : flag (!s.hup.protectedMode) = if s.hup.protectedMode then 0 else 1 := by
      cases s.hup.protectedMode <;> rfl
    simpa only [packBytes, hmode, List.append_nil, ← List.append_assoc] using hreply
  · have hdue : fallsDue kind s = true := by
      cases kind with
      | startUp => simp [fallsDue, h1 rfl]
      | periodic => exact (h3 rfl).1
      | postDegraded => simp [fallsDue, h2 rfl]
    have hmay : mayTest kind s = true := mayTest_of hs hr fun hp => (h3 hp).2
    rw [exec_holdupTestDue hdue, if_neg (by omega), if_pos hmay]
    rfl
  · have hdue : fallsDue kind s = true := by
      rcases hd with ⟨rfl, hd⟩ | ⟨rfl, hd⟩ <;> simp [fallsDue, hd]
    rw [exec_holdupTestDue hdue, if_pos hk]
  · rw [exec_holdupLoadApply hr hl uv]
    cases hv : r.handle with
    | none => exact ⟨_, rfl, rfl, fun _ hv => absurd hv.symm (Option.some_ne_none _), rfl⟩
    | some v =>
      refine ⟨_, rfl, rfl, ?_, rfl⟩
      rintro _ ⟨⟩
      exact passCancel_past v _
  · show Host.Outcome.next (if s.hup.testLow then _ else s) = _
    rw [if_pos hlow, hr]
    rfl
  · have hset := setLimit_set 0 (holdupVerdict r.restUv uv (testedLimit r uv s)) (testedLimit r uv s) (testedEnergy r uv s)
      (measured r uv s)
    refine ⟨_, exec_holdupTestDone hs hr hl hlow hh uv, ?_⟩
    generalize setLimit _ _ _ _ _ = t at hset ⊢
    intro cap esr power measure limit
    have hutc : (config (measured r uv s)).holdupUtc = s.clk.utc.getD 0 :=
      congrArg (·.holdupUtc) (config_storeConfig _ { s with hup := measuredHup r uv s })
    have hlimit : testedLimit r uv s = limit := rfl
    have henergy : testedEnergy r uv s = measure / 80000000000000 := rfl
    have hverdict : holdupVerdict r.restUv uv limit =
      if r.restUv < 8000000 ∨ uv < 8000000 then 3 else if limit < 64 then 2 else 1 := rfl
    obtain ⟨hhup, hord, hclk, hstr, hmed, hnor⟩ := hset
    rw [← config_congr hnor] at hutc
    rw [measured_eq] at hhup hord hclk hstr hmed
    dsimp only [measuredHup] at hhup
    rw [hlimit, henergy, hverdict] at hhup
    generalize measure / 80000000000000 = energy, limit = l at hhup ⊢
    refine ⟨congrArg (·.run) hhup, congrArg (·.cap) hhup, congrArg (·.esr) hhup,
      congrArg (·.energy) hhup, congrArg (·.limit) hhup, congrArg (·.testLimit) hhup, congrArg (·.restUv) hhup,
      congrArg (·.verdict) hhup, ?_, congrArg (·.startDone) hhup, congrArg (·.lastUs) hhup, congrArg (·.lastUtc) hhup, hutc,
      hclk, hstr, hmed, ?_⟩
    · rw [hhup]
      exact protectedMode_iff _ _
    · split at hord
      · exact .inr hord
      · exact .inl hord
  · rw [exec_holdupRecompute hp hf hk]
    by_cases hv : s.hup.verdict = 1
    · rw [if_neg (not_not.mpr hv)]
      obtain ⟨hverdict, hlimit⟩ := recomputed_bounds s (sampledLimit uv s)
      generalize recomputed s (sampledLimit uv s) = r at hverdict hlimit
      have hset := setLimit_set 1 r.1 r.2 (sampledEnergy uv s) (sampled uv s)
      dsimp only
      generalize setLimit _ _ _ _ _ = t at hset ⊢
      obtain ⟨hhup, hord, hclk, hstr, hmed, -⟩ := hset
      have hverdictSet : t.hup.verdict = r.1 := congrArg (·.verdict) hhup
      have hlimitSet : t.hup.limit = r.2 := congrArg (·.limit) hhup
      refine ⟨_, rfl, congrArg (·.sense) hhup, fun h => absurd hv h, ?_, fun _ => ⟨?_, ?_⟩, hclk, hstr, hmed, hord⟩
      · rw [hverdictSet, hlimitSet]
        exact hverdict.imp_right fun h => by rw [h]; exact ⟨rfl, rfl⟩
      · rw [hlimitSet]
        exact hlimit
      · rw [hhup]
        exact protectedMode_iff _ _
    · rw [if_pos hv]
      exact ⟨_, rfl, rfl, fun _ => rfl, .inl rfl, fun h => absurd h hv, rfl, rfl, rfl, (if_neg (lt_irrefl (limitBytes s))).mpr rfl⟩
  · exact ⟨_, List.mem_map_of_mem hw, rfl⟩

end Sys2Proof.Proofs
end

section
/-! Proofs about the index units of a stream, and about streams that close, release and place entries on their own
(O30). -/

namespace Sys2Proof.Proofs

open Sys2Proof Sys2Proof.Machine Sys2Proof.Safety Sys2Proof.Laws

/-! ## Writes of index units (R76) -/

theorem mem_unwrittenSlots {x : Stream} {u i : Nat} : i ∈ unwrittenSlots x u ↔
    i / slotsPerLba = u ∧ ∃ e, x.entries[i]? = some e ∧ e.placed = true ∧ e.written = 0 := by
  unfold unwrittenSlots
  rw [List.mem_filterMap]
  constructor
  · rintro ⟨k, hk, h⟩
    split at h
    next e he =>
      split at h
      next hdue =>
        obtain rfl := Option.some.inj h
        rw [Bool.and_eq_true, beq_iff_eq] at hdue
        rw [List.mem_range] at hk
        unfold slotsPerLba at hk ⊢
        exact ⟨by omega, e, he, hdue⟩
      next => exact absurd h.symm (Option.some_ne_none _)
    next => exact absurd h.symm (Option.some_ne_none _)
  · rintro ⟨rfl, e, he, hp, hw⟩
    refine ⟨i % slotsPerLba, List.mem_range.mpr (Nat.mod_lt _ (by decide)), ?_⟩
    rw [Nat.div_add_mod', he]
    dsimp only
    rw [hp, hw]
    rfl

/-- The write that index unit `u` of a stream goes out in. -/
def indexUnitWrite (s : State) (sid u : Nat) (x : Stream) : Write :=
  let lba := indexLba x.indexWindows u
  runWrite .indexUnit (.stream sid) x.ns
    [(lba, guardUnit s x.ns (BitVec.ofNat 32768 (leNat (indexUnitBytes x u))) (0x1000 + sid) (indexRef s x.ns lba) false)]
    (x.indexWrites + 1)

section IndexUnit

variable {sid u : Nat} {x y : Stream} {w : List Waiting} {s t : State}

theorem writeIndexUnit_due (h : findStream s sid = some x) (hu : unwrittenSlots x u ≠ []) : writeIndexUnit sid u s =
    enqueueWrite (indexUnitWrite s sid u x) (updateStream sid (indexWritten (x.indexWrites + 1) u) s) := by
  unfold writeIndexUnit
  rw [h]
  exact if_neg (mt List.isEmpty_iff.mp hu)

theorem writeIndexUnit_written (h : findStream s sid = some x) (hu : unwrittenSlots x u = []) :
    writeIndexUnit sid u s = s := by
  unfold writeIndexUnit
  rw [h]
  exact if_pos (List.isEmpty_iff.mpr hu)

theorem OnStream.enqueue (h : OnStream sid y w s t) (v : Write) :
    OnStream sid y (w ++ [.write v]) s (enqueueWrite v t) where
  found := h.found
  others := h.others
  ord := by
    show { t.ord with waiting := t.ord.waiting ++ [Waiting.write v] } = _
    rw [h.ord, List.append_assoc]
  same := congrArg (enqueueWrite v) h.same

theorem OnStream.writeIndexUnit_due (h : OnStream sid y w s t) (hu : unwrittenSlots y u ≠ []) :
    OnStream sid (indexWritten (y.indexWrites + 1) u y) (w ++ [.write (indexUnitWrite t sid u y)]) s
      (writeIndexUnit sid u t) := by
  rw [Proofs.writeIndexUnit_due h.found hu]
  exact (h.update (indexWritten (y.indexWrites + 1) u) fun _ => rfl).enqueue _

/-- What a change of one stream's record leaves unchanged where the parser stays. -/
theorem OnStream.only (h : OnStream sid y w s t) (hp : t.parse = s.parse) : (∀ k, k ≠ sid → findStream t k = findStream s k) ∧
    t = { s with str := { s.str with list := t.str.list }, ord := { s.ord with waiting := t.ord.waiting } } := by
  have hsame := h.same
  have hord : t.ord = { s.ord with waiting := t.ord.waiting } := by rw [h.ord]
  rw [hp] at hsame
  exact ⟨h.others, hsame.trans (congrArg (fun o => { s with str := { s.str with list := t.str.list }, ord := o }) hord)⟩

/-- Entry `i` once the placed entries of unit `u` have gone out in write `n`. -/
theorem indexWritten_entry (n u : Nat) {x : Stream} {i : Nat} {e : IndexEntry} (h : x.entries[i]? = some e) :
    (indexWritten n u x).entries[i]? = some
      (if decide (i / slotsPerLba = u) && e.placed && e.written == 0 then { e with written := n } else e) := by
  rw [indexWritten, List.getElem?_mapIdx, h]
  rfl

end IndexUnit

/-! ## All index units of a stream (R76) -/

/-- From `y` to `z` a stream's index units have gone out in the writes `ws`. -/
structure IndexSent (sid : Nat) (y z : Stream) (ws : List Write) : Prop where
  stream : z = { y with indexWrites := y.indexWrites + ws.length, entries := z.entries }
  length : z.entries.length = y.entries.length
  writes : ∀ w ∈ ws, w.kind = .indexUnit ∧ w.src = .stream sid ∧ w.ns = y.ns ∧ w.len = 1

/-- Every placed entry of the first `k` index units has gone out. -/
def SentBelow (k : Nat) (x : Stream) : Prop :=
  ∀ (i : Nat) (e : IndexEntry), x.entries[i]? = some e → i / slotsPerLba < k → e.placed = true → 0 < e.written

section AllUnits

variable {sid : Nat} {x y : Stream} {w : List Waiting} {s t : State}

theorem IndexSent.refl (sid : Nat) (y : Stream) : IndexSent sid y y [] := ⟨rfl, rfl, fun _ h => absurd h List.not_mem_nil⟩

theorem IndexSent.trans {z : Stream} {ws vs : List Write} (h : IndexSent sid x y ws) (k : IndexSent sid y z vs) :
    IndexSent sid x z (ws ++ vs) where
  stream := by rw [k.stream, h.stream, List.length_append, ← Nat.add_assoc]
  length := k.length.trans h.length
  writes v hv := by
    have hns : y.ns = x.ns := congrArg (·.ns) h.stream
    rcases List.mem_append.mp hv with hv | hv
    · exact h.writes v hv
    · rw [← hns]
      exact k.writes v hv

theorem indexSent_indexWritten (s : State) (sid u : Nat) (y : Stream) :
    IndexSent sid y (indexWritten (y.indexWrites + 1) u y) [indexUnitWrite s sid u y] where
  stream := rfl
  length := List.length_mapIdx
  writes v hv := by
    rw [List.mem_singleton.mp hv]
    exact ⟨rfl, rfl, rfl, rfl⟩

theorem SentBelow.indexWritten {u n : Nat} (h : SentBelow u y) (hn : 0 < n) : SentBelow (u + 1) (indexWritten n u y) := by
  intro i e he hi hp
  cases hy : y.entries[i]? with
  | none =>
    rw [Proofs.indexWritten, List.getElem?_mapIdx, hy] at he
    exact absurd he (by simp)
  | some d =>
    rw [indexWritten_entry n u hy] at he
    obtain rfl := Option.some.inj he
    split
    next => exact hn
    next hnot =>
      rw [if_neg hnot] at hp
      by_cases hu : i / slotsPerLba = u
      · rw [hu, decide_eq_true rfl, hp] at hnot
        exact Nat.pos_of_ne_zero fun h0 => hnot (by rw [h0]; rfl)
      · exact h i d hy (by omega) hp

/-- A unit with nothing left to write. -/
theorem SentBelow.written {u : Nat} (h : SentBelow u y) (hu : unwrittenSlots y u = []) : SentBelow (u + 1) y := by
  intro i e he hi hp
  by_cases hiu : i / slotsPerLba = u
  · refine Nat.pos_of_ne_zero fun h0 => ?_
    have hmem : i ∈ unwrittenSlots y u := mem_unwrittenSlots.mpr ⟨hiu, e, he, hp, h0⟩
    rw [hu] at hmem
    exact absurd hmem List.not_mem_nil
  · exact h i e he (by omega) hp

theorem OnStream.writeIndexUnit (h : OnStream sid y w s t) {u : Nat} (hb : SentBelow u y) : ∃ z ws,
    OnStream sid z (w ++ ws.map .write) s (writeIndexUnit sid u t) ∧ IndexSent sid y z ws ∧ SentBelow (u + 1) z := by
  by_cases hu : unwrittenSlots y u = []
  · refine ⟨y, [], ?_, .refl sid y, hb.written hu⟩
    rw [writeIndexUnit_written h.found hu, List.map_nil, List.append_nil]
    exact h
  · exact ⟨_, _, h.writeIndexUnit_due hu, indexSent_indexWritten t sid u y, hb.indexWritten (Nat.succ_pos _)⟩

theorem OnStream.writeFirstUnits (h : OnStream sid y w s t) (n : Nat) : ∃ z ws,
    OnStream sid z (w ++ ws.map .write) s ((List.range n).foldl (fun s u => Machine.writeIndexUnit sid u s) t) ∧
      IndexSent sid y z ws ∧ SentBelow n z := by
  induction n with
  | zero => exact ⟨y, [], by simpa using h, .refl sid y, fun _ _ _ hi => absurd hi (Nat.not_lt_zero _)⟩
  | succ n ih =>
    obtain ⟨z, ws, hz, hsent, hbelow⟩ := ih
    obtain ⟨z', vs, hz', hsent', hbelow'⟩ := hz.writeIndexUnit hbelow
    refine ⟨z', ws ++ vs, ?_, hsent.trans hsent', hbelow'⟩
    rw [List.range_succ, List.foldl_append, List.map_append, ← List.append_assoc]
    exact hz'

/-- Every index unit of the stream is written, and then no placed entry is left behind. -/
theorem OnStream.writeIndexUnits (h : OnStream sid y w s t) : ∃ z ws,
    OnStream sid z (w ++ ws.map .write) s (writeIndexUnits sid t) ∧ IndexSent sid y z ws ∧
      ∀ e ∈ z.entries, e.placed = true → 0 < e.written := by
  obtain ⟨z, ws, hz, hsent, hbelow⟩ := h.writeFirstUnits (indexUnitCount y)
  refine ⟨z, ws, ?_, hsent, fun e he => ?_⟩
  · unfold Machine.writeIndexUnits
    rw [h.found]
    exact hz
  · obtain ⟨i, hi, rfl⟩ := List.getElem_of_mem he
    refine hbelow i _ (List.getElem?_eq_getElem hi) ?_
    rw [hsent.length] at hi
    unfold indexUnitCount slotsPerLba
    omega

end AllUnits

/-! ## Closing (R68) -/

theorem closeResult_eq (x : Stream) : closeResult x = BitVec.ofNat 128
    (leNat (leBytes 5 (x.last % 2 ^ 40).toNat ++ leBytes 3 0 ++ leBytes 4 (placedCount x))) := by
  have hlast : lastFrameField x = (x.last % 2 ^ 40).toNat := rfl
  rw [← hlast, closeResult, ringData]
  simp only [packBytes, List.append_nil, List.append_assoc]

section Close

variable {s : State} {sid : Fin 4096} {x : Stream}

/-- The stream CLOSED, its handle not yet completed. -/
def closedStream (sid : Nat) (s : State) : State := updateStream sid (fun y => { y with state := .closed }) s

theorem closedStream_eq (sid : Nat) (s : State) : closedStream sid s = { s with str := { s.str with
    list := s.str.list.map fun y => if y.sid = sid then { y with state := .closed } else y } } := by
  simp only [closedStream, updateStream, changeWhere, beq_iff_eq]

theorem exec_streamDrainDone (hx : findStream s sid = some x) : exec (.streamDrainDone sid) s = .next (
    if x.state = .draining ∧ (s.parse.frame.any fun f => f.header.stream == (sid : Nat)) = false ∧
        streamDrained s x = true then
      memberClosed x (completeSome
        ((s.hnd.live.find? fun h => h.opcode == 0x0051 && h.subject == (sid : Nat)).map (·.value)) stOk (closeResult x)
        (closedStream sid s))
    else s) := by
  show execStreamDrainDone sid s = _
  unfold execStreamDrainDone
  rw [hx]
  dsimp only
  rw [updateStream_hnd]
  cases s.parse.frame <;>
    cases s.hnd.live.find? fun h => h.opcode == 0x0051 && h.subject == (sid : Nat) <;> rfl

theorem memberClosed_none (h : findTake s x.take = none) : memberClosed x s = s := by
  rw [memberClosed, h]

end Close

/-! ## The next entry (R76) -/

/-- A stream with entry `k` placed. -/
def placedAt (k : Nat) (x : Stream) : Stream :=
  { x with entries := x.entries.modify k fun e => { e with placed := true } }

section Place

variable {s : State} {sid : Fin 4096} {x : Stream} {e : IndexEntry}

theorem placedAt_entry {k : Nat} (h : x.entries[k]? = some e) :
    (placedAt k x).entries[k]? = some { e with placed := true } := by
  rw [placedAt, List.getElem?_modify_eq, h]
  rfl

theorem exec_indexEntryPlace (hx : findStream s sid = some x) (he : x.entries[placedCount x]? = some e) :
    exec (.indexEntryPlace sid) s = .next (
      if entryDataDurable s x e then
        let t := updateStream sid (placedAt (placedCount x)) s
        if (placedCount x + 1) % slotsPerLba = 0 ∨ releasesAtEnd e.frameFlags = true then
          writeIndexUnit sid (placedCount x / slotsPerLba) t
        else t
      else s) := by
  show execIndexEntryPlace sid s = _
  unfold execIndexEntryPlace
  rw [hx]
  dsimp only
  rw [he]
  rfl

/-- The low four flags of a frame are those at whose end held units are released (R71, R76). -/
theorem releasesAtEnd_iff (flags : BitVec 8) : releasesAtEnd flags = true ↔ flags &&& 0xF ≠ 0 := by
  revert flags
  decide

/-- The unit of an entry just placed has it to write. -/
theorem unwrittenSlots_placedAt {k : Nat} (h : x.entries[k]? = some e) (hw : e.written = 0) :
    unwrittenSlots (placedAt k x) (k / slotsPerLba) ≠ [] :=
  List.ne_nil_of_mem (mem_unwrittenSlots.mpr ⟨rfl, _, placedAt_entry h, rfl, hw⟩)

end Place

/-- Settles O30: a drained stream is CLOSED under its handle, held units are released, and entries are placed and their
units written. -/
theorem streamEvents : Obligations.StreamEvents := by
  unfold Obligations.StreamEvents
  intro s sid x hx busy placed only
  refine ⟨fun hd hb hh hf ht => ?_, fun hno => ?_, ?_, fun e he => ⟨fun hdur => ?_, fun hdur hw => ?_⟩, ?_⟩
  · have hdone : streamDrained s x = true := by rw [streamDrained, hh, hf]; rfl
    have hexec := (exec_streamDrainDone hx).trans (congrArg Host.Outcome.next (if_pos ⟨hd, hb, hdone⟩))
    have hnone (v : Option (BitVec 32)) (r : BitVec 128) :
        memberClosed x (completeSome v stOk r (closedStream sid s)) = completeSome v stOk r (closedStream sid s) := by
      refine memberClosed_none ?_
      rw [findTake, (completeSome_keep v stOk r (closedStream sid s)).str rfl]
      exact ht
    rw [hnone, closedStream_eq] at hexec
    refine ⟨fun hlive => ?_, fun h hfind => ?_⟩
    · have hfind : (s.hnd.live.find? fun h => h.opcode == 0x0051 && h.subject == (sid : Nat)) = none :=
        List.find?_eq_none.mpr fun h hh => by simpa using hlive h hh
      rw [hexec, hfind]
      rfl
    · rw [hexec, hfind, closeResult_eq]
      rfl
  · refine (exec_streamDrainDone hx).trans (congrArg Host.Outcome.next (if_neg ?_))
    rintro ⟨hd, hb, hdone⟩
    rw [streamDrained, Bool.and_eq_true, List.isEmpty_iff] at hdone
    obtain ⟨hheld, hdur⟩ := hdone
    rcases hno with hno | hno | hno | hno
    · exact hno hd
    · exact absurd (hno.symm.trans hb) (by decide)
    · exact hno hheld
    · exact absurd (hno.symm.trans hdur) (by decide)
  · have hrelease := (OnStream.refl hx).release
    exact ⟨_, rfl, hrelease.found, hrelease.only (releaseHeld_parse _ _), congrArg (·.waiting) hrelease.ord⟩
  · rw [exec_indexEntryPlace hx he, hdur]
    rfl
  · have hexec := (exec_indexEntryPlace hx he).trans (congrArg Host.Outcome.next (if_pos hdur))
    have hplaced := (OnStream.refl hx).update (placedAt placed) fun _ => rfl
    have hentry := placedAt_entry he
    by_cases hdue : (placed + 1) % 128 = 0 ∨ e.frameFlags &&& 0xF ≠ 0
    · have hwrite := hplaced.writeIndexUnit_due (unwrittenSlots_placedAt he hw)
      have hgo := hdue.imp_right (releasesAtEnd_iff e.frameFlags).mpr
      refine ⟨_, _, hexec.trans (congrArg Host.Outcome.next (if_pos hgo)), hwrite.only ((writeIndexUnit_keep _ _ _).parse rfl), hwrite.found,
        ⟨_, indexWritten_entry _ _ hentry, ?_⟩, fun hno => ?_, fun _ => ⟨rfl, _, congrArg (·.waiting) hwrite.ord⟩⟩
      · split <;> rfl
      · exact absurd hdue (not_or.mpr ⟨hno.1, not_not.mpr hno.2⟩)
    · have hstays := mt (Or.imp_right (releasesAtEnd_iff e.frameFlags).mp) hdue
      exact ⟨_, _, hexec.trans (congrArg Host.Outcome.next (if_neg hstays)), hplaced.only rfl, hplaced.found, ⟨_, hentry, by rw [hw]⟩, fun _ => ⟨rfl, hplaced.ord_same⟩,
        fun h => absurd h hdue⟩
  · obtain ⟨y, ws, hy, hsent, hall⟩ := (OnStream.refl hx).writeIndexUnits
    exact ⟨_, y, ws, rfl, hy.only ((writeIndexUnits_keep _ _).parse rfl), hy.found, hall, hsent.stream,
      congrArg (·.waiting) hy.ord, hsent.writes⟩

end Sys2Proof.Proofs
end

section
/-! Proofs about the windows of streams: what an open and an extension check, and what they leave (O29). -/

namespace Sys2Proof.Proofs

open Sys2Proof Sys2Proof.Machine Sys2Proof.Safety Sys2Proof.Laws

/-! ## Windows (R66, R67, R72) -/

theorem dataWindowOk_iff (w : Window) :
    dataWindowOk w = true ↔ w.start % 256 = 0 ∧ w.length % 256 = 0 ∧ 256 ≤ w.length := by
  simp [dataWindowOk, and_assoc]

theorem windowInside_iff (n : Namespace) (w : Window) : windowInside n w = true ↔ w.start + w.length ≤ n.size * 256 :=
  decide_eq_true_iff

theorem windowsOverlap_iff (a b : Window) :
    windowsOverlap a b = true ↔ a.start < b.start + b.length ∧ b.start < a.start + a.length := by
  rw [windowsOverlap, Bool.and_eq_true, decide_eq_true_iff, decide_eq_true_iff]

theorem windowConflict_iff (s : State) (sid ns : Nat) (ws : List Window) : windowConflict s sid ns ws = true ↔
    ∃ y ∈ s.str.list, y.sid ≠ sid ∧ y.state ≠ .closed ∧ y.ns = ns ∧ ∃ a ∈ ws, ∃ b ∈ y.dataWindows ++ y.indexWindows,
      a.start < b.start + b.length ∧ b.start < a.start + a.length := by
  simp only [windowConflict, List.any_eq_true, Bool.and_eq_true, bne_iff_ne, beq_iff_eq, windowsOverlap_iff, and_assoc]

/-- The windows of an open suit namespace `n` (R67). -/
def OpenFits (n : Namespace) (d i : Window) : Prop :=
  n.attached = true ∧ d.start % 256 = 0 ∧ d.length % 256 = 0 ∧ 256 ≤ d.length ∧ 1 ≤ i.length ∧
    d.start + d.length ≤ n.size * 256 ∧ i.start + i.length ≤ n.size * 256 ∧
    (d.start + d.length ≤ i.start ∨ i.start + i.length ≤ d.start)

/-- A take that takes no further member: none forms under its ID, or it has its members or is closing (R69). -/
def takeRefuses (s : State) (tid : Nat) : Bool := (findTake s tid).all fun t => t.live || t.closing

/-! ## The checks of STREAM_OPEN (R67) -/

section OpenFault

variable {s : State} {x : Stream} {n : Namespace}

theorem streamState_closed {sid : Nat} : streamState s sid = .closed ↔ ∀ y, findStream s sid = some y → y.state = .closed := by
  unfold streamState
  cases findStream s sid <;> simp

theorem openFault_running (h : streamState s x.sid ≠ .closed) : openFault s x = some stWrongState := if_pos h

theorem openFault_unfit (hc : streamState s x.sid = .closed)
    (hf : ∀ n, findNs s x.ns = some n → ¬ OpenFits n (dataWindow x) (x.indexWindows.headD ⟨0, 0⟩)) :
    openFault s x = some stBadParam := by
  unfold openFault
  dsimp only
  rw [if_neg (not_not.mpr hc)]
  cases hn : findNs s x.ns with
  | none => rfl
  | some n =>
    dsimp only
    split
    next => rfl
    next hattached =>
      split
      next => rfl
      next hdata =>
        split
        next => rfl
        next hindex =>
          split
          next => rfl
          next hplace =>
            refine absurd ?_ (hf n hn)
            rw [Bool.not_eq_false, dataWindowOk_iff] at hdata
            obtain ⟨hstart, hlength, hsegment⟩ := hdata
            rw [not_or, not_or, Bool.not_eq_false, Bool.not_eq_false, windowInside_iff, windowInside_iff, windowsOverlap_iff]
              at hplace
            obtain ⟨hd, hi, hover⟩ := hplace
            exact ⟨by simpa using hattached, hstart, hlength, hsegment, by omega, hd, hi, by omega⟩

/-- Behind the checks of the namespace and the windows come those of other streams, the take and the link. -/
theorem openFault_fits (hc : streamState s x.sid = .closed) (hn : findNs s x.ns = some n)
    (hf : OpenFits n (dataWindow x) (x.indexWindows.headD ⟨0, 0⟩)) : openFault s x =
      if windowConflict s x.sid x.ns [dataWindow x, x.indexWindows.headD ⟨0, 0⟩] then some stResourceConflict
      else if x.take ≠ 0xFFFF ∧ takeRefuses s x.take = true then some stWrongState
      else if s.link.state = .halted then some stWrongState
      else none := by
  obtain ⟨hattached, hstart, hlength, hsegment, hindex, hd, hi, hover⟩ := hf
  unfold openFault
  dsimp only
  rw [if_neg (not_not.mpr hc), hn]
  dsimp only
  rw [if_neg (by rw [hattached]; decide), if_neg (by rw [(dataWindowOk_iff _).mpr ⟨hstart, hlength, hsegment⟩]; decide),
    if_neg (Nat.not_lt.mpr hindex)]
  rw [if_neg]
  · cases htake : findTake s x.take <;> simp only [takeRefuses, htake, Option.all_none, Option.all_some]
  · rw [not_or, not_or, Bool.not_eq_false, Bool.not_eq_false, windowInside_iff, windowInside_iff, windowsOverlap_iff]
    exact ⟨hd, hi, by omega⟩

end OpenFault

/-! ## The checks of STREAM_EXTEND_WINDOW (R72) -/

/-- A window suits chain `chain` of a stream in namespace `n` (R72). -/
def ExtendFits (n : Namespace) (x : Stream) (chain : Nat) (w : Window) : Prop :=
  (if chain = 0 then w.start % 256 = 0 ∧ w.length % 256 = 0 ∧ 256 ≤ w.length else 1 ≤ w.length) ∧
    w.start + w.length ≤ n.size * 256 ∧
    ∀ b ∈ ownWindows x, ¬ (w.start < b.start + b.length ∧ b.start < w.start + w.length)

section ExtendFault

variable {s : State} {sid chain : Nat} {w : Window} {x : Stream} {n : Namespace}

theorem chainWindowOk_iff (chain : Nat) (w : Window) : (if chain = 0 then dataWindowOk w else decide (1 ≤ w.length)) = true ↔
    if chain = 0 then w.start % 256 = 0 ∧ w.length % 256 = 0 ∧ 256 ≤ w.length else 1 ≤ w.length := by
  split
  · exact dataWindowOk_iff w
  · exact decide_eq_true_iff

theorem ownWindows_overlap_iff (x : Stream) (w : Window) : (ownWindows x).any (windowsOverlap w) = true ↔
    ¬ ∀ b ∈ ownWindows x, ¬ (w.start < b.start + b.length ∧ b.start < w.start + w.length) := by
  simp only [List.any_eq_true, windowsOverlap_iff, not_forall, not_not, exists_prop]

theorem extendFault_stopped (h : ∀ x, findStream s sid = some x → x.state = .closed ∨ x.state = .draining) :
    extendFault s sid chain w = some stWrongState := by
  unfold extendFault
  cases hx : findStream s sid with
  | none => rfl
  | some x => exact if_pos (h x hx)

theorem extendFault_unfit (hx : findStream s sid = some x) (hs : ¬ (x.state = .closed ∨ x.state = .draining))
    (hf : ∀ n, findNs s x.ns = some n → ¬ ExtendFits n x chain w) : extendFault s sid chain w = some stBadParam := by
  unfold extendFault
  rw [hx]
  dsimp only
  rw [if_neg hs]
  by_cases hshape : (if chain = 0 then dataWindowOk w else decide (1 ≤ w.length)) = false
  · exact if_pos hshape
  · rw [if_neg hshape]
    rw [Bool.not_eq_false, chainWindowOk_iff] at hshape
    cases hn : findNs s x.ns with
    | none => rfl
    | some n =>
      refine if_pos (by_contra fun hplace => hf n hn ?_)
      rw [not_or, Bool.not_eq_false, windowInside_iff, ownWindows_overlap_iff, not_not] at hplace
      exact ⟨hshape, hplace⟩

/-- Behind the checks of the window come those of other streams and the room for it. -/
theorem extendFault_fits (hx : findStream s sid = some x) (hs : ¬ (x.state = .closed ∨ x.state = .draining))
    (hn : findNs s x.ns = some n) (hf : ExtendFits n x chain w) : extendFault s sid chain w =
      if windowConflict s sid x.ns [w] then some stResourceConflict
      else if 4 ≤ (if chain = 0 then queuedData x else queuedIndex x) then some stCapacity
      else none := by
  obtain ⟨hshape, hinside, hown⟩ := hf
  unfold extendFault
  rw [hx]
  dsimp only
  rw [if_neg hs, if_neg (by rw [(chainWindowOk_iff chain w).mpr hshape]; decide), hn]
  refine if_neg ?_
  rw [not_or, Bool.not_eq_false, windowInside_iff, ownWindows_overlap_iff, not_not]
  exact ⟨hinside, hown⟩

end ExtendFault

/-- What an extension makes of the record (R72). -/
theorem extendStream_eq (chain : Nat) (w : Window) (x : Stream) :
    extendStream chain w x = { x with
      dataWindows := if chain = 0 then x.dataWindows ++ [w] else x.dataWindows
      indexWindows := if chain = 0 then x.indexWindows else x.indexWindows ++ [w]
      state := if x.state = .full then .open_ else x.state, lowLogged := (extendStream chain w x).lowLogged } := by
  unfold extendStream
  by_cases hc : chain = 0
  · simp only [if_pos hc]
  · simp only [if_neg hc]

theorem extendStream_lowLogged (chain : Nat) (w : Window) (x : Stream) : (extendStream chain w x).lowLogged = true ↔
    x.lowLogged = true ∧ belowLowWater (extendStream chain w x) = true := by
  unfold extendStream
  by_cases hc : chain = 0
  · simp only [if_pos hc]
    exact Bool.and_eq_true_iff
  · simp only [if_neg hc]
    exact Bool.and_eq_true_iff

end Sys2Proof.Proofs
end

section
/-! Proofs about takes: how streams join one, and how one closes (O29). -/

namespace Sys2Proof.Proofs

open Sys2Proof Sys2Proof.Machine Sys2Proof.Safety Sys2Proof.Laws

/-! ## Records by ID -/

theorem findTake_tid {s : State} {tid : Nat} {k : Take} (h : findTake s tid = some k) : k.tid = tid :=
  beq_iff_eq.mp (List.find?_some (p := fun t : Take => t.tid == tid) h)

theorem findStream_sid {s : State} {sid : Nat} {x : Stream} (h : findStream s sid = some x) : x.sid = sid :=
  beq_iff_eq.mp (List.find?_some (p := fun x : Stream => x.sid == sid) h)

theorem findTake_updateTake (tid j : Nat) {f : Take → Take} (hf : ∀ t, (f t).tid = t.tid) (s : State) :
    findTake (updateTake tid f s) j = if j = tid then (findTake s j).map f else findTake s j :=
  find_changeWhere Take.tid tid j f hf s.str.takes

theorem findStream_putStream (x : Stream) (s : State) (j : Nat) :
    findStream (putStream x s) j = if j = x.sid then some x else findStream s j := by
  show (x :: s.str.list.filter fun y => y.sid != x.sid).find? (fun y => y.sid == j) = _
  by_cases hj : j = x.sid
  · rw [if_pos hj, hj]
    exact List.find?_cons_of_pos (p := fun y : Stream => y.sid == x.sid) (beq_self_eq_true _)
  · have hne : ¬ (x.sid == j) = true := fun h => hj (beq_iff_eq.mp h).symm
    rw [if_neg hj]
    refine (List.find?_cons_of_neg (p := fun y : Stream => y.sid == j) hne).trans ?_
    rw [List.find?_filter]
    refine congrFun (congrArg List.find? (funext fun y => ?_)) _
    by_cases hy : y.sid = j
    · simp [hy, hj]
    · simp [hy]

/-- Finding a stream once every record has changed by what keeps its ID. -/
theorem findStream_map {f : Stream → Stream} (hf : ∀ y, (f y).sid = y.sid) (s : State) (j : Nat) :
    findStream { s with str := { s.str with list := s.str.list.map f } } j = (findStream s j).map f := by
  show (s.str.list.map f).find? (fun y => y.sid == j) = _
  rw [List.find?_map]
  refine congrArg (Option.map f) (congrFun (congrArg List.find? (funext fun y => ?_)) _)
  exact congrArg (· == j) (hf y)

/-! ## Joining (R69) -/

/-- A stream waits in ARMED as a member of take `k`. -/
def joinTake (k : Take) (x : Stream) (s : State) : State :=
  putStream { x with state := .armed } (updateTake k.tid (fun t => { t with ids := k.ids ++ [x.sid] }) s)

/-- The streams `ids` are OPEN as a live take. -/
def openMembers (tid : Nat) (ids : List Nat) (s : State) : State :=
  let t := updateTake tid (fun t => { t with live := true }) s
  { t with str := { t.str with list := s.str.list.map fun y => if ids.contains y.sid then { y with state := .open_ } else y } }

section Join

variable {s : State} {x : Stream} {k : Take}

theorem bindStream_alone (h : findTake s x.take = none) : bindStream x s = putStream { x with state := .open_ } s := by
  rw [bindStream, h]

theorem bindStream_member (h : findTake s x.take = some k) : bindStream x s =
    if k.members ≤ k.ids.length + 1 then openMembers x.take (k.ids ++ [x.sid]) (joinTake k x s) else joinTake k x s := by
  have hcount : (k.ids ++ [x.sid]).length = k.ids.length + 1 := List.length_append
  rw [bindStream, h]
  dsimp only
  rw [hcount]
  by_cases hfull : k.members ≤ k.ids.length + 1
  · rw [if_neg (Nat.not_lt.mpr hfull), if_pos hfull]
    exact congrArg (fun tid => openMembers tid (k.ids ++ [x.sid]) (joinTake k x s)) (findTake_tid h)
  · rw [if_pos (Nat.not_le.mp hfull), if_neg hfull]
    rfl

theorem findTake_joinTake (h : findTake s x.take = some k) :
    findTake (joinTake k x s) x.take = some { k with ids := k.ids ++ [x.sid] } :=
  (findTake_updateTake k.tid x.take (f := fun t => { t with ids := k.ids ++ [x.sid] }) (fun _ => rfl) s).trans
    ((if_pos (findTake_tid h).symm).trans (congrArg (Option.map _) h))

theorem findStream_joinTake (k : Take) (x : Stream) (s : State) (j : Nat) :
    findStream (joinTake k x s) j = if j = x.sid then some { x with state := .armed } else findStream s j :=
  findStream_putStream { x with state := .armed } _ j

theorem findTake_openMembers {tid : Nat} (h : findTake s tid = some k) (ids : List Nat) :
    findTake (openMembers tid ids s) tid = some { k with live := true } :=
  (findTake_updateTake tid tid (f := fun t => { t with live := true }) (fun _ => rfl) s).trans
    ((if_pos rfl).trans (congrArg (Option.map _) h))

theorem findStream_openMembers (tid : Nat) (ids : List Nat) (s : State) (j : Nat) : findStream (openMembers tid ids s) j =
    (findStream s j).map fun y => if j ∈ ids then { y with state := .open_ } else y := by
  have hmap := findStream_map (f := fun y => if ids.contains y.sid then { y with state := .open_ } else y)
    (fun y => by split <;> rfl) s j
  refine hmap.trans ?_
  cases hj : findStream s j with
  | none => rfl
  | some y => simp only [Option.map_some, findStream_sid hj, List.contains_iff_mem]

/-- What a member's open leaves: its take with one member more, live with the last, and the members OPEN then. -/
theorem bindStream_joined (h : findTake s x.take = some k) (hlive : k.live = false) :
    let full := decide (k.members ≤ k.ids.length + 1)
    findTake (bindStream x s) x.take = some { k with ids := k.ids ++ [x.sid], live := full } ∧
      findStream (bindStream x s) x.sid = some { x with state := if full then .open_ else .armed } ∧
      ∀ j, j ≠ x.sid → findStream (bindStream x s) j =
        (findStream s j).map fun y => if full ∧ j ∈ k.ids then { y with state := .open_ } else y := by
  have htake := findTake_joinTake h
  rw [bindStream_member h]
  by_cases hfull : k.members ≤ k.ids.length + 1
  · rw [if_pos hfull, decide_eq_true hfull]
    refine ⟨findTake_openMembers htake _, ?_, fun j hj => ?_⟩
    · rw [findStream_openMembers, findStream_joinTake, if_pos rfl]
      simp
    · rw [findStream_openMembers, findStream_joinTake, if_neg hj]
      simp [hj]
  · rw [if_neg hfull, decide_eq_false hfull]
    refine ⟨?_, ?_, fun j hj => ?_⟩
    · rw [htake, ← hlive]
    · rw [findStream_joinTake, if_pos rfl]
      rfl
    · rw [findStream_joinTake, if_neg hj]
      simp

end Join

/-! ## Draining (R68, R69, R71, R76) -/

/-- A stream drains with nothing held back. -/
def Drains (s : State) (sid : Nat) : Prop := ∃ y, findStream s sid = some y ∧ y.state = .draining ∧ y.held = []

/-- From `s` to `t` the streams' records and the ordering may have changed, nothing else. -/
structure StreamsOnly (s t : State) : Prop where
  str : t.str = { s.str with list := t.str.list }
  same : t = { s with str := t.str, ord := t.ord }

section Drain

variable {s t : State} {sid : Nat} {x : Stream}

theorem StreamsOnly.refl (s : State) : StreamsOnly s s := ⟨rfl, rfl⟩

theorem StreamsOnly.trans {u : State} (h : StreamsOnly s t) (k : StreamsOnly t u) : StreamsOnly s u where
  str := by rw [k.str, h.str]
  same := k.same.trans (congrArg (fun t : State => { t with str := u.str, ord := u.ord }) h.same)

theorem OnStream.streamsOnly {y : Stream} {w : List Waiting} (h : OnStream sid y w s t) (hp : t.parse = s.parse) :
    StreamsOnly s t := by
  have hsame := h.same
  rw [hp] at hsame
  have hstr : t.str = { s.str with list := t.str.list } := congrArg (·.str) hsame
  exact ⟨hstr, hsame.trans (congrArg (fun q => { s with str := q, ord := t.ord }) hstr.symm)⟩

theorem enterStream_drains (h : findStream s sid = some x) : Drains (enterStream sid .draining s) sid ∧
    (∀ k, k ≠ sid → findStream (enterStream sid .draining s) k = findStream s k) ∧
    StreamsOnly s (enterStream sid .draining s) := by
  obtain ⟨z, ws, hz, hsent, -⟩ :=
    ((OnStream.refl h).update (fun x => { x with state := .draining }) fun _ => rfl).release.writeIndexUnits
  exact ⟨⟨z, hz.found, congrArg (·.state) hsent.stream, congrArg (·.held) hsent.stream⟩, hz.others,
    hz.streamsOnly ((enterStream_keep sid .draining s).parse rfl)⟩

/-- The members of a take that are OPEN, FULL or drain already all drain when it closes (R69). -/
theorem closeTakeMembers_drains (ids : List Nat)
    (h : ∀ j ∈ ids, Drains s j ∨ ∃ x, findStream s j = some x ∧ (x.state = .open_ ∨ x.state = .full)) :
    (∀ j ∈ ids, Drains (closeTakeMembers ids s) j) ∧
      (∀ j, j ∉ ids → findStream (closeTakeMembers ids s) j = findStream s j) ∧ StreamsOnly s (closeTakeMembers ids s) := by
  induction ids generalizing s with
  | nil => exact ⟨fun _ hj => absurd hj List.not_mem_nil, fun _ _ => rfl, .refl s⟩
  | cons i ids ih =>
    obtain ⟨t, hstep, hdrains, hothers, honly⟩ : ∃ t, closeTakeMembers (i :: ids) s = closeTakeMembers ids t ∧ Drains t i ∧
        (∀ k, k ≠ i → findStream t k = findStream s k) ∧ StreamsOnly s t := by
      unfold closeTakeMembers
      rw [List.foldl_cons]
      rcases h i List.mem_cons_self with hdrains | ⟨x, hx, hstate⟩
      · obtain ⟨y, hy, hdrain, hheld⟩ := hdrains
        refine ⟨s, ?_, ⟨y, hy, hdrain, hheld⟩, fun _ _ => rfl, .refl s⟩
        rw [hy]
        dsimp only
        rw [hdrain]
      · refine ⟨enterStream i .draining s, ?_, enterStream_drains hx⟩
        rw [hx]
        dsimp only
        rcases hstate with hstate | hstate <;> rw [hstate]
    have hrest : ∀ j ∈ ids, Drains t j ∨ ∃ x, findStream t j = some x ∧ (x.state = .open_ ∨ x.state = .full) := by
      intro j hj
      by_cases hji : j = i
      · rw [hji]
        exact .inl hdrains
      · unfold Drains
        rw [hothers j hji]
        exact h j (List.mem_cons_of_mem i hj)
    obtain ⟨hall, hkept, hsame⟩ := ih hrest
    rw [hstep]
    refine ⟨fun j hj => ?_, fun j hj => ?_, honly.trans hsame⟩
    · by_cases hmem : j ∈ ids
      · exact hall j hmem
      · obtain rfl := (List.mem_cons.mp hj).resolve_right hmem
        unfold Drains
        rw [hkept j hmem]
        exact hdrains
    · rw [List.mem_cons, not_or] at hj
      exact (hkept j hj.2).trans (hothers j hj.1)

theorem settleTake_members {tid : Nat} {k : Take} (h : findTake s tid = some k) (hk : k.ids ≠ []) : settleTake tid s = s := by
  rw [settleTake, h]
  exact if_neg fun hc => hk hc.2

end Drain

end Sys2Proof.Proofs
end

section
/-! Proofs about the Lorard commands of the streams (O29). -/

namespace Sys2Proof.Proofs

open Sys2Proof Sys2Proof.Machine Sys2Proof.Safety Sys2Proof.Laws

/-! ## States compared -/

theorem findTake_congr {s t : State} (h : t.str = s.str) (tid : Nat) : findTake t tid = findTake s tid := by
  rw [findTake, h, findTake]

theorem findStream_congr {s t : State} (h : t.str = s.str) (sid : Nat) : findStream t sid = findStream s sid := by
  rw [findStream, h, findStream]

/-- What follows an accepted command that changes the streams and the ordering alone. -/
theorem accepted_frame {s w u : State} (hw : w = { s with hnd := w.hnd, free := s.free + 1 })
    (hu : u = { w with str := u.str, ord := u.ord }) :
    u = { s with hnd := u.hnd, free := s.free + 1, str := u.str, ord := u.ord } := by
  have hhnd : u.hnd = w.hnd := congrArg (·.hnd) hu
  rw [hhnd]
  exact hu.trans (congrArg (fun w : State => { w with str := u.str, ord := u.ord }) hw)

section Commands

variable {s : State} {m : Fin 16}

/-! ## Opening and closing (R67 to R69) -/

theorem takeRefuses_iff (s : State) (tid : Nat) :
    takeRefuses s tid = true ↔ ∀ k, findTake s tid = some k → k.live = true ∨ k.closing = true := by
  unfold takeRefuses
  cases findTake s tid <;> simp

theorem takeRefuses_forming {s : State} {tid : Nat} {k : Take} (h : findTake s tid = some k) (hl : k.live = false)
    (hc : k.closing = false) : takeRefuses s tid = false := by
  rw [takeRefuses, h, Option.all_some, hl, hc]
  rfl

theorem exec_streamOpen_refused (h : Asked m 0x0050 s) {st : BitVec 16} (hf : openFault s (openRequest s m) = some st) :
    exec (.streamOpen m) s = .next (respond m st [] s) := by
  refine congrArg Host.Outcome.next ((serve_asked h _).trans ?_)
  dsimp only
  rw [hf]

/-- The stream is bound, and its state record in the bank has been written. -/
def streamBound (m : Nat) (s : State) : State :=
  bankWritten 0x10 (2 * reqField s m 8 2) (bindStream (openRequest s m) s)

theorem exec_streamOpen_bound (h : Asked m 0x0050 s) (hf : openFault s (openRequest s m) = none) :
    exec (.streamOpen m) s = .next (respond m stOk [] (streamBound m s)) := by
  refine congrArg Host.Outcome.next ((serve_asked h _).trans ?_)
  dsimp only
  rw [hf]
  rfl

theorem streamBound_replied (h : Asked m 0x0050 s) :
    Replied m stOk [] (streamBound m s) (respond m stOk [] (streamBound m s)) := by
  refine respond_replied m m.isLt _ _ _ ?_ (.inl rfl)
  rw [streamBound, (bankWritten_keep _ _ _).mbx rfl, (bindStream_keep _ _).mbx rfl]
  exact h.boxes

theorem streamBound_str (m : Nat) (s : State) : (streamBound m s).str = (bindStream (openRequest s m) s).str :=
  (bankWritten_keep _ _ _).str rfl

theorem streamBound_eq (m : Nat) (s : State) :
    streamBound m s = bankWritten 0x10 (2 * reqField s m 8 2) { s with str := (streamBound m s).str } := by
  have hbind : bindStream (openRequest s m) s = { s with str := (bindStream (openRequest s m) s).str } :=
    (bindStream_keep _ _).same
  rw [streamBound_str, ← hbind]
  rfl

theorem exec_streamClose_refused (h : Asked m 0x0051 s)
    (hx : ∀ x, findStream s (reqField s m 8 2) = some x → x.take ≠ 0xFFFF ∨ (x.state ≠ .open_ ∧ x.state ≠ .full)) :
    exec (.streamClose m) s = .next (respond m stWrongState [] s) := by
  refine congrArg Host.Outcome.next ((serve_asked h _).trans ?_)
  dsimp only
  cases hfind : findStream s (reqField s m 8 2) with
  | none => rfl
  | some x =>
    refine if_neg ?_
    rintro ⟨htake, hstate⟩
    rcases hx x hfind with hno | ⟨hopen, hfull⟩
    · exact hno htake
    · exact hstate.elim hopen hfull

theorem exec_streamClose_accepted (h : Asked m 0x0051 s) {x : Stream} (hx : findStream s (reqField s m 8 2) = some x)
    (ht : x.take = 0xFFFF) (hs : x.state = .open_ ∨ x.state = .full) : exec (.streamClose m) s = .next
      (accept m 0x0051 false (reqField s m 8 2) 0 true (fun _ s' => enterStream (reqField s m 8 2) .draining s') s) := by
  refine congrArg Host.Outcome.next ((serve_asked h _).trans ?_)
  dsimp only
  rw [hx]
  exact if_pos ⟨ht, hs⟩

/-- An accepted close: the stream drains, and nothing else has changed but the ordering. -/
theorem exec_streamClose_drains (h : Asked m 0x0051 s) {x : Stream} (hx : findStream s (reqField s m 8 2) = some x)
    (ht : x.take = 0xFFFF) (hs : x.state = .open_ ∨ x.state = .full) (hslots : freeSlots s ≠ []) : ∃ t v u,
    exec (.streamClose m) s = .next t ∧ Accepted m 0x0051 true (reqField s m 8 2) 0 v s u t ∧
      Drains u (reqField s m 8 2) ∧ (∀ k, k ≠ reqField s m 8 2 → findStream u k = findStream s k) ∧
      u = { s with hnd := u.hnd, free := s.free + 1, str := { s.str with list := u.str.list }, ord := u.ord } := by
  obtain ⟨v, u, haccepted, w, hu, hw⟩ := accept_accepted m m.isLt 0x0051 (reqField s m 8 2) 0 true
    (fun _ s' => enterStream (reqField s m 8 2) .draining s') s hslots h.boxes
    fun _ s' => ⟨(enterStream_keep _ _ s').hnd rfl, (enterStream_keep _ _ s').mbx rfl⟩
  have hstr : w.str = s.str := congrArg (·.str) hw
  obtain ⟨hdrains, hothers, honly⟩ := enterStream_drains ((findStream_congr hstr _).trans hx)
  rw [← hu] at hdrains hothers honly
  refine ⟨_, v, u, exec_streamClose_accepted h hx ht hs, haccepted, hdrains, fun k hk => ?_, ?_⟩
  · rw [hothers k hk, findStream_congr hstr]
  · have hlist := honly.str
    rw [hstr] at hlist
    exact (accepted_frame hw honly.same).trans
      (congrArg (fun q => { s with hnd := u.hnd, free := s.free + 1, str := q, ord := u.ord }) hlist)

/-! ## Status and windows (R72, R137) -/

theorem exec_streamStatus (h : Asked m 0x0052 s) :
    exec (.streamStatus m) s = .next (respond m stOk (streamStatusBytes s (reqField s m 8 2)) s) :=
  congrArg Host.Outcome.next (serve_asked h _)

theorem streamStatusBytes_none {s : State} {sid : Nat} (h : findStream s sid = none) : streamStatusBytes s sid =
    [0, 0, 0xFF, 0xFF] ++ leBytes 8 0 ++ leBytes 8 0xFFFFFFFFFF ++ leBytes 32 0 ++ leBytes 8 (erasedPool s) := by
  have hhead : leBytes 1 0 ++ leBytes 1 0 ++ leBytes 2 0xFFFF = [0, 0, 0xFF, 0xFF] := rfl
  have hzeros : leBytes 32 0 = leBytes 8 0 ++ leBytes 4 0 ++ leBytes 4 0 ++ leBytes 8 0 ++ leBytes 4 0 ++ leBytes 1 0 ++
    leBytes 3 0 := rfl
  rw [streamStatusBytes, h, hzeros, ← hhead]
  simp only [packBytes, List.append_nil, ← List.append_assoc]

theorem streamStatusBytes_some {s : State} {sid : Nat} {x : Stream} (h : findStream s sid = some x) :
    streamStatusBytes s sid =
      leBytes 1 (streamCode x.state) ++ leBytes 1 0 ++ leBytes 2 x.take ++ leBytes 8 x.writePoint ++
        leBytes 8 (x.last % 2 ^ 40).toNat ++ leBytes 8 x.frames ++ leBytes 4 (min x.shorts 0xFFFFFFFF) ++
        leBytes 4 (min x.discards 0xFFFFFFFF) ++ leBytes 8 (dataRoom x * 4096) ++
        leBytes 4 (min (freeIndexSlots x) 0xFFFFFFFF) ++ leBytes 1 (queuedData x % 16 + 16 * (queuedIndex x % 16)) ++
        leBytes 3 0 ++ leBytes 8 (erasedPool s) := by
  have hsat (n : Nat) : sat 32 n = min n 0xFFFFFFFF := rfl
  have hlast : lastFrameField x = (x.last % 2 ^ 40).toNat := rfl
  rw [streamStatusBytes, h]
  simp only [packBytes, List.append_nil, ← List.append_assoc, hsat, hlast]

/-- The window a STREAM_EXTEND_WINDOW gives. -/
def extendWindow (s : State) (m : Nat) : Window := ⟨reqField s m 12 8, reqField s m 20 8⟩

/-- The state with a stream's window queued. -/
def extended (m : Nat) (s : State) : State :=
  updateStream (reqField s m 8 2) (extendStream (reqField s m 10 1) (extendWindow s m)) s

theorem exec_streamExtendWindow_refused (h : Asked m 0x0053 s) {st : BitVec 16}
    (hf : extendFault s (reqField s m 8 2) (reqField s m 10 1) (extendWindow s m) = some st) :
    exec (.streamExtendWindow m) s = .next (respond m st [] s) := by
  refine congrArg Host.Outcome.next ((serve_asked h _).trans ?_)
  dsimp only
  rw [show extendFault s (reqField s m 8 2) (reqField s m 10 1) ⟨reqField s m 12 8, reqField s m 20 8⟩ = _ from hf]

theorem exec_streamExtendWindow_queued (h : Asked m 0x0053 s)
    (hf : extendFault s (reqField s m 8 2) (reqField s m 10 1) (extendWindow s m) = none) {y : Stream}
    (hy : findStream (extended m s) (reqField s m 8 2) = some y) : exec (.streamExtendWindow m) s = .next
      (respond m stOk (leBytes 1 (if reqField s m 10 1 = 0 then queuedData y else queuedIndex y) ++ leBytes 3 0)
        (extended m s)) := by
  refine congrArg Host.Outcome.next ((serve_asked h _).trans ?_)
  dsimp only
  rw [show extendFault s (reqField s m 8 2) (reqField s m 10 1) ⟨reqField s m 12 8, reqField s m 20 8⟩ = _ from hf]
  dsimp only
  rw [show findStream (updateStream _ (extendStream _ ⟨reqField s m 12 8, reqField s m 20 8⟩) s) _ = _ from hy]
  rfl

/-! ## The partition (R82, R83, R85) -/

theorem exec_bufferPartition (h : Asked m 0x0054 s) : exec (.bufferPartition m) s = .next (
    if reqField s m 8 4 = 0xFFFFFFFF ∧ reqField s m 12 4 = 0xFFFFFFFF then respond m stOk (partitionBytes s) s
    else
      let fc := if reqField s m 8 4 = 0xFFFFFFFF then s.str.fc else reqField s m 8 4
      let fn := if reqField s m 12 4 = 0xFFFFFFFF then s.str.fn else reqField s m 12 4
      if partitionConflict s fc fn then respond m stResourceConflict [] s
      else
        let t := logLimitCrossing s { s with str := { s.str with fc := fc, fn := fn } }
        respond m stOk (partitionBytes t) t) :=
  congrArg Host.Outcome.next (serve_asked h _)

theorem partitionConflict_iff (s : State) (fc fn : Nat) : partitionConflict s fc fn = true ↔
    bufferMib s < fc + fn ∨ (bufferMib s - fn) * 1048576 < captureHeld s ∨ (bufferMib s - fc) * 1048576 < nvmeHeld s := by
  rw [partitionConflict, Bool.or_eq_true, Bool.or_eq_true, decide_eq_true_iff, decide_eq_true_iff, decide_eq_true_iff,
    or_assoc]
  rfl

theorem partitionBytes_eq (s : State) : partitionBytes s =
    leBytes 4 (bufferMib s) ++ leBytes 4 s.str.fc ++ leBytes 4 s.str.fn ++ leBytes 4 (limitMib s) := by
  simp only [partitionBytes, packBytes, List.append_nil, List.append_assoc]

/-- The state with new floors, the crossing of a limit and Fc logged (R85). -/
def partitioned (fc fn : Nat) (s : State) : State := logLimitCrossing s { s with str := { s.str with fc := fc, fn := fn } }

theorem partitioned_frame (fc fn : Nat) (s : State) : partitioned fc fn s = { s with
    str := { s.str with fc := fc, fn := fn }, evr := (partitioned fc fn s).evr, pins := (partitioned fc fn s).pins } :=
  (logLimitCrossing_keep s { s with str := { s.str with fc := fc, fn := fn } }).same

theorem partitioned_logged (fc fn : Nat) (s : State) :
    Logged (if decide (s.str.fc ≤ limitMib s) = decide (fc ≤ limitMib s) then []
      else [(0x0204, blockUnit 7, evData [(4, limitMib s), (4, fc)])]) s (partitioned fc fn s) := by
  have hlimit : limitMib { s with str := { s.str with fc := fc, fn := fn } } = limitMib s := rfl
  have hlog := logAll_str [(0x0204, blockUnit 7, evData [(4, limitMib s), (4, fc)])] { s.str with fc := fc, fn := fn } s
  unfold partitioned logLimitCrossing
  rw [hlimit]
  by_cases hsame : decide (s.str.fc ≤ limitMib s) = decide (fc ≤ limitMib s)
  · rw [if_pos (beq_iff_eq.mpr hsame), if_pos hsame]
    exact ⟨rfl, rfl⟩
  · rw [if_neg (mt beq_iff_eq.mp hsame), if_neg hsame]
    exact ⟨congrArg (·.evr) hlog, congrArg (·.pins) hlog⟩

theorem partitioned_bytes (fc fn : Nat) (s : State) : partitionBytes (partitioned fc fn s) =
    leBytes 4 (bufferMib s) ++ leBytes 4 fc ++ leBytes 4 fn ++ leBytes 4 (limitMib s) := by
  rw [partitioned_frame, partitionBytes_eq]
  rfl

/-! ## Takes (R69) -/

theorem exec_takeOpen (h : Asked m 0x0055 s) : exec (.takeOpen m) s = .next (
    if (findTake s (reqField s m 8 1)).isSome then respond m stWrongState [] s
    else respond m stOk [] { s with str := { s.str with
      takes := s.str.takes ++ [⟨reqField s m 8 1, reqField s m 10 2, [], false, false, 0, 0⟩] } }) :=
  congrArg Host.Outcome.next (serve_asked h _)

theorem exec_takeClose_refused (h : Asked m 0x0056 s)
    (hk : ∀ k, findTake s (reqField s m 8 1) = some k → k.closing = true) :
    exec (.takeClose m) s = .next (respond m stWrongState [] s) := by
  refine congrArg Host.Outcome.next ((serve_asked h _).trans ?_)
  dsimp only
  cases hfind : findTake s (reqField s m 8 1) with
  | none => rfl
  | some k => exact if_pos (hk k hfind)

/-- Take `tid` is closing, and its members drain. -/
def takeClosed (tid : Nat) (ids : List Nat) (s : State) : State :=
  closeTakeMembers ids (updateTake tid (fun t => { t with closing := true }) s)

theorem exec_takeClose_accepted (h : Asked m 0x0056 s) {k : Take} (hk : findTake s (reqField s m 8 1) = some k)
    (hc : k.closing = false) : exec (.takeClose m) s = .next (settleTake (reqField s m 8 1)
      (accept m 0x0056 false (reqField s m 8 1) 0 true (fun _ s' => takeClosed (reqField s m 8 1) k.ids s') s)) := by
  refine congrArg Host.Outcome.next ((serve_asked h _).trans ?_)
  dsimp only
  rw [hk]
  dsimp only
  rw [hc]
  rfl

/-- What the close of a take leaves: the take closing, its members draining, the other streams as they were. -/
theorem takeClosed_spec {tid : Nat} {k : Take} {s : State} (hk : findTake s tid = some k)
    (hids : ∀ j ∈ k.ids, ∃ x, findStream s j = some x ∧ (x.state = .open_ ∨ x.state = .full)) :
    let t := takeClosed tid k.ids s
    findTake t tid = some { k with closing := true } ∧ (∀ j ∈ k.ids, Drains t j) ∧
      (∀ j, j ∉ k.ids → findStream t j = findStream s j) ∧
      t.str = { s.str with list := t.str.list, takes := t.str.takes } ∧ t = { s with str := t.str, ord := t.ord } := by
  intro t
  obtain ⟨hall, hkept, honly⟩ := closeTakeMembers_drains (s := updateTake tid (fun t => { t with closing := true }) s) k.ids
    fun j hj => .inr (hids j hj)
  have htakes : t.str.takes = (updateTake tid (fun t => { t with closing := true }) s).str.takes :=
    congrArg (·.takes) honly.str
  refine ⟨?_, hall, hkept, ?_, honly.same⟩
  · rw [findTake, htakes]
    exact (findTake_updateTake tid tid (f := fun t => { t with closing := true }) (fun _ => rfl) s).trans
      ((if_pos rfl).trans (congrArg (Option.map _) hk))
  · rw [htakes]
    exact honly.str

/-- An accepted close of a take whose members are OPEN or FULL: they drain, and nothing else has changed but the
ordering. -/
theorem exec_takeClose_drains (h : Asked m 0x0056 s) {k : Take} (hk : findTake s (reqField s m 8 1) = some k)
    (hclosing : k.closing = false) (hne : k.ids ≠ []) (hslots : freeSlots s ≠ [])
    (hids : ∀ j ∈ k.ids, ∃ x, findStream s j = some x ∧ (x.state = .open_ ∨ x.state = .full)) : ∃ t v u,
    exec (.takeClose m) s = .next t ∧ Accepted m 0x0056 true (reqField s m 8 1) 0 v s u t ∧
      findTake u (reqField s m 8 1) = some { k with closing := true } ∧ (∀ j ∈ k.ids, Drains u j) ∧
      (∀ j, j ∉ k.ids → findStream u j = findStream s j) ∧
      u = { s with
        hnd := u.hnd, free := s.free + 1, str := { s.str with list := u.str.list, takes := u.str.takes }, ord := u.ord } := by
  obtain ⟨v, w, haccept, hissued, hw⟩ := accept_some m 0x0056 (reqField s m 8 1) 0 true
    (fun _ s' => takeClosed (reqField s m 8 1) k.ids s') s hslots
  have hstr : w.str = s.str := congrArg (·.str) hw
  obtain ⟨htake, hall, hkept, hlists, hsame⟩ := takeClosed_spec ((findTake_congr hstr _).trans hk) fun j hj => by
    rw [findStream_congr hstr]
    exact hids j hj
  generalize takeClosed (reqField s m 8 1) k.ids w = u at haccept htake hall hkept hlists hsame
  have hboxes : u.mbx.box.length = 16 := by
    rw [show u.mbx = s.mbx from (congrArg (·.mbx) hsame).trans (congrArg (·.mbx) hw)]
    exact h.boxes
  have hsettled : settleTake (reqField s m 8 1) (respond m stAccepted (leBytes 4 v.toNat) u) =
      respond m stAccepted (leBytes 4 v.toNat) u :=
    settleTake_members ((findTake_congr (congrArg (·.str) (respond_frame ..)) _).trans htake) hne
  have hexec := exec_takeClose_accepted h hk hclosing
  rw [haccept, hsettled] at hexec
  refine ⟨_, v, u, hexec, ⟨?_, respond_replied m m.isLt _ _ u hboxes (.inr rfl)⟩, htake, hall, fun j hj => ?_, ?_⟩
  · rw [show u.hnd = w.hnd from congrArg (·.hnd) hsame]
    exact hissued
  · rw [hkept j hj, findStream_congr hstr]
  · rw [hstr] at hlists
    exact (accepted_frame hw hsame).trans
      (congrArg (fun q => { s with hnd := u.hnd, free := s.free + 1, str := q, ord := u.ord }) hlists)

/-! ## The index (R74, R76) -/

theorem exec_frameIndexRead_none (h : Asked m 0x0060 s) (hx : findStream s (reqField s m 8 2) = none) :
    exec (.frameIndexRead m) s = .next (respond m stOk (leBytes 8 0) s) := by
  refine congrArg Host.Outcome.next ((serve_asked h _).trans ?_)
  dsimp only
  rw [hx]
  rfl

theorem take_placedCount (x : Stream) : x.entries.take (placedCount x) = x.entries.takeWhile (·.placed) := by
  have h := List.take_left (l₁ := x.entries.takeWhile (·.placed)) (l₂ := x.entries.dropWhile (·.placed))
  rwa [List.takeWhile_append_dropWhile] at h

theorem entryBytes_eq (e : IndexEntry) : entryBytes e =
    let body := leBytes 8 e.timecode.toNat ++ leBytes 5 e.frame ++ leBytes 1 e.frameFlags.toNat ++
      leBytes 2 e.indexFlags.toNat ++ leBytes 6 e.startLba ++ leBytes 2 (0x1000 + e.stream) ++ leBytes 4 e.length
    body ++ leBytes 4 (crc32c body) := by
  simp only [entryBytes, packBytes, List.append_nil, List.append_assoc]

theorem exec_frameIndexRead_some (h : Asked m 0x0060 s) {x : Stream} (hx : findStream s (reqField s m 8 2) = some x) :
    let placed := x.entries.takeWhile (·.placed)
    let es := (placed.drop (reqField s m 12 4)).take (reqField s m 10 1)
    exec (.frameIndexRead m) s = .next (respond m stOk
      (leBytes 1 es.length ++ leBytes 3 0 ++ leBytes 4 placed.length ++ es.flatMap entryBytes) s) := by
  refine congrArg Host.Outcome.next ((serve_asked h _).trans ?_)
  dsimp only
  rw [hx]
  dsimp only
  rw [take_placedCount]
  simp only [packBytes, List.append_nil, List.append_assoc, placedCount]

end Commands

/-! ## The obligation -/

/-- Settles O29: each command is an answer by the first check that fails, or with what passes them all behind it. -/
theorem streamCommands : Obligations.StreamCommands := by
  unfold Obligations.StreamCommands
  intro s m p sid answers code erased partition
  have hrefused {i : Instr} {st : BitVec 16} {op : BitVec 16} (h : Asked m op s)
      (hi : exec i s = .next (respond m st [] s)) : answers i st :=
    ⟨_, hi, respond_refused m m.isLt st s h.boxes⟩
  have hanswered {i : Instr} {r r' : List Byte} {u : State} (hi : exec i s = .next (respond m stOk r u)) (hr : r = r')
      (hb : u.mbx.box.length = 16) : ∃ t, exec i s = .next t ∧ Replied m stOk r' u t :=
    ⟨_, hi, hr ▸ respond_replied m m.isLt stOk r u hb (.inl rfl)⟩
  refine ⟨fun h => ?_, fun h => ⟨fun hx => ?_, fun x hx ht hs hslots => ?_⟩, fun h => ⟨fun hx => ?_, fun x hx => ?_⟩,
    fun h => ?_, fun h => ?_, fun h => ?_, fun h => ?_, fun h => ?_⟩
  · intro d i x closed fits conflict others
    have hx : openRequest s m = x := rfl
    have hd : dataWindow x = d := rfl
    have hi : x.indexWindows.headD ⟨0, 0⟩ = i := rfl
    have hsid : x.sid = sid := rfl
    have hrefuse {st : BitVec 16} (hs : openFault s x = some st) : answers (.streamOpen m) st :=
      hrefused h (exec_streamOpen_refused h (by rw [hx]; exact hs))
    have hbind (hs : openFault s x = none) : exec (.streamOpen m) s = .next (respond m stOk [] (streamBound m s)) :=
      exec_streamOpen_bound h (by rw [hx]; exact hs)
    have hbound : streamBound m s = bankWritten 0x10 (2 * sid) (bindStream x s) := by rw [streamBound, hx]
    have hstr : (streamBound m s).str = (bindStream x s).str := by rw [streamBound_str, hx]
    have hclosed : streamState s x.sid = .closed ↔ closed := streamState_closed
    clear_value x
    refine ⟨fun hno => ?_, fun hc hunfit => ?_, fun n hc hn hf => ?_⟩
    · exact hrefuse (openFault_running (mt hclosed.mp hno))
    · exact hrefuse (openFault_unfit (hclosed.mpr hc) (by rw [hd, hi]; exact hunfit))
    have hfault := openFault_fits (hclosed.mpr hc) hn (by rw [hd, hi]; exact hf)
    have hconflict : windowConflict s sid x.ns [d, i] = true ↔ conflict := windowConflict_iff _ _ _ _
    rw [hd, hi, hsid] at hfault
    refine ⟨fun hb => ?_, fun hb hl => ?_, fun hb ht hk => ?_, fun hb hl => ⟨fun ht hk => ?_, fun ht k hk hlive hclosing => ?_⟩⟩
    · exact hrefuse (hfault.trans (if_pos (hconflict.mpr hb)))
    · refine hrefuse (hfault.trans ((if_neg (mt hconflict.mp hb)).trans ?_))
      rw [if_pos hl, ite_self]
    · exact hrefuse (hfault.trans ((if_neg (mt hconflict.mp hb)).trans (if_pos ⟨ht, (takeRefuses_iff _ _).mpr hk⟩)))
    · have hnone := hfault.trans ((if_neg (mt hconflict.mp hb)).trans ((if_neg fun hc => hc.1 ht).trans (if_neg hl)))
      have hreplied := streamBound_replied h
      rw [hbound, bindStream_alone (by rw [ht, hk])] at hreplied
      refine ⟨_, hbind hnone, ?_⟩
      rw [hbound, bindStream_alone (by rw [ht, hk])]
      rw [putStream, hsid] at hreplied ⊢
      exact hreplied
    · have htakes : ¬ (x.take ≠ 0xFFFF ∧ takeRefuses s x.take = true) := fun hc =>
        Bool.false_ne_true ((takeRefuses_forming hk hlive hclosing).symm.trans hc.2)
      have hnone := hfault.trans ((if_neg (mt hconflict.mp hb)).trans ((if_neg htakes).trans (if_neg hl)))
      obtain ⟨htake, hself, hothers⟩ := bindStream_joined hk hlive
      rw [hsid] at htake hothers
      exact ⟨_, _, hbind hnone, streamBound_replied h, streamBound_eq m s,
        (findTake_congr hstr x.take).trans htake, (findStream_congr hstr sid).trans (by rw [← hsid]; exact hself),
        fun j hj => (findStream_congr hstr j).trans (hothers j hj)⟩
  · exact hrefused h (exec_streamClose_refused h hx)
  · obtain ⟨t, v, u, hexec, haccepted, ⟨y, hy, hdrain, hheld⟩, hothers, hframe⟩ := exec_streamClose_drains h hx ht hs hslots
    exact ⟨t, v, u, y, hexec, haccepted, hy, hdrain, hheld, hothers, hframe⟩
  · refine hanswered (exec_streamStatus h) ?_ h.boxes
    exact streamStatusBytes_none hx
  · refine hanswered (exec_streamStatus h) ?_ h.boxes
    have hcode : code x.state = streamCode x.state := by cases x.state <;> rfl
    rw [hcode]
    exact streamStatusBytes_some hx
  · intro w data inside shape hits conflict
    have hw : extendWindow s m = w := rfl
    have hrefuse {st : BitVec 16} (hs : extendFault s sid (p 10 1) w = some st) : answers (.streamExtendWindow m) st :=
      hrefused h (exec_streamExtendWindow_refused h hs)
    refine ⟨fun hx => hrefuse (extendFault_stopped hx), fun x hx hclosed hdrain => ?_⟩
    have hruns : ¬ (x.state = .closed ∨ x.state = .draining) := not_or.mpr ⟨hclosed, hdrain⟩
    refine ⟨fun hunfit => hrefuse (extendFault_unfit hx hruns hunfit), fun n hn hshape hinside hown => ?_⟩
    have hfault := extendFault_fits (w := w) (chain := p 10 1) hx hruns hn ⟨hshape, hinside, hown⟩
    have hconflict : windowConflict s sid x.ns [w] = true ↔ conflict x.ns := by
      rw [windowConflict_iff]
      simp only [List.mem_singleton, exists_eq_left]
      rfl
    refine ⟨fun hb => ?_, fun hb hfull => ?_, fun hb hroom => ?_⟩
    · exact hrefuse (hfault.trans (if_pos (hconflict.mpr hb)))
    · exact hrefuse (hfault.trans ((if_neg (mt hconflict.mp hb)).trans (if_pos hfull)))
    · have hnone := hfault.trans ((if_neg (mt hconflict.mp hb)).trans (if_neg (Nat.not_le.mpr hroom)))
      have hextended := (OnStream.refl hx).update (extendStream (p 10 1) w) fun _ => by
        rw [extendStream_eq]
      refine ⟨_, _, _, exec_streamExtendWindow_queued h hnone hextended.found, hextended.found, extendStream_eq _ _ _,
        extendStream_lowLogged _ _ _, hextended.others, rfl, ?_⟩
      exact respond_replied m m.isLt _ _ _ h.boxes (.inl rfl)
  · intro fc fn conflict ask
    have hexec := exec_bufferPartition h
    have hconflict : partitionConflict s fc fn = true ↔ conflict := partitionConflict_iff s fc fn
    refine ⟨fun hask => ?_, fun hask hb => ?_, fun hask hb => ?_⟩
    · exact hanswered (hexec.trans (congrArg Host.Outcome.next (if_pos hask))) (partitionBytes_eq s) h.boxes
    · exact hrefused h (hexec.trans (congrArg Host.Outcome.next ((if_neg hask).trans (if_pos (hconflict.mpr hb)))))
    · have hset := hexec.trans (congrArg Host.Outcome.next ((if_neg hask).trans (if_neg (mt hconflict.mp hb))))
      have hboxes : (partitioned fc fn s).mbx.box.length = 16 := by
        rw [partitioned_frame]
        exact h.boxes
      obtain ⟨t, ht, hreplied⟩ := hanswered (u := partitioned fc fn s) hset (partitioned_bytes fc fn s) hboxes
      exact ⟨t, _, ht, hreplied, partitioned_logged fc fn s, partitioned_frame fc fn s⟩
  · refine ⟨fun hk => ?_, fun hk => ?_⟩
    · exact hrefused h ((exec_takeOpen h).trans (congrArg Host.Outcome.next (if_pos (Option.isSome_iff_ne_none.mpr hk))))
    · refine hanswered ((exec_takeOpen h).trans (congrArg Host.Outcome.next (if_neg ?_))) rfl h.boxes
      rw [show findTake s (reqField s m 8 1) = none from hk]
      exact Bool.false_ne_true
  · exact ⟨fun hk => hrefused h (exec_takeClose_refused h hk),
      fun k hk hclosing hne hslots hids => exec_takeClose_drains h hk hclosing hne hslots hids⟩
  · refine ⟨fun hx => hanswered (exec_frameIndexRead_none h hx) rfl h.boxes, fun x hx => ?_⟩
    intro placed es body
    have hentries : es.flatMap entryBytes = es.flatMap fun e => body e ++ leBytes 4 (crc32c (body e)) :=
      List.flatMap_congr fun e _ => entryBytes_eq e
    exact hanswered (exec_frameIndexRead_some h hx) (by rw [← hentries]) h.boxes

end Sys2Proof.Proofs
end

section
/-! What a fetched NVMe command does when it begins and when it ends, as O35 to O40 use it. -/

namespace Sys2Proof.Proofs

open Sys2Proof Sys2Proof.Machine Sys2Proof.Safety Sys2Proof.Laws

/-! ## Fields of Dwords -/

theorem field_eq (n lo w : Nat) : field n lo w = n / 2 ^ lo % 2 ^ w := by
  rw [field, Nat.shiftRight_eq_div_pow]

theorem field_low (n w : Nat) : field n 0 w = n % 2 ^ w := by
  rw [field_eq, pow_zero, Nat.div_one]

theorem field_high (x : BitVec 32) : field x.toNat 16 16 = x.toNat / 65536 := by
  rw [field_eq]
  exact Nat.mod_eq_of_lt (by omega)

/-! ## A command that begins (R33, R94) -/

theorem findCmd_key {s : State} {sq : Nat} {cid : BitVec 16} {c : Cmd} (h : findCmd s sq cid = some c) :
    c.sq = sq ∧ c.sqe.cid = cid := by
  have hp := List.find?_some h
  simpa [isCmd] using hp

section Begins

variable {s : State} {sq : Nat} {cid : BitVec 16} {op : Nat} {c : Cmd}

theorem onCmd_begun (h : Begins s sq cid op c) (body : Cmd → State → State) : onCmd sq cid [op] body s = body c s := by
  have hready : ready s sq cid [op] = some c := by
    simp [ready, h.serves, h.found, h.fresh, h.opcode]
  rw [onCmd, hready]

theorem onAdmin_begun (h : Begins s 0 cid op c) (body : Cmd → State → State) : onAdmin cid op body s = body c s :=
  onCmd_begun h body

theorem onIo_begun (h : Begins s sq cid op c) (hsq : sq ≠ 0) (body : Cmd → State → State) :
    onIo sq cid [op] body s = body c s :=
  (if_neg hsq).trans (onCmd_begun h body)

theorem onFeature_begun {fid : Nat} (h : Begins s 0 cid 0x09 c) (hf : c.sqe.cdw10.toNat % 256 = fid)
    (body : Cmd → State → State) : onFeature cid fid body s = body c s := by
  rw [onFeature, onAdmin_begun h, sqeFeature, field_low]
  exact if_pos hf

end Begins

/-! ## A command's end leaves the queue it is in (R94) -/

theorem isCmd_iff {sq : Nat} {cid : BitVec 16} {c : Cmd} : isCmd sq cid c = true ↔ c.sq = sq ∧ c.sqe.cid = cid := by
  simp [isCmd]

/-- A command's record changed, in the words of the claims. -/
theorem updateCmd_eq (sq : Nat) (cid : BitVec 16) (f : Cmd → Cmd) (s : State) : updateCmd sq cid f s = { s with
    nv := { s.nv with cmds := s.nv.cmds.map fun x => if x.sq = sq ∧ x.sqe.cid = cid then f x else x } } := by
  simp only [updateCmd, changeWhere, isCmd_iff]

theorem padWanted_frame (s : State) : padWanted s = { s with map := { s.map with sbs := (padWanted s).map.sbs } } :=
  eq_of_sansSbs (sansSbs_padWanted s)

end Sys2Proof.Proofs
end

section
/-! Proofs about Set Features and Get Features (O37). -/

namespace Sys2Proof.Proofs

open Sys2Proof Sys2Proof.Machine Sys2Proof.Safety Sys2Proof.Laws

/-! ## Set Features (R94, R97, R110, R328, R363) -/

section SetFeatures

variable {s : State} {cid : BitVec 16} {c : Cmd}

theorem exec_setArbitration (h : Begins s 0 cid 0x09 c) (hf : c.sqe.cdw10.toNat % 256 = 0x01) :
    exec (.setArbitration cid) s = .next (adminOk c { s with nv := { s.nv with arbitration := c.sqe.cdw11 } }) :=
  congrArg Host.Outcome.next (onFeature_begun h hf _)

theorem exec_setPowerManagement (h : Begins s 0 cid 0x09 c) (hf : c.sqe.cdw10.toNat % 256 = 0x02) :
    exec (.setPowerManagement cid) s = .next (
      if 2 < c.sqe.cdw11.toNat % 32 then adminFail c 0x02 s
      else adminOk c { s with nv := { s.nv with powerState := c.sqe.cdw11.toNat % 32 } }) := by
  rw [show c.sqe.cdw11.toNat % 32 = _ from (field_low _ 5).symm]
  exact congrArg Host.Outcome.next (onFeature_begun h hf _)

/-- The threshold that a Set Features of the temperature threshold sets, of a kind and a sensor. -/
def thresholdSet (c : Cmd) (sel kind : Nat) (s : State) : State :=
  match kind with
  | 0 => if 5 < sel then adminFail c 0x02 s
    else adminOk c { s with nv := { s.nv with tempOver := s.nv.tempOver.set sel (c.sqe.cdw11.toNat % 65536) } }
  | 1 => if 5 < sel then adminFail c 0x02 s
    else adminOk c { s with nv := { s.nv with tempUnder := s.nv.tempUnder.set sel (c.sqe.cdw11.toNat % 65536) } }
  | _ => adminFail c 0x02 s

theorem exec_setTemperatureThreshold (h : Begins s 0 cid 0x09 c) (hf : c.sqe.cdw10.toNat % 256 = 0x04) :
    exec (.setTemperatureThreshold cid) s =
      .next (thresholdSet c (c.sqe.cdw11.toNat / 65536 % 16) (c.sqe.cdw11.toNat / 2 ^ 20 % 4) s) := by
  unfold thresholdSet
  rw [show c.sqe.cdw11.toNat / 65536 % 16 = _ from (field_eq _ 16 4).symm,
    show c.sqe.cdw11.toNat / 2 ^ 20 % 4 = _ from (field_eq _ 20 2).symm]
  exact congrArg Host.Outcome.next (onFeature_begun h hf _)

theorem exec_setVolatileWriteCache (h : Begins s 0 cid 0x09 c) (hf : c.sqe.cdw10.toNat % 256 = 0x06) :
    exec (.setVolatileWriteCache cid) s =
      .next (adminOk c (padWanted { s with nv := { s.nv with wce := c.sqe.cdw11.getLsbD 0 } })) :=
  congrArg Host.Outcome.next (onFeature_begun h hf _)

theorem exec_setNumberOfQueues (h : Begins s 0 cid 0x09 c) (hf : c.sqe.cdw10.toNat % 256 = 0x07) :
    exec (.setNumberOfQueues cid) s = .next (
      let sq := c.sqe.cdw11.toNat % 65536
      let cq := c.sqe.cdw11.toNat / 65536
      if sq = 65535 ∨ cq = 65535 then adminFail c 0x02 s
      else adminDw c (min (sq + 1) 2047 - 1 + 65536 * (min (cq + 1) 2047 - 1))
        { s with nv := { s.nv with grantedSq := min (sq + 1) 2047, grantedCq := min (cq + 1) 2047 } }) := by
  rw [show c.sqe.cdw11.toNat % 65536 = _ from (field_low _ 16).symm, ← field_high]
  exact congrArg Host.Outcome.next (onFeature_begun h hf _)

theorem exec_setInterruptCoalescing (h : Begins s 0 cid 0x09 c) (hf : c.sqe.cdw10.toNat % 256 = 0x08) :
    exec (.setInterruptCoalescing cid) s = .next (adminOk c { s with nv := { s.nv with
      coalesceThreshold := c.sqe.cdw11.toNat % 256, coalesceTime := c.sqe.cdw11.toNat / 256 % 256 } }) := by
  rw [show c.sqe.cdw11.toNat / 256 % 256 = _ from (field_eq _ 8 8).symm]
  exact congrArg Host.Outcome.next (onFeature_begun h hf _)

theorem exec_setAutonomousPowerState (h : Begins s 0 cid 0x09 c) (hf : c.sqe.cdw10.toNat % 256 = 0x0C)
    (table : List (BitVec 64)) : exec (.setAutonomousPowerState cid table) s =
      .next (adminOk c { s with nv := { s.nv with apstOn := c.sqe.cdw11.getLsbD 0, apst := table } }) :=
  congrArg Host.Outcome.next (onFeature_begun h hf _)

end SetFeatures

/-! ## Get Features (R103, R110) -/

section GetFeatures

variable {s : State} {cid : BitVec 16} {c : Cmd}

/-- A Get Features whose Select is 0 of a feature that is offered, without a row of its own. -/
theorem exec_getFeatures {x : Nat} (h : Begins s 0 cid 0x0A c) (hsel : c.sqe.cdw10.toNat / 256 % 8 = 0)
    (hf : c.sqe.cdw10.toNat % 256 ≠ 0x06) (hx : featureValue s c.sqe = some x) : exec (.getFeatures cid) s =
      .next (adminDw c x (if c.sqe.cdw10.toNat % 256 = 0x0C then
          emit (.hostFields cid (s.nv.apst.mapIdx fun i e => (8 * i, 8, e.toNat))) s else s)) := by
  have hfid : sqeFeature c.sqe = c.sqe.cdw10.toNat % 256 := field_low _ 8
  have hselect : field c.sqe.cdw10.toNat 8 3 = 0 := (field_eq _ 8 3).trans hsel
  refine congrArg Host.Outcome.next ((onAdmin_begun h _).trans ?_)
  simp only [hfid, hselect, hf, hx, false_and, if_false, ne_eq, not_true_eq_false]

theorem exec_getFeatures_none (h : Begins s 0 cid 0x0A c) (hsel : c.sqe.cdw10.toNat / 256 % 8 = 0)
    (hf : c.sqe.cdw10.toNat % 256 ≠ 0x06) (hx : featureValue s c.sqe = none) :
    exec (.getFeatures cid) s = .next (adminFail c 0x02 s) := by
  have hfid : sqeFeature c.sqe = c.sqe.cdw10.toNat % 256 := field_low _ 8
  have hselect : field c.sqe.cdw10.toNat 8 3 = 0 := (field_eq _ 8 3).trans hsel
  refine congrArg Host.Outcome.next ((onAdmin_begun h _).trans ?_)
  simp only [hfid, hselect, hf, hx, false_and, if_false, ne_eq, not_true_eq_false]

theorem exec_getFeatures_select (h : Begins s 0 cid 0x0A c) (hsel : c.sqe.cdw10.toNat / 256 % 8 ≠ 0) :
    exec (.getFeatures cid) s = .next (adminFail c 0x02 s) := by
  have hselect : field c.sqe.cdw10.toNat 8 3 ≠ 0 := (field_eq _ 8 3).trans_ne hsel
  refine congrArg Host.Outcome.next ((onAdmin_begun h _).trans ?_)
  rw [if_neg (fun hb => hselect hb.2), if_pos hselect]

theorem exec_getVolatileWriteCache (h : Begins s 0 cid 0x0A c) : exec (.getVolatileWriteCache cid) s = .next (
    if c.sqe.cdw10.toNat % 256 = 0x06 ∧ c.sqe.cdw10.toNat / 256 % 8 = 0 then
      adminDw c (flag (s.nv.wce && !s.hup.protectedMode)) s
    else s) := by
  rw [← show sqeFeature c.sqe = c.sqe.cdw10.toNat % 256 from field_low _ 8,
    ← show field c.sqe.cdw10.toNat 8 3 = c.sqe.cdw10.toNat / 256 % 8 from field_eq _ 8 3]
  exact congrArg Host.Outcome.next (onAdmin_begun h _)

theorem featureValue_over {e : Sqe} (hf : sqeFeature e = 0x04) (hk : e.cdw11.toNat / 2 ^ 20 % 4 = 0) :
    featureValue s e = s.nv.tempOver[e.cdw11.toNat / 65536 % 16]? := by
  rw [show e.cdw11.toNat / 65536 % 16 = _ from (field_eq _ 16 4).symm]
  simp only [featureValue, hf, (field_eq _ 20 2).trans hk]

theorem featureValue_under {e : Sqe} (hf : sqeFeature e = 0x04) (hk : e.cdw11.toNat / 2 ^ 20 % 4 = 1) :
    featureValue s e = s.nv.tempUnder[e.cdw11.toNat / 65536 % 16]? := by
  rw [show e.cdw11.toNat / 65536 % 16 = _ from (field_eq _ 16 4).symm]
  simp only [featureValue, hf, (field_eq _ 20 2).trans hk]

theorem featureValue_none {e : Sqe} (hf : sqeFeature e ∉ [0x01, 0x02, 0x04, 0x06, 0x07, 0x08, 0x0C]) :
    featureValue s e = none := by
  simp only [List.mem_cons, List.not_mem_nil, or_false, not_or] at hf
  obtain ⟨h1, h2, h4, -, h7, h8, hC⟩ := hf
  simp only [featureValue]

end GetFeatures

/-! ## The obligation -/

/-- Settles O37: Set Features keeps what each feature's Dword 11 gives, and Get Features returns what is kept. -/
theorem nvmeFeatures : Obligations.NvmeFeatures := by
  unfold Obligations.NvmeFeatures
  intro s cid c table v fid ok bad
  refine ⟨fun h => ?_, fun h => ?_⟩
  · obtain ⟨-, rfl⟩ := findCmd_key h.found
    refine ⟨exec_setArbitration h, fun hf => ?_, fun hf => ?_, fun hf => ?_, fun hf => ?_,
      exec_setInterruptCoalescing h, fun hf => exec_setAutonomousPowerState h hf table⟩
    · exact ⟨fun hp => (exec_setPowerManagement h hf).trans (congrArg _ (if_neg (Nat.not_lt.mpr hp))),
        fun hp => (exec_setPowerManagement h hf).trans (congrArg _ (if_pos hp))⟩
    · intro sel kind
      have hexec := exec_setTemperatureThreshold h hf
      refine ⟨fun hbad => hexec.trans (congrArg _ ?_), fun hs hk => hexec.trans (congrArg _ ?_),
        fun hs hk => hexec.trans (congrArg _ ?_)⟩
      · change thresholdSet c sel kind s = _
        rcases hbad with hs | hk
        · match kind with
          | 0 => exact if_pos hs
          | 1 => exact if_pos hs
          | _ + 2 => rfl
        · match kind, hk with
          | _ + 2, _ => rfl
      · change thresholdSet c sel kind s = _
        rw [hk]
        exact if_neg (Nat.not_lt.mpr hs)
      · change thresholdSet c sel kind s = _
        rw [hk]
        exact if_neg (Nat.not_lt.mpr hs)
    · refine ⟨_, exec_setVolatileWriteCache h hf, ?_⟩
      exact padWanted_frame { s with nv := { s.nv with wce := c.sqe.cdw11.getLsbD 0 } }
    · refine ⟨fun hq => (exec_setNumberOfQueues h hf).trans (congrArg _ (if_pos hq)), fun hq hc => ?_⟩
      intro gs gc
      exact (exec_setNumberOfQueues h hf).trans (congrArg _ (if_neg (not_or.mpr ⟨hq, hc⟩)))
  · intro select dw
    obtain ⟨-, rfl⟩ := findCmd_key h.found
    refine ⟨fun hsel => ⟨exec_getFeatures_select h hsel, ?_⟩, fun hsel => ?_⟩
    · exact (exec_getVolatileWriteCache h).trans (congrArg _ (if_neg fun hb => hsel hb.2))
    have hfid : sqeFeature c.sqe = fid := field_low _ 8
    have hvalue {k x : Nat} (hk : fid = k) (hc : k ≠ 0x0C) (h6 : k ≠ 0x06) (hx : featureValue s c.sqe = some x) :
        dw x s := by
      have hexec := exec_getFeatures h hsel (hk.trans_ne h6) hx
      rw [if_neg (hk.trans_ne hc)] at hexec
      exact hexec
    refine ⟨fun hf => hvalue hf (by decide) (by decide) ?_, fun hf => hvalue hf (by decide) (by decide) ?_,
      fun hf => ⟨fun x hk hx => hvalue hf (by decide) (by decide) ?_, fun x hk hx => hvalue hf (by decide) (by decide) ?_⟩,
      fun hf => ?_, fun hf => hvalue hf (by decide) (by decide) ?_, fun hf => hvalue hf (by decide) (by decide) ?_,
      fun hf => ?_, fun hf => ?_⟩
    · simp only [featureValue, hfid.trans hf]
    · simp only [featureValue, hfid.trans hf]
    · exact (featureValue_over (hfid.trans hf) hk).trans hx
    · exact (featureValue_under (hfid.trans hf) hk).trans hx
    · have hflag : BitVec.ofNat 32 (flag (s.nv.wce && !s.hup.protectedMode)) =
          if s.nv.wce = true ∧ s.hup.protectedMode = false then 1 else 0 := by
        cases s.nv.wce <;> cases s.hup.protectedMode <;> rfl
      unfold Ends
      rw [← hflag]
      exact (exec_getVolatileWriteCache h).trans (congrArg Host.Outcome.next (if_pos ⟨hf, hsel⟩))
    · simp only [featureValue, hfid.trans hf]
    · simp only [featureValue, hfid.trans hf]
    · have hvalue : featureValue s c.sqe = some (flag s.nv.apstOn) := by simp only [featureValue, hfid.trans hf]
      have hexec := exec_getFeatures h hsel (hf.trans_ne (by decide)) hvalue
      rw [if_pos hf] at hexec
      exact hexec
    · exact exec_getFeatures_none h hsel (fun h6 => hf (by rw [show fid = 0x06 from h6]; decide))
        (featureValue_none (hfid ▸ hf))

end Sys2Proof.Proofs
end

section
/-! What the completion and the abort of NVMe commands change, for O36, O38 and O39. -/

namespace Sys2Proof.Proofs

open Sys2Proof Sys2Proof.Machine Sys2Proof.Safety Sys2Proof.Laws

/-! ## A completion (R94, R96, R97) -/

/-- A state without what posting a completion entry writes: completion queues, held completions, pending interrupts,
messages and the counts of host commands. -/
def sansPosts (s : State) : State :=
  { s with nv := { s.nv with cqs := [], held := [], pba := [], hostReads := 0, hostWrites := 0 }, out := [] }

theorem sansPosts_interrupt (v : Nat) (s : State) : sansPosts (interrupt v s) = sansPosts s := by
  rw [interrupt_frame]
  rfl

theorem sansPosts_cqInterrupt (id : Nat) (s : State) : sansPosts (cqInterrupt id s) = sansPosts s := by
  unfold cqInterrupt
  split
  · rfl
  · split
    · rfl
    · split
      · exact sansPosts_interrupt _ _
      · rfl

theorem sansPosts_cqPost (id : Nat) (e : Cqe) (s : State) : sansPosts (cqPost id e s) = sansPosts s := by
  unfold cqPost
  split
  · rfl
  · split
    · exact sansPosts_cqInterrupt _ _
    · rfl

theorem sansPosts_countHost (c : Cmd) (s : State) : sansPosts (countHost c s) = sansPosts s := by
  unfold countHost
  split
  · rfl
  · split
    · rfl
    · split <;> rfl

/-- The commands but one, by queue and identifier. -/
def cmdsBut (sq : Nat) (cid : BitVec 16) (s : State) : State :=
  { s with nv := { s.nv with cmds := s.nv.cmds.filter fun c => !isCmd sq cid c } }

theorem cmdsBut_none {s : State} {sq : Nat} {cid : BitVec 16} (h : findCmd s sq cid = none) : cmdsBut sq cid s = s := by
  have hall : (s.nv.cmds.filter fun c => !isCmd sq cid c) = s.nv.cmds :=
    List.filter_eq_self.mpr fun c hc => by simpa using List.find?_eq_none.mp h c hc
  rw [cmdsBut, hall]

/-- A command that completes is gone; the rest of a completion is its posting. -/
theorem sansPosts_completeCmd (sq : Nat) (cid : BitVec 16) (sct sc : Nat) (dnr : Bool) (dw0 dw1 : Word32) (s : State) :
    sansPosts (completeCmd sq cid sct sc dnr dw0 dw1 s) = sansPosts (cmdsBut sq cid s) := by
  unfold completeCmd
  split
  next hnone => rw [cmdsBut_none hnone]
  next c hc =>
    have hcount := sansPosts_countHost c (cmdsBut sq cid s)
    dsimp only
    split
    · exact hcount
    · split
      · exact (sansPosts_cqPost _ _ _).trans hcount
      · split
        · exact hcount
        · exact hcount

/-! ## Aborts (R94, R111, R114) -/

/-- A state without what ends with I/O that ends: commands and their postings, event requests, what waits for W7 and the
unit reads. -/
def sansIo (s : State) : State :=
  { sansPosts s with
    nv := { (sansPosts s).nv with cmds := [], aers := [] }, ord := { s.ord with waiting := [] }
    intg := { s.intg with reads := [] } }

theorem eq_of_sansIo {s t : State} (h : sansIo t = sansIo s) : t = { s with
    nv := { s.nv with
      cmds := t.nv.cmds, aers := t.nv.aers, cqs := t.nv.cqs, held := t.nv.held, pba := t.nv.pba
      hostReads := t.nv.hostReads, hostWrites := t.nv.hostWrites }
    ord := { s.ord with waiting := t.ord.waiting }, intg := { s.intg with reads := t.intg.reads }, out := t.out } := by
  have hrest : t = { sansIo t with
    nv := { (sansIo t).nv with
      cmds := t.nv.cmds, aers := t.nv.aers, cqs := t.nv.cqs, held := t.nv.held, pba := t.nv.pba
      hostReads := t.nv.hostReads, hostWrites := t.nv.hostWrites }
    ord := { (sansIo t).ord with waiting := t.ord.waiting }, intg := { (sansIo t).intg with reads := t.intg.reads }
    out := t.out } := rfl
  rw [h] at hrest
  exact hrest

theorem sansIo_of_sansPosts {s t : State} (h : sansPosts t = sansPosts s) : sansIo t = sansIo s := by
  have hio (x : State) : sansIo x = sansIo (sansPosts x) := rfl
  rw [hio, h, ← hio]

theorem sansIo_completeCmd (sq : Nat) (cid : BitVec 16) (sct sc : Nat) (dnr : Bool) (dw0 dw1 : Word32) (s : State) :
    sansIo (completeCmd sq cid sct sc dnr dw0 dw1 s) = sansIo s :=
  (sansIo_of_sansPosts (sansPosts_completeCmd sq cid sct sc dnr dw0 dw1 s)).trans rfl

theorem completeCmd_cmds (sq : Nat) (cid : BitVec 16) (sct sc : Nat) (dnr : Bool) (dw0 dw1 : Word32) (s : State) :
    (completeCmd sq cid sct sc dnr dw0 dw1 s).nv.cmds = s.nv.cmds.filter fun c => !isCmd sq cid c :=
  congrArg (·.nv.cmds) (sansPosts_completeCmd sq cid sct sc dnr dw0 dw1 s)

theorem sansIo_abortCmd (c : Cmd) (sct sc : Nat) (dnr : Bool) (s : State) : sansIo (abortCmd c sct sc dnr s) = sansIo s :=
  sansIo_completeCmd _ _ _ _ _ _ _ _

theorem abortCmd_cmds (c : Cmd) (sct sc : Nat) (dnr : Bool) (s : State) :
    (abortCmd c sct sc dnr s).nv.cmds = s.nv.cmds.filter fun d => !isCmd c.sq c.sqe.cid d :=
  completeCmd_cmds _ _ _ _ _ _ _ _

/-- Commands of a list are aborted, one after the other. -/
def abortAll (l : List Cmd) (sc : Nat) (dnr : Bool) (s : State) : State := l.foldl (fun s d => abortCmd d 0 sc dnr s) s

theorem sansIo_abortAll (l : List Cmd) (sc : Nat) (dnr : Bool) (s : State) : sansIo (abortAll l sc dnr s) = sansIo s := by
  induction l generalizing s with
  | nil => rfl
  | cons d l ih => exact (ih _).trans (sansIo_abortCmd d 0 sc dnr s)

theorem mem_abortAll {l : List Cmd} {sc : Nat} {dnr : Bool} {s : State} {d : Cmd} : d ∈ (abortAll l sc dnr s).nv.cmds ↔
    d ∈ s.nv.cmds ∧ ∀ x ∈ l, ¬ (d.sq = x.sq ∧ d.sqe.cid = x.sqe.cid) := by
  induction l generalizing s with
  | nil => simp [abortAll]
  | cons x l ih =>
    refine (ih (s := abortCmd x 0 sc dnr s)).trans ?_
    rw [abortCmd_cmds, List.mem_filter, List.forall_mem_cons, and_assoc, Bool.not_eq_true', ← Bool.not_eq_true, isCmd_iff]

/-- The commands of a queue are found as before where none of it is aborted. -/
theorem findCmd_abortAll {l : List Cmd} {sq : Nat} (h : ∀ x ∈ l, x.sq ≠ sq) (cid : BitVec 16) (sc : Nat) (dnr : Bool)
    (s : State) : findCmd (abortAll l sc dnr s) sq cid = findCmd s sq cid := by
  induction l generalizing s with
  | nil => rfl
  | cons x l ih =>
    obtain ⟨hx, hl⟩ := List.forall_mem_cons.mp h
    refine (ih hl _).trans ?_
    rw [findCmd, abortCmd_cmds, List.find?_filter]
    refine congrArg (fun p => List.find? p s.nv.cmds) (funext fun d => ?_)
    rw [Bool.eq_iff_iff]
    simp only [isCmd, Bool.and_eq_true, Bool.not_eq_true', beq_iff_eq, Bool.and_eq_false_iff, beq_eq_false_iff_ne]
    grind

/-- None of the commands that `p` picks stays when they are aborted. -/
theorem abortAll_picked {s : State} {p : Cmd → Bool} {sc : Nat} {dnr : Bool} {d : Cmd}
    (h : d ∈ (abortAll (s.nv.cmds.filter p) sc dnr s).nv.cmds) : d ∈ s.nv.cmds ∧ p d = false := by
  obtain ⟨hd, hnot⟩ := mem_abortAll.mp h
  refine ⟨hd, Bool.eq_false_iff.mpr fun hp => ?_⟩
  exact hnot d (List.mem_filter.mpr ⟨hd, hp⟩) ⟨rfl, rfl⟩

end Sys2Proof.Proofs
end

section
/-! Proofs about queue creation and deletion, Abort and event requests (O36). -/

namespace Sys2Proof.Proofs

open Sys2Proof Sys2Proof.Machine Sys2Proof.Safety Sys2Proof.Laws

variable {s : State} {cid : BitVec 16} {c : Cmd}

/-! ## Creation of queues (R94) -/

theorem exec_createIoSubmissionQueue (h : Begins s 0 cid 0x01 c) : exec (.createIoSubmissionQueue cid) s = .next (
    let q := c.sqe.cdw10.toNat % 65536
    let size := c.sqe.cdw10.toNat / 65536 + 1
    let cq := c.sqe.cdw11.toNat / 65536
    if q = 0 ∨ s.nv.grantedSq < q ∨ findSq s q ≠ none then adminFailSpecific c 0x01 s
    else if size < 2 ∨ 4096 < size then adminFailSpecific c 0x02 s
    else if c.sqe.cdw11.getLsbD 0 = false then adminFail c 0x02 s
    else if cq = 0 ∨ findCq s cq = none then adminFailSpecific c 0x00 s
    else adminOk c { s with nv := { s.nv with
      sqs := s.nv.sqs ++ [⟨q, size, cq, c.sqe.cdw11.toNat / 2 % 4, 0, 0, []⟩] } }) := by
  dsimp only
  rw [← field_high c.sqe.cdw10, ← field_high c.sqe.cdw11,
    show c.sqe.cdw10.toNat % 65536 = _ from (field_low _ 16).symm,
    show c.sqe.cdw11.toNat / 2 % 4 = _ from (field_eq _ 1 2).symm]
  refine congrArg Host.Outcome.next ((onAdmin_begun h _).trans ?_)
  simp only [Option.isSome_iff_ne_none, Option.isNone_iff_eq_none]

theorem exec_createIoCompletionQueue (h : Begins s 0 cid 0x05 c) : exec (.createIoCompletionQueue cid) s = .next (
    let q := c.sqe.cdw10.toNat % 65536
    let size := c.sqe.cdw10.toNat / 65536 + 1
    let iv := c.sqe.cdw11.toNat / 65536
    if q = 0 ∨ s.nv.grantedCq < q ∨ findCq s q ≠ none then adminFailSpecific c 0x01 s
    else if size < 2 ∨ 4096 < size then adminFailSpecific c 0x02 s
    else if c.sqe.cdw11.getLsbD 0 = false then adminFail c 0x02 s
    else if 2048 ≤ iv then adminFailSpecific c 0x08 s
    else adminOk c { s with nv := { s.nv with
      cqs := s.nv.cqs ++ [⟨q, size, iv, c.sqe.cdw11.getLsbD 1, 0, 0, true, [], [], 0⟩] } }) := by
  dsimp only
  rw [← field_high c.sqe.cdw10, ← field_high c.sqe.cdw11,
    show c.sqe.cdw10.toNat % 65536 = _ from (field_low _ 16).symm]
  refine congrArg Host.Outcome.next ((onAdmin_begun h _).trans ?_)
  simp only [Option.isSome_iff_ne_none]

/-! ## Deletion of queues (R94) -/

/-- A deletion of submission queue `q` has begun: nothing of it is fetched any more, and its commands before their point
of no return are aborted. -/
def queueEmptied (q : Nat) (s : State) : State :=
  let t := updateSq q (fun x => { x with entries := [] }) s
  abortAll (t.nv.cmds.filter fun d => d.sq == q && !pastReturn d) 0x08 true t

theorem exec_deleteIoSubmissionQueue (h : Begins s 0 cid 0x00 c) : exec (.deleteIoSubmissionQueue cid) s = .next (
    let q := c.sqe.cdw10.toNat % 65536
    if q = 0 ∨ findSq s q = none then adminFailSpecific c 0x01 s
    else fetchAll (updateCmd 0 cid (fun x => { x with stage := .running }) (queueEmptied q s))) := by
  dsimp only
  rw [show c.sqe.cdw10.toNat % 65536 = _ from (field_low _ 16).symm]
  refine congrArg Host.Outcome.next ((onAdmin_begun h _).trans ?_)
  simp only [Option.isNone_iff_eq_none]
  rfl

theorem exec_deleteIoCompletionQueue (h : Begins s 0 cid 0x04 c) : exec (.deleteIoCompletionQueue cid) s = .next (
    let q := c.sqe.cdw10.toNat % 65536
    if q = 0 ∨ findCq s q = none then adminFailSpecific c 0x01 s
    else if ∃ x ∈ s.nv.sqs, x.cq = q then adminFailSpecific c 0x0C s
    else adminOk c { s with nv := { s.nv with cqs := s.nv.cqs.filter fun x => x.id != q } }) := by
  dsimp only
  rw [show c.sqe.cdw10.toNat % 65536 = _ from (field_low _ 16).symm]
  refine congrArg Host.Outcome.next ((onAdmin_begun h _).trans ?_)
  simp only [Option.isNone_iff_eq_none, List.any_eq_true, beq_iff_eq]

theorem sansIo_queueEmptied (q : Nat) (s : State) :
    sansIo (queueEmptied q s) = sansIo (updateSq q (fun x => { x with entries := [] }) s) :=
  sansIo_abortAll _ _ _ _

theorem findSq_updateSq (q : Nat) (f : Sq → Sq) (hf : ∀ x, (f x).id = x.id) (s : State) :
    findSq (updateSq q f s) q = (findSq s q).map f :=
  (find_changeWhere Sq.id q q f hf s.nv.sqs).trans (if_pos rfl)

theorem findSq_queueEmptied {q : Nat} (h : findSq s q ≠ none) :
    ∃ x, findSq (queueEmptied q s) q = some x ∧ x.entries = [] := by
  obtain ⟨y, hy⟩ := Option.ne_none_iff_exists'.mp h
  have hsqs : (queueEmptied q s).nv.sqs = (updateSq q (fun x => { x with entries := [] }) s).nv.sqs :=
    congrArg (·.nv.sqs) (sansIo_queueEmptied q s)
  refine ⟨{ y with entries := [] }, ?_, rfl⟩
  rw [findSq, hsqs]
  refine (findSq_updateSq q (fun x => { x with entries := [] }) (fun _ => rfl) s).trans ?_
  rw [hy]
  rfl

theorem find_changeWhere_self {α : Type} {p : α → Bool} {f : α → α} (hf : ∀ x, p (f x) = p x) (l : List α) :
    (changeWhere p f l).find? p = (l.find? p).map f := by
  have hp : (p ∘ fun x => if p x = true then f x else x) = p := by
    funext x
    simp only [Function.comp_apply]
    split
    · exact hf x
    · rfl
  rw [changeWhere, List.find?_map, hp]
  cases hx : l.find? p with
  | none => rfl
  | some x => exact congrArg some (if_pos (List.find?_some hx))

theorem findCmd_updateCmd {sq : Nat} {d : Cmd} (f : Cmd → Cmd) (hf : ∀ x, (f x).sq = x.sq ∧ (f x).sqe = x.sqe)
    (h : findCmd s sq cid = some d) : findCmd (updateCmd sq cid f s) sq cid = some (f d) := by
  have hkey (x : Cmd) : isCmd sq cid (f x) = isCmd sq cid x := by simp only [isCmd, (hf x).1, (hf x).2]
  refine (find_changeWhere_self hkey s.nv.cmds).trans ?_
  rw [show s.nv.cmds.find? (isCmd sq cid) = some d from h]
  rfl

theorem mem_updateCmd_other {sq : Nat} {d : Cmd} (f : Cmd → Cmd) (hf : ∀ x, (f x).sq = x.sq) (hd : d.sq ≠ sq) :
    d ∈ (updateCmd sq cid f s).nv.cmds ↔ d ∈ s.nv.cmds := by
  rw [updateCmd_eq]
  simp only [List.mem_map]
  constructor
  · rintro ⟨x, hx, rfl⟩
    split at hd
    next hk => exact absurd ((hf x).trans hk.1) hd
    next hk => rwa [if_neg hk]
  · exact fun h => ⟨d, h, if_neg fun hk => hd hk.1⟩

theorem pastReturn_io {d : Cmd} (h : d.sq ≠ 0) : pastReturn d = (d.seq != 0) := if_neg h

/-- What a deletion's beginning leaves: the queue without entries, its commands past their point of no return. -/
theorem queueEmptied_left {q : Nat} (hq : q ≠ 0) {d : Cmd} (h : d ∈ (queueEmptied q s).nv.cmds) (hd : d.sq = q) :
    d.seq ≠ 0 := by
  obtain ⟨-, hp⟩ := abortAll_picked h
  simpa [hd, pastReturn_io (hd.trans_ne hq)] using hp

theorem queueEmptied_kept {q : Nat} (hq : q ≠ 0) {d : Cmd} (h : d ∈ s.nv.cmds)
    (hall : ∀ b ∈ s.nv.cmds, b.sq = q → b.sqe.cid = d.sqe.cid → b.seq ≠ 0) : d ∈ (queueEmptied q s).nv.cmds := by
  refine mem_abortAll.mpr ⟨h, fun x hx hkey => ?_⟩
  obtain ⟨hxs, hp⟩ := List.mem_filter.mp hx
  simp only [Bool.and_eq_true, beq_iff_eq] at hp
  obtain ⟨hxq, hnot⟩ := hp
  rw [pastReturn_io (hxq.trans_ne hq)] at hnot
  exact hall x hxs hxq hkey.2.symm (by simpa using hnot)

/-! ## Abort (R111) -/

section Abort

variable {sq : Nat} {target : BitVec 16}

theorem exec_abort_limit (h : Begins s 0 cid 0x08 c) (hahead : 32 ≤ abortsAhead s cid) :
    exec (.abort cid) s = .next (adminFailSpecific c 0x03 s) :=
  congrArg Host.Outcome.next ((onAdmin_begun h _).trans (if_pos hahead))

/-- What an Abort does to a command that is not past its point of no return, or whose entry is not. -/
theorem exec_abort (h : Begins s 0 cid 0x08 c) (hahead : abortsAhead s cid < 32)
    (hsq : c.sqe.cdw10.toNat % 65536 = sq) (htarget : BitVec.ofNat 16 (c.sqe.cdw10.toNat / 65536) = target) :
    (findCmd s sq target = none → unposted s sq target = none → exec (.abort cid) s = .next (adminDw c 1 s)) ∧
    (∀ e, findCmd s sq target = none → unposted s sq target = some e → exec (.abort cid) s = .next (
      if e.early then adminDw c 0 (abortUnposted sq target s) else adminDw c 1 (logAbortRace sq target s))) ∧
    (∀ t, findCmd s sq target = some t → exec (.abort cid) s = .next (
      if pastReturn t then adminDw c 1 (logAbortRace sq target s) else adminDw c 0 (abortCmd t 0 0x07 false s))) := by
  have hfield : field c.sqe.cdw10.toNat 0 16 = sq := (field_low _ 16).trans hsq
  have hlow : ¬ 32 ≤ abortsAhead s cid := Nat.not_le.mpr hahead
  have hrun : exec (.abort cid) s = .next (onAdmin cid 0x08 _ s) := rfl
  rw [onAdmin_begun h] at hrun
  simp only [hfield, field_high, htarget, if_neg hlow] at hrun
  refine ⟨fun hf hu => ?_, fun e hf hu => ?_, fun t hf => ?_⟩
  · simpa only [hf, hu] using hrun
  · simpa only [hf, hu] using hrun
  · simpa only [hf] using hrun

end Abort

/-- Completion entries that wait to be posted, in the order an Abort looks for them. -/
def unpostedList (s : State) : List Cqe := s.nv.cqs.flatMap (·.overflow) ++ s.nv.held.map (·.2)

/-- An entry of Command Abort Requested in the place of another (R117). -/
def abortedEntry (e : Cqe) : Cqe := { e with dw0 := 0, dw1 := 0, sct := 0, sc := 0x07, dnr := false, early := false }

theorem unpostedList_abortUnposted (sq : Nat) (target : BitVec 16) (s : State) : unpostedList (abortUnposted sq target s) =
    changeWhere (fun e => e.sqId == sq && e.cid == target) abortedEntry (unpostedList s) := by
  simp only [unpostedList, abortUnposted, changeWhere, List.map_append, List.flatMap_map, List.map_flatMap, List.map_map]
  refine congrArg₂ _ rfl (List.map_congr_left fun x _ => ?_)
  simp only [Function.comp_apply]
  split <;> rfl

theorem unposted_abortUnposted (sq : Nat) (target : BitVec 16) (s : State) :
    unposted (abortUnposted sq target s) sq target = (unposted s sq target).map abortedEntry := by
  have hlist := unpostedList_abortUnposted sq target s
  change (unpostedList _).find? _ = ((unpostedList s).find? _).map abortedEntry
  rw [hlist]
  exact find_changeWhere_self (f := abortedEntry) (fun _ => rfl) (unpostedList s)

theorem logAbortRace_logged (q : Nat) (target : BitVec 16) (s : State) :
    Logged [(0x0301, blockUnit 2, evData [(1, 0), (1, 0), (2, q), (4, target.toNat)])] s (logAbortRace q target s) ∧
      logAbortRace q target s =
        { s with evr := (logAbortRace q target s).evr, pins := (logAbortRace q target s).pins } :=
  ⟨⟨rfl, rfl⟩, rfl⟩

theorem pastReturn_iff (t : Cmd) : pastReturn t = true ↔ if t.sq = 0 then t.sqe.opcode ≠ 0x0C else t.seq ≠ 0 := by
  unfold pastReturn
  split <;> simp

/-! ## Asynchronous Event Requests (R103) -/

theorem exec_asynchronousEventRequest (h : Begins s 0 cid 0x0C c) : exec (.asynchronousEventRequest cid) s = .next (
    if 4 ≤ s.nv.aers.length then adminFailSpecific c 0x05 s
    else updateCmd 0 cid (fun x => { x with stage := .running })
      { s with nv := { s.nv with aers := s.nv.aers ++ [cid] } }) :=
  congrArg Host.Outcome.next (onAdmin_begun h _)

/-! ## The obligation -/

/-- Settles O36: each command by its checks in order; what a deletion or an Abort ends is what `abortAll` and
`dropEffects` leave. -/
theorem nvmeQueueAdmin : Obligations.NvmeQueueAdmin := by
  unfold Obligations.NvmeQueueAdmin
  intro s cid c e q size high ok specific
  refine ⟨fun h => ?_, fun h => ?_, fun h => ?_, fun h => ?_, fun h => ?_, fun h => ?_⟩
  · intro bad small
    have hexec := exec_createIoSubmissionQueue h
    obtain ⟨-, rfl⟩ := findCmd_key h.found
    refine ⟨fun hb => hexec.trans (congrArg _ (if_pos hb)),
      fun hb hs => hexec.trans (congrArg _ ((if_neg hb).trans (if_pos hs))), fun hb hs hc => ?_, fun hb hs hc => ?_⟩
    · exact hexec.trans (congrArg _ ((if_neg hb).trans ((if_neg hs).trans (if_pos hc))))
    · have hmade := hexec.trans (congrArg _ ((if_neg hb).trans ((if_neg hs).trans (if_neg (Bool.not_eq_false _ ▸ hc)))))
      exact ⟨fun hn => hmade.trans (congrArg _ (if_pos hn)),
        fun h0 hn => hmade.trans (congrArg _ (if_neg (not_or.mpr ⟨h0, hn⟩)))⟩
  · intro bad small
    have hexec := exec_createIoCompletionQueue h
    obtain ⟨-, rfl⟩ := findCmd_key h.found
    refine ⟨fun hb => hexec.trans (congrArg _ (if_pos hb)),
      fun hb hs => hexec.trans (congrArg _ ((if_neg hb).trans (if_pos hs))), fun hb hs hc => ?_, fun hb hs hc => ?_⟩
    · exact hexec.trans (congrArg _ ((if_neg hb).trans ((if_neg hs).trans (if_pos hc))))
    · have hmade := hexec.trans (congrArg _ ((if_neg hb).trans ((if_neg hs).trans (if_neg (Bool.not_eq_false _ ▸ hc)))))
      exact ⟨fun hv => hmade.trans (congrArg _ (if_pos hv)),
        fun hv => hmade.trans (congrArg _ (if_neg (Nat.not_le.mpr hv)))⟩
  · have hexec := exec_deleteIoSubmissionQueue h
    have hkey := findCmd_key h.found
    refine ⟨fun hn => ?_, fun hq hn => ?_⟩
    · obtain ⟨-, rfl⟩ := hkey
      exact hexec.trans (congrArg _ (if_pos hn))
    refine ⟨_, hexec.trans (congrArg _ (if_neg (not_or.mpr ⟨hq, hn⟩))), findSq_queueEmptied hn, ⟨_, ?_, rfl⟩, ?_, ?_, ?_⟩
    · refine findCmd_updateCmd (fun x => { x with stage := .running }) (fun _ => ⟨rfl, rfl⟩) ?_
      refine (findCmd_abortAll (fun x hx => ?_) cid 0x08 true _).trans h.found
      obtain ⟨-, hx⟩ := List.mem_filter.mp hx
      simp only [Bool.and_eq_true, beq_iff_eq] at hx
      exact hx.1.trans_ne hq
    · intro d hd hdq
      have hother := mem_updateCmd_other (s := queueEmptied q s) (cid := cid)
        (fun x => { x with stage := .running }) (fun _ => rfl) (hdq.trans_ne hq)
      exact queueEmptied_left hq (hother.mp hd) hdq
    · intro d hd hdq _ hall
      have hother := mem_updateCmd_other (s := queueEmptied q s) (cid := cid)
        (fun x => { x with stage := .running }) (fun _ => rfl) (hdq.trans_ne hq)
      exact hother.mpr (queueEmptied_kept hq hd hall)
    · have hframe := eq_of_sansIo (sansIo_queueEmptied q s)
      generalize queueEmptied q s = v at hframe
      rw [hframe]
      rfl
  · have hexec := exec_deleteIoCompletionQueue h
    obtain ⟨-, rfl⟩ := findCmd_key h.found
    refine ⟨fun hn => hexec.trans (congrArg _ (if_pos hn)), fun hq hn => ?_⟩
    have hfound := hexec.trans (congrArg _ (if_neg (not_or.mpr ⟨hq, hn⟩)))
    refine ⟨fun hx => hfound.trans (congrArg _ (if_pos hx)), fun hx => hfound.trans (congrArg _ (if_neg ?_))⟩
    exact fun ⟨x, hm, hk⟩ => hx x hm hk
  · intro target ahead
    have hahead : abortsAhead s cid = ahead := rfl
    have hlimit := exec_abort_limit h
    have habort (hlow : ahead < 32) := exec_abort h hlow (sq := q) (target := target) rfl rfl
    clear_value ahead
    obtain ⟨-, rfl⟩ := findCmd_key h.found
    refine ⟨fun hn => hlimit (hahead ▸ hn), fun hlow => ?_⟩
    obtain ⟨hgone, hwaits, hruns⟩ := habort hlow
    refine ⟨hgone, fun x hf hu hearly => ?_, fun x hf hu hlate => ?_, fun t ht hpast => ?_, fun t ht hpast => ?_⟩
    · refine ⟨_, (hwaits x hf hu).trans (congrArg _ (if_pos hearly)), fun y hy => ?_, rfl⟩
      rw [unposted_abortUnposted, hu] at hy
      obtain rfl := Option.some.inj hy
      exact ⟨rfl, rfl, rfl, rfl, rfl⟩
    · have hrace := logAbortRace_logged q target s
      exact ⟨_, (hwaits x hf hu).trans (congrArg _ (if_neg (Bool.eq_false_iff.mp hlate))), hrace.1, hrace.2⟩
    · have hrace := logAbortRace_logged q target s
      exact ⟨_, (hruns t ht).trans (congrArg _ (if_pos ((pastReturn_iff t).mpr hpast))), hrace.1, hrace.2⟩
    · obtain ⟨htq, htc⟩ := findCmd_key ht
      have hnot : ¬ pastReturn t = true := by
        rw [pastReturn_iff]
        split at hpast
        next hadmin => simpa only [if_pos hadmin, not_not] using hpast
        next hio => simpa only [if_neg hio, not_not] using hpast
      refine ⟨dropEffects q target s, ?_, ?_, rfl, rfl⟩
      · rw [← htq, ← htc]
        exact (hruns t ht).trans (congrArg _ (if_neg hnot))
      · refine congrArg (fun l => { s.ord with waiting := l }) (List.filter_congr fun x _ => ?_)
        cases x <;> rfl
  · have hexec := exec_asynchronousEventRequest h
    rw [updateCmd_eq] at hexec
    obtain ⟨-, rfl⟩ := findCmd_key h.found
    exact ⟨fun hf => hexec.trans (congrArg _ (if_pos hf)),
      fun hf => hexec.trans (congrArg _ (if_neg (Nat.not_le.mpr hf)))⟩

end Sys2Proof.Proofs
end

section
/-! Proofs about Flush, Fence and the acceptance of writes at W7 (O35). -/

namespace Sys2Proof.Proofs

open Sys2Proof Sys2Proof.Machine Sys2Proof.Safety Sys2Proof.Laws

variable {s : State} {sq : Nat} {cid : BitVec 16} {c : Cmd}

/-! ## Flush (R109) -/

/-- The first check a Flush fails. -/
def flushFault (s : State) (e : Sqe) : Option Status :=
  if e.nsid = 0xFFFFFFFF then progressFault s true else nsFault s e.nsid.toNat

theorem progressFault_sanitize (h : s.nv.sanitize ≠ .none) (every : Bool) :
    progressFault s every = some (0, 0x1D, false) := if_pos h

theorem progressFault_format (h : s.nv.sanitize = .none) (hf : ∃ n ∈ s.nv.namespaces, n.formatting = true) :
    progressFault s true = some (0, 0x84, false) :=
  (if_neg (not_not.mpr h)).trans (if_pos (by simpa using hf))

theorem progressFault_none (h : s.nv.sanitize = .none) {every : Bool}
    (hf : every = true → ¬ ∃ n ∈ s.nv.namespaces, n.formatting = true) : progressFault s every = none := by
  refine (if_neg (not_not.mpr h)).trans (if_neg fun hb => ?_)
  obtain ⟨he, hany⟩ := Bool.and_eq_true _ _ ▸ hb
  exact hf he (by simpa using hany)

theorem exec_flush_refused (h : Begins s sq cid 0x00 c) (hsq : sq ≠ 0) {st : Status} (hf : flushFault s c.sqe = some st) :
    Ends (.flush sq cid) s sq cid st.1 st.2.1 st.2.2 0 0 s := by
  obtain ⟨hq, hcid⟩ := findCmd_key h.found
  have hrun := congrArg (Host.Outcome.next (φ := Fault) (ρ := Refusal)) (onIo_begun h hsq fun c s =>
    match flushFault s c.sqe with
    | some st => failWith c st s
    | none => padWanted (updateCmd sq cid (fun x => { x with stage := .running, flushUpTo := lastIssued s }) s))
  simp only [hf] at hrun
  rw [failWith, hq, hcid] at hrun
  exact hrun

theorem exec_flush_begun (h : Begins s sq cid 0x00 c) (hsq : sq ≠ 0) (hf : flushFault s c.sqe = none) :
    exec (.flush sq cid) s = .next (padWanted
      (updateCmd sq cid (fun x => { x with stage := .running, flushUpTo := s.ord.next - 1 }) s)) := by
  have hrun := congrArg (Host.Outcome.next (φ := Fault) (ρ := Refusal)) (onIo_begun h hsq fun c s =>
    match flushFault s c.sqe with
    | some st => failWith c st s
    | none => padWanted (updateCmd sq cid (fun x => { x with stage := .running, flushUpTo := lastIssued s }) s))
  simp only [hf] at hrun
  exact hrun

theorem exec_flushComplete (hs : serving s = true) (hc : findCmd s sq cid = some c) (hrun : c.stage = .running)
    (hop : c.sqe.opcode = 0x00) (hsq : sq ≠ 0) : exec (.flushComplete sq cid) s = .next (
      if s.ord.accepted.all (fun w => !flushCovers c w || durable s w) then fetchAll (completeOk sq cid s) else s) := by
  have hmine : (findCmd s sq cid).filter (fun c => sq != 0 && c.stage == .running && c.sqe.opcode == 0x00) = some c := by
    simp [hc, hsq, hrun, hop]
  show Host.Outcome.next _ = _
  rw [hmine]
  simp only [hs, Bool.true_and]

theorem flushCovers_iff (w : Write) : flushCovers c w = true ↔
    w.seq ≤ c.flushUpTo ∧ (c.sqe.nsid = 0xFFFFFFFF ∨ c.sqe.nsid.toNat = w.ns) := by
  simp [flushCovers]

/-! ## Fence (R106, R107) -/

/-- The fields of a Fence that R106 checks first: a scope, nothing reserved set, and a namespace where the scope is one. -/
def FenceGood (e : Sqe) : Prop :=
  e.cdw10.toNat % 4 ≠ 3 ∧ e.cdw10.toNat / 4 = 0 ∧ e.fuse = 0 ∧ e.reserved0 = 0 ∧ e.dw2 = 0 ∧ e.dw3 = 0 ∧ e.mptr = 0 ∧
    e.dptr = 0 ∧ e.cdw11 = 0 ∧ e.cdw12 = 0 ∧ e.cdw13 = 0 ∧ e.cdw14 = 0 ∧ e.cdw15 = 0 ∧
    (e.cdw10.toNat % 4 = 1 ↔ ¬ (e.nsid = 0 ∨ e.nsid = 0xFFFFFFFF))

/-- The checks of a Fence once its fields have their values. -/
def fenceRest (s : State) (e : Sqe) : Option Status :=
  if e.cdw10.toNat % 4 = 1 then
    match findNs s e.nsid.toNat with
    | none => some (0, 0x0B, true)
    | some n =>
      if n.attached = false then some (0, 0x0B, true) else if n.formatting then some (0, 0x84, false) else progressFault s false
  else progressFault s false

theorem fenceFault_fields (s : State) (e : Sqe) : (¬ FenceGood e → fenceFault s e = some (0, 0x02, true)) ∧
    (FenceGood e → fenceFault s e = fenceRest s e) := by
  unfold fenceFault fenceRest FenceGood
  rw [show field e.cdw10.toNat 0 2 = e.cdw10.toNat % 4 from field_low _ 2]
  simp only [bne_iff_ne, Bool.or_eq_true]
  by_cases hscope : e.cdw10.toNat % 4 = 1
  · by_cases hwide : e.nsid = 0 ∨ e.nsid = 0xFFFFFFFF
    · simp only [hscope, hwide, if_true, ite_self]
      exact ⟨fun _ => trivial, fun hgood => absurd hwide (by tauto)⟩
    · simp only [hscope, hwide, if_true, if_false]
      exact ⟨fun hbad => if_pos (by tauto), fun hgood => if_neg (by tauto)⟩
  · by_cases hwide : e.nsid = 0 ∨ e.nsid = 0xFFFFFFFF
    · simp only [hscope, hwide, if_true, if_false]
      exact ⟨fun hbad => if_pos (by tauto), fun hgood => if_neg (by tauto)⟩
    · simp only [hscope, hwide, if_false, ite_self]
      exact ⟨fun _ => trivial, fun hgood => absurd hgood (by tauto)⟩

theorem fenceRest_wide {e : Sqe} (h : e.cdw10.toNat % 4 ≠ 1) : fenceRest s e = progressFault s false := if_neg h

theorem fenceRest_absent {e : Sqe} (h : e.cdw10.toNat % 4 = 1)
    (hn : ¬ ∃ n, findNs s e.nsid.toNat = some n ∧ n.attached = true) : fenceRest s e = some (0, 0x0B, true) := by
  refine (if_pos h).trans ?_
  cases hfind : findNs s e.nsid.toNat with
  | none => rfl
  | some n => exact if_pos (Bool.eq_false_iff.mpr fun ha => hn ⟨n, hfind, ha⟩)

theorem fenceRest_present {e : Sqe} {n : Namespace} (h : e.cdw10.toNat % 4 = 1) (hn : findNs s e.nsid.toNat = some n)
    (ha : n.attached = true) :
    fenceRest s e = if n.formatting then some (0, 0x84, false) else progressFault s false := by
  refine (if_pos h).trans ?_
  rw [hn]
  exact if_neg (Bool.eq_false_iff.not_left.mpr ha)

theorem exec_fence_refused (h : Begins s sq cid 0x84 c) (hsq : sq ≠ 0) {st : Status} (hf : fenceFault s c.sqe = some st) :
    Ends (.fence sq cid) s sq cid st.1 st.2.1 st.2.2 0 0 s := by
  obtain ⟨hq, hcid⟩ := findCmd_key h.found
  have hrun : exec (.fence sq cid) s = .next (onIo sq cid [0x84] _ s) := rfl
  rw [onIo_begun h hsq] at hrun
  simp only [hf] at hrun
  rw [failWith, hq, hcid] at hrun
  exact hrun

theorem exec_fence_waits (h : Begins s sq cid 0x84 c) (hsq : sq ≠ 0) (hf : fenceFault s c.sqe = none) :
    exec (.fence sq cid) s = .next (enqueueFence ⟨0, c.sqe.cdw10.toNat % 4, .queue sq, c.sqe.nsid.toNat, some (sq, cid)⟩
      (updateCmd sq cid (fun x => { x with stage := .running }) s)) := by
  have hrun : exec (.fence sq cid) s = .next (onIo sq cid [0x84] _ s) := rfl
  rw [onIo_begun h hsq] at hrun
  simp only [hf, field_low] at hrun
  exact hrun

/-! ## W7 (R79, R144, R145) -/

theorem removeFirst_split {α : Type} {p : α → Bool} {x : α} (hx : p x = true) {before after : List α}
    (hb : ∀ y ∈ before, p y = false) : removeFirst p (before ++ x :: after) = before ++ after := by
  induction before with
  | nil => exact if_pos hx
  | cons y l ih =>
    obtain ⟨hy, hl⟩ := List.forall_mem_cons.mp hb
    refine (if_neg (Bool.eq_false_iff.mp hy)).trans ?_
    exact congrArg (List.cons y) (ih hl)

theorem find?_split {α : Type} {p : α → Bool} {x : α} (hx : p x = true) {before after : List α}
    (hb : ∀ y ∈ before, p y = false) : (before ++ x :: after).find? p = some x := by
  rw [List.find?_append, List.find?_eq_none.mpr fun y hy => Bool.eq_false_iff.mp (hb y hy), Option.none_or,
    List.find?_cons_of_pos hx]

theorem directoryWritten_unarmed (h : s.sram.flipMask.getLsbD 31 = false) : directoryWritten s = s := by
  rw [directoryWritten, h, Bool.false_and]
  exact if_neg Bool.false_ne_true

/-- The oldest item of a source among those that wait for W7. -/
structure Oldest (src : Source) (x : Waiting) (before after : List Waiting) (s : State) : Prop where
  waiting : s.ord.waiting = before ++ x :: after
  source : waitingSource x = src
  first : ∀ y ∈ before, waitingSource y ≠ src

section Accept

variable {src : Source} {x : Waiting} {before after : List Waiting}

theorem Oldest.take (h : Oldest src x before after s) :
    s.ord.waiting.takeWhile (fun y => waitingSource y != src) = before := by
  rw [h.waiting, List.takeWhile_append_of_pos fun y hy => bne_iff_ne.mpr (h.first y hy),
    List.takeWhile_cons_of_neg (by simp [h.source]), List.append_nil]

theorem fromStream_iff (y : Waiting) : fromStream y = true ↔ ∃ k, waitingSource y = .stream k := by
  unfold fromStream
  cases waitingSource y <;> simp

/-- A namespace fence of a stream stands behind a unit that its arrival released for another stream (R79). -/
def FenceBehind (src : Source) (f : FenceRec) (before : List Waiting) : Prop :=
  f.scope = 1 ∧ (∃ k, src = .stream k) ∧ ∃ w, Waiting.write w ∈ before ∧ w.ns = f.ns ∧ ∃ k, w.src = .stream k

theorem mayPass_fence {f : FenceRec} (h : Oldest src (.fence f) before after s) :
    mayPass s src (.fence f) = true ↔ ¬ FenceBehind src f before := by
  have hsrc : f.src = src := h.source
  simp only [mayPass, h.take, Bool.not_eq_true', ← Bool.not_eq_true, Bool.and_eq_true, beq_iff_eq, List.any_eq_true,
    fromStream_iff, FenceBehind, and_assoc]
  refine not_congr (and_congr_right fun _ => and_congr ?_ ⟨?_, ?_⟩)
  · rw [show waitingSource (.fence f) = src from hsrc]
  · rintro ⟨y, hy, hk, hns⟩
    cases y with
    | fence g => exact absurd hns Bool.false_ne_true
    | write w => exact ⟨w, hy, beq_iff_eq.mp hns, hk⟩
  · rintro ⟨w, hw, hns, hk⟩
    exact ⟨.write w, hw, hk, beq_iff_eq.mpr hns⟩

/-- The item passes W7 as far as the phase, the Overlap Directory and the fences before it go. -/
def PassesW7 (src : Source) (x : Waiting) (before : List Waiting) (s : State) : Prop :=
  s.life.phase = .service ∧ s.life.captureReady = true ∧ (∀ w, x = .write w → s.ord.accepted.length < 262144) ∧
    ∀ f, x = .fence f → ¬ FenceBehind src f before

theorem passesW7_iff (h : Oldest src x before after s) :
    (accepting s && mayPass s src x) = true ↔ PassesW7 src x before s := by
  simp only [accepting, Bool.and_eq_true, beq_iff_eq, PassesW7, and_assoc]
  refine and_congr_right fun _ => and_congr_right fun _ => ?_
  cases x with
  | write w => simp [mayPass, directoryRoom]
  | fence f => simp [mayPass_fence h]

/-- The state without the item, its numbers taken. -/
def passed (k : Nat) (before after : List Waiting) (s : State) : State :=
  { s with ord := { s.ord with next := s.ord.next + k, waiting := before ++ after } }

theorem exec_writeAccept (h : Oldest src x before after s) : exec (.writeAccept src) s = .next (
    if (accepting s && mayPass s src x) = true then
      if s.ord.top < s.ord.next + numbersTaken x - 1 then reserveBlock s
      else retryReads (acceptItem x s.ord.next (directoryWritten (passed (numbersTaken x) before after s)))
    else s) := by
  have hx : (waitingSource x == src) = true := beq_iff_eq.mpr h.source
  have hb : ∀ y ∈ before, (waitingSource y == src) = false := fun y hy => beq_eq_false_iff_ne.mpr (h.first y hy)
  have hfind : s.ord.waiting.find? (fun y => waitingSource y == src) = some x := by
    rw [h.waiting]
    exact find?_split (p := fun y => waitingSource y == src) hx hb
  have hremove : removeFirst (fun y => waitingSource y == src) s.ord.waiting = before ++ after := by
    rw [h.waiting]
    exact removeFirst_split (p := fun y => waitingSource y == src) hx hb
  show Host.Outcome.next _ = _
  rw [hfind]
  simp only [hremove]
  rfl

theorem numbersTaken_pos (x : Waiting) : 1 ≤ numbersTaken x := by
  unfold numbersTaken
  split
  · exact le_rfl
  · split
    · exact Nat.le_max_left _ _
    · split <;> decide

theorem exec_writeAccept_waits (h : Oldest src x before after s) (hp : ¬ PassesW7 src x before s) :
    exec (.writeAccept src) s = .next s :=
  (exec_writeAccept h).trans (congrArg _ (if_neg (mt (passesW7_iff h).mp hp)))

theorem exec_writeAccept_asks (h : Oldest src x before after s) (hp : PassesW7 src x before s)
    (htop : s.ord.top < s.ord.next) (hnone : ∀ y ∈ s.map.pendingSlots, ∀ k, y ≠ .seqBlock k) :
    exec (.writeAccept src) s = .next (appendSlot (.seqBlock (s.ord.top + 2 ^ 24)) s) := by
  have hpos := numbersTaken_pos x
  refine (exec_writeAccept h).trans (congrArg _ ((if_pos ((passesW7_iff h).mpr hp)).trans ((if_pos (by omega)).trans ?_)))
  refine if_neg ?_
  rw [List.any_eq_true]
  rintro ⟨y, hy, hblock⟩
  cases y with
  | seqBlock k => exact hnone _ hy k rfl
  | _ => exact absurd hblock Bool.false_ne_true

/-- The item passes with its numbers. -/
theorem exec_writeAccept_passes (h : Oldest src x before after s) (hp : PassesW7 src x before s)
    (hflip : s.sram.flipMask.getLsbD 31 = false) (htop : s.ord.next + numbersTaken x ≤ s.ord.top + 1) :
    exec (.writeAccept src) s =
      .next (retryReads (acceptItem x s.ord.next (passed (numbersTaken x) before after s))) := by
  refine (exec_writeAccept h).trans (congrArg _ ((if_pos ((passesW7_iff h).mpr hp)).trans ((if_neg (by omega)).trans ?_)))
  rw [directoryWritten_unarmed (s := passed _ _ _ _) hflip]

end Accept

/-! ## What passes W7 (R105, R144, R150) -/

theorem numberCmd_waits {k : Option (Nat × BitVec 16)} {n : Nat} (h : ∀ d ∈ s.nv.cmds, d.waits = false) :
    ∀ d ∈ (numberCmd k n s).nv.cmds, d.waits = false := by
  cases k with
  | none => exact h
  | some k =>
    intro d hd
    obtain ⟨x, hx, rfl⟩ := List.mem_map.mp hd
    split
    · exact h x hx
    · exact h x hx

/-- A write stands in the Overlap Directory under its number. -/
def directoryHolds (w : Write) (s : State) : State :=
  numberCmd w.cmd w.seq { s with ord := { s.ord with accepted := s.ord.accepted ++ [w] } }

theorem takeAtW7_plain {w : Write} (h : w.kind = .write ∨ w.kind = .zeroes) (s : State) :
    takeAtW7 w s = directoryHolds w s := by
  unfold takeAtW7
  rcases h with h | h <;> rw [h] <;> rfl

theorem takeAtW7_capture {w : Write} (h : w.kind = .captureData) (s : State) : takeAtW7 w s =
    { directoryHolds w s with
      map := { (directoryHolds w s).map with captureBytes := (directoryHolds w s).map.captureBytes + writeBytes w } } := by
  unfold takeAtW7
  rw [h]
  rfl

/-- An unsatisfied fence stands among those accepted. -/
def fenceStands (f : FenceRec) (s : State) : State := { s with ord := { s.ord with fences := s.ord.fences ++ [f] } }

theorem acceptItem_fence (f : FenceRec) (n : Nat) (s : State) :
    acceptItem (.fence f) n s = padWanted (numberCmd f.cmd n (fenceStands { f with seq := n } s)) := rfl

theorem acceptItem_write {w : Write} (h : w.ordered = false) (n : Nat) (s : State) :
    acceptItem (.write w) n s = takeAtW7 { w with seq := n } s :=
  if_neg (Bool.eq_false_iff.mp h)

theorem acceptItem_ordered {w : Write} (h : w.ordered = true) (n : Nat) (s : State) :
    acceptItem (.write w) n s = padWanted (takeAtW7 { w with seq := n + 1 } (fenceStands ⟨n, 0, w.src, w.ns, none⟩ s)) :=
  if_pos h

theorem padWanted_waits (h : ∀ d ∈ s.nv.cmds, d.waits = false) : ∀ d ∈ (padWanted s).nv.cmds, d.waits = false := by
  rw [padWanted_frame]
  exact h

theorem numbersTaken_write {w : Write} (h : w.kind ≠ .secureDiscard) :
    numbersTaken (.write w) = if w.ordered then 2 else 1 := by
  unfold numbersTaken
  split
  next h' => exact absurd h' (by simp)
  next w' h' =>
    obtain rfl := Waiting.write.inj h'
    split
    next hk => exact absurd hk h
    next => rfl

/-! ## Fences satisfied (R153, R154) -/

theorem fenceReady_iff (f : FenceRec) :
    fenceReady s f = true ↔ ∀ w ∈ s.ord.accepted, w.seq < f.seq → covers f w = true → durable s w = true := by
  simp only [fenceReady, List.all_eq_true, Bool.or_eq_true, Bool.not_eq_true', Bool.and_eq_false_iff, decide_eq_false_iff_not]
  refine forall₂_congr fun w _ => ?_
  cases covers f w <;> simp [or_iff_not_imp_left]

/-- The fences but one, by its sequence number. -/
def fencesBut (seq : Nat) (s : State) : State :=
  { s with ord := { s.ord with fences := s.ord.fences.filter fun g => g.seq != seq } }

theorem exec_fenceSatisfied_waits {f : FenceRec} (hf : (s.ord.fences.find? fun g => g.seq == f.seq) = some f)
    (h : fenceReady s f = false) : exec (.fenceSatisfied f.seq) s = .next s := by
  show Host.Outcome.next _ = _
  rw [hf]
  simp only [h]
  rfl

theorem exec_fenceSatisfied_alone {f : FenceRec} (hf : (s.ord.fences.find? fun g => g.seq == f.seq) = some f)
    (h : fenceReady s f = true) (hc : f.cmd = none) :
    exec (.fenceSatisfied f.seq) s = .next (retryReads (settleMap (fencesBut f.seq s))) := by
  show Host.Outcome.next _ = _
  rw [hf]
  simp only [h, hc]
  rfl

theorem exec_fenceSatisfied_completes {f : FenceRec} (hf : (s.ord.fences.find? fun g => g.seq == f.seq) = some f)
    (h : fenceReady s f = true) {k : Nat × BitVec 16} (hc : f.cmd = some k) :
    exec (.fenceSatisfied f.seq) s = .next (retryReads (settleMap (fetchAll (completeCmd k.1 k.2 0 0 false
      (BitVec.ofNat 32 f.seq) (BitVec.ofNat 32 (f.seq / 2 ^ 32)) (fencesBut f.seq s))))) := by
  show Host.Outcome.next _ = _
  rw [hf]
  simp only [h, hc]
  rfl

/-! ## The obligation -/

/-- Settles O35: Flush and Fence by their checks; W7 by its oldest item, `PassesW7` and the numbers left. -/
theorem nvmeOrdering : Obligations.NvmeOrdering := by
  unfold Obligations.NvmeOrdering
  intro s sq cid c hsq e cmds running formats
  refine ⟨fun h => ?_, fun hs hc hrun hop => ?_, fun h => ?_, fun src x before after hw hx hb hwaits hflip => ?_,
    fun f hf => ?_⟩
  · have hall : e.nsid = 0xFFFFFFFF → flushFault s e = progressFault s true := fun ha => if_pos ha
    have hone : e.nsid ≠ 0xFFFFFFFF → flushFault s e = nsFault s e.nsid.toNat := fun ha => if_neg ha
    refine ⟨fun st ha hf => exec_flush_refused h hsq ((hone ha).trans hf),
      fun ha hn => exec_flush_refused h hsq (st := (0, 0x1D, false)) ((hall ha).trans (progressFault_sanitize hn true)),
      fun ha hn hf =>
        exec_flush_refused h hsq (st := (0, 0x84, false)) ((hall ha).trans (progressFault_format hn hf)), fun hgo => ?_⟩
    have hnone : flushFault s e = none := by
      rcases hgo with ⟨ha, hn, hf⟩ | ⟨ha, hf⟩
      · exact (hall ha).trans (progressFault_none hn fun _ => hf)
      · exact (hone ha).trans hf
    refine ⟨_, exec_flush_begun h hsq hnone, ?_⟩
    rw [padWanted_frame, updateCmd_eq]
  · intro clear
    have hcovers : (s.ord.accepted.all fun w => !flushCovers c w || durable s w) = true ↔ clear := by
      simp only [List.all_eq_true, Bool.or_eq_true, Bool.not_eq_true', ← Bool.not_eq_true, flushCovers_iff]
      refine forall₂_congr fun w _ => ?_
      rw [or_iff_not_imp_left, not_not, and_imp]
    have hexec := exec_flushComplete hs hc hrun hop hsq
    exact ⟨fun hclear => hexec.trans (congrArg _ (if_pos (hcovers.mpr hclear))),
      fun hclear => hexec.trans (congrArg _ (if_neg (mt hcovers.mp hclear)))⟩
  · intro scope wide good stands
    obtain ⟨hbad, hgood⟩ := fenceFault_fields s e
    refine ⟨fun hg => exec_fence_refused h hsq (st := (0, 0x02, true)) (hbad hg),
      fun hg h1 hn => exec_fence_refused h hsq (st := (0, 0x0B, true)) ((hgood hg).trans (fenceRest_absent h1 hn)), ?_⟩
    intro blocked
    have hrest (hn : scope = 1 → stands) (hb : ¬ blocked) : fenceRest s e = progressFault s false := by
      by_cases h1 : scope = 1
      · obtain ⟨n, hfind, ha⟩ := hn h1
        exact (fenceRest_present h1 hfind ha).trans (if_neg fun hf => hb ⟨h1, n, hfind, hf⟩)
      · exact fenceRest_wide h1
    refine ⟨fun hg hn hblocked => ?_, fun hg hn hb hs => ?_, fun hg hn hb hs => ?_⟩
    · obtain ⟨h1, n, hfind, hf⟩ := hblocked
      obtain ⟨m, hm, ha⟩ := hn h1
      obtain rfl := Option.some.inj (hfind.symm.trans hm)
      exact exec_fence_refused h hsq (st := (0, 0x84, false))
          ((hgood hg).trans ((fenceRest_present h1 hfind ha).trans (if_pos hf)))
    · exact exec_fence_refused h hsq (st := (0, 0x1D, false))
        ((hgood hg).trans ((hrest hn hb).trans (progressFault_sanitize hs false)))
    · have hnone := (hgood hg).trans ((hrest hn hb).trans (progressFault_none hs fun h => absurd h Bool.false_ne_true))
      refine (exec_fence_waits h hsq hnone).trans ?_
      rw [updateCmd_eq]
      rfl
  · intro i take behind open_ number
    have hold : Oldest src x before after s := ⟨hw, hx, hb⟩
    have hpass : open_ ↔ PassesW7 src x before s := Iff.rfl
    refine ⟨exec_writeAccept_waits hold, exec_writeAccept_asks hold, fun hopen htop => ?_⟩
    have hpasses {u : State} (k : Nat) (hk : numbersTaken x = k) (hk2 : k ≤ 2)
        (hu : acceptItem x s.ord.next (passed k before after s) = u) (huw : ∀ d ∈ u.nv.cmds, d.waits = false) :
        exec i s = .next u := by
      have hexec := exec_writeAccept_passes hold hopen hflip (by omega)
      rw [hk, hu, retryReads_none huw] at hexec
      exact hexec
    have hnumber (k : Option (Nat × BitVec 16)) (n : Nat) {t : State} (ht : t.nv = s.nv) :
        numberCmd k n t = { t with nv := number k n } := by
      cases k with
      | none =>
        show t = { t with nv := s.nv }
        rw [← ht]
      | some k => rw [numberCmd, updateCmd_eq, ht]
    have hkind {w : Write} {k : WriteKind} (hk : w.kind = k) (hne : k ≠ .secureDiscard) :=
      numbersTaken_write (hk.trans_ne hne)
    refine ⟨fun w hxw hk ho => ?_, fun w hxw hk ho => ?_, fun w hxw hk ho hc => ?_, fun f hxf => ?_⟩
    · subst hxw
      have htaken : numbersTaken (.write w) = 1 := by
        rcases hk with hk | hk <;> rw [hkind hk (by decide), ho] <;> rfl
      have haccept := (acceptItem_write ho s.ord.next (passed 1 before after s)).trans
        (takeAtW7_plain (w := { w with seq := s.ord.next }) hk _)
      refine (hpasses 1 htaken (by decide) haccept (numberCmd_waits hwaits)).trans (congrArg _ ?_)
      rw [directoryHolds, hnumber]
      · simp only [take, passed, List.append_nil]
      · rfl
    · subst hxw
      have htaken : numbersTaken (.write w) = 2 := by rw [hkind hk (by decide), ho]; rfl
      have haccept := (acceptItem_ordered ho s.ord.next (passed 2 before after s)).trans
        (congrArg padWanted (takeAtW7_plain (w := { w with seq := s.ord.next + 1 }) (.inl hk) _))
      refine ⟨_, hpasses 2 htaken (by decide) haccept (padWanted_waits (numberCmd_waits hwaits)), ?_, ?_⟩
      · rw [padWanted_frame, directoryHolds, hnumber]
        · rfl
        · rfl
      · rw [padWanted_frame, directoryHolds, hnumber]
        · rfl
        · rfl
    · subst hxw
      have htaken : numbersTaken (.write w) = 1 := by rw [hkind hk (by decide), ho]; rfl
      have haccept := (acceptItem_write ho s.ord.next (passed 1 before after s)).trans
        (takeAtW7_capture (w := { w with seq := s.ord.next }) hk _)
      refine (hpasses 1 htaken (by decide) haccept (numberCmd_waits hwaits)).trans (congrArg _ ?_)
      rw [directoryHolds, hc]
      simp only [take, passed, List.append_nil]
      rfl
    · subst hxf
      have haccept := acceptItem_fence f s.ord.next (passed 1 before after s)
      refine ⟨_, hpasses 1 rfl (by decide) haccept (padWanted_waits (numberCmd_waits hwaits)), ?_, ?_⟩
      · rw [padWanted_frame, hnumber]
        · simp only [take, passed, fenceStands, List.append_nil]
        · rfl
      · rw [padWanted_frame, hnumber]
        · rfl
        · rfl
  · intro ready u
    refine ⟨fun hr => exec_fenceSatisfied_waits hf (Bool.eq_false_iff.mpr (mt (fenceReady_iff f).mp hr)),
      fun hr hc => exec_fenceSatisfied_alone hf ((fenceReady_iff f).mpr hr) hc,
      fun hr k hc => exec_fenceSatisfied_completes hf ((fenceReady_iff f).mpr hr) hc⟩

end Sys2Proof.Proofs
end

section
/-! What new epochs change, and where a namespace finds its range, as O38 and O39 use it. -/

namespace Sys2Proof.Proofs

open Sys2Proof Sys2Proof.Machine Sys2Proof.Safety Sys2Proof.Laws

/-! ## Sequence numbers (R145) -/

theorem needNumbers_left {s : State} {k : Nat} (h : s.ord.next + k ≤ s.ord.top + 1) (body : State → State) :
    needNumbers k body s = body s := by
  rw [needNumbers, numbersLeft, decide_eq_true h]
  rfl

/-! ## New epochs (R189, R204) -/

theorem findNs_updateNs (id j : Nat) {f : Namespace → Namespace} (hf : ∀ n, (f n).id = n.id) (s : State) :
    findNs (updateNs id f s) j = if j = id then (findNs s j).map f else findNs s j :=
  find_changeWhere Namespace.id id j f hf s.nv.namespaces

/-- A namespace's record changes and it gets a new epoch. -/
def renew (f : Namespace → Namespace) (action : Nat) (s : State) (i : Nat) : State := newEpoch i action (updateNs i f s)

theorem updateNs_same (i : Nat) (s : State) : updateNs i (fun n => n) s = s := by
  rw [updateNs, changeWhere]
  simp only [ite_self, List.map_id']

theorem renew_same (action : Nat) (s : State) (i : Nat) : renew (fun n => n) action s i = newEpoch i action s := by
  rw [renew, updateNs_same]

theorem newEpoch_none {s : State} {i : Nat} (h : findNs s i = none) (action : Nat) : newEpoch i action s = s := by
  rw [newEpoch, h]

theorem newEpoch_some {s : State} {i : Nat} {n : Namespace} (h : findNs s i = some n) (action : Nat) :
    (newEpoch i action s).nv = (updateNs i (fun n => { n with epoch := s.ord.next }) s).nv ∧
      (newEpoch i action s).ord.next = s.ord.next + 1 ∧
      (newEpoch i action s).map.pendingSlots = s.map.pendingSlots ++
        [.namespace_ s.ord.next i action n.base n.size n.fmt n.pi] := by
  rw [newEpoch, h]
  exact ⟨rfl, rfl, rfl⟩

theorem newEpoch_nv (i action : Nat) (s : State) :
    (newEpoch i action s).nv = (updateNs i (fun n => { n with epoch := s.ord.next }) s).nv := by
  cases h : findNs s i with
  | some n => exact (newEpoch_some h action).1
  | none =>
    have hsame : changeWhere (fun n => n.id == i) (fun n => { n with epoch := s.ord.next }) s.nv.namespaces =
        s.nv.namespaces :=
      (List.map_congr_left fun n hn => if_neg (List.find?_eq_none.mp h n hn)).trans (List.map_id' _)
    rw [newEpoch_none h, updateNs, hsame]

theorem newEpoch_next_le (i action : Nat) (s : State) : s.ord.next ≤ (newEpoch i action s).ord.next := by
  cases h : findNs s i with
  | none => rw [newEpoch_none h]
  | some n => exact (newEpoch_some h action).2.1 ▸ Nat.le_succ _

section Renew

variable {f : Namespace → Namespace} (hid : ∀ n, (f n).id = n.id)
include hid

theorem findNs_renew (action i j : Nat) (s : State) : findNs (renew f action s i) j =
    if j = i then (findNs s j).map (fun n => { f n with epoch := s.ord.next }) else findNs s j := by
  rw [findNs, renew, newEpoch_nv]
  refine (findNs_updateNs (f := fun n => { n with epoch := s.ord.next }) i j (fun _ => rfl) (updateNs i f s)).trans ?_
  rw [findNs_updateNs i j hid s]
  split
  · rw [Option.map_map]
    rfl
  · rfl

theorem renew_ids (action i : Nat) (s : State) :
    (renew f action s i).nv.namespaces.map (·.id) = s.nv.namespaces.map (·.id) := by
  rw [renew, newEpoch_nv]
  simp only [updateNs, changeWhere, List.map_map]
  refine List.map_congr_left fun n _ => ?_
  by_cases hi : n.id = i
  · simp only [Function.comp_apply, hi, hid, beq_self_eq_true, ↓reduceIte]
  · simp only [Function.comp_apply, hi, beq_iff_eq, ↓reduceIte]

theorem renew_epoch {action i : Nat} {s : State} {n : Namespace} (hn : n ∈ (renew f action s i).nv.namespaces) :
    n.epoch = s.ord.next ∨ (n.id ≠ i ∧ n ∈ s.nv.namespaces) := by
  rw [renew, newEpoch_nv] at hn
  simp only [updateNs, changeWhere, List.map_map, List.mem_map, Function.comp_apply, beq_iff_eq] at hn
  obtain ⟨m, hm, rfl⟩ := hn
  by_cases hi : m.id = i
  · refine .inl ?_
    simp only [hi, hid, ↓reduceIte]
  · refine .inr ?_
    simp only [hi, ↓reduceIte, ne_eq, not_false_eq_true, true_and]
    exact hm

end Renew

/-- What a run of new epochs, each with a changed record, makes of a state. -/
structure Renewed (f : Namespace → Namespace) (ids : List Nat) (s t : State) : Prop where
  low : s.ord.next ≤ t.ord.next
  next : (∀ i ∈ ids, findNs s i ≠ none) → t.ord.next = s.ord.next + ids.length
  inside : ∀ i ∈ ids, ∀ n, findNs s i = some n → ∃ e, s.ord.next ≤ e ∧ findNs t i = some { f n with epoch := e }
  outside : ∀ i, i ∉ ids → findNs t i = findNs s i
  epochs : ∀ n ∈ t.nv.namespaces, s.ord.next ≤ n.epoch ∨ (n.id ∉ ids ∧ n ∈ s.nv.namespaces)
  ids : t.nv.namespaces.map (·.id) = s.nv.namespaces.map (·.id)
  nv : t.nv = { s.nv with namespaces := t.nv.namespaces }

theorem renew_next (f : Namespace → Namespace) (action i : Nat) (s : State) : s.ord.next ≤ (renew f action s i).ord.next :=
  newEpoch_next_le i action (updateNs i f s)

theorem renew_next_found {f : Namespace → Namespace} (hid : ∀ n, (f n).id = n.id) {i : Nat} {s : State}
    (h : findNs s i ≠ none) (action : Nat) : (renew f action s i).ord.next = s.ord.next + 1 := by
  obtain ⟨n, hn⟩ := Option.ne_none_iff_exists'.mp h
  have hfound : findNs (updateNs i f s) i = some (f n) := by
    rw [findNs_updateNs i i hid, if_pos rfl, hn]
    rfl
  exact (newEpoch_some hfound action).2.1

theorem renew_rest (f : Namespace → Namespace) (action i : Nat) (s : State) : renew f action s i = { s with
    nv := { s.nv with namespaces := (renew f action s i).nv.namespaces }, ord := (renew f action s i).ord
    map := (renew f action s i).map } := by
  have hsame : renew f action s i = { s with
      nv := (renew f action s i).nv, ord := (renew f action s i).ord, map := (renew f action s i).map } :=
    (newEpoch_keep i action (updateNs i f s)).same
  have hnv : (renew f action s i).nv = { s.nv with namespaces := (renew f action s i).nv.namespaces } := by
    rw [renew, newEpoch_nv]
    rfl
  rwa [hnv] at hsame

theorem renew_nv (f : Namespace → Namespace) (action i : Nat) (s : State) :
    (renew f action s i).nv = { s.nv with namespaces := (renew f action s i).nv.namespaces } :=
  congrArg (·.nv) (renew_rest f action i s)

theorem namespacesOnly_trans {x y z : Nvme} (h : y = { x with namespaces := y.namespaces })
    (hz : z = { y with namespaces := z.namespaces }) : z = { x with namespaces := z.namespaces } := by
  rw [h] at hz
  exact hz

theorem foldl_renew {f : Namespace → Namespace} (hid : ∀ n, (f n).id = n.id)
    (hf : ∀ n e, f { f n with epoch := e } = { f n with epoch := e }) (action : Nat) (ids : List Nat) (s : State) :
    Renewed f ids s (ids.foldl (renew f action) s) := by
  induction ids generalizing s with
  | nil => exact ⟨le_rfl, fun _ => rfl, nofun, fun _ _ => rfl, fun n hn => .inr ⟨List.not_mem_nil, hn⟩, rfl, rfl⟩
  | cons i ids ih =>
    have hle := renew_next f action i s
    have hr := ih (renew f action s i)
    have hfind (j : Nat) := findNs_renew hid action i j s
    refine ⟨hle.trans hr.low, fun hall => ?_, fun j hj n hn => ?_, fun j hj => ?_, fun n hn => ?_,
      hr.ids.trans (renew_ids hid action i s), namespacesOnly_trans (renew_nv f action i s) hr.nv⟩
    · obtain ⟨hi, hall⟩ := List.forall_mem_cons.mp hall
      have hleft : ∀ j ∈ ids, findNs (renew f action s i) j ≠ none := fun j hj => by
        rw [hfind]
        split
        · exact fun hnone => hall j hj (Option.map_eq_none_iff.mp hnone)
        · exact hall j hj
      have hone : (renew f action s i).ord.next = s.ord.next + 1 := renew_next_found hid hi action
      have hrest := hr.next hleft
      rw [List.foldl_cons, hrest, hone, List.length_cons]
      omega
    · by_cases hji : j = i
      · have hfound : findNs (renew f action s i) j = some { f n with epoch := s.ord.next } := by
          rw [hfind, if_pos hji, hn]
          rfl
        by_cases hin : j ∈ ids
        · obtain ⟨e, he, hlast⟩ := hr.inside j hin _ hfound
          refine ⟨e, hle.trans he, hlast.trans (congrArg some ?_)⟩
          rw [hf]
        · exact ⟨s.ord.next, le_rfl, (hr.outside j hin).trans hfound⟩
      · have hin : j ∈ ids := (List.mem_cons.mp hj).resolve_left hji
        obtain ⟨e, he, hlast⟩ := hr.inside j hin n (((hfind j).trans (if_neg hji)).trans hn)
        exact ⟨e, hle.trans he, hlast⟩
    · obtain ⟨hji, hj⟩ := List.ne_and_not_mem_of_not_mem_cons hj
      exact (hr.outside j hj).trans ((hfind j).trans (if_neg hji))
    · rcases hr.epochs n hn with he | ⟨hout, hmem⟩
      · exact .inl (hle.trans he)
      · rcases renew_epoch hid hmem with he | ⟨hni, hmem⟩
        · exact .inl he.ge
        · exact .inr ⟨List.not_mem_cons_of_ne_of_not_mem hni hout, hmem⟩

namespace Renewed

variable {f : Namespace → Namespace} {ids : List Nat} {s t s' t' : State}

/-- What new epochs make of a state shows in its namespaces and its next number only. -/
theorem congr (h : Renewed f ids s t) (hs : s'.nv = s.nv) (hn : s'.ord.next = s.ord.next) (ht : t'.nv = t.nv)
    (hm : t'.ord.next = t.ord.next) : Renewed f ids s' t' := by
  have hfs (i : Nat) : findNs s' i = findNs s i := congrArg (fun v => v.namespaces.find? fun x => x.id == i) hs
  have hft (i : Nat) : findNs t' i = findNs t i := congrArg (fun v => v.namespaces.find? fun x => x.id == i) ht
  constructor
  · rw [hn, hm]
    exact h.low
  · simp only [hn, hm, hfs]
    exact h.next
  · simp only [hn, hfs, hft]
    exact h.inside
  · simp only [hfs, hft]
    exact h.outside
  · rw [ht, hn, hs]
    exact h.epochs
  · rw [ht, hs]
    exact h.ids
  · rw [ht, hs]
    exact h.nv

end Renewed

end Sys2Proof.Proofs
end

section
/-! Proofs about the creation, deletion and attachment of namespaces (O38). -/

namespace Sys2Proof.Proofs

open Sys2Proof Sys2Proof.Machine Sys2Proof.Safety Sys2Proof.Laws

/-! ## Identifiers, ranges and formats (R98, R99, R172) -/

theorem freeNsid_range (s : State) : freeNsid s = (List.range' 1 64).find? fun i => (findNs s i).isNone := rfl

theorem freeNsid_none {s : State} (h : ∀ i, 1 ≤ i → i ≤ 64 → findNs s i ≠ none) : freeNsid s = none := by
  rw [freeNsid_range, List.find?_eq_none]
  intro i hi hfree
  obtain ⟨hlow, hhigh⟩ := List.mem_range'_1.mp hi
  exact h i hlow (by omega) (Option.isNone_iff_eq_none.mp hfree)

theorem freeNsid_some {s : State} {id : Nat} (hlow : 1 ≤ id) (hhigh : id ≤ 64) (hfree : findNs s id = none)
    (hleast : ∀ i, 1 ≤ i → i < id → findNs s i ≠ none) : freeNsid s = some id := by
  rw [freeNsid_range, List.find?_range'_eq_some]
  refine ⟨Option.isNone_iff_eq_none.mpr hfree, List.mem_range'_1.mpr ⟨hlow, by omega⟩, fun i hi hlt => ?_⟩
  rw [Bool.not_eq_true', Option.isNone_eq_false_iff]
  exact Option.isSome_iff_ne_none.mpr (hleast i hi hlt)

/-- A range of segment indices that lies in the device and meets no namespace's range. -/
def RangeFree (s : State) (size b : Nat) : Prop :=
  b + size ≤ totalSegments s ∧ ∀ n ∈ s.nv.namespaces, n.base + n.size ≤ b ∨ b + size ≤ n.base

theorem findBase_test {s : State} {size b : Nat} : (decide (b + size ≤ totalSegments s) &&
    s.nv.namespaces.all fun n => decide (n.base + n.size ≤ b) || decide (b + size ≤ n.base)) = true ↔
      RangeFree s size b := by
  simp only [RangeFree, Bool.and_eq_true, Bool.or_eq_true, decide_eq_true_eq, List.all_eq_true]

theorem findBase_free {s : State} {size b : Nat} (h : findBase s size = some b) : RangeFree s size b := by
  have hp := List.find?_some h
  exact findBase_test.mp hp

/-- Moved down to the nearest place where a namespace's range ends, or to 0, a free range stays free. -/
theorem findBase_isSome {s : State} {size b : Nat} (h : RangeFree s size b) : findBase s size ≠ none := by
  obtain ⟨hin, hmiss⟩ := h
  let starts := 0 :: s.nv.namespaces.map fun n => n.base + n.size
  let b' := Nat.findGreatest (· ∈ starts) b
  have hstart : b' ∈ starts := Nat.findGreatest_spec (P := (· ∈ starts)) (Nat.zero_le b) List.mem_cons_self
  have hle : b' ≤ b := Nat.findGreatest_le b
  have hfree : RangeFree s size b' := by
    refine ⟨by omega, fun n hn => ?_⟩
    rcases hmiss n hn with hbelow | habove
    · exact .inl (Nat.le_findGreatest hbelow (List.mem_cons_of_mem _ (List.mem_map_of_mem hn)))
    · exact .inr (by omega)
  exact fun hnone => List.find?_eq_none.mp hnone b' hstart (findBase_test.mpr hfree)

theorem findBase_none {s : State} {size : Nat} (h : ∀ b, ¬RangeFree s size b) : findBase s size = none := by
  cases hb : findBase s size with
  | none => rfl
  | some b => exact absurd (findBase_free hb) (h b)

theorem formatOk_iff {fmt pi : Nat} :
    formatOk fmt pi = true ↔ fmt ≤ 1 ∧ (pi = 0 ∨ (fmt = 1 ∧ (pi = 1 ∨ pi = 3))) := by
  simp only [formatOk, Bool.and_eq_true, Bool.or_eq_true, decide_eq_true_eq, beq_iff_eq]

theorem streamBound_iff {s : State} {ids : List Nat} : Machine.streamBound s ids = true ↔
    ∃ x ∈ s.str.list, x.state ≠ .closed ∧ x.ns ∈ ids := by
  simp only [Machine.streamBound, List.any_eq_true, Bool.and_eq_true, bne_iff_ne, List.contains_iff_mem]

theorem namedNs_eq (s : State) (nsid : BitVec 32) : namedNs s nsid.toNat =
    if nsid = 0xFFFFFFFF then s.nv.namespaces.map (·.id)
    else if findNs s nsid.toNat = none then [] else [nsid.toNat] := by
  have hall : nsid.toNat = 0xFFFFFFFF ↔ nsid = 0xFFFFFFFF := BitVec.toNat_inj (y := 0xFFFFFFFF)
  rw [namedNs, if_congr hall rfl rfl]
  cases findNs s nsid.toNat <;> rfl

theorem findNs_member {s : State} {n : Namespace} (h : n ∈ s.nv.namespaces) : findNs s n.id ≠ none :=
  fun hnone => List.find?_eq_none.mp hnone n h (beq_self_eq_true n.id)

theorem findNs_named {s : State} {nsid : BitVec 32} {i : Nat} (h : i ∈ namedNs s nsid.toNat) : findNs s i ≠ none := by
  rw [namedNs_eq] at h
  split at h
  · obtain ⟨n, hn, rfl⟩ := List.mem_map.mp h
    exact findNs_member hn
  · split at h
    · exact absurd h List.not_mem_nil
    · next hfound => rwa [List.mem_singleton.mp h]

/-! ## Creation (R98, R204, R392) -/

section Create

variable {s : State} {cid : BitVec 16} {c : Cmd} {req : NsCreate}

theorem exec_namespaceCreate (h : Begins s 0 cid 0x0D c) (hsel : c.sqe.cdw10.toNat % 16 = 0) :
    (¬(req.nsze = req.ncap ∧ req.nsze ≠ 0 ∧ req.nsze % 256 = 0) →
      exec (.namespaceCreate cid req) s = .next (adminFail c 0x02 s)) ∧
    (req.nsze = req.ncap ∧ req.nsze ≠ 0 ∧ req.nsze % 256 = 0 →
      (formatOk req.lbaFormat req.piType = false →
        exec (.namespaceCreate cid req) s = .next (adminFailSpecific c 0x0A s)) ∧
      (formatOk req.lbaFormat req.piType = true →
        (freeNsid s = none → exec (.namespaceCreate cid req) s = .next (adminFailSpecific c 0x16 s)) ∧
        ∀ id, freeNsid s = some id →
          (findBase s (req.nsze / 256) = none →
            exec (.namespaceCreate cid req) s = .next (adminFailSpecific c 0x15 s)) ∧
          ∀ b, findBase s (req.nsze / 256) = some b → keysPossible s = true →
            exec (.namespaceCreate cid req) s = .next (needNumbers 1 (fun s =>
              adminDw c id (giveKey id (newEpoch id 0 { s with nv := { s.nv with namespaces := s.nv.namespaces ++
                [⟨id, b, req.nsze / 256, req.lbaFormat, req.piType, 0, false, false⟩] } }))) s))) := by
  have hrun : exec (.namespaceCreate cid req) s = .next (onAdmin cid 0x0D _ s) := rfl
  rw [onAdmin_begun h] at hrun
  have hfield : ¬ field c.sqe.cdw10.toNat 0 4 ≠ 0 := not_not.mpr ((field_low _ 4).trans hsel)
  simp only [if_neg hfield] at hrun
  have hshape : (req.nsze ≠ req.ncap ∨ req.nsze = 0 ∨ req.nsze % 256 ≠ 0) ↔
      ¬(req.nsze = req.ncap ∧ req.nsze ≠ 0 ∧ req.nsze % 256 = 0) := by
    rw [not_and_or, not_and_or, not_not]
  rw [if_congr hshape rfl rfl] at hrun
  refine ⟨fun hbad => hrun.trans (congrArg _ (if_pos hbad)), fun hgood => ?_⟩
  rw [if_neg (not_not.mpr hgood)] at hrun
  refine ⟨fun hbad => hrun.trans (congrArg _ (if_pos hbad)), fun hfmt => ?_⟩
  rw [if_neg (by rw [hfmt]; nofun)] at hrun
  refine ⟨fun hfull => ?_, fun id hid => ⟨fun hnone => ?_, fun b hb hkeys => ?_⟩⟩
  · simpa only [hfull] using hrun
  · simpa only [hid, hnone] using hrun
  · simpa only [hid, hb, hkeys, Bool.true_eq_false, ↓reduceIte] using hrun

/-- A namespace without an epoch joins the others. -/
def withNs (n : Namespace) (s : State) : State := { s with nv := { s.nv with namespaces := s.nv.namespaces ++ [n] } }

theorem findNs_withNs {n : Namespace} (h : findNs s n.id = none) (j : Nat) :
    findNs (withNs n s) j = if j = n.id then some n else findNs s j := by
  rw [withNs, findNs, List.find?_append]
  split
  next hj => 
    rw [hj, show s.nv.namespaces.find? (fun x => x.id == n.id) = none from h, Option.none_or]
    exact List.find?_cons_of_pos (beq_self_eq_true _)
  next hj => 
    have hlast : [n].find? (fun x => x.id == j) = none :=
      List.find?_cons_of_neg fun heq => hj (beq_iff_eq.mp heq).symm
    rw [hlast, Option.or_none]
    rfl

theorem giveKey_present {id : Nat} (h : s.sec.port ≠ .opened) :
    ∃ k ∈ (giveKey id s).sec.keys, k.ns = id ∧ k.present = true := by
  have hsec : (giveKey id s).sec = (drawKey id s).sec := by
    rw [giveKey, if_neg h]
    exact (storeKeys_keep (drawKey id s)).sec rfl
  rw [hsec]
  exact ⟨_, List.mem_cons_self, rfl, rfl⟩

/-- What a new namespace, its epoch and its key change. -/
theorem created_facts {n : Namespace} {u : State} (hfree : findNs s n.id = none) (hport : s.sec.port ≠ .opened)
    (hu : u = giveKey n.id (newEpoch n.id 0 (withNs n s))) :
    findNs u n.id = some { n with epoch := s.ord.next } ∧ (∀ j, j ≠ n.id → findNs u j = findNs s j) ∧
      (∃ k ∈ u.sec.keys, k.ns = n.id ∧ k.present = true) ∧
      .namespace_ s.ord.next n.id 0 n.base n.size n.fmt n.pi ∈ u.map.pendingSlots ∧
      u.ord.next = s.ord.next + 1 ∧ u = { s with
        nv := { s.nv with namespaces := u.nv.namespaces }, ord := u.ord, map := u.map, sec := u.sec, nor := u.nor
        free := u.free } := by
  have hnew : findNs (withNs n s) n.id = some n := (findNs_withNs hfree n.id).trans (if_pos rfl)
  obtain ⟨-, hnext, hslots⟩ := newEpoch_some hnew 0
  have hepoch := newEpoch_keep n.id 0 (withNs n s)
  have hkey := giveKey_keep n.id (newEpoch n.id 0 (withNs n s))
  rw [← hu] at hkey
  have hnv : u.nv = (renew (fun n => n) 0 (withNs n s) n.id).nv := by
    rw [renew_same]
    exact hkey.nv rfl
  have hfind (j : Nat) : findNs u j = if j = n.id then (findNs (withNs n s) j).map
      (fun n => { n with epoch := s.ord.next }) else findNs (withNs n s) j := by
    rw [findNs, hnv]
    exact findNs_renew (fun _ => rfl) 0 n.id j (withNs n s)
  refine ⟨?_, fun j hj => ?_, ?_, ?_, ?_, ?_⟩
  · rw [hfind, if_pos rfl, hnew]
    rfl
  · rw [hfind, if_neg hj, findNs_withNs hfree, if_neg hj]
  · rw [hu]
    exact giveKey_present fun hopen => hport ((congrArg (·.port) (hepoch.sec rfl)).symm.trans hopen)
  · rw [hkey.map rfl, hslots]
    exact List.mem_append_right _ List.mem_cons_self
  · exact (congrArg (·.next) (hkey.ord rfl)).trans hnext
  · have hrest := renew_rest (fun n => n) 0 n.id (withNs n s)
    rw [renew_same] at hrest
    have hsame := hkey.same
    rw [hrest] at hsame
    rw [hkey.nv rfl, hkey.ord rfl, hkey.map rfl, hkey.free rfl, hepoch.free rfl]
    exact hsame

end Create

/-! ## Deletion (R98, R204) -/

section Delete

variable {s : State} {cid : BitVec 16} {c : Cmd} {ids : List Nat}

theorem exec_namespaceDelete (h : Begins s 0 cid 0x0D c) (hsel : c.sqe.cdw10.toNat % 16 = 1)
    (hids : namedNs s c.sqe.nsid.toNat = ids) : exec (.namespaceDelete cid) s = .next (
      if ids = [] then adminFail c 0x0B s
      else if Machine.streamBound s ids = true then adminFail c 0x0C s
      else needNumbers ids.length (fun s => adminOk c (removeNs ids s)) s) := by
  have hrun : exec (.namespaceDelete cid) s = .next (onAdmin cid 0x0D _ s) := rfl
  rw [onAdmin_begun h] at hrun
  have hfield : ¬ field c.sqe.cdw10.toNat 0 4 ≠ 1 := not_not.mpr ((field_low _ 4).trans hsel)
  simpa only [if_neg hfield, hids, List.isEmpty_iff] using hrun

theorem endIoWhere_eq (pick : Cmd → Bool) (sc : Nat) (s : State) : endIoWhere pick sc s = abortAll (s.nv.cmds.filter
    fun c => c.sq != 0 && c.stage == .running && !pastReturn c && pick c) sc false s := rfl

/-- I/O that has begun and is picked stays only past its point of no return (R114). -/
theorem endIoWhere_left {pick : Cmd → Bool} {sc : Nat} {d : Cmd} (h : d ∈ (endIoWhere pick sc s).nv.cmds)
    (hsq : d.sq ≠ 0) (hrun : d.stage = .running) (hpick : pick d = true) : d.seq ≠ 0 := by
  rw [endIoWhere_eq] at h
  obtain ⟨-, hleft⟩ := abortAll_picked h
  simpa [hsq, hrun, hpick, pastReturn_io] using hleft

theorem endIoWhere_none {pick : Cmd → Bool} {sc : Nat}
    (h : ∀ d ∈ s.nv.cmds, d.sq ≠ 0 → d.stage = .running → pick d = true → d.seq ≠ 0) : endIoWhere pick sc s = s := by
  have hnil : (s.nv.cmds.filter fun c => c.sq != 0 && c.stage == .running && !pastReturn c && pick c) = [] := by
    refine List.filter_eq_nil_iff.mpr fun d hd hp => ?_
    simp only [Bool.and_eq_true, bne_iff_ne, beq_iff_eq, Bool.not_eq_true'] at hp
    obtain ⟨⟨⟨hsq, hrun⟩, hpast⟩, hpick⟩ := hp
    rw [pastReturn_io hsq] at hpast
    exact h d hd hsq hrun hpick (by simpa using hpast)
  rw [endIoWhere_eq, hnil]
  rfl

theorem sansIo_endIo (ids : List Nat) (sc : Nat) (s : State) : sansIo (endIo ids sc s) = sansIo s :=
  sansIo_abortAll _ _ _ _

theorem removeNs_eq (ids : List Nat) (s : State) : removeNs ids s =
    let t := ids.foldl (renew (fun n => n) 1) (endIo ids 0x0B s)
    storeKeys { t with
      nv := { t.nv with namespaces := t.nv.namespaces.filter fun n => !ids.contains n.id }
      sec := { t.sec with keys := t.sec.keys.filter fun k => !ids.contains k.ns } } := by
  have hstep : renew (fun n => n) 1 = fun s i => newEpoch i 1 s := by
    funext s i
    exact renew_same 1 s i
  rw [hstep]
  rfl

theorem find_filter_ids (l : List Namespace) (ids : List Nat) (i : Nat) :
    (l.filter fun n => !ids.contains n.id).find? (fun n => n.id == i) =
      if i ∈ ids then none else l.find? fun n => n.id == i := by
  rw [List.find?_filter]
  split
  next hi =>
    refine List.find?_eq_none.mpr fun n _ hn => ?_
    simp only [Bool.not_eq_true', List.contains_eq_mem, decide_eq_false_iff_not, decide_eq_true_eq,
      beq_iff_eq] at hn
    exact hn.1 (hn.2 ▸ hi)
  next hi =>
    refine congrArg (fun p => l.find? p) (funext fun n => ?_)
    by_cases hn : n.id = i
    · simp [hn, hi]
    · simp [hn]

/-- What a deletion of namespaces changes. -/
theorem removeNs_facts (hfound : ∀ i ∈ ids, findNs s i ≠ none) :
    (∀ i ∈ ids, findNs (removeNs ids s) i = none) ∧ (∀ i, i ∉ ids → findNs (removeNs ids s) i = findNs s i) ∧
      (∀ k ∈ (removeNs ids s).sec.keys, k.ns ∉ ids) ∧
      (∀ d ∈ (removeNs ids s).nv.cmds, d.sq ≠ 0 → d.stage = .running → d.sqe.nsid.toNat ∈ ids → d.seq ≠ 0) ∧
      (removeNs ids s).ord.next = s.ord.next + ids.length := by
  let v := endIo ids 0x0B s
  let t := ids.foldl (renew (fun n => n) 1) v
  have ht : Renewed (fun n => n) ids v t := foldl_renew (fun _ => rfl) (fun _ _ => rfl) 1 ids v
  have hstore := storeKeys_keep { t with
    nv := { t.nv with namespaces := t.nv.namespaces.filter fun n => !ids.contains n.id }
    sec := { t.sec with keys := t.sec.keys.filter fun k => !ids.contains k.ns } }
  rw [← removeNs_eq] at hstore
  have hv (i : Nat) : findNs v i = findNs s i := by
    have hio := congrArg (fun x => findNs x i) (sansIo_endIo ids 0x0B s)
    exact hio
  have hnv := hstore.nv rfl
  have hfind (i : Nat) : findNs (removeNs ids s) i = if i ∈ ids then none else findNs t i := by
    rw [findNs, hnv]
    exact find_filter_ids t.nv.namespaces ids i
  refine ⟨fun i hi => ?_, fun i hi => ?_, fun k hk => ?_, fun d hd hsq hrun hin => ?_, ?_⟩
  · rw [hfind, if_pos hi]
  · rw [hfind, if_neg hi, ht.outside i hi, hv]
  · rw [hstore.sec rfl] at hk
    simpa using (List.mem_filter.mp hk).2
  · have hcmds : (removeNs ids s).nv.cmds = v.nv.cmds :=
      (congrArg (·.cmds) hnv).trans (congrArg (·.cmds) ht.nv)
    rw [hcmds] at hd
    exact endIoWhere_left (pick := fun c => ids.contains c.sqe.nsid.toNat) hd hsq hrun (List.contains_iff_mem.mpr hin)
  · have hnext : v.ord.next = s.ord.next := congrArg (·.ord.next) (sansIo_endIo ids 0x0B s)
    rw [hstore.ord rfl, ← hnext]
    exact ht.next fun i hi => (hv i).symm ▸ hfound i hi

end Delete

/-! ## Attachment (R98) -/

section Attach

variable {s : State} {cid : BitVec 16} {c : Cmd} {controllers : List (BitVec 16)}

theorem exec_namespaceAttach (h : Begins s 0 cid 0x15 c) (hsel : c.sqe.cdw10.toNat % 16 = 0) :
    (findNs s c.sqe.nsid.toNat = none → exec (.namespaceAttach cid controllers) s = .next (adminFail c 0x0B s)) ∧
    (∀ n, findNs s c.sqe.nsid.toNat = some n → exec (.namespaceAttach cid controllers) s = .next (
      if controllers ≠ [1] then adminFailSpecific c 0x1C s
      else if n.attached then adminFailSpecific c 0x18 s
      else adminOk c (attachNs n.id true s))) := by
  have hrun : exec (.namespaceAttach cid controllers) s = .next (onAdmin cid 0x15 _ s) := rfl
  rw [onAdmin_begun h] at hrun
  have hfield : ¬ field c.sqe.cdw10.toNat 0 4 ≠ 0 := not_not.mpr ((field_low _ 4).trans hsel)
  simp only [if_neg hfield] at hrun
  refine ⟨fun hn => ?_, fun n hn => ?_⟩
  · simpa only [hn] using hrun
  · simpa only [hn] using hrun

theorem exec_namespaceDetach (h : Begins s 0 cid 0x15 c) (hsel : c.sqe.cdw10.toNat % 16 = 1) :
    (findNs s c.sqe.nsid.toNat = none → exec (.namespaceDetach cid controllers) s = .next (adminFail c 0x0B s)) ∧
    (∀ n, findNs s c.sqe.nsid.toNat = some n → exec (.namespaceDetach cid controllers) s = .next (
      if controllers ≠ [1] then adminFailSpecific c 0x1C s
      else if n.attached = false then adminFailSpecific c 0x1A s
      else if Machine.streamBound s [n.id] = true then adminFail c 0x0C s
      else adminOk c (attachNs n.id false (endIo [n.id] 0x0B s)))) := by
  have hrun : exec (.namespaceDetach cid controllers) s = .next (onAdmin cid 0x15 _ s) := rfl
  rw [onAdmin_begun h] at hrun
  have hfield : ¬ field c.sqe.cdw10.toNat 0 4 ≠ 1 := not_not.mpr ((field_low _ 4).trans hsel)
  simp only [if_neg hfield] at hrun
  refine ⟨fun hn => ?_, fun n hn => ?_⟩
  · simpa only [hn] using hrun
  · simpa only [hn] using hrun

/-- The namespaces of a list with one of them attached or detached. -/
def attachedIn (id : Nat) (on : Bool) (l : List Namespace) : List Namespace :=
  l.map fun m => if m.id = id then { m with attached := on } else m

theorem attachNs_eq (id : Nat) (on : Bool) (s : State) : attachNs id on s = { s with
    nv := { s.nv with namespaces := attachedIn id on s.nv.namespaces }
    map := { s.map with table := attachedIn id on s.map.table } } := by
  simp only [attachNs, updateNs, changeWhere, attachedIn, beq_iff_eq]

end Attach

/-- Settles O38, from what the creation, the deletion and the attachment of namespaces change. -/
theorem nvmeNamespaces : Obligations.NvmeNamespaces := by
  intro s cid c req controllers e sel fails bound
  refine ⟨fun h hsel => ?_, fun h hsel => ?_, fun h => ?_⟩
  · obtain ⟨-, rfl⟩ := findCmd_key h.found
    obtain ⟨hshape, hgood⟩ := exec_namespaceCreate (req := req) h hsel
    intro shape format size free
    refine ⟨hshape, fun hs hf => ?_, fun hs hf hfull => ?_, fun hs hf id hlow hhigh hnone hleast => ⟨fun hno => ?_, ?_⟩⟩
    · exact (hgood hs).1 (Bool.eq_false_iff.mpr fun hok => hf (formatOk_iff.mp hok))
    · exact ((hgood hs).2 (formatOk_iff.mpr hf)).1 (freeNsid_none hfull)
    · exact (((hgood hs).2 (formatOk_iff.mpr hf)).2 id (freeNsid_some hlow hhigh hnone hleast)).1 (findBase_none hno)
    · rintro ⟨b₀, hb₀⟩ hport hdrbg hnumber
      obtain ⟨b, hb⟩ := Option.ne_none_iff_exists'.mp (findBase_isSome hb₀)
      have hkeys : keysPossible s = true := by rw [keysPossible, hdrbg, Bool.true_or]
      have hrun := (((hgood hs).2 (formatOk_iff.mpr hf)).2 id (freeNsid_some hlow hhigh hnone hleast)).2 b hb hkeys
      rw [needNumbers_left (by omega)] at hrun
      obtain ⟨hself, hothers, hkey, hslot, hnext, hrest⟩ := created_facts
        (n := ⟨id, b, req.nsze / 256, req.lbaFormat, req.piType, 0, false, false⟩) hnone hport rfl
      exact ⟨_, b, hrun, findBase_free hb, hself, hothers, hkey, hslot, hnext, hrest⟩
  · obtain ⟨-, rfl⟩ := findCmd_key h.found
    intro ids
    have hnamed : namedNs s c.sqe.nsid.toNat = ids := namedNs_eq s c.sqe.nsid
    clear_value ids
    have hrun := exec_namespaceDelete h hsel hnamed
    refine ⟨fun hnil => ?_, fun hids hb => ?_, fun hids hb hnumbers => ?_⟩
    · exact hrun.trans (congrArg _ (if_pos hnil))
    · exact hrun.trans (congrArg _ ((if_neg hids).trans (if_pos (streamBound_iff.mpr hb))))
    · rw [if_neg hids, if_neg fun hopen => hb (streamBound_iff.mp hopen), needNumbers_left hnumbers] at hrun
      obtain ⟨hgone, hothers, hkeys, hcmds, hnext⟩ := removeNs_facts (ids := ids) fun i hi =>
        findNs_named (hnamed ▸ hi)
      exact ⟨removeNs ids s, hrun, hgone, hothers, hkeys, hcmds, hnext, (removeNs_keep ids s).same⟩
  · obtain ⟨-, rfl⟩ := findCmd_key h.found
    refine ⟨fun hn => ⟨fun hsel => (exec_namespaceAttach h hsel).1 hn, fun hsel => (exec_namespaceDetach h hsel).1 hn⟩,
      fun n hn => ?_⟩
    have hattach (hsel : sel = 0) := (exec_namespaceAttach (controllers := controllers) h hsel).2 n hn
    have hdetach (hsel : sel = 1) := (exec_namespaceDetach (controllers := controllers) h hsel).2 n hn
    intro on set_
    refine ⟨fun hc => ⟨fun hsel => (hattach hsel).trans (congrArg _ (if_pos hc)),
      fun hsel => (hdetach hsel).trans (congrArg _ (if_pos hc))⟩, fun hc hsel => ⟨fun hon => ?_, fun hoff => ?_⟩,
      fun hc hsel => ⟨fun hoff => ?_, fun hon hb => ?_, fun hon hb hio => ?_⟩⟩
    · exact (hattach hsel).trans (congrArg _ ((if_neg (not_not.mpr hc)).trans (if_pos hon)))
    · have hrun := (hattach hsel).trans
        (congrArg _ ((if_neg (not_not.mpr hc)).trans (if_neg (by rw [hoff]; nofun))))
      rwa [attachNs_eq] at hrun
    · exact (hdetach hsel).trans (congrArg _ ((if_neg (not_not.mpr hc)).trans (if_pos hoff)))
    · have hrun := hdetach hsel
      rw [if_neg (not_not.mpr hc), if_neg (by rw [hon]; nofun), if_pos (streamBound_iff.mpr hb)] at hrun
      exact hrun
    · have hrun := hdetach hsel
      have hquiet : endIo [n.id] 0x0B s = s := endIoWhere_none fun d hd hsq hst hpick =>
        hio d hd hsq hst (List.mem_singleton.mp (List.contains_iff_mem.mp hpick))
      rw [if_neg (not_not.mpr hc), if_neg (by rw [hon]; nofun), if_neg fun hopen => hb (streamBound_iff.mp hopen),
        hquiet, attachNs_eq] at hrun
      exact hrun

end Sys2Proof.Proofs
end

section
/-! Proofs about Format NVM and Sanitize (O39). -/

namespace Sys2Proof.Proofs

open Sys2Proof Sys2Proof.Machine Sys2Proof.Safety Sys2Proof.Laws

/-! ## New keys and epochs (R392, R395) -/

/-- A namespace has a key. -/
def HasKey (s : State) (i : Nat) : Prop := ∃ k ∈ s.sec.keys, k.ns = i ∧ k.present = true

theorem hasKey_drawKey_same (i : Nat) (s : State) : HasKey (drawKey i s) i := ⟨_, List.mem_cons_self, rfl, rfl⟩

theorem hasKey_drawKey {s : State} {i : Nat} (h : HasKey s i) (j : Nat) : HasKey (drawKey j s) i := by
  by_cases hij : i = j
  · subst hij
    exact hasKey_drawKey_same i s
  · obtain ⟨k, hk, hns, hon⟩ := h
    refine ⟨k, List.mem_cons_of_mem _ (List.mem_filter.mpr ⟨hk, ?_⟩), hns, hon⟩
    rw [hns]
    exact bne_iff_ne.mpr hij

theorem hasKey_foldl_drawKey (ids : List Nat) {s : State} {i : Nat} (h : i ∈ ids ∨ HasKey s i) :
    HasKey (ids.foldl (fun s i => drawKey i s) s) i := by
  induction ids generalizing s with
  | nil => exact h.resolve_left List.not_mem_nil
  | cons j ids ih =>
    refine ih ?_
    rcases h with hmem | hkey
    · rcases List.mem_cons.mp hmem with rfl | hin
      · exact .inr (hasKey_drawKey_same i s)
      · exact .inl hin
    · exact .inr (hasKey_drawKey hkey j)

theorem hasKey_replaceKeys {ids : List Nat} {i : Nat} (h : i ∈ ids) (all : Bool) (s : State) :
    HasKey (storeKeys (replaceKeys ids all s)) i := by
  rw [HasKey, (storeKeys_keep _).sec rfl]
  exact hasKey_foldl_drawKey ids (.inl h)

theorem foldl_newEpoch (action : Nat) (ids : List Nat) (s : State) :
    Renewed (fun n => n) ids s (ids.foldl (fun s i => newEpoch i action s) s) := by
  have hstep : (fun s i => newEpoch i action s) = renew (fun n => n) action := by
    funext s i
    exact (renew_same action s i).symm
  rw [hstep]
  exact foldl_renew (fun _ => rfl) (fun _ _ => rfl) action ids s

/-- Keys are replaced with one new epoch of each namespace. -/
theorem replaceKeys_renewed (ids : List Nat) (all : Bool) (s : State) :
    Renewed (fun n => n) ids s (storeKeys (replaceKeys ids all s)) := by
  let z := ids.foldl (fun s i => zeroizeKey i s) s
  let v := ids.foldl (fun s i => newEpoch i 3 s) z
  have hz : Keep 33554432 s z := Keep.foldl _ _ _ (fun t i => (zeroizeKey_keep i t)) (Keep.refl _ _)
  have hd : Keep 33554432 v (replaceKeys ids all s) :=
    Keep.foldl _ _ _ (fun t i => drawKey_keep i t) (Keep.ite (drawSalt_keep v) (Keep.refl _ _))
  have hst := storeKeys_keep (replaceKeys ids all s)
  exact (foldl_newEpoch 3 ids z).congr (hz.nv rfl).symm (congrArg (·.next) (hz.ord rfl)).symm
    ((hst.nv rfl).trans (hd.nv rfl)) (congrArg (·.next) ((hst.ord rfl).trans (hd.ord rfl)))

theorem sansIo_endAffected (ids : List Nat) (device : Bool) (sc : Nat) (s : State) :
    sansIo (endAffected ids device sc s) = sansIo s :=
  sansIo_abortAll _ _ _ _

theorem findCmd_endAffected (ids : List Nat) (device : Bool) (sc : Nat) (cid : BitVec 16) (s : State) :
    findCmd (endAffected ids device sc s) 0 cid = findCmd s 0 cid := by
  refine findCmd_abortAll (fun d hd => ?_) cid sc false s
  have hp := (List.mem_filter.mp hd).2
  simp only [Bool.and_eq_true, bne_iff_ne] at hp
  exact hp.1.1.1

/-! ## Format begins (R114, R204) -/

section Format

variable {s : State} {cid : BitVec 16} {c : Cmd} {ids : List Nat}

theorem exec_formatNvm (h : Begins s 0 cid 0x80 c) (hids : namedNs s c.sqe.nsid.toNat = ids) :
    exec (.formatNvm cid) s = .next (
      let v := c.sqe.cdw10.toNat
      let fmt := v % 16
      let pi := v / 32 % 8
      let ses := v / 512 % 8
      if ids = [] ∧ c.sqe.nsid ≠ 0xFFFFFFFF then adminFail c 0x0B s
      else if Machine.streamBound s ids = true then adminFail c 0x0C s
      else if s.nv.sanitize ≠ .none then fetchAll (completeCmd 0 cid 0 0x1D false 0 0 s)
      else if ∃ n ∈ s.nv.namespaces, n.formatting = true then fetchAll (completeCmd 0 cid 0 0x84 false 0 0 s)
      else if 2 < ses then adminFail c 0x02 s
      else if formatOk fmt pi = false ∨ (fmt = 1 ∧ v.testBit 4 = false) ∨ v.testBit 8 = true then
        adminFailSpecific c 0x0A s
      else if ses = 2 ∧ s.sec.drbgOn = false then fetchAll (completeCmd 0 cid 0 0x06 false 0 0 s)
      else if ids = [] then adminOk c s
      else needNumbers (2 * ids.length) (fun s =>
        updateCmd 0 cid (fun x => { x with stage := .running }) (beginFormat ids fmt pi ses s)) s) := by
  have hrun : exec (.formatNvm cid) s = .next (onAdmin cid 0x80 _ s) := rfl
  rw [onAdmin_begun h] at hrun
  have hfmt : field c.sqe.cdw10.toNat 0 4 = c.sqe.cdw10.toNat % 16 := field_low _ 4
  have hpi : field c.sqe.cdw10.toNat 5 3 = c.sqe.cdw10.toNat / 32 % 8 := field_eq _ 5 3
  have hses : field c.sqe.cdw10.toNat 9 3 = c.sqe.cdw10.toNat / 512 % 8 := field_eq _ 9 3
  simpa only [hids, hfmt, hpi, hses, List.isEmpty_iff, Bool.and_eq_true, bne_iff_ne, List.any_eq_true] using hrun

/-- The format a Format gives a namespace. -/
def formatted (fmt pi : Nat) (n : Namespace) : Namespace := { n with fmt := fmt, pi := pi, formatting := true }

/-- A namespace's epochs and format after a Format has begun. -/
theorem beginFormat_renewed (ids : List Nat) (fmt pi ses : Nat) (s : State) :
    (∀ i ∈ ids, ∀ n, findNs s i = some n → ∃ e, s.ord.next ≤ e ∧
      findNs (beginFormat ids fmt pi ses s) i = some { formatted fmt pi n with epoch := e }) ∧
    (∀ i, i ∉ ids → findNs (beginFormat ids fmt pi ses s) i = findNs s i) ∧
    (beginFormat ids fmt pi ses s).nv.cmds = (endAffected ids false 0x84 s).nv.cmds := by
  let v := endAffected ids false 0x84 s
  let u := ids.foldl (renew (formatted fmt pi) 2) v
  have hio := sansIo_endAffected ids false 0x84 s
  have hfirst : Renewed (formatted fmt pi) ids v u :=
    foldl_renew (f := formatted fmt pi) (fun _ => rfl) (fun _ _ => rfl) 2 ids v
  have hv (i : Nat) : findNs v i = findNs s i := congrArg (fun x => x.nv.namespaces.find? fun n => n.id == i) hio
  have hnext : v.ord.next = s.ord.next := congrArg (·.ord.next) hio
  let x := if ses = 2 then storeKeys (replaceKeys ids false u) else u
  have hx : x = u ∨ Renewed (fun n => n) ids u x := by
    by_cases hses : ses = 2
    · have hxu : x = storeKeys (replaceKeys ids false u) := if_pos hses
      exact .inr (hxu ▸ replaceKeys_renewed ids false u)
    · exact .inl (if_neg hses)
  have hfind (i : Nat) : findNs (beginFormat ids fmt pi ses s) i = findNs x i := rfl
  have hcmds : (beginFormat ids fmt pi ses s).nv.cmds = x.nv.cmds := rfl
  clear_value x
  refine ⟨fun i hi n hn => ?_, fun i hi => ?_, ?_⟩
  · obtain ⟨e, he, hu⟩ := hfirst.inside i hi n ((hv i).trans hn)
    rw [hfind]
    rcases hx with rfl | hagain
    · exact ⟨e, hnext.ge.trans he, hu⟩
    · obtain ⟨e', he', hx⟩ := hagain.inside i hi _ hu
      exact ⟨e', hnext.ge.trans (hfirst.low.trans he'), hx⟩
  · have hu : findNs u i = findNs s i := (hfirst.outside i hi).trans (hv i)
    rw [hfind]
    rcases hx with rfl | hagain
    · exact hu
    · exact (hagain.outside i hi).trans hu
  · have hu : u.nv.cmds = v.nv.cmds := congrArg (·.cmds) hfirst.nv
    rw [hcmds]
    rcases hx with rfl | hagain
    · exact hu
    · exact (congrArg (·.cmds) hagain.nv).trans hu

theorem hasKey_beginFormat {i : Nat} (h : i ∈ ids) (fmt pi : Nat) (s : State) :
    HasKey (beginFormat ids fmt pi 2 s) i := by
  rw [beginFormat, if_pos rfl]
  exact hasKey_replaceKeys h false _

/-- Without new keys a Format leaves the security unit and the configuration store. -/
theorem beginFormat_same_keys {ses : Nat} (h : ses ≠ 2) (ids : List Nat) (fmt pi : Nat) (s : State) :
    (beginFormat ids fmt pi ses s).sec = s.sec ∧ (beginFormat ids fmt pi ses s).nor = s.nor := by
  have hio := endAffected_keep ids false 0x84 s
  have hkeep : Keep 131456 (endAffected ids false 0x84 s)
      (ids.foldl (renew (formatted fmt pi) 2) (endAffected ids false 0x84 s)) :=
    Keep.foldl _ _ _ (fun t i => Keep.on (newEpoch_keep i 2 _) (Keep.on (updateNs_keep i _ t) (Keep.refl _ _) rfl) rfl)
      (Keep.refl _ _)
  rw [beginFormat, if_neg h]
  exact ⟨(hkeep.sec rfl).trans (hio.sec rfl), (hkeep.nor rfl).trans (hio.nor rfl)⟩

/-- A Format that begins runs on, with its namespaces' formats and epochs new. -/
theorem format_begins {fmt pi ses : Nat} (h : Begins s 0 cid 0x80 c)
    (hrun : exec (.formatNvm cid) s = .next (needNumbers (2 * ids.length) (fun s =>
      updateCmd 0 cid (fun x => { x with stage := .running }) (beginFormat ids fmt pi ses s)) s))
    (hnumbers : s.ord.next + 2 * ids.length ≤ s.ord.top + 1) : ∃ t, exec (.formatNvm cid) s = .next t ∧
      (∀ i ∈ ids, ∀ n, findNs s i = some n → ∃ m, findNs t i = some m ∧ s.ord.next ≤ m.epoch ∧
        m = { n with fmt := fmt, pi := pi, formatting := true, epoch := m.epoch }) ∧
      (∀ i, i ∉ ids → findNs t i = findNs s i) ∧ t.nv.formatSes = ses ∧
      findCmd t 0 cid = some { c with stage := .running } ∧
      (ses = 2 → ∀ i ∈ ids, ∃ k ∈ t.sec.keys, k.ns = i ∧ k.present = true) ∧
      (ses ≠ 2 → t.sec = s.sec ∧ t.nor = s.nor) ∧ t.str = s.str ∧ t.med = s.med ∧ t.clk = s.clk := by
  rw [needNumbers_left hnumbers] at hrun
  obtain ⟨hin, hout, hcmds⟩ := beginFormat_renewed ids fmt pi ses s
  have hkeep := beginFormat_keep ids fmt pi ses s
  have hfound : findCmd (beginFormat ids fmt pi ses s) 0 cid = some c := by
    rw [findCmd, hcmds]
    exact (findCmd_endAffected ids false 0x84 cid s).trans h.found
  refine ⟨_, hrun, fun i hi n hn => ?_, hout, rfl,
    findCmd_updateCmd (fun x => { x with stage := .running }) (fun _ => ⟨rfl, rfl⟩) hfound, fun hses i hi => ?_,
    fun hses => beginFormat_same_keys hses ids fmt pi s, hkeep.str rfl, hkeep.med rfl, hkeep.clk rfl⟩
  · obtain ⟨e, he, hm⟩ := hin i hi n hn
    exact ⟨_, hm, he, rfl⟩
  · subst hses
    exact hasKey_beginFormat hi fmt pi s

end Format

/-! ## Format ends (R114, R353) -/

section FormatDone

variable {s : State}

/-- No namespace is being formatted any more. -/
def lifted (l : List Namespace) : List Namespace := l.map fun n => { n with formatting := false }

theorem foldl_updateNs (f : Namespace → Namespace) (hid : ∀ n, (f n).id = n.id) (hff : ∀ n, f (f n) = f n)
    (ids : List Nat) (s : State) : ids.foldl (fun t i => updateNs i f t) s = { s with
      nv := { s.nv with namespaces := s.nv.namespaces.map fun n => if n.id ∈ ids then f n else n } } := by
  induction ids generalizing s with
  | nil => simp
  | cons i ids ih =>
    rw [List.foldl_cons, ih]
    simp only [updateNs, changeWhere, List.map_map]
    congr 2
    refine List.map_congr_left fun n _ => ?_
    by_cases hi : n.id = i
    · by_cases hin : i ∈ ids
      · simp [hi, hid, hin, hff]
      · simp [hi, hid, hin]
    · simp [hi]

theorem foldl_unformat (s : State) : ((s.nv.namespaces.filter (·.formatting)).map (·.id)).foldl
    (fun t i => updateNs i (fun n => { n with formatting := false }) t) s =
      { s with nv := { s.nv with namespaces := lifted s.nv.namespaces } } := by
  have hlist : (s.nv.namespaces.map fun n =>
      if n.id ∈ (s.nv.namespaces.filter (·.formatting)).map (·.id) then { n with formatting := false } else n) =
        lifted s.nv.namespaces := by
    refine List.map_congr_left fun n hn => ?_
    split
    · rfl
    next hout =>
      have hoff : n.formatting = false := Bool.eq_false_iff.mpr fun hon =>
        hout (List.mem_map_of_mem (List.mem_filter.mpr ⟨hn, hon⟩))
      rw [← hoff]
  rw [foldl_updateNs (fun n => { n with formatting := false }) (fun _ => rfl) (fun _ => rfl), hlist]

/-- A unit on flash that a Format makes an old copy. -/
def formatOld (s : State) (u : FlashUnit) : Bool :=
  s.nv.namespaces.any fun n => n.formatting && n.id == u.ns && decide (u.seq < n.epoch)

/-- The state in which a Format looks for old copies at its end. -/
def formatErased (good : Bool) (s : State) : State :=
  if s.nv.formatSes = 1 then removeCopies good (formatOld s) s
  else if s.nv.formatSes = 2 then eraseOlderStore s else s

/-- The running Format. -/
def runningFormat (s : State) : Option Cmd :=
  s.nv.cmds.find? fun c => c.sq == 0 && c.sqe.opcode == 0x80 && c.stage == .running

theorem formatErased_nv (good : Bool) (s : State) : (formatErased good s).nv = s.nv := by
  unfold formatErased
  split
  · exact (removeCopies_keep good (formatOld s) s).nv rfl
  · split
    · exact (eraseOlderStore_keep s).nv rfl
    · rfl

theorem exec_formatNvmDone {good : Bool} {t : State} (hs : serving s = true)
    (hf : ∃ n ∈ s.nv.namespaces, n.formatting = true) (ht : formatErased good s = t) :
    (s.nv.formatSes = 1 ∧ collectHolders (formatOld s) t ≠ [] → exec (.formatNvmDone good) s = .next t) ∧
    (¬(s.nv.formatSes = 1 ∧ collectHolders (formatOld s) t ≠ []) →
      (∀ d, runningFormat s = some d → exec (.formatNvmDone good) s =
        .next (adminOk d { t with nv := { t.nv with namespaces := lifted t.nv.namespaces } })) ∧
      (runningFormat s = none → exec (.formatNvmDone good) s =
        .next (fetchAll { t with nv := { t.nv with namespaces := lifted t.nv.namespaces } }))) := by
  have hnv : t.nv = s.nv := ht ▸ formatErased_nv good s
  have hcond : (serving s && s.nv.namespaces.any (·.formatting)) = true := by
    rw [hs, Bool.true_and, List.any_eq_true]
    exact hf
  have hlift := foldl_unformat t
  rw [show (t.nv.namespaces.filter (·.formatting)) = s.nv.namespaces.filter (·.formatting) by rw [hnv]] at hlift
  have hrun : exec (.formatNvmDone good) s = execFormatNvmDone good s := rfl
  rw [execFormatNvmDone, if_pos hcond] at hrun
  dsimp only at hrun
  unfold formatErased formatOld at ht
  unfold formatOld
  rw [ht, hlift] at hrun
  refine ⟨fun hheld => ?_, fun hdone => ⟨fun d hd => ?_, fun hnone => ?_⟩⟩
  · rw [if_pos hheld] at hrun
    exact hrun
  · rw [if_neg hdone] at hrun
    have hfound : t.nv.cmds.find? (fun c => c.sq == 0 && c.sqe.opcode == 0x80 && c.stage == .running) = some d := by
      rw [hnv]
      exact hd
    simpa only [hfound] using hrun
  · rw [if_neg hdone] at hrun
    have hfound : t.nv.cmds.find? (fun c => c.sq == 0 && c.sqe.opcode == 0x80 && c.stage == .running) = none := by
      rw [hnv]
      exact hnone
    simpa only [hfound] using hrun

end FormatDone

/-! ## Sanitize begins (R114, R395) -/

section Sanitize

variable {s : State} {cid : BitVec 16} {c : Cmd}

theorem exec_sanitizeBlockErase (h : Begins s 0 cid 0x84 c) (hsel : c.sqe.cdw10.toNat % 8 = 2) :
    (∀ f, sanitizeFault s = some f →
      exec (.sanitizeBlockErase cid) s = .next (fetchAll (completeCmd 0 cid 0 f.1 f.2 0 0 s))) ∧
    (sanitizeFault s = none → exec (.sanitizeBlockErase cid) s = .next
      (needNumbers s.nv.namespaces.length (beginSanitize .blockErase c) s)) := by
  have hrun : exec (.sanitizeBlockErase cid) s = .next (onAdmin cid 0x84 _ s) := rfl
  rw [onAdmin_begun h] at hrun
  have hfield : ¬ field c.sqe.cdw10.toNat 0 3 ≠ 2 := not_not.mpr ((field_low _ 3).trans hsel)
  simp only [if_neg hfield] at hrun
  refine ⟨fun f hf => ?_, fun hf => ?_⟩
  · simpa only [hf] using hrun
  · simpa only [hf] using hrun

theorem exec_sanitizeCryptoErase (h : Begins s 0 cid 0x84 c) (hsel : c.sqe.cdw10.toNat % 8 = 4) :
    (∀ f, sanitizeFault s = some f →
      exec (.sanitizeCryptoErase cid) s = .next (fetchAll (completeCmd 0 cid 0 f.1 f.2 0 0 s))) ∧
    (sanitizeFault s = none → exec (.sanitizeCryptoErase cid) s = .next (
      if s.sec.drbgOn = false then fetchAll (completeCmd 0 cid 0 0x06 false 0 0 s)
      else needNumbers s.nv.namespaces.length (beginSanitize .cryptoErase c) s)) := by
  have hrun : exec (.sanitizeCryptoErase cid) s = .next (onAdmin cid 0x84 _ s) := rfl
  rw [onAdmin_begun h] at hrun
  have hfield : ¬ field c.sqe.cdw10.toNat 0 3 ≠ 4 := not_not.mpr ((field_low _ 3).trans hsel)
  simp only [if_neg hfield] at hrun
  refine ⟨fun f hf => ?_, fun hf => ?_⟩
  · simpa only [hf] using hrun
  · simpa only [hf] using hrun

/-- The checks of a Sanitize in their order (R114). -/
theorem sanitizeFault_eq (s : State) : sanitizeFault s =
    if ∃ x ∈ s.str.list, x.state ≠ .closed then some (0x0C, true)
    else if s.nv.sanitize ≠ .none then some (0x1D, false)
    else if ∃ n ∈ s.nv.namespaces, n.formatting = true then some (0x84, false)
    else none := by
  simp only [sanitizeFault, anyStream, List.any_eq_true, bne_iff_ne]

/-- A Sanitize that fails a check ends with that check's status. -/
theorem sanitize_refused {i : Instr} {cid : BitVec 16} (hrun : ∀ f, sanitizeFault s = some f →
      exec i s = .next (fetchAll (completeCmd 0 cid 0 f.1 f.2 0 0 s))) :
    let busy := ∃ y ∈ s.str.list, y.state ≠ .closed
    (busy → Ends i s 0 cid 0 0x0C true 0 0 s) ∧
      (¬busy → s.nv.sanitize ≠ .none → Ends i s 0 cid 0 0x1D false 0 0 s) ∧
      (¬busy → s.nv.sanitize = .none → (∃ n ∈ s.nv.namespaces, n.formatting = true) →
        Ends i s 0 cid 0 0x84 false 0 0 s) := by
  have hfault := sanitizeFault_eq s
  refine ⟨fun hb => ?_, fun hb hk => ?_, fun hb hk hf => ?_⟩
  · rw [if_pos hb] at hfault
    exact hrun (0x0C, true) hfault
  · rw [if_neg hb, if_pos hk] at hfault
    exact hrun (0x1D, false) hfault
  · rw [if_neg hb, if_neg (not_not.mpr hk), if_pos hf] at hfault
    exact hrun (0x84, false) hfault

theorem sanitizeFault_none (hb : ¬∃ y ∈ s.str.list, y.state ≠ .closed) (hk : s.nv.sanitize = .none)
    (hf : ¬∃ n ∈ s.nv.namespaces, n.formatting = true) : sanitizeFault s = none := by
  rw [sanitizeFault_eq, if_neg hb, if_neg (not_not.mpr hk), if_neg hf]

/-- The namespaces renewed as a Sanitize does it. -/
def sanitizeRenewed (kind : Sanitize) (s : State) : State :=
  let ids := s.nv.namespaces.map (·.id)
  let s := endAffected ids true 0x1D s
  if kind = .cryptoErase then storeKeys (replaceKeys ids true s) else ids.foldl (fun s i => newEpoch i 3 s) s

theorem beginSanitize_ends (kind : Sanitize) (c : Cmd) (s : State) : beginSanitize kind c s = adminOk c
    { sanitizeRenewed kind s with nv := { (sanitizeRenewed kind s).nv with sanitize := kind } } := rfl

theorem sanitizeRenewed_renewed (kind : Sanitize) (s : State) :
    Renewed (fun n => n) (s.nv.namespaces.map (·.id)) (endAffected (s.nv.namespaces.map (·.id)) true 0x1D s)
      (sanitizeRenewed kind s) := by
  unfold sanitizeRenewed
  split
  · exact replaceKeys_renewed _ true _
  · exact foldl_newEpoch 3 _ _

theorem sanitizeRenewed_keep (kind : Sanitize) (s : State) : Keep 172622208 s (sanitizeRenewed kind s) := by
  have hio := Keep.on (m := 172622208) (endAffected_keep (s.nv.namespaces.map (·.id)) true 0x1D s) (Keep.refl _ s) rfl
  unfold sanitizeRenewed
  split
  · exact Keep.on (storeKeys_keep _) (Keep.on (replaceKeys_keep _ true _) hio rfl) rfl
  · exact Keep.foldl _ _ _ (fun t i => Keep.on (newEpoch_keep i 3 t) (Keep.refl _ t) rfl) hio

/-- What a Sanitize's beginning leaves of namespaces and commands. -/
theorem sanitizeRenewed_facts (kind : Sanitize) (s : State) :
    (∀ n ∈ (sanitizeRenewed kind s).nv.namespaces, s.ord.next ≤ n.epoch) ∧
    (sanitizeRenewed kind s).nv.namespaces.map (·.id) = s.nv.namespaces.map (·.id) ∧
    (∀ d ∈ (sanitizeRenewed kind s).nv.cmds, d.sq ≠ 0 → d.stage = .running → d.seq ≠ 0) := by
  have hio := sansIo_endAffected (s.nv.namespaces.map (·.id)) true 0x1D s
  have hr := sanitizeRenewed_renewed kind s
  have hids : (sanitizeRenewed kind s).nv.namespaces.map (·.id) = s.nv.namespaces.map (·.id) :=
    hr.ids.trans (congrArg (·.nv.namespaces.map (·.id)) hio)
  have hnext : (endAffected (s.nv.namespaces.map (·.id)) true 0x1D s).ord.next = s.ord.next := congrArg (·.ord.next) hio
  refine ⟨fun n hn => ?_, hids, fun d hd hsq hrun => ?_⟩
  · have hin : n.id ∈ s.nv.namespaces.map (·.id) := hids ▸ List.mem_map_of_mem hn
    rcases hr.epochs n hn with he | ⟨hout, -⟩
    · exact hnext.ge.trans he
    · exact absurd hin hout
  · rw [show (sanitizeRenewed kind s).nv.cmds = _ from congrArg (·.cmds) hr.nv] at hd
    exact endIoWhere_left hd hsq hrun rfl

theorem sanitizeRenewed_blockErase (s : State) :
    (sanitizeRenewed .blockErase s).sec = s.sec ∧ (sanitizeRenewed .blockErase s).nor = s.nor := by
  have hio := endAffected_keep (s.nv.namespaces.map (·.id)) true 0x1D s
  have hfold : Keep 131456 (endAffected (s.nv.namespaces.map (·.id)) true 0x1D s) (sanitizeRenewed .blockErase s) :=
    Keep.foldl _ _ _ (fun t i => newEpoch_keep i 3 t) (Keep.refl _ _)
  exact ⟨(hfold.sec rfl).trans (hio.sec rfl), (hfold.nor rfl).trans (hio.nor rfl)⟩

/-- A Sanitize that begins ends its command on a state with new epochs and no I/O before its point of no return. -/
theorem sanitize_begins {i : Instr} {kind : Sanitize}
    (hrun : exec i s = .next (needNumbers s.nv.namespaces.length (beginSanitize kind c) s))
    (hnumbers : s.ord.next + (s.nv.namespaces.map (·.id)).length ≤ s.ord.top + 1) : ∃ u,
      Ends i s 0 c.sqe.cid 0 0 false 0 0 u ∧ u.nv.sanitize = kind ∧ (∀ n ∈ u.nv.namespaces, s.ord.next ≤ n.epoch) ∧
      u.nv.namespaces.map (·.id) = s.nv.namespaces.map (·.id) ∧
      (∀ d ∈ u.nv.cmds, d.sq ≠ 0 → d.stage = .running → d.sqe.nsid.toNat ∈ s.nv.namespaces.map (·.id) → d.seq ≠ 0) ∧
      (kind = .blockErase → u.sec = s.sec ∧ u.nor = s.nor) ∧ u.str = s.str ∧ u.med = s.med ∧ u.clk = s.clk := by
  rw [List.length_map] at hnumbers
  rw [needNumbers_left hnumbers, beginSanitize_ends] at hrun
  obtain ⟨hepochs, hids, hcmds⟩ := sanitizeRenewed_facts kind s
  have hkeep := sanitizeRenewed_keep kind s
  refine ⟨_, hrun, rfl, hepochs, hids, fun d hd hsq hst _ => hcmds d hd hsq hst, ?_, hkeep.str rfl, hkeep.med rfl,
    hkeep.clk rfl⟩
  rintro rfl
  exact sanitizeRenewed_blockErase s

/-! ## Sanitize ends (R114, R408) -/

/-- A unit on flash that holds user data. -/
def userUnit (u : FlashUnit) : Bool := u.kind != .pad && u.kind != .summary

/-- No Sanitize runs any more, and one has run. -/
def sanitizeEnded (s : State) : State := { s with nv := { s.nv with sanitize := .none, sanitized := true } }

theorem exec_sanitizeDone (good : Bool) (hs : serving s = true) :
    (s.nv.sanitize = .none → exec (.sanitizeDone good) s = .next s) ∧
    (s.nv.sanitize = .cryptoErase → exec (.sanitizeDone good) s =
      .next (fetchAll (sanitizeEnded (eraseOlderStore (issueErases (freeEmpty (closeHolders userUnit s))))))) ∧
    (s.nv.sanitize = .blockErase → exec (.sanitizeDone good) s = .next (
      if collectHolders userUnit (removeCopies good userUnit s) ≠ [] then removeCopies good userUnit s
      else fetchAll (sanitizeEnded (removeCopies good userUnit s)))) := by
  have hrun : exec (.sanitizeDone good) s = execSanitizeDone good s := rfl
  rw [execSanitizeDone, if_pos hs] at hrun
  refine ⟨fun hk => ?_, fun hk => ?_, fun hk => ?_⟩
  · simpa only [hk] using hrun
  · simp only [hk, reduceCtorEq, ↓reduceIte, false_and] at hrun
    exact hrun
  · simp only [hk, ↓reduceIte, true_and] at hrun
    exact hrun

end Sanitize

theorem eraseAfterCrypto_keep (s : State) :
    Keep 4325504 s (eraseOlderStore (issueErases (freeEmpty (closeHolders userUnit s)))) :=
  Keep.on (eraseOlderStore_keep _) (Keep.on (issueErases_keep _) (Keep.on (freeEmpty_keep _)
    (Keep.on (closeHolders_keep userUnit s) (Keep.refl _ s) rfl) rfl) rfl) rfl

theorem legalFormat_iff {fmt pi : Nat} :
    formatOk fmt pi = true ↔ (fmt = 0 ∧ pi = 0) ∨ (fmt = 1 ∧ (pi = 0 ∨ pi = 1 ∨ pi = 3)) := by
  rw [formatOk_iff]
  omega

/-- The checks of a Format's layout fail where the layout is none the device offers (R99, R114). -/
theorem layout_refused {fmt pi v : Nat} :
    (formatOk fmt pi = false ∨ (fmt = 1 ∧ v.testBit 4 = false) ∨ v.testBit 8 = true) ↔
      ¬(((fmt = 0 ∧ pi = 0) ∨ (fmt = 1 ∧ (pi = 0 ∨ pi = 1 ∨ pi = 3))) ∧ (fmt = 1 → v.testBit 4 = true) ∧
        v.testBit 8 = false) := by
  rw [← legalFormat_iff]
  simp only [← Bool.not_eq_true]
  tauto

/-- Settles O39, from what the beginnings and ends of Format and Sanitize change. -/
theorem nvmeErasing : Obligations.NvmeErasing := by
  intro s cid c good e v fmt pi ses ids formatting all open_ stops
  refine ⟨fun h => ?_, fun hs hf => ?_, fun h x hx hsel => ?_, fun hs => ?_⟩
  · obtain ⟨-, rfl⟩ := findCmd_key h.found
    have hnamed : namedNs s c.sqe.nsid.toNat = ids := namedNs_eq s c.sqe.nsid
    clear_value ids
    have hrun := exec_formatNvm h hnamed
    refine ⟨fun hnil hone => hrun.trans (congrArg _ (if_pos ⟨hnil, hone⟩)), fun hsome => ?_⟩
    have hcheck : ¬(ids = [] ∧ c.sqe.nsid ≠ 0xFFFFFFFF) := fun hno => hsome.elim (fun hne => hne hno.1) hno.2
    rw [if_neg hcheck] at hrun
    refine ⟨fun hopen => hrun.trans (congrArg _ (if_pos (streamBound_iff.mpr hopen))), fun hopen hsan => ?_,
      fun hopen hsan hf => ?_, fun hopen hsan hf => ?_⟩
    all_goals rw [if_neg fun ho => hopen (streamBound_iff.mp ho)] at hrun
    · exact hrun.trans (congrArg _ (if_pos hsan))
    · rw [if_neg (not_not.mpr hsan)] at hrun
      exact hrun.trans (congrArg _ (if_pos hf))
    · rw [if_neg (not_not.mpr hsan), if_neg hf] at hrun
      intro legal layout
      have hlayout : _ ↔ ¬layout := layout_refused
      clear_value layout
      refine ⟨fun hses => hrun.trans (congrArg _ (if_pos hses)), fun hses hlay => ?_, fun hses hlay hdrbg => ?_,
        fun hses hlay hdrbg hnil => ?_, fun hses hlay hdrbg hids hnumbers => ?_⟩
      · rw [if_neg (Nat.not_lt.mpr hses), if_pos (hlayout.mpr hlay)] at hrun
        exact hrun
      · rw [if_neg (Nat.not_lt.mpr hses.le), if_neg fun hbad => hlayout.mp hbad hlay, if_pos ⟨hses, hdrbg⟩] at hrun
        exact hrun
      all_goals rw [if_neg (Nat.not_lt.mpr hses), if_neg fun hbad => hlayout.mp hbad hlay,
        if_neg fun hno => absurd (hdrbg hno.1) (Bool.eq_false_iff.mp hno.2)] at hrun
      · rw [if_pos hnil] at hrun
        exact hrun
      · rw [if_neg hids] at hrun
        exact format_begins h hrun hnumbers
  · have hlifted (u : State) (hu : formatErased good s = u) := exec_formatNvmDone (good := good) hs hf hu
    refine ⟨fun hses => ?_, fun hses => ?_⟩
    · refine ⟨formatErased good s, ?_, fun hplain => ?_, ?_⟩
      · exact (hlifted _ rfl).2 fun hone => hses hone.1
      · rw [formatErased, if_neg hses, if_neg hplain]
      · rw [formatErased, if_neg hses]
        exact (Keep.ite (eraseOlderStore_keep s) (Keep.refl _ s)).same
    · have hcopies : formatErased good s = removeCopies good (formatOld s) s := if_pos hses
      refine ⟨formatErased good s, fun hnil => (hlifted _ rfl).2 fun hheld => hheld.2 hnil,
        fun hheld => (hlifted _ rfl).1 ⟨hses, hheld⟩, ?_⟩
      rw [hcopies]
      exact (removeCopies_keep good (formatOld s) s).same
  · obtain ⟨-, rfl⟩ := findCmd_key h.found
    rcases List.mem_cons.mp hx with rfl | hx
    · obtain ⟨hrefused, hrun⟩ := exec_sanitizeBlockErase h hsel
      obtain ⟨hbusy, hrunning, hformat⟩ := sanitize_refused hrefused
      refine ⟨hbusy, hrunning, hformat, nofun, fun hb hk hf hdrbg hnumbers => ?_⟩
      obtain ⟨u, hends, hkind, hepochs, hids, hcmds, hsame, hrest⟩ :=
        sanitize_begins (hrun (sanitizeFault_none hb hk hf)) hnumbers
      exact ⟨u, hends, hkind, hepochs, hids, hcmds, fun _ => hsame rfl, hrest⟩
    · obtain rfl := List.mem_singleton.mp hx
      obtain ⟨hrefused, hrun⟩ := exec_sanitizeCryptoErase h hsel
      obtain ⟨hbusy, hrunning, hformat⟩ := sanitize_refused hrefused
      refine ⟨hbusy, hrunning, hformat, fun hb hk hf _ hdrbg => ?_, fun hb hk hf hdrbg hnumbers => ?_⟩
      · exact (hrun (sanitizeFault_none hb hk hf)).trans (congrArg _ (if_pos hdrbg))
      · have hgo := hrun (sanitizeFault_none hb hk hf)
        rw [if_neg (Bool.eq_false_iff.mp.mt (not_not.mpr (hdrbg rfl)))] at hgo
        obtain ⟨u, hends, hkind, hepochs, hids, hcmds, -, hrest⟩ := sanitize_begins hgo hnumbers
        exact ⟨u, hends, hkind, hepochs, hids, hcmds, nofun, hrest⟩
  · obtain ⟨hnone, hcrypto, hblock⟩ := exec_sanitizeDone good hs
    refine ⟨hnone, fun hk => ⟨_, hcrypto hk, (eraseAfterCrypto_keep s).same⟩, fun hk => ?_⟩
    refine ⟨_, (removeCopies_keep good userUnit s).same, fun hnil => ?_, fun hheld => ?_⟩
    · exact (hblock hk).trans (congrArg _ (if_neg (not_not.mpr hnil)))
    · exact (hblock hk).trans (congrArg _ (if_pos hheld))

end Sys2Proof.Proofs
end

section
/-! Proofs about Identify, log pages and the firmware commands (O40). -/

namespace Sys2Proof.Proofs

open Sys2Proof Sys2Proof.Machine Sys2Proof.Safety Sys2Proof.Laws

variable {s : State} {cid : BitVec 16} {c : Cmd}

/-! ## Identify and log pages (R103) -/

theorem exec_identify (h : Begins s 0 cid 0x06 c) :
    (∀ fs, identifyData s c.sqe = .inl fs → exec (.identify cid) s =
      .next (adminOk c { s with out := .hostFields cid fs :: s.out })) ∧
    (∀ sc, identifyData s c.sqe = .inr sc → exec (.identify cid) s = .next (adminFail c sc s)) := by
  have hrun : exec (.identify cid) s = .next (onAdmin cid 0x06 _ s) := rfl
  rw [onAdmin_begun h] at hrun
  refine ⟨fun fs hd => ?_, fun sc hd => ?_⟩
  · simp only [hd] at hrun
    exact hrun
  · simp only [hd] at hrun
    exact hrun

/-- The identifiers above a command's that namespaces of a kind have, in ascending order. -/
def listedIds (s : State) (e : Sqe) (p : Namespace → Bool) : List Nat :=
  (List.range 65).filter fun i => decide (e.nsid.toNat < i) && s.nv.namespaces.any fun n => n.id == i && p n

theorem identifyData_active {e : Sqe} (h : e.cdw10.toNat % 256 = 0x02) :
    identifyData s e = .inl (idList (listedIds s e (·.attached))) := by
  have hcns : field e.cdw10.toNat 0 8 = 0x02 := (field_low _ 8).trans h
  simp only [identifyData, hcns, listedIds]

theorem identifyData_allocated {e : Sqe} (h : e.cdw10.toNat % 256 = 0x10) :
    identifyData s e = .inl (idList (listedIds s e fun _ => true)) := by
  have hcns : field e.cdw10.toNat 0 8 = 0x10 := (field_low _ 8).trans h
  simp only [identifyData, hcns, listedIds]

theorem identifyData_namespace_refused {e : Sqe} (h : e.cdw10.toNat % 256 = 0x00)
    (hid : e.nsid = 0 ∨ (64 < e.nsid.toNat ∧ e.nsid ≠ 0xFFFFFFFF)) : identifyData s e = .inr 0x0B := by
  have hcns : field e.cdw10.toNat 0 8 = 0x00 := (field_low _ 8).trans h
  have hall : e.nsid.toNat ≠ 0xFFFFFFFF := by
    rcases hid with hzero | ⟨-, hne⟩
    · rw [hzero]
      decide
    · exact fun heq => hne (BitVec.eq_of_toNat_eq heq)
  have hout : e.nsid.toNat = 0 ∨ 64 < e.nsid.toNat := by
    rcases hid with hzero | ⟨hhigh, -⟩
    · exact .inl (congrArg BitVec.toNat hzero)
    · exact .inr hhigh
  simp only [identifyData, hcns, if_neg hall, if_pos hout]

theorem exec_getLogPage (h : Begins s 0 cid 0x02 c) :
    let len := 4 * (c.sqe.cdw10.toNat / 65536 + 65536 * (c.sqe.cdw11.toNat % 65536) + 1)
    let off := c.sqe.cdw12.toNat + 2 ^ 32 * c.sqe.cdw13.toNat
    (∀ fs, logPage s (c.sqe.cdw10.toNat % 256) = some fs → exec (.getLogPage cid) s =
      .next (adminOk c { s with out := .hostFields cid (windowFields off len fs) :: s.out, free := s.free + 65541 })) ∧
    (logPage s (c.sqe.cdw10.toNat % 256) = none → exec (.getLogPage cid) s = .next (adminFail c 0x02 s)) := by
  have hrun : exec (.getLogPage cid) s = .next (onAdmin cid 0x02 _ s) := rfl
  have hlow : field c.sqe.cdw11.toNat 0 16 = c.sqe.cdw11.toNat % 65536 := field_low _ 16
  have hpage : field c.sqe.cdw10.toNat 0 8 = c.sqe.cdw10.toNat % 256 := field_low _ 8
  rw [onAdmin_begun h] at hrun
  simp only [field_high, hlow, hpage] at hrun
  refine ⟨fun fs hd => ?_, fun hd => ?_⟩
  · simp only [hd] at hrun
    exact hrun
  · simp only [hd] at hrun
    exact hrun

theorem logPage_none {lid : Nat} (h : lid ∉ [0x01, 0x02, 0x03, 0x07, 0x81]) : logPage s lid = none := by
  unfold logPage
  split
  iterate 5 exact absurd (by decide) h
  rfl

/-! ## Firmware pieces (R400) -/

theorem exec_firmwareImageDownload (h : Begins s 0 cid 0x11 c) :
    let size := 4 * (c.sqe.cdw10.toNat + 1)
    let off := 4 * c.sqe.cdw11.toNat
    exec (.firmwareImageDownload cid) s = .next (
      if size % 4096 ≠ 0 ∨ off % 4096 ≠ 0 ∨ 28311552 < off + size then adminFail c 0x02 s
      else adminOk c { s with nv := { s.nv with download := s.nv.download ++ [(off, size)] } }) :=
  congrArg Host.Outcome.next (onAdmin_begun h _)

/-! ## The slot a commit names (R116, R400) -/

theorem commitSlot_eq (s : State) (n : Nat) :
    commitSlot s (field n 0 3) = if n % 8 = 0 then 3 - s.nor.slot else n % 8 := by
  rw [field_low]
  rfl

theorem commitFault_eq (s : State) (k : Nat) (writes : Bool) : commitFault s k writes =
    if ¬(k = 1 ∨ k = 2) ∨ (writes = true ∧ k = s.nor.slot) then some (1, 0x06)
    else if s.sec.staging = some k then some (0, 0x0C)
    else none := by
  simp only [commitFault, stagingSlot, Bool.and_eq_true, beq_iff_eq, not_or]
  split
  next hno => rw [if_pos (.inl hno)]
  next hnamed =>
    split
    next hrun => rw [if_pos (.inr hrun)]
    next hrun => rw [if_neg (not_or.mpr ⟨hnamed, hrun⟩)]

/-- A commit to a slot it may name passes where it writes none that runs. -/
theorem commitFault_passes {k : Nat} {writes : Bool} (hnamed : k = 1 ∨ k = 2) (hstaging : s.sec.staging ≠ some k) :
    commitFault s k writes = none ↔ (writes = true → k ≠ s.nor.slot) := by
  rw [commitFault_eq, if_neg hstaging]
  simp [hnamed]

/-! ## A slot's writing, selection and activation (R400, R402) -/

theorem slotImage_congr {t : State} (h : t.nor = s.nor) (k : Nat) : slotImage t k = slotImage s k := by
  rw [slotImage, slotImage, h]

/-- The slot takes the image; a failed verification is logged, one that passes leaves everything but Nutmeg alone. -/
theorem writeSlot_cases {k : Nat} (hk : k = 1 ∨ k = 2) (image : FwImage) (s : State) : ∃ t,
    slotImage t k = some image ∧ Keep 20979712 s t ∧
      (writeSlot k image s = (t, false) ∨ (writeSlot k image s = (t, true) ∧ Keep 4194304 s t)) := by
  let w := writeSectors (imageSectors k image) s
  have hw : Keep 4194304 s w := writeSectors_keep _ s
  have himage (ok : Bool) (u : State) : slotImage (putSlot k (some image) ok u) k = some image := by
    rcases hk with rfl | rfl <;> rfl
  cases hf : stagedFault (putSlot k (some image) false w) image with
  | none =>
    refine ⟨putSlot k (some image) true (putSlot k (some image) false w), himage _ _, ?_, .inr ⟨?_, ?_⟩⟩
    · exact Keep.on (putSlot_keep _ _ _ _) (Keep.on (putSlot_keep _ _ _ _) (Keep.on hw (Keep.refl _ s) rfl) rfl) rfl
    · simp only [writeSlot, w] at hf ⊢
      rw [hf]
    · exact Keep.on (putSlot_keep _ _ _ _) (Keep.on (putSlot_keep _ _ _ _) hw rfl) rfl
  | some cause =>
    refine ⟨authFail 5 cause k image.version (putSlot k (some image) false w), ?_, ?_, .inl ?_⟩
    · exact (slotImage_congr ((authFail_keep 5 cause k image.version _).nor rfl) k).trans (himage false w)
    · exact Keep.on (authFail_keep _ _ _ _ _)
        (Keep.on (putSlot_keep _ _ _ _) (Keep.on hw (Keep.refl _ s) rfl) rfl) rfl
    · simp only [writeSlot, w] at hf ⊢
      rw [hf]

theorem slotImage_storeConfig (f : ConfigStore → ConfigStore) (s : State) (k : Nat) :
    slotImage (storeConfig f s) k = slotImage s k := by
  unfold storeConfig
  dsimp only
  split <;> simp only [slotImage]

theorem config_selectSlot (k : Nat) (s : State) : (config (selectSlot k s)).activeSlot = k :=
  congrArg ConfigStore.activeSlot (config_storeConfig (fun c => { c with activeSlot := k }) _)

theorem selectSlot_nv (k : Nat) (s : State) : (selectSlot k s).nv = { s.nv with nextSlot := some k } :=
  (storeConfig_keep _ _).nv rfl

theorem beginStop_facts (r : CloveStop) (s : State) : (beginStop r s).life.stop = some r ∧
    (beginStop r s).nv.cmds = s.nv.cmds ∧ (beginStop r s).nor = { s.nor with xo := true } := by
  rw [beginStop_eq]
  exact ⟨rfl, rfl, rfl⟩

/-- What an immediate commit begins: the warm recovery of an activation, with its command running on. -/
theorem activate_begins {k : Nat} (h : findCmd s 0 cid = some c) :
    let t := activate k none (some cid) (updateCmd 0 cid (fun x => { x with stage := .running }) s)
    (∃ r, t.life.stop = some r ∧ r.activation = true ∧ r.newSlot = k ∧ r.nvmeCid = some cid ∧ r.startedUs = s.clk.us) ∧
      findCmd t 0 cid = some { c with stage := .running } ∧ (config t).activeSlot = k ∧ t.nor.xo = true ∧
      t.clk = s.clk ∧ t.str = s.str ∧ t.ord = s.ord ∧ t.map = s.map := by
  let u := updateCmd 0 cid (fun x => { x with stage := .running }) s
  let v := storeConfig (fun c => { c with activeSlot := k }) { u with nv := { u.nv with nextSlot := none } }
  let r := activationStop k none (some cid) u
  have hkeep : Keep 147102466 s (activate k none (some cid) u) :=
    Keep.on (activate_keep k none (some cid) u) (Keep.on (updateCmd_keep 0 cid _ s) (Keep.refl _ s) rfl) rfl
  have heq : activate k none (some cid) u = beginStop r v := rfl
  have hv : Keep 4194304 { u with nv := { u.nv with nextSlot := none } } v := storeConfig_keep _ _
  have hfound : findCmd v 0 cid = some { c with stage := .running } :=
    (congrArg (fun n => n.cmds.find? (isCmd 0 cid)) (hv.nv rfl)).trans
      (findCmd_updateCmd (fun x => { x with stage := .running }) (fun _ => ⟨rfl, rfl⟩) h)
  have hslot : (config v).activeSlot = k :=
    congrArg ConfigStore.activeSlot (config_storeConfig (fun c => { c with activeSlot := k }) _)
  obtain ⟨hstop, hcmds, hnor⟩ := beginStop_facts r v
  rw [← heq] at hstop hcmds hnor
  refine ⟨⟨r, hstop, rfl, rfl, rfl, rfl⟩, ?_, ?_, congrArg (·.xo) hnor, hkeep.clk rfl, hkeep.str rfl, hkeep.ord rfl,
    hkeep.map rfl⟩
  · exact (congrArg (List.find? (isCmd 0 cid)) hcmds).trans hfound
  · have hconfig : config (activate k none (some cid) u) = config v := by
      rw [config, config, hnor]
      rfl
    exact (congrArg ConfigStore.activeSlot hconfig).trans hslot

/-! ## Firmware Commit (R116, R400) -/

/-- The downloaded pieces are used up. -/
def dropDownload (s : State) : State := { s with nv := { s.nv with download := [] } }

/-- AUTH_FAIL of a slot that fails its verification. -/
def slotFailLogged (k cause : Nat) (s : State) : State :=
  authFail 1 cause k ((slotImage s k).map (·.version) |>.getD 0) s

section Commit

variable {image : FwImage} {k : Nat}

theorem exec_firmwareCommit (h : Begins s 0 cid 0x10 c) (hact : c.sqe.cdw10.toNat / 8 % 8 ≠ 3)
    (hk : commitSlot s (field c.sqe.cdw10.toNat 0 3) = k) :
    let act := c.sqe.cdw10.toNat / 8 % 8
    (∀ f, commitFault s k (act != 2) = some f →
      exec (.firmwareCommit cid image) s = .next (fetchAll (completeCmd 0 cid f.1 f.2 true 0 0 s))) ∧
    (commitFault s k (act != 2) = none →
      (act = 2 → slotFault s k = none → exec (.firmwareCommit cid image) s = .next (adminOk c (selectSlot k s))) ∧
      (act = 2 → ∀ cause, slotFault s k = some cause →
        exec (.firmwareCommit cid image) s = .next (adminFailSpecific c 0x07 (slotFailLogged k cause s))) ∧
      (act ≠ 2 → s.nv.download = [] → exec (.firmwareCommit cid image) s = .next (adminFailSpecific c 0x07 s)) ∧
      (act ≠ 2 → s.nv.download ≠ [] → ∀ t,
        (writeSlot k image (dropDownload s) = (t, false) →
          exec (.firmwareCommit cid image) s = .next (adminFailSpecific c 0x07 t)) ∧
        (writeSlot k image (dropDownload s) = (t, true) →
          exec (.firmwareCommit cid image) s = .next (adminOk c (if act = 1 then selectSlot k t else t))))) := by
  have hrun : exec (.firmwareCommit cid image) s = .next (onAdmin cid 0x10 _ s) := rfl
  have hfield : field c.sqe.cdw10.toNat 3 3 = c.sqe.cdw10.toNat / 8 % 8 := field_eq _ 3 3
  rw [onAdmin_begun h] at hrun
  simp only [hfield, hk, if_neg hact] at hrun
  refine ⟨fun f hf => ?_, fun hf => ⟨fun hsel hok => ?_, fun hsel cause hbad => ?_, fun hwr hnil => ?_,
    fun hwr hsome t => ⟨fun hw => ?_, fun hw => ?_⟩⟩⟩
  · simpa only [hf] using hrun
  all_goals simp only [hf] at hrun
  · simpa only [hsel, ↓reduceIte, hok] using hrun
  · simp only [hsel, ↓reduceIte, hbad] at hrun
    exact hrun
  · simpa only [if_neg hwr, hnil, List.isEmpty_nil, ↓reduceIte] using hrun
  all_goals
    unfold dropDownload at hw
    simp only [if_neg hwr, List.isEmpty_iff, if_neg hsome, hw] at hrun
    exact hrun

theorem exec_firmwareCommitImmediate (h : Begins s 0 cid 0x10 c) (hact : c.sqe.cdw10.toNat / 8 % 8 = 3)
    (hk : commitSlot s (field c.sqe.cdw10.toNat 0 3) = k) :
    (∀ f, commitFault s k (!s.nv.download.isEmpty) = some f →
      exec (.firmwareCommitImmediate cid image) s = .next (fetchAll (completeCmd 0 cid f.1 f.2 true 0 0 s))) ∧
    (commitFault s k (!s.nv.download.isEmpty) = none → ∀ t,
      (takeDownload k image s = (t, false) →
        exec (.firmwareCommitImmediate cid image) s = .next (adminFailSpecific c 0x07 t)) ∧
      (takeDownload k image s = (t, true) →
        (∀ cause, slotFault t k = some cause →
          exec (.firmwareCommitImmediate cid image) s = .next (adminFailSpecific c 0x07 (slotFailLogged k cause t))) ∧
        (slotFault t k = none → exec (.firmwareCommitImmediate cid image) s =
          .next (activate k none (some cid) (updateCmd 0 cid (fun x => { x with stage := .running }) t))))) := by
  have hrun : exec (.firmwareCommitImmediate cid image) s = .next (onAdmin cid 0x10 _ s) := rfl
  have hfield : ¬ field c.sqe.cdw10.toNat 3 3 ≠ 3 := not_not.mpr ((field_eq _ 3 3).trans hact)
  rw [onAdmin_begun h] at hrun
  simp only [hk, if_neg hfield] at hrun
  refine ⟨fun f hf => ?_, fun hf t => ⟨fun hw => ?_, fun hw => ⟨fun cause hbad => ?_, fun hok => ?_⟩⟩⟩
  · simpa only [hf] using hrun
  all_goals simp only [hf, hw] at hrun
  · exact hrun
  · simp only [hbad] at hrun
    exact hrun
  · simpa only [hok] using hrun

theorem takeDownload_none (hnil : s.nv.download = []) : takeDownload k image s = (s, true) := by
  rw [takeDownload, hnil]
  rfl

theorem takeDownload_some (hsome : s.nv.download ≠ []) : takeDownload k image s = writeSlot k image (dropDownload s) :=
  if_neg fun hempty => hsome (List.isEmpty_iff.mp hempty)

/-- A Firmware Commit that writes a slot ends on that slot written: with the verification's failure, or as the action
says. -/
theorem firmwareCommit_writes (h : Begins s 0 cid 0x10 c) (hact : c.sqe.cdw10.toNat / 8 % 8 ≤ 1) (hnamed : k = 1 ∨ k = 2)
    (hk : commitSlot s (field c.sqe.cdw10.toNat 0 3) = k)
    (hfault : commitFault s k (c.sqe.cdw10.toNat / 8 % 8 != 2) = none) (hsome : s.nv.download ≠ []) :
    ∃ u, slotImage u k = some image ∧ u.str = s.str ∧ u.med = s.med ∧ u.clk = s.clk ∧
      ((Ends (.firmwareCommit cid image) s 0 cid 1 0x07 true 0 0 u ∧ u.nv = { s.nv with download := [] }) ∨
        (Ends (.firmwareCommit cid image) s 0 cid 0 0 false 0 0 u ∧ Logged [] s u ∧
          (c.sqe.cdw10.toNat / 8 % 8 = 0 → u.nv = { s.nv with download := [] }) ∧
          (c.sqe.cdw10.toNat / 8 % 8 = 1 →
            u.nv = { s.nv with download := [], nextSlot := some k } ∧ (config u).activeSlot = k))) := by
  obtain ⟨-, rfl⟩ := findCmd_key h.found
  obtain ⟨t, himage, hkeep, hwrite⟩ := writeSlot_cases hnamed image (dropDownload s)
  obtain ⟨hbad, hgood⟩ := (((exec_firmwareCommit (image := image) h (by omega) hk).2 hfault).2.2.2 (by omega) hsome) t
  rcases hwrite with hwrite | ⟨hwrite, hnor⟩
  · exact ⟨t, himage, hkeep.str rfl, hkeep.med rfl, hkeep.clk rfl, .inl ⟨hbad hwrite, hkeep.nv rfl⟩⟩
  · have hrun := hgood hwrite
    by_cases hone : c.sqe.cdw10.toNat / 8 % 8 = 1
    · rw [if_pos hone] at hrun
      have hsel := selectSlot_keep k t
      refine ⟨selectSlot k t, (slotImage_storeConfig _ _ k).trans himage, (hsel.str rfl).trans (hkeep.str rfl),
        (hsel.med rfl).trans (hkeep.med rfl), (hsel.clk rfl).trans (hkeep.clk rfl), .inr ⟨hrun, ?_, ?_, fun _ => ?_⟩⟩
      · exact ⟨(hsel.evr rfl).trans (hnor.evr rfl), (hsel.pins rfl).trans (hnor.pins rfl)⟩
      · exact fun hzero => absurd (hone.symm.trans hzero) (by decide)
      · refine ⟨?_, config_selectSlot k t⟩
        rw [selectSlot_nv, hkeep.nv rfl]
        rfl
    · rw [if_neg hone] at hrun
      exact ⟨t, himage, hkeep.str rfl, hkeep.med rfl, hkeep.clk rfl,
        .inr ⟨hrun, ⟨hnor.evr rfl, hnor.pins rfl⟩, fun _ => hkeep.nv rfl, fun h => absurd h hone⟩⟩

/-- An immediate commit has begun the warm recovery of an activation of slot `k`. -/
def Activating (s : State) (cid : BitVec 16) (c : Cmd) (k : Nat) (t : State) : Prop :=
  (∃ r, t.life.stop = some r ∧ r.activation = true ∧ r.newSlot = k ∧ r.nvmeCid = some cid ∧ r.startedUs = s.clk.us) ∧
    findCmd t 0 cid = some { c with stage := .running } ∧ (config t).activeSlot = k ∧ t.nor.xo = true ∧
    t.clk = s.clk ∧ t.str = s.str ∧ t.ord = s.ord ∧ t.map = s.map

/-- An immediate commit that writes a slot ends on that slot written, or begins the activation. -/
theorem firmwareCommitImmediate_writes (h : Begins s 0 cid 0x10 c) (hact : c.sqe.cdw10.toNat / 8 % 8 = 3)
    (hnamed : k = 1 ∨ k = 2) (hk : commitSlot s (field c.sqe.cdw10.toNat 0 3) = k)
    (hfault : commitFault s k (!s.nv.download.isEmpty) = none) (hsome : s.nv.download ≠ []) :
    ∃ u, slotImage u k = some image ∧ u.str = s.str ∧ u.med = s.med ∧ u.clk = s.clk ∧
      u.nv = { s.nv with download := [] } ∧ (Ends (.firmwareCommitImmediate cid image) s 0 cid 1 0x07 true 0 0 u ∨
        ∃ t, exec (.firmwareCommitImmediate cid image) s = .next t ∧ Activating s cid c k t) := by
  obtain ⟨-, rfl⟩ := findCmd_key h.found
  obtain ⟨t, himage, hkeep, hwrite⟩ := writeSlot_cases hnamed image (dropDownload s)
  obtain ⟨hbad, hgood⟩ := (exec_firmwareCommitImmediate (image := image) h hact hk).2 hfault t
  rw [takeDownload_some hsome] at hbad hgood
  rcases hwrite with hwrite | ⟨hwrite, hnor⟩
  · exact ⟨t, himage, hkeep.str rfl, hkeep.med rfl, hkeep.clk rfl, hkeep.nv rfl, .inl (hbad hwrite)⟩
  · obtain ⟨hfails, hstarts⟩ := hgood hwrite
    cases hslot : slotFault t k with
    | some cause =>
      have hlog : Keep 16785408 t (slotFailLogged k cause t) := authFail_keep _ _ _ _ _
      exact ⟨slotFailLogged k cause t, (slotImage_congr (hlog.nor rfl) k).trans himage,
        (hlog.str rfl).trans (hkeep.str rfl), (hlog.med rfl).trans (hkeep.med rfl),
        (hlog.clk rfl).trans (hkeep.clk rfl), (hlog.nv rfl).trans (hkeep.nv rfl), .inl (hfails cause hslot)⟩
    | none =>
      refine ⟨t, himage, hkeep.str rfl, hkeep.med rfl, hkeep.clk rfl, hkeep.nv rfl, .inr ⟨_, hstarts hslot, ?_⟩⟩
      have hfound : findCmd t 0 c.sqe.cid = some c :=
        (congrArg (fun n => n.cmds.find? (isCmd 0 c.sqe.cid)) (hkeep.nv rfl)).trans h.found
      obtain ⟨⟨r, hr, hra, hrk, hrc, hrs⟩, hf, hc, hx, hclk, hstr, hord, hmap⟩ := activate_begins (k := k) hfound
      exact ⟨⟨r, hr, hra, hrk, hrc, hrs.trans (congrArg (·.us) (hkeep.clk rfl))⟩, hf, hc, hx, hclk.trans (hkeep.clk rfl),
        hstr.trans (hkeep.str rfl), hord.trans (hkeep.ord rfl), hmap.trans (hkeep.map rfl)⟩

end Commit

/-- Settles O40, from what Identify, Get Log Page and the firmware commands answer and change. -/
theorem nvmeFirmware : Obligations.NvmeFirmware := by
  intro s cid c image e shown fails
  refine ⟨fun h => ?_, fun h => ?_, fun h => ?_, fun h => ?_⟩
  · obtain ⟨-, rfl⟩ := findCmd_key h.found
    obtain ⟨hdata, hrefused⟩ := exec_identify h
    exact ⟨hdata, hrefused, fun hcns => hdata _ (identifyData_active hcns),
      fun hcns => hdata _ (identifyData_allocated hcns),
      fun hcns hid => hrefused _ (identifyData_namespace_refused hcns hid)⟩
  · obtain ⟨-, rfl⟩ := findCmd_key h.found
    obtain ⟨hpage, hnone⟩ := exec_getLogPage h
    exact ⟨hpage, fun hlid => hnone (logPage_none hlid)⟩
  · obtain ⟨-, rfl⟩ := findCmd_key h.found
    have hrun := exec_firmwareImageDownload h
    intro size off good
    have hgood : (size % 4096 ≠ 0 ∨ off % 4096 ≠ 0 ∨ 28311552 < off + size) ↔ ¬good := by
      simp only [good, not_and_or, not_le]
    exact ⟨fun hbad => hrun.trans (congrArg _ (if_pos (hgood.mpr hbad))),
      fun hok => hrun.trans (congrArg _ (if_neg fun hbad => hgood.mp hbad hok))⟩
  · obtain ⟨-, rfl⟩ := findCmd_key h.found
    intro act k named now begun selected
    have hk : commitSlot s (field c.sqe.cdw10.toNat 0 3) = k := commitSlot_eq s _
    clear_value k
    refine ⟨fun hact hbad => ?_, fun hact hn hrun hst => ?_, fun hn hst => ⟨fun hact hok => ?_, fun hact cause hbad => ?_,
      fun hact hrun hnil => ?_, fun hact hrun hsome => ?_, fun hact hnil hok => ?_, fun hact hsome hrun => ?_⟩,
      fun hact hbad => ?_, fun hact hn hrun hst => ?_⟩
    · refine (exec_firmwareCommit h hact hk).1 (1, 0x06) ((commitFault_eq s k _).trans (if_pos ?_))
      exact hbad.imp_right fun hw => ⟨bne_iff_ne.mpr hw.1, hw.2⟩
    · refine (exec_firmwareCommit h hact hk).1 (0, 0x0C) ((commitFault_eq s k _).trans ?_)
      rw [if_neg fun hb => hb.elim (fun hno => hno hn) fun hw => hrun (bne_iff_ne.mp hw.1) hw.2, if_pos hst]
    · have hfault : commitFault s k (act != 2) = none :=
        (commitFault_passes hn hst).mpr fun hw => absurd hact (bne_iff_ne.mp hw)
      change c.sqe.cdw10.toNat / 8 % 8 = 2 at hact
      have hends := ((exec_firmwareCommit (image := image) h (by omega) hk).2 hfault).1 hact hok
      exact ⟨selectSlot k s, hends, ⟨selectSlot_nv k s, config_selectSlot k s⟩, (selectSlot_keep k s).same⟩
    · have hfault : commitFault s k (act != 2) = none :=
        (commitFault_passes hn hst).mpr fun hw => absurd hact (bne_iff_ne.mp hw)
      change c.sqe.cdw10.toNat / 8 % 8 = 2 at hact
      have hends := ((exec_firmwareCommit (image := image) h (by omega) hk).2 hfault).2.1 hact cause hbad
      exact ⟨slotFailLogged k cause s, _, hends, ⟨rfl, rfl⟩, (authFail_keep 1 cause k _ s).same⟩
    · have hfault : commitFault s k (act != 2) = none := (commitFault_passes hn hst).mpr fun _ => hrun
      change c.sqe.cdw10.toNat / 8 % 8 ≤ 1 at hact
      exact ((exec_firmwareCommit (image := image) h (by omega) hk).2 hfault).2.2.1 (by omega) hnil
    · exact firmwareCommit_writes h hact hn hk ((commitFault_passes hn hst).mpr fun _ => hrun) hsome
    · have hfault : commitFault s k (!s.nv.download.isEmpty) = none :=
        (commitFault_passes hn hst).mpr fun hw => absurd hnil (by simpa using hw)
      have hrun := ((exec_firmwareCommitImmediate (image := image) h hact hk).2 hfault s).2 (takeDownload_none hnil)
      exact ⟨_, hrun.2 hok, activate_begins h.found⟩
    · exact firmwareCommitImmediate_writes h hact hn hk ((commitFault_passes hn hst).mpr fun _ => hrun) hsome
    · refine (exec_firmwareCommitImmediate h hact hk).1 (1, 0x06) ((commitFault_eq s k _).trans (if_pos ?_))
      exact hbad.imp_right fun hw => ⟨by simpa using hw.1, hw.2⟩
    · refine (exec_firmwareCommitImmediate h hact hk).1 (0, 0x0C) ((commitFault_eq s k _).trans ?_)
      rw [if_neg fun hb => hb.elim (fun hno => hno hn) fun hw => hrun (by simpa using hw.1) hw.2, if_pos hst]

end Sys2Proof.Proofs
end

section
/-! Proofs about the register writes that take effect (O14). -/

namespace Sys2Proof.Proofs

open Sys2Proof Sys2Proof.Machine Sys2Proof.Safety Sys2Proof.Laws

/-! ## An access to a device that is awake (R327) -/

theorem resumeP0_awake {s : State} (h : Awake s) : resumeP0 s = s := by
  rw [resumeP0_zero h.entering h.state, ← h.l1]

theorem wakeByAccess_awake {s : State} (h : Awake s) : wakeByAccess s = s := by
  rw [wakeByAccess, resumeP0_awake h, ite_self]

/-! ## The device register space (R417, R420) -/

theorem ofNat_field {n : Nat} (x : BitVec n) (lo w : Nat) : BitVec.ofNat w (field x.toNat lo w) = x.extractLsb' lo w := by
  apply BitVec.eq_of_toNat_eq
  rw [BitVec.toNat_ofNat, BitVec.extractLsb'_toNat, field, Nat.mod_mod]

theorem ofNat_setWidth (value : BitVec 32) : BitVec.ofNat 32 (value.setWidth 64).toNat = value := by
  rw [BitVec.ofNat_toNat, BitVec.setWidth_setWidth_of_le _ (by decide), BitVec.setWidth_eq]

theorem writeSubsys_eq (value : BitVec 32) (s : State) : writeSubsys value s = if s.reg.lock then s else { s with
    reg := { s.reg with subVendor := value.extractLsb' 0 16, subSystem := value.extractLsb' 16 16 } } := by
  have hlow : BitVec.ofNat 16 value.toNat = value.extractLsb' 0 16 := rfl
  have hhigh : BitVec.ofNat 16 (value.toNat / 65536) = value.extractLsb' 16 16 := by
    rw [BitVec.extractLsb', Nat.shiftRight_eq_div_pow]
  rw [writeSubsys, hlow, hhigh]

theorem clearPllFail_eq (value : BitVec 32) (s : State) : clearPllFail value s = { s with
    pwr := { s.pwr with pllFail := s.pwr.pllFail &&& ~~~ (value.extractLsb' 16 8) } } := by
  rw [clearPllFail, ofNat_field]

section Service

variable {s : State} (hservice : s.life.phase = .service) (ha : Awake s)
include hservice ha

theorem exec_idSubsysWrite (value : BitVec 32) : exec (.idSubsysWrite value) s = .next (writeSubsys value s) := by
  refine congrArg Host.Outcome.next ((if_pos hservice).trans ?_)
  rw [wakeByAccess_awake ha]

theorem exec_pwrPllFailClear (value : BitVec 32) : exec (.pwrPllFailClear value) s = .next (clearPllFail value s) := by
  refine congrArg Host.Outcome.next ((if_pos hservice).trans ?_)
  rw [wakeByAccess_awake ha]

theorem exec_crgHeadPcieWrite (value : BitVec 32) :
    exec (.crgHeadPcieWrite value) s = .next (writeHeadPcie value s) := by
  have hring : ringWritable s = true := beq_iff_eq.mpr hservice
  refine congrArg Host.Outcome.next ((if_pos hring).trans ?_)
  rw [wakeByAccess_awake ha]

/-- An aligned 32-bit write over PCIe, in service. -/
theorem exec_registerWrite_drs (value : BitVec 32) {o : Nat} (ho : o % 4 = 0) :
    exec (.registerWrite .drs .pcie o 4 (value.setWidth 64)) s = .next (writeService .pcie o value s) := by
  have hcond : ¬(4 ≠ 4 ∨ o % 4 ≠ 0) := not_or.mpr ⟨not_not.mpr rfl, not_not.mpr ho⟩
  refine congrArg Host.Outcome.next ((if_neg hcond).trans ?_)
  rw [ofNat_setWidth, writeDrs, hservice, resumeP0_awake ha]

end Service

/-- The identification block takes a write at ID_SUBSYS only. -/
theorem writeService_id (value : BitVec 32) {o : Nat} (h : o < 0x1000) (hne : o ≠ 0x30) (s : State) :
    writeService .pcie o value s = s := by
  rw [writeService, if_neg (by omega), if_neg (by omega), if_neg hne, if_neg (by omega), if_neg (by omega),
    if_neg (by omega), if_neg (by omega)]

/-! ## The MSI-X table (R91) -/

theorem leBytes_getD {n k : Nat} (h : k < n) (x : Nat) : (leBytes n x).getD k 0 = BitVec.ofNat 8 (x >>> (8 * k)) := by
  induction n generalizing k x with
  | zero => omega
  | succ n ih =>
    cases k with
    | zero => rfl
    | succ k =>
      rw [leBytes, List.getD_cons_succ, ih (by omega)]
      refine congrArg (BitVec.ofNat 8) ?_
      rw [show x / 256 = x >>> 8 from (Nat.shiftRight_eq_div_pow x 8).symm, ← Nat.shiftRight_add]
      congr 1
      omega

/-- The messages of pending vectors change nothing but what leaves the device. -/
theorem foldl_emit_frame (l : List Nat) (s : State) : l.foldl (fun s v => emit (.msix v) s) s =
    { s with out := (l.foldl (fun s v => emit (.msix v) s) s).out } :=
  (Keep.foldl (m := 134217728) _ l s (fun t v => emit_keep (.msix v) t) (Keep.refl _ s)).same

/-- A pending vector goes out when it is masked no longer. -/
def vectorDue (s : State) (v : Nat) : Bool := s.nv.msixEnabled && !s.nv.msixMasked && !vectorMasked s v

theorem sendPending_frame (s : State) : sendPending s = { s with
    nv := { s.nv with pba := s.nv.pba.filter fun v => !vectorDue s v }, out := (sendPending s).out } := by
  have hpba : (s.nv.pba.filter fun v => !(if s.nv.msixEnabled && !s.nv.msixMasked then
      s.nv.pba.filter fun v => !vectorMasked s v else []).contains v) = s.nv.pba.filter fun v => !vectorDue s v := by
    refine List.filter_congr fun v hv => ?_
    by_cases hon : (s.nv.msixEnabled && !s.nv.msixMasked) = true
    · simp [vectorDue, hon, hv]
    · simp [vectorDue, hon]
  have hnv : (sendPending s).nv = { s.nv with pba := s.nv.pba.filter fun v => !vectorDue s v } :=
    (congrArg (·.nv) (foldl_emit_frame _ _)).trans (congrArg (fun p => { s.nv with pba := p }) hpba)
  have hsame := (sendPending_keep s).same
  exact hsame.trans (hnv ▸ rfl)

/-- A word stored in the MSI-X table reads back as it was written. -/
theorem msixByte_stored {s : State} {m : List Host.Cell} {o p : Nat} (ho : o % 4 = 0) (value : BitVec 64)
    (hp : o ≤ p ∧ p < o + 4)
    (hm : s.nv.msix = memSplice m o (leBytes 4 (value.toNat ^^^ (if o % 16 = 12 then 1 else 0)))) :
    msixByte s p = value.extractLsb' (8 * (p - o)) 8 := by
  obtain ⟨k, rfl⟩ := Nat.exists_eq_add_of_le hp.1
  have hk : k < 4 := by omega
  rw [msixByte, hm, memRead_splice_in _ _ _ _ (by rw [leBytes_length]; exact hk), leBytes_getD hk,
    Nat.add_sub_cancel_left]
  by_cases h : o % 16 = 12
  · have hlow : BitVec.ofNat 8 (1 >>> (8 * k)) = if (o + k) % 16 = 12 then 1 else 0 := by
      have hfirst : (o + k) % 16 = 12 ↔ k = 0 := by omega
      interval_cases k <;> simp only [hfirst] <;> rfl
    rw [if_pos h, Nat.shiftRight_xor_distrib, BitVec.ofNat_xor, hlow, BitVec.xor_assoc, BitVec.xor_self]
    exact BitVec.xor_zero
  · rw [if_neg h, if_neg (by omega), Nat.xor_zero]
    exact BitVec.xor_zero

theorem msixByte_other {s : State} {m : List Host.Cell} {o p x : Nat} (hp : ¬(o ≤ p ∧ p < o + 4))
    (hm : s.nv.msix = memSplice m o (leBytes 4 x)) :
    msixByte s p = memRead m p ^^^ (if p % 16 = 12 then 1 else 0) := by
  rw [msixByte, hm, memRead_splice_out _ _ _ _ (by rw [leBytes_length]; omega)]

theorem vectorDue_iff {s : State} {v : Nat} : vectorDue s v = true ↔
    s.nv.msixEnabled = true ∧ s.nv.msixMasked = false ∧ vectorMasked s v = false := by
  simp only [vectorDue, Bool.and_eq_true, Bool.not_eq_true', and_assoc]

/-- The MSI-X table takes a word; a vector that it unmasks is pending no longer. -/
theorem exec_registerWrite_msix {s : State} (hr : nvmeReachable s = true) (value : BitVec 64) {o : Nat} (ho : o % 4 = 0)
    (hin : o < 0x8000) : exec (.registerWrite .msix .pcie o 4 value) s = .next (sendPending { s with
      nv := { s.nv with msix := memSplice s.nv.msix o (leBytes 4 (value.toNat ^^^ (if o % 16 = 12 then 1 else 0))) } }) := by
  have hpath : (nvmeReachable s && Path.pcie == Path.pcie) = true := Bool.and_eq_true_iff.mpr ⟨hr, rfl⟩
  exact congrArg Host.Outcome.next ((if_pos hpath).trans (if_pos ⟨rfl, ho, hin⟩))

/-! ## The controller registers (R92, R115) -/

theorem exec_registerWrite_nvme {s : State} (hr : nvmeReachable s = true) (value : BitVec 64) (o width : Nat) :
    exec (.registerWrite .nvme .pcie o width value) s = .next (writeController o width value s) := by
  have hpath : (nvmeReachable s && Path.pcie == Path.pcie) = true := Bool.and_eq_true_iff.mpr ⟨hr, rfl⟩
  exact congrArg Host.Outcome.next (if_pos hpath)

/-- Settles O14, from what each register space does with a write. -/
theorem registerWrites : Obligations.RegisterWrites := by
  refine ⟨fun s value p o hservice ha => ?_, fun s value o hr => ?_⟩
  · have hsub := exec_idSubsysWrite hservice ha value
    have hpll := exec_pwrPllFailClear hservice ha value
    have hdrs {o : Nat} (ho : o % 4 = 0) := exec_registerWrite_drs hservice ha value ho
    refine ⟨hsub.trans (congrArg _ (writeSubsys_eq value s)), hpll.trans (congrArg _ (clearPllFail_eq value s)),
      (hdrs rfl).trans hsub.symm, (hdrs rfl).trans hpll.symm,
      (hdrs rfl).trans (exec_crgHeadPcieWrite hservice ha value).symm, fun ho hin hne => ?_, ?_⟩
    · exact (hdrs ho).trans (congrArg _ (writeService_id value hin hne s))
    · have hwidth : 2 ≠ 4 ∨ o % 4 ≠ 0 := .inl (by decide)
      exact congrArg Host.Outcome.next (if_pos hwidth)
  · have hnv (o width : Nat) := exec_registerWrite_nvme hr value o width
    refine ⟨hnv 0x28 8, hnv 0x30 8, ?_, ?_, fun ho hin => ?_⟩
    · refine (hnv 0x24 4).trans ?_
      rw [← BitVec.ofNat_toNat]
      rfl
    · have hpath : ¬(nvmeReachable s && Path.i3c == Path.pcie) = true := by rw [hr]; decide
      exact congrArg Host.Outcome.next (if_neg hpath)
    · refine ⟨_, exec_registerWrite_msix hr value ho hin, ?_⟩
      rw [sendPending_frame]
      refine ⟨rfl, fun p => ?_, fun v => ?_⟩
      · by_cases hp : o ≤ p ∧ p < o + 4
        · exact (msixByte_stored ho value hp rfl).trans (if_pos hp).symm
        · exact (msixByte_other hp rfl).trans (if_neg hp).symm
      · rw [List.mem_filter, Bool.not_eq_true', ← Bool.not_eq_true, vectorDue_iff]
        rfl

end Sys2Proof.Proofs
end

section
/-! Proofs about enable, disable, shutdown and the resets of the NVMe controller (O32). -/

namespace Sys2Proof.Proofs

open Sys2Proof Sys2Proof.Machine Sys2Proof.Safety Sys2Proof.Laws

variable {s : State} {value : BitVec 32}

/-- A device is awake by its power state alone. -/
theorem awake_of_pwr {t : State} (h : Awake s) (hp : t.pwr = s.pwr) : Awake t :=
  ⟨hp ▸ h.state, hp ▸ h.l1, hp ▸ h.entering⟩

theorem nvmeReachable_iff : nvmeReachable s = true ↔ s.life.phase = .service ∧ s.life.perstN = true := by
  rw [nvmeReachable, Bool.and_eq_true, beq_iff_eq]

/-! ## Enable (R115) -/

/-- A controller that has just been enabled. -/
def enabledBy (value : BitVec 32) (s : State) : State := { s with nv := { s.nv with
  cc := value &&& 0x00FFFFF1, shst := 0, rdy := s.life.captureReady
  sqs := [⟨0, s.nv.aqa.toNat % 4096 + 1, 0, 0, 0, 0, []⟩]
  cqs := [⟨0, s.nv.aqa.toNat / 65536 % 4096 + 1, 0, true, 0, 0, true, [], [], 0⟩] } }

theorem exec_ccEnable (ha : Awake s) : exec (.ccEnable value) s = .next (
    if (s.life.phase = .service ∧ s.life.perstN = true) ∧ value.getLsbD 0 = true ∧ s.nv.cc.getLsbD 0 = false then
      enabledBy value s
    else s) := by
  have hlow : field s.nv.aqa.toNat 0 12 = s.nv.aqa.toNat % 4096 := field_low _ 12
  have hhigh : field s.nv.aqa.toNat 16 12 = s.nv.aqa.toNat / 65536 % 4096 := field_eq _ 16 12
  have hawake : Awake (adminQueues { s with nv := { s.nv with cc := value &&& ccMask, shst := 0 } }) :=
    awake_of_pwr ha rfl
  refine congrArg Host.Outcome.next ?_
  unfold ccEnable
  rw [resumeP0_awake hawake]
  simp only [adminQueues, hlow, hhigh, Bool.and_eq_true, nvmeReachable_iff, Bool.not_eq_true', and_assoc]
  rfl

/-! ## Disable (R110, R116) -/

/-- Queues, features and commands as a disable leaves them; the PCIe state and a selected slot stay. -/
def disabledNvme (n : Nvme) : Nvme := { keptNvme n with
  cfs := n.cfs, aqa := n.aqa, asq := n.asq, acq := n.acq, critical := n.critical, nextSlot := n.nextSlot
  msix := n.msix, pba := n.pba, msixEnabled := n.msixEnabled, msixMasked := n.msixMasked
  msiEnabled := n.msiEnabled, msiAddress := n.msiAddress, msiData := n.msiData, bars := n.bars }

/-- A unit read that is not the host's. -/
def notHostRead (r : UnitRead) : Bool :=
  match r.reader with
  | .host _ _ => false
  | _ => true

/-- Everything of the host's that is not accepted is dropped. -/
def hostDropped (s : State) : State := { s with
  ord := (orphan s).ord, intg := { s.intg with reads := s.intg.reads.filter notHostRead }, nv := disabledNvme s.nv }

theorem controllerReset_none (h : s.nv.nextSlot = none) : controllerReset s = hostDropped s := by
  unfold controllerReset
  simp only [orphan, h]
  rw [hostDropped, disabledNvme, h]
  rfl

theorem controllerReset_selected {k : Nat} (h : s.nv.nextSlot = some k) (hs : serving s = true) :
    controllerReset s = activate k none none (hostDropped s) := by
  have hserve : serving (hostDropped s) = true := hs
  unfold controllerReset
  simp only [orphan, h]
  rw [hostDropped, disabledNvme, h] at hserve ⊢
  exact if_pos hserve

theorem exec_ccDisable : exec (.ccDisable value) s = .next (
    if (s.life.phase = .service ∧ s.life.perstN = true) ∧ value.getLsbD 0 = false ∧ s.nv.cc.getLsbD 0 = true then
      resumeP0 { controllerReset s with nv := { (controllerReset s).nv with cc := value &&& 0x00FFFFF1 } }
    else s) := by
  refine congrArg Host.Outcome.next ?_
  unfold ccDisable
  simp only [Bool.and_eq_true, nvmeReachable_iff, Bool.not_eq_true', and_assoc]
  rfl

/-- The activation that a disable begins, with nothing of the host's left. -/
theorem activate_hostDropped (k : Nat) (s : State) :
    let t := activate k none none (hostDropped s)
    (∃ r, t.life.stop = some r ∧ r.activation = true ∧ r.newSlot = k) ∧
      t.nv = { disabledNvme s.nv with nextSlot := none, pba := t.nv.pba } ∧ t.ord = (orphan s).ord ∧ t.pwr = s.pwr := by
  let r := activationStop k none none (hostDropped s)
  let u : State := { hostDropped s with nv := { (hostDropped s).nv with nextSlot := none } }
  let v := storeConfig (fun c => { c with activeSlot := k }) u
  have hv : Keep 4194304 u v := storeConfig_keep _ _
  have hkeep := activate_keep k none none (hostDropped s)
  have heq : activate k none none (hostDropped s) = beginStop r v := rfl
  obtain ⟨hstop, -, -⟩ := beginStop_facts r v
  have hnv : (beginStop r v).nv = { v.nv with pba := (beginStop r v).nv.pba } := by
    rw [beginStop_eq]
  rw [hv.nv rfl] at hnv
  intro t
  exact ⟨⟨r, hstop, rfl, rfl⟩, hnv, hkeep.ord rfl, hkeep.pwr rfl⟩

/-! ## Shutdown (R116, R189) -/

theorem exec_ccShutdown (ha : Awake s) : exec (.ccShutdown value) s = .next (
    if (s.life.phase = .service ∧ s.life.perstN = true) ∧ value.getLsbD 0 = true ∧ s.nv.cc.getLsbD 0 = true ∧
        s.nv.shst = 0 ∧ value.toNat / 2 ^ 14 % 4 ≠ 0 then
      padWanted { s with nv := { s.nv with cc := value &&& 0x00FFFFF1, shst := 1 } }
    else s) := by
  have hfield : field value.toNat 14 2 = value.toNat / 2 ^ 14 % 4 := field_eq _ 14 2
  have hawake : Awake { s with nv := { s.nv with cc := value &&& ccMask, shst := 1 } } := awake_of_pwr ha rfl
  refine congrArg Host.Outcome.next ?_
  unfold ccShutdown
  rw [resumeP0_awake hawake]
  simp only [hfield, Bool.and_eq_true, nvmeReachable_iff, beq_iff_eq, bne_iff_ne, and_assoc]
  rfl

/-- A shutdown's end where data has been written: CLEAN is the ledger's last slot. -/
def shutClean (s : State) : State :=
  if bufferWritten s then ledgerFlush (appendSlot (.clean (s.ord.next - 1)) s) else s

theorem exec_shutdownComplete : exec .shutdownComplete s = .next (
    if s.life.phase = .service ∧ s.nv.shst = 1 ∧ ∀ w ∈ s.ord.accepted, durable s w = true then
      { shutClean s with nv := { (shutClean s).nv with shst := 2 } }
    else s) := by
  refine congrArg Host.Outcome.next ?_
  simp only [Bool.and_eq_true, beq_iff_eq, List.all_eq_true, and_assoc]
  rfl

theorem recordAll_slots (s : State) : (recordAll s).map.slots = s.map.slots := by
  have hone (u : State) (w : Write) : ((recordSlots w).foldl (fun s x => appendSlot x s)
      (updateWrite w.seq (fun x => { x with recorded := true, programmed := (recordSlots w).isEmpty }) u)).map.slots =
        u.map.slots :=
    List.foldlRecOn (motive := fun t : State => t.map.slots = u.map.slots) _ _ rfl fun t ht _ _ => ht
  refine List.foldlRecOn (motive := fun t : State => t.map.slots = s.map.slots) _ _ rfl fun t ht w _ => ?_
  split
  · exact (hone t w).trans ht
  · exact ht

theorem settleMap_slots (s : State) : (settleMap s).map.slots = s.map.slots :=
  (congrArg (·.map.slots) (sansTables_settleFrom _ [] (recordAll s))).trans (recordAll_slots s)

/-- Below the size of a compaction the slots that wait enter the journal. -/
theorem ledgerFlush_slots (h : s.map.pendingSlots ≠ [])
    (hpages : s.map.pages + (s.map.pendingSlots.length + 254) / 255 < 1536) :
    (ledgerFlush s).map.slots = s.map.pendingSlots.reverse ++ s.map.slots := by
  have hdur := slotsDurable_all s.map.pendingSlots (journaled s)
  have hsmall : ¬ 1536 ≤ (s.map.pendingSlots.foldl slotDurable (journaled s)).map.pages := by
    rw [hdur.pages]
    exact Nat.not_le.mpr hpages
  rw [ledgerFlush_eq h, if_neg hsmall, settleMap_slots, hdur.slots]
  rfl

theorem shutClean_written (hb : bufferWritten s = true)
    (hpages : s.map.pages + (s.map.pendingSlots.length + 255) / 255 < 1536) :
    (shutClean s).map.slots.head? = some (.clean (s.ord.next - 1)) ∧ Keep 131200 s (shutClean s) := by
  have hflush : shutClean s = ledgerFlush (appendSlot (.clean (s.ord.next - 1)) s) := if_pos hb
  have hpending : (appendSlot (.clean (s.ord.next - 1)) s).map.pendingSlots =
      s.map.pendingSlots ++ [.clean (s.ord.next - 1)] := rfl
  rw [hflush, ledgerFlush_slots (by rw [hpending]; exact List.append_ne_nil_of_right_ne_nil _ (List.cons_ne_nil _ _))]
  · rw [hpending, List.reverse_append]
    exact ⟨rfl, Keep.on (ledgerFlush_keep _) (Keep.on (appendSlot_keep _ s) (Keep.refl _ s) rfl) rfl⟩
  · rw [hpending, List.length_append, List.length_singleton]
    exact hpages

/-! ## PCIe resets (R116, R136) -/

/-- NVMe's state after a PCIe reset: what is kept over a reset, and the error that stands. -/
def pcieResetNvme (n : Nvme) : Nvme := { keptNvme n with cfs := n.cfs, critical := n.critical }

/-- The device after a PCIe reset, before the in-band notice. -/
def pcieCleared (s : State) : State := { s with
  ord := (orphan s).ord, intg := { s.intg with reads := s.intg.reads.filter notHostRead }, nv := pcieResetNvme s.nv
  mbx := { s.mbx with
    msixArmed := true
    box := s.mbx.box.map fun b => if b.owner = some .pcie then { b with owner := none, unreadDone := false } else b }
  crg := { s.crg with pcieEn := false, vector := 0, unreadPcie := 0 }
  pwr := { s.pwr with d3hot := false, l1 := false } }

theorem refillRing_empty (h : s.crg.backlog = []) : refillRing s = s := by
  have hsame : { s with crg := { s.crg with backlog := [] } } = s := by rw [← h]
  rw [refillRing, h]
  exact hsame

theorem pcieUnread_cleared (s : State) : pcieUnread (pcieCleared s) = false := by
  simp only [pcieUnread, pcieCleared, Bool.false_and, Bool.false_or, List.any_map, List.any_eq_false, Function.comp_apply]
  intro b _
  split
  · simp
  · simp [*]

theorem pcieReset_eq (hslot : s.nv.nextSlot = none) (hback : s.crg.backlog = []) :
    pcieReset s = ibiNotify (pcieCleared s) := by
  have hcleared : pcieReset s = notify (refillRing (pcieCleared s)) := by
    rw [pcieReset, controllerReset_none hslot]
    simp only [endOwnership, changeWhere, beq_iff_eq, resetPcie, hostDropped, disabledNvme, hslot]
    rfl
  have hquiet : msixNotify (pcieCleared s) = pcieCleared s := by
    rw [msixNotify, pcieUnread_cleared, Bool.and_false]
    rfl
  have hempty : refillRing (pcieCleared s) = pcieCleared s := refillRing_empty hback
  rw [hcleared, hempty, notify, hquiet]

theorem boundPower_awake (h : s.pwr.state = 0) : boundPower s = s := by
  rw [boundPower, if_neg (by omega)]

theorem functionLive_iff : functionLive s = true ↔
    (s.life.phase = .service ∨ s.life.phase = .recovery) ∧ s.life.perstN = true := by
  rw [functionLive, Bool.and_eq_true, Bool.or_eq_true, beq_iff_eq, beq_iff_eq]

section PcieReset

variable (ha : Awake s) (hslot : s.nv.nextSlot = none) (hback : s.crg.backlog = []) (hlive : functionLive s = true)
include ha hslot hback hlive

theorem boundedReset_eq : (if functionLive s then boundPower (pcieReset s) else s) = ibiNotify (pcieCleared s) := by
  have hstate : (ibiNotify (pcieCleared s)).pwr.state = 0 :=
    (congrArg (·.state) ((ibiNotify_keep (pcieCleared s)).pwr rfl)).trans ha.state
  rw [if_pos hlive, pcieReset_eq hslot hback, boundPower_awake hstate]

theorem exec_perstNAssert_live : exec .perstNAssert s =
    .next (ibiNotify { pcieCleared s with life := { s.life with perstN := false } }) := by
  let u : State := { s with life := { s.life with perstN := false } }
  have hpwr : (ibiNotify (pcieCleared u)).pwr = (pcieCleared u).pwr := (ibiNotify_keep (pcieCleared u)).pwr rfl
  have hcleared : Awake (pcieCleared u) := ⟨ha.state, rfl, ha.entering⟩
  have hreset : pcieReset u = ibiNotify (pcieCleared u) := pcieReset_eq hslot hback
  refine congrArg Host.Outcome.next ((if_pos hlive).trans ?_)
  rw [hreset, resumeP0_awake (awake_of_pwr hcleared hpwr)]
  rfl

end PcieReset

/-! ## The link's states (R323, R324) -/

theorem settlePowerSet_frame (s : State) : settlePowerSet s = { s with
    nv := { s.nv with pba := (settlePowerSet s).nv.pba }, mbx := (settlePowerSet s).mbx, hnd := (settlePowerSet s).hnd
    crg := (settlePowerSet s).crg, out := (settlePowerSet s).out } := by
  have hnv : sansPba (settlePowerSet s).nv = sansPba s.nv := by
    unfold settlePowerSet
    split
    · split
      · exact completeHandle_sansPba _ _ _ _
      · rfl
    · rfl
  rw [← eq_of_sansPba hnv]
  exact (settlePowerSet_keep s).same

/-- P1 is entered: the state, and what the completion of a POWER_SET_STATE posts. -/
theorem enterState_light (s : State) : (enterState 1 s).pwr = { s.pwr with state := 1, background := false } ∧
    enterState 1 s = { s with
      nv := { s.nv with pba := (enterState 1 s).nv.pba }, pwr := (enterState 1 s).pwr, mbx := (enterState 1 s).mbx
      hnd := (enterState 1 s).hnd, crg := (enterState 1 s).crg, out := (enterState 1 s).out } := by
  let u : State := { s with pwr := { s.pwr with state := 1, background := false } }
  have henter : enterState 1 s = settlePowerSet u := rfl
  have hpwr : (settlePowerSet u).pwr = u.pwr := (settlePowerSet_keep u).pwr rfl
  rw [henter, hpwr]
  exact ⟨rfl, settlePowerSet_frame u⟩

theorem exec_pcieL1Entry (d3hot : Bool) (ha : Awake s) : exec (.pcieL1Entry d3hot) s = .next (
    if s.life.phase = .service ∧ s.life.perstN = true then
      let u : State := { s with pwr := { s.pwr with l1 := !d3hot, d3hot := s.pwr.d3hot || d3hot } }
      if targetState u = 1 then enterState 1 u else u
    else s) := by
  refine congrArg Host.Outcome.next ((if_congr nvmeReachable_iff rfl rfl).trans ?_)
  simp only [ha.l1, Bool.false_or, ha.state, true_and]

theorem exec_pcieD3hotExit (ha : Awake s) : exec .pcieD3hotExit s = .next (
    if s.life.phase = .service ∧ s.life.perstN = true then { s with pwr := { s.pwr with d3hot := false } } else s) := by
  refine congrArg Host.Outcome.next ((if_congr nvmeReachable_iff rfl rfl).trans ?_)
  rw [boundPower_awake (s := { s with pwr := { s.pwr with d3hot := false } }) ha.state]

/-! ## PERST_N (R327) -/

theorem exec_perstNDeassert_still (ha : Awake s)
    (h : s.life.phase ≠ .p4 ∨ s.pwr.perstSeen = false ∨ s.pwr.wakeSources.getLsbD 0 = false) :
    exec .perstNDeassert s = .next { s with life := { s.life with perstN := true } } := by
  let u : State := { s with life := { s.life with perstN := true } }
  have hrun : exec .perstNDeassert s = execPerstNDeassert s := rfl
  have hresume : resumeP0 u = u := resumeP0_awake (awake_of_pwr ha rfl)
  have hstay : s.life.phase = .p4 → ¬(s.pwr.perstSeen && s.pwr.wakeSources.getLsbD 0) = true := fun hp hw => by
    obtain ⟨hseen, hwake⟩ := Bool.and_eq_true_iff.mp hw
    rcases h with hne | hno | hno
    · exact hne hp
    · exact absurd (hseen.symm.trans hno) (by decide)
    · exact absurd (hwake.symm.trans hno) (by decide)
  rw [hrun, execPerstNDeassert]
  refine congrArg Host.Outcome.next ?_
  dsimp only
  split
  · exact hresume
  next hp => exact if_neg (hstay hp)
  · rfl

theorem exec_perstNDeassert_wakes (hp : s.life.phase = .p4) (hseen : s.pwr.perstSeen = true)
    (hwake : s.pwr.wakeSources.getLsbD 0 = true) :
    exec .perstNDeassert s = .next (wakeFromP4 true { s with life := { s.life with perstN := true } }) := by
  have hrun : exec .perstNDeassert s = execPerstNDeassert s := rfl
  rw [hrun, execPerstNDeassert]
  simp only [hp, hseen, hwake, Bool.and_self, ↓reduceIte]

theorem exec_perstNAssert_dead (h : functionLive s = false) : exec .perstNAssert s = .next { s with
    life := { s.life with perstN := false }
    pwr := { s.pwr with perstSeen := s.pwr.perstSeen || s.life.phase == .p4 } } := by
  have hrun : exec .perstNAssert s = execPerstNAssert s := rfl
  rw [hrun, execPerstNAssert, h]
  refine congrArg Host.Outcome.next ?_
  by_cases hp : s.life.phase = .p4
  · simp [hp]
  · have hother : (s.life.phase == .p4) = false := beq_eq_false_iff_ne.mpr hp
    rw [hother, Bool.or_false]
    exact if_neg hp

theorem functionLive_false (hs : s.life.phase ≠ .service) (hr : s.life.phase ≠ .recovery) : functionLive s = false :=
  Bool.eq_false_iff.mpr fun hl => (functionLive_iff.mp hl).1.elim hs hr

theorem no_edge {a : Prop} {x y b c : Bool} (h : ¬a ∨ x = (!b) ∨ y = (!c)) : ¬(a ∧ x = b ∧ y = c) := by
  rintro ⟨ha, rfl, rfl⟩
  rcases h with hn | hx | hy
  · exact hn ha
  · exact absurd hx.symm (Bool.not_ne_self x)
  · exact absurd hy.symm (Bool.not_ne_self y)

/-- Settles O32, from what each event of the controller and of the link changes. -/
theorem controllerResets : Obligations.ControllerResets := by
  intro s value ha live cc n orphaned reads kept disabled reset
  have henable := exec_ccEnable (value := value) ha
  have hdisable := exec_ccDisable (s := s) (value := value)
  have hshut := exec_shutdownComplete (s := s)
  refine ⟨fun hl hv hc => henable.trans (congrArg _ (if_pos ⟨hl, hv, hc⟩)), fun h => ?_, fun hl hv hc hslot => ?_,
    fun hl hs hv hc k hslot => ?_, fun h => ?_, fun hl hv hc hsh hn => ?_, fun hp hsh => ⟨fun hopen => ?_, fun hdur =>
    ⟨fun hb => ?_, fun hb hpages => ?_⟩⟩, fun h => ?_, fun hslot hback hp hperst => ?_, fun hp hr => ?_, ⟨fun h => ?_,
    fun hp hseen hwake => ?_⟩, fun d3hot => ⟨fun hl ht => ?_, fun hl ht => ?_, fun hl => ?_⟩, exec_pcieD3hotExit ha⟩
  · exact henable.trans (congrArg _ (if_neg (no_edge h)))
  · change s.nv.nextSlot = none at hslot
    have hawake : Awake { hostDropped s with nv := { (hostDropped s).nv with cc := value &&& 0x00FFFFF1 } } :=
      awake_of_pwr ha rfl
    refine hdisable.trans (congrArg _ ((if_pos ⟨hl, hv, hc⟩).trans ?_))
    rw [controllerReset_none hslot, resumeP0_awake hawake]
    simp only [hostDropped, disabledNvme, hslot]
    rfl
  · obtain ⟨⟨r, hstop, hact, hnew⟩, hnv, hord, hpwr⟩ := activate_hostDropped k s
    have hgo := hdisable.trans (congrArg _ (if_pos ⟨hl, hv, hc⟩))
    rw [controllerReset_selected hslot hs] at hgo
    generalize activate k none none (hostDropped s) = t at hstop hnv hord hpwr hgo
    have hawake : Awake { t with nv := { t.nv with cc := value &&& 0x00FFFFF1 } } := awake_of_pwr ha hpwr
    rw [resumeP0_awake hawake] at hgo
    refine ⟨_, r, hgo, hstop, hact, hnew, ?_, hord⟩
    exact congrArg (fun x : Nvme => { x with cc := value &&& 0x00FFFFF1 }) hnv
  · exact hdisable.trans (congrArg _ (if_neg (no_edge h)))
  · refine ⟨_, (exec_ccShutdown ha).trans (congrArg _ (if_pos ⟨hl, hv, hc, hsh, hn⟩)), ?_⟩
    exact padWanted_frame _
  · obtain ⟨w, hw, hno⟩ := hopen
    exact hshut.trans (congrArg _ (if_neg fun hall => absurd (hall.2.2 w hw) (Bool.eq_false_iff.mp hno)))
  · have hstay : shutClean s = s := if_neg (Bool.eq_false_iff.mp hb)
    rw [if_pos ⟨hp, hsh, hdur⟩, hstay] at hshut
    exact hshut
  · obtain ⟨hhead, hkeep⟩ := shutClean_written hb hpages
    refine ⟨_, hshut.trans (congrArg _ (if_pos ⟨hp, hsh, hdur⟩)), ?_, hhead, ?_⟩
    · rw [hkeep.nv rfl]
    · exact congrArg (fun x : State => { x with nv := { (shutClean s).nv with shst := 2 } }) hkeep.same
  · exact hshut.trans (congrArg _ (if_neg fun hall => h.elim (fun hn => hn hall.1) fun hn => hn hall.2.1))
  · have hlive : functionLive s = true := functionLive_iff.mpr ⟨hp, hperst⟩
    have hreset := boundedReset_eq ha hslot hback hlive
    exact ⟨congrArg Host.Outcome.next hreset, congrArg Host.Outcome.next hreset,
      exec_perstNAssert_live ha hslot hback hlive⟩
  · have hdead := functionLive_false hp hr
    have hstill : ¬functionLive s = true := Bool.eq_false_iff.mp hdead
    exact ⟨congrArg Host.Outcome.next (if_neg hstill), congrArg Host.Outcome.next (if_neg hstill),
      exec_perstNAssert_dead hdead⟩
  · exact exec_perstNDeassert_still ha h
  · exact exec_perstNDeassert_wakes hp hseen hwake
  · exact (exec_pcieL1Entry d3hot ha).trans (congrArg _ ((if_pos hl).trans (if_neg ht)))
  · exact ⟨_, (exec_pcieL1Entry d3hot ha).trans (congrArg _ ((if_pos hl).trans (if_pos ht))), enterState_light _⟩
  · exact (exec_pcieL1Entry d3hot ha).trans (congrArg _ (if_neg hl))

end Sys2Proof.Proofs
end

section
/-! Proofs about what reset leaves and that every step keeps a state sound (O3, O5). -/

namespace Sys2Proof.Proofs

open Sys2Proof Sys2Proof.Machine Sys2Proof.Safety Sys2Proof.Laws

/-! ## Reset (R119, R129, R132, R384, R385) -/

theorem sound_reset : Sound State.reset where
  handles := ⟨List.nodup_nil, le_refl 1, by decide, Nat.zero_le _⟩
  ring := ⟨by decide, by decide, by decide, Nat.zero_le _, Nat.zero_le _⟩
  mail := ⟨List.length_replicate, rfl⟩
  recorder := ⟨Nat.zero_le _⟩

theorem bucketOf_reset (code : BitVec 16) : bucketOf State.reset.evr code = ⟨code, 64, 16, 64, 0⟩ := rfl

/-- Settles O3: each field at its reset value, and soundness from them. -/
theorem resetState : Obligations.ResetState := by
  unfold Obligations.ResetState
  refine ⟨sound_reset, rfl, rfl, rfl, rfl, rfl, rfl, rfl, rfl, rfl, rfl, rfl, rfl, rfl, rfl, fun code => ?_⟩
  rw [bucketOf_reset]
  exact ⟨rfl, rfl, rfl⟩

/-! ## Steps (R119, R129, R130, R132 to R134, R385) -/

theorem exec_sound (c : Instr) {s t : State} (hs : Sound s) (h : exec c s = .next t) : Sound t := by
  by_cases hc : ∃ b, c = .powerUp b
  · obtain ⟨b, rfl⟩ := hc
    exact (execPowerUp_keep b s t h).sound hs
  · exact (exec_keep c s (not_exists.mp hc) t h).sound hs

/-- Settles O5: a step runs a command or lets a microsecond pass, and each of the two keeps a sound state. -/
theorem stepsKeepSound : Obligations.StepsKeepSound := by
  unfold Obligations.StepsKeepSound
  intro s t hs h
  cases hp : s.pending with
  | nil =>
    rw [step, hp] at h
    cases h
    exact (tick_keep s).sound hs
  | cons c rest =>
    rw [step, hp] at h
    exact exec_sound c (s := { s with pending := rest }) hs h

end Sys2Proof.Proofs
end

section
/-! Proofs about the consumers of the completion ring (O10). -/

namespace Sys2Proof.Proofs

open Sys2Proof Sys2Proof.Machine Sys2Proof.Safety Sys2Proof.Laws

variable {s : State}

/-! ## Writes of the ring registers in service (R132, R134) -/

theorem ringWritable_iff : ringWritable s = true ↔ s.life.phase = .service := beq_iff_eq

theorem exec_headPcie_woken (value : BitVec 32) (h : s.life.phase = .service) :
    exec (.crgHeadPcieWrite value) s = .next (writeHeadPcie value (wakeByAccess s)) :=
  congrArg Host.Outcome.next (if_pos (ringWritable_iff.mpr h))

theorem exec_pcieEnable_woken (h : s.life.phase = .service) :
    exec .crgPcieEnable s = .next (notify (refillRing (setPcieEn true (wakeByAccess s)))) :=
  congrArg Host.Outcome.next (if_pos (ringWritable_iff.mpr h))

/-- The ring takes writes over I3C while the target has its address. -/
theorem ringWritable_i3c (h : s.life.phase = .service) (ha : s.i3c.addr ≠ none) :
    (ringWritable s && s.i3c.addr.isSome) = true := by
  rw [ringWritable_iff.mpr h, Bool.true_and]
  exact Option.isSome_iff_ne_none.mpr ha

theorem exec_headI3c_woken (value : BitVec 32) (h : s.life.phase = .service) (ha : s.i3c.addr ≠ none) :
    exec (.crgHeadI3cWrite value) s = .next (writeHeadI3c value (wakeByAccess s)) :=
  congrArg Host.Outcome.next (if_pos (ringWritable_i3c h ha))

theorem exec_i3cEnable_woken (h : s.life.phase = .service) (ha : s.i3c.addr ≠ none) :
    exec .crgI3cEnable s = .next (notify (refillRing (setI3cEn true (wakeByAccess s)))) :=
  congrArg Host.Outcome.next (if_pos (ringWritable_i3c h ha))

theorem exec_overflowClear_woken {path : Path} (h : s.life.phase = .service) (hp : path = .pcie ∨ s.i3c.addr ≠ none) :
    exec (.crgOverflowClear path) s = .next (clearOverflow (wakeByAccess s)) := by
  refine congrArg Host.Outcome.next (if_pos ?_)
  rw [ringWritable_iff.mpr h, Bool.true_and, Bool.or_eq_true, beq_iff_eq]
  exact hp.imp_right Option.isSome_iff_ne_none.mpr

/-! ## What a write does to the ring, with nothing waiting in the backlog (R132, R134, R135) -/

theorem notify_crg (s : State) : (notify s).crg = s.crg := (notify_keep s).crg rfl

/-- The ring replaced, and which of the two interrupts are armed. -/
def withRing (r : Ring) (msix ibi : Bool) (s : State) : State :=
  { s with crg := r, mbx := { s.mbx with msixArmed := msix, ibiArmed := ibi } }

/-- The ring after a head write over PCIe. -/
def headPcieMoved (value : Word32) (r : Ring) : Ring :=
  let m := moveHead r r.pcieEn r.headPcie r.unreadPcie (field value.toNat 0 10)
  { r with headPcie := m.1, unreadPcie := m.2 }

/-- The ring after a head write over I3C. -/
def headI3cMoved (value : Word32) (r : Ring) : Ring :=
  let m := moveHead r r.i3cEn r.headI3c r.unreadI3c (field value.toNat 0 10)
  { r with headI3c := m.1, unreadI3c := m.2 }

/-- The ring with its PCIe consumer active: the head goes to TAIL unless it was (R134). -/
def pcieActive (r : Ring) : Ring := if r.pcieEn then r else { r with pcieEn := true, headPcie := r.tail, unreadPcie := 0 }

/-- The ring with its I3C consumer active. -/
def i3cActive (r : Ring) : Ring := if r.i3cEn then r else { r with i3cEn := true, headI3c := r.tail, unreadI3c := 0 }

theorem pcieActive_backlog (r : Ring) : (pcieActive r).backlog = r.backlog := by
  unfold pcieActive
  split <;> rfl

theorem i3cActive_backlog (r : Ring) : (i3cActive r).backlog = r.backlog := by
  unfold i3cActive
  split <;> rfl

theorem writeHeadPcie_eq (value : Word32) (s : State) : writeHeadPcie value s =
    notify (refillRing (withRing (headPcieMoved value s.crg) true s.mbx.ibiArmed s)) := rfl

theorem writeHeadI3c_eq (value : Word32) (s : State) : writeHeadI3c value s =
    notify (refillRing (withRing (headI3cMoved value s.crg) s.mbx.msixArmed true s)) := rfl

theorem setPcieEn_true (s : State) :
    setPcieEn true s = withRing (pcieActive s.crg) s.mbx.msixArmed s.mbx.ibiArmed s := by
  cases h : s.crg.pcieEn <;> simp [setPcieEn, withRing, pcieActive, h]

theorem setI3cEn_true (s : State) : setI3cEn true s = withRing (i3cActive s.crg) s.mbx.msixArmed s.mbx.ibiArmed s := by
  cases h : s.crg.i3cEn <;> simp [setI3cEn, withRing, i3cActive, h]

/-- A change of the ring takes up what waits and notifies: with nothing waiting, the notice is all that follows. -/
theorem ring_changed {i : Instr} {u : State} {r : Ring} {msix ibi : Bool} {f : Mailboxes → Bool}
    (h : exec i s = .next (notify (refillRing (withRing r msix ibi u)))) (hr : r.backlog = u.crg.backlog)
    (hf : f (notify (withRing r msix ibi u)).mbx = true) :
    ∃ t, exec i s = .next t ∧ (u.crg.backlog = [] → t.crg = r ∧
      t = { u with
        crg := r, mbx := { u.mbx with msixArmed := t.mbx.msixArmed, ibiArmed := t.mbx.ibiArmed }
        nv := { u.nv with pba := t.nv.pba }, out := t.out } ∧ f t.mbx = true) := by
  refine ⟨_, h, fun hb => ?_⟩
  rw [refillRing_empty (hr.trans hb)]
  exact ⟨notify_crg _, notify_frame _, hf⟩

/-- MSI-X is armed again by a head write, so it ends armed unless something is unread (R135). -/
theorem notify_withRing_msixArmed (r : Ring) (ibi : Bool) (u : State) :
    (notify (withRing r true ibi u)).mbx.msixArmed = !pcieUnread { u with
      mbx := (notify (withRing r true ibi u)).mbx, crg := r } := by
  obtain ⟨-, -, harm, -⟩ := notify_sent (withRing r true ibi u) rfl
  rw [harm, notify_frame]
  rfl

/-- Settles O10: a write sets head and unread count, or enables the consumer; with an empty backlog what follows is the
notice alone. -/
theorem ringConsumers : Obligations.RingConsumers := by
  unfold Obligations.RingConsumers
  intro s value path hs u r moved ring
  have hmoved (head unread : Nat) (en : Bool) :
      moveHead r en head unread (field value.toNat 0 10) = moved head unread en := by
    rw [field_low]
    rfl
  rw [← hmoved, ← hmoved]
  have hpcie := exec_headPcie_woken value hs
  have henable := exec_pcieEnable_woken hs
  rw [writeHeadPcie_eq] at hpcie
  rw [setPcieEn_true] at henable
  refine ⟨ring_changed (f := fun m => m.msixArmed == !pcieUnread { u with mbx := m, crg := headPcieMoved value r })
    hpcie rfl (beq_iff_eq.mpr (notify_withRing_msixArmed _ _ u)),
    ring_changed (f := fun _ => true) henable (pcieActive_backlog r) rfl, fun ha => ?_, exec_overflowClear_woken hs⟩
  have hi3c := exec_headI3c_woken value hs ha
  have henable := exec_i3cEnable_woken hs ha
  rw [writeHeadI3c_eq] at hi3c
  rw [setI3cEn_true] at henable
  exact ⟨ring_changed (f := fun _ => true) hi3c rfl rfl,
    ring_changed (f := fun _ => true) henable (i3cActive_backlog r) rfl⟩

end Sys2Proof.Proofs
end

section
/-! Proofs about the completion ring's entries, its backlog and the handles they retire (O11). -/

namespace Sys2Proof.Proofs

open Sys2Proof Sys2Proof.Machine Sys2Proof.Safety Sys2Proof.Laws

variable {s : State} {r : Ring} {b : RingBody}

/-! ## Handles (R130) -/

theorem findHandle_value {v : BitVec 32} {h : Handle} (hf : findHandle s v = some h) : h.value = v :=
  beq_iff_eq.mp (List.find?_some (p := fun x : Handle => x.value == v) hf)

/-- A handle's record as it is kept after its completion. -/
def retiredAs (h : Handle) (status : BitVec 16) (s : State) : Retired :=
  ⟨h.value, h.opcode, status, (s.clk.us - h.acceptedUs) / 1000⟩

theorem retire_none {v : BitVec 32} (h : findHandle s v = none) (status : BitVec 16) : retire s v status = s := by
  rw [retire, h]

theorem retire_some {v : BitVec 32} {h : Handle} (hf : findHandle s v = some h) (status : BitVec 16) :
    retire s v status = { s with hnd := { s.hnd with
      live := s.hnd.live.filter fun x => x.value != v
      retired := (retiredAs h status s :: s.hnd.retired).take 256 } } := by
  rw [retire, hf, retiredAs, findHandle_value hf]

theorem find?_filter_ne_self (l : List Handle) (v : BitVec 32) :
    (l.filter fun x => x.value != v).find? (fun h => h.value == v) = none := by
  simp [List.find?_eq_none]

theorem find?_filter_ne_other (l : List Handle) {v w : BitVec 32} (hw : w ≠ v) :
    (l.filter fun x => x.value != v).find? (fun h => h.value == w) = l.find? fun h => h.value == w := by
  rw [List.find?_filter]
  congr 1
  funext h
  by_cases he : h.value = w
  · simp [he, hw]
  · simp [he]

theorem findHandle_retire_self (v : BitVec 32) (status : BitVec 16) (s : State) :
    findHandle (retire s v status) v = none := by
  cases hf : findHandle s v with
  | none => rw [retire_none hf, hf]
  | some h =>
    rw [retire_some hf]
    exact find?_filter_ne_self _ v

theorem findHandle_retire_other {v w : BitVec 32} (hw : w ≠ v) (status : BitVec 16) (s : State) :
    findHandle (retire s v status) w = findHandle s w := by
  cases hf : findHandle s v with
  | none => rw [retire_none hf]
  | some h =>
    rw [retire_some hf]
    exact find?_filter_ne_other _ hw

/-- A handle once retired is not live again. -/
theorem findHandle_retire_none {w : BitVec 32} (h : findHandle s w = none) (v : BitVec 32) (status : BitVec 16) :
    findHandle (retire s v status) w = none := by
  by_cases hw : w = v
  · rw [hw, findHandle_retire_self]
  · rw [findHandle_retire_other hw, h]

/-! ## Entries (R133, R134) -/

theorem find?_ringWrite_other {k : Nat} (h : k ≠ r.tail) (b : RingBody) :
    (ringWrite r b).slots.find? (fun e => e.1 == k) = r.slots.find? fun e => e.1 == k := by
  have hne : (r.tail == k) = false := beq_false_of_ne (Ne.symm h)
  have hcons : (ringWrite r b).slots.find? (fun e => e.1 == k) =
      (r.slots.filter fun e => e.1 != r.tail).find? fun e => e.1 == k := List.find?_cons_of_neg (by simp [hne])
  rw [hcons, List.find?_filter]
  congr 1
  funext e
  by_cases he : e.1 = k
  · simp [he, h]
  · simp [he]

theorem putEntry_crg (b : RingBody) (s : State) : (putEntry b s).crg = ringWrite s.crg b := by
  have hretire (u : State) : (retire u b.subject b.status).crg = u.crg := (retire_keep u _ _).crg rfl
  unfold putEntry
  split
  · exact hretire _
  · rfl

theorem putEntry_frame (b : RingBody) (s : State) :
    putEntry b s = { s with crg := (putEntry b s).crg, hnd := (putEntry b s).hnd } := by
  rw [putEntry_crg]
  unfold putEntry
  split
  · exact (retire_keep _ b.subject b.status).same
  · rfl

/-- A handle's completion entry retires it (R130). -/
theorem putEntry_hnd (h : b.type = 1) (s : State) : (putEntry b s).hnd = (retire s b.subject b.status).hnd := by
  have hcomp : (b.type == 1) = true := beq_iff_eq.mpr h
  rw [putEntry, if_pos hcomp]
  unfold retire
  cases hf : findHandle s b.subject with
  | none =>
    have hput : findHandle { s with crg := ringWrite s.crg b } b.subject = none := hf
    rw [hput]
  | some x =>
    have hput : findHandle { s with crg := ringWrite s.crg b } b.subject = some x := hf
    rw [hput]

theorem findHandle_congr {t : State} (h : t.hnd = s.hnd) (v : BitVec 32) : findHandle t v = findHandle s v := by
  rw [findHandle, findHandle, h]

theorem findHandle_putEntry_self (h : b.type = 1) (s : State) : findHandle (putEntry b s) b.subject = none := by
  rw [findHandle_congr (putEntry_hnd h s), findHandle_retire_self]

theorem findHandle_putEntry_none {w : BitVec 32} (h : findHandle s w = none) (b : RingBody) :
    findHandle (putEntry b s) w = none := by
  unfold putEntry
  split
  · exact findHandle_retire_none (s := { s with crg := ringWrite s.crg b }) h _ _
  · exact h

/-! ## Completions (R130, R133) -/

/-- The entry of a handle's completion. -/
def completionEntry (v : BitVec 32) (h : Handle) (status : BitVec 16) (result : BitVec 128) : RingBody :=
  ⟨1, h.path == .i3c, status, v, h.opcode, h.mbx, if status = 0 then result else 0⟩

theorem completeHandle_live {v : BitVec 32} {h : Handle} (hf : findHandle s v = some h) (hc : completing s v = false)
    (status : BitVec 16) (result : BitVec 128) :
    completeHandle v status result s = postEntry (completionEntry v h status result) s := by
  rw [completeHandle, hf]
  exact if_neg (Bool.eq_false_iff.mp hc)

theorem postEntry_written (hb : s.crg.backlog = []) (hs : slotFree s.crg = true) (b : RingBody) :
    postEntry b s = notify (putEntry b s) := by
  rw [postEntry, hb, hs]
  rfl

theorem postEntry_waits (h : s.crg.backlog ≠ [] ∨ slotFree s.crg = false) (b : RingBody) :
    postEntry b s = { s with crg := { s.crg with backlog := s.crg.backlog ++ [b] } } := by
  have hwaits : ¬(s.crg.backlog.isEmpty && slotFree s.crg) = true := by
    rw [Bool.and_eq_true, List.isEmpty_iff]
    exact fun hboth => h.elim (fun hne => hne hboth.1) fun hno => Bool.eq_false_iff.mp hno hboth.2
  rw [postEntry, if_neg hwaits]

theorem completeHandle_frame (v : BitVec 32) (status : BitVec 16) (result : BitVec 128) (s : State) :
    completeHandle v status result s = { s with
      mbx := (completeHandle v status result s).mbx, crg := (completeHandle v status result s).crg
      hnd := (completeHandle v status result s).hnd
      nv := { s.nv with pba := (completeHandle v status result s).nv.pba }
      out := (completeHandle v status result s).out } := by
  rw [← eq_of_sansPba (completeHandle_sansPba v status result s)]
  exact (completeHandle_keep v status result s).same

theorem notify_hnd (s : State) : (notify s).hnd = s.hnd := (notify_keep s).hnd rfl

/-! ## Several entries (R134) -/

/-- Entries written one after another. -/
def putEntries (bs : List RingBody) (s : State) : State := bs.foldl (fun s b => putEntry b s) s

/-- The ring after several writes. -/
def ringWrites (bs : List RingBody) (r : Ring) : Ring := bs.foldl ringWrite r

theorem putEntries_crg (bs : List RingBody) (s : State) : (putEntries bs s).crg = ringWrites bs s.crg := by
  induction bs generalizing s with
  | nil => rfl
  | cons b bs ih => exact (ih (putEntry b s)).trans (congrArg (ringWrites bs) (putEntry_crg b s))

theorem putEntries_frame (bs : List RingBody) (s : State) :
    putEntries bs s = { s with crg := (putEntries bs s).crg, hnd := (putEntries bs s).hnd } := by
  induction bs generalizing s with
  | nil => rfl
  | cons b bs ih =>
    let t := putEntries bs (putEntry b s)
    exact (ih (putEntry b s)).trans (congrArg (fun u : State => { u with crg := t.crg, hnd := t.hnd }) (putEntry_frame b s))

theorem findHandle_putEntries_none {w : BitVec 32} (bs : List RingBody) (h : findHandle s w = none) :
    findHandle (putEntries bs s) w = none := by
  induction bs generalizing s with
  | nil => exact h
  | cons b bs ih => exact ih (findHandle_putEntry_none h b)

theorem findHandle_putEntries (bs : List RingBody) (hb : b ∈ bs) (h : b.type = 1) (s : State) :
    findHandle (putEntries bs s) b.subject = none := by
  induction bs generalizing s with
  | nil => cases hb
  | cons c bs ih =>
    cases hb with
    | head => exact findHandle_putEntries_none bs (findHandle_putEntry_self h s)
    | tail _ hb => exact ih hb (putEntry c s)

theorem counted (en : Bool) (n l : Nat) : (if en then (if en then n + 1 else n) + l else if en then n + 1 else n) =
    if en then n + (l + 1) else n := by
  cases en
  · rfl
  · exact Nat.add_right_comm n 1 l

/-- What several writes do to the ring's counters. -/
theorem ringWrites_counts (bs : List RingBody) (ht : r.tail < 1024) : let t := ringWrites bs r
    t.tail = (r.tail + bs.length) % 1024 ∧ t.number = r.number + BitVec.ofNat 32 bs.length ∧
    t.unreadPcie = (if r.pcieEn then r.unreadPcie + bs.length else r.unreadPcie) ∧
    t.unreadI3c = if r.i3cEn then r.unreadI3c + bs.length else r.unreadI3c := by
  induction bs generalizing r with
  | nil => exact ⟨(Nat.mod_eq_of_lt ht).symm, (BitVec.add_zero _).symm, (ite_self _).symm, (ite_self _).symm⟩
  | cons b bs ih =>
    obtain ⟨htail, hnumber, hpcie, hi3c⟩ := ih (r := ringWrite r b) (Nat.mod_lt _ (by decide))
    refine ⟨htail.trans ?_, hnumber.trans ?_, hpcie.trans ?_, hi3c.trans ?_⟩
    · simp only [ringWrite, List.length_cons]
      omega
    · simp only [ringWrite, List.length_cons]
      rw [BitVec.add_assoc, Nat.add_comm bs.length 1, BitVec.ofNat_add]
      rfl
    · exact counted r.pcieEn r.unreadPcie bs.length
    · exact counted r.i3cEn r.unreadI3c bs.length

/-- Up to 1,024 writes leave each entry in a slot of its own. -/
theorem find?_ringWrites (bs : List RingBody) (ht : r.tail < 1024) (hl : bs.length ≤ 1024) {i : Nat}
    (hi : i < bs.length) :
    (((ringWrites bs r).slots.find? fun e => e.1 == (r.tail + i) % 1024).map fun e => e.2.body) = bs[i]? := by
  induction bs using List.reverseRecOn with
  | nil => cases hi
  | append_singleton bs b ih =>
    obtain ⟨htail, -⟩ := ringWrites_counts (r := r) bs ht
    have hlast : ringWrites (bs ++ [b]) r = ringWrite (ringWrites bs r) b := List.foldl_concat ..
    rw [List.length_append, List.length_singleton] at hl hi
    rw [hlast]
    by_cases he : i = bs.length
    · rw [he, ← htail, find?_ringWrite]
      simp
    · have hslot : (r.tail + i) % 1024 ≠ (ringWrites bs r).tail := by
        rw [htail]
        omega
      rw [find?_ringWrite_other hslot, ih (by omega) (by omega), List.getElem?_append_left (by omega)]

/-- What waits moves into free slots in posting order, until none waits or no slot is free (R134). -/
theorem drainBacklog_eq (bs : List RingBody) (s : State) : ∃ k ≤ bs.length,
    drainBacklog bs s = { putEntries (bs.take k) s with
      crg := { (putEntries (bs.take k) s).crg with backlog := bs.drop k } } ∧
    (k < bs.length → slotFree (putEntries (bs.take k) s).crg = false) := by
  induction bs generalizing s with
  | nil => exact ⟨0, le_rfl, rfl, nofun⟩
  | cons b bs ih =>
    by_cases hs : slotFree s.crg = true
    · obtain ⟨k, hk, heq, hfull⟩ := ih (putEntry b s)
      refine ⟨k + 1, Nat.succ_le_succ hk, ?_, fun hlt => hfull (Nat.lt_of_succ_lt_succ hlt)⟩
      rw [drainBacklog, if_pos hs, heq]
      rfl
    · refine ⟨0, Nat.zero_le _, ?_, fun _ => Bool.eq_false_iff.mpr hs⟩
      rw [drainBacklog, if_neg hs]
      rfl

/-! ## The obligation -/

/-- A live handle's entry that finds a slot, as R133 and R134 have it. -/
theorem putEntry_completes {v : BitVec 32} {h : Handle} (hf : findHandle s v = some h) (status : BitVec 16)
    (result : BitVec 128) : let t := putEntry (completionEntry v h status result) s
    findHandle t v = none ∧ (∀ w, w ≠ v → findHandle t w = findHandle s w) ∧
      t.hnd.retired.head? = some ⟨v, h.opcode, status, (s.clk.us - h.acceptedUs) / 1000⟩ := by
  have hhnd := putEntry_hnd (b := completionEntry v h status result) rfl s
  refine ⟨findHandle_putEntry_self (b := completionEntry v h status result) rfl s, fun w hw => ?_, ?_⟩
  · rw [findHandle_congr hhnd]
    exact findHandle_retire_other hw status s
  · have hretire : retire s v status = _ := retire_some hf status
    rw [hhnd]
    refine (congrArg (fun u : State => u.hnd.retired.head?) hretire).trans ?_
    simp [retiredAs, findHandle_value hf]

/-- What has moved from the backlog is in the slots after TAIL, in posting order. -/
theorem refillRing_eq (s : State) (ht : s.crg.tail < 1024) : ∃ k ≤ s.crg.backlog.length,
    let u := putEntries (s.crg.backlog.take k) s
    refillRing s = { u with crg := { u.crg with backlog := s.crg.backlog.drop k } } ∧
    (k < s.crg.backlog.length → slotFree u.crg = false) ∧
    u.crg.tail = (s.crg.tail + k) % 1024 ∧ u.crg.number = s.crg.number + BitVec.ofNat 32 k ∧
    u.crg.unreadPcie = (if s.crg.pcieEn then s.crg.unreadPcie + k else s.crg.unreadPcie) ∧
    u.crg.unreadI3c = (if s.crg.i3cEn then s.crg.unreadI3c + k else s.crg.unreadI3c) ∧
    (k ≤ 1024 → ∀ i, i < k →
      ((u.crg.slots.find? fun e => e.1 == (s.crg.tail + i) % 1024).map fun e => e.2.body) = s.crg.backlog[i]?) := by
  obtain ⟨k, hk, heq, hfull⟩ := drainBacklog_eq s.crg.backlog s
  have hlen : (s.crg.backlog.take k).length = k := List.length_take_of_le hk
  obtain ⟨htail, hnumber, hpcie, hi3c⟩ := ringWrites_counts (s.crg.backlog.take k) ht
  rw [hlen] at htail hnumber hpcie hi3c
  refine ⟨k, hk, heq, hfull, ?_⟩
  rw [putEntries_crg]
  refine ⟨htail, hnumber, hpcie, hi3c, fun hle i hi => ?_⟩
  rw [find?_ringWrites _ ht (hlen.trans_le hle) (hi.trans_eq hlen.symm), List.getElem?_take_of_lt hi]

/-- Settles O11: an entry is put at TAIL, which retires its handle, or waits; and what waits is put in posting order. -/
theorem completions : Obligations.Completions := by
  unfold Obligations.Completions
  constructor
  · intro s v h status result hf hc r body t
    have ht : t = postEntry body s := completeHandle_live hf hc status result
    refine ⟨fun hb hs => ?_, fun hw => ht.trans (postEntry_waits hw body), completeHandle_frame v status result s⟩
    have hput : t = notify (putEntry body s) := ht.trans (postEntry_written hb hs body)
    have hcrg : t.crg = ringWrite r body := by rw [hput, notify_crg, putEntry_crg]
    have hhnd : t.hnd = (putEntry body s).hnd := by rw [hput, notify_hnd]
    obtain ⟨hgone, hothers, hretired⟩ := putEntry_completes hf status result
    simp only [hcrg, findHandle_congr hhnd, hhnd]
    exact ⟨find?_ringWrite r body, fun k hk => find?_ringWrite_other hk body, rfl, rfl, rfl, rfl, rfl, hgone, hothers,
      hretired⟩
  · intro s ht
    obtain ⟨k, hk, heq, hfull, htail, hnumber, hpcie, hi3c, hslots⟩ := refillRing_eq s ht
    refine ⟨k, hk, ?_⟩
    rw [heq]
    exact ⟨rfl, hfull, htail, hnumber, hpcie, hi3c, hslots,
      fun b hb htype => findHandle_putEntries _ hb htype s,
      congrArg (fun x : State => { x with crg := { x.crg with backlog := s.crg.backlog.drop k } })
        (putEntries_frame (s.crg.backlog.take k) s)⟩

end Sys2Proof.Proofs
end

section
/-! Proofs about HANDLE_QUERY, CANCEL and what a cancelled command leaves (O12). -/

namespace Sys2Proof.Proofs

open Sys2Proof Sys2Proof.Machine Sys2Proof.Safety Sys2Proof.Laws

variable {s : State} {m : Fin 16} {h : Handle} {v : BitVec 32}

/-! ## HANDLE_QUERY (R130) -/

theorem exec_handleQuery (h : Asked m 0x00F1 s) : exec (.handleQuery m) s =
    .next (respond m stOk (handleReport s (BitVec.ofNat 32 (reqField s m 8 4))) s) :=
  congrArg Host.Outcome.next (serve_asked h _)

theorem progressOf_le (s : State) (h : Handle) : progressOf s h ≤ 99 := by
  unfold progressOf
  split
  · exact Nat.min_le_left _ _
  · split
    · exact Nat.zero_le _
    · exact Nat.min_le_left _ _
  · exact Nat.zero_le _

theorem progressOf_fwStage (ho : h.opcode = 0x00A0) (s : State) :
    progressOf s h = min 99 (s.sec.staged * 100 / max 1 h.aux) := by
  rw [progressOf, ho]
  rfl

/-- Every command but FW_STAGE and SECURE_DISCARD shows no progress. -/
theorem progressOf_other (hd : h.opcode ≠ 0x0072) (hf : h.opcode ≠ 0x00A0) (s : State) : progressOf s h = 0 := by
  have hne (c : BitVec 16) (hc : h.opcode ≠ c) : h.opcode.toNat ≠ c.toNat := fun e => hc (BitVec.eq_of_toNat_eq e)
  unfold progressOf
  split
  next e => exact absurd e (hne _ hf)
  next e => exact absurd e (hne _ hd)
  next => rfl

theorem handleReport_live (hf : findHandle s v = some h) : handleReport s v =
    [0, BitVec.ofNat 8 (progressOf s h)] ++ leBytes 2 h.opcode.toNat ++ [0, 0, 0, 0] ++
      leBytes 4 ((s.clk.us - h.acceptedUs) / 1000) := by
  rw [handleReport, hf]
  rfl

theorem handleReport_retired (hf : findHandle s v = none) {x : Retired}
    (hx : (s.hnd.retired.find? fun x => x.value == v) = some x) : handleReport s v =
    [1, 100] ++ leBytes 2 x.opcode.toNat ++ leBytes 2 x.status.toNat ++ [0, 0] ++ leBytes 4 x.ms := by
  rw [handleReport, hf]
  simp only [hx]
  rfl

theorem handleReport_unknown (hf : findHandle s v = none) (hx : (s.hnd.retired.find? fun x => x.value == v) = none) :
    handleReport s v = [2, 0, 0, 0, 0, 0, 0, 0, 0, 0, 0, 0] := by
  rw [handleReport, hf]
  simp only [hx]
  rfl

/-! ## CANCEL (R131) -/

theorem exec_cancel_unknown (ha : Asked m 0x00F0 s) (hf : findHandle s (BitVec.ofNat 32 (reqField s m 8 4)) = none) :
    exec (.cancel m) s = .next (respond m stTooLate [] s) := by
  refine congrArg Host.Outcome.next ((serve_asked ha _).trans ?_)
  dsimp only
  rw [hf]

theorem exec_cancel_known (ha : Asked m 0x00F0 s) (hv : BitVec.ofNat 32 (reqField s m 8 4) = v)
    (hf : findHandle s v = some h) : exec (.cancel m) s = .next (
      if h.past = true ∨ completing s v = true then respond m stTooLate [] (logCancelRace m v s)
      else respond m stOk [] (completeHandle v stCancelled 0 (undo h s))) := by
  refine congrArg Host.Outcome.next ((serve_asked ha _).trans ?_)
  simp only [hv, hf, Bool.or_eq_true]

theorem logCancelRace_logged (m : Nat) (v : BitVec 32) (s : State) :
    Logged [(0x0301, blockUnit (0x20 + Config.choice s.free % 4), evData [(1, 1), (1, 0), (2, m), (4, v.toNat)])] s
      (logCancelRace m v s) ∧
    logCancelRace m v s = { s with
      evr := (logCancelRace m v s).evr, pins := (logCancelRace m v s).pins, free := s.free + 1 } :=
  ⟨⟨rfl, rfl⟩, rfl⟩

/-! ## What acceptance had prepared is undone (R131, R140) -/

theorem undo_powerSetState (ho : h.opcode = 0x0020) (s : State) : undo h s = { s with pwr := { s.pwr with
    depthLorard := h.aux % 8, wakeSources := BitVec.ofNat 8 (h.aux / 8), timerWake := h.aux / 2048
    entering := false } } := by
  rw [undo, ho]
  rfl

theorem undo_holdupTest (ho : h.opcode = 0x0021) (s : State) :
    undo h s = { s with hup := { s.hup with run := s.hup.run.bind withoutTest } } := by
  rw [undo, ho]
  rfl

theorem undo_captureLinkUp (ho : h.opcode = 0x0040) (s : State) : undo h s = undoLinkUp s := by
  rw [undo, ho]
  rfl

theorem undo_secureDiscard (ho : h.opcode = 0x0072) (s : State) :
    undo h s = { s with ord := { s.ord with waiting := s.ord.waiting.filter (keepsWaiting h.value) } } := by
  rw [undo, ho]
  rfl

theorem undo_demandedTest (ho : h.opcode = 0x0090 ∨ h.opcode = 0x0092) (s : State) : undo h s = { s with
    st := { s.st with waiting := s.st.waiting.filter fun t => t.handle != some h.value } } := by
  cases ho with
  | inl ho => rw [undo, ho]; rfl
  | inr ho => rw [undo, ho]; rfl

theorem undo_fwStage (ho : h.opcode = 0x00A0) (s : State) :
    undo h s = { s with sec := { s.sec with staging := none, staged := 0 } } := by
  rw [undo, ho]
  rfl

theorem undo_debugUnlock (ho : h.opcode = 0x00B1) (s : State) :
    undo h s = { s with sec := { s.sec with challenge := s.sec.challenge <|> s.sec.spent, spent := none } } := by
  rw [undo, ho]
  cases s.sec.challenge <;> rfl

/-- The channels a patch load holds, released one after another. -/
def channelsFreed (chs : List Nat) (s : State) : State := chs.foldl (fun s ch => freeChannel ch s) s

theorem undo_csPatchLoad (ho : h.opcode = 0x00A2) (s : State) : undo h s = { channelsFreed s.med.toLoad s with
    med := { (channelsFreed s.med.toLoad s).med with load := none, toLoad := [], loaded := [] } } := by
  rw [undo, ho]
  rfl

/-- The other long commands prepare nothing at acceptance. -/
theorem undo_other (ho : h.opcode ∈ [0x0002, 0x0030, 0x0042, 0x0091, 0x00A1, 0x00A3, 0x00B0]) (s : State) :
    undo h s = s := by
  simp only [List.mem_cons, List.not_mem_nil, or_false] at ho
  obtain ho | ho | ho | ho | ho | ho | ho := ho <;> rw [undo, ho] <;> rfl

/-! ## The discard that waits (R407) -/

theorem mem_undo_discard (ho : h.opcode = 0x0072) (w : Write) : .write w ∈ (undo h s).ord.waiting ↔
    .write w ∈ s.ord.waiting ∧ ¬(w.kind = .secureDiscard ∧ w.src = .discard h.value) := by
  rw [undo_secureDiscard ho]
  simp [List.mem_filter, keepsWaiting, imp_iff_not_or]

/-! ## The bundle as CAPTURE_LINK_UP found it (R140) -/

theorem undoLinkUp_found {b : LinkBefore} (hb : s.link.before = some b) : let l := (undoLinkUp s).link
    l.state = .down ∧ l.window = b.window ∧ l.forceFull = b.forceFull ∧ l.epoch = b.epoch ∧ l.granted = b.granted ∧
      l.consumed = b.consumed ∧ l.entered = b.entered ∧ l.skew = b.skew ∧ l.retrains = b.retrains ∧ l.before = none ∧
      (b.counts.length = s.link.lanes.length → l.lanes.map (fun x => (x.uncorr, x.corr, x.fom)) = b.counts) := by
  have hdown : (enterDown s).link.before = some b := hb
  rw [undoLinkUp]
  simp only [hdown]
  refine ⟨rfl, rfl, rfl, rfl, rfl, rfl, rfl, rfl, rfl, rfl, fun hl => ?_⟩
  have hlanes : (enterDown s).link.lanes.length = b.counts.length := (List.length_map _).trans hl.symm
  refine List.ext_getElem ?_ fun i _ _ => ?_
  · simp [onLink, hlanes]
  · simp [onLink]

/-! ## Channels a patch load holds (R221) -/

theorem freeChannel_releases (ch : Nat) (s : State) : (chanOf (freeChannel ch s) ch).state ≠ .loading := by
  rw [freeChannel, chanOf_updateChan]
  by_cases hin : ch < s.med.channels.length
  · rw [if_pos ⟨rfl, hin⟩]
    by_cases hload : (chanOf s ch).state = .loading <;> simp [hload]
  · have hreset : chanOf s ch = Channel.reset := List.getD_eq_default _ _ (Nat.le_of_not_lt hin)
    rw [if_neg (fun hboth => hin hboth.2), hreset]
    decide

theorem freeChannel_keeps_released {j : Nat} (hj : (chanOf s j).state ≠ .loading) (ch : Nat) :
    (chanOf (freeChannel ch s) j).state ≠ .loading := by
  rw [freeChannel, chanOf_updateChan]
  split
  · simp [hj]
  · exact hj

theorem channelsFreed_keeps_released {j : Nat} (chs : List Nat) (hj : (chanOf s j).state ≠ .loading) :
    (chanOf (channelsFreed chs s) j).state ≠ .loading := by
  induction chs generalizing s with
  | nil => exact hj
  | cons ch chs ih => exact ih (freeChannel_keeps_released hj ch)

theorem channelsFreed_releases {j : Nat} (chs : List Nat) (hj : j ∈ chs) (s : State) :
    (chanOf (channelsFreed chs s) j).state ≠ .loading := by
  induction chs generalizing s with
  | nil => cases hj
  | cons ch chs ih =>
    cases hj with
    | head => exact channelsFreed_keeps_released chs (freeChannel_releases j s)
    | tail _ hj => exact ih hj (freeChannel ch s)

theorem channelsFreed_med (chs : List Nat) (s : State) :
    channelsFreed chs s = { s with med := (channelsFreed chs s).med } :=
  (Keep.foldl (m := 262144) _ chs s (fun t ch => freeChannel_keep ch t) (Keep.refl _ s)).same

/-! ## The obligation -/

/-- Settles O12: the report of each kind of handle, the answer of CANCEL, and what each command's acceptance had
prepared. -/
theorem cancels : Obligations.Cancels := by
  unfold Obligations.Cancels
  constructor
  · intro s m hsound v
    have hbox : s.mbx.box.length = 16 := hsound.mail.boxes
    constructor
    · intro ha
      refine ⟨_, _, exec_handleQuery ha, respond_replied m m.isLt _ _ s hbox (.inl rfl), fun h hf => ?_,
        fun hf x hx => handleReport_retired hf hx, fun hf hx => handleReport_unknown hf hx⟩
      exact ⟨progressOf s h, progressOf_le s h, handleReport_live hf, fun ho => progressOf_fwStage ho s,
        fun hd hst => progressOf_other hd hst s⟩
    · intro ha
      refine ⟨fun hf => ⟨_, exec_cancel_unknown ha hf, respond_refused m m.isLt _ s hbox⟩, fun h hf => ?_⟩
      have hexec := exec_cancel_known ha rfl hf
      refine ⟨fun hpast hcomp => ?_, fun hlate => ?_⟩
      · have hearly : ¬(h.past = true ∨ completing s v = true) := by simp [hpast, hcomp]
        have hmail : (completeHandle v stCancelled 0 (undo h s)).mbx.box.length = 16 := by
          rw [completeHandle_box, (undo_keep h s).mbx rfl, hbox]
        rw [if_neg hearly] at hexec
        exact ⟨_, hexec, respond_refused m m.isLt _ _ hmail⟩
      · obtain ⟨hlogged, hframe⟩ := logCancelRace_logged m v s
        rw [if_pos hlate] at hexec
        exact ⟨_, _, hexec, hlogged, hframe, respond_refused m m.isLt _ (logCancelRace m v s) hbox⟩
  · intro s h
    refine ⟨fun ho => undo_powerSetState ho s, fun ho => ⟨?_, ?_, mem_undo_discard ho⟩, fun ho => undo_demandedTest ho s,
      fun ho => ⟨?_, fun r hr => ?_⟩, fun ho b hb => ?_, fun ho => undo_fwStage ho s, fun ho => undo_debugUnlock ho s,
      fun ho => ?_, fun ho => undo_other ho s⟩
    · rw [undo_secureDiscard ho]
    · rw [undo_secureDiscard ho]
    · rw [undo_holdupTest ho]
    · rw [undo_holdupTest ho]
      simp only [hr]
      rfl
    · rw [undo_captureLinkUp ho]
      exact undoLinkUp_found hb
    · rw [undo_csPatchLoad ho]
      refine ⟨rfl, rfl, rfl, fun ch hch => channelsFreed_releases _ hch s, ?_⟩
      exact congrArg (fun u : State => { u with med := { (channelsFreed s.med.toLoad s).med with
        load := none, toLoad := [], loaded := [] } }) (channelsFreed_med s.med.toLoad s)

end Sys2Proof.Proofs
end

section
/-! Proofs about the I3C target: its common command codes and its private transfers (O13). -/

namespace Sys2Proof.Proofs

open Sys2Proof Sys2Proof.Machine Sys2Proof.Safety Sys2Proof.Laws

variable {s : State}

/-! ## Bytes of a word -/

theorem leBytes_toNat {n : Nat} (k : Nat) (x : BitVec n) :
    leBytes k x.toNat = (List.range k).map fun i => x.extractLsb' (8 * i) 8 := by
  refine List.ext_getElem (by rw [leBytes_length, List.length_map, List.length_range]) fun i hi _ => ?_
  have hk : i < k := (leBytes_length k x.toNat) ▸ hi
  rw [← List.getD_eq_getElem (d := 0) _ hi, leBytes_getD hk, List.getElem_map, List.getElem_range]
  rfl

theorem leBytes_leNat (bs : List Byte) : leBytes bs.length (leNat bs) = bs := by
  induction bs with
  | nil => rfl
  | cons b bs ih =>
    have hlow : BitVec.ofNat 8 (b.toNat + 256 * leNat bs) = b := by
      apply BitVec.eq_of_toNat_eq
      rw [BitVec.toNat_ofNat, Nat.add_mul_mod_self_left, Nat.mod_eq_of_lt b.isLt]
    have hhigh : (b.toNat + 256 * leNat bs) / 256 = leNat bs := by omega
    rw [leNat, List.length_cons, leBytes, hlow, hhigh, ih]

theorem leNat_pair (lo hi : Byte) : leNat [lo, hi] = lo.toNat + 256 * hi.toNat := by
  simp [leNat]

theorem lengthBytes_eq (v : BitVec 16) : lengthBytes v = [v.extractLsb' 8 8, v.extractLsb' 0 8] := by
  have hhigh : BitVec.ofNat 8 (v.toNat / 256) = v.extractLsb' 8 8 := by
    rw [BitVec.extractLsb', Nat.shiftRight_eq_div_pow]
  rw [lengthBytes, hhigh]
  rfl

/-! ## Transfers addressed to the target in service (R127, R327) -/

section Transfers

variable (ha : Awake s) (hi : i3cServed s = true) (hs : s.life.phase = .service)
include ha hi hs

theorem i3cAddressed_awake (haddr : s.i3c.addr ≠ none) (body : State → State) : i3cAddressed body s = body s := by
  have hsome : s.i3c.addr.isNone = false := Bool.eq_false_iff.mpr (mt Option.isNone_iff_eq_none.mp haddr)
  rw [i3cAddressed, hsome, if_neg Bool.false_ne_true, if_neg (by rw [hs]; decide), if_pos hi, wakeByAccess_awake ha]

omit ha hi hs in
theorem i3cAddressed_unaddressed (haddr : s.i3c.addr = none) (body : State → State) :
    i3cAddressed body s = emit .i3cNack s := by
  rw [i3cAddressed, haddr]
  rfl

theorem exec_setdasa_awake (haddr : s.i3c.addr = none) (a : BitVec 7) :
    exec (.setdasa 0x2C a) s = .next { s with i3c := { s.i3c with addr := some a } } := by
  refine congrArg Host.Outcome.next ?_
  rw [if_neg (not_not.mpr rfl), if_neg (by rw [hs]; decide), if_neg (by rw [hi]; decide), wakeByAccess_awake ha]
  exact if_pos (Option.isNone_iff_eq_none.mpr haddr)

omit ha hs in
theorem exec_entdaa_served (haddr : s.i3c.addr = none) (a : BitVec 7) :
    exec (.entdaa a) s = .next { s with i3c := { s.i3c with addr := some a } } := by
  refine congrArg Host.Outcome.next ?_
  rw [hi, haddr]
  rfl

theorem exec_getstatus_awake (haddr : s.i3c.addr ≠ none) : ∃ b c, exec .getstatus s =
    .next { s with out := .i3cData [b, c] :: s.out, free := s.free + 1 } :=
  ⟨_, _, congrArg Host.Outcome.next (i3cAddressed_awake ha hi hs haddr _)⟩

end Transfers

/-! ## The path's reset (R136) -/

theorem ringWrites_i3cEn (bs : List RingBody) (r : Ring) : (ringWrites bs r).i3cEn = r.i3cEn := by
  induction bs generalizing r with
  | nil => rfl
  | cons b bs ih => exact ih (ringWrite r b)

theorem refillRing_i3cEn (s : State) : (refillRing s).crg.i3cEn = s.crg.i3cEn := by
  obtain ⟨k, -, heq, -⟩ := drainBacklog_eq s.crg.backlog s
  rw [refillRing, heq]
  refine (congrArg Ring.i3cEn (putEntries_crg _ s)).trans (ringWrites_i3cEn _ s.crg)

/-- The path's reset before free slots are taken and the notices go out. -/
def i3cCleared (s : State) : State := { s with
  crg := { s.crg with i3cEn := false, unreadI3c := 0 }
  mbx := { s.mbx with
    ibiArmed := true
    box := s.mbx.box.map fun b => if b.owner == some .i3c then { b with owner := none, unreadDone := false } else b } }

theorem i3cReset_eq (s : State) : i3cReset s = notify (refillRing (i3cCleared s)) := rfl

/-- No interrupting DONE is left to the path. -/
theorem i3cUnread_cleared {t : State} (hbox : t.mbx.box = (i3cCleared s).mbx.box) (hen : t.crg.i3cEn = false) :
    i3cUnread t = false := by
  rw [i3cUnread, hbox, hen, Bool.false_and, Bool.false_or]
  simp only [i3cCleared, List.any_map, List.any_eq_false, Function.comp_apply]
  intro b _
  split
  · simp
  next hne => simp [hne]

theorem ibiNotify_quiet (h : i3cUnread s = false) : ibiNotify s = s := by
  rw [ibiNotify, h, Bool.and_false]
  rfl

theorem msixNotify_frame (s : State) : msixNotify s = { s with
    mbx := { s.mbx with msixArmed := (msixNotify s).mbx.msixArmed }
    nv := { s.nv with pba := (msixNotify s).nv.pba }, out := (msixNotify s).out } := by
  unfold msixNotify
  split
  · rw [interrupt_frame]
  · rfl

/-- Nothing unread is left to the I3C path: its interrupt stays armed. -/
theorem i3cReset_ibiArmed (s : State) : (i3cReset s).mbx.ibiArmed = true := by
  have hkeep := refillRing_keep (i3cCleared s)
  have hmail : (refillRing (i3cCleared s)).mbx = (i3cCleared s).mbx := hkeep.mbx rfl
  have hquiet : ibiNotify (msixNotify (refillRing (i3cCleared s))) = msixNotify (refillRing (i3cCleared s)) := by
    refine ibiNotify_quiet (i3cUnread_cleared (s := s) ?_ ?_)
    · rw [msixNotify_frame, hmail]
    · rw [msixNotify_frame]
      exact refillRing_i3cEn (i3cCleared s)
  rw [i3cReset_eq, notify, hquiet, msixNotify_frame, hmail]
  rfl

theorem i3cReset_spec (s : State) : let t := i3cReset s
    t.crg.i3cEn = false ∧
    (∀ k, k < s.mbx.box.length → boxOf t k = if (boxOf s k).owner = some .i3c
      then { boxOf s k with owner := none, unreadDone := false } else boxOf s k) ∧
    (s.crg.backlog = [] → t.crg = { s.crg with i3cEn := false, unreadI3c := 0 }) ∧ t = { s with
      crg := t.crg, hnd := t.hnd, nv := { s.nv with pba := t.nv.pba }, out := t.out
      mbx := { s.mbx with box := t.mbx.box, msixArmed := t.mbx.msixArmed, ibiArmed := t.mbx.ibiArmed } } := by
  have hrefill := (refillRing_keep (i3cCleared s)).same
  have hbox : (i3cReset s).mbx.box = (i3cCleared s).mbx.box := by
    rw [i3cReset_eq, notify_box, hrefill]
    rfl
  refine ⟨?_, fun k hk => ?_, fun hb => ?_, ?_⟩
  · rw [i3cReset_eq, notify_crg, refillRing_i3cEn]
    rfl
  · rw [boxOf, hbox]
    simp [i3cCleared, boxOf, hk]
  · have hempty : refillRing (i3cCleared s) = i3cCleared s := refillRing_empty hb
    rw [i3cReset_eq, notify_crg, hempty]
    rfl
  · have hnv : (i3cReset s).nv = { s.nv with pba := (i3cReset s).nv.pba } := by
      refine eq_of_sansPba ?_
      rw [i3cReset_eq, notify_sansPba, (refillRing_keep (i3cCleared s)).nv rfl]
      rfl
    have hmem : (i3cReset s).mbx.mem = s.mbx.mem := by
      rw [i3cReset_eq, notify_frame, (refillRing_keep (i3cCleared s)).mbx rfl]
      rfl
    have hmbx : (i3cReset s).mbx = { (i3cReset s).mbx with mem := s.mbx.mem } := by rw [← hmem]
    rw [← hnv]
    exact (i3cReset_keep s).same.trans (congrArg (fun x : Mailboxes => { s with
      crg := (i3cReset s).crg, hnd := (i3cReset s).hnd, nv := (i3cReset s).nv, out := (i3cReset s).out, mbx := x }) hmbx)

/-! ## Private transfers (R124, R128) -/

/-- The bytes of a private write of one word and less than another. -/
theorem writeWindow_word {rest : List Byte} (hr : rest.length < 4) {w o : Nat} (ho : windowOffset w = some o)
    (a b c d : Byte) (s : State) :
    writeWindow w (a :: b :: c :: d :: rest) s = writeDrs .i3c o (BitVec.ofNat 32 (leNat [a, b, c, d])) s := by
  have hrest (w : Nat) (t : State) : writeWindow w rest t = t := by
    match rest, hr with
    | [], _ => rfl
    | [_], _ => rfl
    | [_, _], _ => rfl
    | [_, _, _], _ => rfl
  rw [writeWindow, hrest, ho]

theorem leBytes_word (a b c d : Byte) : leBytes 4 (BitVec.ofNat 32 (leNat [a, b, c, d])).toNat = [a, b, c, d] := by
  have hlt : leNat [a, b, c, d] < 2 ^ 32 := by
    simp only [leNat]
    omega
  rw [BitVec.toNat_ofNat, Nat.mod_eq_of_lt hlt]
  exact leBytes_leNat [a, b, c, d]

/-- A word written over I3C to the request area of mailbox 0 or 1. -/
theorem writeDrs_request (ha : Awake s) (hs : s.life.phase = .service) (haddr : s.i3c.addr ≠ none) {m o : Nat} (hm : m < 2)
    (ho : o < 0x100) (value : Word32) :
    writeDrs .i3c (0x1000 + (m * 0x400 + o)) value s = writeArea .i3c m o value s := by
  have hsome : s.i3c.addr.isSome = true := Option.isSome_iff_ne_none.mpr haddr
  have hlive : mailboxLive s .i3c m = true := by simp [mailboxLive, reaches, hm, hsome, hs]
  have hin : 0x1000 ≤ 0x1000 + (m * 0x400 + o) ∧ 0x1000 + (m * 0x400 + o) < 0x5000 := by omega
  have hbox : (0x1000 + (m * 0x400 + o) - 0x1000) / 0x400 = m := by omega
  have hoff : (0x1000 + (m * 0x400 + o)) % 0x400 = o := by omega
  rw [writeDrs, hs, resumeP0_awake ha]
  simp only [writeService, if_pos hin, hbox, hoff, hlive, if_true]
  rw [writeMailbox, if_pos ho]

theorem memRead_writeArea {m : Nat} (hm : m < 2) (o : Nat) (a b c d : Byte) (s : State) :
    let t := writeArea .i3c m o (BitVec.ofNat 32 (leNat [a, b, c, d])) s
    t = { s with mbx := { s.mbx with mem := t.mbx.mem } } ∧ ∀ p, memRead t.mbx.mem p =
      if (boxOf s m).owner = some .i3c ∧ (boxOf s m).state ≠ .busy ∧ mbxBase m + o ≤ p ∧ p < mbxBase m + o + 4
      then [a, b, c, d].getD (p - (mbxBase m + o)) 0 else memRead s.mbx.mem p := by
  have hmay : mayWriteArea (boxOf s m) .i3c m = true ↔ (boxOf s m).owner = some .i3c ∧ (boxOf s m).state ≠ .busy := by
    simp [mayWriteArea, Nat.not_le.mpr hm, and_comm]
  unfold writeArea
  by_cases h : (boxOf s m).owner = some .i3c ∧ (boxOf s m).state ≠ .busy
  · rw [if_pos (hmay.mpr h), leBytes_word]
    refine ⟨rfl, fun p => ?_⟩
    by_cases hp : mbxBase m + o ≤ p ∧ p < mbxBase m + o + 4
    · have hin : mbxBase m + o + (p - (mbxBase m + o)) = p := by omega
      have hk : p - (mbxBase m + o) < [a, b, c, d].length := by rw [List.length_cons]; simp only [List.length]; omega
      rw [if_pos ⟨h.1, h.2, hp⟩, ← memRead_splice_in s.mbx.mem (mbxBase m + o) _ _ hk, hin]
    · rw [if_neg fun hall => hp hall.2.2]
      exact memRead_splice_out _ _ _ _ (by simp only [List.length]; omega)
  · rw [if_neg (mt hmay.mp h)]
    exact ⟨rfl, fun p => (if_neg fun hall => h ⟨hall.1, hall.2.1⟩).symm⟩

section Private

variable (ha : Awake s) (hi : i3cServed s = true) (hs : s.life.phase = .service) (haddr : s.i3c.addr ≠ none)
include ha hi hs haddr

theorem exec_i3cPrivateWrite {low high : Byte} {data : List Byte} (hl : 2 + data.length ≤ s.i3c.mwl.toNat) :
    exec (.i3cPrivateWrite (low :: high :: data)) s = .next (
      if (low.toNat + 256 * high.toNat) % 4 ≠ 0 then s
      else writeWindow (low.toNat + 256 * high.toNat) data
        { s with i3c := { s.i3c with offset := low.toNat + 256 * high.toNat } }) := by
  have hall : (low :: high :: data).take s.i3c.mwl.toNat = low :: high :: data :=
    List.take_of_length_le (by simp only [List.length_cons]; omega)
  refine congrArg Host.Outcome.next ((i3cAddressed_awake ha hi hs haddr _).trans ?_)
  simp only [hall, leNat_pair]

theorem exec_i3cPrivateRead (count : Nat) (h : ¬(s.i3c.offset < 0x800 ∧ s.i3c.offset % 0x400 = 0x204)) :
    exec (.i3cPrivateRead count) s = .next { s with
      out := .i3cData ((List.range (min count s.i3c.mrl.toNat)).map fun k => windowByte s (s.i3c.offset + k)) :: s.out } := by
  refine congrArg Host.Outcome.next ((i3cAddressed_awake ha hi hs haddr _).trans ?_)
  exact if_neg fun hall => h hall.2

end Private

/-! ## The obligation -/

/-- Settles O13: each code sets its field of the target or sends its bytes, a reset of the path is `i3cReset`, and a word
of a private write reaches the request area as `writeArea`. -/
theorem i3cTransfers : Obligations.I3cTransfers := by
  unfold Obligations.I3cTransfers
  constructor
  · intro s len a action ha hi hs target sends path
    have hpath {i : Instr} {x : I3cTarget} (hexec : exec i s = .next (i3cReset { s with i3c := x })) : path i x := by
      obtain ⟨hen, hbox, hcrg, hframe⟩ := i3cReset_spec { s with i3c := x }
      have hi3c : (i3cReset { s with i3c := x }).i3c = x := (i3cReset_keep _).i3c rfl
      refine ⟨_, hexec, hi3c, hen, hbox, hcrg, i3cReset_ibiArmed _, ?_⟩
      rw [hi3c]
      exact hframe
    have hsent (haddr : s.i3c.addr ≠ none) (body : State → State) := i3cAddressed_awake ha hi hs haddr body
    refine ⟨congrArg Host.Outcome.next (if_pos hi), congrArg Host.Outcome.next (if_pos hi), fun haddr => ⟨
      exec_entdaa_served hi haddr a, exec_setdasa_awake ha hi hs haddr a,
      congrArg Host.Outcome.next (i3cAddressed_unaddressed haddr _)⟩, hpath (congrArg Host.Outcome.next (if_pos hi)),
      hpath (congrArg Host.Outcome.next (if_pos hi)), fun haddr => ?_⟩
    have hsends {i : Instr} {f : State → List Byte} {b : List Byte}
        (hexec : exec i s = .next (i3cAddressed (fun s => emit (.i3cData (f s)) s) s)) (hb : f s = b) : sends i b := by
      rw [← hb]
      exact hexec.trans (congrArg Host.Outcome.next (hsent haddr _))
    refine ⟨fun hlen => ?_, fun hlen => ?_, hsends rfl (lengthBytes_eq _), ?_, ?_, hsends rfl rfl, hsends rfl rfl,
      exec_getstatus_awake ha hi hs haddr⟩
    · refine congrArg Host.Outcome.next ((hsent haddr _).trans ?_)
      rw [if_pos hlen]
    · refine congrArg Host.Outcome.next ((hsent haddr _).trans ?_)
      rw [if_pos hlen]
    · refine hsends rfl ?_
      rw [lengthBytes_eq]
      rfl
    · refine hsends rfl ?_
      rw [leBytes_toNat]
      rfl
  · intro s lo hi a b c d rest m o count ha hsv hs haddr hl w i
    have hwrite : exec i s = _ :=
      exec_i3cPrivateWrite (low := lo) (high := hi) (data := a :: b :: c :: d :: rest) ha hsv hs haddr
        (by simp only [List.length_cons]; omega)
    refine ⟨fun hw => hwrite.trans (congrArg _ (if_pos hw)), fun hm ho h4 hw hr => ?_,
      exec_i3cPrivateRead ha hsv hs haddr count⟩
    let u : State := { s with i3c := { s.i3c with offset := w } }
    have hoff : windowOffset w = some (0x1000 + (m * 0x400 + o)) := by
      rw [windowOffset, if_pos (by omega), hw]
    have hword : writeWindow w (a :: b :: c :: d :: rest) u = _ := writeWindow_word hr hoff a b c d u
    obtain ⟨hframe, hread⟩ := memRead_writeArea hm o a b c d u
    refine ⟨_, hwrite.trans (congrArg _ ((if_neg (by omega)).trans (hword.trans ?_))), hframe, hread⟩
    exact writeDrs_request (s := u) ⟨ha.state, ha.l1, ha.entering⟩ hs haddr hm ho _

end Sys2Proof.Proofs
end

section
/-! Proofs about device information, the inventory, time and the pins (O16). -/

namespace Sys2Proof.Proofs

open Sys2Proof Sys2Proof.Machine Sys2Proof.Safety Sys2Proof.Laws

variable {s : State} {m : Fin 16}

/-! ## Information and inventory (R137, R140) -/

/-- What GET_DEVICE_INFO answers (R137). -/
def deviceInfo (s : State) : List Byte :=
  leBytes 4 s.sec.version ++ leBytes 2 0x0011 ++ leBytes 1 s.reg.populated ++
    leBytes 1 (match s.sec.port with
      | .manufacture => 0
      | .field => 1
      | .opened => 2) ++ leBytes 2 s.reg.dramGib ++
    leBytes 1 (if s.hup.protectedMode then 0 else 1) ++
    leBytes 1 ((if s.life.captureReady then 1 else 0) + 2 * (if s.life.mapReady then 1 else 0)) ++
    leBytes 16 s.reg.uid.toNat ++ leBytes 8 s.clk.us

theorem exec_getDeviceInfo (h : Asked m 0x0001 s) :
    exec (.getDeviceInfo m) s = .next (respond m stOk (deviceInfo s) s) := by
  have hserved : ((serving s || recoveryServing s m) && waitsFor s m 0x0001) = true := by rw [h.serves, h.waits]; rfl
  refine congrArg Host.Outcome.next ((if_pos hserved).trans (congrArg (fun r => respond m stOk r s) ?_))
  have hmode : flag (!s.hup.protectedMode) = if s.hup.protectedMode then 0 else 1 := by
    cases s.hup.protectedMode <;> rfl
  rw [hmode]
  simp only [packBytes, deviceInfo, List.append_assoc, List.append_nil]
  cases s.sec.port <;> rfl

theorem exec_getInventory (h : Asked m 0x0002 s) : exec (.getInventory m) s = .next (
    if reqField s m 16 4 < 8192 then respond m stCapacity [] s
    else accept m 0x0002 false (reqField s m 8 8) 0 false (fun _ s => s) s) :=
  congrArg Host.Outcome.next (serve_asked h _)

theorem inventoryRecord_present {i : Nat} {d : Die} (hf : findDie s i = some d) (hs : d.state ≠ .absent)
    (ho : dieOut s i = false) :
    inventoryRecord s i = (dieUnit i, dieStateCode d.state, d.maker, d.qual, d.temp) := by
  have hhere : (d.state != .absent && !dieOut s i) = true := by simp [hs, ho]
  have hfound : (findDie s i).filter (fun d => d.state != .absent && !dieOut s i) = some d := by
    rw [hf, Option.filter_some, if_pos hhere]
  rw [inventoryRecord, hfound]

/-- A die that is not there, or is withdrawn, is reported absent. -/
theorem inventoryRecord_absent {i : Nat} (h : findDie s i = none ∨ dieOut s i = true) :
    ∃ maker temp, inventoryRecord s i = (dieUnit i, 4, maker, 0xFFFF, temp) := by
  have hnone : (findDie s i).filter (fun d => d.state != .absent && !dieOut s i) = none := by
    obtain hf | ho := h
    · rw [hf, Option.filter_none]
    · simp [ho]
  rw [inventoryRecord, hnone]
  exact ⟨_, _, rfl⟩

theorem exec_getInventoryDone {h : Handle} (hl : liveOp s 0x0002 = some h) (hs : serving s = true) :
    exec .getInventoryDone s = .next (completeHandle h.value stOk (ringData [(4, 1024), (1, s.reg.populated)]) { s with
      out := .inventory h.subject ((List.range 1024).map (inventoryRecord s)) :: s.out, free := s.free + 2048 }) := by
  refine congrArg Host.Outcome.next ?_
  rw [hl]
  exact if_neg (by rw [hs]; decide)

/-! ## Time (R137, R239) -/

theorem exec_setTime (h : Asked m 0x0003 s) : exec (.setTime m) s = .next (respond m stOk []
    (datePrograms (reqField s m 8 8) { s with clk := { s.clk with utc := some (reqField s m 8 8) } })) :=
  congrArg Host.Outcome.next (serve_asked h _)

/-- The first-program time of a superblock once the time is known. -/
theorem datePrograms_sbs (utc : Nat) (s : State) {i : Nat} {b : Superblock} (hb : s.map.sbs[i]? = some b) :
    (datePrograms utc s).map.sbs[i]? = some (match b.firstUs with
      | none => b
      | some x => if b.summaryLength = 0 then { b with firstUtc := b.firstUtc <|> some (utc - (s.clk.us - x)) } else b) := by
  simp only [datePrograms, List.getElem?_map, hb, Option.map_some]
  cases hus : b.firstUs with
  | none => rfl
  | some x =>
    obtain hutc | ⟨y, hutc⟩ := Option.eq_none_or_eq_some b.firstUtc
    · simp only [hutc]
      rfl
    · have hsame : b = { b with firstUs := some x, firstUtc := some y } := by rw [← hus, ← hutc]
      simp only [hutc]
      split
      · exact congrArg some hsame
      · rfl

/-! ## Pins (R141, R142) -/

theorem exec_getPinFunction (h : Asked m 0x0011 s) : let p := s.pins.getD (reqField s m 8 1) Pin.reset
    exec (.getPinFunction m) s = .next (respond m stOk
      (leBytes 1 p.function ++ leBytes 1 ((if p.activeLow then 1 else 0) + 2 * (if p.persist then 1 else 0)) ++
        leBytes 1 (if pinLevel s (reqField s m 8 1) then 1 else 0) ++ leBytes 1 0 ++ leBytes 4 p.arg.toNat)
      { s with free := s.free + 1 }) := by
  refine congrArg Host.Outcome.next ((serve_asked h _).trans ?_)
  simp only [packBytes, List.append_assoc, List.append_nil]
  rfl

/-- Pins whose function may not be given: another holds it, or this pin holds another (R142). -/
def pinConflict (s : State) (pin f arg : Nat) : Prop :=
  f ≠ 0 ∧ ((s.pins.getD pin Pin.reset).function ≠ 0 ∧ (s.pins.getD pin Pin.reset).function ≠ f ∨
    functionTaken s pin f arg = true)

/-- What the store keeps of a pin whose function persists (R142, R313). -/
def storedPin (pin f : Nat) (low persist : Bool) (arg : Nat) (c : ConfigStore) : ConfigStore :=
  { c with pins := (c.pins.filter fun p => p.1 != pin) ++ if persist then [(pin, f, low, BitVec.ofNat 32 arg)] else [] }

theorem field_bit (n k : Nat) : field n k 1 = n / 2 ^ k % 2 := by
  rw [field_eq, pow_one]

theorem exec_setPinFunction_conflict (h : Asked m 0x0010 s)
    (hc : pinConflict s (reqField s m 8 1) (reqField s m 9 1) (reqField s m 12 4)) :
    exec (.setPinFunction m) s = .next (respond m stPinConflict [] s) :=
  congrArg Host.Outcome.next ((serve_asked h _).trans (if_pos hc))

/-- An update of the store changes its two copies and the rows of their sectors (R309, R313). -/
theorem storeConfig_frame (f : ConfigStore → ConfigStore) (s : State) : storeConfig f s = { s with nor := { s.nor with
    config0 := (storeConfig f s).nor.config0, config1 := (storeConfig f s).nor.config1
    flags := (storeConfig f s).nor.flags } } := by
  unfold storeConfig
  dsimp only
  by_cases h : (newerIs1 s.nor || !s.nor.config0.valid && !s.nor.config1.valid) = true
  · rw [if_pos h]
  · rw [if_neg h]

theorem modify_eq_set {α : Type} {l : List α} {k : Nat} (hk : k < l.length) (f : α → α) (d : α) :
    l.modify k f = l.set k (f (l.getD k d)) := by
  rw [List.modify_eq_set_getElem?, List.getD_eq_getElem?_getD, List.getElem?_eq_getElem hk]
  rfl

theorem mem_storedPin (pin f : Nat) (low : Bool) (arg : Nat) (c : ConfigStore) :
    (pin, f, low, BitVec.ofNat 32 arg) ∈ (storedPin pin f low true arg c).pins :=
  List.mem_append_right _ (List.mem_singleton.mpr rfl)

/-- The state in which a pin has been given a function, before the answer. -/
def pinGranted (pin f : Nat) (low persist : Bool) (arg : Nat) (s : State) : State :=
  let stored := if persist || (s.pins.getD pin Pin.reset).persist
    then storeConfig (storedPin pin f low persist arg) s else s
  { stored with pins := s.pins.set pin (setPin f low persist arg (s.pins.getD pin Pin.reset)) }

theorem pinGranted_eq {pin : Nat} (hp : pin < s.pins.length) (f : Nat) (low persist : Bool) (arg : Nat) :
    (let stored := if persist || (s.pins.getD pin Pin.reset).persist
      then storeConfig (storedPin pin f low persist arg) s else s
    { stored with pins := stored.pins.modify pin (setPin f low persist arg) }) = pinGranted pin f low persist arg s := by
  have hpins : (storeConfig (storedPin pin f low persist arg) s).pins = s.pins := (storeConfig_keep _ s).pins rfl
  unfold pinGranted
  split
  · simp only [hpins, modify_eq_set hp _ Pin.reset]
  · simp only [modify_eq_set hp _ Pin.reset]

theorem exec_setPinFunction_granted (h : Asked m 0x0010 s) {pin f arg : Nat} {low persist : Bool}
    (hp : reqField s m 8 1 = pin) (hf : reqField s m 9 1 = f) (ha : reqField s m 12 4 = arg)
    (hl : (reqField s m 10 1 % 2 == 1) = low) (hk : (reqField s m 10 1 / 2 % 2 == 1) = persist)
    (hpin : pin < s.pins.length) (hc : ¬pinConflict s pin f arg) :
    exec (.setPinFunction m) s = .next (respond m stOk [] (pinGranted pin f low persist arg s)) := by
  have hgranted := congrArg (respond m stOk []) (pinGranted_eq hpin f low persist arg)
  subst hp hf ha
  have hlow : (field (reqField s m 10 1) 0 1 == 1) = low := by rw [field_bit, pow_zero, Nat.div_one, hl]
  have hpersist : (field (reqField s m 10 1) 1 1 == 1) = persist := by rw [field_bit, pow_one, hk]
  refine congrArg Host.Outcome.next ((serve_asked h _).trans ((if_neg hc).trans ?_))
  simp only [hlow, hpersist]
  exact hgranted

theorem pinGranted_spec (pin f : Nat) (low persist : Bool) (arg : Nat) (s : State) :
    let u := pinGranted pin f low persist arg s
    u = { s with pins := u.pins, nor := { s.nor with
      config0 := u.nor.config0, config1 := u.nor.config1, flags := u.nor.flags } } ∧
    (persist = false → (s.pins.getD pin Pin.reset).persist = false → u.nor = s.nor) ∧
    (persist = true → (pin, f, low, BitVec.ofNat 32 arg) ∈ (config u).pins) := by
  unfold pinGranted
  refine ⟨?_, fun hk hold => ?_, fun hk => ?_⟩
  · split
    · exact congrArg (fun t : State => { t with
        pins := s.pins.set pin (setPin f low persist arg (s.pins.getD pin Pin.reset)) }) (storeConfig_frame _ s)
    · rfl
  · rw [hk, hold]
    rfl
  · subst hk
    simp only [Bool.true_or, if_true]
    have hstored := congrArg ConfigStore.pins (config_storeConfig (storedPin pin f low true arg) s)
    exact hstored.symm ▸ mem_storedPin pin f low arg (config s)

/-- A function keeps the level of a pin that holds it already; function 2 sets it (R141, R142). -/
theorem setPin_spec (f : Nat) (low persist : Bool) (arg : Nat) (p : Pin) : let q := setPin f low persist arg p
    q.function = f ∧ q.arg = BitVec.ofNat 32 arg ∧ q.activeLow = low ∧ q.persist = persist ∧
      (f = 2 → q.on = (arg % 2 == 1)) ∧ (f ≠ 2 → f = p.function → q.on = p.on) := by
  refine ⟨rfl, rfl, rfl, rfl, fun h => if_pos h, fun h hp => (if_neg h).trans ?_⟩
  rw [hp, beq_self_eq_true, Bool.true_and]

theorem getElem?_changeWhere {α : Type} (p : α → Bool) (f : α → α) {l : List α} {k : Nat} {x : α} (h : l[k]? = some x) :
    (changeWhere p f l)[k]? = some (if p x then f x else x) := by
  rw [changeWhere, List.getElem?_map, h]
  rfl

/-! ## The obligation -/

/-- Settles O16: the answers, the records of the inventory, the dates, and what a pin is given. -/
theorem deviceCommands : Obligations.DeviceCommands := by
  unfold Obligations.DeviceCommands
  constructor
  · intro s m
    refine ⟨fun h => ⟨_, exec_getDeviceInfo h, respond_replied m m.isLt _ _ s h.boxes (.inl rfl)⟩, fun h =>
      ⟨_, exec_getPinFunction h, respond_replied m m.isLt _ _ { s with free := s.free + 1 } h.boxes (.inl rfl)⟩,
      fun h => ?_, fun h hsmall => ?_, fun h hroom hslots => ?_, fun h hl hs => ?_⟩
    · let u := datePrograms (reqField s m 8 8) { s with clk := { s.clk with utc := some (reqField s m 8 8) } }
      exact ⟨_, u, exec_setTime h, respond_replied m m.isLt _ _ u h.boxes (.inl rfl), rfl,
        fun i b hb => datePrograms_sbs _ { s with clk := { s.clk with utc := some (reqField s m 8 8) } } hb⟩
    · exact ⟨_, (exec_getInventory h).trans (congrArg _ (if_pos hsmall)), respond_refused m m.isLt _ s h.boxes⟩
    · obtain ⟨v, u, haccepted, w, hw, hframe⟩ := accept_accepted m m.isLt 0x0002 (reqField s m 8 8) 0 false
        (fun _ s => s) s hslots h.boxes fun _ _ => ⟨rfl, rfl⟩
      refine ⟨_, v, u, (exec_getInventory h).trans (congrArg _ (if_neg (Nat.not_lt.mpr hroom))), haccepted, ?_⟩
      rw [hw, hframe]
    · refine ⟨_, ?_, fun i d hi hf hst ho => ?_, fun i hi hno => ?_, exec_getInventoryDone hl hs⟩
      · rw [List.length_map, List.length_range]
      · rw [List.getElem?_map, List.getElem?_range hi, Option.map_some, inventoryRecord_present hf hst ho]
        cases d.state <;> rfl
      · rw [List.getElem?_map, List.getElem?_range hi, Option.map_some]
        obtain ⟨maker, temp, hrec⟩ := inventoryRecord_absent hno
        exact ⟨maker, temp, congrArg some hrec⟩
  · intro s m pin f arg hlen p flags
    have hpin : pin.val < s.pins.length := pin.isLt.trans_eq hlen.symm
    refine ⟨fun h hp hf ha => ⟨fun hne hc => ?_, fun hgrant => ?_⟩, ⟨_, rfl, rfl, fun k q hq => ?_⟩,
      ⟨_, rfl, rfl, fun k q hq => ?_⟩, ?_⟩
    · refine ⟨_, exec_setPinFunction_conflict h ?_, respond_refused m m.isLt _ s h.boxes⟩
      rw [hp, hf, ha]
      exact ⟨hne, hc⟩
    · have hfree : ¬pinConflict s pin f arg := by
        rintro ⟨hne, hc⟩
        obtain hz | ⟨hown, htaken⟩ := hgrant
        · exact hne hz
        · obtain ⟨hfn, hother⟩ | hbusy := hc
          · exact hown.elim hfn fun hsame => hother hsame
          · exact Bool.eq_false_iff.mp htaken hbusy
      have hexec := exec_setPinFunction_granted h hp hf ha rfl rfl hpin hfree
      obtain ⟨hframe, hkept, hstored⟩ := pinGranted_spec pin f (flags % 2 == 1) (flags / 2 % 2 == 1) arg s
      have hmail : (pinGranted pin f (flags % 2 == 1) (flags / 2 % 2 == 1) arg s).mbx.box.length = 16 := by
        rw [hframe]
        exact h.boxes
      refine ⟨_, _, hexec, respond_refused m m.isLt _ _ hmail, ⟨_, rfl, setPin_spec f _ _ arg p⟩, hframe,
        fun hk hold => hkept (by rw [hk]; rfl) hold, fun hk => hstored (by rw [hk]; rfl)⟩
    · refine (getElem?_changeWhere _ _ hq).trans ?_
      simp
    · refine (getElem?_changeWhere _ _ hq).trans ?_
      simp
    · refine congrArg Host.Outcome.next ?_
      rw [modify_eq_set hpin _ Pin.reset]

end Sys2Proof.Proofs
end

section
/-! Proofs about temperature samples, throttle steps and the thermal halt (O23). -/

namespace Sys2Proof.Proofs

open Sys2Proof Sys2Proof.Machine Sys2Proof.Safety Sys2Proof.Laws

variable {s : State}

/-! ## Sensors (R356, R357) -/

/-- A thermal record without the events that wait for a resume. -/
def sansDeferred (x : Thermal) : Thermal := { x with deferred := [] }

theorem eq_of_sansDeferred {x y : Thermal} (h : sansDeferred x = sansDeferred y) : x = { y with deferred := x.deferred } :=
  congrArg (fun z : Thermal => { z with deferred := x.deferred }) h

theorem logSample_thm (code : BitVec 16) (u : UnitId) (data : BitVec 64) (s : State) :
    sansDeferred (logSample code u data s).thm = sansDeferred s.thm := by
  unfold logSample
  split <;> rfl

theorem reportExclusion_thm (readings medians : List (Option Int)) (s : State) (x : Nat × Nat) :
    sansDeferred (reportExclusion readings medians s x).thm = sansDeferred s.thm := by
  rw [reportExclusion, startTest_frame]
  exact logSample_thm ..

/-- The medians a sample checks the sensors against. -/
def sampleMedians (readings : List (Option Int)) (s : State) : List (Option Int) :=
  (List.range 24).map (checkMedian s readings)

/-- The sensors after a sample's checks. -/
def checkedSensors (readings : List (Option Int)) (s : State) : List Sensor :=
  s.thm.sensors.mapIdx fun n x => (checkSensor x (readings[n]?).join ((sampleMedians readings s)[n]?).join).1

theorem sampleSensors_thm (readings : List (Option Int)) (s : State) :
    sansDeferred (sampleSensors readings s).thm = sansDeferred { s.thm with sensors := checkedSensors readings s } := by
  unfold sampleSensors
  refine List.foldlRecOn (motive := fun t : State => sansDeferred t.thm = _) _ _ ?_ fun t ht x _ =>
    (reportExclusion_thm _ _ t x).trans ht
  refine congrArg (fun l => sansDeferred { s.thm with sensors := l }) ?_
  exact List.ext_getElem? fun n => by simp [checkedSensors, sampleMedians, Option.map_map, Function.comp_def]

/-- A sensor whose reading failed or is out of range is excluded. -/
theorem checkSensor_excluded {x : Sensor} {r : Option Int} (m2 : Option Int) (h : ∀ v, r = some v → v < -550 ∨ 1500 < v) :
    (checkSensor x r m2).1 = { x with excluded := true, valid := false, reading := none, deviate := 0, agree := 0 } := by
  unfold checkSensor
  dsimp only
  split
  · rfl
  · cases r with
    | none => rfl
    | some v => exact congrArg Prod.fst (if_pos (h v rfl))

theorem checkedSensors_excluded {readings : List (Option Int)} {n : Nat} {x : Sensor} (hx : s.thm.sensors[n]? = some x)
    (h : (∀ v, readings[n]? ≠ some (some v)) ∨ ∃ v, readings[n]? = some (some v) ∧ (v < -550 ∨ 1500 < v)) :
    ∃ y : Sensor, (checkedSensors readings s)[n]? = some y ∧ y.excluded = true ∧ y.valid = false ∧ y.reading = none := by
  have hout : ∀ v, (readings[n]?).join = some v → v < -550 ∨ 1500 < v := fun v hv => by
    rw [Option.join_eq_some_iff] at hv
    obtain hnone | ⟨w, hw, hrange⟩ := h
    · exact absurd hv (hnone v)
    · rw [hw] at hv
      cases hv
      exact hrange
  refine ⟨{ x with excluded := true, valid := false, reading := none, deviate := 0, agree := 0 }, ?_, rfl, rfl, rfl⟩
  rw [checkedSensors, List.getElem?_mapIdx, hx, Option.map_some, checkSensor_excluded _ hout]

/-! ## What a sample finds (R356, R358, R360) -/

/-- The state in which a sample finds its temperature level. -/
def sensed (readings : List (Option Int)) (s : State) : State :=
  let d := rateWarning (measureSample (decide (3 ≤ s.pwr.state)) (sampleSensors readings s))
  let hot := (validReadings d).any fun t => decide (1200 ≤ t)
  { d with thm := { d.thm with over120 := d.thm.over120 || hot && d.thm.level == .halted } }

/-- The state after the sample's level is found, before the host's thresholds. -/
def levelled (d : State) : State :=
  if 1150 ≤ d.thm.temp ∧ d.thm.level ≠ .halted then startHalt d else sampleLevel d

theorem takeSample_eq (readings : List (Option Int)) (s : State) : takeSample readings s =
    hostThermal (if decide (3 ≤ s.pwr.state) then 1000 else 10) (levelled (sensed readings s)) := rfl

theorem rateWarning_thm (s : State) : sansDeferred (rateWarning s).thm =
    sansDeferred { s.thm with rateWarn := decide ((s.thm.rateWarnAt : Int) ≤ s.thm.rate) } := by
  unfold rateWarning
  dsimp only
  split
  · exact logSample_thm ..
  · rfl

theorem sensed_keep (readings : List (Option Int)) (s : State) : Keep 293675008 s (sensed readings s) := by
  have hd : Keep 293675008 s (rateWarning (measureSample (decide (3 ≤ s.pwr.state)) (sampleSensors readings s))) :=
    Keep.on (rateWarning_keep _) (Keep.on (measureSample_keep _ _) (sampleSensors_keep readings s) rfl) rfl
  exact ⟨congrArg (fun u : State => { u with thm := (sensed readings s).thm }) hd.same, hd.sound⟩

/-- What a sample changes of the thermal record before it finds the level. -/
structure Sensed (readings : List (Option Int)) (s d : State) : Prop where
  sensors : d.thm.sensors = checkedSensors readings s
  temp : d.thm.temp = reportedTemp d
  level : d.thm.level = s.thm.level
  step : d.thm.step = s.thm.step
  warnC : d.thm.warnC = s.thm.warnC

theorem reportedTemp_congr {a b : State} (h : a.thm.sensors = b.thm.sensors) : reportedTemp a = reportedTemp b := by
  unfold reportedTemp validReadings
  rw [h]

theorem sensed_spec (readings : List (Option Int)) (s : State) : Sensed readings s (sensed readings s) := by
  obtain ⟨c, hc⟩ : ∃ c, sampleSensors readings s = c := ⟨_, rfl⟩
  have hfound : c.thm = _ := hc ▸ eq_of_sansDeferred (sampleSensors_thm readings s)
  obtain ⟨e, he⟩ : ∃ e, measureSample (decide (3 ≤ s.pwr.state)) c = e := ⟨_, rfl⟩
  have hwarned : (rateWarning e).thm = _ := eq_of_sansDeferred (rateWarning_thm e)
  have hthm : (sensed readings s).thm = { e.thm with
      rateWarn := (sensed readings s).thm.rateWarn, over120 := (sensed readings s).thm.over120
      deferred := (sensed readings s).thm.deferred } := by
    unfold sensed
    rw [hc, he]
    dsimp only
    rw [hwarned]
  have htemp : e.thm.temp = reportedTemp c := by rw [← he]; rfl
  have hsensors : e.thm.sensors = c.thm.sensors := by rw [← he]; rfl
  have hlevel : e.thm.level = c.thm.level := by rw [← he]; rfl
  have hstep : e.thm.step = c.thm.step := by rw [← he]; rfl
  have hwarnC : e.thm.warnC = c.thm.warnC := by rw [← he]; rfl
  have hsame : (sensed readings s).thm.sensors = c.thm.sensors := by rw [hthm]; exact hsensors
  refine ⟨?_, ?_, ?_, ?_, ?_⟩
  · rw [hsame, hfound]
  · rw [reportedTemp_congr hsame, ← htemp, hthm]
  · rw [hthm]; exact hlevel.trans (by rw [hfound])
  · rw [hthm]; exact hstep.trans (by rw [hfound])
  · rw [hthm]; exact hwarnC.trans (by rw [hfound])

/-! ## Levels below the halt (R359, R361) -/

theorem logThrottle_thm (cause : Nat) (s : State) : sansDeferred (logThrottle cause s).thm = sansDeferred s.thm :=
  logSample_thm ..

/-- What the level found by a sample leaves of the thermal record. -/
structure LevelFound (d t : State) : Prop where
  sensors : t.thm.sensors = d.thm.sensors
  temp : t.thm.temp = d.thm.temp
  hot : 1050 ≤ d.thm.temp → t.thm.level = .throttle ∧ (d.thm.level ≠ .throttle → t.thm.step = 1 ∧ t.thm.thermN = true)
  warm : d.thm.level = .normal → d.thm.warnC * 10 ≤ d.thm.temp → t.thm.level ≠ .normal
  throttled : d.thm.level = .throttle → t.thm.level = .throttle ∧ t.thm.step = d.thm.step

theorem enterThrottle_thm (cause : Nat) (d : State) : (enterThrottle cause d).thm = { d.thm with
    level := .throttle, step := 1, thermN := true, predict := 0xFFFF, deferred := (enterThrottle cause d).thm.deferred } :=
  eq_of_sansDeferred (logThrottle_thm cause _)

theorem enterWarn_thm (d : State) :
    (enterWarn d).thm = { d.thm with level := .warn, deferred := (enterWarn d).thm.deferred } :=
  eq_of_sansDeferred (logSample_thm ..)

theorem enterThrottle_found (cause : Nat) {d : State} (h : d.thm.level ≠ .throttle) :
    LevelFound d (enterThrottle cause d) := by
  have hthm := enterThrottle_thm cause d
  refine ⟨?_, ?_, fun _ => ⟨?_, fun _ => ⟨?_, ?_⟩⟩, fun _ _ => ?_, fun hl => absurd hl h⟩
  all_goals rw [hthm]
  exact ThermalLevel.noConfusion

theorem sampleLevel_found {d : State} (h : d.thm.level ≠ .halted) : LevelFound d (sampleLevel d) := by
  unfold sampleLevel
  split
  next hl => exact absurd hl h
  next hl => exact ⟨rfl, rfl, fun _ => ⟨hl, fun hn => absurd hl hn⟩, fun hn _ => by simp [hl], fun _ => ⟨hl, rfl⟩⟩
  next hl =>
    have hne : d.thm.level ≠ .throttle := by simp [hl]
    split
    next => exact enterThrottle_found 0 hne
    next hcold =>
      split
      next => exact enterThrottle_found 1 hne
      next =>
        split
        · exact ⟨rfl, rfl, fun hh => absurd hh hcold, fun hn => by simp [hl] at hn, fun ht => absurd ht hne⟩
        · exact ⟨rfl, rfl, fun hh => absurd hh hcold, fun hn => by simp [hl] at hn, fun ht => absurd ht hne⟩
  next hl =>
    have hne : d.thm.level ≠ .throttle := by simp [hl]
    split
    next => exact enterThrottle_found 0 hne
    next hcold =>
      split
      next => exact enterThrottle_found 1 hne
      next =>
        split
        next =>
          have hthm := enterWarn_thm d
          refine ⟨?_, ?_, fun hh => absurd hh hcold, fun _ _ => ?_, fun ht => absurd ht hne⟩
          all_goals rw [hthm]
          exact ThermalLevel.noConfusion
        next hcool => exact ⟨rfl, rfl, fun hh => absurd hh hcold, fun _ hw => absurd hw hcool, fun ht => absurd ht hne⟩

/-! ## The thermal halt (R365) -/

/-- What a halt leaves once everything is answered. -/
def haltedParts (thermal : Bool) (t : State) : State :=
  let dies := t.med.dies.map (haltDie t.clk.us)
  { t with
    med := { t.med with dies := dies, load := none, toLoad := [], channels := t.med.channels.mapIdx (haltChannel dies) }
    intg := { t.intg with reads := [] }
    nor := { t.nor with opA := t.nor.opA.map (haltNorOp thermal), opB := t.nor.opB.map (haltNorOp thermal) }
    st := { t.st with running := [], waiting := [] }
    hup := { t.hup with run := none, testLow := false }
    life := { t.life with stop := none }
    pwr := { t.pwr with entering := false, state := 0 } }

/-- In P3 and P4 a thermal halt leaves the link alone (R358). -/
def haltLinked (thermal : Bool) (s : State) : State :=
  if thermal && decide (3 ≤ s.pwr.state) then s else sendStatus (haltBundle s)

theorem haltLinked_keep (thermal : Bool) (s : State) : Keep 134217744 s (haltLinked thermal s) := by
  unfold haltLinked
  split
  · exact Keep.refl _ _
  · exact Keep.on (sendStatus_keep _) (Keep.on (haltBundle_keep s) (Keep.refl _ _) rfl) rfl

theorem haltAll_parts (thermal : Bool) (status : BitVec 16) (s : State) : haltAll thermal status s = haltedParts thermal
    (contextsRested (logHaltRestarts (completeAll status (answerBusy status (haltLinked thermal s))))) := by
  unfold haltAll haltedParts contextsRested haltLinked
  rfl

/-- Both sequences answer every mailbox and keep what the last words say. -/
theorem haltAll_answered (thermal : Bool) (status : BitVec 16) (hb : s.mbx.box.length = 16) :
    SameCause s.evr (haltAll thermal status s).evr ∧ ∀ m, (boxOf (haltAll thermal status s) m).state ≠ .busy := by
  have hkeep := haltLinked_keep thermal s
  have hfree := answerBusy_answered status (s := haltLinked thermal s) (by rw [hkeep.mbx rfl]; exact hb)
  have hevr : (completeAll status (answerBusy status (haltLinked thermal s))).evr = s.evr := by
    rw [(completeAll_keep _ _).evr rfl, (answerBusy_keep _ _).evr rfl, hkeep.evr rfl]
  have hcause := logHaltRestarts_sameCause (completeAll status (answerBusy status (haltLinked thermal s)))
  have hbox := (congrArg Mailboxes.box ((logHaltRestarts_keep (completeAll status (answerBusy status
    (haltLinked thermal s)))).mbx rfl)).trans (completeAll_box status _)
  rw [haltAll_parts]
  rw [hevr] at hcause
  generalize logHaltRestarts (completeAll status (answerBusy status (haltLinked thermal s))) = v at hcause hbox
  have hrest := (contextsRested_only v).same
  refine ⟨?_, fun m => ?_⟩
  · exact (congrArg State.evr hrest) ▸ hcause
  · have hmbx := congrArg (fun u : State => (u.mbx.box.getD m Mbx.reset).state) hrest
    refine fun hbusy => hfree m ?_
    rw [boxOf, ← hbox]
    exact hmbx.symm.trans hbusy

/-- The state with the thermal halt logged and its last words written. -/
def haltNoted (d : State) : State :=
  lastCause 0x0B03 (sensorUnit (hottestSensor d)) false (drawn (logEvent 0x0B03 (sensorUnit (hottestSensor d))
    (evData [(2, signed 16 d.thm.temp), (1, hottestSensor d), (1, 0), (4, unwrittenMib d)]) d))

theorem haltNoted_thm (d : State) : (haltNoted d).thm = d.thm := by
  unfold haltNoted lastCause
  rfl

theorem haltNoted_lwdCause (d : State) : (haltNoted d).evr.lwdCause = 0x0B03 := by
  unfold haltNoted lastCause
  rfl

/-- The thermal record once the halt has begun. -/
def haltedThermal (x : Thermal) : Thermal := { x with level := .halted, thermN := true, predict := 0xFFFF }

/-- The flush of the halt has begun (R365 step 4). -/
def haltBegun (t : State) : State :=
  { t with life := { t.life with phase := .haltFlush }, thm := haltedThermal t.thm }

theorem startHalt_eq {d : State} (hjoin : (d.life.phase == .lossFlush) = false) :
    startHalt d = haltBegun (haltAll true stThermalHalt (haltNoted d)) := by
  unfold startHalt haltBegun haltNoted haltedThermal
  rw [hjoin]
  rfl

theorem startHalt_spec {d : State} (hp : d.life.phase = .service) (hb : d.mbx.box.length = 16) :
    let t := startHalt d
    t.life.phase = .haltFlush ∧ t.thm = haltedThermal d.thm ∧ t.evr.lwdCause = 0x0B03 ∧ ∀ m, (boxOf t m).state ≠ .busy := by
  have hjoin : (d.life.phase == .lossFlush) = false := by rw [hp]; rfl
  obtain ⟨hcause, hfree⟩ := haltAll_answered (s := haltNoted d) true stThermalHalt hb
  have hthm := ((haltAll_keep true stThermalHalt (haltNoted d)).thm rfl).trans (haltNoted_thm d)
  rw [startHalt_eq hjoin]
  have hword := hcause.1.trans (haltNoted_lwdCause d)
  generalize haltAll true stThermalHalt (haltNoted d) = v at hthm hword hfree
  exact ⟨rfl, congrArg haltedThermal hthm, hword, hfree⟩

/-! ## One sample (R358) -/

/-- A sample in service leads to the halt sequence or to a level below it. -/
theorem levelled_cases {d : State} (h : d.thm.level ≠ .halted) :
    1150 ≤ d.thm.temp ∧ levelled d = startHalt d ∨ d.thm.temp < 1150 ∧ levelled d = sampleLevel d := by
  unfold levelled
  by_cases ht : 1150 ≤ d.thm.temp
  · exact .inl ⟨ht, if_pos ⟨ht, h⟩⟩
  · exact .inr ⟨not_le.mp ht, if_neg fun hc => ht hc.1⟩

theorem levelled_phase {d : State} (h : d.thm.level ≠ .halted) (hp : d.life.phase = .service)
    (hb : d.mbx.box.length = 16) : (levelled d).life.phase ≠ .halted := by
  obtain ⟨-, heq⟩ | ⟨-, heq⟩ := levelled_cases h
  · obtain ⟨hphase, -⟩ := startHalt_spec hp hb
    rw [heq, hphase]
    exact Phase.noConfusion
  · rw [heq, (sampleLevel_keep d).life rfl, hp]
    exact Phase.noConfusion

theorem levelled_sensors {d : State} (h : d.thm.level ≠ .halted) (hp : d.life.phase = .service)
    (hb : d.mbx.box.length = 16) :
    (levelled d).thm.sensors = d.thm.sensors ∧ (levelled d).thm.temp = d.thm.temp := by
  obtain ⟨-, heq⟩ | ⟨-, heq⟩ := levelled_cases h
  · obtain ⟨-, hthm, -⟩ := startHalt_spec hp hb
    rw [heq, hthm]
    exact ⟨rfl, rfl⟩
  · rw [heq]
    exact ⟨(sampleLevel_found h).sensors, (sampleLevel_found h).temp⟩

theorem exec_thermalSample (readings : List (Option Int)) (hp : s.life.phase = .service)
    (hk : (takeSample readings s).life.phase ≠ .halted) :
    exec (.thermalSample readings) s = .next (takeSample readings s) := by
  have hsampled : Machine.sampled s = true := by rw [Machine.sampled, hp]
  have hheld : releaseHotReset (takeSample readings s) = takeSample readings s := if_neg fun hc => hk hc.1
  exact congrArg Host.Outcome.next ((if_pos hsampled).trans hheld)

/-- A sample in service, as the obligation states it of one state and the next. -/
theorem takeSample_spec (readings : List (Option Int)) (hp : s.life.phase = .service) (hl : s.thm.level ≠ .halted)
    (hb : s.mbx.box.length = 16) :
    let t := takeSample readings s
    t.life.phase ≠ .halted ∧ t.thm.sensors = checkedSensors readings s ∧ t.thm.temp = reportedTemp t ∧
    (1150 ≤ t.thm.temp → t.life.phase = .haltFlush ∧ t.thm.level = .halted ∧ t.thm.thermN = true ∧
      t.evr.lwdCause = 0x0B03 ∧ ∀ m, (boxOf t m).state ≠ .busy) ∧
    (t.thm.temp < 1150 → t.life = s.life ∧ t.med = s.med ∧ t.mbx = s.mbx ∧
      (1050 ≤ t.thm.temp → t.thm.level = .throttle ∧ (s.thm.level ≠ .throttle → t.thm.step = 1 ∧ t.thm.thermN = true)) ∧
      (s.thm.level = .normal → s.thm.warnC * 10 ≤ t.thm.temp → t.thm.level ≠ .normal) ∧
      (s.thm.level = .throttle → t.thm.level = .throttle ∧ t.thm.step = s.thm.step)) := by
  have hkeep := sensed_keep readings s
  obtain ⟨hsensors, htemp, hlevel, hstep, hwarnC⟩ := sensed_spec readings s
  have hld : (sensed readings s).thm.level ≠ .halted := hlevel ▸ hl
  have hpd : (sensed readings s).life.phase = .service := by rw [hkeep.life rfl]; exact hp
  have hbd : (sensed readings s).mbx.box.length = 16 := by rw [hkeep.mbx rfl]; exact hb
  have hphase := levelled_phase hld hpd hbd
  obtain ⟨hsame, htempl⟩ := levelled_sensors hld hpd hbd
  have hcases := levelled_cases hld
  have hhalt := startHalt_spec hpd hbd
  have hfound := sampleLevel_found hld
  have hbelow := sampleLevel_keep (sensed readings s)
  have hhost := hostThermal_keep (if decide (3 ≤ s.pwr.state) then 1000 else 10) (levelled (sensed readings s))
  have hlife := hkeep.life rfl
  have hmed := hkeep.med rfl
  have hmbx := hkeep.mbx rfl
  rw [takeSample_eq]
  generalize hostThermal _ _ = t at hhost
  generalize sensed readings s = d at *
  have hthm : t.thm = (levelled d).thm := hhost.thm rfl
  refine ⟨by rw [hhost.life rfl]; exact hphase, by rw [hthm, hsame, hsensors], ?_, fun hhot => ?_, fun hcool => ?_⟩
  · rw [hthm, htempl, htemp]
    exact reportedTemp_congr (by rw [hthm, hsame])
  · rw [hthm, htempl] at hhot
    obtain ⟨-, heq⟩ | ⟨hlt, -⟩ := hcases
    · rw [heq] at hhost hthm
      obtain ⟨hflush, hrec, hword, hfree⟩ := hhalt
      rw [hhost.life rfl, hthm, hhost.evr rfl, hrec]
      refine ⟨hflush, rfl, rfl, hword, fun m => ?_⟩
      rw [boxOf, hhost.mbx rfl]
      exact hfree m
    · exact absurd hhot (not_le.mpr hlt)
  · rw [hthm, htempl] at hcool ⊢
    obtain ⟨hge, -⟩ | ⟨-, heq⟩ := hcases
    · exact absurd hcool (not_lt.mpr hge)
    · rw [heq] at hhost
      rw [hhost.life rfl, hhost.med rfl, hhost.mbx rfl, hbelow.life rfl, hbelow.med rfl, hbelow.mbx rfl, heq,
        ← hlevel, ← hstep, ← hwarnC]
      exact ⟨hlife, hmed, hmbx, hfound.hot, hfound.warm, hfound.throttled⟩

/-! ## Throttle steps (R361) -/

theorem exec_throttleStepRise (hl : s.thm.level = .throttle) (hs : s.thm.step < 4)
    (hx : ∃ x ∈ s.thm.sensors, x.valid = true ∧ ∃ v, x.reading = some v ∧ 1050 ≤ v) :
    exec .throttleStepRise s = .next (logThrottle 0 { s with thm := { s.thm with step := s.thm.step + 1 } }) := by
  have hhot : ((validReadings s).any fun t => decide (1050 ≤ t)) = true := by
    obtain ⟨x, hmem, hvalid, v, hv, hge⟩ := hx
    rw [List.any_eq_true]
    exact ⟨v, List.mem_filterMap.mpr ⟨x, hmem, by rw [if_pos hvalid, hv]⟩, decide_eq_true hge⟩
  refine congrArg Host.Outcome.next (if_pos ?_)
  rw [hl, hhot, decide_eq_true hs]
  rfl

theorem logThrottle_frame (cause : Nat) (s : State) : logThrottle cause s = { s with
    thm := (logThrottle cause s).thm, evr := (logThrottle cause s).evr, pins := (logThrottle cause s).pins
    free := s.free + 1 } := by
  have hfree : (logThrottle cause s).free = s.free + 1 :=
    congrArg (· + 1) ((logSample_keep 0x0B02 (sensorUnit (hottestSensor s)) (throttleData s s.thm.temp cause) s).free rfl)
  rw [← hfree]
  exact (logThrottle_keep cause s).same

theorem exec_throttleStepFall (hl : s.thm.level = .throttle) (ht : s.thm.temp < 1020) (hr : s.thm.rate < 30) :
    exec .throttleStepFall s = .next { s with thm := { s.thm with
      step := s.thm.step - 1, thermN := decide (1 < s.thm.step)
      level := if 1 < s.thm.step then .throttle else if 1000 < s.thm.coolMs then .normal else .warn } } := by
  refine congrArg Host.Outcome.next ((if_pos ?_).trans ?_)
  · rw [hl, decide_eq_true ht, decide_eq_true hr]
    rfl
  · by_cases h1 : 1 < s.thm.step
    · have hne : s.thm.step - 1 ≠ 0 := by omega
      simp [h1, hne]
    · have hz : s.thm.step - 1 = 0 := by omega
      simp [h1, hz]

/-! ## Limits and readings (R137, R359, R362) -/

/-- The state with the temperature limits set. -/
def limitsSet (die warn rate : Nat) (s : State) : State :=
  storeConfig (fun c => { c with dieLimitC := die, warnC := warn, rateWarnAt := rate })
    { s with thm := { s.thm with dieLimitC := die, warnC := warn, rateWarnAt := rate } }

theorem exec_thermalSetLimits {m : Fin 16} (h : Asked m 0x0031 s) {die warn rate : Nat}
    (hd : die = if reqField s m 8 1 = 0 then s.thm.dieLimitC else reqField s m 8 1)
    (hw : warn = if reqField s m 9 1 = 0 then s.thm.warnC else reqField s m 9 1)
    (hr : rate = if reqField s m 10 1 = 0 then s.thm.rateWarnAt else reqField s m 10 1) :
    exec (.thermalSetLimits m) s = .next (respond m stOk
      (leBytes 1 die ++ leBytes 1 warn ++ leBytes 1 rate ++ leBytes 1 0) (limitsSet die warn rate s)) := by
  subst hd hw hr
  refine congrArg Host.Outcome.next ((serve_asked h _).trans ?_)
  simp only [packBytes, List.append_nil, List.append_assoc]
  rfl

theorem limitsSet_frame (die warn rate : Nat) (s : State) : limitsSet die warn rate s = { s with
    thm := { s.thm with dieLimitC := die, warnC := warn, rateWarnAt := rate }
    nor := { s.nor with config0 := (limitsSet die warn rate s).nor.config0
                        config1 := (limitsSet die warn rate s).nor.config1
                        flags := (limitsSet die warn rate s).nor.flags } } :=
  storeConfig_frame _ _

theorem config_limitsSet (die warn rate : Nat) (s : State) : (config (limitsSet die warn rate s)).dieLimitC = die ∧
    (config (limitsSet die warn rate s)).warnC = warn ∧ (config (limitsSet die warn rate s)).rateWarnAt = rate := by
  rw [limitsSet, config_storeConfig]
  exact ⟨rfl, rfl, rfl⟩

theorem packBytes_map {α : Type} (k : Nat) (f : α → Nat) (l : List α) :
    packBytes (l.map fun x => (k, f x)) = l.flatMap fun x => leBytes k (f x) := by
  induction l with
  | nil => rfl
  | cons x l ih => rw [List.map_cons, packBytes, ih, List.flatMap_cons]

/-- A sensor's reading as THERMAL_GET answers it. -/
def readingCode (x : Sensor) : Nat :=
  match x.reading with
  | some r => signed 16 r
  | none => 0x8000

theorem exec_thermalGet {m : Fin 16} (h : Asked m 0x0030 s) : exec (.thermalGet m) s = .next (respond m stOk
    (leBytes 2 (signed 16 s.thm.temp) ++ leBytes 1 (thermalLevel s) ++ leBytes 1 s.thm.step ++
      leBytes 2 (signed 16 s.thm.rate) ++ leBytes 2 s.thm.predict ++ leBytes 2 (hottestDie s).1 ++
      leBytes 2 (hottestDie s).2 ++ leBytes 4 (s.thm.sensors.mapIdx fun n x => if x.excluded then 2 ^ n else 0).sum ++
      s.thm.sensors.flatMap fun x => leBytes 2 (readingCode x)) { s with free := s.free + 2 }) := by
  refine congrArg Host.Outcome.next ((serve_asked h _).trans ?_)
  simp only [List.cons_append, List.nil_append, packBytes, packBytes_map, List.append_assoc]
  rfl

theorem hottestDie_temp {d : Die} (hd : d ∈ s.med.dies) (hmax : ∀ e ∈ s.med.dies, e.temp ≤ d.temp) :
    (hottestDie s).1 = signed 16 (d.temp * 10) := by
  have hhot : (s.med.dies.map (·.temp)).max? = some d.temp := by
    refine List.max?_eq_some_iff.mpr ⟨List.mem_map_of_mem hd, fun b hb => ?_⟩
    obtain ⟨e, he, rfl⟩ := List.mem_map.mp hb
    exact hmax e he
  unfold hottestDie
  rw [hhot]

/-! ## The end of the halt (R365) -/

theorem exec_thermalHaltComplete (stopped : Option Nat) (hp : s.life.phase = .haltFlush) :
    ∃ u, Keep 131200 s u ∧ exec (.thermalHaltComplete stopped) s = .next { writeLastWords u with
      life := { s.life with phase := .halted }, nv := { s.nv with cfs := true, rdy := false } } := by
  obtain ⟨ws, hws⟩ : ∃ ws : List Nat, ws = (match stopped with
      | some n => if s.thm.over120 then (limitWrites s).take n else limitWrites s
      | none => limitWrites s) := ⟨_, rfl⟩
  have hkeep : Keep 131200 s (ledgerFlush (flushWrites ws s)) := Keep.on (ledgerFlush_keep _) (flushWrites_keep ws s) rfl
  refine ⟨_, hkeep, ?_⟩
  have hlife : (writeLastWords (ledgerFlush (flushWrites ws s))).life = s.life := hkeep.life rfl
  have hnv : (writeLastWords (ledgerFlush (flushWrites ws s))).nv = s.nv := hkeep.nv rfl
  rw [← hlife, ← hnv]
  subst hws
  exact congrArg Host.Outcome.next (if_neg (not_not.mpr hp))

/-! ## The obligation -/

/-- Settles O23: the sensors, the level and the halt a sample leads to, then the steps, the limits and the end. -/
theorem thermals : Obligations.Thermals := by
  unfold Obligations.Thermals
  constructor
  · intro s readings hp hl hb
    obtain ⟨hphase, hsensors, htemp, hhalt, hcool⟩ := takeSample_spec readings hp hl hb
    have hkeep := takeSample_keep readings s
    refine ⟨_, exec_thermalSample readings hp hphase, htemp, ?_, fun n x hx hout => ?_, hhalt, hcool, hkeep.clk rfl,
      hkeep.str rfl, hkeep.ord rfl, hkeep.map rfl, hkeep.dram rfl, hkeep.sec rfl⟩
    · rw [hsensors, checkedSensors, List.length_mapIdx]
    · rw [hsensors]
      exact checkedSensors_excluded hx hout
  · intro s m stopped
    refine ⟨fun hl hs hx => ?_, exec_throttleStepFall, fun h => ?_, fun h => ?_, fun hp => ?_⟩
    · refine ⟨_, exec_throttleStepRise hl hs hx, ?_, ?_⟩
      · exact eq_of_sansDeferred (logThrottle_thm 0 { s with thm := { s.thm with step := s.thm.step + 1 } })
      · exact logThrottle_frame 0 { s with thm := { s.thm with step := s.thm.step + 1 } }
    · obtain ⟨die, hd⟩ : ∃ die, die = if reqField s m 8 1 = 0 then s.thm.dieLimitC else reqField s m 8 1 := ⟨_, rfl⟩
      obtain ⟨warn, hw⟩ : ∃ warn, warn = if reqField s m 9 1 = 0 then s.thm.warnC else reqField s m 9 1 := ⟨_, rfl⟩
      obtain ⟨rate, hr⟩ : ∃ rate, rate = if reqField s m 10 1 = 0 then s.thm.rateWarnAt else reqField s m 10 1 := ⟨_, rfl⟩
      have hframe := limitsSet_frame die warn rate s
      have hthm := congrArg State.thm hframe
      have hb : (limitsSet die warn rate s).mbx.box.length = 16 := by rw [hframe]; exact h.boxes
      obtain ⟨hdie, hwarn, hrate⟩ := config_limitsSet die warn rate s
      refine ⟨_, limitsSet die warn rate s, die, warn, rate, exec_thermalSetLimits h hd hw hr, hd, hw, hr,
        respond_replied m m.isLt _ _ _ hb (.inl rfl), hthm, hdie, hwarn, hrate, ?_⟩
      rw [hthm]
      exact hframe
    · refine ⟨_, (hottestDie s).1, (hottestDie s).2, exec_thermalGet h, ?_, fun d hd hmax => hottestDie_temp hd hmax⟩
      exact respond_replied m m.isLt _ _ { s with free := s.free + 2 } h.boxes (.inl rfl)
    · obtain ⟨u, hu, hexec⟩ := exec_thermalHaltComplete stopped hp
      refine ⟨_, hexec, rfl, rfl, ?_, ?_⟩
      · have hevr := hu.evr rfl
        exact hevr ▸ rfl
      · have hwords : Keep 16908416 s (writeLastWords u) := Keep.on (writeLastWords_keep u) (Keep.on hu (Keep.refl _ s) rfl) rfl
        exact congrArg (fun v : State => { v with
          life := { s.life with phase := .halted }, nv := { s.nv with cfs := true, rdy := false } }) hwords.same

end Sys2Proof.Proofs
end

section
/-! Proofs about unit tests, unit status and re-admission (O54). -/

namespace Sys2Proof.Proofs

open Sys2Proof Sys2Proof.Machine Sys2Proof.Safety Sys2Proof.Laws

variable {s : State} {m : Fin 16} {u : UnitId}

/-! ## Units -/

theorem sectorUnit_unitIndex (h : unitClass u = 9) : sectorUnit (unitIndex u) = u := by
  have hu := u.isLt
  unfold unitClass at h
  unfold sectorUnit unitIndex unitId
  refine BitVec.eq_of_toNat_eq ?_
  rw [BitVec.toNat_ofNat]
  omega

theorem isFenced_iff : isFenced s u = true ↔ ∃ f ∈ s.st.fenced, f.1 = u := by
  simp [isFenced]

theorem underTest_iff : underTest s u = true ↔ ∃ x ∈ s.st.running, x.unit = u := by
  simp [underTest]

theorem testLive_iff : testLive s u = true ↔
    ∃ h ∈ s.hnd.live, (h.opcode = 0x0090 ∨ h.opcode = 0x0092) ∧ h.subject = u.toNat := by
  simp [testLive]

/-! ## A demanded test (R137, R139, R371) -/

/-- A handle issued before its cancel point has passed it once the command begins. -/
theorem issued_passCancel {v : BitVec 32} {h : Handle} {a : Handles} {w : State} (hi : Issued v h a w.hnd) :
    Issued v { h with past := true } a (passCancel v w).hnd := by
  obtain ⟨hvalue, hslot, hnumber, htable⟩ := hi
  refine ⟨hvalue, hslot, hnumber, ?_⟩
  have hothers : changeWhere (fun x => x.value == v) (fun x => { x with past := true }) a.live = a.live := by
    refine (List.map_congr_left fun x hx => if_neg fun hv => ?_).trans (List.map_id _)
    exact hslot x hx (by rw [beq_iff_eq.mp hv])
  rw [passCancel, updateHandle_hnd, htable]
  simp only [changeWhere, List.map_append, List.map_cons, List.map_nil] at hothers ⊢
  rw [hothers, hvalue, if_pos (beq_self_eq_true v)]

/-- The test that SELF_TEST or UNIT_READMIT demands. -/
def demandedTest (u : UnitId) (v : BitVec 32) (again : Bool) : UnitTest := ⟨u, 0, true, some v, again, false, none⟩

theorem demandTest_running (h : underTest s u = true) (v : BitVec 32) (again : Bool) : demandTest (demandedTest u v again) s =
    { s with st := { s.st with waiting := s.st.waiting ++ [demandedTest u v again] } } :=
  if_pos h

theorem demandTest_idle (h : underTest s u = false) (v : BitVec 32) (again : Bool) : demandTest (demandedTest u v again) s =
    passCancel v { s with st := { s.st with running := s.st.running ++ [demandedTest u v again] } } :=
  if_neg (Bool.eq_false_iff.mp h)

/-- An accepted demand, when `f` is what the command does to the state before its test is demanded. -/
theorem accept_demandTest (op : BitVec 16) (again : Bool) {f : State → State} {r : State}
    (hf : ∀ x, x = { s with hnd := x.hnd, free := s.free + 1 } → f x = { r with hnd := x.hnd, free := r.free + 1 })
    (hst : r.st = s.st) (hmail : r.mbx = s.mbx) (hslots : freeSlots s ≠ []) (hb : s.mbx.box.length = 16) :
    ∃ v w, let t := accept m op false u.toNat 0 false (fun v s => demandTest (demandedTest u v again) (f s)) s
      (underTest s u = true → Accepted m op false u.toNat 0 v s w t ∧
        w.st = { s.st with waiting := s.st.waiting ++ [demandedTest u v again] }) ∧
      (underTest s u = false → Accepted m op true u.toNat 0 v s w t ∧
        w.st = { s.st with running := s.st.running ++ [demandedTest u v again] }) ∧
      w = { r with st := w.st, hnd := w.hnd, free := r.free + 1 } := by
  obtain ⟨v, x, haccept, hissued, hx⟩ := accept_some m op u.toNat 0 false
    (fun v s => demandTest (demandedTest u v again) (f s)) s hslots
  refine ⟨v, demandTest (demandedTest u v again) (f x), ?_⟩
  have hfx := hf x hx
  obtain ⟨y, hy⟩ : ∃ y, y = f x := ⟨_, rfl⟩
  rw [← hy] at hfx
  have htested : underTest y u = underTest s u := by rw [hfx]; exact congrArg (fun z : SelfTests => z.running.any fun t => t.unit == u) hst
  dsimp only
  rw [haccept, ← hy]
  have hreplied : ∀ z : State, z.mbx = y.mbx →
      Replied m stAccepted (leBytes 4 v.toNat) z (respond m stAccepted (leBytes 4 v.toNat) z) := fun z hz =>
    respond_replied m m.isLt _ _ z (by rw [hz, hfx, hmail]; exact hb) (.inr rfl)
  have hhnd : y.hnd = x.hnd := by rw [hfx]
  have hyst : y.st = s.st := by rw [hfx]; exact hst
  refine ⟨fun hrun => ?_, fun hidle => ?_, ?_⟩
  · rw [demandTest_running (htested.trans hrun)]
    exact ⟨⟨hhnd ▸ hissued, hreplied _ rfl⟩, by rw [hyst]⟩
  · rw [demandTest_idle (htested.trans hidle)]
    exact ⟨⟨issued_passCancel (w := { y with st := _ }) (hhnd ▸ hissued), hreplied _ rfl⟩, by rw [passCancel, updateHandle_st, hyst]⟩
  · cases hrun : underTest s u
    · rw [demandTest_idle (htested.trans hrun), hfx]
      rfl
    · rw [demandTest_running (htested.trans hrun), hfx]

theorem exec_selfTest (h : Asked m 0x0090 s) (hu : u = BitVec.ofNat 16 (reqField s m 8 2)) : exec (.selfTest m) s = .next
    (accept m 0x0090 (testLive s u) u.toNat 0 false (fun v s => demandTest (demandedTest u v false) (testReads u s)) s) :=
  hu ▸ congrArg Host.Outcome.next (serve_asked h _)

theorem exec_unitReadmit (h : Asked m 0x0092 s) (hu : u = BitVec.ofNat 16 (reqField s m 8 2)) :
    exec (.unitReadmit m) s = .next (if isFenced s u = false then respond m stWrongState [] s
      else accept m 0x0092 (testLive s u) u.toNat 0 false (fun v s => demandTest (demandedTest u v true) s) s) :=
  hu ▸ congrArg Host.Outcome.next (serve_asked h _)

theorem accept_conflict (op : BitVec 16) (subject aux : Nat) (past : Bool) (k : BitVec 32 → State → State)
    (h : freeSlots s ≠ []) : accept m op true subject aux past k s = respond m stBusyRetry [] s := by
  obtain ⟨v, _, hv, -⟩ := newHandle_some s h
  rw [accept, hv]
  rfl

/-- The state once the test's read of an execute-only sector is logged. -/
def sectorRead (u : UnitId) (s : State) : State :=
  logEvent 0x0903 u (evData [(1, (Config.word (s.free + 1)).toNat % 256), (1, 1), (2, 0), (4, 0)])
    { s with nor := { s.nor with xoReads := min (s.nor.xoReads + 1) 255 }, free := s.free + 1 }

theorem testReads_quiet (h : unitClass u ≠ 9 ∨ executeOnly s (unitIndex u) = false) : testReads u s = s := by
  refine if_neg fun hc => ?_
  obtain ⟨hclass, hexec⟩ := hc
  obtain hne | hfree := h
  · exact hne hclass
  · exact Bool.eq_false_iff.mp hfree hexec

theorem testReads_executeOnly (hc : unitClass u = 9) (hx : executeOnly s (unitIndex u) = true) {x : State}
    (h : x = { s with hnd := x.hnd, free := s.free + 1 }) :
    testReads u x = { sectorRead u s with hnd := x.hnd, free := (sectorRead u s).free + 1 } := by
  have hxo : executeOnly x (unitIndex u) = true := by rw [h]; exact hx
  rw [testReads, if_pos ⟨hc, hxo⟩, xoRead, sectorUnit_unitIndex hc, h]
  rfl

/-! ## Status (R137) -/

theorem exec_unitStatus (h : Asked m 0x0091 s) (hu : u = BitVec.ofNat 16 (reqField s m 8 2)) :
    exec (.unitStatus m) s = .next (respond m stOk (leBytes 1 (unitState s u) ++
      leBytes 1 (min 255 (recentTransients s u)) ++ leBytes 2 (unitGeneration s u) ++
      leBytes 2 (((s.st.lastEvent.find? fun e => e.1 == u).map (·.2.toNat)).getD 0) ++ [0, 0] ++
      leBytes 8 (((s.st.fenced.find? fun f => f.1 == u).map (·.2)).getD 0)) s) := by
  subst hu
  refine congrArg Host.Outcome.next ((serve_asked h _).trans ?_)
  simp only [packBytes, List.append_nil, List.append_assoc]
  rfl

theorem unitState_fenced (h : isFenced s u = true) : unitState s u = 1 := if_pos h

theorem unitState_channel (h : isFenced s u = false) (hc : unitClass u = 2) :
    unitState s u = if (chanOf s (unitIndex u)).state = .gated then 3 else 0 := by
  rw [unitState, hc]
  exact if_neg (Bool.eq_false_iff.mp h)

theorem unitState_die (h : isFenced s u = false) (hc : unitClass u = 3) {d : Die} (hd : findDie s (unitIndex u) = some d) :
    unitState s u = dieStateCode d.state := by
  rw [unitState, hc, dieRecord, hd]
  exact if_neg (Bool.eq_false_iff.mp h)

theorem unitGeneration_die (hc : unitClass u = 3) {d : Die} (hd : findDie s (unitIndex u) = some d) :
    unitGeneration s u = d.featureGen := by
  rw [unitGeneration, hc, hd]
  rfl

theorem unitGeneration_channel (hc : unitClass u = 2) : unitGeneration s u = (chanOf s (unitIndex u)).generation := by
  unfold unitGeneration
  rw [hc]
  rfl

/-! ## The end of a test (R371, R372) -/

/-- The test of a unit has left the running ones. -/
def testLeft (u : UnitId) (s : State) : State :=
  { s with st := { s.st with running := s.st.running.filter fun x => x.unit != u } }

theorem leaveTest_alone (h : ∀ y ∈ s.st.waiting, y.unit ≠ u) : leaveTest u s = testLeft u s := by
  have hnone : (s.st.waiting.find? fun t => t.unit == u) = none :=
    List.find?_eq_none.mpr fun y hy hu => h y hy (beq_iff_eq.mp hu)
  unfold leaveTest
  dsimp only
  rw [hnone]
  rfl

theorem exec_selfTestEnd_idle (h : ∀ x ∈ s.st.running, x.unit ≠ u) (pass : Bool) (us : Nat) :
    exec (.selfTestEnd u pass us) s = .next s := by
  have hnone : (s.st.running.find? fun t => t.unit == u) = none :=
    List.find?_eq_none.mpr fun y hy hu => h y hy (beq_iff_eq.mp hu)
  show execSelfTestEnd u pass us s = _
  rw [execSelfTestEnd, hnone]

/-- A verdict waits for the end of the Clove stop. -/
def verdictKept (u : UnitId) (verdict : Bool × Nat) (s : State) : State :=
  { s with st := { s.st with
    running := changeWhere (fun x => x.unit == u) (fun x => { x with verdict := some verdict }) s.st.running } }

theorem exec_selfTestEnd {x : UnitTest} (h : (s.st.running.find? fun t => t.unit == u) = some x) (pass : Bool) (us : Nat) :
    exec (.selfTestEnd u pass us) s = .next (
      if !x.demanded && (unitClass u == 4 || unitClass u == 7) then s
      else if s.life.stop.isSome then
        verdictKept u (pass && !x.joined, us) s
      else judgeTest x (pass && !x.joined) us (leaveTest u s)) := by
  show execSelfTestEnd u pass us s = _
  rw [execSelfTestEnd, h]
  rfl

/-- What a test's end leaves before its verdict is taken. -/
def mended (u : UnitId) (ok : Bool) (s : State) : State := if ok then relock u (testLeft u s) else testLeft u s

/-- A test of its own unit ends, with none that waits for it. -/
theorem exec_selfTestEnd_judged {x : UnitTest} (h : (s.st.running.find? fun t => t.unit == u) = some x)
    (hd : x.demanded = true ∨ unitClass u ≠ 4 ∧ unitClass u ≠ 7) (hs : s.life.stop = none)
    (hw : ∀ y ∈ s.st.waiting, y.unit ≠ u) (pass : Bool) (us : Nat) {ok : Bool} (hok : ok = (pass && !x.joined)) :
    exec (.selfTestEnd u pass us) s = .next (
      if x.readmit then
        if ok then completeSome x.handle stOk (ringData [(1, unitState (readmitUnit u (mended u ok s)) u)])
          (readmitUnit u (mended u ok s))
        else completeSome x.handle stMediaFailed 0 (logLasting u 4 x.trigger 3 0 (mended u ok s))
      else if x.demanded then
        let told := completeSome x.handle stOk (ringData [(1, flag !ok), (3, 0), (4, us)]) (mended u ok s)
        if ok then told else lastingFault u x.trigger 0 told
      else if ok then noteTransient u x.trigger us (mended u ok s) else lastingFault u x.trigger 0 (mended u ok s)) := by
  have hunit : x.unit = u := beq_iff_eq.mp (List.find?_some h :)
  have hrow : ¬(!x.demanded && (unitClass u == 4 || unitClass u == 7)) = true := by
    obtain hd | ⟨h4, h7⟩ := hd
    · simp [hd]
    · simp [h4, h7]
  rw [exec_selfTestEnd h, if_neg hrow, hs, ← hok, leaveTest_alone hw]
  subst hunit
  rfl

/-- What is logged depends on the recorder, the pins and the time. -/
theorem logged_of_same {a b t : State} {e : BitVec 16 × UnitId × BitVec 64} (h : Logged [e] b t) (hevr : b.evr = a.evr)
    (hpins : b.pins = a.pins) (hclk : b.clk = a.clk) : Logged [e] a t := by
  obtain ⟨hr, hp⟩ := h
  refine ⟨hr.trans ?_, hp.trans ?_⟩
  · show intake b.evr ⟨_, _, _, _, b.clk.us, _, _⟩ = _
    rw [hevr, hclk]
    rfl
  · exact congrArg (faultPins _) hpins

theorem logLasting_kept (u : UnitId) (trigger : BitVec 16) (cause : Nat) (s : State) :
    let t := logLasting u 4 trigger cause 0 s
    Logged [(0x0E02, u, evData [(2, u.toNat), (2, trigger.toNat), (1, cause), (1, 0), (2, healthyDies s)])] s t ∧
      t = { s with evr := t.evr, pins := t.pins } :=
  ⟨⟨rfl, rfl⟩, rfl⟩

theorem noteTransient_kept (trigger : BitVec 16) (us : Nat) (h : recentTransients s u < 2) :
    let t := noteTransient u trigger us s
    Logged [(0x0E01, u, evData [(2, u.toNat), (2, trigger.toNat), (1, recentTransients s u + 1), (1, 0), (2, us)])] s t ∧
      t = { s with st := { s.st with transients := (u, s.clk.us) :: s.st.transients }, evr := t.evr, pins := t.pins } := by
  unfold noteTransient
  dsimp only
  rw [if_neg (by omega)]
  exact ⟨⟨rfl, rfl⟩, rfl⟩

/-! ## Re-admission (R378) -/

/-- A unit off the fenced list, there and in the configuration store, its transients forgotten. -/
def delisted (u : UnitId) (s : State) : State :=
  storeConfig (fun c => { c with fenced := c.fenced.filter (· != u) }) { s with st := { s.st with
    fenced := s.st.fenced.filter fun f => f.1 != u, transients := s.st.transients.filter fun t => t.1 != u } }

theorem readmitUnit_eq (u : UnitId) (s : State) : readmitUnit u s = backInService u (diesBack u (delisted u s)) := rfl

theorem readmitUnit_spec (u : UnitId) (s : State) : let w := readmitUnit u s
    w.st = { s.st with
      fenced := s.st.fenced.filter fun f => f.1 != u, transients := s.st.transients.filter fun f => f.1 != u } ∧
    (config w).fenced = (config s).fenced.filter (· != u) ∧
    w = { s with
      ord := w.ord, map := w.map, med := w.med, thm := w.thm
      nor := { s.nor with config0 := w.nor.config0, config1 := w.nor.config1, flags := w.nor.flags }
      st := w.st, evr := w.evr, pins := w.pins, free := w.free } := by
  have hback : Keep 285679744 (delisted u s) (readmitUnit u s) :=
    Keep.on (backInService_keep _ _) (Keep.on (diesBack_keep _ _) (Keep.refl _ _) rfl) rfl
  have hnor := hback.nor rfl
  have hnorOnly : (readmitUnit u s).nor = { s.nor with
      config0 := (readmitUnit u s).nor.config0, config1 := (readmitUnit u s).nor.config1
      flags := (readmitUnit u s).nor.flags } := by
    rw [hnor]
    exact congrArg State.nor (storeConfig_frame _ _)
  refine ⟨?_, ?_, ?_⟩
  · rw [hback.st rfl, delisted, (storeConfig_keep _ _).st rfl]
  · rw [config_congr hnor, delisted, config_storeConfig]
    exact congrArg (fun c : ConfigStore => c.fenced.filter (· != u)) (config_congr rfl)
  · rw [← hnorOnly]
    exact (readmitUnit_keep u s).same

theorem diesBack_die (hc : unitClass u = 3) (s : State) : diesBack u s = s := by
  have hdies : (s.med.dies.map fun d => if d.state != .absent && (unitClass u == 2 && d.index / 32 == unitIndex u ||
      unitClass u == 1 && maceOf (d.index / 32) == unitIndex u) && !dieOut s d.index
      then { d with state := .gated, staleLogged := false } else d) = s.med.dies := by
    refine (List.map_congr_left fun d _ => if_neg ?_).trans (List.map_id _)
    simp [hc]
  rw [diesBack, hdies]

theorem findDie_updateDie_same {n : Nat} {d : Die} {f : Die → Die} (hf : ∀ d, (f d).index = d.index)
    (hd : findDie s n = some d) : findDie (updateDie n f s) n = some (f d) := by
  rw [findDie_updateDie n n f hf, if_pos rfl, hd, Option.map_some]

theorem findDie_markStale {n cause : Nat} {d : Die} (hd : findDie s n = some d) (hs : d.state = .inService) :
    ∃ y, findDie (markStale n cause s) n = some y ∧ y.state = .stale := by
  refine ⟨{ d with state := .stale, staleLogged := true }, ?_, rfl⟩
  have hfound := findDie_updateDie_same (f := fun d => { d with state := .stale, staleLogged := true }) (fun _ => rfl) hd
  unfold markStale
  rw [hd]
  dsimp only
  rw [if_neg (by simp [hs]), if_neg (by simp [hs])]
  exact hfound

theorem readmitUnit_die (hc : unitClass u = 3) {d : Die} (hd : findDie s (unitIndex u) = some d) :
    ∃ y, findDie (readmitUnit u s) (unitIndex u) = some y ∧ y.state = .stale := by
  have hmed : (delisted u s).med = s.med := (storeConfig_keep _ _).med rfl
  have hlisted : findDie (delisted u s) (unitIndex u) = some d := by
    unfold findDie at hd ⊢
    rw [hmed]
    exact hd
  have hback : readmitUnit u s = markStale (unitIndex u) 4
      (updateDie (unitIndex u) (fun d => { d with state := .inService, staleLogged := false }) (delisted u s)) := by
    rw [readmitUnit_eq, diesBack_die hc, backInService, hc]
    rfl
  rw [hback]
  exact findDie_markStale (findDie_updateDie_same (f := fun d => { d with state := .inService, staleLogged := false })
    (fun _ => rfl) hlisted) rfl

theorem findDie_mended (hc : unitClass u = 3) {d : Die} (hd : findDie s (unitIndex u) = some d) :
    findDie (mended u true s) (unitIndex u) = some { d with timeouts := 0 } := by
  have hblock : u ≠ blockUnit 0x26 := fun h => absurd (h ▸ hc) (by decide)
  show findDie (relock u (testLeft u s)) _ = _
  rw [relock, if_neg hblock, if_pos hc]
  exact findDie_updateDie_same (s := testLeft u s) (f := fun d => { d with timeouts := 0 }) (fun _ => rfl) hd

/-- What a readmitted die reports (R137). -/
theorem unitState_readmitted (hc : unitClass u = 3) {y : Die} (hy : findDie (readmitUnit u s) (unitIndex u) = some y)
    (hs : y.state = .stale) : unitState (readmitUnit u s) u = 2 := by
  have hlist := (readmitUnit_spec u s).1
  have hfree : isFenced (readmitUnit u s) u = false := by
    rw [isFenced, hlist]
    simp
  rw [unitState_die hfree hc hy, hs]
  rfl

/-! ## The obligation -/

/-- Settles O54: the demands of a test, what a unit reports, and each verdict at a test's end. -/
theorem unitTests : Obligations.UnitTests := by
  unfold Obligations.UnitTests
  intro s
  constructor
  · intro m u fenced busy running demands
    have hdemands (op : BitVec 16) (again : Bool) (f : State → State) (r : State) (hexec :
        exec (if again then .unitReadmit m else .selfTest m) s = .next
          (accept m op false u.toNat 0 false (fun v s => demandTest (demandedTest u v again) (f s)) s))
        (hf : ∀ x, x = { s with hnd := x.hnd, free := s.free + 1 } → f x = { r with hnd := x.hnd, free := r.free + 1 })
        (hst : r.st = s.st) (hmail : r.mbx = s.mbx) (hslots : freeSlots s ≠ []) (hb : s.mbx.box.length = 16) :
        demands op again r := by
      obtain ⟨v, w, hrun, hidle, hw⟩ := accept_demandTest (m := m) (u := u) op again hf hst hmail hslots hb
      refine ⟨_, v, w, hexec, fun h => hrun (underTest_iff.mpr h), fun h => hidle ?_, hw⟩
      exact Bool.eq_false_iff.mpr fun hc => h (underTest_iff.mp hc)
    refine ⟨fun h hslots => ⟨fun hbusy => ?_, fun hfree hread => ?_, fun hfree hc hx' => ?_⟩, fun h =>
      ⟨fun hnot => ?_, fun hfenced hslots hbusy => ?_, fun hfenced hslots hfree => ?_⟩, fun h => ?_⟩
    · refine ⟨_, exec_selfTest h rfl, ?_⟩
      rw [testLive_iff.mpr hbusy, accept_conflict _ _ _ _ _ hslots]
      exact respond_refused m m.isLt _ s h.boxes
    · have hlive : testLive s u = false := Bool.eq_false_iff.mpr fun hc => hfree (testLive_iff.mp hc)
      have hexec := exec_selfTest (u := u) h rfl
      rw [hlive] at hexec
      refine hdemands 0x0090 false (testReads u) s hexec (fun x hx => ?_) rfl rfl hslots h.boxes
      refine (testReads_quiet ?_).trans hx
      rw [hx]
      exact hread
    · have hlive : testLive s u = false := Bool.eq_false_iff.mpr fun hc => hfree (testLive_iff.mp hc)
      have hexec := exec_selfTest (u := u) h rfl
      rw [hlive] at hexec
      exact ⟨sectorRead u s, ⟨rfl, rfl⟩, rfl, hdemands 0x0090 false (testReads u) (sectorRead u s) hexec (fun x hx =>
        testReads_executeOnly hc hx' hx) rfl rfl hslots h.boxes⟩
    · have hout : isFenced s u = false := Bool.eq_false_iff.mpr fun hc => hnot (isFenced_iff.mp hc)
      exact ⟨_, (exec_unitReadmit h rfl).trans (congrArg _ (if_pos hout)), respond_refused m m.isLt _ s h.boxes⟩
    · have hin : ¬isFenced s u = false := by rw [isFenced_iff.mpr hfenced]; decide
      refine ⟨_, (exec_unitReadmit h rfl).trans (congrArg _ (if_neg hin)), ?_⟩
      rw [testLive_iff.mpr hbusy, accept_conflict _ _ _ _ _ hslots]
      exact respond_refused m m.isLt _ s h.boxes
    · have hin : ¬isFenced s u = false := by rw [isFenced_iff.mpr hfenced]; decide
      have hlive : testLive s u = false := Bool.eq_false_iff.mpr fun hc => hfree (testLive_iff.mp hc)
      have hexec := (exec_unitReadmit (u := u) h rfl).trans (congrArg _ (if_neg hin))
      rw [hlive] at hexec
      exact hdemands 0x0092 true id s hexec (fun x hx => hx) rfl rfl hslots h.boxes
    · refine ⟨_, unitState s u, unitGeneration s u, exec_unitStatus h rfl, respond_replied m m.isLt _ _ s h.boxes (.inl rfl),
        fun hf => unitState_fenced (isFenced_iff.mpr hf), fun d hnot hc hd => ⟨unitGeneration_die hc hd, ?_⟩,
        fun hnot hc => ⟨unitGeneration_channel hc, ?_⟩⟩
      · have hout : isFenced s u = false := Bool.eq_false_iff.mpr fun hc => hnot (isFenced_iff.mp hc)
        have hstate := unitState_die hout hc hd
        refine ⟨fun hs => ?_, fun hs => ?_, fun hs => ?_, fun hs => ?_⟩
        all_goals rw [hstate, hs]; rfl
      · exact unitState_channel (Bool.eq_false_iff.mpr fun hc => hnot (isFenced_iff.mp hc)) hc
  · intro u pass us i
    refine ⟨fun h => exec_selfTestEnd_idle h pass us, ?_⟩
    intro x hx ok left base
    have hbase : base = mended u ok s := by
      show (if ok = false then left else _) = if ok = true then relock u left else left
      cases ok <;> rfl
    refine ⟨fun hd hrow => ?_, fun hd => ⟨fun hstop => ?_, fun hstop hw => ?_⟩⟩
    · have hcond : (!x.demanded && (unitClass u == 4 || unitClass u == 7)) = true := by simpa [hd] using hrow
      exact (exec_selfTestEnd hx pass us).trans (congrArg _ (if_pos hcond))
    · have hcond : ¬(!x.demanded && (unitClass u == 4 || unitClass u == 7)) = true := by
        obtain hd | ⟨h4, h7⟩ := hd
        · simp [hd]
        · simp [h4, h7]
      refine (exec_selfTestEnd hx pass us).trans (congrArg _ ((if_neg hcond).trans ((if_pos ?_).trans ?_)))
      · exact Option.isSome_iff_ne_none.mpr hstop
      · simp only [verdictKept, changeWhere, beq_iff_eq, ok]
    have hexec := exec_selfTestEnd_judged hx hd hstop hw pass us (ok := ok) rfl
    rw [← hbase] at hexec
    have hkept : base.st = left.st ∧ base.evr = s.evr ∧ base.pins = s.pins ∧ base.clk = s.clk ∧ base.nor = s.nor := by
      have hrelock : Keep 278528 left (relock u left) := relock_keep u left
      rw [hbase, mended]
      split
      · exact ⟨hrelock.st rfl, hrelock.evr rfl, hrelock.pins rfl, hrelock.clk rfl, hrelock.nor rfl⟩
      · exact ⟨rfl, rfl, rfl, rfl, rfl⟩
    obtain ⟨hst, hevr, hpins, hclk, hnor⟩ := hkept
    refine ⟨fun hr hdem hok hfew => ?_, fun hr hdem hok => ?_, fun v hr hdem hv => ?_, fun v hr hv => ⟨fun hok => ?_,
      fun hok => ?_⟩⟩
    · simp only [hr, hdem, hok, Bool.false_eq_true, if_false, if_true] at hexec
      have hrecent : recentTransients base u = recentTransients s u := by
        rw [recentTransients, hst, hclk]
        rfl
      obtain ⟨hlog, hframe⟩ := noteTransient_kept (s := base) x.trigger us (hrecent.trans_lt hfew)
      rw [hrecent] at hlog
      rw [hst] at hframe
      refine ⟨_, hexec, logged_of_same hlog hevr hpins hclk, ?_⟩
      rw [← hclk]
      exact hframe
    · simpa only [hr, hdem, hok, Bool.false_eq_true, if_false, if_true] using hexec
    · intro told
      refine hexec.trans ?_
      rw [if_neg (Bool.eq_false_iff.mp hr), if_pos hdem, hv, show flag (!ok) = (if ok then 0 else 1) by cases ok <;> rfl]
      rfl
    · rw [if_pos hr, if_pos hok, hv] at hexec
      obtain ⟨hlist, hconfig, hframe⟩ := readmitUnit_spec u base
      rw [hst] at hlist
      rw [config_congr hnor] at hconfig
      rw [hnor] at hframe
      refine ⟨_, _, hexec, hlist, hconfig, fun d hc hd => ?_, hframe⟩
      have hbased : findDie base (unitIndex u) = some { d with timeouts := 0 } := by
        rw [hbase, hok]
        exact findDie_mended hc hd
      obtain ⟨y, hy, hs⟩ := readmitUnit_die hc hbased
      exact ⟨y, hy, hs, unitState_readmitted hc hy hs⟩
    · rw [if_pos hr, if_neg (Bool.eq_false_iff.mp hok), hv] at hexec
      have hleft : base = left := if_pos hok
      rw [hleft] at hexec
      obtain ⟨hlog, hframe⟩ := logLasting_kept u x.trigger 3 left
      exact ⟨_, hexec, logged_of_same hlog rfl rfl rfl, hframe⟩

end Sys2Proof.Proofs
end

section
/-! Proofs about the event recorder: intake, records, tiers and their reads (O55). -/

namespace Sys2Proof.Proofs

open Sys2Proof Sys2Proof.Machine Sys2Proof.Safety Sys2Proof.Laws

variable {s : State} {r : Recorder} {m : Fin 16}

/-! ## Token buckets (R384) -/

theorem bucketOf_congr {q : Recorder} (h : q.buckets = r.buckets) (c : BitVec 16) : bucketOf q c = bucketOf r c := by
  unfold bucketOf
  rw [h]

theorem bucketOf_code (r : Recorder) (c : BitVec 16) : (bucketOf r c).code = c := by
  unfold bucketOf
  split
  next b h => exact beq_iff_eq.mp (List.find?_some h :)
  next => rfl

theorem bucketOf_setBucket_same (r : Recorder) (b : Bucket) : bucketOf (setBucket r b) b.code = b := by
  unfold bucketOf setBucket
  simp only [List.find?_cons, beq_self_eq_true]

theorem bucketOf_setBucket_other (r : Recorder) {b : Bucket} {c : BitVec 16} (h : c ≠ b.code) :
    bucketOf (setBucket r b) c = bucketOf r c := by
  have hfind : (r.buckets.filter fun x => x.code != b.code).find? (fun x => x.code == c) =
      r.buckets.find? fun x => x.code == c := by
    rw [List.find?_filter]
    congr 1
    funext x
    by_cases hx : x.code = c
    · simp [hx, h]
    · simp [hx]
  unfold bucketOf setBucket
  rw [List.find?_cons_of_neg (by simpa using fun hb : b.code = c => h hb.symm), hfind]

/-- A code's bucket changed, as seen by every code. -/
theorem bucketOf_changed (r : Recorder) {code : BitVec 16} {b : Bucket} (hb : b.code = code) :
    (∀ c, c ≠ code → bucketOf (setBucket r b) c = bucketOf r c) ∧ bucketOf (setBucket r b) code = b := by
  subst hb
  exact ⟨fun c hc => bucketOf_setBucket_other r hc, bucketOf_setBucket_same r b⟩

theorem bucketOf_rebucket (r : Recorder) (rate burst : Nat) (c : BitVec 16) :
    bucketOf { r with buckets := r.buckets.map (rebucket rate burst) } c =
      ((r.buckets.find? fun b => b.code == c).map (rebucket rate burst)).getD ⟨c, 64, 16, 64, 0⟩ := by
  unfold bucketOf
  rw [List.find?_map]
  cases hfind : r.buckets.find? ((fun b => b.code == c) ∘ rebucket rate burst)
  all_goals
    rw [show r.buckets.find? (fun b => b.code == c) = _ from hfind]
    rfl

/-! ## Intake (R384, R385) -/

/-- The record is withheld. -/
def withheld (r : Recorder) (e : Event) : Prop := e.severity < 5 ∧ (bucketOf r e.code).tokens = 0

theorem intake_withheld {e : Event} (h : withheld r e) : intake r e = setBucket r { bucketOf r e.code with
    suppressed := min ((bucketOf r e.code).suppressed + 1) 65535 } := by
  obtain ⟨hsev, htok⟩ := h
  exact if_pos (by rw [htok, decide_eq_true hsev]; rfl)

theorem intake_taken {e : Event} (h : ¬withheld r e) : intake r e =
    pushFifo (setBucket r { bucketOf r e.code with
      tokens := (bucketOf r e.code).tokens - 1
      suppressed := if decide (r.fifo.length < 64) = true then 0 else (bucketOf r e.code).suppressed })
      { e with suppressed := (bucketOf r e.code).suppressed } := by
  refine if_neg fun hc => h ?_
  simpa [withheld] using hc

theorem intake_room {e : Event} (h : ¬withheld r e) (hroom : r.fifo.length < 64) : intake r e =
    { setBucket r { bucketOf r e.code with tokens := (bucketOf r e.code).tokens - 1, suppressed := 0 } with
      fifo := r.fifo ++ [{ e with suppressed := (bucketOf r e.code).suppressed }] } := by
  rw [intake_taken h, if_pos (decide_eq_true hroom)]
  exact if_pos hroom

theorem intake_full {e : Event} (h : ¬withheld r e) (hfull : 64 ≤ r.fifo.length) : intake r e =
    { setBucket r { bucketOf r e.code with tokens := (bucketOf r e.code).tokens - 1 } with
      lost := min (r.lost + 1) 65535, lostTotal := min (r.lostTotal + 1) 0xFFFFFFFF, overflow := true
      episodes := if r.overflow then r.episodes else min (r.episodes + 1) 65535
      overflowDue := if r.overflow then r.overflowDue else some (e.code, e.unit) } := by
  have hno : ¬r.fifo.length < 64 := Nat.not_lt.mpr hfull
  rw [intake_taken h, if_neg (by simpa using hno)]
  exact if_neg hno

/-- An intake changes its own code's bucket alone. -/
theorem bucketOf_intake_other (r : Recorder) (e : Event) {c : BitVec 16} (h : c ≠ e.code) :
    bucketOf (intake r e) c = bucketOf r c := by
  have hcode : ∀ tokens suppressed, c ≠ ({ bucketOf r e.code with tokens, suppressed } : Bucket).code := fun _ _ => by
    show c ≠ (bucketOf r e.code).code
    rwa [bucketOf_code]
  by_cases hheld : withheld r e
  · rw [intake_withheld hheld]
    exact bucketOf_setBucket_other r (hcode _ _)
  · by_cases hroom : r.fifo.length < 64
    · rw [intake_room hheld hroom]
      exact bucketOf_setBucket_other r (hcode _ _)
    · rw [intake_full hheld (Nat.not_lt.mp hroom)]
      exact bucketOf_setBucket_other r (hcode _ _)

/-- An event as it is logged at its catalogue severity, before it has passed its bucket. -/
def eventOf (code : BitVec 16) (unit : UnitId) (data : BitVec 64) (s : State) : Event :=
  ⟨code, severityOf code, unit, data, s.clk.us, false, 0⟩

/-- The state with the recorder and the fault pins as an event leaves them. -/
def recorded (code : BitVec 16) (r : Recorder) (s : State) : State :=
  { s with evr := r, pins := faultPins (severityOf code) s.pins }

theorem logEvent_eq (code : BitVec 16) (unit : UnitId) (data : BitVec 64) (s : State) :
    logEvent code unit data s = recorded code (intake s.evr (eventOf code unit data s)) s := rfl

theorem faultPins_get (severity : Nat) {pins : List Pin} {k : Nat} {p : Pin} (h : pins[k]? = some p) :
    (faultPins severity pins)[k]? =
      some (if p.function = 8 ∧ p.arg.toNat ≤ severity then { p with faultDue := true } else p) := by
  refine (getElem?_changeWhere _ _ h).trans ?_
  simp

/-! ## The FIFO is drained (R379, R380, R385, R386) -/

theorem recorderRuns_iff : recorderRuns s = true ↔ s.life.phase = .service ∨ s.life.phase = .recovery ∨
    s.life.phase = .manufacturing ∨ s.life.phase = .lossFlush ∨ s.life.phase = .haltFlush := by
  unfold recorderRuns
  cases s.life.phase <;> decide

/-- The oldest event has left the FIFO and has its number. -/
def numbered (rest : List Event) (s : State) : State :=
  { s with
    evr := { s.evr with fifo := rest, next := s.evr.next + 1, lost := 0 }
    life := { s.life with bootRecordDue := false } }

/-- The record of an event drained from the FIFO. -/
def recordOf (e : Event) (s : State) : Record :=
  ⟨s.evr.next, { e with deferred := e.deferred || decide (e.us < s.clk.us) }, s.evr.lost, s.evr.mode == .reserve,
    s.life.bootRecordDue⟩

theorem exec_eventFifoDrain_idle (h : recorderRuns s = false ∨ s.evr.fifo = []) : exec .eventFifoDrain s = .next s := by
  show execEventFifoDrain s = _
  unfold execEventFifoDrain
  obtain hstill | hempty := h
  · rw [if_pos hstill]
  · rw [hempty]
    exact congrArg Host.Outcome.next (ite_self s)

theorem exec_eventFifoDrain {e : Event} {rest : List Event} (hr : recorderRuns s = true) (hf : s.evr.fifo = e :: rest)
    (hm : s.evr.mode ≠ .lastWords) :
    exec .eventFifoDrain s = .next (afterDrain (recordRing (recordOf e s) (numbered rest s))) := by
  show execEventFifoDrain s = _
  unfold execEventFifoDrain
  rw [if_neg (by rw [hr]; decide), hf]
  exact congrArg (fun t => Host.Outcome.next (afterDrain t)) (if_neg hm)

theorem not_slotPoisoned {bank slot : Nat} (h : findBlock s bank (slot / 2) = none) : slotPoisoned s bank slot = false := by
  unfold slotPoisoned
  rw [List.any_eq_false]
  intro b hb hc
  have hother := List.find?_eq_none.mp h b hb
  simp only [Bool.and_eq_true] at hc hother
  exact hother hc.1

theorem recordRing_written {x : Record} {bank slot : Nat} (hb : ringBank s.evr = bank) (hs : slotOf s.evr x.seq = slot)
    (ha : armed s bank = false) (hn : findBlock s bank (slot / 2) = none) :
    recordRing x s = { s with evr := { s.evr with ring := (x :: s.evr.ring).take 32768 } } := by
  subst hb hs
  unfold recordRing
  dsimp only
  simp only [ha, hn, not_slotPoisoned hn, Option.isSome_none, Bool.or_self, Bool.false_eq_true, if_false]

/-- The banks of the two rings bring no more than the change of the recorder's mode. -/
theorem ownerActs_ring {bank : Nat} (h : bank = 0x61 ∨ bank = 0x60 ∧ poisonedIn s 0x60 ≤ 64) (block : Nat) :
    ownerActs bank block s = s := by
  obtain rfl | ⟨rfl, hfew⟩ := h
  · rfl
  · exact if_neg fun hc : 0x60 = 0x60 ∧ 64 < poisonedIn s 0x60 => absurd hc.2 (Nat.not_lt.mpr hfew)

theorem findBlock_of_poisoned {bank slot : Nat} (h : slotPoisoned s bank slot = true) :
    (findBlock s bank (slot / 2)).isSome = true := by
  obtain ⟨b, hb, hmatch⟩ := List.any_eq_true.mp h
  simp only [Bool.and_eq_true] at hmatch
  exact List.find?_isSome.mpr ⟨b, hb, by simpa using hmatch.1⟩

theorem recordRing_lost {x : Record} {bank slot : Nat} (hb : ringBank s.evr = bank) (hs : slotOf s.evr x.seq = slot)
    (hp : slotPoisoned s bank slot = true) (hfew : poisonedIn s 0x60 ≤ 64) : recordRing x s = recordLost x s := by
  have hbank : bank = 0x61 ∨ bank = 0x60 ∧ poisonedIn (recordLost x s) 0x60 ≤ 64 := by
    subst hb
    unfold ringBank
    split
    · exact .inl rfl
    · exact .inr ⟨rfl, hfew⟩
  subst hb hs
  unfold recordRing
  dsimp only
  simp only [hp, findBlock_of_poisoned hp, Bool.or_true, if_true]
  exact ownerActs_ring hbank _

theorem afterDrain_quiet (h : s.evr.overflowDue = none) : afterDrain s =
    { s with evr := { s.evr with overflow := s.evr.overflow && !s.evr.fifo.isEmpty } } := by
  unfold afterDrain
  dsimp only
  simp only [h]

/-- The record that tells of an overflow (R385). -/
def overflowEvent (code : BitVec 16) (unit : UnitId) (us : Nat) : Event :=
  ⟨0x0D02, 3, blockUnit 0x25, evData [(2, code.toNat), (2, unit.toNat), (4, 0)], us, false, 0⟩

theorem afterDrain_room {code : BitVec 16} {unit : UnitId} (h : s.evr.overflowDue = some (code, unit))
    (hroom : s.evr.fifo.length < 64) : afterDrain s = { s with evr := { s.evr with
      fifo := s.evr.fifo ++ [overflowEvent code unit s.clk.us], overflowDue := none } } := by
  have hne : (s.evr.fifo ++ [overflowEvent code unit s.clk.us]).isEmpty = false := by simp
  unfold afterDrain
  dsimp only
  rw [h]
  dsimp only
  rw [if_pos hroom]
  dsimp only
  rw [show (⟨0x0D02, 3, blockUnit 0x25, _, s.clk.us, false, 0⟩ : Event) = overflowEvent code unit s.clk.us from rfl, hne,
    Bool.not_false, Bool.and_true]

theorem afterDrain_frame (s : State) : afterDrain s = { s with evr := { s.evr with
    fifo := (afterDrain s).evr.fifo, overflow := (afterDrain s).evr.overflow
    overflowDue := (afterDrain s).evr.overflowDue } } := by
  unfold afterDrain
  dsimp only
  split
  · rfl
  · split <;> rfl

/-! ## Tiers 1 and 2 (R380, R381) -/

/-- A record is in tier 1 already, or is put between the newer and the older. -/
theorem insertLog_cases (x : Record) (l : List Record) :
    (∃ y ∈ l, y.seq = x.seq) ∧ insertLog x l = l ∨ ∃ newer older, l = newer ++ older ∧
      insertLog x l = keepLog (newer ++ x :: older) ∧ ∀ y ∈ newer, atOrAfter y.seq x.seq = true := by
  unfold insertLog
  split
  next h =>
    obtain ⟨y, hy, hseq⟩ := List.any_eq_true.mp h
    exact .inl ⟨⟨y, hy, beq_iff_eq.mp hseq⟩, rfl⟩
  next =>
    obtain ⟨older, hl⟩ := List.takeWhile_prefix (l := l) fun y => atOrAfter y.seq x.seq
    refine .inr ⟨_, older, hl.symm, ?_, fun y hy => List.mem_takeWhile_imp (p := fun y : Record => atOrAfter y.seq x.seq) hy⟩
    dsimp only
    have hdrop : l.drop (l.takeWhile fun y => atOrAfter y.seq x.seq).length = older := by
      generalize (l.takeWhile fun y => atOrAfter y.seq x.seq) = newer at hl
      rw [← hl, List.drop_left]
    rw [hdrop]

theorem mem_keepLog {x : Record} {l : List Record} (h : x ∈ keepLog l) : x ∈ l := by
  unfold keepLog at h
  split at h
  · exact List.mem_of_mem_take h
  · exact h

theorem mem_of_mem_insertLog {x y : Record} {l : List Record} (h : y ∈ insertLog x l) : y ∈ l ∨ y = x := by
  obtain ⟨-, heq⟩ | ⟨newer, older, rfl, heq, -⟩ := insertLog_cases x l
  · exact .inl (heq ▸ h)
  · have hy := mem_keepLog (heq ▸ h)
    simp only [List.mem_append, List.mem_cons] at hy ⊢
    tauto

/-- With room in tier 1 nothing is erased. -/
theorem insertLog_room (x : Record) {l : List Record} (h : l.length < 131072) :
    (∀ y ∈ l, y ∈ insertLog x l) ∧ (∃ y ∈ insertLog x l, y.seq = x.seq) ∧ (insertLog x l).length ≤ l.length + 1 := by
  obtain ⟨hx, heq⟩ | ⟨newer, older, rfl, heq, -⟩ := insertLog_cases x l
  · rw [heq]
    exact ⟨fun _ hy => hy, hx, Nat.le_succ _⟩
  · have hlen : (newer ++ x :: older).length = (newer ++ older).length + 1 := by simp [Nat.add_assoc]
    have hkept : insertLog x (newer ++ older) = newer ++ x :: older := heq.trans (if_neg (by omega))
    rw [hkept]
    refine ⟨fun y hy => ?_, ⟨x, by simp, rfl⟩, hlen.le⟩
    simp only [List.mem_append, List.mem_cons] at hy ⊢
    tauto

/-- What tier 1 holds after records are put into it one by one. -/
theorem foldl_insertLog (due : List Record) {l : List Record} (h : l.length + due.length ≤ 131072) :
    let t := due.foldl (fun l x => insertLog x l) l
    (∀ y ∈ l, y ∈ t) ∧ (∀ y ∈ t, y ∈ l ∨ y ∈ due) ∧ ∀ x ∈ due, ∃ y ∈ t, y.seq = x.seq := by
  induction due generalizing l with
  | nil => exact ⟨fun _ hy => hy, fun _ hy => .inl hy, fun x hx => absurd hx List.not_mem_nil⟩
  | cons x due ih =>
    rw [List.length_cons] at h
    obtain ⟨hkept, ⟨z, hz, hseq⟩, hlen⟩ := insertLog_room x (l := l) (by omega)
    obtain ⟨hold, hfrom, hnew⟩ := ih (l := insertLog x l) (by omega)
    refine ⟨fun y hy => hold y (hkept y hy), fun y hy => ?_, fun y hy => ?_⟩
    · obtain hy | hy := hfrom y hy
      · obtain hy | rfl := mem_of_mem_insertLog hy
        · exact .inl hy
        · exact .inr List.mem_cons_self
      · exact .inr (List.mem_cons_of_mem _ hy)
    · obtain rfl | hy := List.mem_cons.mp hy
      · exact ⟨z, hold z hz, hseq⟩
      · exact hnew y hy

theorem atOrAfter_self (a : Word32) : atOrAfter a a = true := by
  rw [atOrAfter, BitVec.sub_self]
  rfl

/-- Tier 1 holds a record at or after one that was put into it, even where the oldest are erased. -/
theorem insertLog_reaches (x : Record) (l : List Record) : ∃ y ∈ insertLog x l, atOrAfter y.seq x.seq = true := by
  obtain ⟨⟨y, hy, hseq⟩, heq⟩ | ⟨newer, older, rfl, heq, hnewer⟩ := insertLog_cases x l
  · exact ⟨y, heq.symm ▸ hy, hseq ▸ atOrAfter_self _⟩
  · have hhead : ∀ (z : Record) (k : List Record), z ∈ keepLog (z :: k) := fun z k => by
      unfold keepLog
      split
      · exact List.mem_cons_self
      · exact List.mem_cons_self
    rw [heq]
    cases newer with
    | nil => exact ⟨x, hhead x older, atOrAfter_self _⟩
    | cons y newer => exact ⟨y, hhead y _, hnewer y List.mem_cons_self⟩

theorem take_append_take {α : Type} (a l : List α) (n : Nat) : (a ++ l.take n).take n = (a ++ l).take n := by
  rw [List.take_append, List.take_append, List.take_take, Nat.min_eq_left (Nat.sub_le _ _)]

theorem foldl_insertHistory {page : List Record} (hp : page ≠ []) (l : List Record) :
    page.foldl (fun l x => insertHistory x l) l = (page.reverse ++ l).take 33554432 := by
  induction page generalizing l with
  | nil => exact absurd rfl hp
  | cons x page ih =>
    rw [List.foldl_cons]
    by_cases hne : page = []
    · subst hne
      rfl
    · rw [ih hne, insertHistory, List.reverse_cons, List.append_assoc, List.singleton_append]
      exact take_append_take _ (x :: l) _

/-! ## Copies (R380, R381) -/

/-- Records of tier 0 from a number on and of at least a severity, oldest first. -/
def dueFrom (first : Word32) (severity : Nat) (s : State) : List Record :=
  (tier0 s).reverse.filter fun x => atOrAfter x.seq first && decide (severity ≤ x.event.severity)

theorem mem_dueFrom {first : Word32} {severity : Nat} {x : Record} : x ∈ dueFrom first severity s ↔
    x ∈ tier0 s ∧ atOrAfter x.seq first = true ∧ severity ≤ x.event.severity := by
  simp [dueFrom]

theorem exec_eventLogCopy (h : serving s = true) : exec .eventLogCopy s = .next { s with evr := { s.evr with
    log := (dueFrom s.evr.copied 2 s).foldl (fun l x => insertLog x l) s.evr.log, copied := s.evr.next } } :=
  congrArg Host.Outcome.next (if_neg (by rw [h]; decide))

theorem exec_eventCopies_resting (h : serving s = false) :
    exec .eventLogCopy s = .next s ∧ exec .eventHistoryPage s = .next s :=
  ⟨congrArg Host.Outcome.next (if_pos h), congrArg Host.Outcome.next (if_pos (.inl h))⟩

theorem exec_eventHistoryPage_nothing (h : s.life.captureReady = false ∨ dueFrom s.evr.paged 1 s = []) :
    exec .eventHistoryPage s = .next s := by
  show execEventHistoryPage s = _
  unfold execEventHistoryPage
  split
  next => rfl
  next hready =>
    obtain hno | hnone := h
    · exact absurd (.inr hno) hready
    · dsimp only
      rw [show (tier0 s).reverse.filter _ = [] from hnone]
      rfl

/-- The newest record of tier 1 is at or after `x`. -/
def reaches (x : Record) (l : List Record) : Bool :=
  match l.head? with
  | some y => atOrAfter y.seq x.seq
  | none => false

theorem exec_eventHistoryPage {x : Record} (hs : serving s = true) (hr : s.life.captureReady = true)
    (hx : ((dueFrom s.evr.paged 1 s).take 512).getLast? = some x) :
    exec .eventHistoryPage s = .next { s with evr := { s.evr with
      log := if reaches x s.evr.log then s.evr.log else insertLog x s.evr.log
      history := (((dueFrom s.evr.paged 1 s).take 512).reverse ++ s.evr.history).take 33554432
      paged := if (dueFrom s.evr.paged 1 s).length ≤ 512 then s.evr.next else x.seq + 1 } } := by
  have hpage : ((dueFrom s.evr.paged 1 s).take 512).length = (dueFrom s.evr.paged 1 s).length ↔
      (dueFrom s.evr.paged 1 s).length ≤ 512 := by
    rw [List.length_take]
    omega
  have hne : (dueFrom s.evr.paged 1 s).take 512 ≠ [] := fun h => by simp [h] at hx
  show execEventHistoryPage s = _
  unfold execEventHistoryPage
  rw [if_neg (by rw [hs, hr]; decide)]
  dsimp only
  rw [show (tier0 s).reverse.filter (fun x => atOrAfter x.seq s.evr.paged && decide (1 ≤ x.event.severity)) =
    dueFrom s.evr.paged 1 s from rfl, hx]
  dsimp only
  rw [foldl_insertHistory hne]
  simp only [hpage]
  rfl

/-- Tier 1 holds a record at or after the newest of a page (R381). -/
theorem pagedLog_reaches (x : Record) (l : List Record) : ∃ y ∈ (if reaches x l then l else insertLog x l),
    atOrAfter y.seq x.seq = true := by
  cases l with
  | nil => exact insertLog_reaches x []
  | cons z l =>
    by_cases hz : reaches x (z :: l) = true
    · rw [if_pos hz]
      exact ⟨z, List.mem_cons_self, hz⟩
    · rw [if_neg hz]
      exact insertLog_reaches x _

/-! ## Commands (R137, R382, R384) -/

theorem exec_eventRead (hw : waitsFor s m 0x0080 = true)
    (hs : serving s = true ∨ s.life.phase = .recovery ∧ (m : Nat) = 0) {found : List Record} {next : Word32}
    (hread : readTier s (BitVec.ofNat 32 (reqField s m 8 4)) (reqField s m 12 1) (reqField s m 13 1) (reqField s m 14 1) =
      (found, next)) : exec (.eventRead m) s = .next (respond m stOk
        (leBytes 1 found.length ++ [0, 0, 0] ++ leBytes 4 next.toNat ++ found.flatMap recordBytes32) s) := by
  have hserves : ((serving s || recoveryServing s m) && waitsFor s m 0x0080) = true := by
    obtain hs | ⟨hp, hm⟩ := hs
    · rw [hs, hw]
      rfl
    · rw [hw, Bool.and_true, recoveryServing, hp, hm]
      exact Bool.or_true _
  refine congrArg Host.Outcome.next ((if_pos hserves).trans ?_)
  rw [hread]
  simp only [packBytes, List.append_nil, List.append_assoc]
  rfl

/-- What EVENT_READ finds, and the number it gives to ask for next (R382). -/
theorem readTier_spec (first : Word32) (count severity tier : Nat) :
    let held := tierRecords s tier
    let found := (held.reverse.filter fun x => atOrAfter x.seq first && decide (severity ≤ x.event.severity)).take count
    ∃ next : Word32, readTier s first count severity tier = (found, next) ∧
      (∀ x, found.getLast? = some x → found.length = count → next = x.seq + 1) ∧
      (found.length < count → tier = 0 → next = s.evr.next) ∧
      (∀ x, found.length < count → tier ≠ 0 → held.head? = some x → next = x.seq + 1) := by
  intro held found
  have hrest : ∀ x, tier ≠ 0 → held.head? = some x →
      (if tier = 0 then s.evr.next else tierNext held first) = x.seq + 1 := fun x ht hx => by
    rw [if_neg ht, tierNext, hx]
  show ∃ next : Word32, (match found.getLast? with
    | some x => if found.length = count then (found, x.seq + 1)
        else (found, if tier = 0 then s.evr.next else tierNext held first)
    | none => (found, if tier = 0 then s.evr.next else tierNext held first)) = (found, next) ∧ _
  cases hlast : found.getLast? with
  | none =>
    exact ⟨_, rfl, fun x hx => absurd hx (by simp), fun _ ht => if_pos ht, fun x _ ht hx => hrest x ht hx⟩
  | some z =>
    by_cases hfull : found.length = count
    · refine ⟨z.seq + 1, if_pos hfull, fun x hx _ => ?_, fun hlt => absurd hfull hlt.ne, fun x hlt => absurd hfull hlt.ne⟩
      cases hx
      rfl
    · exact ⟨_, if_neg hfull, fun x _ hc => absurd hc hfull, fun _ ht => if_pos ht, fun x _ ht hx => hrest x ht hx⟩

theorem exec_eventRateSet (h : Asked m 0x0081 s) : exec (.eventRateSet m) s = .next (respond m stOk [] { s with
    evr := if BitVec.ofNat 16 (reqField s m 8 2) = 0xFFFF then { s.evr with buckets := s.evr.buckets.map (rebucket 16 64) }
      else setBucket s.evr (rebucket (reqField s m 10 2) (reqField s m 12 2)
        (bucketOf s.evr (BitVec.ofNat 16 (reqField s m 8 2)))) }) :=
  congrArg Host.Outcome.next (serve_asked h _)

theorem bucketOf_default (r : Recorder) (c : BitVec 16) :
    bucketOf { r with buckets := r.buckets.map (rebucket 16 64) } c = rebucket 16 64 (bucketOf r c) := by
  rw [bucketOf_rebucket]
  unfold bucketOf
  cases r.buckets.find? fun b => b.code == c
  · rfl
  · rfl

/-- The mean erase count, rounded down. -/
def meanCount (counts : List Nat) : Nat := if counts.isEmpty then 0 else counts.sum / counts.length

theorem meanCount_spec (counts : List Nat) : meanCount counts * counts.length ≤ counts.sum ∧
    (counts ≠ [] → counts.sum < (meanCount counts + 1) * counts.length) := by
  unfold meanCount
  cases counts with
  | nil => exact ⟨le_refl _, fun h => absurd rfl h⟩
  | cons n counts => exact ⟨Nat.div_mul_le_self _ _, fun _ => Nat.lt_mul_of_div_lt (Nat.lt_succ_self _) (Nat.succ_pos _)⟩

theorem extremes_spec (counts : List Nat) : (∀ c ∈ counts, counts.min?.getD 0 ≤ c ∧ c ≤ counts.max?.getD 0) ∧
    (counts ≠ [] → counts.min?.getD 0 ∈ counts ∧ counts.max?.getD 0 ∈ counts) := by
  cases hmin : counts.min? with
  | none =>
    rw [List.min?_eq_none_iff] at hmin
    subst hmin
    exact ⟨fun c hc => absurd hc List.not_mem_nil, fun h => absurd rfl h⟩
  | some low =>
    cases hmax : counts.max? with
    | none =>
      rw [List.max?_eq_none_iff] at hmax
      subst hmax
      exact ⟨fun c hc => absurd hc List.not_mem_nil, fun h => absurd rfl h⟩
    | some high =>
      obtain ⟨hlow, hle⟩ := List.min?_eq_some_iff.mp hmin
      obtain ⟨hhigh, hge⟩ := List.max?_eq_some_iff.mp hmax
      exact ⟨fun c hc => ⟨hle c hc, hge c hc⟩, fun _ => ⟨hlow, hhigh⟩⟩

theorem exec_statsRead (h : Asked m 0x00C0 s) : let counts := s.map.sbs.map (·.eraseCount)
    exec (.statsRead m) s = .next (respond m stOk (leBytes 8 s.nv.bytesRead ++ leBytes 8 s.nv.bytesWritten ++
      leBytes 8 s.map.captureBytes ++ leBytes 8 s.map.gcBytes ++ leBytes 4 (counts.min?.getD 0) ++
      leBytes 4 (meanCount counts) ++ leBytes 4 (counts.max?.getD 0) ++ leBytes 4 s.life.powerUps ++
      leBytes 4 s.life.uncleanShutdowns ++ s.intg.ladder.flatMap (leBytes 4)) s) := by
  refine congrArg Host.Outcome.next ((serve_asked h _).trans ?_)
  simp only [List.cons_append, List.nil_append, packBytes, packBytes_map 4 fun n => n, List.append_assoc]
  rfl

/-! ## The obligation -/

/-- A record that a poisoned slot cannot take is lost (R379, R384 to R386). -/
theorem drained_lost {e : Event} {rest : List Event} {bank slot : Nat} (hb : ringBank s.evr = bank)
    (hs : slotOf s.evr s.evr.next = slot) (hp : slotPoisoned s bank slot = true) (hfew : poisonedIn s 0x60 ≤ 64)
    (hdue : s.evr.overflowDue = none) :
    let t := afterDrain (recordRing (recordOf e s) (numbered rest s))
    t.evr.ring = s.evr.ring ∧ t.evr.next = s.evr.next + 1 ∧ t.evr.lost = min (s.evr.lost + 1) 65535 ∧
    t.evr.lostTotal = min (s.evr.lostTotal + 1) 0xFFFFFFFF ∧ t.evr.fifo = rest ∧ t.life = s.life ∧
    (bucketOf t.evr e.code).suppressed = min ((bucketOf s.evr e.code).suppressed + e.suppressed) 65535 ∧
    t = { s with evr := t.evr } := by
  have hring : recordRing (recordOf e s) (numbered rest s) = recordLost (recordOf e s) (numbered rest s) :=
    recordRing_lost (s := numbered rest s) (x := recordOf e s) hb hs hp hfew
  have hlife : (recordLost (recordOf e s) (numbered rest s)).life = s.life := by
    show { s.life with bootRecordDue := false || s.life.bootRecordDue } = s.life
    rw [Bool.false_or]
  have hlost : (recordLost (recordOf e s) (numbered rest s)).evr.lost = min (s.evr.lost + 1) 65535 := by
    show min (0 + s.evr.lost + 1) 65535 = _
    rw [Nat.zero_add]
  have hbucket : bucketOf (recordLost (recordOf e s) (numbered rest s)).evr e.code = { bucketOf s.evr e.code with
      suppressed := min ((bucketOf s.evr e.code).suppressed + e.suppressed) 65535 } :=
    (bucketOf_changed s.evr (b := { bucketOf s.evr e.code with
      suppressed := min ((bucketOf s.evr e.code).suppressed + e.suppressed) 65535 }) (bucketOf_code _ _)).2
  rw [hring, afterDrain_quiet (by exact hdue)]
  exact ⟨rfl, rfl, hlost, rfl, rfl, hlife, congrArg Bucket.suppressed hbucket,
    congrArg (fun l : Life => ({ s with life := l, evr := _ } : State)) hlife⟩

/-- What a drained record that finds its slot leaves (R379, R385). -/
theorem drained_written {e : Event} {rest : List Event} {bank slot : Nat} (hb : ringBank s.evr = bank) (hs : slotOf s.evr s.evr.next = slot) (ha : armed s bank = false)
    (hn : findBlock s bank (slot / 2) = none) :
    let t := afterDrain (recordRing (recordOf e s) (numbered rest s))
    t.evr.ring = (recordOf e s :: s.evr.ring).take 32768 ∧
    (s.evr.overflowDue = none → t.evr.fifo = rest ∧ t.evr.overflow = (s.evr.overflow && !rest.isEmpty)) ∧
    (∀ code unit, s.evr.overflowDue = some (code, unit) → rest.length < 64 → t.evr.overflow = s.evr.overflow ∧
      t.evr.overflowDue = none ∧ t.evr.fifo = rest ++ [overflowEvent code unit s.clk.us]) ∧
    t = { s with
      evr := { s.evr with
        ring := t.evr.ring, next := s.evr.next + 1, lost := 0, fifo := t.evr.fifo, overflow := t.evr.overflow
        overflowDue := t.evr.overflowDue }
      life := { s.life with bootRecordDue := false } } := by
  have hring : recordRing (recordOf e s) (numbered rest s) = _ :=
    recordRing_written (s := numbered rest s) (x := recordOf e s) hb hs ha hn
  rw [hring]
  dsimp only
  refine ⟨?_, fun hdue => ?_, fun code unit hdue hroom => ?_, ?_⟩
  · rw [afterDrain_frame]
    rfl
  · rw [afterDrain_quiet (by exact hdue)]
    exact ⟨rfl, rfl⟩
  · rw [afterDrain_room (by exact hdue) (by exact hroom)]
    exact ⟨rfl, rfl, rfl⟩
  · have hframe := afterDrain_frame { numbered rest s with evr := { (numbered rest s).evr with
      ring := (recordOf e s :: (numbered rest s).evr.ring).take 32768 } }
    generalize afterDrain _ = t at hframe ⊢
    rw [show t.evr.ring = (recordOf e s :: s.evr.ring).take 32768 by rw [hframe]; rfl]
    exact hframe

/-- Settles O55: intake, refill and drain, the copies to tiers 1 and 2, and the commands. -/
theorem eventRecorder : Obligations.EventRecorder := by
  unfold Obligations.EventRecorder
  constructor
  · intro s sat16
    refine ⟨fun code unit data => ?_, fun code => ?_, ?_, exec_eventCopies_resting, fun hs hroom => ?_, ?_⟩
    · intro b t held
      have hb : ∀ tokens suppressed, ({ b with tokens, suppressed } : Bucket).code = code := fun _ _ =>
        bucketOf_code s.evr code
      have hlogged := logEvent_eq code unit data s
      refine ⟨fun c hc => bucketOf_intake_other s.evr (eventOf code unit data s) hc, fun hheld => ?_, fun hheld hroom => ?_,
        fun hheld hfull => ?_, fun p k hp => ⟨_, faultPins_get _ hp, rfl⟩⟩
      · rw [intake_withheld (e := eventOf code unit data s) hheld] at hlogged
        rw [show t = _ from hlogged]
        exact ⟨(bucketOf_changed s.evr (hb _ _)).2, rfl⟩
      · rw [intake_room (e := eventOf code unit data s) hheld hroom] at hlogged
        rw [show t = _ from hlogged]
        exact ⟨(bucketOf_changed s.evr (hb _ _)).2, rfl⟩
      · rw [intake_full (e := eventOf code unit data s) hheld hfull] at hlogged
        rw [show t = _ from hlogged]
        exact ⟨(bucketOf_changed s.evr (hb _ _)).2, rfl⟩
    · intro b
      have hb : b.code = code := bucketOf_code s.evr code
      by_cases hrate : b.rate = 0
      · refine ⟨s, congrArg Host.Outcome.next (if_pos hrate), fun _ _ => rfl, ?_, rfl⟩
        rw [if_pos hrate]
      · have hchanged := bucketOf_changed s.evr (b := { b with tokens := min b.burst (b.tokens + 1) }) hb
        refine ⟨_, congrArg Host.Outcome.next (if_neg hrate), hchanged.1, ?_, rfl⟩
        rw [if_neg hrate]
        exact hchanged.2
    · intro runs
      refine ⟨fun hidle => exec_eventFifoDrain_idle (hidle.imp_left fun hn => ?_), fun e rest hruns hf hm => ?_⟩
      · exact Bool.eq_false_iff.mpr fun hc => hn (recorderRuns_iff.mp hc)
      · intro reserve bank slot x
        have hexec := exec_eventFifoDrain (recorderRuns_iff.mpr hruns) hf hm
        refine ⟨fun ha hn => ⟨_, hexec, drained_written rfl rfl ha hn⟩, fun hp hfew hdue => ⟨_, hexec, drained_lost rfl rfl hp hfew hdue⟩⟩
    · refine ⟨_, exec_eventLogCopy hs, rfl, ?_⟩
      have hlen : s.evr.log.length + (dueFrom s.evr.copied 2 s).length ≤ 131072 := by
        have hdue := List.length_filter_le (fun x => atOrAfter x.seq s.evr.copied && decide (2 ≤ x.event.severity))
          (tier0 s).reverse
        rw [List.length_reverse] at hdue
        exact (Nat.add_le_add_left hdue _).trans hroom
      obtain ⟨hold, hfrom, hnew⟩ := foldl_insertLog (dueFrom s.evr.copied 2 s) hlen
      refine ⟨hold, fun x hx => (hfrom x hx).imp_right mem_dueFrom.mp, fun x hx hat hsev => ?_, rfl⟩
      exact hnew x (mem_dueFrom.mpr ⟨hx, hat, hsev⟩)
    · intro due hs
      refine ⟨exec_eventHistoryPage_nothing, fun x hready hx => ⟨_, exec_eventHistoryPage hs hready hx, rfl, ?_, rfl, rfl⟩⟩
      exact pagedLog_reaches x s.evr.log
  · intro s m p
    refine ⟨fun hw hs hb => ?_, fun h => ?_, fun h => ?_⟩
    · intro held found
      obtain ⟨next, hread, hlast, hnewest, htier⟩ := readTier_spec (s := s) (BitVec.ofNat 32 (p 8 4)) (p 12 1) (p 13 1) (p 14 1)
      refine ⟨_, next.toNat, exec_eventRead hw hs hread, respond_replied m m.isLt _ _ s hb (.inl rfl), fun x hx hc => ?_,
        fun hlt h0 => ?_, fun x hlt hne hh => ?_⟩
      · rw [hlast x hx hc]
      · rw [hnewest hlt h0]
      · rw [htier x hlt hne hh]
    · intro code
      have hexec := exec_eventRateSet h
      have hevr (u : State) : (respond m stOk [] u).evr = u.evr := (respond_keep _ _ _ u).evr rfl
      have hsee (u : State) (c : BitVec 16) : bucketOf (respond m stOk [] u).evr c = bucketOf u.evr c :=
        bucketOf_congr (congrArg Recorder.buckets (hevr u)) c
      refine ⟨fun hne => ?_, fun heq => ?_⟩
      · rw [if_neg hne] at hexec
        obtain ⟨hother, hsame⟩ := bucketOf_changed s.evr (code := code)
          (b := rebucket (p 10 2) (p 12 2) (bucketOf s.evr code)) (bucketOf_code s.evr code)
        exact ⟨_, _, hexec, respond_refused m m.isLt _ { s with evr := _ } h.boxes, fun c hc =>
          (hsee _ c).trans (hother c hc), (hsee _ code).trans hsame, by rw [hevr]; rfl⟩
      · rw [if_pos heq] at hexec
        exact ⟨_, _, hexec, respond_refused m m.isLt _ { s with evr := _ } h.boxes, fun c =>
          (hsee _ c).trans (bucketOf_default s.evr c), by rw [hevr]⟩
    · intro counts
      obtain ⟨hbounds, hmem⟩ := extremes_spec counts
      obtain ⟨hmean, hnext⟩ := meanCount_spec counts
      exact ⟨_, counts.min?.getD 0, meanCount counts, counts.max?.getD 0, exec_statsRead h,
        respond_replied m m.isLt _ _ s h.boxes (.inl rfl), hbounds, hmem, hmean, hnext⟩

end Sys2Proof.Proofs
end

section
/-! Proofs about staging and activating firmware images (O58). -/

namespace Sys2Proof.Proofs

open Sys2Proof Sys2Proof.Machine Sys2Proof.Safety Sys2Proof.Laws

variable {s : State} {m : Fin 16}

/-! ## Requests the boot firmware serves too (R349) -/

/-- The mailbox's request is served: in service, or by mailbox 0 in the recovery state. -/
def servedHere (m : Fin 16) (s : State) : Prop := serving s = true ∨ (s.life.phase = .recovery ∧ (m : Nat) = 0)

theorem bootServe_asked {op : BitVec 16} (hw : waitsFor s m op = true) (hs : servedHere m s) (body : State → State) :
    bootServe m op body s = body s := by
  have hserves : (serving s || recoveryServing s m) = true := by
    obtain hs | ⟨hp, hm⟩ := hs
    · rw [hs]
      rfl
    · rw [recoveryServing, hp, hm]
      exact Bool.or_true _
  exact if_pos (by rw [hserves, hw]; rfl)

/-! ## FW_STAGE (R400, R401) -/

theorem exec_fwStage {k : Nat} (hw : waitsFor s m 0x00A0 = true) (hs : servedHere m s) (hk : k = reqField s m 8 1) :
    exec (.fwStage m) s = .next (if k = s.nor.slot then respond m stWrongState [] s
      else accept m 0x00A0 (imageLive s) k (reqField s m 20 4) false (beginStage k) s) :=
  hk ▸ congrArg Host.Outcome.next (bootServe_asked hw hs _)

/-! ## Sectors of Nutmeg (R306, R309) -/

/-- From `s` to `t` only operations, flag rows and write-protect bits of Nutmeg have changed, and none was cleared. -/
structure SectorsOnly (s t : State) : Prop where
  same : t = { s with nor := { s.nor with
    opA := t.nor.opA, opB := t.nor.opB, lastOp := t.nor.lastOp, writable := t.nor.writable, flags := t.nor.flags
    unfinished := t.nor.unfinished } }
  writable : ∀ n ∈ t.nor.writable, n ∈ s.nor.writable

theorem SectorsOnly.refl (s : State) : SectorsOnly s s := ⟨rfl, fun _ h => h⟩

theorem SectorsOnly.trans {t u : State} (h : SectorsOnly s t) (k : SectorsOnly t u) : SectorsOnly s u :=
  ⟨k.same.trans (congrArg (fun v : State => { v with nor := { v.nor with
    opA := u.nor.opA, opB := u.nor.opB, lastOp := u.nor.lastOp, writable := u.nor.writable, flags := u.nor.flags
    unfinished := u.nor.unfinished } }) h.same), fun n hn => h.writable n (k.writable n hn)⟩

theorem SectorsOnly.form {t : State} (h : SectorsOnly s t) : ∃ opA opB lastOp writable flags unfinished,
    t = { s with nor := { s.nor with
      opA := opA, opB := opB, lastOp := lastOp, writable := writable, flags := flags, unfinished := unfinished } } :=
  ⟨_, _, _, _, _, _, h.same⟩

theorem protect_only (sectors : List Nat) (s : State) : SectorsOnly s (protect sectors true s) :=
  ⟨rfl, fun _ hn => (List.mem_filter.mp hn).1⟩

theorem not_mem_protect {sectors : List Nat} {n : Nat} (h : n ∈ sectors) (s : State) :
    n ∉ (protect sectors true s).nor.writable := fun hn => by
  have hout := (List.mem_filter.mp hn).2
  simp [h] at hout

theorem endErase_only (sectors : List Nat) (b : Bool) (s : State) : SectorsOnly s (endErase sectors b s) := by
  unfold endErase
  split
  next o _ =>
    split
    · obtain ⟨f, hf⟩ : ∃ f, programDone (flagsOf s o.sector) o.pair = f := ⟨_, rfl⟩
      have hflags : SectorsOnly s (putFlags f s) := ⟨rfl, fun _ h => h⟩
      rw [hf]
      refine (hflags.trans (protect_only [o.sector] _)).trans ?_
      cases b <;> exact ⟨rfl, fun _ h => h⟩
    · exact .refl s
  next => exact .refl s

theorem writeSectors_only (sectors : List Nat) (s : State) : SectorsOnly s (writeSectors sectors s) :=
  (((endErase_only sectors false s).trans (endErase_only sectors true _)).trans
    (u := eraseSectors sectors (endErase sectors true (endErase sectors false s))) ⟨rfl, fun _ h => h⟩).trans
    (protect_only sectors _)

/-! ## The first erase (R140, R400, R401) -/

/-- Sector a staging erases first. -/
def firstSector (slot : Nat) : Nat := if slot = 1 then 16 else if slot = 2 then 512 else 8

theorem stageSectors_first {slot : Nat} (h : slot = 1 ∨ slot = 2 ∨ slot = 3) :
    (stageSectors slot).headD 0 = firstSector slot ∧ firstSector slot ∈ stageSectors slot ∧
      inBankB (firstSector slot) = (slot == 2) := by
  obtain rfl | rfl | rfl := h
  · exact ⟨rfl, List.mem_map.mpr ⟨0, by decide, rfl⟩, rfl⟩
  · exact ⟨rfl, List.mem_map.mpr ⟨0, by decide, rfl⟩, rfl⟩
  · exact ⟨rfl, List.mem_map.mpr ⟨0, by decide, rfl⟩, rfl⟩

theorem mem_protect_off {sectors : List Nat} {n : Nat} (h : n ∈ sectors) (hf : isFenced s (sectorUnit n) = false) :
    n ∈ (protect sectors false s).nor.writable :=
  List.mem_append_right _ (List.mem_filter.mpr ⟨h, by rw [hf]; rfl⟩)

theorem bankOp_setBankOp_same (b : Bool) (o : Option NorOp) (s : State) : bankOp (setBankOp b o s) b = o := by
  cases b <;> rfl

theorem bankOp_setBankOp_other (b : Bool) (o : Option NorOp) (s : State) : bankOp (setBankOp b o s) (!b) = bankOp s (!b) := by
  cases b <;> rfl

/-- A bank's continuous read ends with a command to it (R300). -/
def readEnded (b : Bool) (s : State) : State :=
  if s.nor.cont = some b then { s with nor := { s.nor with cont := none } } else s

theorem startErase_begins {n : Nat} (hw : n ∈ s.nor.writable) (hb : bankOp s (inBankB n) = none) :
    startErase n s = setBankOp (inBankB n) (some ⟨.erase, n, false, 0, (programStart (flagsOf s n)).2⟩)
      (readEnded (inBankB n) (putFlags (programStart (flagsOf s n)).1 s)) := by
  have hwritable : ¬s.nor.writable.contains n = false := by
    rw [List.contains_iff_mem.mpr hw]
    decide
  have hidle : ¬(bankOp s (inBankB n)).isSome = true := by rw [hb]; exact Bool.false_ne_true
  unfold startErase readEnded
  rw [if_neg hwritable, if_neg hidle]

/-- A bank's erase begins: START is programmed and the operation stands. -/
def eraseRuns (b : Bool) (n : Nat) (s : State) : State :=
  setBankOp b (some ⟨.erase, n, false, 0, (programStart (flagsOf s n)).2⟩)
    (readEnded b (putFlags (programStart (flagsOf s n)).1 s))

theorem eraseRuns_frame (b : Bool) (n : Nat) (s : State) : eraseRuns b n s = { s with nor := { s.nor with
    opA := (eraseRuns b n s).nor.opA, opB := (eraseRuns b n s).nor.opB, lastOp := (eraseRuns b n s).nor.lastOp
    writable := (eraseRuns b n s).nor.writable, flags := (eraseRuns b n s).nor.flags
    cont := (eraseRuns b n s).nor.cont } } := by
  unfold eraseRuns readEnded
  generalize programStart (flagsOf s n) = started
  split
  · cases b <;> rfl
  · cases b <;> rfl

theorem eraseRuns_writable (b : Bool) (n : Nat) (s : State) : (eraseRuns b n s).nor.writable = s.nor.writable := by
  unfold eraseRuns readEnded
  generalize programStart (flagsOf s n) = started
  split
  · cases b <;> rfl
  · cases b <;> rfl

theorem bankOp_readEnded (b c : Bool) (f : FlagRows) (s : State) : bankOp (readEnded b (putFlags f s)) c = bankOp s c := by
  unfold readEnded
  split
  · cases c <;> rfl
  · cases c <;> rfl

theorem bankOp_eraseRuns (b : Bool) (n : Nat) (s : State) :
    (∃ pair, bankOp (eraseRuns b n s) b = some ⟨.erase, n, false, 0, pair⟩) ∧ bankOp (eraseRuns b n s) (!b) = bankOp s (!b) :=
  ⟨⟨_, bankOp_setBankOp_same b _ _⟩, (bankOp_setBankOp_other b _ _).trans (bankOp_readEnded b (!b) _ s)⟩

/-- A slot's staging as its first erase begins, with `written` bytes in place. -/
def stagingBegun (v : BitVec 32) (slot written : Nat) (s : State) : State :=
  let u := passCancel v (eraseRuns (slot == 2) (firstSector slot) (protect (stageSectors slot) false s))
  { u with sec := { u.sec with staged := written } }

theorem stageGoesOn_past {h : Handle} (hp : h.past = true) (slot written : Nat) (s : State) :
    stageGoesOn h slot written s = { s with sec := { s.sec with staged := written } } := by
  unfold stageGoesOn
  rw [hp]
  rfl

theorem stageGoesOn_first {h : Handle} {slot : Nat} (hslot : slot = 1 ∨ slot = 2 ∨ slot = 3) (hp : h.past = false)
    (hb : bankOp s (slot == 2) = none) (hf : isFenced s (sectorUnit (firstSector slot)) = false) (written : Nat) :
    stageGoesOn h slot written s = stagingBegun h.value slot written s := by
  obtain ⟨hfirst, hmem, hbank⟩ := stageSectors_first hslot
  have hbegins := startErase_begins (s := protect (stageSectors slot) false s) (mem_protect_off hmem hf) (hbank.symm ▸ hb)
  unfold stageGoesOn stagingBegun
  dsimp only
  rw [hp, hfirst, if_neg Bool.false_ne_true, hbegins, hbank]
  rfl

theorem stagingBegun_spec {v : BitVec 32} {slot : Nat} (hslot : slot = 1 ∨ slot = 2 ∨ slot = 3)
    (hf : isFenced s (sectorUnit (firstSector slot)) = false) (written : Nat) : let u := stagingBegun v slot written s
    (∀ x ∈ u.hnd.live, x.value = v → x.past = true) ∧
    (∃ pair, bankOp u (slot == 2) = some ⟨.erase, firstSector slot, false, 0, pair⟩) ∧
    bankOp u (slot != 2) = bankOp s (slot != 2) ∧ firstSector slot ∈ u.nor.writable ∧
    u = { s with
      nor := { s.nor with
        opA := u.nor.opA, opB := u.nor.opB, lastOp := u.nor.lastOp, writable := u.nor.writable, flags := u.nor.flags
        cont := u.nor.cont }
      sec := { s.sec with staged := written }, hnd := u.hnd } := by
  obtain ⟨-, hmem, -⟩ := stageSectors_first hslot
  have hframe := eraseRuns_frame (slot == 2) (firstSector slot) (protect (stageSectors slot) false s)
  obtain ⟨hop, hother⟩ := bankOp_eraseRuns (slot == 2) (firstSector slot) (protect (stageSectors slot) false s)
  have hwritable : firstSector slot ∈
      (eraseRuns (slot == 2) (firstSector slot) (protect (stageSectors slot) false s)).nor.writable := by
    rw [eraseRuns_writable]
    exact mem_protect_off hmem hf
  refine ⟨passCancel_past v _, hop, hother, hwritable, ?_⟩
  exact congrArg (fun w : State => { w with
    sec := { w.sec with staged := written }, hnd := (stagingBegun v slot written s).hnd }) hframe

/-! ## What a staging ends with (R397, R400, R401) -/

/-- The boot stage's image is refused before anything is erased (R401). -/
theorem bootRefused_iff {slot : Nat} {image : FwImage} : bootRefused s slot image = true ↔
    slot = 3 ∧ ((image.type ≠ 1 ∨ 524288 < image.length) ∨ imageFault s image ≠ none) := by
  simp [bootRefused, Option.isSome_iff_ne_none]

/-- Staging is over. -/
def stagingOff (s : State) : State := { s with sec := { s.sec with staging := none, staged := 0 } }

theorem exec_fwStageDone_idle {image : FwImage} {written : Nat} (h : s.sec.staging = none ∨ liveOp s 0x00A0 = none ∨
    ¬(serving s = true ∨ s.life.phase = .recovery)) : exec (.fwStageDone image written) s = .next s := by
  show execFwStageDone image written s = _
  unfold execFwStageDone
  split
  next k v hk hv =>
    have hworks : ¬(serving s || s.life.phase == .recovery) = true := by
      obtain hno | hno | hno := h
      · rw [hno] at hk
        exact absurd hk (by simp)
      · rw [hno] at hv
        exact absurd hv (by simp)
      · simpa using hno
    rw [if_neg hworks]
  next => rfl

theorem exec_fwStageDone {slot : Nat} {h : Handle} (hs : s.sec.staging = some slot) (hl : liveOp s 0x00A0 = some h)
    (hw : serving s = true ∨ s.life.phase = .recovery) (image : FwImage) (written : Nat) :
    exec (.fwStageDone image written) s = .next (
      if written < image.length ∧ bootRefused s slot image = false then stageGoesOn h slot written s
      else if slot = 3 then stageBoot h.value image (stagingOff s) else stageSlot slot h.value image (stagingOff s)) := by
  show execFwStageDone image written s = _
  unfold execFwStageDone
  rw [hs, hl]
  dsimp only
  rw [if_pos (show (serving s || s.life.phase == .recovery) = true by simpa using hw)]
  rfl

theorem not_mem_writeSectors {sectors : List Nat} {n : Nat} (h : n ∈ sectors) (s : State) :
    n ∉ (writeSectors sectors s).nor.writable := not_mem_protect h _

theorem writeBoot_spec (image : FwImage) (s : State) : let u := writeBoot image s
    u.nor.boot0 = some image ∧ u.nor.boot1 = some image ∧ u.nor.boot0Valid = true ∧ u.nor.boot1Valid = true ∧
    (∀ n < 16, n ∉ u.nor.writable) ∧ u = { s with nor := { u.nor with
      config0 := s.nor.config0, config1 := s.nor.config1, otp := s.nor.otp, slot := s.nor.slot, slotA := s.nor.slotA
      slotB := s.nor.slotB, slotAValid := s.nor.slotAValid, slotBValid := s.nor.slotBValid } } := by
  obtain ⟨a, ha⟩ : ∃ a, a = writeSectors ((List.range 8).map (· + 8)) s := ⟨_, rfl⟩
  obtain ⟨c, hc⟩ : ∃ c, c = writeSectors (List.range 8) { a with nor := { a.nor with
    boot1 := some image, boot1Valid := true } } := ⟨_, rfl⟩
  have hboot : writeBoot image s = { c with nor := { c.nor with boot0 := some image, boot0Valid := true } } := by
    rw [hc, ha]
    rfl
  have hfirst : ∀ n < 8, n ∉ c.nor.writable := fun n hn => hc ▸ not_mem_writeSectors (List.mem_range.mpr hn) _
  have hsecond : ∀ n, 8 ≤ n → n < 16 → n ∉ a.nor.writable := fun n hlow hn =>
    ha ▸ not_mem_writeSectors (List.mem_map.mpr ⟨n - 8, List.mem_range.mpr (by omega), by omega⟩) _
  have honlyA : SectorsOnly s a := ha ▸ writeSectors_only _ s
  have honlyC : SectorsOnly { a with nor := { a.nor with boot1 := some image, boot1Valid := true } } c :=
    hc ▸ writeSectors_only _ _
  have hnor := congrArg State.nor honlyC.same
  rw [hboot]
  refine ⟨rfl, congrArg Nor.boot1 hnor, rfl, congrArg Nor.boot1Valid hnor, fun n hn hmem => ?_, ?_⟩
  · by_cases hlow : n < 8
    · exact hfirst n hlow hmem
    · exact hsecond n (Nat.not_lt.mp hlow) hn (honlyC.writable n hmem)
  · obtain ⟨_, _, _, _, _, _, hformC⟩ := honlyC.form
    obtain ⟨_, _, _, _, _, _, hformA⟩ := honlyA.form
    rw [hformC, hformA]

theorem stageBoot_refused {image : FwImage} (h : image.type ≠ 1 ∨ 524288 < image.length) (v : BitVec 32) (s : State) :
    stageBoot v image s = completeHandle v stBadParam 0 s := if_pos h

theorem stageBoot_unverified {image : FwImage} (h : ¬(image.type ≠ 1 ∨ 524288 < image.length)) {cause : Nat}
    (hf : imageFault s image = some cause) (v : BitVec 32) :
    stageBoot v image s = completeHandle v stAuthFailed 0 (authFail 0 cause 3 image.version s) := by
  unfold stageBoot
  rw [if_neg h, hf]

theorem stageBoot_written {image : FwImage} (h : ¬(image.type ≠ 1 ∨ 524288 < image.length))
    (hf : imageFault s image = none) (v : BitVec 32) :
    stageBoot v image s = completeHandle v stOk (ringData [(4, image.version)]) (writeBoot image s) := by
  unfold stageBoot
  rw [if_neg h, hf]

/-! ## A firmware slot is written (R400) -/

theorem imageFault_congr {t : State} (h : t.nor.otp = s.nor.otp) (image : FwImage) : imageFault t image = imageFault s image := by
  have hkey (signer : Nat) : nebocyHash t signer = nebocyHash s signer := by
    unfold nebocyHash
    rw [h]
  have hneeded : integratorNeeded t = integratorNeeded s := by rw [integratorNeeded, integratorNeeded, h]
  have hburnt : rollbackCount t = rollbackCount s := by rw [rollbackCount, rollbackCount, h]
  rw [imageFault, imageFault, hkey, hneeded, hburnt, h]

theorem stagedFault_congr {t : State} (h : t.nor.otp = s.nor.otp) (image : FwImage) :
    stagedFault t image = stagedFault s image := by
  rw [stagedFault, stagedFault, imageFault_congr h]

theorem stagedFault_type {image : FwImage} (h : image.type = 1) : stagedFault s image = some 0 := if_pos h

theorem stagedFault_image {image : FwImage} (h : image.type ≠ 1) : stagedFault s image = imageFault s image := if_neg h

/-- The sectors of a slot are written and protected again. -/
def slotSectorsWritten (k : Nat) (image : FwImage) (s : State) : State :=
  writeSectors (imageSectors k image) (protect (slotSectors k) true s)

theorem slotSectorsWritten_only (k : Nat) (image : FwImage) (s : State) : SectorsOnly s (slotSectorsWritten k image s) :=
  (protect_only _ s).trans (writeSectors_only _ _)

theorem not_mem_slotSectorsWritten {k n : Nat} (h : n ∈ slotSectors k) (image : FwImage) (s : State) :
    n ∉ (slotSectorsWritten k image s).nor.writable := fun hn =>
  not_mem_protect h s ((writeSectors_only (imageSectors k image) (protect (slotSectors k) true s)).writable n hn)

theorem mem_slotSectors {k n : Nat} (hk : k = 1 ∨ k = 2) (hlow : (if k = 1 then 16 else 512) ≤ n)
    (hhigh : n < if k = 1 then 448 else 944) : n ∈ slotSectors k := by
  obtain rfl | rfl := hk
  · exact List.mem_map.mpr ⟨n - 16, List.mem_range.mpr (by simp at hhigh; omega), by simp at hlow; omega⟩
  · exact List.mem_map.mpr ⟨n - 512, List.mem_range.mpr (by simp at hhigh; omega), by simp at hlow; omega⟩

/-- The state that staging a slot leaves, given what its verification finds. -/
def slotStaged (k : Nat) (image : FwImage) (s : State) : Option Nat → State
  | none => putSlot k (some image) true (putSlot k (some image) false (slotSectorsWritten k image s))
  | some cause => authFail 5 cause k image.version (putSlot k (some image) false (slotSectorsWritten k image s))

theorem stageSlot_eq (k : Nat) (v : BitVec 32) (image : FwImage) (s : State) : stageSlot k v image s =
    completeHandle v (if (stagedFault s image).isSome then stAuthFailed else stOk)
      (if (stagedFault s image).isSome then 0 else ringData [(4, image.version)])
      (slotStaged k image s (stagedFault s image)) := by
  have hfault : stagedFault (putSlot k (some image) false (slotSectorsWritten k image s)) image = stagedFault s image := by
    refine stagedFault_congr ?_ image
    obtain ⟨_, _, _, _, _, _, hform⟩ := (slotSectorsWritten_only k image s).form
    rw [hform]
    unfold putSlot
    split <;> rfl
  unfold stageSlot writeSlot
  dsimp only
  rw [show stagedFault (putSlot k (some image) false (writeSectors (imageSectors k image) _)) image = _ from hfault]
  cases stagedFault s image
  · rfl
  · rfl

theorem slotStaged_spec {k : Nat} (hk : k = 1 ∨ k = 2) (image : FwImage) (s : State) (fault : Option Nat) :
    let u := slotStaged k image s fault
    slotImage u k = some image ∧ (∀ n ∈ slotSectors k, n ∉ u.nor.writable) ∧
    slotImage u (3 - k) = slotImage s (3 - k) ∧ slotValid u (3 - k) = slotValid s (3 - k) ∧
    u = { s with nor := u.nor, evr := u.evr, pins := u.pins } ∧ slotValid u k = fault.isNone ∧
    (fault = none → u.evr = s.evr) ∧
    ∀ cause, fault = some cause → Logged [(0x0C03, blockUnit 0x24,
      evData [(1, 5), (1, cause), (1, k), (1, 0), (4, image.version)])] s u := by
  have hout : ∀ n ∈ slotSectors k, n ∉ (slotSectorsWritten k image s).nor.writable := fun n hn =>
    not_mem_slotSectorsWritten hn image s
  obtain ⟨_, _, _, writable, _, _, hform⟩ := (slotSectorsWritten_only k image s).form
  rw [hform] at hout
  obtain rfl | rfl := hk
  · cases fault
    · unfold slotStaged
      rw [hform]
      exact ⟨rfl, hout, rfl, rfl, rfl, rfl, fun _ => rfl, fun _ h => absurd h (by simp)⟩
    · unfold slotStaged
      rw [hform]
      refine ⟨rfl, hout, rfl, rfl, rfl, rfl, fun h => absurd h (by simp), fun cause h => ?_⟩
      cases h
      exact ⟨rfl, rfl⟩
  · cases fault
    · unfold slotStaged
      rw [hform]
      exact ⟨rfl, hout, rfl, rfl, rfl, rfl, fun _ => rfl, fun _ h => absurd h (by simp)⟩
    · unfold slotStaged
      rw [hform]
      refine ⟨rfl, hout, rfl, rfl, rfl, rfl, fun h => absurd h (by simp), fun cause h => ?_⟩
      cases h
      exact ⟨rfl, rfl⟩

/-! ## FW_ACTIVATE (R398, R402) -/

theorem exec_fwActivate {k : Nat} (hw : waitsFor s m 0x00A1 = true) (hs : servedHere m s) (hk : k = reqField s m 8 1) :
    (slotImage s k = none → exec (.fwActivate m) s = .next (respond m stAuthFailed [] (authFail 1 0 k 0 s))) ∧
    ∀ image, slotImage s k = some image →
      (∀ cause, stagedFault s image = some cause →
        exec (.fwActivate m) s = .next (respond m stAuthFailed [] (authFail 1 cause k image.version s))) ∧
      (stagedFault s image = none →
        exec (.fwActivate m) s = .next (accept m 0x00A1 (imageLive s) k 0 true (beginActivate k image) s)) := by
  subst hk
  refine ⟨fun hnone => ?_, fun image himage => ⟨fun cause hf => ?_, fun hf => ?_⟩⟩
  all_goals
    refine congrArg Host.Outcome.next ((bootServe_asked hw hs _).trans ?_)
    dsimp only
  · rw [hnone]
  · rw [himage]
    dsimp only
    rw [hf]
  · rw [himage]
    dsimp only
    rw [hf]

/-- A handle whose entry is posted is not completed again (R130). -/
theorem completeHandle_posted {v : BitVec 32} (h : completing s v = true) (status : BitVec 16) (r : BitVec 128) :
    completeHandle v status r s = s := by
  unfold completeHandle
  split
  · rfl
  · exact if_pos h

/-- Every live handle of the opcode has its entry posted. -/
def allPosted (op : BitVec 16) (s : State) : Prop := ∀ x ∈ s.hnd.live, x.opcode = op → completing s x.value = true

theorem completeOp_posted {op : BitVec 16} (h : allPosted op s) (status : BitVec 16) : completeOp op status s = s := by
  refine foldl_id_of_forall fun x hx => completeHandle_posted ?_ _ _
  obtain ⟨hmem, hop⟩ := List.mem_filter.mp hx
  exact h x hmem (beq_iff_eq.mp hop)

theorem allPosted_of_liveOp {op : BitVec 16} (h : liveOp s op = none) : allPosted op s := fun x hx hop => by
  have hlive := List.find?_eq_none.mp h x hx
  simpa [hop] using hlive

theorem allPosted_of_opLive {op : BitVec 16} (h : opLive s op = false) : allPosted op s := fun x hx hop => by
  have hlive := List.any_eq_false.mp h x hx
  exact absurd (beq_iff_eq.mpr hop) hlive

/-- A stop with nothing to answer only ends the work under way. -/
theorem beginStop_alone (hpower : allPosted 0x0021 s) (htest : allPosted 0x0090 s) (hpatch : allPosted 0x00A2 s)
    (c : CloveStop) : beginStop c s = workEnded { s with life := { s.life with stop := some c } } := by
  have hstop : stopAnswered c s = { s with life := { s.life with stop := some c } } := by
    unfold stopAnswered
    rw [completeOp_posted (s := { s with life := { s.life with stop := some c } }) hpower,
      completeOp_posted (s := { s with life := { s.life with stop := some c } }) htest,
      completeOp_posted (s := { s with life := { s.life with stop := some c } }) hpatch]
  rw [← hstop]
  unfold beginStop workEnded stopAnswered
  rfl

theorem workEnded_running {x : UnitTest} (hx : x ∈ (workEnded s).st.running) (hh : x.handle ≠ none) : x.readmit = true := by
  obtain ⟨y, -, rfl⟩ := List.mem_map.mp hx
  split at hh
  next => exact absurd rfl hh
  next hy =>
    rw [if_neg hy]
    simpa using hy

/-- The slot is recorded as active, before the warm recovery begins. -/
def slotRecorded (k : Nat) (a : State) : State :=
  storeConfig (fun c => { c with activeSlot := k }) { a with nv := { a.nv with nextSlot := none } }

theorem activate_eq (k : Nat) (v : BitVec 32) (s : State) :
    activate k (some v) none s = beginStop (activationStop k (some v) none s) (slotRecorded k s) := by
  unfold activate slotRecorded
  rfl

theorem activate_spec (hpower : allPosted 0x0021 s) (htest : allPosted 0x0090 s) (hpatch : allPosted 0x00A2 s) (k : Nat)
    (v : BitVec 32) : let u := activate k (some v) none s
    (config u).activeSlot = k ∧ (config u).generation = (config s).generation + 1 ∧
    (∀ x ∈ u.st.running, x.handle ≠ none → x.readmit = true) ∧ (∀ c ∈ u.med.channels, c.state ≠ .loading) ∧
    u = { s with
      life := { s.life with stop := some ⟨true, 0xFF, s.clk.us, s.sec.version, k, some v, none⟩ }
      nv := { s.nv with nextSlot := none }, hup := { s.hup with run := none }
      nor := { s.nor with
        config0 := u.nor.config0, config1 := u.nor.config1, flags := u.nor.flags, xo := true }
      st := { s.st with running := u.st.running, waiting := s.st.waiting.filter (·.readmit) }
      med := { s.med with load := none, toLoad := [], channels := u.med.channels } } := by
  have hframe : slotRecorded k s = _ := storeConfig_frame _ _
  have hstored : config (slotRecorded k s) = _ := config_storeConfig _ _
  have hposted {op : BitVec 16} (h : allPosted op s) : allPosted op (slotRecorded k s) := by
    rw [hframe]
    exact h
  have hbegins : activate k (some v) none s = workEnded { slotRecorded k s with
      life := { (slotRecorded k s).life with stop := some (activationStop k (some v) none s) } } := by
    rw [activate_eq, beginStop_alone (hposted hpower) (hposted htest) (hposted hpatch)]
  rw [hbegins]
  refine ⟨?_, ?_, fun x hx => workEnded_running hx, fun c hc => not_loading_of_released hc, ?_⟩
  · exact congrArg ConfigStore.activeSlot hstored
  · exact congrArg ConfigStore.generation hstored
  · obtain ⟨config0, config1, flags, hform⟩ : ∃ config0 config1 flags, slotRecorded k s = { s with
        nv := { s.nv with nextSlot := none }
        nor := { s.nor with config0 := config0, config1 := config1, flags := flags } } := ⟨_, _, _, hframe⟩
    rw [hform]
    unfold workEnded activationStop
    rfl

/-- A handle of another opcode leaves what is posted as it is. -/
theorem allPosted_issued {op : BitVec 16} {h : Handle} {v : BitVec 32} {a : State} (hp : allPosted op s)
    (hi : Issued v h s.hnd a.hnd) (ha : a = { s with hnd := a.hnd, free := s.free + 1 }) (hop : h.opcode ≠ op) :
    allPosted op a := fun x hx hx' => by
  have hsame : completing a x.value = completing s x.value := by rw [ha]; rfl
  rw [hi.table] at hx
  obtain hx | hx := List.mem_append.mp hx
  · exact hsame.trans (hp x hx hx')
  · rw [List.mem_singleton.mp hx] at hx'
    exact absurd hx' hop

theorem activateRecord_held {image : FwImage} (hp : image.provision = 1) (hi : s.nor.otp.integrator = true)
    (v : BitVec 32) : activateRecord image v s = completeHandle v stWrongState (ringData [(4, s.sec.version)]) s := by
  unfold activateRecord provision
  dsimp only
  rw [if_pos hp, if_pos hi]

theorem activateRecord_burnt {image : FwImage} (hp : image.provision = 1) (hi : s.nor.otp.integrator = false)
    (v : BitVec 32) : activateRecord image v s = completeHandle v stOk (ringData [(4, s.sec.version)]) { s with
      nor := { s.nor with
        otp := { s.nor.otp with integrator := true, integratorHash := keyHash image.integratorKey } } } := by
  unfold activateRecord provision
  dsimp only
  rw [if_pos hp, if_neg (Bool.eq_false_iff.mp hi)]

theorem activateRecord_revoked {image : FwImage} (hp : image.provision = 2) (v : BitVec 32) :
    activateRecord image v s = completeHandle v stOk (ringData [(4, s.sec.version)]) { s with
      nor := { s.nor with otp := { s.nor.otp with revoked := true } } } := by
  unfold activateRecord provision
  dsimp only
  rw [if_neg (by rw [hp]; decide), if_pos hp]

theorem beginActivate_record {image : FwImage} (h : image.type = 2) (k : Nat) (v : BitVec 32) (s : State) :
    beginActivate k image v s = activateRecord image v s := if_pos h

theorem beginActivate_image {image : FwImage} (h : image.type ≠ 2) (k : Nat) (v : BitVec 32) (s : State) :
    beginActivate k image v s = if s.life.phase = .recovery then
      start .resetN (storeConfig (fun c => { c with activeSlot := k }) s) else activate k (some v) none s := if_neg h

/-! ## The obligation -/

/-- Settles O58: what a staging begins and ends with, and what an activation carries out. -/
theorem firmwareImages : Obligations.FirmwareImages := by
  unfold Obligations.FirmwareImages
  intro s m here asked k answers told auth
  have hfailed (cause version : Nat) : told [auth 1 cause k version] s (authFail 1 cause k version s) := ⟨⟨rfl, rfl⟩, rfl⟩
  refine ⟨?_, fun image written => ?_, ?_⟩
  · rintro ⟨hw, hs, hb⟩ i v
    refine ⟨fun hk => ?_, fun hk hslots hlive => ?_, fun _ hk hslots hlive => ?_⟩
    · exact ⟨_, (exec_fwStage hw hs rfl).trans (congrArg _ (if_pos hk)), respond_refused m m.isLt _ s hb⟩
    · refine ⟨_, (exec_fwStage hw hs rfl).trans (congrArg _ (if_neg hk)), ?_⟩
      rw [hlive, accept_conflict _ _ _ _ _ hslots]
      exact respond_refused m m.isLt _ s hb
    · obtain ⟨h, u, haccepted, w, rfl, hw'⟩ := accept_accepted m m.isLt 0x00A0 k v false (beginStage k) s hslots hb
        fun _ _ => ⟨rfl, rfl⟩
      have hexec := (exec_fwStage hw hs rfl).trans (congrArg _ (if_neg hk))
      rw [hlive] at hexec
      exact ⟨_, h, _, hexec, haccepted, congrArg (beginStage k h) hw'⟩
  · intro works i
    refine ⟨exec_fwStageDone_idle, ?_⟩
    intro slot h hstaging hl hworks ends off version wrong refused lowest
    have hexec := exec_fwStageDone hstaging hl hworks image written
    have hopen (hr : ¬refused) : bootRefused s slot image = false :=
      Bool.eq_false_iff.mpr fun hc => hr (bootRefused_iff.mp hc)
    refine ⟨fun hp hr hlt => ?_, fun hslot hp hr hlt hbank hf => ?_, fun hslot hwrong => ?_, fun hslot hright cause hf => ?_,
      fun hslot hright hf hlen => ?_, fun hslot hlen => ?_⟩
    · exact (hexec.trans (congrArg _ (if_pos ⟨hlt, hopen hr⟩))).trans (congrArg _ (stageGoesOn_past hp slot written s))
    · refine ⟨_, (hexec.trans (congrArg _ (if_pos ⟨hlt, hopen hr⟩))).trans
        (congrArg _ (stageGoesOn_first hslot hp hbank hf written)), ?_⟩
      exact stagingBegun_spec hslot hf written
    · have hr : bootRefused s slot image = true := bootRefused_iff.mpr ⟨hslot, .inl hwrong⟩
      rw [hr, if_neg (by simp), if_pos hslot, stageBoot_refused hwrong] at hexec
      exact hexec
    · have hr : bootRefused s slot image = true := bootRefused_iff.mpr ⟨hslot, .inr (by rw [hf]; simp)⟩
      rw [hr, if_neg (by simp), if_pos hslot, stageBoot_unverified (s := stagingOff s) hright hf] at hexec
      exact ⟨_, ⟨⟨rfl, rfl⟩, rfl⟩, hexec⟩
    · rw [if_neg (fun hc => absurd hc.1 (Nat.not_lt.mpr hlen)), if_pos hslot,
        stageBoot_written (s := stagingOff s) hright hf] at hexec
      exact ⟨_, hexec, writeBoot_spec image (stagingOff s)⟩
    · have hthree : slot ≠ 3 := by omega
      rw [if_neg (fun hc => absurd hc.1 (Nat.not_lt.mpr hlen)), if_neg hthree, stageSlot_eq] at hexec
      obtain ⟨himage, hout, hother, hvalid, hframe, hok, hevr, hlog⟩ :=
        slotStaged_spec hslot image (stagingOff s) (stagedFault (stagingOff s) image)
      refine ⟨_, himage, fun n hlow hhigh => hout n (mem_slotSectors hslot hlow hhigh), hother, hvalid, hframe,
        fun ht hf => ?_, fun ht => ?_, fun cause ht hf => ?_⟩
      · have hfault : stagedFault (stagingOff s) image = none := (stagedFault_image ht).trans hf
        rw [hfault] at hexec hok hevr ⊢
        exact ⟨hexec, hok, hevr rfl⟩
      · have hfault : stagedFault (stagingOff s) image = some 0 := stagedFault_type ht
        rw [hfault] at hexec hok hlog ⊢
        exact ⟨hexec, hok, hlog 0 rfl⟩
      · have hfault : stagedFault (stagingOff s) image = some cause := (stagedFault_image ht).trans hf
        rw [hfault] at hexec hok hlog ⊢
        exact ⟨hexec, hok, hlog cause rfl⟩
  · rintro ⟨hw, hs, hb⟩ i
    obtain ⟨hnone, hsome⟩ := exec_fwActivate (k := k) hw hs rfl
    refine ⟨fun himage => ⟨_, hfailed 0 0, _, hnone himage, respond_refused m m.isLt _ _ hb⟩, fun image himage => ?_⟩
    obtain ⟨hfault, hgood⟩ := hsome image himage
    refine ⟨fun ht => ?_, fun cause ht hf => ?_, fun ht hf hslots => ⟨fun hlive => ?_, fun hlive => ?_⟩⟩
    · exact ⟨_, hfailed 0 image.version, _, hfault 0 (stagedFault_type ht), respond_refused m m.isLt _ _ hb⟩
    · exact ⟨_, hfailed cause image.version, _, hfault cause ((stagedFault_image ht).trans hf),
        respond_refused m m.isLt _ _ hb⟩
    · refine ⟨_, hgood ((stagedFault_image ht).trans hf), ?_⟩
      rw [hlive, accept_conflict _ _ _ _ _ hslots]
      exact respond_refused m m.isLt _ s hb
    · obtain ⟨h, a, haccept, hissued, ha⟩ := accept_some m 0x00A1 k 0 true (beginActivate k image) s hslots
      have hexec := hgood ((stagedFault_image ht).trans hf)
      rw [hlive, haccept] at hexec
      have hposted {op : BitVec 16} (hp : allPosted op s) (hne : (0x00A1 : BitVec 16) ≠ op) : allPosted op a :=
        allPosted_issued hp hissued ha hne
      have hpatch : opLive s 0x00A2 = false := (Bool.or_eq_false_iff.mp hlive).2
      refine ⟨h, a, hissued, ha, ?_⟩
      obtain ⟨hnd, rfl⟩ : ∃ hnd, a = { s with hnd := hnd, free := s.free + 1 } := ⟨_, ha⟩
      intro accepts burnt
      refine ⟨fun h2 hp hi => ?_, fun h2 hp hi => ?_, fun h2 hp => ?_, fun h2 hrec => ?_, fun h2 hserve hhold htest => ?_⟩
      · rw [beginActivate_record h2, activateRecord_held hp (by exact hi)] at hexec
        exact hexec
      · rw [beginActivate_record h2, activateRecord_burnt hp (by exact hi)] at hexec
        exact hexec
      · rw [beginActivate_record h2, activateRecord_revoked hp] at hexec
        exact hexec
      · rw [beginActivate_image h2, if_pos (by exact hrec)] at hexec
        exact hexec
      · have hrunning : ¬s.life.phase = .recovery := by simp [hserve]
        rw [beginActivate_image h2, if_neg (by exact hrunning)] at hexec
        obtain ⟨hslot, hgen, hrun, hload, hframe⟩ := activate_spec (hposted (allPosted_of_liveOp hhold) (by decide))
          (hposted (allPosted_of_liveOp htest) (by decide)) (hposted (allPosted_of_opLive hpatch) (by decide)) k h
        exact ⟨_, hexec, hslot, hgen, hrun, hload, hframe⟩

end Sys2Proof.Proofs
end
